-- ==== Sys2Proof/Word.lean ====
section
/-! DEFINITION. The word types of the register bus and of memory. -/

namespace Sys2Proof

/-- A register of BAR0 is 32 bits wide (R36). -/
abbrev Word := BitVec 32

/-- One byte of BAR4, of a frame or of flash. -/
abbrev Byte := BitVec 8

/-- The grains in one nanosecond (R2). -/
def grPerNs : Nat := 65536

/-- The grains in one second. -/
def grPerSec : Nat := 65536000000000

end Sys2Proof
end

