-- ==== Sys2Proof/Syntax.lean ====
section
/-! DEFINITION. The commands the block takes: one constructor of `Instr` per row of spec/opcode_table.json. -/

namespace Sys2Proof

/-- The register interfaces, with the SOURCE codes of REG_VIOL_INFO (R41, Table 2-6). -/
inductive Iface where
  | pcie | spi | keeper | jtag
deriving DecidableEq, Repr

/-- Where a command comes from: a host command ring CQ0–CQ3 or the Keeper command queue (R320, R412). -/
inductive CmdSrc where
  | cq (q : Fin 4)
  | keeper
deriving DecidableEq, Repr

/-- A command whose header has passed step 1 of R318, as the arbiter accepts it: its SEQ, its ring index, whether its
parameter block is external (EXT), and the words of that block (R317). -/
structure Cmd where
  src : CmdSrc
  seq : BitVec 16
  index : BitVec 16
  ext : Bool
  words : List Word
deriving DecidableEq, Repr

/-- A command that does its work in pieces; `stop`: it stands at the safe point after so many of them when something ends it (R331). -/
structure PieceCmd where
  cmd : Cmd
  stop : Option Nat
deriving DecidableEq, Repr

/-- What DMA brings of a command's buffer in host memory, and the safe point at which the command stands when something ends it. -/
structure Piece where
  data : List Byte
  stop : Option Nat
deriving DecidableEq, Repr

/-- A time triple (Table 1-6): seconds, nanoseconds, grains. -/
structure Triple where
  sec : Nat
  ns : Nat
  gr : Nat
deriving DecidableEq, Repr

/-- A time-of-day message of Table 3-3. `endUs` is its end after the edge it names, in µs, signed. -/
structure TodMsg where
  /-- false: another sentence, or an RMC with status other than A that the decoder ignores as not listed -/
  listed : Bool
  /-- the checks of Table 3-3 (checksum, syntax, RMC status; header, length, Fletcher checksum) pass -/
  checksOk : Bool
  /-- true: ITU-T G.8271 time event message, whose second is on the PTP scale -/
  ptp : Bool
  year : Nat
  month : Nat
  day : Nat
  hour : Nat
  minute : Nat
  second : Nat
  /-- the second of a G.8271 message -/
  ptpSec : Nat
  endUs : Int
deriving DecidableEq, Repr

/-- An LTC frame of ST 12-1: four BCD bytes and its flags (R83). -/
structure LtcFrame where
  hh : Byte
  mm : Byte
  ss : Byte
  ff : Byte
  drop : Bool
  colour : Bool
  user : Word
deriving DecidableEq, Repr

/-- A 192-frame AES3 block at its closing Z preamble (R84). -/
structure AesBlock where
  /-- frames between the opening and the closing Z preamble -/
  frames : Nat
  /-- preambles more than ±1 % from their place -/
  misplaced : Nat
  crcOk : Bool
  rate : Fin 8
  status : List Byte
deriving DecidableEq, Repr

/-- What the decoder of a VIN slot reports with a line event (R85): the frame number, the place in the field sequence,
the SCH phase in 0.1°, the sync amplitude in mV, and whether this event closes a frame that agrees with the one before. -/
structure VideoInfo where
  frame : Nat
  place : Nat
  sch : BitVec 32
  ampMv : Nat
  frameEnd : Bool
  agrees : Bool
  /-- the line period is more than 100 ppm from the nominal one -/
  periodBad : Bool
deriving DecidableEq, Repr

/-- A timing event of a slot: its time on the measurement timebase, in grains; a PPS pulse width in ns; what a video line
carries. -/
structure TimingEv where
  t : Int
  widthNs : Nat
  video : Option VideoInfo
deriving DecidableEq, Repr

/-- The transports of PTP (Table 10-1). -/
inductive Transport where
  | l2 | ipv4 | ipv6
deriving DecidableEq, Repr

/-- The three message types of unicast negotiation (R274). -/
inductive GrantKind where
  | sync | announce | delayResp
deriving DecidableEq, Repr

/-- An Announce message's fields that the block reads (R262, R264), and its bytes as received. -/
structure AnnounceMsg where
  clockClass : Byte
  bytes : List Byte
deriving DecidableEq, Repr

/-- A TLV of a Signaling message (R274). -/
inductive UcTlv where
  | request (kind : GrantKind) (logInt : Int) (duration : Nat)
  | grant (kind : GrantKind) (logInt : Int) (duration : Nat)
  | cancel (kind : GrantKind)
  | ackCancel (kind : GrantKind)
  | other
deriving DecidableEq, Repr

/-- The body of a PTP message. -/
inductive PtpBody where
  | sync (origin : Triple) (correction : Int) (twoStep : Bool)
  | followUp (origin : Triple) (correction : Int)
  | delayReq
  | delayResp (t4 : Triple) (correction : Int) (requester : BitVec 80)
  | pdelayReq
  | pdelayResp (t2 : Triple) (correction : Int) (twoStep : Bool) (requester : BitVec 80)
  | pdelayRespFollowUp (t3 : Triple) (correction : Int) (requester : BitVec 80)
  | announce (a : AnnounceMsg)
  | signaling (tlvs : List UcTlv)
  | management
  | other
deriving DecidableEq, Repr

/-- A received PTP message after header parsing. The Booleans are the malformations R263 lists. -/
structure PtpMsg where
  versionOk : Bool
  lengthOk : Bool
  typeOk : Bool
  timestampsOk : Bool
  unicastFlagOk : Bool
  tlvsOk : Bool
  domain : Nat
  transport : Transport
  seqId : BitVec 16
  /-- sourcePortIdentity, 10 bytes as one number -/
  sender : BitVec 80
  body : PtpBody
deriving DecidableEq, Repr

/-- A TLV of an ESMC PDU: its type, its length field, which counts the three octets before the value too, and its value. -/
structure EsmcTlv where
  kind : Byte
  len : BitVec 16
  value : List Byte
deriving DecidableEq, Repr

/-- A slow-protocol frame as R248 reads it: EtherType, subtype, ITU-OUI, ITU subtype, version, TLVs. -/
structure EsmcPdu where
  etherType : BitVec 16
  subtype : Byte
  oui : BitVec 24
  ituSubtype : BitVec 16
  version : BitVec 4
  tlvs : List EsmcTlv
deriving DecidableEq, Repr

/-- What a received frame carries (Table 9-3, rows 5 to 9). -/
inductive FrameBody where
  | esmc (p : EsmcPdu)
  | arp (target : Word)
  | neighborSol (target : BitVec 128)
  | ptp (m : PtpMsg)
  | other
deriving DecidableEq, Repr

/-- The source a Breakwater bucket is chosen by (R281). -/
inductive FrameSrc where
  | mac
  | ip4 (a : Word)
  | ip6 (a : BitVec 128)
deriving DecidableEq, Repr

/-- A received frame: what Table 9-3 classifies it by, the instant and bit position at which the PCS saw its start (R243), and
its bytes. -/
structure Frame where
  fcsOk : Bool
  /-- length including FCS -/
  len : Nat
  dst : BitVec 48
  src : BitVec 48
  /-- a multicast address of the Pilot service or of ESMC -/
  svcMulticast : Bool
  /-- 802.1Q tags, outermost first: (PCP, VID) -/
  tags : List (BitVec 3 × BitVec 12)
  from_ : FrameSrc
  body : FrameBody
  tPcs : Int
  kBits : Nat
  bytes : List Byte
  /-- where the PCS starts the event message that answers it, if one does -/
  answer : Int × Nat
deriving DecidableEq, Repr

/-- A frame on a Tideline link (Table 11-2), after 8B/10B decoding. `arrival` is the boundary's arrival on the
measurement timebase, in grains. -/
structure TideFrame where
  version : BitVec 2
  dir : Bool
  masterLost : Bool
  strapped : Bool
  rngMark : Bool
  todHold : Bool
  hops : BitVec 8
  mPrio : BitVec 8
  mId : BitVec 9
  senderLink : BitVec 3
  senderId : BitVec 9
  path : List (BitVec 9)
  label : Triple
  masterChState : BitVec 3
  masterTsState : BitVec 2
  phaseAcc : Int
  ffo : Int
  chStates : List (BitVec 3)
  detail : BitVec 88
  rngNum : BitVec 16
  rngVal : Int
  fault : BitVec 64
  msgType : BitVec 8
  msgSeq : BitVec 16
  msg : List Byte
  arrival : Int
deriving DecidableEq, Repr

/-- Why an expected tide frame counts as missing (R285). -/
inductive MissCause where
  | absent | crc | dir
deriving DecidableEq, Repr

/-- What an SPI host had sent in full when its transaction ended early (R310). -/
inductive SpiPart where
  | regRead (addr : BitVec 24) (words : Nat)
  | regWrite (addr : BitVec 24) (words : List Word)
  | memRead (addr : BitVec 24) (bytes : Nat)
  | memWrite (addr : BitVec 24) (bytes : List Byte)
  | doorbell (addr : BitVec 24) (word : Option Word)
  | nothing
deriving DecidableEq, Repr

/-- How a DMA read ended: data, or an error response (R314 code 3, R318 step 2). -/
inductive Fetch (α : Type) where
  | data (a : α)
  | error
deriving DecidableEq, Repr

/-- What a write of an interface brings. `word`: 32 bits for BAR0; `hw` names what hardware updates in the register in the SYS cycle
of the write (R47, R51): any 1 in an /H or /S field, the number of increments in a CT counter. `wide`: 64 bits for BAR0 over PCIe
(R36). `bytes`: bytes for BAR4 over PCIe (R38). -/
inductive BusData where
  | word (v hw : Word)
  | wide (v : BitVec 64)
  | bytes (bs : List Byte)
deriving DecidableEq, Repr

/-- What a read of an interface asks for: 32 bits of BAR0; over PCIe also 64 bits of BAR0, a word of BAR2, or `n` bytes of BAR4. -/
inductive BusSpace where
  | word
  | wide
  | bar2
  | bar4 (n : Nat)
deriving DecidableEq, Repr

/-- An SPI transaction that reads: registers from an address on, or one whose opcode Table 12-2 does not list (R309). -/
inductive SpiRead where
  | regs (addr : BitVec 24)
  | unknown (opcode : Byte)
deriving DecidableEq, Repr

/-- A write of KEEPER_WDT_KICK; `late`: it falls in the AON_CLK cycle of an expiry (R23). -/
structure KickWrite where
  v : Word
  late : Bool
deriving DecidableEq, Repr

/-- The start of a frame that port `port` sends, as its PCS sees it: at `tPcs` on the timebase, at bit position `pos` (R243). -/
structure TxStart where
  port : Fin 8
  tPcs : Int
  pos : Nat
deriving DecidableEq, Repr

/-- One 1 ms window timed on the Beacon (R336 to R338). -/
structure XoWindow where
  ampMv : Nat
  activityFail : Bool
  xoHz : Nat
  bcnKhz : Nat
deriving DecidableEq, Repr

/-- One reading of the sensors of R413: `none` while a sensor cannot sample. -/
structure SensorReadings where
  temps : List (Option Int)
  rails : List (Option Nat)
  xoAmp : Option Nat
deriving DecidableEq, Repr

/-- The clock domains with a multiplexer (R345), coded as in the FORCED_SWITCH entry. -/
inductive Domain where
  | aon | sys | fast
deriving DecidableEq, Repr

/-- A register of the PCIe configuration space (R308, R420), with what a write brings: the IDs, Bus Master Enable, BAR 0, 2 or 4,
MSI-X Enable and Function Mask, the capabilities, or the Maximum Payload and Read Request Sizes (0, 1, 2: 128, 256, 512 B). -/
inductive CfgReg where
  | id
  | command (busMaster : Bool)
  | bar (k : Fin 3) (v : BitVec 64)
  | msixControl (enable mask : Bool)
  | deviceCaps
  | deviceControl (mps mrrs : Fin 3)
deriving DecidableEq, Repr

/-- How a committed host frame ended (R254, R326): its start octet left the PCS at `tPcs` on the timebase, at bit position `k`
(R243), `data` being the frame as DMA read it from host memory; or the port left UP. -/
inductive TxEnd where
  | sent (tPcs : Int) (k : Nat) (data : List Byte)
  | leftUp
deriving DecidableEq, Repr

/-- An occurrence that reaches the Watch (R389). -/
structure Occ where
  src : Fin 192
  obj : BitVec 8
  forced : Bool
  raised : Bool
deriving DecidableEq, Repr

/-- The commands of the block. -/
inductive Instr where
  | watchdogKick (i : Iface) (w : KickWrite)
  | watchdogExpiry
  | apRelease (i : Iface)
  | apRestart (i : Iface)
  | guardArm (i : Iface) (off : BitVec 22) (v : Word)
  | guardWindowEnd (i : Iface)
  | registerWrite (i : Iface) (off : BitVec 22) (w : BusData) (be : BitVec 8)
  | regViolAck (i : Iface)
  | topRunWrite (i : Iface) (v : Word)
  | doorbellWrite (off : BitVec 12) (wide : Bool) (v : BitVec 64)
  | glitchFiltered (slot : Fin 32)
  | timingEvent (slot : Fin 64) (ev : TimingEv)
  | todMessage (slot : Fin 32) (m : TodMsg)
  | ltcFrame (slot : Fin 32) (f : LtcFrame)
  | aesBlock (slot : Fin 32) (b : AesBlock)
  | videoFormatChange (vin : Fin 4) (fmt : BitVec 8)
  | hsPush (i : Iface) (k : Fin 3)
  | buoyLoss (slot : Fin 64)
  | freqGateEnd (slot : Fin 64)
  | tieSample (slot : Fin 64)
  | mtiePeriodEnd (slot : Fin 64)
  | matrixCycleEnd
  | qualTimerExpiry (slot : Fin 64)
  | forceArm (i : Iface) (ch : Fin 16) (slot : Fin 64)
  | forceDisarm (i : Iface) (ch : Fin 16)
  | forceArmExpiry (ch : Fin 16)
  | chanUpdate (ch : Fin 16)
  | pullinWindowEnd (ch : Fin 16)
  | lockTimeExpiry (ch : Fin 16)
  | historySnapshot
  | historySample (ch : Fin 16)
  | holdoverSecond (ch : Fin 16)
  | hoPredictionSecond (ch : Fin 16)
  | tempSample (ch : Fin 16)
  | lanternBandFound (l : Fin 8) (band : BitVec 8)
  | lanternCalTimeout (l : Fin 8)
  | lanternLock (l : Fin 8) (skewPs : BitVec 16)
  | lanternAcqTimeout (l : Fin 8)
  | lanternUnlock (l : Fin 8) (ampLow : Bool)
  | lanternRecal (l : Fin 8)
  | outputStart (m : Fin 48)
  | outputStop (m : Fin 48)
  | outputForcedStop (m : Fin 48)
  | phaseAdjustStep (m : Fin 48)
  | ppsEdge (n : Fin 4)
  | tsCaptureArm (i : Iface) (n : Fin 4) (v : Word)
  | leapNoticeStart (n : Fin 4)
  | voutStart (k : Fin 8)
  | voutStop (k : Fin 8)
  | voutClockLoss (k : Fin 8)
  | voutRealign (k : Fin 8)
  | portLinkUp (p : Fin 8)
  | portCalDone (p : Fin 8) (tx rx : Word)
  | portCalTimeout (p : Fin 8)
  | portLinkLoss (p : Fin 8) (cdr pcs fec hiBer : Bool)
  | portRecalibrate (p : Fin 8) (tx rx : Word)
  | frameReceived (p : Fin 8) (f : Frame)
  | esmcTimeout (p : Fin 8)
  | esmcInfoTx (p : Fin 8)
  | esmcEventTx (p : Fin 8)
  | packetTxDone (p : Fin 8) (e : TxEnd)
  | txtsPop (i : Iface)
  | announceTimeout (k : Fin 16)
  | announcePost (k : Fin 16)
  | clientGrantRenew (k : Fin 16) (g : GrantKind × BitVec 128)
  | clientGrantRetry (k : Fin 16) (g : GrantKind × BitVec 128)
  | grantExpiry (index : BitVec 21) (kind : GrantKind)
  | delayReqTx (k : Fin 16) (tPcs : Int) (pos : Nat)
  | subintervalEnd (k : Fin 16)
  | rerouteHoldExpiry (k : Fin 16)
  | multicastSyncTx (t : TxStart)
  | multicastAnnounceTx (p : Fin 8)
  | calendarSlot
  | clientTableDma (write : Bool) (index : BitVec 21) (ok : Bool)
  | settleEnd (p : Fin 8)
  | tideFrameTx
  | tideFrameRx (l : Fin 5) (f : TideFrame)
  | frameMissing (l : Fin 5) (c : MissCause)
  | cascadeEventDelivery
  | tlCalDone (l : Fin 5)
  | rangingExchange (l : Fin 5) (num : BitVec 16)
  | tlTrainTimeout (l : Fin 5)
  | masterClaim
  | takeoverExpiry
  | masterYield
  | labelErrTimeout
  | spiRegRead (r : SpiRead) (count : BitVec 8)
  | spiRegWrite (addr : BitVec 24) (words : List Word)
  | spiMemRead (addr : BitVec 24) (count : BitVec 8)
  | spiMemWrite (addr : BitVec 24) (bytes : List Byte)
  | spiDoorbell (addr : BitVec 24) (v : Word)
  | spiTimeout (part : SpiPart)
  | spiCsRelease (part : SpiPart)
  | descriptorFetch (r : Fin 26) (res : Fetch (List (List Word)))
  | extBlockFetch (src : CmdSrc) (res : Fetch (List Word))
  | extBlockTimeout (src : CmdSrc)
  | commandTimeout (src : CmdSrc)
  | ringEnable (i : Iface) (r : Fin 26)
  | ringDisable (i : Iface) (r : Fin 26)
  | itrExpiry (r : Fin 26)
  | hostifCtrlReset (i : Iface)
  | pcieReset (flr : Bool)
  | recoveryRecord
  | pcieConfigRequest (write : Bool) (r : CfgReg)
  | nop (c : Cmd)
  | queryState (c : Cmd)
  | refConfig (c : Cmd)
  | refQualParams (c : Cmd)
  | refForceState (c : Cmd)
  | chanConfig (c : Cmd)
  | chanSelect (c : Cmd)
  | chanMode (c : Cmd)
  | chanHoldoverModel (c : Cmd)
  | outConfig (c : Cmd)
  | outEnable (c : Cmd)
  | lanternConfig (c : Cmd)
  | voutConfig (c : Cmd)
  | tsSet (c : Cmd)
  | tsStepSchedule (c : Cmd)
  | tsLeapSchedule (c : Cmd)
  | portConfig (c : Cmd)
  | ptpInstanceConfig (c : Cmd)
  | clientTableAttach (c : Cmd)
  | clientUpdate (c : PieceCmd)
  | packetSend (c : Cmd)
  | tlConfig (c : Cmd)
  | tlElect (c : Cmd)
  | nvWrite (c : Cmd)
  | nvRead (c : Cmd)
  | nvCommit (c : Cmd)
  | nvRawPage (c : Cmd) (data : Piece)
  | nvTallyAdd (c : Cmd)
  | fwChunk (c : Cmd) (data : Piece)
  | fwActivate (c : Cmd)
  | pwrOpp (c : Cmd)
  | anchorEnter (c : Cmd)
  | faultConfig (c : Cmd)
  | supplyFail (all : Bool)
  | resetNAssert
  | beaconLoss
  | holdRelease (master : Bool) (id : BitVec 9) (vbakOk : Bool)
  | otpReadDone (ok : Bool)
  | chartScanDone (ok : Bool)
  | imageCheckDone (slotB : Bool)
  | xoWindowEnd (w : XoWindow)
  | xoAbsentTimeout
  | xoFail (cause : Fin 3)
  | cpllLock
  | clkSrcSelWrite (i : Iface) (v : Word)
  | clockSwitchDone (d : Domain)
  | forcedSwitch (d : Domain)
  | clkmonCfgWrite (i : Iface) (v : Word)
  | avsAck
  | avsSettleExpiry
  | avsTimeout
  | thermalSample
  | throttleDrop
  | throttleRise
  | sensorSample (r : SensorReadings)
  | pwrfailTrigger (monitor : Bool)
  | commitDone
  | pfResumeExpiry
  | pfResumed
  | anchorSnapshot (beaconPeriodPs : Nat)
  | anchorAutoEntry
  | anchorTempLog (tj : BitVec 16)
  | anchorXoStop
  | anchorWake (crcOk : Bool)
  | timeRestore (ch : Fin 16) (xoCycles bcnTicks : Nat)
  | anchorRelease (i : Iface)
  | commitTimerExpiry
  | nvWaitTimeout
  | reclaimStart
  | eraseDone (ok : Bool)
  | eraseTokenGain
  | scrub (line : BitVec 15) (corrected margin : Bool)
  | chartRawErase (i : Iface) (v : Word)
  | faultOccurrence (extra : List Occ)
  | deviceReset
  | blockReadyReturn (block : Fin 17)
  | leakExpiry (src : Fin 192)
  | alarmPulseEnd
  | blankingEnd (src : Fin 192)
  | safeClear (i : Iface)
  | faultForce (i : Iface) (v : Word)
  | faultRaise (i : Iface) (v : Word)
  | keeperCqDb (i : Iface) (v : Word)
  | keeperEvqCi (i : Iface) (v : Word)
  | keeperAnqCi (i : Iface) (v : Word)
  | keeperFlqCi (i : Iface) (v : Word)
  | keeperLogbook (i : Iface) (v : Word)
  | enroll (i : Iface) (slot : BitVec 2)
  | revoke (i : Iface) (slot : BitVec 2)
  | lockUp (i : Iface)
  | otpProgramDone
  | debugChallengeRead
  | debugUnlock (key sig : List Byte)
  | trialTimeout
  | registerRead (i : Iface) (r : BusSpace) (off : BitVec 22) (be : BitVec 8)
  | bpllLock
  | cpllUnlock
  | pcieLinkUp
  | codeGroupSyncLoss (l : Fin 5)
  | clientGrantExpiry (k : Fin 16) (g : GrantKind × BitVec 128)
  | vbakLoss
deriving DecidableEq, Repr

end Sys2Proof
end

