-- ==== Sys2Proof/Config.lean ====
section
/-! DEFINITION. What the spec leaves open: constants with no body, so that nothing can be proved of their values. -/

namespace Sys2Proof.Config

/-- R38: what byte `addr` of BAR4 reads before software has written it, in power-up generation `gen`. Log entry 2. -/
opaque bar4Fill (gen addr : Nat) : Byte

/-- R140: by how many units in the last place a computed coefficient (0 KP, 1 KI, 2 K3C) lies from its exact value, for these
parameters; the order of the binary32 roundings is not stated. Taken within ±32. Log entry 3. -/
opaque coefUlps (which bwNum bwDen damp t3r tuNum tuDen : Nat) : Int

/-- R422, R423: the SHA-384 of a list of bytes (FIPS 180-4, outside this spec). Log entry 4. -/
opaque sha384 (bytes : List Byte) : List Byte

/-- R422, R423, R426: whether `sig` is an ECDSA P-384 signature of `hash` under `key` (FIPS 186-5, outside this spec).
Log entry 4. -/
opaque ecdsaOk (key sig hash : List Byte) : Bool

/-- R423: whether the Pilot section of an image body verifies under key slot 0; the spec gives the section no layout.
Log entry 4. -/
opaque pilotSectionOk (body : List Byte) : Bool

/-- R424: the SHA-384 of Ranvia's key, held by OTP slot 0 from manufacture; the spec gives no value. Log entry 4. -/
opaque ranviaKeyHash : List Byte

/-- Table 16-2: a word of the OTP read window; the spec gives no layout. `rev` counts the OTP actions done. Log entry 9. -/
opaque otpWord (rev addr : Nat) : Word

/-- R426: the `n`-th 32-byte debug challenge, "new at each read". Log entry 5. -/
opaque challenge (n : Nat) : List Byte

/-- R366, R386: a byte of flash that a power failure left undefined (an interrupted erase or program). Log entry 6. -/
opaque tornByte (gen addr : Nat) : Byte

/-- A value that the spec leaves open, drawn afresh: the `n`-th draw. Log entry 7. -/
opaque freeInt (n : Nat) : Int

/-- Ranvia's PCIe vendor ID (R308 names it, gives no number). Log entry 8. -/
opaque vendorId : BitVec 16

/-- R234: the CRC of byte 23 of an AES3 channel status (AES3, outside this spec), for the sampling rate, the grade and the sample
address that the block carries. Log entry 158. -/
opaque aesCrc (fs grade address : Nat) : Byte

/-- R265: the portNumber in the portIdentity of client instance k; the spec gives the clockIdentity alone. Log entry 162. -/
opaque clientPortNumber (k : Nat) : BitVec 16

/-- R363: the KIND of the wake event, which Table 12-10 does not list, and its DATA, which gives E in ms, U in µs and the steps
discarded in a layout that the spec does not state. Log entry 131. -/
opaque wakeKind : BitVec 8
opaque wakeData (eMs uUs : Nat) (steps : BitVec 4) : List Byte

end Sys2Proof.Config
end

