-- ==== Sys2Proof/Machine/Bits.lean ====
section
/-! DEFINITION. Bit fields, saturation, rounding and little-endian bytes, as the spec's number rules fix them (R2, R3, R7). -/

namespace Sys2Proof.Machine

/-- The unsigned field of `width` bits whose bit 0 is bit `lo` of `w` (R3). -/
def fld (w : Word) (lo width : Nat) : Nat := w.toNat / 2 ^ lo % 2 ^ width

/-- Bit `lo` of `w`. -/
def bit (w : Word) (lo : Nat) : Bool := fld w lo 1 == 1

/-- The value of `n` read as a two's complement number of `width` bits. -/
def signed (width n : Nat) : Int := if n < 2 ^ (width - 1) then (n : Int) else (n : Int) - (2 ^ width : Nat)

/-- The signed field of `width` bits at bit `lo`. -/
def sfld (w : Word) (lo width : Nat) : Int := signed width (fld w lo width)

/-- `w` with its field of `width` bits at `lo` replaced by `v` modulo 2^width. -/
def setFld (w : Word) (lo width v : Nat) : Word :=
  BitVec.ofNat 32 (w.toNat - fld w lo width * 2 ^ lo + v % 2 ^ width * 2 ^ lo)

/-- `b` as bit `lo`. -/
def bitAt (lo : Nat) (b : Bool) : Nat := if b then 2 ^ lo else 0

/-- A word from a number. -/
def word (n : Nat) : Word := BitVec.ofNat 32 n

/-- A number of `width` bits in two's complement. -/
def twos (width : Nat) (v : Int) : Nat := (v % (2 ^ width : Nat)).toNat

/-- Saturation to [lo, hi] (R7). -/
def clampI (lo hi v : Int) : Int := if v < lo then lo else if hi < v then hi else v

/-- Saturation of a counter at its field maximum (Table 2-4, CT). -/
def satN (width n : Nat) : Nat := if n < 2 ^ width then n else 2 ^ width - 1

/-- The phase and FFO words saturate to 40 bits (Table 1-6, R7, R30). -/
def sat40 (v : Int) : Int := clampI (-549755813888) 549755813887 v

/-- Saturation to 32 bits signed. -/
def sat32 (v : Int) : Int := clampI (-2147483648) 2147483647 v

/-- `n / d` rounded to the nearest integer, ties away from zero (R133, R137, R146). -/
def roundDiv (n d : Int) : Int :=
  if 0 ≤ n then (2 * n + d) / (2 * d) else -((2 * (-n) + d) / (2 * d))

/-- `n / d` truncated toward zero (R7). -/
def truncDiv (n d : Int) : Int := Int.tdiv n d

/-- The sign of a number as -1, 0 or 1. -/
def sgn (v : Int) : Int := if v < 0 then -1 else if v = 0 then 0 else 1

/-- `n / d` rounded up. -/
def ceilDiv (n d : Nat) : Nat := (n + d - 1) / d

/-- `len` bytes of `n`, least significant first (R3). -/
def leBytes : (len n : Nat) → List Byte
  | 0, _ => []
  | k + 1, n => BitVec.ofNat 8 n :: leBytes k (n / 256)

/-- The number that bytes spell, least significant first (R3). -/
def leNat : List Byte → Nat
  | [] => 0
  | b :: bs => b.toNat + 256 * leNat bs

/-- `len` bytes of `n`, most significant first (wire order). -/
def beBytes (len n : Nat) : List Byte := (leBytes len n).reverse

/-- The four bytes of a register word (R3). -/
def wordBytes (w : Word) : List Byte := leBytes 4 w.toNat

/-- Words from bytes, four at a time; a short tail is padded with zeros. -/
def bytesWords : List Byte → List Word
  | a :: b :: c :: d :: bs => word (leNat [a, b, c, d]) :: bytesWords bs
  | [] => []
  | bs => [word (leNat bs)]

/-- The `i`-th word of a list, 0 beyond its end. -/
def wordAt (ws : List Word) (i : Nat) : Word := ws.getD i 0

/-- One reflected CRC step over a byte, polynomial `poly`. -/
def crcByte (poly : BitVec 32) : Nat → BitVec 32 → BitVec 32
  | 0, c => c
  | k + 1, c => crcByte poly k (if c.getLsbD 0 then (c >>> 1) ^^^ poly else c >>> 1)

/-- CRC-32C (Castagnoli): polynomial 0x1EDC_6F41 reflected, initial value and final XOR 0xFFFF_FFFF (14, Table 14-3). -/
def crc32c (bs : List Byte) : BitVec 32 :=
  (bs.foldl (fun c b => crcByte 0x82F63B78#32 8 (c ^^^ b.zeroExtend 32)) 0xFFFFFFFF#32) ^^^ 0xFFFFFFFF#32

/-- CRC-32 of IEEE 802.3: polynomial 0x04C1_1DB7 reflected, initial value and final XOR 0xFFFF_FFFF; its bytes leave least
significant first, the bit order of the Ethernet FCS (R286). -/
def crc32 (bs : List Byte) : BitVec 32 :=
  (bs.foldl (fun c b => crcByte 0xEDB88320#32 8 (c ^^^ b.zeroExtend 32)) 0xFFFFFFFF#32) ^^^ 0xFFFFFFFF#32

/-- The value of a binary32 word as mantissa and exponent: value = m × 2^e (R140); infinities and NaNs do not arise. -/
def binary32 (w : Word) : Int × Int :=
  let e := fld w 23 8
  let f := fld w 0 23
  let m : Int := if e = 0 then f else f + 8388608
  (if bit w 31 then -m else m, if e = 0 then -149 else (e : Int) - 150)

/-- A positive rational as a binary32 word, to the nearest, ties to even; the spec's values lie well within the normal range. -/
def toBinary32 (n m : Nat) : Word :=
  if n = 0 || m = 0 then 0
  else
    let e : Int := (n.log2 : Int) - m.log2 - 23
    let k : Int := if n * 2 ^ (-(e + 23)).toNat < m * 2 ^ (e + 23).toNat then e - 1 else e
    let a := n * 2 ^ (-k).toNat
    let b := m * 2 ^ k.toNat
    let q := a / b
    let r := 2 * (a % b)
    let f := if b < r || (r = b && q % 2 = 1) then q + 1 else q
    if k + 150 ≤ 0 then 0 else word ((k + 149).toNat * 8388608 + f)

/-- The integer square root, bit by bit from bit `i` − 1 down. -/
def isqrtFrom (n : Nat) : (i : Nat) → (acc : Nat) → Nat
  | 0, acc => acc
  | i + 1, acc => let t := acc + 2 ^ i; isqrtFrom n i (if t * t ≤ n then t else acc)

/-- The integer square root of a number below 2^320. -/
def isqrt (n : Nat) : Nat := isqrtFrom n 160 0

/-- `m × 2^e`, rounded toward minus infinity. -/
def shiftI (m e : Int) : Int := if 0 ≤ e then m * 2 ^ e.toNat else m / 2 ^ (-e).toNat

/-- The grains of a time triple (R30). -/
def tripleGr (t : Triple) : Int := ((t.sec * 1000000000 + t.ns) * 65536 + t.gr : Nat)

/-- The time triple of a count of grains (Table 1-6); a negative count reads as zero. -/
def grTriple (g : Int) : Triple :=
  let n := g.toNat
  { sec := n / grPerSec % 2 ^ 48, ns := n / 65536 % 1000000000, gr := n % 65536 }

/-- A triple is valid when its nanoseconds are below 10^9 (R29). -/
def tripleOk (t : Triple) : Bool := t.ns < 1000000000

/-- The 12 bytes of a triple in memory: 6 B seconds, 4 B nanoseconds, 2 B grains (Table 12-9). -/
def tripleBytes (t : Triple) : List Byte := leBytes 6 t.sec ++ leBytes 4 t.ns ++ leBytes 2 t.gr

end Sys2Proof.Machine
end

