-- ==== Sys2Proof/Machine/RegTable.lean ====
section
/-! DEFINITION. The register map of BAR0 as data: every register header of the chapters with its reset word, its set-up
note, its writable fields and their single-field ranges (Tables 2-2 to 2-4). Fields of type RO, LV and PO are not listed:
they take no write. Ranges that join several fields are in RegCheck.lean. -/

namespace Sys2Proof.Machine

/-- How a writable field takes a write (Table 2-4). `zero`: "Must be written 0". -/
inductive Acc where
  | rw | zero | ct | tr | lk | kr
deriving DecidableEq, Repr

/-- Who wins where a write and a hardware update of the same field meet in one cycle (R47): the suffixes /H and /S. -/
inductive Mark where
  | none | hw | sw
deriving DecidableEq, Repr

/-- A writable field: bits [lo + width − 1 : lo], with its range and its mark; `sg` reads it as two's complement. -/
structure RegField where
  lo : Nat
  width : Nat
  acc : Acc
  min : Int
  max : Int
  sg : Bool
  mark : Mark
deriving DecidableEq, Repr

/-- What a register is to REGCHK: plain, the _LO or _HI of a writable 40-bit value (R62), a GD register or its complement
(R55). -/
inductive RegKind where
  | plain | lo40 | hi40 | guard | complement
deriving DecidableEq, Repr

/-- A register of a block: offset within its region, reset word, "set-up" note, kind, and its writable fields. -/
structure RegDesc where
  off : Nat
  reset : Nat
  setup : Bool
  kind : RegKind
  fields : List RegField
deriving DecidableEq, Repr

namespace RegField
/-- An RW field that takes any value. -/
def u (lo width : Nat) : RegField := ⟨lo, width, .rw, 0, 2 ^ width - 1, false, .none⟩
/-- An RW field with a range. -/
def r (lo width : Nat) (min max : Int) : RegField := ⟨lo, width, .rw, min, max, false, .none⟩
/-- A signed RW field with a range. -/
def s (lo width : Nat) (min max : Int) : RegField := ⟨lo, width, .rw, min, max, true, .none⟩
/-- "Must be written 0". -/
def z (lo width : Nat) : RegField := ⟨lo, width, .zero, 0, 0, false, .none⟩
/-- A CT/H counter. -/
def c (lo width : Nat) : RegField := ⟨lo, width, .ct, 0, 2 ^ width - 1, false, .hw⟩
/-- A TR field. -/
def t (lo width : Nat) : RegField := ⟨lo, width, .tr, 0, 2 ^ width - 1, false, .none⟩
/-- An LK field. -/
def l (lo width : Nat) (min : Int) : RegField := ⟨lo, width, .lk, min, 2 ^ width - 1, false, .none⟩
/-- A KR field. -/
def k (lo width : Nat) : RegField := ⟨lo, width, .kr, 0, 2 ^ width - 1, false, .none⟩
/-- A field marked /H. -/
def h (f : RegField) : RegField := { f with mark := .hw }
/-- A field marked /S. -/
def sw (f : RegField) : RegField := { f with mark := .sw }
end RegField

open RegField

/-- A read-only register. -/
def ro (off : Nat) (reset : Nat := 0) : RegDesc := ⟨off, reset, false, .plain, []⟩
/-- A set-up register. -/
def su (off reset : Nat) (fs : List RegField) : RegDesc := ⟨off, reset, true, .plain, fs⟩
/-- A register with no "set-up" note. -/
def rt (off reset : Nat) (fs : List RegField) : RegDesc := ⟨off, reset, false, .plain, fs⟩
/-- Two 16-bit CT counters in one register. -/
def ct2 (off : Nat) : RegDesc := rt off 0 [c 16 16, c 0 16]
/-- A GD register and its complement. -/
def gd (off : Nat) (fs : List RegField) : List RegDesc := [⟨off, 0, false, .guard, fs⟩, ⟨off + 4, 0, false, .complement, [u 0 32]⟩]
/-- A writable 40-bit pair. -/
def rw40 (off reset : Nat) (setup : Bool) (f : RegField := u 0 8) : List RegDesc :=
  [⟨off, reset, setup, .lo40, [u 0 32]⟩, ⟨off + 4, 0, setup, .hi40, [z 8 24, f]⟩]
/-- `n` read-only words from `off`. -/
def ros (off n : Nat) : List RegDesc := (List.range n).map fun i => ro (off + 4 * i)
/-- `n` registers of one form, 4 bytes apart from `off`. -/
def many (n off step : Nat) (f : Nat → RegDesc) : List RegDesc := (List.range n).map fun i => f (off + step * i)

/-- TOP (chapter 2). -/
def topRegs : List RegDesc := [ro 0x0 0x7512B000, ro 0x4, rt 0x8 0 [z 1 31, l 0 1 1], ro 0xC]
/-- CLK (chapter 13). -/
def clkRegs : List RegDesc :=
  [su 0x0 0x05F5E100 [z 28 4, u 0 28]] ++ gd 0x10 [z 2 30, h (u 1 1), h (u 0 1)] ++
  [ro 0x18, ro 0x1C, ro 0x20, ro 0x24, ct2 0x28, rt 0x30 0 [u 31 1, z 29 2, u 24 5, z 16 8, u 0 16]]
/-- PWR (chapter 13). -/
def pwrRegs : List RegDesc :=
  [su 0x0 0xC0 [z 2 2, u 0 2], su 0x4 0x00010064 [s 28 4 (-5) 5, z 24 4, u 20 4, z 18 2, r 16 2 0 2, r 0 16 10 10000],
   su 0x8 0x000A000F [r 16 16 1 1000, z 8 8, u 0 8], ro 0xC, rt 0x10 0 [c 16 16, c 8 8, c 0 8], ro 0x14, ro 0x18,
   su 0x20 0x900003E8 [u 31 1, u 30 1, u 29 1, u 28 1, z 24 4, r 0 24 1 16777215],
   su 0x24 0x07D007D0 [r 16 16 1 65535, r 0 16 1 65535], rt 0x28 0 [t 0 1], ro 0x30, ro 0x34, ro 0x38]
/-- FLT (chapter 15). -/
def fltRegs : List RegDesc :=
  [su 0x0 0x009C400A [z 27 5, r 10 17 1 100000, r 0 10 1 1000], rt 0x4 0 [z 1 29, u 0 1], ro 0x8, ct2 0xC] ++
  gd 0x10 [z 1 31, u 0 1] ++ gd 0x18 [z 9 23, u 8 1, r 0 8 0 191] ++ [rt 0x20 0 [t 8 1, r 0 8 176 191], ro 0x24] ++
  ros 0x40 6 ++ ros 0x60 6
/-- The registers of one Watch source (chapter 15); the reserved sources reset with EN = 0. -/
def fltSrcRegs : List RegDesc :=
  [su 0x0 0x83C06000 [u 31 1, u 22 9, u 13 9, z 8 5, u 0 8], su 0x4 0x0400EA60 [r 24 8 1 255, u 0 24], su 0x8 0 [u 0 32],
   su 0xC 0 [u 16 16, u 0 16], ro 0x10, rt 0x14 0 [c 0 32], ct2 0x18, ro 0x1C]
/-- CHART (chapter 14). -/
def chartRegs : List RegDesc :=
  [su 0x0 0x3C [z 16 16, r 0 16 10 3600], ro 0x4, ro 0x8 0x00400000, ro 0xC, ro 0x10, ct2 0x20, ct2 0x24, ct2 0x28] ++
  gd 0x30 [z 6 26, r 0 6 54 55] ++ ros 0x100 64
/-- REGCHK (chapter 2). -/
def regchkRegs : List RegDesc := [ro 0x0, ro 0x4, ro 0x8, rt 0xC 0 [t 0 1], rt 0x10 0 [c 0 32], rt 0x14 0 [c 0 32]]
/-- One Buoy (chapters 3 and 4). The host-fed registers 0x100–0x114 stand in `buoyHsRegs`. -/
def buoyRegs : List RegDesc :=
  [su 0x0 0x02004005 [u 28 4, u 25 3, u 24 1, u 22 2, u 20 2, r 18 2 0 1, u 17 1, r 14 3 0 5, z 10 4, u 0 10]] ++
  rw40 0x4 0 true ++
  [su 0xC 1 [u 16 16, r 0 16 1 65535], su 0x10 0 [z 27 5, u 0 27],
   su 0x14 0x800003E8 [u 31 1, z 28 3, u 24 4, z 20 4, r 0 20 1 1000000], su 0x18 0 [r 20 12 1 4095, r 0 20 1 1000000],
   su 0x1C 0x1807B105 [z 30 2, u 25 5, z 20 5, u 15 5, u 10 5, u 5 5, u 0 5], ro 0x20, ct2 0x24, ct2 0x28] ++
  ros 0x30 6 ++ ros 0x50 5 ++ ros 0x70 5 ++
  [su 0x180 0 [r 20 12 0 3600, r 0 20 0 360000], su 0x184 0x04B003E8 [u 16 16, r 0 16 1 65534],
   su 0x188 0x00C80096 [u 16 16, r 0 16 1 65534]] ++
  many 4 0x190 4 (fun o => su o 0 [z 16 16, u 0 16]) ++ [ro 0x1A0, ct2 0x1A4]
/-- The host-fed registers of slots 61–63. -/
def buoyHsRegs : List RegDesc :=
  buoyRegs ++ rw40 0x100 0 false ++ rw40 0x108 0 false ++ [rt 0x110 0 [z 26 6, u 24 2, r 0 24 0 10000000], rt 0x114 0 [t 0 1]]
/-- XCMP control (chapter 3). -/
def xcmpRegs : List RegDesc := [su 0x0 0x00030300 [z 19 13, u 16 3, r 8 8 1 255, u 0 8], ro 0x4] ++ ros 0x100 64
/-- One matrix entry. -/
def xcmpEntryRegs : List RegDesc := ros 0x0 4
/-- The least BW of class `k` in 0.1 mHz (Table 5-3). -/
def classBwMin (k : Nat) : Int := [1, 10, 5000, 1, 100000, 100].getD k 0
/-- The greatest BW of class `k` in 0.1 mHz (Table 5-3). -/
def classBwMax (k : Nat) : Int := [100000, 1000000, 1000000, 1000, 40000000, 100].getD k 0

/-- One tide channel (chapters 4 to 6); class ranges of BW are those of Table 5-3. -/
def chanRegs : List RegDesc :=
  [su 0x0 0x040001F4 [u 31 1, r 22 9 8 256, z 17 5, r 0 17 1 100000], su 0x4 0x06400000 [r 20 12 1 1953, z 17 3, u 16 1, z 0 16]] ++
  rw40 0x8 0 true ++ rw40 0x10 0 false (h (u 0 8)) ++ [ro 0x20 0x00010000] ++ ros 0x30 8 ++ ros 0x60 3 ++ [ct2 0x70, ct2 0x74] ++
  (List.range 6).flatMap (fun k => [su (0x100 + 0x10 * k) 0 [z 26 6, r 0 26 (classBwMin k) (classBwMax k)],
    su (0x104 + 0x10 * k) 0 [r 24 8 8 160, z 20 4, r 0 20 1 1000000], su (0x108 + 0x10 * k) 0 [r 16 16 1 65535, r 0 16 1 65535]]) ++
  [su 0x200 0x4 [u 31 1, z 12 19, r 10 2 0 2, r 8 2 0 2, r 6 2 0 2, r 4 2 0 2, r 2 2 0 2, r 0 2 0 2], ro 0x204] ++ ros 0x208 6 ++
  [ct2 0x220, ct2 0x224, su 0x400 0x011F8400 [r 21 11 1 2047, u 19 2, u 15 4, r 0 15 16 32767],
   su 0x404 0x2710 [z 23 9, r 0 23 1 8388607], su 0x408 0x00640064 [u 16 16, u 0 16], su 0x40C 0 [u 0 32],
   rt 0x410 0 [z 16 16, s 0 16 (-4096) 9600], ro 0x420, ro 0x424, ro 0x428] ++ ros 0x430 8 ++ [ct2 0x450] ++
  many 33 0x500 4 (fun o => su o 0 [u 0 32]) ++ [ro 0xC00, ct2 0xC04, su 0xC08 0 [z 1 31, u 0 1]] ++
  gd 0xC10 [z 8 24, h (u 7 1), z 6 1, u 0 6] ++ many 8 0xC40 4 (fun o => su o 0 [u 0 32])
/-- One Lantern (chapter 7). -/
def lanRegs : List RegDesc :=
  [su 0x0 0x04C80000 [u 28 4, u 27 1, r 24 3 0 4, u 23 1, u 22 1, r 19 3 0 4, z 11 8, u 0 11], su 0x4 0 [z 24 8, u 0 24],
   su 0x8 1 [z 24 8, r 0 24 1 16777215], ro 0x10, rt 0x14 0 [c 16 16, c 8 8, c 0 8], ro 0x18]
/-- One output (chapter 7); FNUM and FDEN exist on OUT0–OUT15. -/
def outRegs : List RegDesc :=
  [su 0x0 0 [sw (u 31 1), u 28 3, u 25 3, u 24 1, u 22 2, r 20 2 0 2, u 19 1, z 0 19], su 0x4 9 [z 20 12, u 0 20], su 0x8 0 [z 20 12, u 0 20],
   su 0x14 0 [u 8 24, z 7 1, r 0 7 0 100], ro 0x20, ct2 0x24]
/-- OUT0–OUT15. -/
def outFracRegs : List RegDesc := outRegs ++ [su 0xC 0 [z 24 8, u 0 24], su 0x10 1 [z 24 8, r 0 24 1 16777215]]
/-- One time scale (chapter 8). -/
def tsRegs : List RegDesc :=
  [su 0x0 0x05000000 [u 28 4, u 27 1, u 26 1, h (u 25 1), u 24 1, z 22 2, u 16 6, z 0 16],
   su 0x4 0x000C0025 [u 31 1, z 21 10, z 10 6, r 16 5 0 24, h (u 0 10)], su 0x8 0 [z 18 14, s 0 18 (-86400) 86400], ro 0x10,
   rt 0x20 0 [t 8 1, r 6 2 0 2, u 0 6]] ++ ros 0x30 5 ++ ros 0x50 5 ++ [ro 0x68, ro 0x6C, ct2 0x70, ct2 0x74]
/-- The signal registers of one output (chapter 8). -/
def tsOutRegs : List RegDesc :=
  [su 0x0 0x048186A0 [r 29 3 0 3, u 28 1, r 25 3 0 6, r 22 3 1 5, u 21 1, u 20 1, z 19 1, r 0 19 1 500000], ro 0x4]
/-- One video output (chapter 8). -/
def voutRegs : List RegDesc :=
  [su 0x0 0xC000 [u 31 1, u 28 3, u 26 2, z 24 2, u 16 8, u 15 1, u 14 1, z 0 14], su 0x4 9 [z 20 12, u 0 20],
   su 0x8 0 [z 24 8, u 0 24], su 0xC 1 [z 24 8, r 0 24 1 16777215], su 0x10 0 [u 20 12, z 12 8, u 0 12], su 0x14 0 [z 23 9, u 0 23],
   su 0x18 0 [s 16 16 (-1800) 1799, s 0 16 (-50) 50], ro 0x20, ct2 0x24]
/-- One port (chapter 9). -/
def portRegs : List RegDesc :=
  [su 0x0 0x40080000 [u 31 1, r 29 2 0 2, u 28 1, u 27 1, u 25 2, u 24 1, u 20 4, u 19 1, u 18 1, u 17 1, z 0 17],
   su 0x4 0 [u 0 32], su 0x8 0 [z 16 16, z 8 1, u 9 7, u 0 8], su 0xC 0x80000000 [u 31 1, u 30 1, z 12 18, u 0 12]] ++
  many 4 0x10 4 (fun o => su o 0 [u 0 32]) ++ many 16 0x20 4 (fun o => su o 0 [u 0 32]) ++
  [su 0x60 0 [z 8 24, u 4 4, u 0 4], su 0x70 0 [u 0 32], su 0x74 0 [u 0 32], ro 0x80, ro 0x84, ro 0x88,
   rt 0x90 0xF [u 31 1, u 30 1, z 24 6, u 16 8, z 4 12, u 0 4], rt 0x94 0 [z 16 16, u 8 8, u 0 8], ro 0x98] ++ many 4 0xA0 4 ct2
/-- TXTS (chapter 9). -/
def txtsRegs : List RegDesc := ros 0x0 5 ++ [ro 0x20, ct2 0x24, ro 0x28]
/-- The Pilots (chapter 10). -/
def pilotRegs : List RegDesc :=
  [ro 0x0, ro 0x4, ro 0x8 0x03333333, su 0x10 0x5A [z 7 25, r 0 7 10 100], ct2 0x14] ++
  [su 0x40 0x8000F8FE [u 31 1, z 16 15, u 8 8, u 0 8], su 0x44 0xF8FE [u 31 1, z 16 15, u 8 8, u 0 8],
   su 0x48 0x0621 [u 31 1, z 16 15, u 8 8, u 0 8], su 0x4C 0x0721 [u 31 1, z 16 15, u 8 8, u 0 8],
   su 0x50 0x8000F8FE [u 31 1, z 16 15, u 8 8, u 0 8]]
/-- One port server (chapter 10). -/
def psrvRegs : List RegDesc :=
  [su 0x0 0x00800040 [u 31 1, u 30 1, u 29 1, r 26 3 0 5, r 24 2 0 2, u 23 1, u 22 1, u 14 8, u 10 4, u 6 4, z 0 6],
   su 0x4 0xC4B00000 [s 28 4 (-4) 4, r 18 10 10 1000, z 0 18], su 0x8 0x00100000 [z 21 11, r 0 21 0 1048576],
   su 0xC 0x01000200 [r 16 16 1 65535, r 0 16 1 65535], su 0x10 0x08008000 [r 26 6 0 60, z 21 5, r 0 21 1 1048576],
   su 0x14 0 [u 0 32], su 0x20 0xF8FE8080 [u 24 8, u 16 8, u 8 8, u 0 8], su 0x24 0xFFFFA000 [u 16 16, u 8 8, z 2 6, u 1 1, u 0 1],
   ro 0x40, ct2 0x50, ct2 0x54, ct2 0x58, rt 0x5C 0 [c 16 16]]
/-- One client instance (chapter 10). -/
def prRegs : List RegDesc :=
  [su 0x0 0x00801980 [u 31 1, u 28 3, r 25 3 0 5, r 23 2 0 2, u 22 1, u 21 1, u 13 8, s 9 4 (-7) 4, s 5 4 (-7) 4, z 0 5],
   su 0x4 0x18A00000 [u 31 1, r 27 4 0 9, r 20 7 1 100, z 0 20], su 0x8 0 [u 0 32],
   su 0xC 0xC0F0C801 [u 31 1, u 30 1, r 18 12 1 3600, r 11 7 1 100, r 0 11 1 2000], ro 0x20] ++ ros 0x30 6 ++
  [ct2 0x50, rt 0x54 0 [c 16 16]]
/-- The Tideline block (chapter 11). -/
def tideRegs : List RegDesc :=
  [su 0x0 0xFF1F8064 [r 24 8 1 255, u 22 2, u 21 1, u 20 1, u 15 5, r 0 15 0 10000], su 0x4 0x1F440000 [r 20 12 0 1000, r 16 4 0 8, z 0 16],
   ro 0x8, ro 0x10, ro 0x14, ro 0x18, ct2 0x20, ct2 0x24]
/-- One link (chapter 11). -/
def linkRegs : List RegDesc := [su 0x0 0 [u 0 32], ro 0x10] ++ ros 0x18 4 ++ [ct2 0x30, ct2 0x34, ct2 0x38]
/-- HOSTIF (chapter 12). -/
def hostifRegs : List RegDesc :=
  [rt 0x0 0 [t 0 1], rt 0x4 0 [z 2 30, u 0 2], rt 0x8 0 [c 0 16], ro 0x10, rt 0x14 0 [z 26 6, u 0 26], ct2 0x18] ++ ros 0x100 32
/-- One ring (chapter 12). -/
def ringRegs : List RegDesc :=
  [rt 0x0 0 [u 6 26, z 0 6], rt 0x4 0 [u 0 32], rt 0x8 0x00040000 [h (u 31 1), u 30 1, z 20 10, r 16 4 4 15, z 14 2, r 8 6 0 63, u 0 8], ro 0xC, ct2 0x10]
/-- KEEPER (chapters 1 and 16). -/
def keeperRegs : List RegDesc :=
  [rt 0x100 0 [t 0 16], rt 0x104 0 [c 16 16]] ++ gd 0x108 [z 2 30, u 1 1, u 0 1] ++
  [rt 0x110 0 [c 16 8], su 0x114 0x3C [z 12 20, r 0 12 10 3600], ro 0x118, ct2 0x11C] ++
  gd 0x120 [z 6 26, u 4 2, z 2 2, r 0 2 1 3] ++ many 12 0x140 4 (fun o => rt o 0 [u 0 32]) ++
  ros 0x200 8 ++ ros 0x240 12 ++ [ro 0x280, rt 0x290 0 [z 11 21, u 0 11], ro 0x294]

/-- The TEST block holds KR fields only (Table 2-2, R54); no chapter names them: each of its words is one (log entry 62). -/
def testRegs : List RegDesc := [rt 0x0 0 [k 0 32]]

/-- A run of equal register groups: `count` groups of `stride` bytes from `base`. -/
structure Region where
  base : Nat
  stride : Nat
  count : Nat
  regs : List RegDesc
deriving DecidableEq, Repr

/-- The regions of BAR0 outside the Keeper-private range (Table 2-2, Table 1-8 and the chapters' headers). -/
def regions : List Region :=
  [⟨0x000000, 0x10000, 1, topRegs⟩, ⟨0x010000, 0x10000, 1, clkRegs⟩, ⟨0x020000, 0x10000, 1, pwrRegs⟩,
   ⟨0x030000, 0x1000, 1, fltRegs⟩, ⟨0x031000, 0x20, 192, fltSrcRegs⟩, ⟨0x040000, 0x10000, 1, chartRegs⟩,
   ⟨0x050000, 0x10000, 1, regchkRegs⟩, ⟨0x080000, 0x200, 61, buoyRegs⟩, ⟨0x087A00, 0x200, 3, buoyHsRegs⟩,
   ⟨0x090000, 0x1000, 1, xcmpRegs⟩, ⟨0x091000, 0x10, 2016, xcmpEntryRegs⟩, ⟨0x100000, 0x1000, 16, chanRegs⟩,
   ⟨0x140000, 0x100, 8, lanRegs⟩, ⟨0x141000, 0x40, 16, outFracRegs⟩, ⟨0x141400, 0x40, 32, outRegs⟩,
   ⟨0x181000, 0x40, 8, voutRegs⟩, ⟨0x1C0000, 0x100, 4, tsRegs⟩, ⟨0x1C1000, 0x10, 48, tsOutRegs⟩,
   ⟨0x200000, 0x400, 8, portRegs⟩, ⟨0x208000, 0x1000, 1, txtsRegs⟩, ⟨0x210000, 0x1000, 1, pilotRegs⟩,
   ⟨0x211000, 0x100, 8, psrvRegs⟩, ⟨0x212000, 0x100, 16, prRegs⟩, ⟨0x280000, 0x100, 1, tideRegs⟩,
   ⟨0x280100, 0x80, 5, linkRegs⟩, ⟨0x2C0000, 0x1000, 1, hostifRegs⟩, ⟨0x2C1000, 0x40, 26, ringRegs⟩,
   ⟨0x300000, 0x1000, 1, keeperRegs⟩, ⟨0x3F0000, 4, 16384, testRegs⟩]

/-- Bit of TOP_BLOCK_READY of the block whose window holds `off` (Table 2-2); `none` in an unimplemented window. -/
def blockOf (off : Nat) : Option Nat :=
  if off < 0x10000 then some 0 else if off < 0x20000 then some 1 else if off < 0x30000 then some 2
  else if off < 0x40000 then some 3 else if off < 0x50000 then some 4 else if off < 0x60000 then some 5
  else if off < 0x80000 then none else if off < 0x88000 then some 6 else if off < 0x90000 then none
  else if off < 0x100000 then some 7 else if off < 0x110000 then some 8 else if off < 0x140000 then none
  else if off < 0x180000 then some 9 else if off < 0x1C0000 then some 10 else if off < 0x200000 then some 11
  else if off < 0x280000 then some 12 else if off < 0x2C0000 then some 13 else if off < 0x300000 then some 14
  else if off < 0x3F0000 then some 15 else if off < 0x400000 then some 16 else none

/-- The Keeper-private range (R37). -/
def isPrivate (off : Nat) : Bool := 0x308000 ≤ off && off < 0x3F0000

/-- The register at a BAR0 offset, `none` where the block's chapter gives none (R35). -/
def regDesc (off : Nat) : Option RegDesc :=
  match regions.find? fun g => g.base ≤ off && off < g.base + g.stride * g.count with
  | some g => g.regs.find? fun d => d.off == (off - g.base) % g.stride
  | none => none

/-- The reset words of _BW, _LOOP and _LOCK of class `k` (Table 5-3). -/
def classReset (k : Nat) : List Nat :=
  [[0x3E8, 0x100003E8, 0x00641770], [0x7530, 0x500003E8, 0x000A0064], [0x2710, 0x20000064, 0x000A0064],
   [0xA, 0x10000064, 0x03E87530], [0x989680, 0x100186A0, 0x00010001], [0x64, 0x10000064, 0x03E81770]].getD k []

/-- The reset class of a slot (Table 1-7), coded as in CLASS: 0 PPS, 1 TELECOM, 2 BROADCAST, 3 PACKET, 4 CASCADE, 5 SYNTHETIC. -/
def slotClass (n : Nat) : Nat :=
  if n < 32 then 1 else if n < 36 then 2 else if n < 44 then 1 else if n < 60 then 3 else if n = 60 then 4 else 5

/-- The reset words of a Buoy that depend on its slot (Tables 3-1, 3-8 and 4-4). -/
def buoyReset (n o : Nat) : Option Nat :=
  if o = 0x0 then
    some (if n < 32 then 0x02004005 else if n < 36 then 0x84004005 else if n < 44 then 0x92004005 else if n < 60 then 0xA6004005
      else if n = 60 then 0xB8004005 else 0xCA004005)
  else if o = 0x10 then
    some (if n < 32 then 16 else if n < 36 then 1000 else if n < 44 then 16 else if n = 60 then 4000 else 2000000)
  else if o = 0x18 then some ([0x032001F4, 0x00A00032, 0x00A00032, 0x064000C8, 0x0010000A, 0x064001F4].getD (slotClass n) 0)
  else if o = 0x180 then some ([0x03C003E8, 0x12C00064, 0x00A00064, 0x03C003E8, 0x0010000A, 0x00A00064].getD (slotClass n) 0)
  else none

/-- The reserved sources of Table 15-1. -/
def fltReserved (n : Nat) : Bool :=
  (4 ≤ n && n ≤ 7) || (14 ≤ n && n ≤ 23) || (27 ≤ n && n ≤ 31) || (35 ≤ n && n ≤ 47) || (50 ≤ n && n ≤ 63) ||
  (121 ≤ n && n ≤ 127) || (132 ≤ n && n ≤ 135) || (149 ≤ n && n ≤ 159) || (170 ≤ n && n ≤ 175)

/-- Reset words that depend on the instance of a register. -/
def instReset (off : Nat) : Option Nat :=
  if 0x80000 ≤ off && off < 0x88000 then buoyReset ((off - 0x80000) / 0x200) ((off - 0x80000) % 0x200)
  else if 0x100000 ≤ off && off < 0x110000 then
    let o := (off - 0x100000) % 0x1000
    if 0x100 ≤ o && o < 0x160 then (classReset ((o - 0x100) / 0x10))[(o - 0x100) % 0x10 / 4]? else none
  else if 0x31000 ≤ off && off < 0x32800 && (off - 0x31000) % 0x20 = 0 && fltReserved ((off - 0x31000) / 0x20) then some 0x03C06000
  else none

/-- What a BAR0 word reads after reset, before anything has written it. -/
def resetWord (off : Nat) : Word :=
  word (match instReset off with
    | some v => v
    | none => match regDesc off with
      | some d => d.reset
      | none => 0)

end Sys2Proof.Machine
end

