-- ==== Sys2Proof/Machine/Tab.lean ====
section
/-! DEFINITION. Sparse tables by key in one canonical form: keys strictly rising and no entry equal to what an unlisted key
reads as. The register file, flash and the client table are held so. -/

namespace Sys2Proof.Machine

/-- Entries by key. -/
abbrev Tab (α : Type) := List (Nat × α)

namespace Tab

/-- The entry at `k`; `dflt k` where none is listed. -/
def get {α : Type} (dflt : Nat → α) : Tab α → Nat → α
  | [], k => dflt k
  | (j, v) :: m, k => if j = k then v else get dflt m k

/-- `v` at `k`, in rising order. -/
def ins {α : Type} (k : Nat) (v : α) : Tab α → Tab α
  | [] => [(k, v)]
  | (j, w) :: m => if k < j then (k, v) :: (j, w) :: m else if j = k then (k, v) :: m else (j, w) :: ins k v m

/-- No entry at `k`. -/
def del {α : Type} (k : Nat) : Tab α → Tab α
  | [] => []
  | (j, w) :: m => if j = k then del k m else (j, w) :: del k m

/-- The table with `v` at `k`: writing what an unlisted key reads as removes the entry. -/
def put {α : Type} [DecidableEq α] (dflt : Nat → α) (m : Tab α) (k : Nat) (v : α) : Tab α :=
  if v = dflt k then del k m else ins k v m

/-- Keys strictly rising, each above `lo` when given. -/
def rising {α : Type} : Option Nat → Tab α → Bool
  | _, [] => true
  | none, (j, _) :: m => rising (some j) m
  | some l, (j, _) :: m => l < j && rising (some j) m

/-- The canonical form. -/
def wf {α : Type} [DecidableEq α] (dflt : Nat → α) (m : Tab α) : Bool :=
  rising none m && m.all fun e => !decide (e.2 = dflt e.1)

end Tab

end Sys2Proof.Machine
end

