-- ==== Sys2Proof/Machine/State.lean ====
section
/-! DEFINITION. The state of the block: every register, queue, counter, mode and pin that the spec gives it, as plain data. -/

namespace Sys2Proof.Machine

/-- Why a step stops. -/
inductive Fault where
  /-- raised by SPI_MEM_READ and SPI_MEM_WRITE for an address beyond the 256 KiB of BAR4 (Table 2-1): no such memory exists. Safe. -/
  | noSuchMemory (addr : Nat)
deriving DecidableEq, Repr

/-- Why a command has no meaning. -/
inductive Refusal where
  /-- raised by an arm of exec that has no meaning yet. Safe. -/
  | notModelled (mnemonic : String)
deriving DecidableEq, Repr

/-! ### TOP, REGCHK -/

/-- TOP_BOOT_STATUS, TOP_RUN and TOP_BLOCK_READY. -/
structure Top where
  ready : Bool
  run : Bool
  cause : BitVec 3
  slotB : Bool
  stage : Byte
  error : Byte
  blk : BitVec 17
deriving DecidableEq, Repr

/-- What an interface got as the response to its last access: data bytes, the SPI status byte (Table 2-7), whether a PCIe read
ended in Completer Abort (Table 2-6), and whether a configuration request got Retry Status (R420). -/
structure Resp where
  data : List Byte
  status : Byte
  abort : Bool
  retry : Bool
deriving DecidableEq, Repr

/-- An armed guard: the GD register's offset and the value of its first write (R55). -/
structure Guard where
  off : Nat
  val : Word
deriving DecidableEq, Repr

/-- The access port of one interface: its guard, its pending _LO writes by offset (R62), its last response. -/
structure Port4 where
  guard : Option Guard
  pendLo : Tab Word
  resp : Resp
deriving DecidableEq, Repr

/-- REGCHK: one port per interface, and the log limit of R71. -/
structure Chk where
  ports : Vector Port4 4
  logSecond : Nat
  logged : Nat
deriving DecidableEq, Repr

/-! ### HOSTIF -/

/-- A time as entries carry it (R322): the triple, and whether the time scale was UNSET. -/
structure Stamp where
  t : Triple
  unset : Bool
deriving DecidableEq, Repr

/-- What a ring holds beside its registers. `use` is the doorbell index in use, `db` the last accepted doorbell value
(R40), `fetched` the descriptors fetched and not yet accepted with their ring index, `lost` the entries dropped since the last one written (R324), `done` the TX slots with DONE = 1 beyond the last
doorbell index (R328). -/
structure Ring where
  devIdx : Nat
  use : Nat
  db : Word
  phase : Bool
  err : Bool
  errCode : BitVec 3
  seq : Word
  lost : Nat
  fetched : List (Nat × List Word)
  lastFetched : Option (BitVec 16)
  lastRetired : Option (BitVec 16)
  signalled : Option Nat
  itrWait : Bool
  done : List Nat
deriving DecidableEq, Repr

/-- A write of the device to host memory. -/
structure Posted where
  addr : Nat
  bytes : List Byte
deriving DecidableEq, Repr

/-- How a command ends: status, progress, failing field, result (Table 12-6). -/
structure CmdOut where
  status : Nat
  progress : Nat
  field : Nat
  result : Nat
deriving DecidableEq, Repr

/-- A command that has been accepted and is not complete: what it needs to complete later, its progress at the last safe point, and
how it ended where its completion cannot be written yet (R319), and whether it is a raw write, which a power failure stops (R372). -/
structure InProg where
  op : Byte
  seq : BitVec 16
  index : BitVec 16
  progress : Nat
  out : Option CmdOut
  rawWrite : Bool
deriving DecidableEq, Repr

/-- The host interface. `resetCause` is set, with the time of the reset, while a host-interface reset runs (R331); `resets`
counts them since device reset; `ip` is what a reset found in progress on CQ0–CQ3, with its progress and the status it ended
with (Table 12-14); `busy` holds the command in progress
of CQ0–CQ3 and of the Keeper queue, `ext` the external block that has arrived for the next one, and `passed` how often in a row the
arbiter has passed it over (R320). `posted` are the writes to host memory that the device has issued, `stalled` those that wait for
Bus Master Enable (R308). -/
structure HostIf where
  rings : Vector Ring 26
  resetCause : Option (Byte × Stamp)
  resets : Nat
  ip : Vector (Option (InProg × Nat)) 4
  pcieUp : Bool
  busMaster : Bool
  training : Bool
  msixOn : Bool
  msixMask : Bool
  mps : Fin 3
  mrrs : Fin 3
  bars : Vector (BitVec 64) 3
  msix : Tab Word
  pending : BitVec 64
  signals : List (BitVec 6)
  posted : List Posted
  stalled : List Posted
  busy : Vector (Option InProg) 5
  ext : Vector (Option (List Word)) 5
  passed : Vector Nat 5
deriving DecidableEq, Repr

/-! ### Clocks -/

/-- The start-up supervisor (Table 13-1). -/
inductive SupState where
  | hold | boot | run | xoAbsent
deriving DecidableEq, Repr

/-- Clock generation: the supervisor, CLK_READY, CLK_STATUS, the domain switches in progress (target: true = XO or CPLL),
the XO windows gathered toward qualification, and the two counters of time: AON time and the measurement timebase, in µs since device reset. -/
structure Clk where
  sup : SupState
  bstop : Bool
  bcnRestart : Bool
  bcn : Bool
  bpll : Bool
  cpll : Bool
  xo : Bool
  aondiv : Bool
  aonOnXo : Bool
  aonSw : Option Bool
  sysSw : Option Bool
  fastSw : Option Bool
  bcnBad : Bool
  lastXoFail : BitVec 2
  windows : List XoWindow
  everXo : Bool
  freqFinal : Bool
  xoTimer : Bool
  gapFrom : Nat
  aonUs : Nat
  tbUs : Nat
deriving DecidableEq, Repr

/-! ### The Watch -/

/-- One source of the Watch beside its registers: COUNT, SEVERE, the condition of a level source, the end of its leak
period, the end of its blanking and whether the condition rose during it (R391–R404). -/
structure Source where
  count : Nat
  severe : Bool
  cond : Bool
  leakAt : Nat
  blankTo : Option Nat
  rose : Bool
deriving DecidableEq, Repr

/-- An occurrence that waits for the Watch, with its time, whether it is the one of R404, and whether its source was blanked
when it occurred. -/
structure Reached where
  occ : Occ
  stamp : Stamp
  blankEnd : Bool
  blanked : Bool
deriving DecidableEq, Repr

/-- The Watch. `reached` holds the occurrences that have reached it and are not yet counted, in order of arrival. -/
structure Watch where
  srcs : Vector Source 192
  reached : List Reached
  pulseTo : Option Nat
  safe : Bool
  supAlarm : Bool
  last : Byte
  resetBy : Option Byte
  resetPending : Option Byte
deriving DecidableEq, Repr

/-! ### Keeper, firmware, OTP -/

/-- Keeper supervision (Table 1-5). -/
inductive ApState where
  | normal | autopilot | halted
deriving DecidableEq, Repr

/-- Keeper supervision: its state, STALL_RUN, whether the Keeper is out of reset, whether it has restarted the watchdog
since, and the AON time at which the watchdog expires. -/
structure Supervision where
  ap : ApState
  stallRun : BitVec 2
  running : Bool
  kicked : Bool
  wdtAt : Nat
deriving DecidableEq, Repr

/-- A Keeper queue in the private range: next entry to write, consumer index, phase, sequence number. -/
structure KQueue where
  wr : Nat
  ci : Nat
  phase : Bool
  seq : Word
deriving DecidableEq, Repr

/-- The Keeper's queues and logbook port. -/
structure Keeper where
  sup : Supervision
  evq : KQueue
  anq : KQueue
  flq : KQueue
  cqIdx : Nat
  cqDb : Nat
  cqPhase : Bool
  compIdx : Nat
  cqFetched : List (Nat × List Word)
  noImage : Bool
deriving DecidableEq, Repr

/-- The firmware states (Table 16-7). -/
inductive FwState where
  | idle | writing | verified | trial
deriving DecidableEq, Repr

/-- The update engine: Table 16-7, the session of R427 and the code flash. `activate` is the ACTIVATE that waits for the
first watchdog restart. -/
structure Fw where
  state : FwState
  prefB : Bool
  stage : BitVec 4
  confirmAt : Nat
  session : Bool
  erased : List Nat
  programmed : List Nat
  svn : Nat
  activate : Option (CmdSrc × InProg)
  reverted : Bool
  flash : Tab Byte
deriving DecidableEq, Repr

/-- A key slot of the OTP (R424). -/
inductive KeyState where
  | empty | active | revoked
deriving DecidableEq, Repr

/-- What an OTP action programs (R425). -/
inductive OtpOp where
  | enroll (slot : Fin 3) (hash : List Byte)
  | revoke (slot : Fin 3)
  | lockUp
deriving DecidableEq, Repr

/-- The OTP: it survives every reset. `readOut` is whether the boot has read it. -/
structure Otp where
  keys : Vector (KeyState × List Byte) 3
  rollback : Nat
  debugLevel : Nat
  busy : Option OtpOp
  readOut : Bool
  debugOpen : Bool
  challenge : Option Nat
  draws : Nat
deriving DecidableEq, Repr

/-! ### Power -/

/-- Power-fail states (Table 13-6). -/
inductive PfState where
  | normal | shedding | held | resuming
deriving DecidableEq, Repr

/-- What the operating-point sequencer waits for (R350): nothing; the acknowledgement of the voltage of a move up, then its
SETTLE; the acknowledgement of the voltage of a move down; the acknowledgement of a voltage written without a move. -/
inductive AvsStage where
  | rest
  | upAck (pt : BitVec 2)
  | upSettle (pt : BitVec 2)
  | downAck
  | initAck
deriving DecidableEq, Repr

/-- A time scale in the Anchor snapshot (R359): its triple in grains, its state (UNSET, or RUNNING or TOD_HOLD), UTC and LOCAL
words, O in 2^-24 gr, whether a step was pending, and the pending leap. -/
structure SnapTs where
  gr : Int
  wasSet : Bool
  utc : Word
  localOfs : Word
  ofs : Int
  stepPending : Bool
  leap : Option (Bool × Nat)
deriving DecidableEq, Repr

/-- A channel in the Anchor snapshot: b, EVER_LOCKED and the words HO_UNC_CFG, HO_AGE and TC of its holdover model (R359). -/
structure SnapChan where
  b : Int
  everLocked : Bool
  unc : Word
  age : Word
  tc : List Word
deriving DecidableEq, Repr

/-- The Anchor snapshot in retention RAM (R359): with the Beacon period and the words PWR_ANCHOR_ACC and PWR_ANCHOR_CFG. -/
structure Snapshot where
  ts : Vector SnapTs 4
  chans : Vector SnapChan 16
  beaconPs : Nat
  acc : Word
  cfg : Word
deriving DecidableEq, Repr

/-- The power manager. `hot` and `cool` say that the 10 ms and the 1 s interval of R354 run; `millivolt` is the last voltage written over
AVSBus; `snapWait` says that a snapshot is due; `tlogOut` and `restoreFrom` are what a wake found in retention RAM, `restoreTodo` the
channels whose restore is still to come (R363). -/
structure Pwr where
  pf : PfState
  pwrfail : Bool
  vddMon : Bool
  vbakOk : Bool
  cap : BitVec 2
  inForce : BitVec 2
  avs : AvsStage
  avsErr : Bool
  tjMax : Int
  hot : Bool
  cool : Bool
  millivolt : Nat
  snapshot : Option Snapshot
  snapWait : Bool
  anchorCmd : Option (CmdSrc × InProg × Bool)
  oppCmd : Option (CmdSrc × InProg)
  inAnchor : Bool
  restored : Bool
  restoreFrom : Option Snapshot
  xoCounted : Bool
  xoCntLost : Bool
  byPf : Bool
  tlog : List (BitVec 16)
  tlogOut : List (BitVec 16)
  restoreTodo : BitVec 16
deriving DecidableEq, Repr

/-! ### The Chart store -/

/-- A record of the log (Table 14-3): a DELETE record has an empty value. -/
structure Rec where
  key : Nat
  seq : Nat
  del : Bool
  copy : Bool
  shutdown : Bool
  val : List Byte
deriving DecidableEq, Repr

/-- Why a commit runs (Table 14-5). -/
inductive CommitKind where
  | command (src : CmdSrc) (p : InProg)
  | full (src : CmdSrc) (p : InProg) (r : Rec)
  | timer
  | powerFail
  | anchor
deriving DecidableEq, Repr

/-- What asked for an erase. -/
inductive ErasePurpose where
  | schedule | reclaim | raw | tally
deriving DecidableEq, Repr

/-- The Chart store: its flash (unlisted bytes read 0xFF), lines with an uncorrectable or a corrected error, the gather
buffer, the append point (a line number), the failed verifies of sectors, the keys whose record is rewritten at the next commit,
the next line of a raw write that stands at a safe point, and the copies of AON RAM. -/
structure Chart where
  flash : Tab Byte
  bad : List Nat
  corr : List Nat
  buf : List Rec
  nextSeq : Nat
  sectSeq : Nat
  appendAt : Option Nat
  scheduled : List Nat
  wear : Vector Nat 64
  retired : BitVec 64
  refresh : BitVec 64
  fails : Tab Nat
  rewrite : List Nat
  logErases : Nat
  tokens : Nat
  scanning : Bool
  commit : Option CommitKind
  extended : Bool
  erasing : Option (Nat × ErasePurpose)
  timerOn : Bool
  tallyWait : Option (CmdSrc × InProg × Nat × Nat)
  rawNext : Option (Nat × List Byte)
  lastRefuse : BitVec 4
  scanFault : Bool
  runHours16 : Nat
  powerCycles : Nat
  anchorEntries : Nat
deriving DecidableEq, Repr

/-! ### Lanterns and outputs -/

/-- Lantern states (Table 7-2). -/
inductive LanState where
  | off | calibrating | acquiring | locked | unlocked
deriving DecidableEq, Repr

/-- A Lantern: its state, the VCO band of the last calibration, VCO_LOW, the shift of its grid by JUMPs since its last
alignment, in grains (R211), and the last FFO word it received (R193). -/
structure Lan where
  st : LanState
  band : Byte
  vcoLow : Bool
  grid : Int
  y : Int
deriving DecidableEq, Repr

/-- The pin of an output or a video output: stopped, waiting for its first edge, running, or waiting for the edge on which
it stops; `mute`: a mute cause asked for the stop. -/
inductive PinState where
  | stopped
  | starting
  | running
  | stopping (mute : Bool)
deriving DecidableEq, Repr

/-- A clock output: its pin, the stored mute causes of Table 7-5, and the COARSE and FINE it has reached (R205). -/
structure Out where
  pin : PinState
  mLan : Bool
  mWatch : Bool
  mAnchor : Bool
  mRealign : Bool
  coarse : Nat
  fine : Nat
  resume : Option Int
deriving DecidableEq, Repr

/-! ### Tide channels -/

/-- Channel states (Table 5-5). -/
inductive ChState where
  | freeRun | acquiring | locked | holdover | lost
deriving DecidableEq, Repr

/-- CHANn_STATE.MODE. -/
inductive ChMode where
  | auto | freeRun | dco
deriving DecidableEq, Repr

/-- CHANn_SEL_STATUS.SEL_SRC. -/
inductive SelSrc where
  | command | autopilot | forced
deriving DecidableEq, Repr

/-- Switch modes (Table 6-1). -/
inductive SwMode where
  | pass | absorb | jump
deriving DecidableEq, Repr

/-- The numbers of a loop: b, j, p, v_sw and the target of b in 2^-24 FU; phi_sw in 2^-16 gr; the NCO and the time of the
last update in 2^-24 gr of feedback time and of the measurement timebase; y in FU; e in gr (Table 5-1). -/
structure Loop where
  b : Int
  j : Int
  p : Int
  vSw : Int
  target : Int
  phiSw : Int
  nco : Int
  at_ : Int
  y : Int
  e : Int
deriving DecidableEq, Repr

/-- Pairing, pull-in and lock (R136, R151, R153): the index of the virtual edge of the next event, the phases of the events
since the last update, the e_start of the pull-in window, the b at the start of the pull-in, the residuals of the averaging
interval with their SLOPE_LIM, newest first, and LOCK_TIME. -/
structure Track where
  phValid : Bool
  phSat : Bool
  edge : Int
  evs : List Int
  fpull : Bool
  winE : Option Int
  pullB : Int
  resid : List (Int × Bool)
  lockRun : Bool
  lockAt : Nat
  slopeLim : Bool
  frateLim : Bool
  pullLim : Bool
  bwClamp : Bool
deriving DecidableEq, Repr

/-- The switching logic (Table 6-1, R171, R172): `due` from the first pairing until D is taken, `pass` while a PASS removes
phi_sw, D and the µs of the timebase at which it was taken, the SLOPE of the PASS's latest update. -/
structure Switching where
  switching : Bool
  await : Bool
  due : Bool
  pass : Bool
  lastMode : SwMode
  d : Int
  dAt : Nat
  rate : Nat
  jumpUsed : Bool
deriving DecidableEq, Repr

/-- A snapshot of b at a 125 µs boundary of the timebase (R179), and whether FPULL was 0 then. -/
structure BSnap where
  tick : Nat
  b : Int
  track : Bool
deriving DecidableEq, Repr

/-- Freeze, history and prediction (R178 to R188). `stretchFrom`: since when, in µs, the channel tracks phase in the
present stretch; `sum`, `n` gather b over the present second, `sumSec` being the second of the timebase in which they were last
added to while the engine did not run, `whole` while the channel tracked throughout it; `samples`
newest first; `endUs` the end of the newest sample's second. -/
structure Holdover where
  bFrz : Int
  snaps : List BSnap
  stretchFrom : Option Nat
  run : Bool
  whole : Bool
  sum : Int
  n : Nat
  sumSec : Nat
  samples : List (Int × Option Int)
  histS : Nat
  endUs : Nat
  base : Int
  baseUsed : BitVec 2
  tcenUs : Nat
  tempB : Option Int
  temp : Option Int
  tempStale : Bool
  extAt : Option Nat
  tau : Nat
deriving DecidableEq, Repr

/-- Selection (chapter 4): the current slot, its source, ORPHANED, EQUAL_DISAGREE with its partner, the slots that the
equal-rank test names as outliers, each with the other slot of its pair, and the force arming. -/
structure Select where
  cur : Option (Fin 64)
  src : SelSrc
  orphaned : Bool
  partner : Option (Fin 64)
  outliers : List (Fin 64 × Fin 64)
  armed : Option (Fin 64)
  armedAt : Nat
deriving DecidableEq, Repr

/-- A tide channel. `tuWas`: the T_u, as a fraction of grains, for which its coefficients were last computed (R142). -/
structure Chan where
  st : ChState
  mode : ChMode
  everLocked : Bool
  cls : Fin 6
  loop : Loop
  track : Track
  sw : Switching
  ho : Holdover
  sel : Select
  ffoSum : Int
  ffoN : Nat
  tuWas : Nat × Nat
deriving DecidableEq, Repr

/-! ### Buoys -/

/-- Activity states (Table 3-6). -/
inductive ActState where
  | down | returning | up
deriving DecidableEq, Repr

/-- Qualification states (Table 4-1). -/
inductive QState where
  | idle | first | wtr | qualified | failed | held
deriving DecidableEq, Repr

/-- An estimate of a PACKET or SYNTHETIC slot: its phase in gr as given (`raw`) and referred to the measurement timebase
(R77), its FFO in FU, its instant in gr. -/
structure Estimate where
  raw : Int
  phase : Int
  ffo : Int
  at_ : Int
deriving DecidableEq, Repr

/-- The activity detector: its state, RET_CNT, GROSS, the last event, the edges since the last prescaled event, and the
frames gathered in RETURNING by a VIN slot. -/
structure Activity where
  st : ActState
  retCnt : Nat
  gross : Bool
  last : Option Int
  pre : Nat
  frames : Nat
deriving DecidableEq, Repr

/-- The monitors: the validity bits, the compare channel of the latest FFO_CH, the gate in progress (first and last event, the phase at the first, number of intervals, whether the slot was
UP throughout, the FFO sums of the channels at its start), the mean FFO of each channel over the latest gate, the latest y and y_ch, the phase grid (origin and index), the TIE and MTIE gathering, the matrix cycle
(phase and time of the last event before the cycle, and whether the slot was UP throughout). -/
structure Monitor where
  freqValid : Bool
  chValid : Bool
  chOf : Option (Fin 16)
  gateFrom : Option Int
  gateTo : Int
  gatePh : Int
  gateN : Nat
  gateClean : Bool
  gateChans : List (Int × Nat)
  gateFfo : List Int
  y : Int
  yCh : Int
  origin : Int
  idx : Int
  phase : Int
  phaseAt : Int
  tieCh : Option (Fin 16)
  tieZero : Option Int
  tie : List Int
  tieLeft : Bool
  mtie : Option (List Nat)
  cycPhase : Option (Int × Int)
  cycUp : Bool
deriving DecidableEq, Repr

/-- The decoder: DEC_LOCK, RANGE_NOW, FORMAT, TOD_VALID with its run of accepted messages and the last second, the last LTC
frame with its run, the count since UP, the width of the last PPS pulse, whether a time-of-day message has come since the
last edge, and whether the latest LTC frame was rejected. -/
structure Decoder where
  lock : Bool
  rangeNow : Bool
  format : Byte
  todValid : Bool
  todRun : Nat
  todSec : Option Int
  sixty : Bool
  ltc : Option (Nat × Nat × Nat × Nat)
  run : Nat
  count : Nat
  width : Nat
  msg : Bool
  frameBad : Bool
deriving DecidableEq, Repr

/-- Qualification of a slot (Table 4-2): its timer has run since `fromMs` on the timebase; REROUTE and HOST_HOLD. -/
structure Qual where
  st : QState
  ever : Bool
  expired : Bool
  fromMs : Nat
  reroute : Bool
  hostHold : Bool
  minority : Bool
deriving DecidableEq, Repr

/-- A Buoy. `hs` holds the pushes not yet taken (R88), `hsPhase` and `hsFfo` whether the two values were written since the
last push. -/
structure Buoy where
  act : Activity
  mon : Monitor
  dec : Decoder
  qual : Qual
  est : Option Estimate
  hs : List Estimate
  hsPhase : Bool
  hsFfo : Bool
deriving DecidableEq, Repr

/-- A working matrix entry (R101, R102): `trend` holds the phase differences of the last 16 fresh cycles. -/
structure Pair where
  fd : Int
  trend : List Int
  dc : Nat
  dis : Bool
  valid : Bool
  fresh : Bool
deriving DecidableEq, Repr

/-! ### Time scales and video -/

/-- Time-scale states (Table 8-1). -/
inductive TsState where
  | unset | running | todHold
deriving DecidableEq, Repr

/-- A SET or FROM_SOURCE that waits for the next PPS edge (R223). -/
inductive SetPend where
  | triple (gr : Int)
  | source
deriving DecidableEq, Repr

/-- A pending step: its second AT and its delta; whether a cascade message brought it (R224, R300). -/
structure StepPend where
  atSec : Nat
  dsec : Int
  dns : Int
  dgr : Nat
  cascade : Bool
deriving DecidableEq, Repr

/-- A time scale: TS = F + O, O in 2^-24 gr (R215); HI_SEC; what is pending; HOLD_K and CONSIST; the notice of a leap;
whether its first update has come; TS, in gr, at the last timing event of its PPS_TOD source, a label that waits for the next
edge, the latest second the source has named with TS at the edge it names (R229), and the timebase instant and the size, in
2^-24 gr, of the last step: a timestamp of an instant before it is that of the count then (R230, R246). -/
structure TimeScale where
  st : TsState
  started : Bool
  ofs : Int
  hiSec : Option Int
  set : Option SetPend
  step : Option StepPend
  leap : Option (Bool × Nat)
  notice : Bool
  accept : Bool
  utc : Option Word
  localOfs : Option Word
  holdK : Int
  consist : Nat
  armed : Bool
  edge : Option Int
  label : Option Int
  named : Option (Int × Int)
  stepAt : Option Int
  stepBy : Int
deriving DecidableEq, Repr

/-- A video output (R237, R238): its pin, its mute causes, TRANSITION. -/
structure Vout where
  pin : PinState
  mLan : Bool
  mWatch : Bool
  mAnchor : Bool
  transition : Bool
  resume : Option Int
deriving DecidableEq, Repr

/-! ### Ports and TXTS -/

/-- Port states (Table 9-2). -/
inductive PortState where
  | off | down | cal | up
deriving DecidableEq, Repr

/-- Where a sent PTP message goes: a multicast group with its tags, of the MAC given or the transport's own; one node (MAC, IP,
tags); or a candidate's address. -/
inductive Dest where
  | multicast (mac : Option (BitVec 48)) (tags : List (BitVec 3 × BitVec 12))
  | node (mac : BitVec 48) (ip : BitVec 128) (tags : List (BitVec 3 × BitVec 12))
  | addr (a : BitVec 128)
deriving DecidableEq, Repr

/-- What Announce carries beside the identity of its port (R272). -/
structure AnnounceOut where
  clockClass : Byte
  accuracy : Byte
  prio1 : Byte
  prio2 : Byte
  variance : BitVec 16
  timeSrc : Byte
  stepsRemoved : Nat
  utcOffset : Nat
  utcValid : Bool
  leap61 : Bool
  leap59 : Bool
  ptpTimescale : Bool
  timeTraceable : Bool
  freqTraceable : Bool
deriving DecidableEq, Repr

/-- A frame that a port transmits. `v6` of a PTP message: over UDP/IPv6, with the two-octet trailer that keeps the checksum (R261).
A triple of a PTP message gives the seconds and nanoseconds of its timestamp field, and its grains, units of 2^-16 ns, go into the
correctionField. -/
inductive TxMsg where
  | esmc (event : Bool) (ssm : BitVec 4) (ext : Option (Byte × Bool × Byte × Byte × Nat))
  | arpReply (ip : Word) (dst : Dest)
  | neighborAdv (ip : BitVec 128) (dst : Dest)
  | sync (dom seq : Nat) (twoStep : Bool) (origin : Option Triple) (v6 : Bool) (dst : Dest)
  | followUp (dom seq : Nat) (origin : Triple) (v6 : Bool) (dst : Dest)
  | announce (dom seq : Nat) (a : AnnounceOut) (v6 : Bool) (dst : Dest)
  | delayReq (dom seq : Nat) (v6 : Bool) (dst : Dest)
  | pdelayReq (dom seq : Nat) (v6 : Bool) (dst : Dest)
  | delayResp (dom seq : Nat) (stamp : Triple) (peer : BitVec 80) (v6 : Bool) (dst : Dest)
  | pdelayResp (dom seq : Nat) (stamp : Triple) (turn : Option Int) (peer : BitVec 80) (v6 : Bool) (dst : Dest)
  | pdelayRespFollowUp (dom seq : Nat) (stamp : Triple) (peer : BitVec 80) (v6 : Bool) (dst : Dest)
  | signaling (dom : Nat) (tlvs : List UcTlv) (v6 : Bool) (dst : Dest)
  | host (bytes : List Byte)
deriving DecidableEq, Repr

/-- The slot of a TX descriptor, and where its DONE word lies (Table 12-12). -/
structure TxSlot where
  index : Nat
  bar4 : Bool
  addr : Nat
deriving DecidableEq, Repr

/-- A committed host frame: the slot of its TX ring, or the PACKET_SEND command it belongs to, and where its bytes lie. -/
structure TxFrame where
  slot : Option TxSlot
  cmd : Option (CmdSrc × InProg)
  tsReq : Bool
  tsId : BitVec 16
  bar4 : Bool
  addr : Nat
  len : Nat
deriving DecidableEq, Repr

/-- A Breakwater bucket: its tokens in millionths and the timebase µs at which they were counted (R281). -/
structure Bucket where
  micro : Nat
  at_ : Nat
deriving DecidableEq, Repr

/-- A port. `sent` is the frames it has transmitted, `esmcAt` the timebase µs of its latest ESMC PDUs and `ssmSent` the SSM of which
it last made an event (R249); `untouched` is any bucket that no frame has met since the port came up (R281). -/
structure Port where
  st : PortState
  cdr : Bool
  pcs : Bool
  fec : Bool
  hiBer : Bool
  esmcValid : Bool
  esmcTimeout : Bool
  esmcAt : List Nat
  ssmSent : BitVec 4
  txq : List TxFrame
  sent : List TxMsg
  settling : Bool
  grantSecond : Nat
  grantsInSecond : Nat
  buckets : Tab Bucket
  untouched : Bucket
  foreign : List (BitVec 80 × Nat)
  annSeq : Nat
  syncSeq : Nat
deriving DecidableEq, Repr

/-- A TXTS entry that waits: its timestamp point on the timebase, its port and its four words (R255). -/
structure TxtsEntry where
  at_ : Int
  port : Fin 8
  words : List Word
deriving DecidableEq, Repr

/-- The TXTS queue, oldest first, and the holding set of each interface (R256). -/
structure Txts where
  queue : List TxtsEntry
  hold : Vector (List Word) 4
deriving DecidableEq, Repr

/-! ### Pilots -/

/-- Client instance states (Table 10-2). -/
inductive ClState where
  | disabled | listening | requesting | tracking
deriving DecidableEq, Repr

/-- A complete exchange (R265), in grains: t2 on the time scale and `tb` the same instant on the timebase; `rr` is the ASYM_RR that
its o holds. -/
structure Exchange where
  f : Int
  r : Int
  o : Int
  rr : Int
  t2 : Int
  tb : Int
deriving DecidableEq, Repr

/-- The latest Announce of a candidate: its sender, its source address, clockClass, its bytes and the second of its post (R264). -/
structure SeenAnn where
  sender : BitVec 80
  addr : BitVec 128
  clockClass : Byte
  bytes : List Byte
  sec : Nat
deriving DecidableEq, Repr

/-- An estimate of a window that has ended: phase, FFO, instant, mean path delay (R266). -/
structure PendEst where
  phase : Int
  ffo : Int
  at_ : Int
  delay : Int
deriving DecidableEq, Repr

/-- A client instance PRk. `held` are the grants it holds, `asked` those it has requested and `denied` those denied, each with the
address of the server; `seen` the latest Announce of each candidate; `sync` a two-step Sync that waits for its Follow_Up (sequence,
t2, its instant, correction); `lastF` the latest forward value (f, t2, its instant); `dreq` the Delay_Req in flight with t3,
`preq` the Pdelay_Req with t1, `presp` a two-step Pdelay_Resp that waits for its Follow_Up (sequence, t4 − t1, t2, correction);
`ests` the estimates of the windows that have ended, newest first, none where a window held too little; `subs` the exchanges of each sub-interval, newest first; `rm` the pairs (Rm, om) of R268, newest first; `marks` the FFO sums of
the disciplining channel at the ends of the sub-intervals, newest first. -/
structure Client where
  st : ClState
  cands : List (BitVec 128)
  parent : Option (Fin 4)
  parentId : BitVec 80
  held : List (GrantKind × BitVec 128)
  asked : List (GrantKind × BitVec 128)
  denied : List (GrantKind × BitVec 128)
  seen : List SeenAnn
  gmClass : Byte
  sync : Option (BitVec 16 × Int × Int × Int)
  lastF : Option (Int × Int × Int)
  dreq : Option (BitVec 16 × Int)
  preq : Option (BitVec 16 × Int)
  presp : Option (BitVec 16 × Int × Int × Int)
  dreqSeq : BitVec 16
  linkDelay : Option Int
  ests : List (Option PendEst)
  subs : List (List Exchange)
  rm : List (Int × Int)
  marks : List (Int × Nat)
  asymRr : Int
  hold : Bool
  holdAt : Nat
  estValid : Bool
deriving DecidableEq, Repr

/-- A grant in the client table: its log interval and its expiry in service seconds. -/
structure Grant where
  logInt : Int
  expiry : Nat
deriving DecidableEq, Repr

/-- A VALID entry of the client table (Table 10-6). -/
structure Entry where
  sync : Option Grant
  ann : Option Grant
  dresp : Option Grant
  port : Fin 8
  transport : Transport
  tags : List (BitVec 3 × BitVec 12)
  twoStep : Bool
  domain : Nat
  profile : Nat
  syncSeq : Nat
  annSeq : Nat
  gen : Nat
  mac : BitVec 48
  ident : BitVec 80
  ip : BitVec 128
  dirty : Bool
deriving DecidableEq, Repr

/-- The unicast service: the attached table (in BAR4 or not, its address, LOG2N), the time of the attach, its VALID entries
by index, the generation numbers of freed entries, the calendar's round and slot, and the entries a failed read left
uncached; the cache: the indices it holds, those whose read or write-back is under way, and the messages of the last slot
whose entry has not arrived (R279, R280). -/
structure Pilot where
  attached : Option (Bool × Nat × Nat)
  attachUs : Nat
  entries : Tab Entry
  gens : Tab Nat
  round : Nat
  slot : Nat
  missing : List Nat
  skipFrom : Nat
  microcode : Bool
  cache : List Nat
  fetching : List Nat
  writing : List Nat
  late : List (Nat × GrantKind)
deriving DecidableEq, Repr

/-! ### Tideline -/

/-- Link states (Table 11-3). -/
inductive LinkState where
  | off | sync | cal | ranging | up
deriving DecidableEq, Repr

/-- A ranging interval in grains under the RNG_NUM that names its exchange (R287). -/
structure RngVal where
  num : BitVec 16
  val : Int
deriving DecidableEq, Repr

/-- A Tideline link: consecutive missing and valid frames, the last valid frame, the accepted one-way delays of the average
(newest first), the consecutive outliers, the e_k gathered in the present ms with their last mean; for ranging the number of
the latest exchange, the instant of the marked boundary that waits for its answer (t1 at the upstream end, t2 at the downstream
end), the interval that this end measured last and the one that the partner returned, and the exchange taken last; and the
frames it has sent. -/
structure Link where
  st : LinkState
  missed : Nat
  good : Nat
  last : Option TideFrame
  dirErr : Bool
  tooFar : Bool
  delays : List Int
  df : Int
  accepted : Nat
  outliers : Nat
  theta : List Int
  thetaMean : Int
  rngNum : BitVec 16
  markAt : Option Int
  own : Option RngVal
  heard : Option RngVal
  taken : Option (BitVec 16)
  sent : List TideFrame
deriving DecidableEq, Repr

/-- Roles (Table 11-4). -/
inductive Role where
  | orphan | slave | master
deriving DecidableEq, Repr

/-- A cascade event that waits for its delivery to Buoy 60 (R297): its time on the timebase and e_k. -/
structure CascEv where
  t : Int
  e : Int
deriving DecidableEq, Repr

/-- The Tideline block: identity, role, active upstream, LOFS in µs, PATH and distance last held, the master named in own
frames with the states it sends, the conditions of R293, R298 and R302, the events that wait for Buoy 60, the fault queue of
R306, the MSG_SEQ of the messages applied, the own messages (type, sequence, payload) with the turn of their rotation, the
message to relay, PHASE_ACC of the upstream, and LABEL of the latest frame of the active upstream, in gr, with the timebase
instant it names (R228). -/
structure Tide where
  links : Vector Link 5
  role : Role
  strapped : Bool
  strapId : BitVec 9
  id : BitVec 9
  fromChart : Bool
  active : Option (Fin 5)
  lofs : Int
  path : List (BitVec 9)
  hops : Nat
  mPrio : BitVec 8
  mId : BitVec 9
  masterLost : Bool
  masterCh : BitVec 3
  masterTs : BitVec 2
  labelErr : Bool
  dupId : Bool
  dualMaster : Bool
  depthErr : Bool
  events : List CascEv
  faults : List (BitVec 64)
  stepSeq : Option (BitVec 16)
  leapSeq : Option (BitVec 16)
  utcSeq : Option (BitVec 16)
  own : List (BitVec 8 × BitVec 16 × List Byte)
  turn : Nat
  relay : Option (BitVec 8 × BitVec 16 × List Byte)
  phaseAcc : Int
  srcLabel : Int
  srcAt : Int
deriving DecidableEq, Repr

/-! ### The device -/

/-- Everything but the queue of commands. `regs` holds each register that is storage: set-up words, counters, published
results and the memory of the Keeper's queues, by BAR0 offset. `draws` counts the free values drawn. -/
structure Dev where
  regs : Tab Word
  bar4 : List Host.Cell
  bar4Gen : Nat
  draws : Nat
  top : Top
  chk : Chk
  host : HostIf
  clk : Clk
  pwr : Pwr
  watch : Watch
  keeper : Keeper
  fw : Fw
  otp : Otp
  chart : Chart
  buoys : Vector Buoy 64
  pairs : Tab Pair
  cycle : Nat
  chans : Vector Chan 16
  lans : Vector Lan 8
  outs : Vector Out 48
  vouts : Vector Vout 8
  ts : Vector TimeScale 4
  ports : Vector Port 8
  txts : Txts
  clients : Vector Client 16
  pilot : Pilot
  tide : Tide
deriving DecidableEq, Repr

/-- The state: the device, and the commands that wait, first in, first out. -/
structure State where
  dev : Dev
  pending : List Instr
deriving DecidableEq, Repr

/-! ### Reset -/

/-- TOP after a power-up: in HOLD, nothing ready (Tables 13-1, 16-4; the registers' reset values). -/
def Top.reset : Top := ⟨false, false, 0, false, 0, 0, 0⟩
def Resp.reset : Resp := ⟨[], 0, false, false⟩
def Chk.reset : Chk := ⟨Vector.replicate 4 ⟨none, [], Resp.reset⟩, 0, 0⟩
def Ring.reset : Ring := ⟨0, 0, 0, true, false, 0, 0, 0, [], none, none, none, false, []⟩
def HostIf.reset : HostIf :=
  { rings := Vector.replicate 26 Ring.reset, resetCause := none, resets := 0, ip := Vector.replicate 4 none, pcieUp := false,
    busMaster := false, training := false, msixOn := false, msixMask := false, mps := 0, mrrs := 2, bars := Vector.replicate 3 0,
    msix := [], pending := 0, signals := [], posted := [], stalled := [], busy := Vector.replicate 5 none,
    ext := Vector.replicate 5 none, passed := Vector.replicate 5 0 }
def Clk.reset : Clk :=
  { sup := .hold, bstop := false, bcnRestart := false, bcn := true, bpll := false, cpll := false, xo := false, aondiv := false,
    aonOnXo := false, aonSw := none, sysSw := none, fastSw := none, bcnBad := false, lastXoFail := 0, windows := [], everXo := false, freqFinal := false, xoTimer := false, gapFrom := 0,
    aonUs := 0, tbUs := 0 }
def Pwr.reset : Pwr :=
  { pf := .normal, pwrfail := false, vddMon := false, vbakOk := false, cap := 3, inForce := 0, avs := .rest, avsErr := false,
    tjMax := 0, hot := false, cool := false, millivolt := 650, snapshot := none, snapWait := false,
    anchorCmd := none, oppCmd := none, inAnchor := false, restored := false, restoreFrom := none, xoCounted := false,
    xoCntLost := false, byPf := false, tlog := [], tlogOut := [], restoreTodo := 0 }
def Source.reset : Source := ⟨0, false, false, 0, none, false⟩
def Watch.reset : Watch := ⟨Vector.replicate 192 Source.reset, [], none, false, false, 0, none, none⟩
def KQueue.reset : KQueue := ⟨0, 0, true, 0⟩
def Supervision.reset : Supervision := ⟨.normal, 0, false, false, 0⟩
def Keeper.reset : Keeper := ⟨Supervision.reset, KQueue.reset, KQueue.reset, KQueue.reset, 0, 0, true, 0, [], false⟩
def Fw.reset : Fw := ⟨.idle, false, 0, 0, false, [], [], 0, none, false, []⟩
/-- The OTP as it leaves the factory: slot 0 ACTIVE with the Ranvia key, debug level 1 (R424, R426). -/
def Otp.reset : Otp :=
  ⟨#v[(.active, Config.ranviaKeyHash), (.empty, []), (.empty, [])], 0, 1, none, false, false, none, 0⟩
def Chart.reset : Chart :=
  { flash := [], bad := [], corr := [], buf := [], nextSeq := 0, sectSeq := 0, appendAt := none, scheduled := [],
    wear := Vector.replicate 64 0, retired := 0, refresh := 0, fails := [], rewrite := [], logErases := 0, tokens := 64, scanning := false,
    commit := none, extended := false, erasing := none, timerOn := false, tallyWait := none, rawNext := none,
    lastRefuse := 0, scanFault := false, runHours16 := 0, powerCycles := 0, anchorEntries := 0 }
def Activity.reset : Activity := ⟨.down, 0, false, none, 0, 0⟩
def Monitor.reset : Monitor :=
  { freqValid := false, chValid := false, chOf := none, gateFrom := none, gateTo := 0, gatePh := 0, gateN := 0, gateClean := false, gateChans := [],
    gateFfo := [], y := 0, yCh := 0, origin := 0, idx := 0, phase := 0, phaseAt := 0, tieCh := none, tieZero := none, tie := [],
    tieLeft := false, mtie := none, cycPhase := none, cycUp := false }
def Decoder.reset : Decoder := ⟨false, false, 0, false, 0, none, false, none, 0, 0, 0, false, false⟩
def Qual.reset : Qual := ⟨.idle, false, false, 0, false, false, false⟩
def Buoy.reset : Buoy := ⟨Activity.reset, Monitor.reset, Decoder.reset, Qual.reset, none, [], false, false⟩
def Pair.reset : Pair := ⟨0, [], 0, false, false, false⟩
def Loop.reset : Loop := ⟨0, 0, 0, 0, 0, 0, 0, 0, 0, 0⟩
def Track.reset : Track :=
  ⟨false, false, 0, [], false, none, 0, [], false, 0, false, false, false, false⟩
def Switching.reset : Switching := ⟨false, false, false, false, .pass, 0, 0, 0, false⟩
def Holdover.reset : Holdover :=
  ⟨0, [], none, false, false, 0, 0, 0, [], 0, 0, 0, 0, 0, none, none, false, none, 0⟩
def Select.reset : Select := ⟨none, .command, false, none, [], none, 0⟩
def Chan.reset : Chan :=
  ⟨.freeRun, .auto, false, 1, Loop.reset, Track.reset, Switching.reset, Holdover.reset, Select.reset, 0, 0, (65536000, 1)⟩
def Lan.reset : Lan := ⟨.off, 0, false, 0, 0⟩
def Out.reset : Out := ⟨.stopped, false, false, false, false, 0, 0, none⟩
def Vout.reset : Vout := ⟨.stopped, false, false, false, false, none⟩
def TimeScale.reset : TimeScale :=
  ⟨.unset, false, 0, none, none, none, none, false, false, none, none, 0, 0, false, none, none, none, none, 0⟩
def Port.reset : Port :=
  ⟨.off, false, false, false, false, false, false, [], 0xF, [], [], false, 0, 0, [], ⟨256000000, 0⟩, [], 0, 0⟩
def Txts.reset : Txts := ⟨[], Vector.replicate 4 []⟩
def Client.reset : Client :=
  ⟨.disabled, [], none, 0, [], [], [], [], 0, none, none, none, none, none, 0, none, [], [], [], [], 0, false, 0, false⟩
def Pilot.reset : Pilot := ⟨none, 0, [], [], 0, 0, [], 0, false, [], [], [], []⟩
def Link.reset : Link := ⟨.off, 0, 0, none, false, false, [], 0, 0, 0, [], 0, 0, none, none, none, none, []⟩
def Tide.reset : Tide :=
  { links := Vector.replicate 5 Link.reset, role := .orphan, strapped := false, strapId := 0, id := 0, fromChart := false,
    active := none, lofs := 0, path := [], hops := 0, mPrio := 0, mId := 0, masterLost := true, masterCh := 0, masterTs := 0,
    labelErr := false, dupId := false, dualMaster := false, depthErr := false, events := [], faults := [], stepSeq := none,
    leapSeq := none, utcSeq := none, own := [], turn := 0, relay := none, phaseAcc := 0, srcLabel := 0, srcAt := 0 }

/-- The device after a power-up, held in HOLD by its supervisor (Table 13-1). -/
def Dev.reset : Dev :=
  { regs := [], bar4 := [], bar4Gen := 0, draws := 0, top := Top.reset, chk := Chk.reset, host := HostIf.reset, clk := Clk.reset,
    pwr := Pwr.reset, watch := Watch.reset, keeper := Keeper.reset, fw := Fw.reset, otp := Otp.reset, chart := Chart.reset,
    buoys := Vector.replicate 64 Buoy.reset, pairs := [], cycle := 0, chans := Vector.replicate 16 Chan.reset,
    lans := Vector.replicate 8 Lan.reset, outs := Vector.replicate 48 Out.reset, vouts := Vector.replicate 8 Vout.reset,
    ts := Vector.replicate 4 TimeScale.reset, ports := Vector.replicate 8 Port.reset, txts := Txts.reset,
    clients := Vector.replicate 16 Client.reset, pilot := Pilot.reset, tide := Tide.reset }

/-- The state after reset: no command waits. -/
def State.reset : State := ⟨Dev.reset, []⟩

end Sys2Proof.Machine
end

