-- ==== Sys2Proof/Machine/Desc.lean ====
section
/-! DEFINITION. The header of a command descriptor: its fields and step 1 of the checks (Table 12-5, R317, R318). -/

namespace Sys2Proof.Machine

/-- The opcodes of Table 12-8. -/
def opcodes : List Nat :=
  [0x01, 0x02, 0x10, 0x11, 0x12, 0x20, 0x21, 0x22, 0x23, 0x30, 0x31, 0x32, 0x33, 0x40, 0x41, 0x42, 0x50, 0x51, 0x52, 0x53, 0x54,
   0x60, 0x61, 0x70, 0x71, 0x72, 0x73, 0x74, 0x80, 0x81, 0x90, 0x91, 0xA0]

def descOp (ws : List Word) : Nat := fld (wordAt ws 0) 0 8
def descExt (ws : List Word) : Bool := bit (wordAt ws 0) 8
def descSeq (ws : List Word) : BitVec 16 := BitVec.ofNat 16 (fld (wordAt ws 0) 16 16)
def descExtLen (ws : List Word) : Nat := fld (wordAt ws 1) 0 16

/-- The lowest nonzero bit of descriptor bytes 16–63. -/
def descTail (ws : List Word) : Option Nat :=
  (List.range 384).findSome? fun i => if bit (wordAt ws (4 + i / 32)) (i % 32) then some (128 + i) else none

/-- Step 1 of R318: the failing field of a header. The Keeper queue has no FW_CHUNK (Table 16-9). -/
def headerFail (keeper : Bool) (ws : List Word) : Option Nat :=
  let n := descExtLen ws
  if !opcodes.contains (descOp ws) || (keeper && descOp ws = 0x80) then some 0xF000
  else if fld (wordAt ws 0) 9 7 ≠ 0 then some 0xF009
  else if (if descExt ws then n < 4 || 4096 < n || n % 4 ≠ 0 else n ≠ 0) then some 0xF020
  else if fld (wordAt ws 1) 16 16 ≠ 0 then some 0xF030
  else if descExt ws && fld (wordAt ws 2) 1 2 ≠ 0 then some 0xF041
  else if descExt ws then (descTail ws).map (0xF000 + ·)
  else none

end Sys2Proof.Machine
end

