-- ==== Sys2Proof/Machine/Ops.lean ====
section
/-! DEFINITION. The shared operations: registers and their counters, time, memory, rings, events, the Watch's inputs, the
completion of commands. Every operation maps a device to a device. -/

namespace Sys2Proof.Machine

/-! ### Outcomes -/

/-- A meaning that only changes the device: the queue of commands is kept. -/
def run (f : Dev → Dev) (s : State) : Host.Outcome State Fault Refusal := .next { s with dev := f s.dev }

/-- `f` for each index below `n`, in rising order. -/
def forFin (n : Nat) (f : Fin n → Dev → Dev) (d : Dev) : Dev := (List.finRange n).foldl (fun d i => f i d) d

/-- `f` where `b` holds. -/
def onlyIf (b : Bool) (f : Dev → Dev) (d : Dev) : Dev := if b then f d else d

/-! ### Registers -/

/-- A stored BAR0 word. -/
def Dev.rd (d : Dev) (off : Nat) : Word := Tab.get resetWord d.regs off

/-- `w` stored at `off`. -/
def Dev.wr (off : Nat) (w : Word) (d : Dev) : Dev := { d with regs := Tab.put resetWord d.regs off w }

/-- A field of a stored word. -/
def Dev.rdF (d : Dev) (off lo width : Nat) : Nat := fld (d.rd off) lo width

/-- A field of a stored word, written. -/
def Dev.wrF (off lo width v : Nat) (d : Dev) : Dev := d.wr off (setFld (d.rd off) lo width v)

/-- `k` added to a CT counter, saturating at the field maximum (Table 2-4). -/
def Dev.bumpBy (k off lo width : Nat) (d : Dev) : Dev := d.wrF off lo width (satN width (d.rdF off lo width + k))

/-- 1 added to a CT counter. -/
def Dev.bump (off lo width : Nat) (d : Dev) : Dev := d.bumpBy 1 off lo width

/-- A stored 40-bit value, signed (R59). -/
def Dev.rd40 (d : Dev) (base : Nat) : Int := signed 40 (d.rdF base 0 32 + d.rdF (base + 4) 0 8 * 4294967296)

/-- A stored 40-bit value, unsigned. -/
def Dev.rdU40 (d : Dev) (base : Nat) : Nat := d.rdF base 0 32 + d.rdF (base + 4) 0 8 * 4294967296

/-- A 40-bit value published at `base`: the sequence rises by 1 when the value changes (R59). -/
def Dev.pub40 (base : Nat) (v : Int) (d : Dev) : Dev :=
  let n := twos 40 v
  if d.rdU40 base = n then d
  else (d.wr base (word n)).wr (base + 4) (word (n / 4294967296 + (d.rdF (base + 4) 8 24 + 1) % 16777216 * 256))

/-- A measurement published at status word `off`: DONE set, SEQ + 1, `extra` in bits 30:16 (R64). -/
def Dev.pubStat (off extra : Nat) (d : Dev) : Dev :=
  d.wr off (word (2147483648 + extra * 65536 % 2147483648 + (d.rdF off 0 16 + 1) % 65536))

/-- Words stored from `off` on. -/
def Dev.wrWords (off : Nat) : List Word → Dev → Dev
  | [], d => d
  | w :: ws, d => Dev.wrWords (off + 4) ws (d.wr off w)

/-! ### Parts of the device -/

def Dev.buoy (d : Dev) (n : Fin 64) : Buoy := d.buoys.get n
def Dev.modBuoy (n : Fin 64) (f : Buoy → Buoy) (d : Dev) : Dev := { d with buoys := d.buoys.set n (f (d.buoys.get n)) }
def Dev.chan (d : Dev) (n : Fin 16) : Chan := d.chans.get n
def Dev.modChan (n : Fin 16) (f : Chan → Chan) (d : Dev) : Dev := { d with chans := d.chans.set n (f (d.chans.get n)) }
def Dev.lan (d : Dev) (n : Fin 8) : Lan := d.lans.get n
def Dev.modLan (n : Fin 8) (f : Lan → Lan) (d : Dev) : Dev := { d with lans := d.lans.set n (f (d.lans.get n)) }
def Dev.out (d : Dev) (n : Fin 48) : Out := d.outs.get n
def Dev.modOut (n : Fin 48) (f : Out → Out) (d : Dev) : Dev := { d with outs := d.outs.set n (f (d.outs.get n)) }
def Dev.vout (d : Dev) (n : Fin 8) : Vout := d.vouts.get n
def Dev.modVout (n : Fin 8) (f : Vout → Vout) (d : Dev) : Dev := { d with vouts := d.vouts.set n (f (d.vouts.get n)) }
def Dev.tsc (d : Dev) (n : Fin 4) : TimeScale := d.ts.get n
def Dev.modTs (n : Fin 4) (f : TimeScale → TimeScale) (d : Dev) : Dev := { d with ts := d.ts.set n (f (d.ts.get n)) }
def Dev.port (d : Dev) (n : Fin 8) : Port := d.ports.get n
def Dev.modPort (n : Fin 8) (f : Port → Port) (d : Dev) : Dev := { d with ports := d.ports.set n (f (d.ports.get n)) }
def Dev.client (d : Dev) (n : Fin 16) : Client := d.clients.get n
def Dev.modClient (n : Fin 16) (f : Client → Client) (d : Dev) : Dev := { d with clients := d.clients.set n (f (d.clients.get n)) }
def Dev.link (d : Dev) (n : Fin 5) : Link := d.tide.links.get n
def Dev.modTide (f : Tide → Tide) (d : Dev) : Dev := { d with tide := f d.tide }
def Dev.modLink (n : Fin 5) (f : Link → Link) (d : Dev) : Dev :=
  d.modTide fun t => { t with links := t.links.set n (f (t.links.get n)) }
def Dev.ring (d : Dev) (r : Fin 26) : Ring := d.host.rings.get r
def Dev.modHost (f : HostIf → HostIf) (d : Dev) : Dev := { d with host := f d.host }
def Dev.modRing (r : Fin 26) (f : Ring → Ring) (d : Dev) : Dev :=
  d.modHost fun h => { h with rings := h.rings.set r (f (h.rings.get r)) }
def Dev.source (d : Dev) (n : Fin 192) : Source := d.watch.srcs.get n
def Dev.modWatch (f : Watch → Watch) (d : Dev) : Dev := { d with watch := f d.watch }
def Dev.modSource (n : Fin 192) (f : Source → Source) (d : Dev) : Dev :=
  d.modWatch fun w => { w with srcs := w.srcs.set n (f (w.srcs.get n)) }
def Dev.modClk (f : Clk → Clk) (d : Dev) : Dev := { d with clk := f d.clk }
def Dev.modPwr (f : Pwr → Pwr) (d : Dev) : Dev := { d with pwr := f d.pwr }
def Dev.modTop (f : Top → Top) (d : Dev) : Dev := { d with top := f d.top }
def Dev.modKeeper (f : Keeper → Keeper) (d : Dev) : Dev := { d with keeper := f d.keeper }
def Dev.modSup (f : Supervision → Supervision) (d : Dev) : Dev := d.modKeeper fun k => { k with sup := f k.sup }
def Dev.modFw (f : Fw → Fw) (d : Dev) : Dev := { d with fw := f d.fw }
def Dev.modOtp (f : Otp → Otp) (d : Dev) : Dev := { d with otp := f d.otp }
def Dev.modChart (f : Chart → Chart) (d : Dev) : Dev := { d with chart := f d.chart }
def Dev.modPilot (f : Pilot → Pilot) (d : Dev) : Dev := { d with pilot := f d.pilot }
def Dev.modTxts (f : Txts → Txts) (d : Dev) : Dev := { d with txts := f d.txts }
def Dev.modChk (f : Chk → Chk) (d : Dev) : Dev := { d with chk := f d.chk }

/-- A free value of its own: the draw and the device whose counter has moved on. -/
def Dev.draw (d : Dev) : Int × Dev := (Config.freeInt d.draws, { d with draws := d.draws + 1 })

/-- The bit of TOP_BLOCK_READY of a block. -/
def Dev.blockReady (d : Dev) (b : Nat) : Bool := d.top.blk.getLsbD b

/-- Ports, Pilots and unkept Lanterns are shed (R356, R359). -/
def Dev.shed (d : Dev) : Bool := d.pwr.pf = .shedding || d.pwr.pf = .held || d.pwr.anchorCmd.isSome

/-! ### Time -/

/-- The measurement timebase now, in grains since it first started (R322). -/
def Dev.tbGr (d : Dev) : Int := d.clk.tbUs * 65536000

/-- The measurement timebase in ms. -/
def Dev.tbMs (d : Dev) : Nat := d.clk.tbUs / 1000

/-- The feedback time of a channel at timebase instant `t` (grains), in 2^-24 gr: the NCO runs at 1 + y (R134). -/
def feedback24 (l : Loop) (t : Int) : Int :=
  let dt := t * 16777216 - l.at_
  l.nco + dt + dt * l.y / 281474976710656

/-- TSn_CFG.CH: the channel of a time scale (R14). -/
def Dev.tsChan (d : Dev) (n : Fin 4) : Fin 16 := Fin.ofNat 16 (d.rdF (0x1C0000 + 0x100 * n) 28 4)

/-- TS = F + O of a time scale at timebase instant `t` on its present count, rounded to the nearest grain (R215). -/
def Dev.tsOn (d : Dev) (n : Fin 4) (t : Int) : Int := (feedback24 (d.chan (d.tsChan n)).loop t + (d.tsc n).ofs + 8388608) / 16777216

/-- TS at timebase instant `t`: before the last step the count that the step left, at its instant the new one (R230, R246). One
step back is held (log entry 161). -/
def Dev.tsAt (d : Dev) (n : Fin 4) (t : Int) : Int :=
  match (d.tsc n).stepAt with
  | some u => if t < u then d.tsOn n t - (d.tsc n).stepBy / 16777216 else d.tsOn n t
  | none => d.tsOn n t

/-- TS of a time scale now. -/
def Dev.tsNow (d : Dev) (n : Fin 4) : Int := d.tsOn n d.tbGr

/-- The time that entries carry now: that of HOSTIF_CFG.EVT_TS, or the timebase count while it is UNSET (R322). -/
def Dev.stamp (d : Dev) : Stamp :=
  let n : Fin 4 := Fin.ofNat 4 (d.rdF 0x2C0004 0 2)
  if (d.tsc n).st = .unset then ⟨grTriple d.tbGr, true⟩ else ⟨grTriple (d.tsNow n), false⟩

/-! ### BAR4 and host memory -/

/-- The byte of BAR4 at `a`: what was written last, else what the spec leaves open (R38). -/
def Dev.bar4Get (d : Dev) (a : Nat) : Byte := Tab.get (Config.bar4Fill d.bar4Gen) d.bar4 a

/-- A byte written to BAR4; beyond its 256 KiB nothing exists. -/
def Dev.bar4Put (a : Nat) (b : Byte) (d : Dev) : Dev :=
  if a < 262144 then { d with bar4 := Tab.ins a b d.bar4 } else d

/-- Bytes written to BAR4 at ascending addresses. -/
def Dev.bar4Write (a : Nat) : List Byte → Dev → Dev
  | [], d => d
  | b :: bs, d => Dev.bar4Write (a + 1) bs (d.bar4Put a b)

/-- `n` bytes of BAR4 from `a`. -/
def Dev.bar4Read (d : Dev) (a n : Nat) : List Byte := (List.range n).map fun i => d.bar4Get (a + i)

/-- The device may issue memory requests: the PCIe link is up and Bus Master Enable is 1 (R308). -/
def Dev.dmaOpen (d : Dev) : Bool := d.host.pcieUp && d.host.busMaster

/-- A write to host memory, behind the earlier ones; without Bus Master Enable it waits (log entry 29). -/
def Dev.post (a : Nat) (bs : List Byte) (d : Dev) : Dev :=
  let p : Posted := ⟨a, bs⟩
  if d.dmaOpen then d.modHost fun h => { h with posted := h.posted ++ [p] } else d.modHost fun h => { h with stalled := h.stalled ++ [p] }

/-- Bytes to a buffer: SPACE 1 is BAR4, 0 host memory. -/
def Dev.memWrite (bar4 : Bool) (a : Nat) (bs : List Byte) (d : Dev) : Dev :=
  if bar4 then d.bar4Write a bs else d.post a bs

/-! ### Rings (R311 to R315) -/

def ringOff (r : Nat) : Nat := 0x2C1000 + 0x40 * r
def Dev.ringEn (d : Dev) (r : Nat) : Bool := bit (d.rd (ringOff r + 8)) 31
def Dev.ringBar4 (d : Dev) (r : Nat) : Bool := bit (d.rd (ringOff r + 8)) 30
def Dev.ringSize (d : Dev) (r : Nat) : Nat := 2 ^ d.rdF (ringOff r + 8) 16 4
def Dev.ringBase (d : Dev) (r : Nat) : Nat := (d.rd (ringOff r)).toNat / 64 * 64 + (d.rd (ringOff r + 4)).toNat * 4294967296

/-- The entry size E of a ring (Table 12-3). -/
def entrySize (r : Nat) : Nat := if r < 4 then 64 else if r < 8 then 16 else if r < 18 then 32 else 2048

/-- H of R311. -/
def headSize (r : Nat) : Nat := if r < 4 then 64 else 0

/-- The rings that the device fills (Table 12-3). -/
def deviceFilled (r : Nat) : Bool := (4 ≤ r && r < 10) || 18 ≤ r

/-- The address of entry `i` (R311). -/
def Dev.entryAddr (d : Dev) (r i : Nat) : Nat := d.ringBase r + headSize r + i * entrySize r

/-- Entries written and not returned. -/
def Dev.unreturned (d : Dev) (r : Fin 26) : Nat := ((d.ring r).devIdx + d.ringSize r - (d.ring r).use) % d.ringSize r

/-- No returned slot (R313). -/
def Dev.ringFull (d : Dev) (r : Fin 26) : Bool := d.unreturned r + 1 == d.ringSize r

/-- Whether the device may write an entry now: enabled, not halted, a slot returned. -/
def Dev.ringOpen (d : Dev) (r : Fin 26) : Bool := d.ringEn r && !(d.ring r).err && !d.ringFull r

/-- HOSTIF_IRQ_STATUS bit r (R328). -/
def Dev.irqBit (d : Dev) (r : Fin 26) : Bool :=
  (d.ring r).err || (if deviceFilled r then d.unreturned r != 0 else (10 ≤ r.val && r.val < 18) && !(d.ring r).done.isEmpty)

/-- The IRQ_N condition (R330). -/
def Dev.irqN (d : Dev) : Bool := d.top.ready && (List.finRange 26).any fun r => d.irqBit r && bit (d.rd 0x2C0014) r

/-- A word of the MSI-X structures as they leave reset: every vector masked (PCI Express Base Specification). -/
def msixReset (k : Nat) : Word := if k % 4 = 3 then 1 else 0

/-- A message of vector `v` may leave: MSI-X is enabled, neither the function nor the vector is masked (R329, log entry 68). -/
def Dev.vectorOpen (d : Dev) (v : Nat) : Bool :=
  d.dmaOpen && d.host.msixOn && !d.host.msixMask && !bit (Tab.get msixReset d.host.msix (4 * v + 3)) 0

/-- A vector is signalled, or pends until its message may leave. -/
def Dev.vectorSignal (v : Nat) (d : Dev) : Dev :=
  if d.vectorOpen v then d.modHost fun h => { h with signals := h.signals ++ [BitVec.ofNat 6 v] }
  else d.modHost fun h => { h with pending := h.pending ||| BitVec.ofNat 64 (2 ^ v) }

/-- The pending vectors whose message may leave now are signalled. -/
def Dev.msixFlush (d : Dev) : Dev :=
  (List.range 64).foldl (fun d v =>
    onlyIf (d.host.pending.getLsbD v && d.vectorOpen v)
      (fun d => (d.modHost fun h => { h with pending := h.pending &&& ~~~(BitVec.ofNat 64 (2 ^ v)) }).vectorSignal v) d) d

/-- The vector of ring r is signalled (R329). -/
def Dev.signal (r : Fin 26) (d : Dev) : Dev :=
  (d.vectorSignal (d.rdF (ringOff r + 8) 8 6)).modRing r fun g => { g with signalled := some d.clk.aonUs, itrWait := false }

/-- What a change of ring r leads to, where `was` is its bit before and `new` a new entry (R329). -/
def Dev.notice (r : Fin 26) (was new : Bool) (d : Dev) : Dev :=
  if !d.irqBit r then d.modRing r fun g => { g with itrWait := false }
  else if !was then d.signal r
  else if !new then d
  else
    let itr := d.rdF (ringOff r + 8) 0 8
    match (d.ring r).signalled with
    | some t => if itr = 0 || t + itr ≤ d.clk.aonUs then d.signal r else d.modRing r fun g => { g with itrWait := true }
    | none => d.signal r

/-- Bit 31 of an entry's first word: P (R315). -/
def withPhase (p : Bool) (e : List Byte) : List Byte := if p then e.modify 3 (· ||| 0x80#8) else e

/-- An entry stored at the device index of a ring, the first word last; the index moves on and the phase inverts at each
wrap (R315). -/
def Dev.ringStore (r : Fin 26) (e : List Byte) (d : Dev) : Dev :=
  let g := d.ring r
  let a := d.entryAddr r g.devIdx
  let e := withPhase g.phase e
  let d := (d.memWrite (d.ringBar4 r) (a + 4) (e.drop 4)).memWrite (d.ringBar4 r) a (e.take 4)
  let i := (g.devIdx + 1) % d.ringSize r
  d.modRing r fun g => { g with devIdx := i, phase := if i = 0 then !g.phase else g.phase }

/-- An entry written to a ring that the device fills, with its notice. -/
def Dev.ringPut (r : Fin 26) (e : List Byte) (d : Dev) : Dev := (d.ringStore r e).notice r (d.irqBit r) true

/-- A numbered entry: written where a slot stands open, else dropped and counted; the sequence number advances either way
(R324, R327). -/
def Dev.ringEntry (r : Fin 26) (mk : Word → List Byte) (d : Dev) : Dev :=
  let e := mk (d.ring r).seq
  if d.ringOpen r then
    (d.modRing r fun g => { g with seq := g.seq + 1, lost := 0 }).ringPut r e
  else
    (d.modRing r fun g => { g with seq := g.seq + 1, lost := g.lost + 1 }).bump (ringOff r + 0x10) 16 16

/-! ### Entries (Table 12-9) -/

/-- An event or log entry, P left 0. -/
def entryBytes (kind obj blk : Nat) (keeper : Bool) (s : Stamp) (data : List Byte) (seq : Word) : List Byte :=
  [BitVec.ofNat 8 kind, BitVec.ofNat 8 obj, BitVec.ofNat 8 blk, BitVec.ofNat 8 (bitAt 6 s.unset + bitAt 5 keeper)] ++
    wordBytes seq ++ tripleBytes s.t ++ (data ++ List.replicate 12 0).take 12

/-- A byte. -/
def b8 (n : Nat) : Byte := BitVec.ofNat 8 n
/-- A signed number in two's complement little-endian bytes. -/
def sBytes (len : Nat) (v : Int) : List Byte := leBytes len (twos (8 * len) v)

/-- Entries of a Keeper queue not yet returned. -/
def KQueue.held (q : KQueue) (size : Nat) : Nat := (q.wr + size - q.ci) % size

/-- The next write position of a Keeper queue. -/
def KQueue.next (q : KQueue) (size : Nat) : KQueue :=
  { q with wr := (q.wr + 1) % size, phase := if q.wr + 1 = size then !q.phase else q.phase }

/-- The Keeper's copy of an event-ring entry, or its drop (R411). -/
def Dev.keeperEvent (e : List Byte) (d : Dev) : Dev :=
  let q := d.keeper.evq
  if q.held 256 < 255 then
    (d.wrWords (0x309000 + 32 * q.wr) (bytesWords (withPhase q.phase e))).modKeeper fun k => { k with evq := q.next 256 }
  else d.bump 0x30011C 16 16

/-- An entry of the event ring and its copy for the Keeper (R411). -/
def Dev.evtEntry (mk : Word → List Byte) (d : Dev) : Dev := (d.keeperEvent (mk (d.ring 8).seq)).ringEntry 8 mk

/-- An event (Table 12-10) with the time of this moment. -/
def Dev.event (kind obj blk : Nat) (data : List Byte) (d : Dev) : Dev := d.evtEntry (entryBytes kind obj blk false d.stamp data)

/-- A STATE event: machine, old and new state, row, related object (R323); none where the states are equal. -/
def Dev.stateEv (blk machine obj old new row related : Nat) (d : Dev) : Dev :=
  if old = new then d else d.event 0x01 obj blk [b8 machine, b8 old, b8 new, b8 row, b8 related]

/-- A hardware log entry (R325). -/
def Dev.logEnt (kind obj blk : Nat) (data : List Byte) (d : Dev) : Dev :=
  d.ringEntry 9 (entryBytes kind obj blk false d.stamp data)

/-- The OVERFLOW entry that gives the number dropped (R324). -/
def Dev.overflow (r : Fin 26) (d : Dev) : Dev :=
  let n := (d.ring r).lost
  if n = 0 || !d.ringOpen r then d
  else
    let mk := entryBytes 0x12 r 14 false d.stamp (b8 r :: leBytes 4 (satN 32 n))
    if r = 8 then d.evtEntry mk else d.ringEntry r mk

/-! ### What reaches the Watch -/

/-- An occurrence of a source as it stands now. -/
def Dev.reaches (d : Dev) (o : Occ) (blankEnd : Bool) : Reached := ⟨o, d.stamp, blankEnd, (d.source o.src).blankTo.isSome⟩

/-- An occurrence reaches the Watch, at this moment (R389). -/
def Dev.reach (o : Occ) (blankEnd : Bool) (d : Dev) : Dev := d.modWatch fun w => { w with reached := w.reached ++ [d.reaches o blankEnd] }

/-- An occurrence of a source with its object. -/
def Dev.occur (src : Fin 192) (obj : Nat) (d : Dev) : Dev := d.reach ⟨src, BitVec.ofNat 8 obj, false, false⟩ false

/-- The condition of a level source; its rise is an occurrence (R389), and a rise during blanking is kept for its end
(R404). -/
def Dev.setCond (src : Fin 192) (obj : Nat) (c : Bool) (d : Dev) : Dev :=
  let s := d.source src
  if s.cond = c then d
  else if c then (d.modSource src fun s => { s with cond := true, rose := s.rose || s.blankTo.isSome }).occur src obj
  else d.modSource src fun s => { s with cond := false }

/-! ### Completions (Table 12-6) -/

def CmdOut.ok (progress : Nat := 0) (result : Nat := 0) : CmdOut := ⟨0, progress, 0, result⟩
def CmdOut.partly (progress : Nat) : CmdOut := ⟨1, progress, 0, 0⟩
def CmdOut.notDone (progress : Nat := 0) : CmdOut := ⟨2, progress, 0, 0⟩
def CmdOut.refused (progress : Nat := 0) : CmdOut := ⟨3, progress, 0, 0⟩
def CmdOut.invalid (field : Nat) : CmdOut := ⟨4, 0, field, 0⟩
def CmdOut.busy (progress : Nat := 0) : CmdOut := ⟨5, progress, 0, 0⟩
def CmdOut.timeout (progress : Nat := 0) : CmdOut := ⟨6, progress, 0, 0⟩
def CmdOut.aborted (progress : Nat := 0) : CmdOut := ⟨7, progress, 0, 0⟩

/-- The completion's bytes, P left 0. -/
def completionBytes (p : InProg) (o : CmdOut) : List Byte :=
  leBytes 2 p.seq.toNat ++ [p.op, b8 o.status] ++ leBytes 2 o.progress ++ leBytes 2 o.field ++
    leBytes 2 p.index.toNat ++ [0, 0] ++ leBytes 4 o.result

/-- The place of a command source in `HostIf.busy`. -/
def srcIdx : CmdSrc → Fin 5
  | .cq q => ⟨q.val, by omega⟩
  | .keeper => 4

/-- CQq and CRq of a host command source. -/
def cqRing (q : Fin 4) : Fin 26 := ⟨q.val, by omega⟩
def crRing (q : Fin 4) : Fin 26 := ⟨4 + q.val, by omega⟩

/-- What the recovery record of CQq will say of the command that a host-interface reset found in progress (R331, R334). -/
def Dev.recordIp (q : Fin 4) (p : InProg) (o : CmdOut) (d : Dev) : Dev :=
  d.modHost fun h => { h with ip := h.ip.set q (some ({ p with progress := o.progress }, o.status)) }

/-- The source has no command in progress any more; the command counts as retired. -/
def Dev.cqRetire (q : Fin 4) (p : InProg) (d : Dev) : Dev :=
  (d.modHost fun h => { h with busy := h.busy.set (srcIdx (.cq q)) none }).modRing (cqRing q) fun g => { g with lastRetired := some p.index }

/-- The completion of a command, written to its completion ring (R319) or to the Keeper's completions (R412); the source's
command in progress ends. A command whose completion ring is halted has ended and is not complete. During a host-interface reset
the recovery record takes the outcome (R334). -/
def Dev.completeOne (src : CmdSrc) (p : InProg) (o : CmdOut) (d : Dev) : Dev :=
  match src with
  | .cq q =>
    let d := onlyIf d.host.resetCause.isSome (Dev.recordIp q p o) d
    if d.ringOpen (crRing q) then (d.cqRetire q p).ringPut (crRing q) (completionBytes p o)
    else if d.host.resetCause.isSome then d.cqRetire q p
    else d.modHost fun h => { h with busy := h.busy.set (srcIdx src) (some { p with out := some o }) }
  | .keeper =>
    let d := d.modHost fun h => { h with busy := h.busy.set (srcIdx src) none }
    let k := d.keeper
    (d.wrWords (0x308400 + 16 * k.compIdx) (bytesWords (withPhase k.cqPhase (completionBytes p o)))).modKeeper fun k =>
      { k with compIdx := (k.compIdx + 1) % 16, cqPhase := if k.compIdx + 1 = 16 then !k.cqPhase else k.cqPhase }

/-- Whether the arbiter can accept a command of a source: READY, its previous command complete, its completion ring with a
returned slot (R319, R320). -/
def Dev.accepts (src : CmdSrc) (d : Dev) : Bool :=
  d.top.ready && (d.host.busy.get (srcIdx src)).isNone &&
    (match src with
     | .cq q => d.blockReady 14 && d.ringOpen (crRing q)
     | .keeper => true)

/-- The descriptors fetched and not yet accepted, with their ring index. -/
def Dev.fetchedOf (src : CmdSrc) (d : Dev) : List (Nat × List Word) :=
  match src with
  | .cq q => (d.ring (cqRing q)).fetched
  | .keeper => d.keeper.cqFetched

/-- The fetched descriptor of an accepted command leaves its queue, with its external block. -/
def Dev.takeFetched (src : CmdSrc) (d : Dev) : Dev :=
  let d := d.modHost fun h => { h with ext := h.ext.set (srcIdx src) none }
  match src with
  | .cq q => d.modRing (cqRing q) fun g => { g with fetched := g.fetched.drop 1 }
  | .keeper => d.modKeeper fun k => { k with cqFetched := k.cqFetched.drop 1 }

/-- The oldest fetched descriptor ends without running. -/
def Dev.retireHead (src : CmdSrc) (e : Nat × List Word) (o : CmdOut) (d : Dev) : Dev :=
  (d.takeFetched src).completeOne src ⟨b8 (descOp e.2), descSeq e.2, BitVec.ofNat 16 e.1, 0, none, false⟩ o

/-- Up to `n` fetched descriptors whose header fails end at step 1 of R318, each in its turn. -/
def Dev.retireBad : Nat → CmdSrc → Dev → Dev
  | 0, _, d => d
  | n + 1, src, d =>
    match d.fetchedOf src with
    | e :: _ =>
      match headerFail (src = .keeper) e.2 with
      | some i => if d.accepts src then (d.retireHead src e (.invalid i)).retireBad n src else d
      | none => d
    | [] => d

/-- The completion of a command, and of the failing headers behind it. -/
def Dev.complete (src : CmdSrc) (p : InProg) (o : CmdOut) (d : Dev) : Dev := (d.completeOne src p o).retireBad 16 src

/-- A command as it is completed later. -/
def inProg (c : Cmd) (op : Nat) : InProg := ⟨b8 op, c.seq, c.index, 0, none, false⟩

/-! ### The arbiter (R319, R320) -/

/-- The next command of a source: the oldest descriptor fetched, once its external block is here. -/
def Dev.headCmd (src : CmdSrc) (d : Dev) : Option (Nat × Cmd) :=
  match d.fetchedOf src with
  | e :: _ =>
    let c : List Word → Nat × Cmd := fun ws => (descOp e.2, ⟨src, descSeq e.2, BitVec.ofNat 16 e.1, descExt e.2, ws⟩)
    if (headerFail (src = .keeper) e.2).isSome then none
    else if descExt e.2 then (d.host.ext.get (srcIdx src)).map c
    else some (c (e.2.drop 4))
  | [] => none

/-- The objects of R320 that a command can hold beyond its cycle: 1 the client table, 2 the Chart store, 3 the firmware image, 4 the
power manager. -/
def objClass (op : Nat) : Nat :=
  if op = 0x52 || op = 0x53 then 1 else if 0x70 ≤ op && op ≤ 0x74 then 2 else if op = 0x80 || op = 0x81 then 3
  else if op = 0x90 || op = 0x91 then 4 else 0

/-- A command in progress holds an object of class `k`. -/
def Dev.classBusy (k : Nat) (d : Dev) : Bool :=
  (List.finRange 5).any fun i => match d.host.busy.get i with
    | some p => objClass p.op.toNat = k && p.out.isNone
    | none => false

/-- The Chart object is held by a commit or by a tally command that waits (R374). -/
def Dev.chartHeld (d : Dev) : Bool := d.chart.commit.isSome || d.chart.tallyWait.isSome

/-- A PACKET_SEND in progress holds its port (R320). -/
def Dev.portHeld (d : Dev) (p : Fin 8) : Bool := (d.port p).txq.any fun f => f.cmd.isSome

/-- The object of a command is held by an earlier one (R17, R320). -/
def Dev.objectHeld (op : Nat) (c : Cmd) (d : Dev) : Bool :=
  let k := objClass op
  (k ≠ 0 && d.classBusy k) || (k = 2 && d.chartHeld) || (k = 3 && d.fw.activate.isSome) ||
    (k = 4 && (d.pwr.oppCmd.isSome || d.pwr.anchorCmd.isSome)) ||
    ((op = 0x50 || op = 0x54) && d.portHeld (Fin.ofNat 8 (fld (wordAt c.words 0) 0 3)))

/-- A source is ready, and its command need not wait for its object. -/
def Dev.canTake (src : CmdSrc) (d : Dev) : Bool :=
  d.accepts src && (match d.headCmd src with
    | some h => !d.objectHeld h.1 h.2
    | none => false)

/-- The sources in the fixed order of R320. -/
def cmdSources : List CmdSrc := [.cq 0, .keeper, .cq 1, .cq 2, .cq 3]

/-- The source that the arbiter takes: one passed over 256 times in a row, else the first in the fixed order. -/
def Dev.arbiter (d : Dev) : Option CmdSrc :=
  let l := cmdSources.filter fun s => d.canTake s
  match l.find? fun s => 256 ≤ d.host.passed.get (srcIdx s) with
  | some s => some s
  | none => l.head?

/-- The arbiter takes the command `c` of opcode `op` in this cycle. -/
def Dev.takes (op : Nat) (c : Cmd) (d : Dev) : Bool := d.arbiter = some c.src && d.headCmd c.src = some (op, c)

/-- The sources passed over as `src` is taken. -/
def Dev.passOver (src : CmdSrc) (d : Dev) : Dev :=
  d.modHost fun h =>
    { h with passed := cmdSources.foldl (fun v s => v.set (srcIdx s) (if s ≠ src && d.canTake s then v.get (srcIdx s) + 1 else 0)) h.passed }

/-- A command in progress has reached a safe point with `n` done, and goes on from there. -/
def Dev.stay (src : CmdSrc) (n : Nat) (rawWrite : Bool) (d : Dev) : Dev :=
  d.modHost fun h =>
    { h with busy := h.busy.set (srcIdx src) ((h.busy.get (srcIdx src)).map fun p => { p with progress := n, rawWrite := rawWrite }) }

/-- The commands in progress that `f` names end at their last safe point, as `o` says of their progress. -/
def Dev.endWhere (f : InProg → Bool) (o : Nat → CmdOut) (d : Dev) : Dev :=
  cmdSources.foldl (fun d s => match d.host.busy.get (srcIdx s) with
    | some p => if f p && p.out.isNone then d.complete s p (o p.progress) else d
    | none => d) d

/-- The commands in progress of opcode `op` end ABORTED: a BLOCK_RESET of the object's block (Table 12-7). -/
def Dev.abortOps (op : Nat) (d : Dev) : Dev := d.endWhere (fun p => p.op.toNat = op) fun n => .aborted n

/-- The device as a command of the rings runs on it: the sources passed over are counted, its descriptor has left the queue, and its
source has it in progress. -/
def Dev.begun (c : Cmd) (op : Nat) (d : Dev) : Dev :=
  ((d.passOver c.src).takeFetched c.src).modHost fun h => { h with busy := h.busy.set (srcIdx c.src) (some (inProg c op)) }

/-- A command that the arbiter takes: `f` answers how it ends, or none where it stays in progress (R318 to R320). -/
def command (op : Nat) (c : Cmd) (f : Dev → Option CmdOut × Dev) (d : Dev) : Dev :=
  if d.takes op c then
    let r := f (d.begun c op)
    match r.1 with
    | some o => r.2.complete c.src (inProg c op) o
    | none => r.2
  else d

end Sys2Proof.Machine
end

