-- ==== Sys2Proof/Machine/Cascade.lean ====
section
/-! DEFINITION. The upstream of the Tideline cascade (R290 to R298): eligibility, labels, and a link becoming the active upstream. -/

namespace Sys2Proof.Machine

def linkOff (n : Nat) : Nat := 0x280100 + 0x80 * n
def LinkState.code : LinkState → Nat
  | .off => 0 | .sync => 1 | .cal => 2 | .ranging => 3 | .up => 4
def Role.code : Role → Nat
  | .orphan => 0 | .slave => 1 | .master => 2

def Dev.tlCfg (d : Dev) : Word := d.rd 0x280000
/-- The cascade time scale CASC_TS (TL_CFG.TS, R284). -/
def Dev.cascTs (d : Dev) : Fin 4 := Fin.ofNat 4 (d.rdF 0x280000 22 2)
def Dev.tl4Alt (d : Dev) : Bool := bit d.tlCfg 21

/-- A link that may be an upstream: TL0, and TL4 with TL4_ALT = 1. -/
def Dev.upLink (d : Dev) (l : Fin 5) : Bool := l = 0 || (l = 4 && d.tl4Alt)

/-! ### Eligibility (R293) -/

/-- PATH entries that hold IDs. -/
def framePath (f : TideFrame) : List (BitVec 9) := f.path.take (min f.hops.toNat 8)

/-- R293. -/
def Dev.eligible (d : Dev) (l : Fin 5) : Bool :=
  d.upLink l && (d.link l).st = .up && (match (d.link l).last with
    | some f => f.hops.toNat ≤ 8 && !(framePath f).contains d.tide.id && f.senderId ≠ d.tide.id
    | none => false)

/-- The other upstream. -/
def otherUp (l : Fin 5) : Fin 5 := if l = 0 then 4 else 0

/-- The first eligible upstream, TL0 first (R294). -/
def Dev.firstEligible (d : Dev) : Option (Fin 5) := [(0 : Fin 5), 4].find? d.eligible

/-! ### Labels (R296 to R298) -/

/-- The boundary of a frame at the sender's pins, on the timebase. -/
def Dev.tSent (d : Dev) (l : Fin 5) (f : TideFrame) : Int := f.arrival - (d.link l).df

/-- Δ: the label less CASC_TS, in gr. -/
def Dev.labelDelta (d : Dev) (l : Fin 5) (f : TideFrame) : Int := tripleGr f.label - d.tsAt d.cascTs (d.tSent l f)

/-- A number of grains in whole microseconds, rounded. -/
def toUs (g : Int) : Int := roundDiv g 65536000

/-- LABEL_ERR ends with its condition. -/
def Dev.labelCheck (d : Dev) : Dev :=
  if d.tide.lofs ≠ 0 && d.tide.lofs.natAbs < 500000 then d
  else (d.modTide fun t => { t with labelErr := false }).setCond 168 0 false

/-- LOFS set, and published. -/
def Dev.setLofs (v : Int) (d : Dev) : Dev := (d.modTide fun t => { t with lofs := v }).labelCheck

/-! ### The active upstream (R294, Table 11-4) -/

/-- A role change by a row of Table 11-4; RELATED is the active link. -/
def Dev.roleTo (r : Role) (row : Nat) (d : Dev) : Dev :=
  let old := d.tide.role
  let rel := match d.tide.active with
    | some l => l.val
    | none => 0xFF
  (d.modTide fun t => { t with role := r }).stateEv 13 1 0 old.code r.code row rel

/-- What own frames take from the active upstream (R292, R305). -/
def Dev.adopt (f : TideFrame) (d : Dev) : Dev :=
  d.modTide fun t => { t with mPrio := f.mPrio, mId := f.mId, masterLost := f.masterLost, hops := f.hops.toNat,
                              path := if f.hops.toNat ≤ 7 then framePath f ++ [t.id] else framePath f,
                              masterCh := f.masterChState, masterTs := f.masterTsState, phaseAcc := f.phaseAcc }

/-- No message of the master has been applied yet (R300, log entry 106). -/
def Dev.msgsAfresh (d : Dev) : Dev := d.modTide fun t => { t with stepSeq := none, leapSeq := none, utcSeq := none }

/-- A link becomes active: LOFS takes its rounded Δ (R296). The messages of another master are taken afresh. -/
def Dev.activate (l : Fin 5) (d : Dev) : Dev :=
  let d := d.modTide fun t => { t with active := some l }
  match (d.link l).last with
  | some f =>
    let d := onlyIf (f.mId ≠ d.tide.mId) Dev.msgsAfresh d
    let x := d.labelDelta l f
    ((d.modTide fun t => { t with srcLabel := tripleGr f.label, srcAt := d.tSent l f }).setLofs (toUs x)).adopt f
  | none => d

/-- Row 5: an eligible link for an ORPHAN, once slot 60 is down (R295). -/
def Dev.orphanJoin (d : Dev) : Dev :=
  if d.tide.role = .orphan && (d.buoy 60).act.st ≠ .up then
    match d.firstEligible with
    | some l => (d.activate l).roleTo .slave 5
    | none => d
  else d

end Sys2Proof.Machine
end

