-- ==== Sys2Proof/Machine/LanOut.lean ====
section
/-! DEFINITION. Lanterns, clock outputs and video outputs (chapters 7 and 8): frequency plan, states, pins, mute causes. -/

namespace Sys2Proof.Machine

/-! ### Addresses and the frequency plan (Table 7-1) -/

def lanOff (n : Nat) : Nat := 0x140000 + 0x100 * n
def outOff (m : Nat) : Nat := 0x141000 + 0x40 * m
def voutOff (k : Nat) : Nat := 0x181000 + 0x40 * k
def chanOff (n : Nat) : Nat := 0x100000 + 0x1000 * n
def tsOff (n : Nat) : Nat := 0x1C0000 + 0x100 * n
def sigOff (m : Nat) : Nat := 0x1C1000 + 0x10 * m

/-- f_XO in hertz: CLK_XO_CFG.FREQ (R192). -/
def Dev.fXo (d : Dev) : Nat := d.rdF 0x10000 0 28

/-- f_V as numerator and denominator, for an image of LANn_CFG, NNUM and NDEN. -/
def vcoOf (fxo : Nat) (cfg nnum nden : Word) : Nat × Nat :=
  (fxo * (fld cfg 0 11 * fld nden 0 24 + fld nnum 0 24), fld nden 0 24)

/-- f_V lies from 10.0 to 12.5 GHz with NINT from 40 to 1,250 (R192). -/
def vcoOk (fxo : Nat) (cfg nnum nden : Word) : Bool :=
  let f := vcoOf fxo cfg nnum nden
  40 ≤ fld cfg 0 11 && fld cfg 0 11 ≤ 1250 && 10000000000 * f.2 ≤ f.1 && f.1 ≤ 12500000000 * f.2

def Dev.lanCfg (d : Dev) (n : Nat) : Word := d.rd (lanOff n)
def Dev.lanSteer (d : Dev) (n : Nat) : Bool := bit (d.lanCfg n) 27
def Dev.lanChan (d : Dev) (n : Nat) : Fin 16 := Fin.ofNat 16 (fld (d.lanCfg n) 28 4)
def Dev.lanVco (d : Dev) (n : Nat) : Nat × Nat := vcoOf d.fXo (d.lanCfg n) (d.rd (lanOff n + 4)) (d.rd (lanOff n + 8))
def Dev.lanDiv (d : Dev) (n : Nat) : Nat := fld (d.lanCfg n) 24 3 + 4

/-- The ratio N of R193 times 2^64, from the FFO word the Lantern received last; its 64 fraction bits are rounded down (log entry
152). A ratio not set up (NDEN = 0) is 0. -/
def Dev.lanRatio (d : Dev) (n : Fin 8) : Nat :=
  let den := d.rdF (lanOff n + 8) 0 24
  (((d.rdF (lanOff n) 0 11 * den + d.rdF (lanOff n + 4) 0 24 : Nat) : Int) * ((2 : Int) ^ 48 + (d.lan n).y) * 65536 / den).toNat

/-- f_V in hertz times 2^64, as the Lantern applies it: every output of the Lantern divides it (R193). -/
def Dev.lanFreq (d : Dev) (n : Fin 8) : Nat := d.fXo * d.lanRatio n

/-- The divider of an output, (OD + FNUM / FDEN) × SDIV, as numerator and denominator. -/
def outRatio (div div2 fnum fden : Word) : Nat × Nat :=
  (((fld div 0 20 + 1) * fld fden 0 24 + fld fnum 0 24) * (fld div2 0 20 + 1), fld fden 0 24)

/-- FNUM and FDEN of an output; those of OUT16–OUT47 stand at 0 and 1. -/
def Dev.outFnum (d : Dev) (m : Nat) : Word := if m < 16 then d.rd (outOff m + 0xC) else 0
def Dev.outFden (d : Dev) (m : Nat) : Word := if m < 16 then d.rd (outOff m + 0x10) else 1

/-- f_OUT of an output as numerator and denominator, for the divider given. -/
def Dev.fOut (d : Dev) (lan : Nat) (r : Nat × Nat) : Nat × Nat :=
  let f := d.lanVco lan
  (f.1 * r.2, f.2 * d.lanDiv lan * r.1)

/-- The greatest f_OUT of a format in hertz (Table 7-4). -/
def fmtMax (fmt : Nat) : Nat := [0, 1000000000, 400000000, 1500000000, 1500000000, 250000000, 0, 0].getD fmt 0

/-- Failing fields of an output's images CFG, DIV, DIV2, FNUM, FDEN, PHASE, as (word, bit), of a rule over several fields the first
(R199, R204, R318). f_OUT is judged while it exists: the Lantern has a valid NINT and FDEN is not 0; with FORMAT OFF only 1 Hz
limits it (log entry 10). -/
def Dev.outBad (d : Dev) (m : Nat) (cfg div div2 fnum fden phase : Word) : List (Nat × Nat) :=
  let fmt := fld cfg 25 3
  let lan := fld cfg 28 3
  let r := outRatio div div2 fnum fden
  let f := d.fOut lan r
  let nint := fld (d.lanCfg lan) 0 11
  (if 6 ≤ fmt then [(0, 25)] else []) ++
  (if fld cfg 20 2 = 3 then [(0, 20)] else []) ++
  (if fmt ≠ 5 && fld cfg 20 2 ≠ 0 then [(0, 20)] else []) ++
  (if fld fden 0 24 = 0 then [(4, 0)] else []) ++
  (if if m < 16 then fld fden 0 24 ≤ fld fnum 0 24 else fld fnum 0 24 ≠ 0 then [(3, 0)] else []) ++
  (if m < 16 && fld fnum 0 24 ≠ 0 && fld div 0 20 = 0 then [(1, 0)] else []) ++
  (if fld fden 0 24 ≠ 0 && 40 ≤ nint && (f.1 < f.2 || (fmt ≠ 0 && fmt < 6 && fmtMax fmt * f.2 < f.1)) then [(0, 25)] else []) ++
  (if r.2 * (fld phase 8 24 + 1) > d.lanDiv lan * r.1 then [(0, 28)] else [])

/-! ### Signals on outputs (Table 8-8, R233) -/

/-- FS in hertz. -/
def fsHz (c : Nat) : Nat := [32000, 44100, 48000, 88200, 96000, 176400, 192000].getD c 0

/-- `f.1 / f.2` lies more than 1 ppm from `v` hertz. -/
def offPpm (f : Nat × Nat) (v : Nat) : Bool :=
  decide ((1000000 * ((f.1 : Int) - v * f.2)).natAbs > v * f.2)

/-- SIG_ERR of output m: f_OUT more than 1 ppm from what its signal requires. -/
def Dev.sigErr (d : Dev) (m : Nat) : Bool :=
  let cfg := d.rd (outOff m)
  let sg := d.rd (sigOff m)
  if !bit cfg 24 then false
  else
    let r := outRatio (d.rd (outOff m + 4)) (d.rd (outOff m + 8)) (d.outFnum m) (d.outFden m)
    let f := d.fOut (fld cfg 28 3) r
    if f.1 = 0 || f.2 = 0 then true
    else match fld sg 29 3 with
      | 0 =>
        let n := (2 * f.1 + f.2) / (2 * f.2)
        n = 0 || offPpm f n
      | 1 => (List.range 8).all fun j => offPpm f (2 ^ (j + 1) * fsHz (fld sg 25 3))
      | 2 => f.1 * 1000000 < 999999 * 1000000 * f.2 || f.1 * 1000000 > 250000000 * 1000001 * f.2
      | _ => offPpm f (128 * fsHz (fld sg 25 3))

/-! ### Clock outputs (R206 to R211) -/

def Dev.outLan (d : Dev) (m : Nat) : Fin 8 := Fin.ofNat 8 (d.rdF (outOff m) 28 3)
def Dev.outEn (d : Dev) (m : Nat) : Bool := bit (d.rd (outOff m)) 31

/-- M_LOST of an output: its steering channel is LOST with MUTE_ON_LOST = 1 (Table 7-5). -/
def Dev.mLost (d : Dev) (m : Fin 48) : Bool :=
  let n := d.outLan m
  let c := d.lanChan n
  d.lanSteer n && (d.chan c).st = .lost && bit (d.rd (chanOff c + 4)) 16

/-- A mute cause other than M_REALIGN holds (Table 7-5). -/
def Dev.outMuted (d : Dev) (m : Fin 48) : Bool :=
  let o := d.out m
  !d.lanSteer (d.outLan m) || o.mLan || d.mLost m || o.mWatch || o.mAnchor

/-- The start condition of R206, M_REALIGN apart, with the hold of R233. -/
def Dev.outWants (d : Dev) (m : Fin 48) : Bool :=
  d.outEn m && d.rdF (outOff m) 25 3 != 0 && !d.outMuted m && (d.lan (d.outLan m)).st = .locked && !d.sigErr m

/-- M_LANLOCK after the state of the output's Lantern is taken in (Table 7-5). -/
def Dev.lanLatch (d : Dev) (n : Fin 8) (was : Bool) : Bool :=
  if (d.lan n).st = .locked then was && !bit (d.lanCfg n) 22 else was || d.lanSteer n

/-- A pin after its start condition has been taken in: a start waits for its edge, a stop for its own (R207 to R209). -/
def pinNext (wants mute : Bool) : PinState → PinState
  | .stopped => if wants then .starting else .stopped
  | .starting => if wants then .starting else .stopped
  | .running => if wants then .running else .stopping mute
  | .stopping m => .stopping m

/-- An output that is not running takes a new COARSE and FINE at once (R205). -/
def outPhaseTake (ph : Word) (o : Out) : Out :=
  match o.pin with
  | .stopped | .starting => { o with coarse := fld ph 8 24, fine := fld ph 0 7 }
  | _ => o

/-- An output after a change of anything its start condition reads. -/
def Dev.outRefresh (m : Fin 48) (d : Dev) : Dev :=
  let d := d.modOut m fun o => { o with mLan := d.lanLatch (d.outLan m) o.mLan }
  let w := d.outWants m && !(d.out m).mRealign
  let mute := d.outMuted m || (d.out m).mRealign || (d.lan (d.outLan m)).st ≠ .locked
  let ph := d.rd (outOff m + 0x14)
  d.modOut m fun o =>
    let o := { o with pin := pinNext w mute o.pin }
    -- an output that stopped for a re-alignment restarts while its other conditions hold
    let o := if o.mRealign && o.pin = .stopped then
        (if d.outWants m then { o with pin := .starting } else { o with mRealign := false }) else o
    let o := if o.mRealign && o.pin = .starting && !d.outWants m then { o with pin := .stopped, mRealign := false } else o
    outPhaseTake ph o

/-! ### Video outputs (R235 to R238) -/

/-- The DAC rate of a format as numerator and denominator in hertz (Table 8-9); none for a code without a format. -/
def dacRate (fmt : Nat) : Option (Nat × Nat) :=
  if fmt = 0x01 || fmt = 0x02 || fmt = 0x10 || fmt = 0x15 || fmt = 0x20 || fmt = 0x12 || fmt = 0x17 || fmt = 0x22 ||
    fmt = 0x14 || fmt = 0x18 || fmt = 0x1A then some (148500000, 1)
  else if fmt = 0x11 || fmt = 0x16 || fmt = 0x21 || fmt = 0x13 || fmt = 0x19 then some (148500000000, 1001)
  else none

/-- Samples per line and pixel clock of a format (Table 8-9). -/
def pixels (fmt : Nat) : Nat × (Nat × Nat) :=
  let hd := (74250000, 1)
  let hdm := (74250000000, 1001)
  if fmt = 0x01 then (858, (13500000, 1)) else if fmt = 0x02 then (864, (13500000, 1))
  else if fmt = 0x10 || fmt = 0x15 then (2640, hd) else if fmt = 0x20 then (1980, hd)
  else if fmt = 0x12 || fmt = 0x17 then (2200, hd) else if fmt = 0x22 then (1650, hd) else if fmt = 0x14 then (2750, hd)
  else if fmt = 0x11 || fmt = 0x16 then (2200, hdm) else if fmt = 0x21 then (1650, hdm) else if fmt = 0x13 then (2750, hdm)
  else if fmt = 0x18 then (2640, (148500000, 1)) else if fmt = 0x1A then (2200, (148500000, 1))
  else (2200, (148500000000, 1001))

/-- Lines per frame of a format (Table 3-4). -/
def linesOf (fmt : Nat) : Nat :=
  if fmt = 0x01 then 525 else if fmt = 0x02 then 625 else if 0x20 ≤ fmt then 750 else 1125

def Dev.voutFmt (d : Dev) (k : Nat) : Nat := d.rdF (voutOff k) 16 8
def Dev.voutLan (d : Dev) (k : Nat) : Fin 8 := Fin.ofNat 8 (d.rdF (voutOff k) 28 3)

/-- RATE_ERR: the sample clock is more than 1 ppm from the DAC rate (R235). -/
def Dev.rateErr (d : Dev) (k : Nat) : Bool :=
  match dacRate (d.voutFmt k) with
  | none => false
  | some (p, q) =>
    let n := d.voutLan k
    let f := d.lanVco n
    let fden := d.rdF (voutOff k + 0xC) 0 24
    let r := (d.rdF (voutOff k + 4) 0 20 + 1) * fden + d.rdF (voutOff k + 8) 0 24
    let a : Int := f.1 * fden * q
    let b : Int := f.2 * d.lanDiv n * r * p
    b = 0 || decide ((1000000 * (a - b)).natAbs > b.natAbs)

def Dev.voutMuted (d : Dev) (k : Fin 8) : Bool := let o := d.vout k; o.mLan || o.mWatch || o.mAnchor

/-- The start condition of R237. -/
def Dev.voutWants (d : Dev) (k : Fin 8) : Bool :=
  bit (d.rd (voutOff k)) 31 && d.voutFmt k != 0 && !d.rateErr k && !d.voutMuted k

/-- A video output after a change of anything its start condition reads. -/
def Dev.voutRefresh (k : Fin 8) (d : Dev) : Dev :=
  let n := d.voutLan k
  let d := d.modVout k fun o =>
    { o with mLan := if (d.lan n).st = .locked then o.mLan && !bit (d.lanCfg n) 22 else true }
  let w := d.voutWants k
  let mute := d.voutMuted k
  d.modVout k fun o =>
    let p := pinNext w mute o.pin
    { o with pin := p, transition := o.transition && p = .running }

/-! ### Lanterns (Table 7-3) -/

def LanState.code : LanState → Nat
  | .off => 0 | .calibrating => 1 | .acquiring => 2 | .locked => 3 | .unlocked => 4

/-- The outputs and video outputs routed to a Lantern take in its state. -/
def Dev.routedRefresh (n : Fin 8) (d : Dev) : Dev :=
  forFin 8 (fun k d => onlyIf (d.voutLan k = n) (Dev.voutRefresh k) d)
    (forFin 48 (fun m d => onlyIf (d.outLan m = n) (Dev.outRefresh m) d) d)

/-- A Lantern enters a state by a row of Table 7-3, with the row's STATE event. -/
def Dev.lanTo (n : Fin 8) (st : LanState) (row : Nat) (d : Dev) : Dev :=
  let old := (d.lan n).st
  ((d.modLan n fun l => { l with st := st }).stateEv 9 0 n old.code st.code row 0xFF).routedRefresh n

/-- A Lantern runs: STEER_EN, XO qualified, and not shed (R212, R356, R359). -/
def Dev.lanPower (d : Dev) (n : Fin 8) : Bool :=
  d.lanSteer n && d.clk.xo && !(d.shed && (d.pwr.anchorCmd.isSome || !bit (d.rd 0x020008) n))

/-- Rows 1 and 3 of Table 7-3, whose conditions are levels. -/
def Dev.lanLevel (n : Fin 8) (d : Dev) : Dev :=
  if (d.lan n).st ≠ .off && !d.lanPower n then d.lanTo n .off 1
  else if (d.lan n).st = .off && d.lanPower n then d.lanTo n .calibrating 3
  else d.routedRefresh n

/-- What an accepted change of a Lantern's words leads to: row 1, row 3, or row 2 where the ratio or LBW changed (R198). -/
def Dev.lanChanged (n : Fin 8) (ratio : Bool) (d : Dev) : Dev :=
  if (d.lan n).st ≠ .off && d.lanPower n && ratio then d.lanTo n .calibrating 2 else d.lanLevel n

/-- FS112 + n, the Lantern-unlock source. -/
def lanSource (n : Fin 8) : Fin 192 := ⟨112 + n.val, by omega⟩

/-- LANTERN_BAND_FOUND: row 4. -/
def lanBandFound (l : Fin 8) (band : BitVec 8) (d : Dev) : Dev :=
  if (d.lan l).st = .calibrating then (d.modLan l fun x => { x with band := band, vcoLow := false }).lanTo l .acquiring 4 else d

/-- LANTERN_CAL_TIMEOUT: row 5. -/
def lanCalTimeout (l : Fin 8) (d : Dev) : Dev :=
  if (d.lan l).st = .calibrating then ((d.bump (lanOff l + 0x14) 8 8).occur (lanSource l) l).lanTo l .unlocked 5 else d

/-- LANTERN_LOCK: row 6, the alignment of R202 and the skew correction of R203. -/
def lanLock (l : Fin 8) (skew : BitVec 16) (d : Dev) : Dev :=
  if (d.lan l).st = .acquiring then
    let d := d.bump (lanOff l + 0x14) 0 8
    let d := if bit (d.lanCfg l) 23 then
        (d.modLan l fun x => { x with grid := 0 }).wr (lanOff l + 0x18) (word skew.toNat) else d
    d.lanTo l .locked 6
  else d

/-- LANTERN_ACQ_TIMEOUT: row 7. -/
def lanAcqTimeout (l : Fin 8) (d : Dev) : Dev :=
  if (d.lan l).st = .acquiring then (d.occur (lanSource l) l).lanTo l .unlocked 7 else d

/-- LANTERN_UNLOCK: row 8. -/
def lanUnlock (l : Fin 8) (ampLow : Bool) (d : Dev) : Dev :=
  if (d.lan l).st = .locked then
    (((d.modLan l fun x => { x with vcoLow := ampLow }).bump (lanOff l + 0x14) 16 16).occur (lanSource l) l).lanTo l .unlocked 8
  else d

/-- LANTERN_RECAL: row 9. -/
def lanRecal (l : Fin 8) (d : Dev) : Dev :=
  if (d.lan l).st = .unlocked then d.lanTo l .calibrating 9 else d

/-- The Lanterns take in a change of the qualification of XO (R196). -/
def Dev.lanternsXo (d : Dev) : Dev := forFin 8 Dev.lanLevel d

/-- The outputs take in the state of their steering channel: M_LOST (Table 7-5). -/
def Dev.chanOutputs (c : Fin 16) (d : Dev) : Dev :=
  forFin 48 (fun m d => onlyIf (d.lanChan (d.outLan m) = c) (Dev.outRefresh m) d) d

/-- R211: a JUMP by D grains of channel c. Every ALIGN Lantern that it steers moves its grid by −D, and its running outputs
take M_REALIGN. -/
def Dev.realign (c : Fin 16) (jump : Int) (d : Dev) : Dev :=
  forFin 8 (fun n d =>
    if d.lanSteer n && d.lanChan n = c && bit (d.lanCfg n) 23 then
      let moved := (List.finRange 48).filter fun (m : Fin 48) => d.outLan m = n && (d.out m).pin = .running
      let d := d.modLan n fun l => { l with grid := l.grid - jump }
      match moved with
      | [] => d
      | m :: _ =>
        let d := moved.foldl (fun d m => (d.modOut m fun o => { o with mRealign := true }).outRefresh m) d
        (d.bump (lanOff n + 0x14) 0 8).event 0x0C n 9 [b8 m]
    else d) d

/-! ### Pins -/

/-- A start edge of an output (R207). -/
def outStart (m : Fin 48) (d : Dev) : Dev :=
  if (d.out m).pin = .starting && d.outWants m then d.modOut m fun o => { o with pin := .running, mRealign := false, resume := none }
  else d

/-- A stop: counted under R210 when a mute cause asked for it; a start that waits then takes effect (R209). -/
def Dev.outHalt (m : Fin 48) (mute : Bool) (d : Dev) : Dev :=
  let d := d.modOut m fun o => { o with pin := .stopped }
  let d := if mute then (d.bump (outOff m + 0x24) 16 16).occur 120 m else d
  d.outRefresh m

/-- The falling edge at which an output stops (R208). -/
def outStop (m : Fin 48) (d : Dev) : Dev :=
  match (d.out m).pin with
  | .stopping mute => d.outHalt m mute
  | _ => d

/-- R208: no falling edge arrives, so the mute level is forced, counted and logged. -/
def outForcedStop (m : Fin 48) (d : Dev) : Dev :=
  match (d.out m).pin with
  | .stopping mute => ((d.bump (outOff m + 0x24) 0 16).logEnt 0x82 m 9 [b8 m]).outHalt m mute
  | _ => d

/-- One step of a phase adjustment: COARSE moves by one VCO period, else FINE moves (R205, log entry 11). -/
def phaseStep (m : Fin 48) (d : Dev) : Dev :=
  let ph := d.rd (outOff m + 0x14)
  let c := fld ph 8 24
  d.modOut m fun o =>
    if o.pin = .running then
      if o.coarse < c then { o with coarse := o.coarse + 1 }
      else if c < o.coarse then { o with coarse := o.coarse - 1 }
      else { o with fine := fld ph 0 7 }
    else o

/-- OUTm_STATUS.ADJ_BUSY (R205). -/
def Dev.adjBusy (d : Dev) (m : Fin 48) : Bool :=
  let o := d.out m
  let ph := d.rd (outOff m + 0x14)
  o.coarse ≠ fld ph 8 24 || o.fine ≠ fld ph 0 7

/-- What the pair of pins of an output does (R206, R212). -/
inductive PinLevel where
  | driven
  | pLowNHigh
  | bothLow
  | highZ
deriving DecidableEq, Repr

/-- OUTm_STATUS.RUNNING (R206): 1 until the stop edge. -/
def PinState.on : PinState → Bool
  | .running | .stopping _ => true
  | _ => false

/-- The pins of output m (R206, R212, Table 7-4): driven until the stop edge; stopped, at the mute level of the format, or
high-impedance with FORMAT OFF or MUTE_HIZ = 1. -/
def Dev.outLevel (d : Dev) (m : Fin 48) : PinLevel :=
  let cfg := d.rd (outOff m)
  if (d.out m).pin.on then .driven
  else if fld cfg 25 3 = 0 || bit cfg 19 then .highZ
  else if fld cfg 25 3 = 5 then .bothLow
  else .pLowNHigh

/-- The first frame start of a video output (R237). -/
def voutBegin (k : Fin 8) (d : Dev) : Dev :=
  if (d.vout k).pin = .starting && d.voutWants k then d.modVout k fun o => { o with pin := .running } else d

/-- The end of the line on which a video output stops (R237). -/
def voutEnd (k : Fin 8) (d : Dev) : Dev :=
  match (d.vout k).pin with
  | .stopping mute =>
    ((d.modVout k fun o => { o with pin := .stopped }).bumpBy (if mute then 1 else 0) (voutOff k + 0x24) 16 16).voutRefresh k
  | _ => d

/-- R237: the sample clock is absent for 100 ns; an analog switch forces 0 V. -/
def voutForce (k : Fin 8) (d : Dev) : Dev :=
  if (d.vout k).pin.on then
    ((d.modVout k fun o => { o with pin := .stopped, transition := false }).bump (voutOff k + 0x24) 16 16).voutRefresh k
  else d

/-- R238: the first 0H of the new grid. -/
def voutNewGrid (k : Fin 8) (d : Dev) : Dev :=
  if (d.vout k).transition then (d.modVout k fun o => { o with transition := false, resume := none }).bump (voutOff k + 0x24) 0 16 else d

/-! ### The meanings -/

def execLanternBandFound (l : Fin 8) (band : BitVec 8) (s : State) : Host.Outcome State Fault Refusal := run (lanBandFound l band) s
def execLanternCalTimeout (l : Fin 8) (s : State) : Host.Outcome State Fault Refusal := run (lanCalTimeout l) s
def execLanternLock (l : Fin 8) (skewPs : BitVec 16) (s : State) : Host.Outcome State Fault Refusal := run (lanLock l skewPs) s
def execLanternAcqTimeout (l : Fin 8) (s : State) : Host.Outcome State Fault Refusal := run (lanAcqTimeout l) s
def execLanternUnlock (l : Fin 8) (ampLow : Bool) (s : State) : Host.Outcome State Fault Refusal := run (lanUnlock l ampLow) s
def execLanternRecal (l : Fin 8) (s : State) : Host.Outcome State Fault Refusal := run (lanRecal l) s
def execOutputStart (m : Fin 48) (s : State) : Host.Outcome State Fault Refusal := run (outStart m) s
def execOutputStop (m : Fin 48) (s : State) : Host.Outcome State Fault Refusal := run (outStop m) s
def execOutputForcedStop (m : Fin 48) (s : State) : Host.Outcome State Fault Refusal := run (outForcedStop m) s
def execPhaseAdjustStep (m : Fin 48) (s : State) : Host.Outcome State Fault Refusal := run (phaseStep m) s
def execVoutStart (k : Fin 8) (s : State) : Host.Outcome State Fault Refusal := run (voutBegin k) s
def execVoutStop (k : Fin 8) (s : State) : Host.Outcome State Fault Refusal := run (voutEnd k) s
def execVoutClockLoss (k : Fin 8) (s : State) : Host.Outcome State Fault Refusal := run (voutForce k) s
def execVoutRealign (k : Fin 8) (s : State) : Host.Outcome State Fault Refusal := run (voutNewGrid k) s

end Sys2Proof.Machine
end

