-- ==== Sys2Proof/Machine/Load.lean ====
section
/-! DEFINITION. What the Pilot service costs: when it runs, the tokens of the Breakwater, and its load (R271, R275, R276, R281). -/

namespace Sys2Proof.Machine

def portOff (n : Nat) : Nat := 0x200000 + 0x400 * n
def Dev.portCfg (d : Dev) (p : Fin 8) : Word := d.rd (portOff p)
def Dev.portRate (d : Dev) (p : Fin 8) : Nat := fld (d.portCfg p) 29 2
def Dev.portTs (d : Dev) (p : Fin 8) : Fin 4 := Fin.ofNat 4 (fld (d.portCfg p) 25 2)

/-- TS_UNSET (R246). -/
def Dev.portUnset (d : Dev) (p : Fin 8) : Bool := (d.tsc (d.portTs p)).st = .unset

def psrvOff (n : Nat) : Nat := 0x211000 + 0x100 * n

/-- The Pilots and Sounding engines run: microcode loaded (R423), not shed (R356), their block and the timebase up. -/
def Dev.pilotsOn (d : Dev) : Bool :=
  d.pilot.microcode && !d.shed && d.blockReady 12 && d.clk.xo

/-! ### The Breakwater (R281, R282) -/

def Dev.bwBurst (d : Dev) (p : Nat) : Nat := d.rdF (psrvOff p + 0xC) 16 16
/-- Tokens per second. -/
def Dev.bwRate (d : Dev) (p : Fin 8) : Nat := d.rdF (psrvOff p + 0xC) 0 16 * (if (d.port p).settling then 4 else 16)

/-- A bucket at this moment: tokens gained since it was last counted, up to BW_BURST. -/
def Dev.bucketNow (d : Dev) (p : Fin 8) (b : Bucket) : Bucket :=
  ⟨min (d.bwBurst p * 1000000) (b.micro + (d.clk.tbUs - b.at_) * d.bwRate p), d.clk.tbUs⟩

/-- The buckets of a port counted up to this moment, the untouched ones too: before its rate or BW_BURST changes. -/
def Dev.bucketsSync (p : Fin 8) (d : Dev) : Dev :=
  d.modPort p fun x => { x with buckets := x.buckets.map (fun e => (e.1, d.bucketNow p e.2)), untouched := d.bucketNow p x.untouched }

/-! ### The server (R271) -/

def Dev.psrv (d : Dev) (p : Nat) : Word := d.rd (psrvOff p)
def Dev.psrvTwoStep (d : Dev) (p : Nat) : Bool := bit (d.psrv p) 23

/-- R271: the server of port p serves. -/
def Dev.serving (d : Dev) (p : Fin 8) : Bool :=
  bit (d.psrv p) 31 && (d.port p).st = .up && !d.portUnset p && d.pilotsOn

/-- Multicast service: MC_EN, in every profile but 5. -/
def Dev.mcOn (d : Dev) (p : Fin 8) : Bool := d.serving p && bit (d.psrv p) 29 && fld (d.psrv p) 26 3 ≠ 5

/-! ### Load and capacity (R275, R276) -/

/-- Sixteen times the messages per second at log interval L (L from −7 to +4). -/
def rate16 (l : Int) : Nat := 2 ^ (4 - l).toNat

/-- Cost of one message of a grant, in LU. -/
def grantCost (kind : GrantKind) (twoStep : Bool) : Nat :=
  match kind with
  | .sync => if twoStep then 7 else 4
  | .delayResp => 7
  | .announce => 3

def grantLoad (kind : GrantKind) (twoStep : Bool) (g : Option Grant) : Nat :=
  match g with
  | some g => rate16 g.logInt * grantCost kind twoStep
  | none => 0

/-- Sixteen times the load of an entry. -/
def entryLoad (e : Entry) : Nat :=
  grantLoad .sync e.twoStep e.sync + grantLoad .announce e.twoStep e.ann + grantLoad .delayResp e.twoStep e.dresp

/-- Sixteen times the load of the multicast service of port p. -/
def Dev.mcLoad (d : Dev) (p : Fin 8) : Nat :=
  if d.mcOn p then
    rate16 (sfld (d.psrv p) 10 4) * grantCost .sync (d.psrvTwoStep p) + rate16 (sfld (d.psrv p) 6 4) * 3
  else 0

/-- Sixteen times LOAD. -/
def Dev.load16 (d : Dev) : Nat :=
  (d.pilot.entries.map fun e => entryLoad e.2).sum + ((List.finRange 8).map d.mcLoad).sum

/-- CAP at the operating point in force (Table 10-5). -/
def Dev.cap (d : Dev) : Nat := [53687091, 134217728, 214748364, 268435456].getD d.pwr.inForce.toNat 0

/-- OVERLOAD. -/
def Dev.overload (d : Dev) : Bool := 16 * d.cap < d.load16

/-- The Pilot-overload source follows OVERLOAD. -/
def Dev.loadRefresh (d : Dev) : Dev := d.setCond 146 0 d.overload

end Sys2Proof.Machine
end

