-- ==== Sys2Proof/Machine/Signal.lean ====
section
/-! DEFINITION. Alignment to ST 2059-1, UTC and local time, and what the broadcast signals carry (R225, R227, R231 to R236). -/

namespace Sys2Proof.Machine

/-! ### Sequences (R231) -/

/-- Sequences of period `p.1 / p.2` seconds begun by TS = `g` grains: k of R231. -/
def seqBegun (p : Nat × Nat) (g : Int) : Int := g * p.2 / (p.1 * grPerSec : Nat)

/-- Where sequence k begins, to the nearest grain (R231). -/
def seqStart (p : Nat × Nat) (k : Int) : Int := roundDiv (k * (p.1 * grPerSec : Nat)) p.2

/-- next_start of R231. -/
def nextStart (p : Nat × Nat) (g : Int) : Int := seqStart p (seqBegun p g + 1)

/-- The number of the first sequence that begins at or after `g`. -/
def seqFrom (p : Nat × Nat) (g : Int) : Int := -(-(g * p.2) / (p.1 * grPerSec : Nat))

/-- The first alignment point at or after `g`. -/
def alignFrom (p : Nat × Nat) (g : Int) : Int := seqStart p (seqFrom p g)

/-- The frame period of an LTC rate code (Table 3-4's FORMAT codes of LTC). -/
def ltcPeriod (code : Nat) : Nat × Nat := [(1, 24), (1, 24), (1, 25), (1001, 30000), (1001, 30000), (1, 30)].getD code (1, 30)

/-- The frame period of a video format (Table 3-4). -/
def framePeriod (fmt : Nat) : Nat × Nat :=
  if fmt = 0x02 || fmt = 0x10 || fmt = 0x15 then (1, 25) else if fmt = 0x12 || fmt = 0x17 then (1, 30)
  else if fmt = 0x13 then (1001, 24000) else if fmt = 0x14 then (1, 24) else if fmt = 0x18 || fmt = 0x20 then (1, 50)
  else if fmt = 0x19 || fmt = 0x21 then (1001, 60000) else if fmt = 0x1A || fmt = 0x22 then (1, 60) else (1001, 30000)

/-- Frames in a sequence of a video format (Table 8-7). -/
def seqFrames (fmt : Nat) : Nat := if fmt = 0x01 then 5 else if fmt = 0x02 then 4 else 1

/-- The sequence period of a video format (Table 8-7). -/
def voutPeriod (fmt : Nat) : Nat × Nat := let p := framePeriod fmt; (seqFrames fmt * p.1, p.2)

/-- The sequence period of the signal that a TS_OUTm_SIG word selects (Table 8-7). -/
def sigPeriod (sg : Word) : Nat × Nat :=
  match fld sg 29 3 with
  | 0 => (1, 1)
  | 1 => (1, fsHz (fld sg 25 3))
  | 2 => ltcPeriod (fld sg 22 3)
  | _ => (192, fsHz (fld sg 25 3))

/-! ### UTC and local time (R225, R226) -/

def Dev.utcOffset (d : Dev) (n : Nat) : Nat := d.rdF (tsOff n + 4) 0 10
def Dev.leapNotice (d : Dev) (n : Nat) : Nat := d.rdF (tsOff n + 4) 16 5

/-- The second, on the old offset, at whose edge the pending leap changes UTC_OFFSET (R226). -/
def leapEdge (off : Nat) (del : Bool) (day : Nat) : Nat := (day + 1) * 86400 + off + 1 - (if del then 2 else 0)

/-- Whether the notice of a pending leap has begun at TS = `gr` (R227). -/
def Dev.noticeDue (d : Dev) (n : Fin 4) (gr : Int) : Bool :=
  match (d.tsc n).leap with
  | some (del, day) => ((leapEdge (d.utcOffset n) del day : Int) - d.leapNotice n * 3600) * grPerSec ≤ gr
  | none => false

/-- LEAP61 or LEAP59 as TS = `gr` has it (R227). -/
def Dev.noticeJudge (n : Fin 4) (gr : Int) (d : Dev) : Dev := d.modTs n fun t => { t with notice := d.noticeDue n gr }

/-- The instant `gr` lies in an inserted second (R226). -/
def Dev.inserted (d : Dev) (n : Fin 4) (gr : Int) : Bool :=
  match (d.tsc n).leap with
  | some (false, day) => gr / grPerSec = (leapEdge (d.utcOffset n) false day : Int) - 1
  | _ => false

/-- A date and time of day: the day from 1970-01-01, the second of the day (86,400 in an inserted second) and grains. -/
structure DayTime where
  day : Int
  sec : Nat
  gr : Nat
deriving DecidableEq, Repr

/-- The UTC count at TS = `gr`, in grains: it stays in 23:59:59 while a second is inserted, so that labels repeat (R225, R234). -/
def Dev.utcCount (d : Dev) (n : Fin 4) (gr : Int) : Int :=
  gr - d.utcOffset n * grPerSec - (if d.inserted n gr then grPerSec else 0)

/-- UTC at TS = `gr` (R225, R226). -/
def Dev.utcAt (d : Dev) (n : Fin 4) (gr : Int) : DayTime :=
  let c := d.utcCount n gr
  let s := c / grPerSec
  ⟨s / 86400, (s % 86400).toNat + (if d.inserted n gr then 1 else 0), (c % grPerSec).toNat⟩

/-- The local count: the UTC count plus LOCAL_OFS (R225). -/
def Dev.localCount (d : Dev) (n : Fin 4) (gr : Int) : Int := d.utcCount n gr + sfld (d.rd (tsOff n + 8)) 0 18 * grPerSec

/-! ### LTC and AES11 (R234) -/

/-- The label of an LTC frame; its user bits are 0. -/
structure LtcLabel where
  hh : Nat
  mm : Nat
  ss : Nat
  ff : Nat
  drop : Bool
deriving DecidableEq, Repr

/-- The label of frame `i` since the label midnight at a rate code: code 3 skips labels 0 and 1 of every minute but each tenth
(ST 12-1). The hours count modulo 24 (log entry 160). -/
def ltcLabelOf (code : Nat) (i : Nat) : LtcLabel :=
  let n := [24, 24, 25, 30, 30, 30].getD code 30
  let r := i % 17982
  let i := if code = 3 then i + 18 * (i / 17982) + (if 2 ≤ r then 2 * ((r - 2) / 1798) else 0) else i
  ⟨i / (n * 3600) % 24, i / (n * 60) % 60, i / n % 60, i % n, code = 3⟩

/-- The label of the LTC frame that output m begins at TS = `gr`: frames since the first one at or after the label midnight; in an
inserted second the frames of 23:59:59 once more (R234, log entry 160). -/
def Dev.ltcLabel (d : Dev) (m : Fin 48) (gr : Int) : LtcLabel :=
  let n : Fin 4 := Fin.ofNat 4 (d.rdF (outOff m) 22 2)
  let sg := d.rd (sigOff m)
  let p := ltcPeriod (fld sg 22 3)
  let c := if bit sg 21 then d.localCount n gr else d.utcCount n gr
  let ins := d.inserted n gr
  let midnight := gr - (if ins then grPerSec else 0) - c % (86400 * grPerSec : Nat)
  let sec := gr / grPerSec * grPerSec
  let i := if ins then seqFrom p gr - seqFrom p sec + seqFrom p (sec - grPerSec) - seqFrom p midnight
    else seqFrom p gr - seqFrom p midnight
  ltcLabelOf (fld sg 22 3) i.toNat

/-- The channel status of an AES11 block: professional use, sampling rate, DARS grade, time-of-day sample address, CRC. -/
structure AesStatus where
  professional : Bool
  fs : Nat
  grade : Nat
  address : Nat
  crc : Byte
deriving DecidableEq, Repr

/-- The channel status of the block that output m begins at TS = `gr` (R234). The CRC of byte 23 is that of AES3 (log entry 158). -/
def Dev.aesStatus (d : Dev) (m : Fin 48) (gr : Int) : AesStatus :=
  let n : Fin 4 := Fin.ofNat 4 (d.rdF (outOff m) 22 2)
  let sg := d.rd (sigOff m)
  let fs := fsHz (fld sg 25 3)
  let grade := if bit sg 20 then 2 else 1
  let u := d.utcAt n gr
  let a := (u.sec * fs + u.gr * fs / grPerSec) % 4294967296
  ⟨true, fs, grade, a, Config.aesCrc fs grade a⟩

/-! ### Placement (R233) -/

/-- How far after its ideal instant of `num / den` s an edge falls that takes the first edge of a divided clock of f.1 / f.2 Hz,
whose edges lie at whole periods of the feedback (R202); in 2^-24 gr over f.1 × den. COARSE and FINE shift the signal with its
clock and are no error. -/
def placeErr (ofs : Int) (f : Nat × Nat) (num : Int) (den : Nat) : Int :=
  (ofs * den - num * (grPerSec * 16777216 : Nat)) * f.1 % (grPerSec * 16777216 * f.2 * den : Nat)

/-- Instants at which a signal may have an edge in the second that begins at `sec`, as numbers of a step of 1 / den s: for LTC every
half bit cell (log entry 14); the edges of the others lie whole periods of the divided clock apart (Table 8-8). -/
def sigEdges (sg : Word) (sec : Int) : List Int × (Nat × Nat) :=
  if fld sg 29 3 = 2 then
    let p := ltcPeriod (fld sg 22 3)
    let q := (p.1, p.2 * 160)
    let a := seqFrom q (sec * grPerSec)
    ((List.range (seqFrom q ((sec + 1) * grPerSec) - a).toNat).map fun i => a + i, q)
  else ([sec], (1, 1))

/-- The largest placement error of the second that begins at `sec`, in ns (R233). -/
def Dev.placeMax (d : Dev) (m : Fin 48) (n : Fin 4) (sec : Int) : Nat :=
  let cfg := d.rd (outOff m)
  let f := d.fOut (fld cfg 28 3) (outRatio (d.rd (outOff m + 4)) (d.rd (outOff m + 8)) (d.outFnum m) (d.outFden m))
  let e := sigEdges (d.rd (sigOff m)) sec
  e.1.foldl (fun a i => max a ((placeErr (d.tsc n).ofs f (i * e.2.1) e.2.2).toNat / (f.1 * e.2.2 * 16777216 * 65536))) 0

/-! ### Video outputs (R236) -/

/-- Where 0H of line 1 of the first frame falls after the alignment point, LINES × T_line + PIXELS × T_pix, in units of T_pix. -/
def voutPix (fmt : Nat) (timing : Word) : Nat := fld timing 20 12 * (pixels fmt).1 + fld timing 0 12

/-- 0H of line 1 of the first frame of sequence k (R236). -/
def voutZeroAt (fmt : Nat) (timing grain : Word) (k : Int) : Int :=
  let p := voutPeriod fmt
  let c := (pixels fmt).2
  roundDiv ((k * p.1 * c.1 + voutPix fmt timing * (c.2 * p.2) : Int) * grPerSec) (p.2 * c.1 : Nat) + fld grain 0 23

/-- The delay of 0H after the alignment point, in grains. -/
def voutDelay (fmt : Nat) (timing grain : Word) : Int := voutZeroAt fmt timing grain 0

/-- The next 0H of line 1 of a first frame of output k after TS = `gr` (R231, R236). -/
def Dev.voutZero (d : Dev) (k : Fin 8) (gr : Int) : Int :=
  let fmt := d.voutFmt k
  let t := d.rd (voutOff k + 0x10)
  let g := d.rd (voutOff k + 0x14)
  voutZeroAt fmt t g (seqBegun (voutPeriod fmt) (gr - voutDelay fmt t g) + 1)

/-- The frame of its sequence that output k shows at TS = `gr`, from 0. -/
def Dev.voutFrame (d : Dev) (k : Fin 8) (gr : Int) : Nat :=
  let fmt := d.voutFmt k
  (seqBegun (framePeriod fmt) (gr - voutDelay fmt (d.rd (voutOff k + 0x10)) (d.rd (voutOff k + 0x14))) % seqFrames fmt).toNat

/-- The ten-field ID in the frame that output k shows, as the number of its first field; none without it (R236). -/
def Dev.voutTenField (d : Dev) (k : Fin 8) (gr : Int) : Option Nat :=
  if d.voutFmt k = 0x01 && bit (d.rd (voutOff k)) 15 then some (2 * d.voutFrame k gr + 1) else none

/-- The SCH phase of the colour burst of output k in 0.1°; none without a burst (R236, Table 8-10). -/
def Dev.voutBurst (d : Dev) (k : Fin 8) : Option Int :=
  if (d.voutFmt k = 0x01 || d.voutFmt k = 0x02) && bit (d.rd (voutOff k)) 14 then some (sfld (d.rd (voutOff k + 0x18)) 16 16) else none

/-! ### Across a step (R232, R238) -/

/-- The output still holds its level: its restart point lies ahead. -/
def Dev.sigHeld (d : Dev) (m : Fin 48) (gr : Int) : Bool :=
  match (d.out m).resume with
  | some r => gr < r
  | none => false

/-- Where a signal that a step moved from `g0` to `g1` resumes on the new count (R232): the high time, bit cell or frame in progress
ends first, none while the signal is held; word clock then waits half a period (log entry 159). -/
def sigResume (sg : Word) (held : Bool) (g0 g1 : Int) : Int :=
  let p := sigPeriod sg
  match fld sg 29 3 with
  | 1 =>
    let x := (g0 * p.2 % grPerSec).toNat
    let high := if held || decide (grPerSec ≤ 2 * x) then 0 else ceilDiv (grPerSec - 2 * x) (2 * p.2)
    alignFrom p (g1 + high + ceilDiv grPerSec (2 * p.2))
  | 2 => alignFrom p (g1 + (if held then 0 else alignFrom (p.1, p.2 * 80) g0 - g0))
  | _ => alignFrom p (g1 + (if held then 0 else alignFrom (p.1, p.2 * 192) g0 - g0))

/-- The word clock, LTC and AES11 outputs of time scale n across a step (R232). -/
def Dev.sigStep (n : Fin 4) (g0 g1 : Int) (d : Dev) : Dev :=
  forFin 48 (fun m d =>
    let cfg := d.rd (outOff m)
    let sg := d.rd (sigOff m)
    if bit cfg 24 && fld cfg 22 2 = n.val && (d.out m).pin.on && fld sg 29 3 ≠ 0 then
      d.modOut m fun o => { o with resume := some (sigResume sg (d.sigHeld m g0) g0 g1) }
    else d) d

/-- A running video output goes into transition as its grid moves from delay `d0` at `g0` to its present delay at `g1`: it restarts at
the first 0H that comes at least half a line after the line in progress (R238). -/
def Dev.voutHold (k : Fin 8) (d0 g0 g1 : Int) (d : Dev) : Dev :=
  if (d.vout k).pin = .running then
    let fmt := d.voutFmt k
    let f := framePeriod fmt
    let line := (f.1, f.2 * linesOf fmt)
    let d1 := voutDelay fmt (d.rd (voutOff k + 0x10)) (d.rd (voutOff k + 0x14))
    let rest := if (d.vout k).transition then 0 else alignFrom line (g0 - d0) - (g0 - d0)
    let half := ceilDiv (line.1 * grPerSec) (2 * line.2)
    d.modVout k fun o => { o with transition := true, resume := some (alignFrom line (g1 + rest + half - d1) + d1) }
  else d

/-- R238: a step of time scale n reaches its running video outputs. -/
def Dev.voutStep (n : Fin 4) (g0 g1 : Int) (d : Dev) : Dev :=
  forFin 8 (fun k d =>
    onlyIf (d.rdF (voutOff k) 26 2 == n.val)
      (Dev.voutHold k (voutDelay (d.voutFmt k) (d.rd (voutOff k + 0x10)) (d.rd (voutOff k + 0x14))) g0 g1) d) d

end Sys2Proof.Machine
end

