-- ==== Sys2Proof/Machine/Time.lean ====
section
/-! DEFINITION. Time scales (chapter 8): steps, the actions of a PPS edge, the comparison with a source, captures. -/

namespace Sys2Proof.Machine

def buoyOff (n : Nat) : Nat := 0x80000 + 0x200 * n
/-- BUOYn_CFG.DECODER. -/
def Dev.decoder (d : Dev) (n : Nat) : Nat := d.rdF (buoyOff n) 28 4
def Dev.isUp (d : Dev) (n : Fin 64) : Bool := (d.buoy n).act.st = .up

def TsState.code : TsState → Nat
  | .unset => 0 | .running => 1 | .todHold => 2

def ChState.code : ChState → Nat
  | .freeRun => 0 | .acquiring => 1 | .locked => 2 | .holdover => 3 | .lost => 4

/-! ### Fields of a time scale -/

def Dev.todSlot (d : Dev) (n : Nat) : Fin 64 := Fin.ofNat 64 (d.rdF (tsOff n) 16 6)
def Dev.todEn (d : Dev) (n : Nat) : Bool := bit (d.rd (tsOff n)) 25
def Dev.todAuto (d : Dev) (n : Nat) : Bool := bit (d.rd (tsOff n)) 24
def Dev.followJump (d : Dev) (n : Nat) : Bool := bit (d.rd (tsOff n)) 26

/-- SRC_VALID (R228). -/
def Dev.srcValid (d : Dev) (n : Fin 4) : Bool :=
  let s := d.todSlot n
  d.todEn n && d.isUp s &&
    (match d.decoder s with
     | 3 => (d.buoy s).dec.todValid
     | 10 => true
     | 11 => true
     | _ => false)

/-! ### Steps (R219) -/

/-- The count has moved by `delta` in 2^-24 gr at timebase instant `at_`: what is kept of TS at source edges moves with it. -/
def TimeScale.moved (delta at_ : Int) (t : TimeScale) : TimeScale :=
  { t with edge := t.edge.map (· + delta / 16777216), named := t.named.map fun p => (p.1, p.2 + delta / 16777216),
           stepAt := some at_, stepBy := if t.stepAt = some at_ then t.stepBy + delta else delta }

/-- TS moved by `delta` in 2^-24 gr at timebase instant `at_`. -/
def Dev.tsShift (n : Fin 4) (delta at_ : Int) (d : Dev) : Dev :=
  d.modTs n fun t => { t.moved delta at_ with ofs := t.ofs + delta }

/-- A delta in grains as DSEC, DNS and DGR (log entry 12). -/
def deltaParts (g : Int) : Int × Int × Nat :=
  let ns := g / 65536
  (Int.tdiv ns 1000000000, Int.tmod ns 1000000000, (g % 65536).toNat)

/-- DATA of a STEP event (Table 12-10). -/
def stepData (cause : Nat) (p : Int × Int × Nat) : List Byte := b8 cause :: (sBytes 4 p.1 ++ sBytes 4 p.2.1 ++ leBytes 2 p.2.2)

/-- The count, the event, the notice of a leap and the signals of a step of time scale n from `g0` to `g1` (R219, R227, R232). -/
def Dev.tsStepped (n : Fin 4) (cause : Nat) (p : Int × Int × Nat) (g0 g1 : Int) (d : Dev) : Dev :=
  ((((d.bump (tsOff n + 0x70) 16 16).event 0x06 n 11 (stepData cause p)).noticeJudge n g1).sigStep n g0 g1).voutStep n g0 g1

/-- The grains of DSEC s + DNS ns + DGR gr (R224). -/
def deltaGr (dsec dns : Int) (dgr : Nat) : Int := (dsec * 1000000000 + dns) * 65536 + dgr

/-- TIME_DISCONTINUITY, HOLD_K, CONSIST and a pending ACCEPT cleared (Table 8-2). -/
def Dev.tsClearHold (n : Fin 4) (d : Dev) : Dev := d.modTs n fun t => { t with holdK := 0, consist := 0, accept := false }

/-- A time scale enters a state by a row of Table 8-2, with its STATE event; a server on it starts or stops (R271, R276). -/
def Dev.tsTo (n : Fin 4) (st : TsState) (row : Nat) (d : Dev) : Dev :=
  let old := (d.tsc n).st
  ((d.modTs n fun t => { t with st := st }).stateEv 11 0 n old.code st.code row 0xFF).loadRefresh

/-! ### The source (R228, R229) -/

/-- Source time minus TS at the instant TS reads `gr`, in grains: from the latest event of the source, carried on with its FFO, and
less the step that the count has taken since; none without an event (log entry 13). -/
def Dev.srcDelta (d : Dev) (n : Fin 4) (gr : Int) : Option Int :=
  let s := d.todSlot n
  match d.decoder s with
  | 3 => (d.tsc n).named.map fun p =>
      p.1 * grPerSec - p.2 +
        (gr - p.2) * (d.rd40 (buoyOff s + 0x30) - (d.chan (d.tsChan n)).loop.y) / 281474976710656
  | 10 => (d.buoy s).est.map fun e => e.raw + d.tsAt n e.at_ - d.tsOn n e.at_ +
      (d.tbGr - e.at_) * (e.ffo - (d.chan (d.tsChan n)).loop.y) / 281474976710656
  | 11 => d.tide.active.map fun _ => d.tide.srcLabel - d.tsOn n d.tide.srcAt +
      (d.tbGr - d.tide.srcAt) * (d.rd40 (buoyOff s + 0x30) - (d.chan (d.tsChan n)).loop.y) / 281474976710656
  | _ => none

/-- One comparison: k is the source time minus TS to the nearest second (R229, rows 4 to 6 and 8 of Table 8-2). -/
def Dev.tsCompare (n : Fin 4) (k : Int) (d : Dev) : Dev :=
  let t := d.tsc n
  match t.st with
  | .unset => d
  | .running =>
    if k = 0 then d
    else
      (((d.modTs n fun t => { t with holdK := k, consist := 1 }).bump (tsOff n + 0x74) 16 16).occur
        ⟨128 + n.val, by omega⟩ n).tsTo n .todHold 8
  | .todHold =>
    if k = 0 then (d.tsClearHold n).tsTo n .running 4
    else if k = t.holdK then d.modTs n fun t => { t with consist := min (t.consist + 1) 3 }
    else d.modTs n fun t => { t with holdK := k, consist := 1 }

/-- A label names a second of the source for the edge at which TS read `at_` (PPS_TOD). -/
def Dev.tsLabel (n : Fin 4) (sec at_ : Int) (d : Dev) : Dev :=
  (d.modTs n fun t => { t with named := some (sec, at_) }).tsCompare n (roundDiv (sec * grPerSec - at_) grPerSec)

/-! ### Captures (R230) -/

/-- The capture of time scale n at TS = `gr`. -/
def Dev.tsCapture (n : Fin 4) (gr : Int) (d : Dev) : Dev :=
  let o := tsOff n
  let t := d.tsc n
  let p := grTriple gr
  let c := (d.rdF (o + 0x34) 16 16 + 1) % 65536
  let flags := t.st.code * 1073741824 + bitAt 29 (t.st = .todHold) + (d.chan (d.tsChan n)).st.code * 67108864 +
    bitAt 25 (bit (d.rd (o + 4)) 31) + bitAt 24 (t.notice && (t.leap.map (·.1)) = some false) +
    bitAt 23 (t.notice && (t.leap.map (·.1)) = some true) + bitAt 22 (d.inserted n gr) + p.gr
  ((((((d.wr (o + 0x30) (word (p.sec % 4294967296))).wr (o + 0x34) (word (c * 65536 + p.sec / 4294967296))).wr
    (o + 0x38) (word p.ns)).wr (o + 0x3C) (word flags)).wr (o + 0x40) (word (d.utcOffset n)))).modTs n fun t =>
      { t with armed := false }

/-! ### Signals at the edge (R233) -/

/-- QERR of output m at the edge that ends the second `sec`, where it carries a signal of time scale n (R233). -/
def Dev.qerr (m : Fin 48) (n : Fin 4) (sec : Int) (d : Dev) : Dev :=
  let cfg := d.rd (outOff m)
  if bit cfg 24 && fld cfg 22 2 = n.val && (d.out m).pin = .running then
    d.wrF (sigOff m + 4) 0 16 (satN 16 (d.placeMax m n sec))
  else d

/-! ### The PPS edge (Table 8-4) -/

/-- Step 1: the event of second S, or its suppression (R221). -/
def Dev.ppsEmit (n : Fin 4) (sec : Int) (d : Dev) : Dev :=
  match (d.tsc n).hiSec with
  | some h => if h < sec then d.modTs n fun t => { t with hiSec := some sec } else d.bump (tsOff n + 0x70) 0 16
  | none => d.modTs n fun t => { t with hiSec := some sec }

/-- HI_SEC after a step at an edge: a whole second that TS reads then takes no event of its own (R222). -/
def Dev.hiAfter (n : Fin 4) (gr : Int) (d : Dev) : Dev :=
  if gr % grPerSec = 0 then
    d.modTs n fun t => { t with hiSec := some (match t.hiSec with
      | some h => max h (gr / grPerSec)
      | none => gr / grPerSec) }
  else d

/-- A step at an edge, TS reading `gr` before it. -/
def Dev.edgeStep (n : Fin 4) (cause : Nat) (gr : Int) (p : Int × Int × Nat) (d : Dev) : Dev :=
  let delta := deltaGr p.1 p.2.1 p.2.2
  ((d.tsShift n (delta * 16777216) (d.tbGr + gr - d.tsNow n)).tsStepped n cause p gr (gr + delta)).hiAfter n (gr + delta)

/-- Step 2: the scheduled step. Answers TS after it and whether it acted. -/
def Dev.edgeSched (n : Fin 4) (gr : Int) (d : Dev) : Int × Bool × Dev :=
  match (d.tsc n).step with
  | some st =>
    if (st.atSec : Int) * grPerSec ≤ gr then
      let p := (st.dsec, st.dns, st.dgr)
      let d := (d.modTs n fun t => { t with step := none }).edgeStep n (if st.cascade then 5 else 0) gr p
      (gr + deltaGr st.dsec st.dns st.dgr, true, d)
    else (gr, false, d)
  | none => (gr, false, d)

/-- Step 3: a due leap changes UTC_OFFSET without a step (R226). -/
def Dev.edgeLeap (n : Fin 4) (gr : Int) (d : Dev) : Dev :=
  match (d.tsc n).leap with
  | some (del, day) =>
    if (leapEdge (d.utcOffset n) del day : Int) * grPerSec ≤ gr then
      let off := if del then d.utcOffset n - 1 else min (d.utcOffset n + 1) 1023
      (((d.wrF (tsOff n + 4) 0 10 off).modTs n fun t => { t with leap := none, notice := false }).bump
        (tsOff n + 0x74) 0 16).event 0x07 n 11 (b8 (if del then 1 else 0) :: leBytes 2 off)
    else d
  | none => d

/-- The UTC and LOCAL values of TS_SET that wait for this edge (Table 8-3). -/
def Dev.edgeUtc (n : Fin 4) (gr : Int) (d : Dev) : Dev :=
  let d := match (d.tsc n).utc with
    | some w =>
      ((d.wr (tsOff n + 4) w).modTs n fun t => { t with utc := none }).noticeJudge n gr
    | none => d
  match (d.tsc n).localOfs with
  | some w => (d.wr (tsOff n + 8) w).modTs n fun t => { t with localOfs := none }
  | none => d

/-- What step 5 would set TS to at this edge: the pending triple, or the valid source's time (R228). -/
def Dev.edgeSetTo (d : Dev) (n : Fin 4) (gr : Int) : Option (Nat × Int) :=
  match (d.tsc n).set with
  | some (.triple g) => some (1, g)
  | some .source => if d.srcValid n then (d.srcDelta n gr).map fun x => (2, gr + x) else none
  | none => none

/-- Step 4: the acceptance of HOLD_K, dropped beside step 2 or 5. Answers TS after it. -/
def Dev.edgeAccept (n : Fin 4) (gr : Int) (other : Bool) (d : Dev) : Int × Dev :=
  let t := d.tsc n
  if t.st = .todHold && ((t.consist = 3 && d.todAuto n) || t.accept) then
    if other then (gr, d.modTs n fun t => { t with consist := 0, accept := false })
    else
      let k := t.holdK
      (gr + k * grPerSec, ((d.edgeStep n 3 gr (k, 0, 0)).tsClearHold n).tsTo n .running 3)
  else (gr, d)

/-- Step 5: a pending SET or FROM_SOURCE (row 1 of Table 8-2). -/
def Dev.edgeSet (n : Fin 4) (gr : Int) (d : Dev) : Int × Dev :=
  match d.edgeSetTo n gr with
  | some (cause, g) =>
    let d := d.modTs n fun t => { t with set := none, hiSec := if t.st = .unset then none else t.hiSec }
    -- FROM_SOURCE onto the relayed label sets LOFS to 0 (R298)
    let d := if cause = 2 && d.decoder (d.todSlot n) = 11 && d.rdF 0x280000 22 2 = n.val then d.setLofs 0 else d
    -- the delta keeps TS exact: its fraction of a grain is dropped with the set
    (g, (((d.edgeStep n cause gr (deltaParts (g - gr))).tsClearHold n)).tsTo n .running 1)
  | none => (gr, d)

/-- Step 6: the comparison of PACKET and CASCADE sources; row 7 of Table 8-2 without a valid source. -/
def Dev.edgeCompare (n : Fin 4) (gr : Int) (d : Dev) : Dev :=
  if d.srcValid n then
    if d.decoder (d.todSlot n) = 3 then d
    else match d.srcDelta n gr with
      | some x => d.tsCompare n (roundDiv x grPerSec)
      | none => d
  else if (d.tsc n).st = .todHold then d.modTs n fun t => { t with consist := 0 } else d

/-- TS made exact at an edge: it reads the whole second there. -/
def Dev.edgeSec (d : Dev) (n : Fin 4) : Int := roundDiv (d.tsNow n) grPerSec

/-- The actions of a PPS edge in the order of Table 8-4; the edge is that of the whole second nearest to TS. QERR is that of the second
that ends, on the count it had. A time scale holds while XO is absent (R341). -/
def ppsEdgeActs (n : Fin 4) (d : Dev) : Dev :=
  if (d.tsc n).started && d.clk.xo then
    let sec := d.edgeSec n
    let gr := sec * grPerSec
    let d := forFin 48 (fun m d => d.qerr m n (sec - 1)) (d.ppsEmit n sec)
    let two := d.edgeSched n gr
    let d := (two.2.2.edgeUtc n two.1).edgeLeap n two.1
    let four := d.edgeAccept n two.1 (two.2.1 || (d.edgeSetTo n two.1).isSome)
    let five := four.2.edgeSet n four.1
    let d := five.2.edgeCompare n five.1
    if (d.tsc n).armed && d.rdF (tsOff n + 0x20) 6 2 = 1 then d.tsCapture n five.1 else d
  else d

/-- LEAP_NOTICE_START: LEAP61 or LEAP59 rises (R227). -/
def leapNoticeBegin (n : Fin 4) (d : Dev) : Dev :=
  d.modTs n fun t => { t with notice := t.leap.isSome }

/-- A JUMP of channel c as its time scales take it (R218, log entry 15): the reading of the feedback has gained `jump24` =
D in 2^-24 gr. With FOLLOW_JUMP the count has stepped with it; without, O takes it back and the count does not move. -/
def Dev.tsJump (c : Fin 16) (jump24 : Int) (d : Dev) : Dev :=
  forFin 4 (fun n d =>
    if d.tsChan n = c && (d.tsc n).started then
      if d.followJump n then
        (d.modTs n (TimeScale.moved jump24 d.tbGr)).tsStepped n 4 (deltaParts (jump24 / 16777216))
          (d.tsNow n - jump24 / 16777216) (d.tsNow n)
      else d.modTs n fun t => { t with ofs := t.ofs - jump24 }
    else d) d

def execPpsEdge (n : Fin 4) (s : State) : Host.Outcome State Fault Refusal := run (ppsEdgeActs n) s
def execLeapNoticeStart (n : Fin 4) (s : State) : Host.Outcome State Fault Refusal := run (leapNoticeBegin n) s

end Sys2Proof.Machine
end

