-- ==== Sys2Proof/Machine/Chan.lean ====
section
/-! DEFINITION. Tide channels (chapters 5 and 6): phase detector, loop, limiters, states, switching, freeze, history and
prediction. -/

namespace Sys2Proof.Machine

/-! ### Parts -/

def Dev.modLoop (c : Fin 16) (f : Loop → Loop) (d : Dev) : Dev := d.modChan c fun x => { x with loop := f x.loop }
def Dev.modTrack (c : Fin 16) (f : Track → Track) (d : Dev) : Dev := d.modChan c fun x => { x with track := f x.track }
def Dev.modSw (c : Fin 16) (f : Switching → Switching) (d : Dev) : Dev := d.modChan c fun x => { x with sw := f x.sw }
def Dev.modHo (c : Fin 16) (f : Holdover → Holdover) (d : Dev) : Dev := d.modChan c fun x => { x with ho := f x.ho }
def Dev.modSel (c : Fin 16) (f : Select → Select) (d : Dev) : Dev := d.modChan c fun x => { x with sel := f x.sel }

/-- 2^24, the fraction of b, the NCO and O. -/
def two24 : Int := 16777216
/-- 2^48, the unit of FFO. -/
def two48 : Int := 281474976710656

/-! ### Set-up of a channel (R142 to R149) -/

/-- The class words _BW, _LOOP, _LOCK of the active class. -/
def Dev.clsWord (d : Dev) (c : Fin 16) (i : Nat) : Word := d.rd (chanOff c + 0x100 + 0x10 * (d.chan c).cls.val + 4 * i)
/-- S in FU (R146). -/
def Dev.slopeS (d : Dev) (c : Fin 16) : Int := roundDiv (d.rdF (chanOff c) 0 17 * two48) 10000000000
/-- The bound of b, ±PULL × 281,474,976.7 FU, in 2^-24 FU (R147). -/
def Dev.pull24 (d : Dev) (c : Fin 16) : Int := d.rdF (chanOff c + 4) 20 12 * 2814749767 * two24 / 10
def Dev.frOffset (d : Dev) (c : Fin 16) : Int := d.rd40 (chanOff c + 8)
def Dev.order3 (d : Dev) (c : Fin 16) : Bool := bit (d.rd (chanOff c)) 31
/-- LOCK_PH × 65,536 gr (R153). -/
def Dev.lockPh (d : Dev) (c : Fin 16) : Int := fld (d.clsWord c 2) 16 16 * 65536
/-- LOCK_TIME in µs. -/
def Dev.lockTimeUs (d : Dev) (c : Fin 16) : Nat := fld (d.clsWord c 2) 0 16 * 10000

/-- T_ev of a slot in grains, as numerator and denominator (R135). -/
def Dev.slotTev (d : Dev) (n : Nat) : Nat × Nat :=
  if d.decoder n = 11 then (65536000, 1)
  else (d.rdF (buoyOff n + 0xC) 0 16 * (d.rdF (buoyOff n + 0xC) 16 16 + 1) * grPerSec, d.rdU40 (buoyOff n + 4))

/-- T_u in grains, as numerator and denominator (Table 5-2). -/
def Dev.tuOf (d : Dev) (cur : Option (Fin 64)) : Nat × Nat :=
  match cur with
  | none => (65536000, 1)
  | some n =>
    let k := d.decoder n
    if k = 10 || k = 12 then (4096000000, 1)
    else if k = 11 then (65536000, 1)
    else
      let t := d.slotTev n
      if t.2 = 0 || t.1 ≤ 65536000 * t.2 then (65536000, 1) else t

def Dev.tu (d : Dev) (c : Fin 16) : Nat × Nat := d.tuOf (d.chan c).sel.cur

/-- FR in 2^-24 FU: FRATE × 281474.98 × Tu (R145). -/
def Dev.fr24 (d : Dev) (c : Fin 16) : Int :=
  let t := d.tu c
  fld (d.clsWord c 1) 0 20 * 28147498 * two24 * t.1 / (100 * t.2 * grPerSec)

/-- BW_eff in 0.1 mHz as numerator and denominator: the smaller of BW and f_u / 10 (R141). -/
def Dev.bwEff (d : Dev) (c : Fin 16) : Nat × Nat :=
  let t := d.tu c
  let bw := fld (d.clsWord c 0) 0 26
  if bw * t.1 ≤ grPerSec * 1000 * t.2 then (bw, 1) else (grPerSec * 1000 * t.2, t.1)

/-- ωn as a fraction, for a bandwidth in 0.1 mHz and a damping in 1/16: g is kept to 64 binary places, π to 20 decimal ones. -/
def omegaN (bwNum bwDen damp : Nat) : Nat × Nat :=
  let a := damp * damp + 128
  let s := isqrt ((a * a + 16384) * 2 ^ 128)
  let g := isqrt ((a * 2 ^ 64 + s) * 2 ^ 57)
  (2 * 314159265358979323846 * bwNum * 2 ^ 64, 10 ^ 24 * bwDen * g)

/-- KP, KI and K3C by their formulas, each to the nearest binary32 value (R140). -/
def exactKP (bw : Nat × Nat) (damp : Nat) : Word :=
  let w := omegaN bw.1 bw.2 damp
  toBinary32 (damp * w.1 * 2 ^ 32) (8 * w.2 * 10 ^ 9)
def exactKI (bw : Nat × Nat) (damp : Nat) (tu : Nat × Nat) : Word :=
  let w := omegaN bw.1 bw.2 damp
  toBinary32 (w.1 ^ 2 * tu.1 * 2 ^ 32) (w.2 ^ 2 * tu.2 * grPerSec * 10 ^ 9)
def exactK3 (bw : Nat × Nat) (damp t3r : Nat) (tu : Nat × Nat) : Word :=
  let w := omegaN bw.1 bw.2 damp
  toBinary32 (w.1 ^ 3 * tu.1 ^ 2 * 2 ^ 32) (w.2 ^ 3 * t3r * tu.2 ^ 2 * grPerSec ^ 2 * 10 ^ 9)

/-- A coefficient as the device computes it: within 32 units in the last place of the exact one, where is open (log entry 3). -/
def nearWord (exact : Word) (ulps : Int) : Word :=
  if exact = 0 then 0 else word ((exact.toNat : Int) + ulps % 65 - 32).toNat

/-- The coefficients of the active class, published in CHANn_KP, _KI and _K3 (R140, R142). -/
def Dev.coefs (c : Fin 16) (d : Dev) : Dev :=
  let t := d.tu c
  let bw := d.bwEff c
  let damp := fld (d.clsWord c 1) 24 8
  let t3r := d.rdF (chanOff c) 22 9
  let clamp := decide (fld (d.clsWord c 0) 0 26 * t.1 > grPerSec * 1000 * t.2)
  let ulps (k : Nat) : Int := Config.coefUlps k bw.1 bw.2 damp t3r t.1 t.2
  (((d.wr (chanOff c + 0x60) (nearWord (exactKP bw damp) (ulps 0))).wr (chanOff c + 0x64)
      (nearWord (exactKI bw damp t) (ulps 1))).wr (chanOff c + 0x68)
      (if d.order3 c then nearWord (exactK3 bw damp t3r t) (ulps 2) else 0)).modChan c fun x =>
        { x with tuWas := t, track := { x.track with bwClamp := clamp } }

/-- An accepted change of a channel's set-up (R142, R144): the coefficients where a slot has been selected before. -/
def Dev.chanReconf (c : Fin 16) (d : Dev) : Dev :=
  let d := if d.order3 c then d else d.modLoop c fun l => { l with j := 0 }
  if (d.chan c).sel.cur.isSome || d.rd (chanOff c + 0x60) ≠ 0 then d.coefs c else d

/-! ### States (Tables 5-5 and 5-6) -/

def tracking (x : Chan) : Bool := (x.st = .acquiring || x.st = .locked) && !x.track.fpull
def engaged (x : Chan) : Bool := x.st = .acquiring || x.st = .locked

def fsHoldover (c : Fin 16) : Fin 192 := ⟨64 + c.val, by omega⟩
def fsLost (c : Fin 16) : Fin 192 := ⟨80 + c.val, by omega⟩
def fsChange (c : Fin 16) : Fin 192 := ⟨96 + c.val, by omega⟩

/-- M_ANCHOR clears on the outputs of a channel that enters LOCKED (R364). -/
def Dev.anchorClear (c : Fin 16) (d : Dev) : Dev :=
  forFin 8 (fun k d => onlyIf (d.lanSteer (d.voutLan k) && d.lanChan (d.voutLan k) = c && (d.vout k).mAnchor)
      (fun d => (d.modVout k fun o => { o with mAnchor := false }).voutRefresh k) d)
    (forFin 48 (fun m d => onlyIf (d.lanSteer (d.outLan m) && d.lanChan (d.outLan m) = c && (d.out m).mAnchor)
      (fun d => (d.modOut m fun o => { o with mAnchor := false }).outRefresh m) d) d)

/-- A state change by a row of Table 5-6: its event, which names the current slot, its Watch source, what it means to the outputs
(R157, R158). -/
def Dev.chanTo (c : Fin 16) (st : ChState) (row : Nat) (d : Dev) : Dev :=
  let old := (d.chan c).st
  if old = st then d
  else
    let d := d.modChan c fun x => { x with st := st }
    let d := d.stateEv 8 0 c old.code st.code row (((d.chan c).sel.cur.map (·.val)).getD 0xFF)
    let d := (d.setCond (fsHoldover c) c (st = .holdover)).setCond (fsLost c) c (st = .lost)
    let d := if st = .holdover || st = .lost then d else d.occur (fsChange c) c
    let d := if old = .locked then d.bump (chanOff c + 0x70) 0 16 else d
    let d := if st = .locked then (d.bump (chanOff c + 0x70) 16 16).anchorClear c else d
    let d := if st = .holdover then d.bump (chanOff c + 0x450) 16 16 else d
    if old = .lost || st = .lost then d.chanOutputs c else d

/-- The history is discarded (R181). -/
def Dev.histClear (c : Fin 16) (d : Dev) : Dev :=
  d.modHo c fun h => { h with run := false, whole := false, sum := 0, n := 0, samples := [], histS := 0 }

/-! ### History and prediction (R179 to R188) -/

/-- HO_GUARD in µs. -/
def Dev.guardUs (d : Dev) (c : Fin 16) : Nat := d.rdF (chanOff c + 0x400) 21 11 * 125

/-- b_frz for a trigger now (R179). -/
def Dev.bFreeze (d : Dev) (c : Fin 16) : Int :=
  let x := d.chan c
  let from_ := x.ho.stretchFrom
  match from_ with
  | none => if x.track.fpull then x.track.pullB else x.loop.b
  | some s =>
    match x.ho.snaps.find? fun (p : BSnap) => p.tick * 125 + d.guardUs c ≤ d.clk.tbUs with
    | some p =>
      if s ≤ p.tick * 125 then p.b
      else match (x.ho.snaps.filter fun (q : BSnap) => s ≤ q.tick * 125 && q.track).getLast? with
        | some q => q.b
        | none => x.loop.b
    | none => match (x.ho.snaps.filter fun (q : BSnap) => s ≤ q.tick * 125 && q.track).getLast? with
      | some q => q.b
      | none => x.loop.b

/-- The samples whose second ends at or before now − HO_GUARD (R182). -/
def Dev.agedSamples (d : Dev) (c : Fin 16) : List (Int × Option Int) :=
  let h := (d.chan c).ho
  if h.endUs + d.guardUs c ≤ d.clk.tbUs then h.samples else h.samples.drop 1

/-- A1 with its temperature. -/
def Dev.avg1 (d : Dev) (c : Fin 16) : Option (Int × Option Int) := (d.agedSamples c).head?

/-- The mean of temperatures, where every one exists. -/
def meanTemp (l : List (Option Int)) : Option Int :=
  if l.all Option.isSome && !l.isEmpty then some (roundDiv ((l.map fun t => t.getD 0).sum) l.length) else none

/-- A1024 with its temperature. -/
def Dev.avg1024 (d : Dev) (c : Fin 16) : Option (Int × Option Int) :=
  let l := (d.agedSamples c).take 1024
  if l.length = 1024 then some (roundDiv ((l.map (·.1)).sum) 1024, meanTemp (l.map (·.2))) else none

/-- The base of Table 6-6 for a freeze now with b_frz = `frz`: b_base, BASE_USED, τc in µs, T_b. -/
def Dev.predBase (d : Dev) (c : Fin 16) (frz : Int) : Int × BitVec 2 × Nat × Option Int :=
  let guard : Int × BitVec 2 × Nat × Option Int := (frz, 0, 0, (((d.chan c).ho.samples.head?).bind (·.2)))
  let short := match d.avg1 c with
    | some a => (a.1, 1, 500000 + d.guardUs c, a.2)
    | none => guard
  match d.rdF (chanOff c + 0x400) 19 2 with
  | 0 => guard
  | 1 => short
  | _ => match d.avg1024 c with
    | some a => (a.1, 2, 512000000 + d.guardUs c, a.2)
    | none => short

/-- tcomp of a temperature in 1/64 °C, in 2^-24 FU (R185). -/
def Dev.tcomp24 (d : Dev) (c : Fin 16) (t : Int) : Int :=
  let tc := fun (k : Nat) => signed 32 (d.rd (chanOff c + 0x500 + 4 * k)).toNat
  let pos := t + 2560
  if pos ≤ 0 then tc 0 * two24
  else if 10240 ≤ pos then tc 32 * two24
  else
    let k := (pos / 320).toNat
    let r := pos % 320
    (tc k * (320 - r) + tc (k + 1) * r) * two24 / 320

/-- y_pred in 2^-24 FU, its quotients rounded down to 2^-24 FU (R184, log entry 152). -/
def Dev.yPred (d : Dev) (c : Fin 16) (base : Int) (tcenUs : Nat) (tempB : Option Int) (tau : Nat) : Int :=
  let age := signed 32 (d.rd (chanOff c + 0x40C)).toNat
  let term := match (d.chan c).ho.temp, tempB with
    | some t, some b => if d.rdF (chanOff c + 0x400) 15 4 = 15 then 0 else d.tcomp24 c t - d.tcomp24 c b
    | _, _ => 0
  base + age * (tau * 1000000 + tcenUs) * two24 / 65536000000 + term

/-- PRED_VALID (R183). In HOLDOVER U does not exceed HO_BUDGET: at the whole second at which it would, HOLDOVER_SECOND takes the
channel to LOST, and a new budget applies from the next whole second (R186, R191). -/
def Dev.predValid (d : Dev) (c : Fin 16) : Bool := d.rdF (chanOff c + 0x400) 0 15 ≤ (d.chan c).ho.histS

/-! ### Publishing -/

/-- phi_sw in grains, rounded. -/
def Dev.pubPhisw (c : Fin 16) (d : Dev) : Dev := d.pub40 (chanOff c + 0x208) (sat40 (roundDiv (d.chan c).loop.phiSw 65536))

/-- y = b + p rounded to the nearest FU and published with b; its Lanterns take it (R133, R161). -/
def Dev.pubY (c : Fin 16) (d : Dev) : Dev :=
  let l := (d.chan c).loop
  let y := sat40 (roundDiv (l.b + l.p) two24)
  let d := d.modLoop c fun l => { l with y := y }
  let d := (d.pub40 (chanOff c + 0x38) y).pub40 (chanOff c + 0x40) (sat40 (truncDiv l.b two24))
  forFin 8 (fun n d => onlyIf (d.lanSteer n && d.lanChan n = c) (Dev.modLan n fun x => { x with y := y }) d) d

/-! ### Switching (chapter 6) -/

/-- QUIET (R169): an output is muted where a mute cause of Table 7-5 holds, M_REALIGN among them. FORMAT OFF counts as disabled
(log entry 155). -/
def Dev.quiet (d : Dev) (c : Fin 16) : Bool :=
  ((List.finRange 48).all fun m =>
    !(d.lanSteer (d.outLan m) && d.lanChan (d.outLan m) = c) ||
      ((!d.outEn m || d.rdF (outOff m) 25 3 = 0 || d.outMuted m || (d.out m).mRealign) && !(d.out m).pin.on)) &&
  ((List.finRange 8).all fun k =>
    !(d.lanSteer (d.voutLan k) && d.lanChan (d.voutLan k) = c) ||
      ((!bit (d.rd (voutOff k)) 31 || d.voutFmt k = 0 || d.voutMuted k) && !(d.vout k).pin.on))

def SwMode.code : SwMode → Nat
  | .pass => 0 | .absorb => 1 | .jump => 2

/-- MODEk of the class followed. -/
def Dev.modeK (d : Dev) (c : Fin 16) : Nat := d.rdF (chanOff c + 0x200) (2 * (d.chan c).cls.val) 2

/-- The switch-complete event (R172). -/
def Dev.switchDone (c : Fin 16) (d : Dev) : Dev :=
  let s := (d.chan c).sw
  (d.modSw c fun s => { s with switching := false, pass := false }).event 0x02 c 8
    (b8 s.lastMode.code :: (sBytes 5 s.d ++ leBytes 4 (satN 32 (d.clk.tbUs - s.dAt))))

/-- R177: the feedback reading gains D, e is measured from the stepped NCO, the Lanterns and time scales follow. -/
def Dev.jump (c : Fin 16) (dGr : Int) (d : Dev) : Dev :=
  let d := d.modLoop c fun l => { l with nco := l.nco + dGr * two24, phiSw := 0, vSw := 0, e := 0 }
  let d := d.modTrack c fun t => { t with evs := t.evs.map fun e => e - dGr * two24 }
  ((d.bump (chanOff c + 0x220) 16 16).realign c dGr).tsJump c (dGr * two24)

/-- The mode for a D, by Table 6-2, and whether a JUMP was denied. -/
def Dev.modeFor (d : Dev) (c : Fin 16) (pullEnded : Bool) : SwMode × Bool × Bool :=
  let x := d.chan c
  let k := d.modeK c
  if pullEnded && !x.everLocked && bit (d.rd (chanOff c + 0x200)) 31 && !x.sw.jumpUsed then (.jump, false, true)
  else if pullEnded && !x.everLocked then (if k = 2 && d.quiet c then .jump else .pass, false, false)
  else if k = 2 && !d.quiet c then (.pass, true, false)
  else (if k = 1 then .absorb else if k = 2 then .jump else .pass, false, false)

/-- The switching logic takes D (R166, R167, Table 6-1). -/
def Dev.takeD (c : Fin 16) (dGr : Int) (pullEnded : Bool) (d : Dev) : Dev :=
  let m := d.modeFor c pullEnded
  let d := d.pub40 (chanOff c + 0x210) (sat40 dGr)
  let d := d.modSw c fun s => { s with await := false, due := false, d := dGr, dAt := d.clk.tbUs, lastMode := m.1,
                                        rate := d.rdF (chanOff c) 0 17, jumpUsed := s.jumpUsed || m.2.2 }
  let d := if m.2.1 then (d.bump (chanOff c + 0x220) 0 16).event 0x03 c 8 (0 :: sBytes 5 dGr) else d
  match m.1 with
  | .pass => ((d.modLoop c fun l => { l with phiSw := dGr * 65536, vSw := 0 }).modSw c fun s =>
      { s with switching := true, pass := true }).pubPhisw c
  | .absorb => ((d.modLoop c fun l => { l with phiSw := dGr * 65536, vSw := 0 }).pubPhisw c).switchDone c
  | .jump => ((d.jump c dGr).pubPhisw c).switchDone c

/-- A switch ends without its completion: by loss or a block reset (Table 6-5). -/
def Dev.switchAbort (c : Fin 16) (d : Dev) : Dev :=
  let x := d.chan c
  let d := if x.sw.pass then
      (d.pub40 (chanOff c + 0x218) (sat40 (roundDiv x.loop.phiSw 65536))).bump (chanOff c + 0x224) 16 16 else d
  d.modSw c fun s => { s with switching := false, await := false, due := false, pass := false }

/-- REMAIN_MS (R172): |phi_sw| / SLOPE in ms. -/
def Dev.remainMs (d : Dev) (c : Fin 16) : Nat :=
  let x := d.chan c
  if x.sw.await then 65535
  else if x.sw.pass then
    -- SLOPE is 0.1 ns/s: 6553.6 gr per second and unit; that of the latest update is in use (R175)
    min 65535 (x.loop.phiSw.natAbs * 10000 / (65536 * 65536 * max 1 x.sw.rate))
  else 0

/-! ### Leaving a slot (R178 to R180, R184) -/

/-- EQUAL_DISAGREE clears, with its event (R126). -/
def Dev.partnerClear (c : Fin 16) (d : Dev) : Dev :=
  let s := (d.chan c).sel
  match s.partner with
  | some o => (d.modSel c fun s => { s with partner := none }).event 0x04 c 8
      [b8 ((s.cur.map (·.val)).getD 0xFF), b8 o.val, 0]
  | none => d

/-- What a channel that stops tracking gives up: pairing, p, phi_sw, v_sw, the switch. With `keep` phi_sw stays where it is the
build-out of an ABSORB (R176). -/
def Dev.stopTracking (c : Fin 16) (keep : Bool) (d : Dev) : Dev :=
  let stays := keep && !(d.chan c).sw.pass
  let d := d.switchAbort c
  let d := d.modTrack c fun t => { t with phValid := false, phSat := false, evs := [], fpull := false, winE := none,
                                          resid := [], lockRun := false, slopeLim := false }
  ((d.modLoop c fun l => { l with p := 0, phiSw := if stays then l.phiSw else 0, vSw := 0 }).pubPhisw c)

/-- The freeze (R178) toward `frz`, with the `base` fixed for a prediction (R184). -/
def Dev.freezeAt (c : Fin 16) (frz : Int) (base : Int × BitVec 2 × Nat × Option Int) (d : Dev) : Dev :=
  let d := (d.stopTracking c false).modLoop c fun l => { l with target := frz }
  let d := d.modHo c fun h => { h with bFrz := frz, base := base.1, baseUsed := base.2.1, tcenUs := base.2.2.1,
                                       tempB := base.2.2.2, tau := 0, stretchFrom := none, whole := false }
  let d := (d.pub40 (chanOff c + 0x430) (sat40 (roundDiv frz two24))).bump (chanOff c + 0x224) 0 16
  d.pubY c

/-- Rows 2 to 4 of Table 5-6 of a channel that followed a slot, frozen toward `frz` with `base`. -/
def Dev.lossRows (c : Fin 16) (frz : Int) (base : Int × BitVec 2 × Nat × Option Int) (d : Dev) : Dev :=
  let x := d.chan c
  if x.st = .acquiring && !x.everLocked then
    ((((d.stopTracking c false).modHo c fun h => { h with stretchFrom := none }).histClear c).pubY c).chanTo c .freeRun 2
  else if d.predValid c then (d.freezeAt c frz base).chanTo c .holdover 3
  else ((d.freezeAt c frz base).histClear c).chanTo c .lost 4

/-- A channel leaves its slot, for a loss of the slot (`orphan`) or an accepted RELEASE. The STATE event of the loss row finds no
current slot (log entry 154), and SEL_SRC keeps the source of the selection that has ended (log entry 153). -/
def Dev.leaveSlot (c : Fin 16) (orphan : Bool) (d : Dev) : Dev :=
  let x := d.chan c
  let d := d.partnerClear c
  if engaged x then (d.modSel c fun s => { s with cur := none, orphaned := orphan }).lossRows c (d.bFreeze c) (d.predBase c (d.bFreeze c))
  else d.modSel c fun s => { s with cur := none, orphaned := orphan && s.cur.isSome }

/-- R163: a channel that follows a slot has its selection released by a CHAN block reset; its y stays, its b_frz and the base of a
prediction are those of now, and it leaves by the loss rows when the block is back. -/
def Dev.chanHold (c : Fin 16) (d : Dev) : Dev :=
  if engaged (d.chan c) then
    let frz := d.bFreeze c
    let base := d.predBase c frz
    let d := d.modTrack c fun t => { t with phValid := false, evs := [], winE := none, lockRun := false }
    (((((d.partnerClear c).modSel c fun s => { s with cur := none, orphaned := true }).switchAbort c).modLoop c fun l =>
      { l with phiSw := 0, vSw := 0 }).pubPhisw c).modHo c fun h =>
        { h with bFrz := frz, base := base.1, baseUsed := base.2.1, tcenUs := base.2.2.1, tempB := base.2.2.2 }
  else d

/-- A channel released by a block reset leaves by its loss row. -/
def Dev.chanBack (c : Fin 16) (d : Dev) : Dev :=
  if engaged (d.chan c) && (d.chan c).sel.cur.isNone then
    let h := (d.chan c).ho
    d.lossRows c h.bFrz (h.base, h.baseUsed, h.tcenUs, h.tempB)
  else d

/-- Row 1 of Table 5-6: CHAN_MODE FREE_RUN or DCO. -/
def Dev.toFreeRun (c : Fin 16) (m : ChMode) (d : Dev) : Dev :=
  let y := (d.chan c).loop.y
  let d := (d.partnerClear c).modSel c fun s => { s with cur := none, orphaned := false }
  let d := (d.stopTracking c true).modChan c fun x => { x with mode := m }
  let d := if m = .dco then d.pub40 (chanOff c + 0x10) y else d
  let d := d.modHo c fun h => { h with stretchFrom := none }
  let d := if (d.chan c).st = .freeRun then d else d.histClear c
  (d.pubY c).chanTo c .freeRun 1

/-! ### Taking a slot (rows 5, 7, 9, 11, 12; R142, R150, R171) -/

/-- Frequency pull-in starts (R150, R181). -/
def Dev.startPull (c : Fin 16) (d : Dev) : Dev :=
  ((d.modTrack c fun t => { t with fpull := true, winE := none, pullB := (d.chan c).loop.b }).modLoop c fun l =>
    { l with target := l.b }).histClear c

/-- An accepted selection of slot n: source of the selection, new class, pairing and state (Table 5-6). -/
def Dev.follow (c : Fin 16) (n : Fin 64) (src : SelSrc) (d : Dev) : Dev :=
  let x := d.chan c
  let cls := Fin.ofNat 6 (d.rdF (buoyOff n) 25 3)
  let d := (d.partnerClear c).modSel c fun s => { s with cur := some n, src := src, orphaned := false }
  let d := d.modChan c fun y => { y with cls := cls, mode := .auto }
  let d := d.modTrack c fun t => { t with phValid := false, phSat := false, evs := [], winE := none, resid := [],
                                          lockRun := false }
  let d := if x.cls ≠ cls || (d.tu c).1 * x.tuWas.2 ≠ x.tuWas.1 * (d.tu c).2 || d.rd (chanOff c + 0x60) = 0 then d.coefs c else d
  let phase := x.st = .locked || x.st = .holdover || (x.st = .acquiring && !x.track.fpull)
  let d := d.modSw c fun s => { s with switching := phase, await := phase, due := false, pass := false }
  match x.st with
  | .locked => d.chanTo c .acquiring 5
  | .acquiring => d
  | .holdover => (d.modHo c fun h => { h with stretchFrom := some d.clk.tbUs }).chanTo c .acquiring 9
  | .lost => (d.startPull c).chanTo c .acquiring 11
  | .freeRun => (d.startPull c).chanTo c .acquiring 12

/-! ### Events of the followed slot (R136) -/

/-- The phase of virtual edge k against an event at `t`, feedback minus reference, in 2^-24 gr. -/
def edgePhase (l : Loop) (tev : Nat × Nat) (k t : Int) : Int :=
  let f := feedback24 l t
  (k * tev.1 * two24 - f * tev.2) * two48 / (tev.2 * (two48 + l.y))

/-- The nearest virtual edge to an event, the earlier of two equally near. -/
def nearestEdge (l : Loop) (tev : Nat × Nat) (t : Int) : Int :=
  let f := feedback24 l t
  0 - (tev.1 * two24 - 2 * f * tev.2) / (2 * tev.1 * two24)

/-- A phase in 2^-24 gr gathered for the next update; the first after a selection is the pairing. -/
def Dev.chanPhase (c : Fin 16) (ph : Int) (d : Dev) : Dev :=
  let first := !(d.chan c).track.phValid
  let d := d.modTrack c fun t => { t with phValid := true, evs := t.evs ++ [ph] }
  if first && (d.chan c).sw.await then d.modSw c fun s => { s with await := false, due := true } else d

/-- A timing event of edge slot n at `t` grains, for each channel that follows it. -/
def Dev.chanEdge (n : Fin 64) (t : Int) (d : Dev) : Dev :=
  forFin 16 (fun c d =>
    let x := d.chan c
    let tev := d.slotTev n
    if x.sel.cur = some n && engaged x && tev.2 ≠ 0 && tev.1 ≠ 0 then
      let k := if x.track.phValid then x.track.edge else nearestEdge x.loop tev t
      (d.modTrack c fun y => { y with edge := k + 1 }).chanPhase c (edgePhase x.loop tev k t)
    else d) d

/-- A phase e in grains for each channel that follows slot n (R297). -/
def Dev.chanGiven (n : Fin 64) (e : Int) (d : Dev) : Dev :=
  forFin 16 (fun c d =>
    let x := d.chan c
    if x.sel.cur = some n && engaged x then d.chanPhase c (e * two24) else d) d

/-- A new estimate of slot n: it pairs the channels that follow it (R138). -/
def Dev.chanEstimate (n : Fin 64) (d : Dev) : Dev :=
  forFin 16 (fun c d =>
    let x := d.chan c
    if x.sel.cur = some n && engaged x && !x.track.phValid then
      let d := d.modTrack c fun t => { t with phValid := true, evs := [] }
      if x.sw.await then d.modSw c fun s => { s with await := false, due := true } else d
    else d) d

/-- e of an estimate slot at timebase instant `t` (R77, R138, log entry 16). -/
def estimatePhase (l : Loop) (e : Estimate) (t : Int) : Int :=
  (t * two24 - feedback24 l t) / two24 - (e.phase - (t - e.at_) * e.ffo / two48)

/-! ### The update (R133) -/

/-- e of an update: the mean of its events, or the extrapolated estimate; the last e without a new event. -/
def Dev.updateE (d : Dev) (c : Fin 16) : Int :=
  let x := d.chan c
  match x.sel.cur with
  | none => x.loop.e
  | some n =>
    if d.decoder n = 10 || d.decoder n = 12 then
      match (d.buoy n).est with
      | some e => if x.track.phValid then estimatePhase x.loop e (x.loop.at_ / two24) else x.loop.e
      | none => x.loop.e
    else if x.track.evs.isEmpty then x.loop.e
    else roundDiv x.track.evs.sum (x.track.evs.length * two24)

/-- A coefficient times er, in 2^-24 FU; er in 2^-16 gr. The product is rounded down to 2^-24 FU (log entry 152). -/
def coefTimes (w : Word) (er16 : Int) : Int := let k := binary32 w; shiftI (k.1 * er16) (k.2 + 8)

/-- b moved toward `want` by at most FR, within ±PULL (R145, R147). -/
def moveB (b want fr pull : Int) : Int := b + clampI (-fr) fr (clampI (-pull) pull want - b)

/-- The limiter flags of an update, with the counts of their rises. -/
def Dev.limFlags (c : Fin 16) (slope frate : Bool) (d : Dev) : Dev :=
  let t := (d.chan c).track
  let d := if slope && !t.slopeLim then d.bump (chanOff c + 0x74) 16 16 else d
  let d := if frate && !t.frateLim then d.bump (chanOff c + 0x74) 0 16 else d
  let pull := d.pull24 c
  d.modTrack c fun t => { t with slopeLim := slope, frateLim := frate, pullLim := decide (pull ≤ (d.chan c).loop.b.natAbs) }

/-- The number of updates in the averaging interval of ē_r: as many as cover a whole 31.25 ms (R153). -/
def residLen (tu : Nat × Nat) : Nat := max 1 (ceilDiv (2048000000000 * tu.2) tu.1)

/-- LOCK criteria, LOCK_TIME and lock loss in one update of phase tracking; er in 2^-16 gr (R153, R154). -/
def Dev.lockLogic (c : Fin 16) (er16 : Int) (slope : Bool) (d : Dev) : Dev :=
  let n := residLen (d.tu c)
  let l := ((er16, slope) :: (d.chan c).track.resid).take n
  let sum := (l.map (·.1)).sum
  let whole := l.length = n
  let d := d.modTrack c fun t => { t with resid := l }
  if !whole then d.modTrack c fun t => { t with lockRun := false }
  else
    let d := d.pub40 (chanOff c + 0x48) (sat40 (roundDiv sum (n * 65536)))
    let lim := d.lockPh c * 65536 * n
    let ok := decide (sum.natAbs ≤ lim) && l.all fun (p : Int × Bool) => !p.2
    if (d.chan c).st = .locked then
      if decide (sum.natAbs > 2 * lim) then
        (d.modTrack c fun t => { t with lockRun := false }).chanTo c .acquiring 6
      else d
    else d.modTrack c fun t =>
      { t with lockRun := ok, lockAt := if ok && !t.lockRun then d.clk.tbUs + d.lockTimeUs c else t.lockAt }

/-- An update of phase tracking: loop filter, limiters and, with `ramp`, the PASS (R133, R145, R146, R173) and the lock criteria:
the update that takes D begins the tracking of the slot and is no whole update of it (R153). The step of the PASS is rounded down
to 2^-16 gr, v_sw to 2^-24 FU (log entry 152). -/
def Dev.trackUpdate (c : Fin 16) (e : Int) (ramp : Bool) (d : Dev) : Dev :=
  let x := d.chan c
  let tu := d.tu c
  let s24 := d.slopeS c * two24
  let fr := d.fr24 c
  let pull := d.pull24 c
  let er16 := e * 65536 - x.loop.phiSw
  let j := if d.order3 c then x.loop.j + coefTimes (d.rd (chanOff c + 0x68)) er16 else 0
  let raw := coefTimes (d.rd (chanOff c + 0x64)) er16 + j
  let aim := x.loop.b + clampI (-fr) fr raw
  let b := moveB x.loop.b aim fr pull
  let cut := decide (raw.natAbs > fr) || decide ((clampI (-pull) pull aim - x.loop.b).natAbs > fr)
  -- gr moved in one update at p = S, in 2^-16 gr: S * Tu * 1e9 / 2^32
  let step := d.slopeS c * tu.1 * 65536 / (tu.2 * two48)
  let phi := x.loop.phiSw
  let sg := sgn phi
  let pass := x.sw.pass && ramp
  let vSw := if pass then
      (if decide (phi.natAbs > step) then 2 * s24 * sg else phi * two24 * two48 * tu.2 / (65536 * tu.1)) else 0
  let phi' := if pass then (if decide (phi.natAbs > step) then phi - step * sg else 0) else phi
  let want := coefTimes (d.rd (chanOff c + 0x60)) er16 + vSw
  let p := clampI (-s24) s24 want
  let slope := decide (want.natAbs > s24)
  let ended := pass && phi' = 0
  let d := d.modLoop c fun l => { l with j := j, b := b, p := p, vSw := vSw, phiSw := phi', e := e }
  let d := d.limFlags c slope cut
  let d := if pass then (d.pubPhisw c).modSw c fun s => { s with rate := d.rdF (chanOff c) 0 17 } else d
  let d := if ended then d.switchDone c else d
  if ramp then d.lockLogic c er16 slope else d

/-- An update without phase tracking: p = 0 and b moves to its target (Table 5-7); b stays as it stands in phase tracking before
the first pairing (R150, R189). -/
def Dev.driftUpdate (c : Fin 16) (e : Int) (d : Dev) : Dev :=
  let x := d.chan c
  let fr := d.fr24 c
  let pull := d.pull24 c
  let target := match x.st, x.mode with
    | .freeRun, .dco => d.rd40 (chanOff c + 0x10) * two24
    | .freeRun, _ => d.frOffset c * two24
    | _, _ => if tracking x then x.loop.b else x.loop.target
  let want := clampI (-pull) pull target
  let d := d.modLoop c fun l => { l with b := moveB l.b target fr pull, p := 0, vSw := 0, e := e }
  d.limFlags c false (decide ((want - x.loop.b).natAbs > fr))

/-- A time scale's zero point: it reads 0 s at the first update of its channel after XO qualification (R217). -/
def Dev.tsZero (c : Fin 16) (d : Dev) : Dev :=
  if d.pwr.restoreTodo.getLsbD c then d
  else forFin 4 (fun n d =>
    if d.tsChan n = c && !(d.tsc n).started then
      let f := feedback24 (d.chan c).loop ((d.chan c).loop.at_ / two24)
      d.modTs n fun t => { t with started := true, ofs := -f }
    else d) d

/-- CHAN_UPDATE: one update of a channel (R133). It runs while the timebase runs and the CHAN block is ready. -/
def chanUpdateStep (c : Fin 16) (d : Dev) : Dev :=
  if d.clk.xo && d.blockReady 8 then
    let x := d.chan c
    let tu := d.tu c
    let e := clampI (-549755813888) 549755813887 (d.updateE c)
    let live := engaged x && x.track.phValid
    let sat := live && e ≠ d.updateE c
    let d := if live then (d.pub40 (chanOff c + 0x30) e).modTrack c fun t =>
        { t with phSat := sat, evs := [], winE := if t.fpull && t.winE.isNone then some e else t.winE } else d
    let d := if live && tracking x then
        (if x.sw.due then
          -- the update that takes D runs with er = 0 and without the ramp
          let d := d.takeD c e false
          (d.trackUpdate c (if (d.chan c).sw.lastMode = .jump then 0 else e) false).modLoop c fun l =>
            { l with e := if (d.chan c).sw.lastMode = .jump then 0 else e }
        else d.trackUpdate c e true)
      else d.driftUpdate c (if live then e else x.loop.e)
    let d := d.pubY c
    let sec := d.clk.tbUs / 1000000
    let d := if tracking x then d.modHo c fun h =>
        let new := !h.run && h.sumSec ≠ sec
        { h with sum := (if new then 0 else h.sum) + (d.chan c).loop.b, n := (if new then 0 else h.n) + 1, sumSec := sec } else d
    let d := d.modChan c fun y => { y with ffoSum := y.ffoSum + y.loop.y, ffoN := y.ffoN + 1 }
    -- the NCO advances by Tu * (1 + y * 2^-48)
    let dt := roundDiv (tu.1 * two24) tu.2
    let d := d.modLoop c fun l => { l with nco := l.nco + dt + dt * l.y / two48, at_ := l.at_ + dt }
    d.tsZero c
  else d

/-- W in grains (R151): the larger of 1.024 ms and 4 T_u. -/
def pullWindow (tu : Nat × Nat) : Nat × Nat :=
  if 4 * tu.1 ≤ 67108864000 * tu.2 then (67108864000, 1) else (4 * tu.1, tu.2)

/-- PULLIN_WINDOW_END: f_err, rounded down to 2^-24 FU (log entry 152), the new target, or the end of the pull-in and its D (R151,
R152). -/
def pullWindowEnd (c : Fin 16) (d : Dev) : Dev :=
  let x := d.chan c
  match x.track.winE with
  | some e0 =>
    if d.blockReady 8 && x.st = .acquiring && x.track.fpull && x.track.phValid then
      let w := pullWindow (d.tu c)
      let f24 := (x.loop.e - e0) * two24 * two48 * w.2 / w.1
      let pull := d.pull24 c
      let rests := decide (pull ≤ x.loop.b.natAbs)
      if decide (4 * f24.natAbs ≤ d.slopeS c * two24) && !rests then
        let d := (d.modTrack c fun t => { t with fpull := false, winE := none, resid := [] }).modHo c
          fun h => { h with stretchFrom := some d.clk.tbUs }
        (d.modSw c fun s => { s with switching := false }).takeD c x.loop.e true
      else
        (d.modLoop c fun l => { l with target := clampI (-pull) pull (l.b + f24) }).modTrack c fun t =>
          { t with winE := some x.loop.e }
    else d
  | none => d

/-- LOCK_TIME_EXPIRY: row 8 of Table 5-6; the history engine starts, within a second whose b it has gathered (R153, R181). -/
def lockTimeEnd (c : Fin 16) (d : Dev) : Dev :=
  let x := d.chan c
  if d.blockReady 8 && x.st = .acquiring && x.track.lockRun then
    let d := d.modChan c fun y => { y with everLocked := true }
    let whole := match x.ho.stretchFrom with
      | some s => decide (s ≤ d.clk.tbUs / 1000000 * 1000000)
      | none => false
    let d := if x.ho.run then d else d.modHo c fun h =>
        { h with run := true, whole := whole, sum := if h.sumSec = d.clk.tbUs / 1000000 then h.sum else 0,
                 n := if h.sumSec = d.clk.tbUs / 1000000 then h.n else 0 }
    (d.modTrack c fun t => { t with lockRun := false }).chanTo c .locked 8
  else d

/-- HISTORY_SNAPSHOT: b of every channel at a 125 µs boundary (R179). -/
def historySnap (d : Dev) : Dev :=
  if d.clk.xo then
    forFin 16 (fun c d => d.modHo c fun h =>
      { h with snaps := (⟨d.clk.tbUs / 125, (d.chan c).loop.b, tracking (d.chan c)⟩ :: h.snaps).take 2050 }) d
  else d

/-- HISTORY_SAMPLE: the end of a second of the history engine (R181, R182), which is one of the measurement timebase; HO_A1 and
HO_A1024 are published then (log entry 156). -/
def historySecond (c : Fin 16) (d : Dev) : Dev :=
  if !d.clk.xo then d else
  let x := d.chan c
  let d :=
    if x.ho.run && x.ho.whole && tracking x && x.ho.n ≠ 0 then
      d.modHo c fun h => { h with samples := ((roundDiv h.sum h.n, if d.rdF (chanOff c + 0x400) 15 4 = 15 then none else h.temp)
                                                :: h.samples).take 1025,
                                  histS := min (h.histS + 1) 16777215, endUs := d.clk.tbUs / 1000000 * 1000000 }
    else d
  let d := d.modHo c fun h => { h with sum := 0, n := 0, whole := h.run && tracking x }
  let d := match d.avg1 c with
    | some a => d.pub40 (chanOff c + 0x438) (sat40 (roundDiv a.1 two24))
    | none => d
  match d.avg1024 c with
  | some a => d.pub40 (chanOff c + 0x440) (sat40 (roundDiv a.1 two24))
  | none => d

/-- U of R186 as numerator and denominator, in ns. -/
def uncertainty (func dunc tau : Nat) (dev24 : Nat) : Nat × Nat :=
  let den := 16777216 * 28147498 * 100 * 172800
  (func * tau * (16777216 * 28147498 * 172800) + dev24 * 100 * tau * (100 * 172800) +
    dunc * tau * tau * (16777216 * 28147498), den)

/-- HOLDOVER_SECOND: the prediction and its uncertainty; the row HOLDOVER → LOST (R184, R186). While XO is absent there is none:
the gap is in neither τ nor U (R341, R342). -/
def holdoverSec (c : Fin 16) (d : Dev) : Dev :=
  let x := d.chan c
  if d.clk.xo && x.st = .holdover then
    let tau := x.ho.tau + 1
    let t := d.yPred c x.ho.base x.ho.tcenUs x.ho.tempB tau
    let uc := d.rd (chanOff c + 0x408)
    let u := uncertainty (fld uc 16 16) (fld uc 0 16) tau (x.ho.base - x.ho.bFrz).natAbs
    let d := (d.modHo c fun h => { h with tau := tau }).modLoop c fun l => { l with target := t }
    let d := ((d.pub40 (chanOff c + 0x448) (sat40 (roundDiv t two24))).wr (chanOff c + 0x424) (word (satN 32 (u.1 / u.2)))).wr
      (chanOff c + 0x428) (word (satN 32 tau))
    if d.rdF (chanOff c + 0x404) 0 23 * u.2 < u.1 then
      (((d.modLoop c fun l => { l with target := l.b }).bump (chanOff c + 0x450) 0 16).histClear c).chanTo c .lost 10
    else d
  else d

/-- HO_PREDICTION_SECOND: y_pred as if a freeze occurred now (R188). -/
def predictionSec (c : Fin 16) (d : Dev) : Dev :=
  if !d.clk.xo || (d.chan c).st = .holdover then d
  else
    let b := d.predBase c (d.bFreeze c)
    d.pub40 (chanOff c + 0x448) (sat40 (roundDiv (d.yPred c b.1 b.2.2.1 b.2.2.2 0) two24))

/-- TEMP_SAMPLE: the once-per-second reading of TEMP_SRC (R185). -/
def tempRead (c : Fin 16) (d : Dev) : Dev :=
  let src := d.rdF (chanOff c + 0x400) 15 4
  if src < 8 then
    let w := d.rd (0x300200 + 4 * src)
    d.modHo c fun h => { h with temp := if bit w 31 then some (sfld w 0 16) else none, tempStale := false }
  else if src = 8 then
    match (d.chan c).ho.extAt with
    | some t =>
      if t + 10000000 ≤ d.clk.aonUs then d.modHo c fun h => { h with tempStale := true }
      else d.modHo c fun h => { h with temp := some (d.rd (chanOff c + 0x410) |> fun w => sfld w 0 16), tempStale := false }
    | none => d.modHo c fun h => { h with temp := none, tempStale := 10000000 ≤ d.clk.aonUs }
  else d.modHo c fun h => { h with temp := none, tempStale := false }

def execChanUpdate (ch : Fin 16) (s : State) : Host.Outcome State Fault Refusal := run (chanUpdateStep ch) s
def execPullinWindowEnd (ch : Fin 16) (s : State) : Host.Outcome State Fault Refusal := run (pullWindowEnd ch) s
def execLockTimeExpiry (ch : Fin 16) (s : State) : Host.Outcome State Fault Refusal := run (lockTimeEnd ch) s
def execHistorySnapshot (s : State) : Host.Outcome State Fault Refusal := run historySnap s
def execHistorySample (ch : Fin 16) (s : State) : Host.Outcome State Fault Refusal := run (historySecond ch) s
def execHoldoverSecond (ch : Fin 16) (s : State) : Host.Outcome State Fault Refusal := run (holdoverSec ch) s
def execHoPredictionSecond (ch : Fin 16) (s : State) : Host.Outcome State Fault Refusal := run (predictionSec ch) s
def execTempSample (ch : Fin 16) (s : State) : Host.Outcome State Fault Refusal := run (tempRead ch) s

end Sys2Proof.Machine
end

