-- ==== Sys2Proof/Machine/Operands.lean ====
section
/-! DEFINITION. The operands of a command: parameter words and fields, register images, failing fields (R317, R318). -/

namespace Sys2Proof.Machine

/-- A parameter field: word, lowest bit, width. -/
abbrev Param := Nat × Nat × Nat

/-- The index of a field: its bit offset from the start of the block (R317). -/
def Param.index (p : Param) : Nat := 32 * p.1 + p.2.1

/-- A whole parameter word. -/
def whole (w : Nat) : Param := (w, 0, 32)
/-- Whole words `a` to `a + n − 1`. -/
def wholes (a n : Nat) : List Param := (List.range n).map fun i => whole (a + i)

/-- A parameter field of a command. -/
def pf (c : Cmd) (w lo width : Nat) : Nat := fld (wordAt c.words w) lo width
/-- A 64-bit parameter over two words, and the buffer address it names: SPACE in bit 0 is no part of the address. -/
def bufAddr (c : Cmd) (w : Nat) : Nat := ((wordAt c.words w).toNat + (wordAt c.words (w + 1)).toNat * 4294967296) / 2 * 2

/-- Bit `b` of a word is used by one of the fields given. -/
def usedBit (u : List Param) (b : Nat) : Bool := u.any fun p => p.2.1 ≤ b && b < p.2.1 + p.2.2

/-- Unused bits that are 1: each fails with its own bit offset, as R317 says of descriptor bytes 16–63 (log entry 17). -/
def unusedFail (ws : List Word) (used : List Param) : List Nat :=
  (List.range ws.length).flatMap fun i =>
    let u := used.filter fun p => p.1 = i
    (List.range 32).filterMap fun b => if bit (wordAt ws i) b && !usedBit u b then some (32 * i + b) else none

/-- The used fields that lie wholly or partly beyond the block. -/
def shortFail (ws : List Word) (used : List Param) : List Nat :=
  (used.filter fun p => ws.length ≤ p.1).map Param.index

/-- The lowest of some indices. -/
def lowest : List Nat → Option Nat
  | [] => none
  | a :: l => some (l.foldl min a)

/-- Step 3 of R318: the lowest failing field of a command whose used fields are `used`, `bad` those found out of range. -/
def paramFail (c : Cmd) (used : List Param) (bad : List Nat) : Option Nat :=
  lowest (bad ++ unusedFail c.words used ++ shortFail c.words used)

/-- A field of a register image is out of range, or a field that must be 0 is not (R317). -/
def fieldBad (w : Word) (f : RegField) : Bool :=
  let v : Int := if f.sg then sfld w f.lo f.width else fld w f.lo f.width
  match f.acc with
  | .zero => fld w f.lo f.width ≠ 0
  | .rw | .lk => v < f.min || f.max < v
  | .ct | .tr | .kr => false

/-- The failing bits of an image of the register at `off`. -/
def imageFields (off : Nat) (w : Word) : List Nat :=
  match regDesc off with
  | some d => (d.fields.filter (fieldBad w)).map (·.lo)
  | none => []

/-- The failing field indices of parameter word `i` as an image of the register at `off`. -/
def imageBad (c : Cmd) (i off : Nat) : List Nat := (imageFields off (wordAt c.words i)).map (32 * i + ·)

/-- `n` words from `i` as images of consecutive registers from `off`. -/
def imagesBad (c : Cmd) (i off n : Nat) : List Nat := (List.range n).flatMap fun k => imageBad c (i + k) (off + 4 * k)

/-- A check with its failing index. -/
def failIf (b : Bool) (i : Nat) : List Nat := if b then [i] else []

/-- A command of checked parameters: INVALID with the lowest failing index, changing nothing, or `f` (R318 steps 3 and 4). -/
def checked (c : Cmd) (used : List Param) (bad : List Nat) (f : Dev → CmdOut × Dev) (d : Dev) : Option CmdOut × Dev :=
  match paramFail c used bad with
  | some i => (some (.invalid i), d)
  | none => let r := f d; (some r.1, r.2)

/-- The same for a command that may stay in progress. -/
def checkedLong (c : Cmd) (used : List Param) (bad : List Nat) (f : Dev → Option CmdOut × Dev) (d : Dev) : Option CmdOut × Dev :=
  match paramFail c used bad with
  | some i => (some (.invalid i), d)
  | none => f d

end Sys2Proof.Machine
end

