-- ==== Sys2Proof/Machine/Qual.lean ====
section
/-! DEFINITION. Qualification, ranks, the selection gate, the autopilot's selections and forcing (chapter 4). -/

namespace Sys2Proof.Machine

def Dev.modQual (n : Fin 64) (f : Qual → Qual) (d : Dev) : Dev := d.modBuoy n fun b => { b with qual := f b.qual }
def Dev.modMon (n : Fin 64) (f : Monitor → Monitor) (d : Dev) : Dev := d.modBuoy n fun b => { b with mon := f b.mon }

/-- The codes of Table 4-1. -/
def QState.code : QState → Nat
  | .idle => 0 | .first => 1 | .wtr => 2 | .qualified => 3 | .failed => 4 | .held => 5

def Dev.isQual (d : Dev) (n : Fin 64) : Bool := (d.buoy n).qual.st = .qualified

/-! ### Ranks -/

/-- The rank of a slot in a channel's table (CHANn_RANKm). -/
def Dev.rank (d : Dev) (c : Fin 16) (s : Fin 64) : Nat := d.rdF (chanOff c + 0xC40 + 4 * (s.val / 8)) (4 * (s.val % 8)) 4

/-- DISAGREE (R115). -/
def Dev.disagree (d : Dev) (n : Fin 64) : Bool :=
  (d.buoy n).qual.minority || (List.finRange 16).any fun c => (d.chan c).sel.outliers.any fun p => p.1 = n

/-- The source of a slot is there: not while its block is in reset, XO is absent, or the ports of the SyncE slots are shed. The
slots lost in one cycle are all lost before the autopilot chooses. -/
def Dev.slotThere (d : Dev) (n : Fin 64) : Bool :=
  d.clk.xo && d.blockReady 6 && (if 36 ≤ n.val && n.val < 44 then d.blockReady 12 && !d.shed else true)

/-- EQUAL_DISAGREE clears where the rank of its partner is no longer that of `was` (R126). -/
def Dev.partnerKeep (c : Fin 16) (was : Fin 64 → Nat) (d : Dev) : Dev :=
  match (d.chan c).sel.partner with
  | some o => if d.rank c o = was o then d else d.partnerClear c
  | none => d

/-- The best candidate of a channel: QUALIFIED, without DISAGREE, of rank r ≠ 0 below `bound`; equal ranks keep the lower
slot (R118, R130). -/
def Dev.bestSlot (d : Dev) (c : Fin 16) (bound : Nat) : Option (Fin 64) :=
  ((List.finRange 64).foldl (fun (a : Option (Fin 64) × Nat) s =>
    let r := d.rank c s
    if r = 0 || !d.isQual s || !d.slotThere s || d.disagree s || a.2 ≤ r then a else (some s, r)) (none, bound)).1

/-- BETTER and BETTER_SLOT (R118). -/
def Dev.betterSlot (d : Dev) (c : Fin 16) : Option (Fin 64) :=
  let r := match (d.chan c).sel.cur with
    | some s => d.rank c s
    | none => 0
  d.bestSlot c (if r = 0 then 16 else r)

/-! ### Selection (R120, R128 to R131) -/

/-- The arming of a channel's force ends (R127). -/
def Dev.disarm (c : Fin 16) (d : Dev) : Dev := (d.modSel c fun s => { s with armed := none }).wrF (chanOff c + 0xC10) 7 1 0

/-- A SELECT of Table 4-7, orders 4 to 8, answering its progress when it is refused. -/
def Dev.selectSlot (c : Fin 16) (n : Fin 64) (force auto : Bool) (d : Dev) : Option Nat × Dev :=
  let x := (d.chan c).sel
  if force && x.armed ≠ some n then (some 3, d.disarm c)
  else if !d.isUp n then (some 2, d.disarm c)
  else if !force && !d.isQual n then (some 1, d)
  else if x.cur = some n && (x.src = .forced) == force then (none, d)
  else
    let src : SelSrc := if force then .forced else if auto then .autopilot else .command
    let d := if x.cur = some n then d.modSel c fun s => { s with src := src } else d.follow c n src
    let d := d.bump (chanOff c + 0xC04) 16 16
    (none, if force then
        ((d.disarm c).occur 49 c).logEnt 0x85 c 8 [b8 c, b8 n, b8 (d.buoy n).qual.st.code]
      else d)

/-- AP_ACTIVE (R24). -/
def Dev.apActive (d : Dev) : Bool := d.keeper.sup.ap ≠ .normal

/-- The autopilot's procedure for one channel (R130, R131). -/
def Dev.autopilot (c : Fin 16) (d : Dev) : Dev :=
  if d.blockReady 8 && d.apActive && !d.watch.safe && (d.chan c).sel.orphaned && !(d.chan c).sw.switching then
    match d.bestSlot c 16 with
    | some s =>
      let r := d.selectSlot c s false true
      match r.1 with
      | none => r.2.logEnt 0x84 c 8 [b8 c, b8 s]
      | some _ => r.2
    | none => d
  else d

/-- The procedure for the channels that have become orphaned (R130). -/
def Dev.autopilotFor (l : List (Fin 16)) (d : Dev) : Dev := l.foldl (fun d c => d.autopilot c) d

/-- The channels whose current slot is n. -/
def Dev.followers (d : Dev) (n : Fin 64) : List (Fin 16) := (List.finRange 16).filter fun c => (d.chan c).sel.cur = some n

/-- The procedure for every orphaned channel. -/
def Dev.autopilotAll (d : Dev) : Dev := forFin 16 Dev.autopilot d

/-! ### Qualification states (Tables 4-1 and 4-2) -/

/-- A qualification state change by a row of Table 4-2, with its event. -/
def Dev.qualTo (n : Fin 64) (st : QState) (row : Nat) (d : Dev) : Dev :=
  let old := (d.buoy n).qual.st
  (d.modQual n fun q => { q with st := st, expired := false, fromMs := d.tbMs }).stateEv 6 1 n old.code st.code row 0xFF

/-- The marks of the pairs of slot n end (R125). -/
def Dev.marksEnd (n : Fin 64) (d : Dev) : Dev :=
  forFin 16 (fun c => Dev.modSel c fun s => { s with outliers := s.outliers.filter fun p => p.1 ≠ n && p.2 ≠ n }) d

/-- What ends when a slot is no longer QUALIFIED: its count, EQUAL_DISAGREE with it, the marks of its pairs (R125, R126). -/
def Dev.leftQual (n : Fin 64) (d : Dev) : Dev :=
  (forFin 16 (fun c d => if (d.chan c).sel.partner = some n then d.partnerClear c else d)
    (d.bump (buoyOff n + 0x1A4) 0 16)).marksEnd n

/-- R122: the channels that follow slot n without force drop it; each becomes orphaned and the autopilot may select. -/
def Dev.dropSlot (n : Fin 64) (d : Dev) : Dev :=
  let l := (d.followers n).filter fun c => (d.chan c).sel.src ≠ .forced
  (l.foldl (fun d c => d.leaveSlot c true) d).autopilotFor l

/-- A change out of QUALIFIED or another state into `st` while the slot stays UP. -/
def Dev.qualLeave (n : Fin 64) (st : QState) (row : Nat) (d : Dev) : Dev :=
  if d.isQual n then ((d.qualTo n st row).leftQual n).dropSlot n else d.qualTo n st row

/-- Row 1: kept out by a mark. -/
def Dev.holdOut (n : Fin 64) (f : Qual → Qual) (d : Dev) : Dev :=
  let d := d.modQual n f
  if (d.buoy n).qual.st = .held then d else d.qualLeave n .held 1

/-- Row 5: the slot has left UP. Its followers take the loss path of R92. -/
def Dev.qualDown (n : Fin 64) (d : Dev) : Dev :=
  match (d.buoy n).qual.st with
  | .idle | .held => d
  | .qualified => (d.qualTo n .idle 5).leftQual n
  | .first | .wtr | .failed => d.qualTo n .idle 5

/-! ### Reject and accept conditions (Table 4-3) -/

/-- The compare channel of a slot (R98). -/
def Dev.cmpChan (d : Dev) (n : Fin 64) : Option (Fin 16) :=
  let w := d.rd (buoyOff n + 0x14)
  if bit w 31 then (List.finRange 16).find? fun c => (d.chan c).sel.cur = some n else some (Fin.ofNat 16 (fld w 24 4))

/-- `k` × 2,814,749.77 FU to the nearest FU. -/
def xoBand (k : Nat) : Nat := (roundDiv (k * 281474977) 100).toNat
/-- `k` × 281,474.98 FU to the nearest FU. -/
def chBand (k : Nat) : Nat := (roundDiv (k * 28147498) 100).toNat

/-- FFO_CH_VALID: the latest gate gave a value, and against the present compare channel (R98, log entry 157). -/
def Dev.ffoChValid (d : Dev) (n : Fin 64) : Bool :=
  (d.buoy n).mon.chValid && (d.cmpChan n).isSome && decide (d.cmpChan n = (d.buoy n).mon.chOf)

/-- The channel band applies: FFO_CH_VALID = 1 and the compare channel LOCKED. -/
def Dev.chBandOn (d : Dev) (n : Fin 64) : Bool :=
  d.ffoChValid n && (match d.cmpChan n with
    | some c => (d.chan c).st = .locked
    | none => false)

/-- Some MTIE result exceeds its mask times `k` gr. -/
def Dev.mtieOver (d : Dev) (n : Fin 64) (k : Nat) : Bool :=
  match (d.buoy n).mon.mtie with
  | none => false
  | some l => (List.range 4).any fun i =>
      let m := d.rdF (buoyOff n + 0x190 + 4 * i) 0 16
      m ≠ 0 && decide (m * k < l.getD i 0)

/-- DEC_LOCK counts for the LTC, AES and VIDEO decoders. -/
def Dev.decFail (d : Dev) (n : Fin 64) : Bool :=
  let k := d.decoder n
  (k = 4 || k = 5 || k = 8) && !(d.buoy n).dec.lock

/-- The failure bits F_FREQ, F_FCH, F_MTIE, F_MINOR, F_DEC of an UP slot (R113). -/
def Dev.failBits (d : Dev) (n : Fin 64) : List Bool :=
  let m := (d.buoy n).mon
  if d.isUp n then
    [m.freqValid && decide (xoBand (d.rdF (buoyOff n + 0x184) 16 16) < m.y.natAbs),
     d.chBandOn n && decide (chBand (d.rdF (buoyOff n + 0x188) 16 16) < m.yCh.natAbs),
     d.mtieOver n 65536, (d.buoy n).qual.minority, d.decFail n]
  else [false, false, false, false, false]

/-- A reject condition holds (R113). -/
def Dev.rejects (d : Dev) (n : Fin 64) : Bool := (d.failBits n).any id

/-- Every accept condition is met or does not apply (R114). -/
def Dev.accepted (d : Dev) (n : Fin 64) : Bool :=
  let m := (d.buoy n).mon
  m.freqValid && decide (m.y.natAbs ≤ xoBand (d.rdF (buoyOff n + 0x184) 0 16)) &&
    (!d.chBandOn n || decide (m.yCh.natAbs ≤ chBand (d.rdF (buoyOff n + 0x188) 0 16))) &&
    !d.mtieOver n 49152 && !(d.buoy n).qual.minority && !d.decFail n

/-- Row 9: the slot qualifies, and the autopilot may select it. -/
def Dev.qualify (n : Fin 64) (d : Dev) : Dev :=
  (((d.modQual n fun q => { q with ever := true }).bump (buoyOff n + 0x1A4) 16 16).qualTo n .qualified 9).autopilotAll

/-- Rows 8 to 12 after a publication; a reject condition is taken before an accept condition (R112). -/
def Dev.qualEval (n : Fin 64) (d : Dev) : Dev :=
  let q := (d.buoy n).qual
  match q.st with
  | .first | .wtr =>
    if d.rejects n then d.qualTo n .failed 8
    else if q.expired && d.accepted n then d.qualify n
    else d
  | .qualified => if d.rejects n then d.qualLeave n .failed 10 else d
  | .failed =>
    if d.rejects n || !d.accepted n then d
    else if !q.ever then d.qualTo n .first 11 else d.qualTo n .wtr 12
  | .idle | .held => d

/-- Rows 2 to 4: HELD with no mark left; then row 8 where a reject condition holds. -/
def Dev.holdExit (n : Fin 64) (d : Dev) : Dev :=
  let q := (d.buoy n).qual
  if q.st = .held && !q.reroute && !q.hostHold then
    if !d.isUp n then d.qualTo n .idle 2 else if !q.ever then (d.qualTo n .first 3).qualEval n else (d.qualTo n .wtr 4).qualEval n
  else d

/-- Rows 6 and 7: the slot has entered UP; then row 8 where a reject condition holds. -/
def Dev.qualUp (n : Fin 64) (d : Dev) : Dev :=
  let q := (d.buoy n).qual
  if q.st = .idle then (if !q.ever then d.qualTo n .first 6 else d.qualTo n .wtr 7).qualEval n else d

/-- QUAL_TIMER_EXPIRY: row 9 where every accept condition is met; otherwise the slot stays with its timer expired (R110). -/
def qualTimer (n : Fin 64) (d : Dev) : Dev :=
  let q := (d.buoy n).qual
  if q.st = .first || q.st = .wtr then
    let d := d.modQual n fun q => { q with expired := true }
    if d.accepted n then d.qualify n else d
  else d

/-- The length of the running timer in ms. -/
def Dev.qualLenMs (d : Dev) (n : Fin 64) : Nat :=
  match (d.buoy n).qual.st with
  | .first => d.rdF (buoyOff n + 0x180) 0 20 * 10
  | .wtr => d.rdF (buoyOff n + 0x180) 20 12 * 1000
  | _ => 0

/-- REMAIN in units of 100 ms, rounded up (R110). -/
def Dev.qualRemain (d : Dev) (n : Fin 64) : Nat :=
  let q := (d.buoy n).qual
  if q.expired then 0 else ceilDiv (q.fromMs + d.qualLenMs n - d.tbMs) 100

/-! ### The equal-rank test (R124 to R126) -/

/-- The number k of the matrix entry of a pair (Numbering, chapter 1). -/
def pairIdx (a b : Fin 64) : Nat :=
  let i := min a.val b.val
  let j := max a.val b.val
  63 * i - i * (i - 1) / 2 + (j - i - 1)

def Dev.pair (d : Dev) (k : Nat) : Pair := Tab.get (fun _ => Pair.reset) d.pairs k
def Dev.setPair (k : Nat) (p : Pair) (d : Dev) : Dev := { d with pairs := Tab.put (fun _ => Pair.reset) d.pairs k p }
def Dev.pairDis (d : Dev) (a b : Fin 64) : Bool := (d.pair (pairIdx a b)).dis

/-- (1 + y) / (1 + y_ch) − 1 in FU (R98). -/
def ffoRatio (y yCh : Int) : Int := roundDiv ((y - yCh) * two48) (two48 + yCh)

/-- e_x of R124, in FU: ffo_ch of slot x against channel c over its last gate, plus y_ch − y_pred. -/
def Dev.witness (d : Dev) (c : Fin 16) (x : Fin 64) : Option Int :=
  let m := (d.buoy x).mon
  if m.freqValid then
    m.gateFfo[c.val]?.map fun yc => ffoRatio m.y yc + (yc - d.rd40 (chanOff c + 0x448))
  else none

/-- `k` × 0.1 ppb in FU, rounded. -/
def tolFu (k : Nat) : Nat := (roundDiv (k * two48) 10000000000).toNat

/-- The verdict of R124: none without a third witness, else the outlier, if one is named. -/
def Dev.verdict (d : Dev) (c : Fin 16) (s o : Fin 64) : Option (Option (Fin 64)) :=
  if d.predValid c then
    match d.witness c s, d.witness c o with
    | some es, some eo =>
      let tol := tolFu (d.rdF (buoyOff s + 0x18) 0 20 + d.rdF (buoyOff o + 0x18) 0 20)
      if tol < eo.natAbs && 2 * es.natAbs ≤ tol then some (some o)
      else if tol < es.natAbs && 2 * eo.natAbs ≤ tol then some (some s)
      else some none
    | _, _ => none
  else none

/-- The test of one channel at the end of a matrix cycle. -/
def Dev.equalTest (c : Fin 16) (d : Dev) : Dev :=
  let sel := (d.chan c).sel
  let d := match sel.partner, sel.cur with
    | some o, some s => if d.pairDis s o then d else d.partnerClear c
    | _, _ => d
  let d := d.modSel c fun x => { x with outliers := x.outliers.filter fun p => d.pairDis p.1 p.2 }
  match sel.cur with
  | none => d
  | some s =>
    let r := d.rank c s
    match (List.finRange 64).find? fun o => r ≠ 0 && o ≠ s && d.isQual o && d.rank c o = r && d.pairDis s o with
    | none => d
    | some o =>
      let d' := d.modSel c fun x => { x with outliers := x.outliers.filter fun p => !(p = (s, o) || p = (o, s)) }
      match d.verdict c s o with
      | some (some x) => d'.modSel c fun y => { y with outliers := (x, if x = s then o else s) :: y.outliers }
      | _ =>
        if (d'.chan c).sel.partner = some o then d'
        else ((d'.modSel c fun x => { x with partner := some o }).occur 48 c).event 0x04 c 8 [b8 s, b8 o, 1]

/-! ### Forcing (R127) -/

/-- FORCE_ARM_EXPIRY: an arming expires unused. -/
def forceArmEnd (c : Fin 16) (d : Dev) : Dev :=
  if (d.chan c).sel.armed.isSome then d.disarm c else d

/-- An accepted guarded write of CHANn_FORCE_ARM. -/
def Dev.forceWrite (c : Fin 16) (w : Word) (d : Dev) : Dev :=
  if bit w 7 then (d.wr (chanOff c + 0xC10) w).modSel c fun s =>
      { s with armed := some (Fin.ofNat 64 (fld w 0 6)), armedAt := d.clk.aonUs }
  else (d.wr (chanOff c + 0xC10) w).disarm c

/-! ### Commands (Tables 4-6, 4-7, 4-10) -/

/-- The fields that CHAN_SELECT uses under its ACTION. -/
def chanSelectUsed (c : Cmd) : List Param :=
  [(0, 0, 4), (0, 4, 2)] ++
    (if pf c 0 4 2 = 0 then [(0, 8, 6), (0, 16, 1)] else if pf c 0 4 2 = 2 then (0, 17, 1) :: wholes 1 8 else [])

/-- CHAN_SELECT. -/
def chanSelectBody (c : Cmd) (d : Dev) : Option CmdOut × Dev :=
  let act := pf c 0 4 2
  checked c (chanSelectUsed c) (failIf (act = 3) 4) (fun d =>
    let ch : Fin 16 := Fin.ofNat 16 (pf c 0 0 4)
    if act = 2 then
      let e := (d.wrWords (chanOff ch + 0xC40) ((List.range 8).map fun i => wordAt c.words (i + 1))).wr
        (chanOff ch + 0xC08) (word (pf c 0 17 1))
      (.ok, e.partnerKeep ch (d.rank ch))
    else if (d.chan ch).sw.switching then (.busy (d.remainMs ch), d)
    else if act = 1 then (.ok, d.leaveSlot ch false)
    else
      let r := d.selectSlot ch (Fin.ofNat 64 (pf c 0 8 6)) (pf c 0 16 1 = 1) false
      match r.1 with
      | none => (.ok, r.2)
      | some p => (.refused p, (r.2.bump (chanOff ch + 0xC04) 0 16).autopilot ch)) d

/-- A reject value does not exceed its accept value in word `i`. -/
def bandBad (c : Cmd) (i : Nat) : List Nat := failIf (pf c i 16 16 ≤ pf c i 0 16) (32 * i)

/-- The parameters of REF_QUAL_PARAMS that fail. -/
def refQualBad (c : Cmd) : List Nat :=
  let o := buoyOff (pf c 0 0 6)
  failIf (pf c 0 6 26 ≠ 0) 6 ++ imagesBad c 1 (o + 0x180) 3 ++ imagesBad c 4 (o + 0x190) 4 ++ bandBad c 2 ++ bandBad c 3

/-- REF_QUAL_PARAMS. -/
def refQualParamsBody (c : Cmd) (d : Dev) : Option CmdOut × Dev :=
  let o := buoyOff (pf c 0 0 6)
  checked c ((0, 0, 6) :: wholes 1 7) (refQualBad c) (fun d =>
    (.ok, (d.wrWords (o + 0x180) ((List.range 3).map fun i => wordAt c.words (i + 1))).wrWords (o + 0x190)
      ((List.range 4).map fun i => wordAt c.words (i + 4)))) d

/-- REF_FORCE_STATE (R117, R132). -/
def refForceStateBody (c : Cmd) (d : Dev) : Option CmdOut × Dev :=
  let act := pf c 0 8 2
  checked c [(0, 0, 6), (0, 8, 2)] (failIf (act = 3) 8) (fun d =>
    let n : Fin 64 := Fin.ofNat 64 (pf c 0 0 6)
    let st := (d.buoy n).qual.st
    if act = 2 then
      if st = .first || st = .wtr then
        let d := qualTimer n d
        (.ok (d.buoy n).qual.st.code, d)
      else (.refused st.code, d)
    else
      let d := if act = 1 then d.holdOut n fun q => { q with hostHold := true }
        else (d.modQual n fun q => { q with hostHold := false }).holdExit n
      (.ok (d.buoy n).qual.st.code, d)) d

def execQualTimerExpiry (slot : Fin 64) (s : State) : Host.Outcome State Fault Refusal := run (qualTimer slot) s
def execForceArmExpiry (ch : Fin 16) (s : State) : Host.Outcome State Fault Refusal := run (forceArmEnd ch) s
def execRefQualParams (c : Cmd) (s : State) : Host.Outcome State Fault Refusal := run (command 0x11 c (refQualParamsBody c)) s
def execRefForceState (c : Cmd) (s : State) : Host.Outcome State Fault Refusal := run (command 0x12 c (refForceStateBody c)) s
def execChanSelect (c : Cmd) (s : State) : Host.Outcome State Fault Refusal := run (command 0x21 c (chanSelectBody c)) s

end Sys2Proof.Machine
end

