-- ==== Sys2Proof/Machine/Buoy.lean ====
section
/-! DEFINITION. Buoys (chapter 3): decoders, range checks, activity, loss, the frequency, TIE and MTIE monitors. -/

namespace Sys2Proof.Machine

def Dev.modAct (n : Fin 64) (f : Activity → Activity) (d : Dev) : Dev := d.modBuoy n fun b => { b with act := f b.act }
def Dev.modDec (n : Fin 64) (f : Decoder → Decoder) (d : Dev) : Dev := d.modBuoy n fun b => { b with dec := f b.dec }

/-- The Buoys run: the timebase runs and the BUOY block is ready (R74, R107, R340). -/
def Dev.buoysOn (d : Dev) : Bool := d.clk.xo && d.blockReady 6

/-- The codes of R323 for the activity machine. -/
def ActState.code : ActState → Nat
  | .down => 0 | .returning => 1 | .up => 2

/-! ### Range checks and decoder errors (R89) -/

/-- A RANGE count; it ends the lock of an AES slot (R84). -/
def Dev.rangeFail (n : Fin 64) (d : Dev) : Dev :=
  ((d.modDec n fun x => { x with rangeNow := true, lock := x.lock && d.decoder n ≠ 5 }).bump (buoyOff n + 0x28) 16 16).occur 33 n

/-- A DECERR count; it ends the lock of an AES slot (R84). -/
def Dev.decErr (n : Fin 64) (d : Dev) : Dev :=
  ((d.modDec n fun x => { x with lock := x.lock && d.decoder n ≠ 5 }).bump (buoyOff n + 0x28) 0 16).occur 34 n

/-- DEC0–DEC3 published (R64, Table 3-10). -/
def Dev.pubDec (n : Fin 64) (ws : List Word) (d : Dev) : Dev := (d.wrWords (buoyOff n + 0x74) ws).pubStat (buoyOff n + 0x70) 0

/-! ### The rates that the device sets (R80, R247) -/

/-- FNOM, FDEN and PREDIV − 1 in use, set by the device. -/
def Dev.setRate (n : Fin 64) (num den pre : Nat) (d : Dev) : Dev :=
  (d.pub40 (buoyOff n + 4) num).wr (buoyOff n + 0xC) (word (pre * 65536 + den))

/-- The decoders whose rate the device sets. -/
def rateFixed (dec : Nat) : Bool := dec = 2 || dec = 3 || 8 ≤ dec

/-- The frame rate of a video format as numerator and denominator (Table 3-4); the line rate is `linesOf` times it. -/
def frameRate (fmt : Nat) : Nat × Nat :=
  if fmt = 0x01 then (30000, 1001) else if fmt = 0x02 then (25, 1)
  else if fmt = 0x10 || fmt = 0x15 then (25, 1) else if fmt = 0x11 || fmt = 0x16 then (30000, 1001)
  else if fmt = 0x12 || fmt = 0x17 then (30, 1) else if fmt = 0x13 then (24000, 1001) else if fmt = 0x14 then (24, 1)
  else if fmt = 0x18 || fmt = 0x20 then (50, 1) else if fmt = 0x19 || fmt = 0x21 then (60000, 1001)
  else if fmt = 0x1A || fmt = 0x22 then (60, 1) else (0, 1)

/-! ### Activity (Table 3-6) -/

/-- N_RET; VIDEO counts 2 frames instead. -/
def nRet (dec : Nat) : Nat :=
  if dec = 1 || dec = 6 || dec = 9 then 64 else if dec = 4 then 4 else if dec = 5 then 192 else if dec = 11 then 16 else 3

/-- What a slot gives up as it enters DOWN: decoder lock, validity, monitors, its matrix entries (R82 to R85, R97, R102). -/
def Dev.slotClear (n : Fin 64) (d : Dev) : Dev :=
  let was := d.isUp n
  let d := d.modBuoy n fun b =>
    { b with
      dec := { b.dec with lock := false, todValid := false, todRun := 0, todSec := none, sixty := false, ltc := none, run := 0,
                          msg := false, frameBad := false },
      mon := { b.mon with freqValid := false, chValid := false, gateFrom := none, gateN := 0, gateClean := false, gateFfo := [], mtie := none,
                          tieLeft := b.mon.tieLeft || was, tieCh := none, tieZero := none, cycUp := false, cycPhase := none },
      est := none }
  let d := (List.finRange 64).foldl (fun d m => if m = n then d else d.setPair (pairIdx n m) Pair.reset) d
  (forFin 16 (fun c d =>
    let s := (d.chan c).sel
    if s.partner.isSome && (s.partner = some n || s.cur = some n) then d.partnerClear c else d) d).marksEnd n

/-- The loss indication to every channel that follows slot n, forced or not (R92, R122, R129). -/
def Dev.signalLoss (n : Fin 64) (d : Dev) : Dev :=
  forFin 16 (fun c d => onlyIf ((d.chan c).sel.cur = some n) (Dev.leaveSlot c true) d) d

/-- A slot goes DOWN by row 1, 2 or 4, with what follows in the channels and in qualification. As slot 60 leaves UP, an ORPHAN
makes an eligible alternate active (R295). -/
def Dev.slotDown (n : Fin 64) (row : Nat) (d : Dev) : Dev :=
  let l := d.followers n
  let old := (d.buoy n).act.st
  let d := (d.slotClear n).modAct n fun a =>
    { a with st := .down, retCnt := if row = 2 then a.retCnt else 0, frames := 0, last := none }
  if old = .up then
    let d := if row = 2 then (d.bump (buoyOff n + 0x24) 0 16).occur 32 n else d
    onlyIf (n = 60) Dev.orphanJoin ((((d.stateEv 6 0 n 2 0 row 0xFF).signalLoss n).qualDown n).autopilotFor l)
  else d

/-- Row 2 or row 4: a loss. -/
def slotLoss (n : Fin 64) (d : Dev) : Dev :=
  match (d.buoy n).act.st with
  | .up => d.slotDown n 2
  | .returning => d.slotDown n 4
  | .down => d.modDec n fun x => { x with lock := false, run := 0 }

/-- Row 1: the slot restarts, and with it its monitors (R106, R107); the MTIE measurement starts anew (R64). -/
def Dev.slotRestart (n : Fin 64) (d : Dev) : Dev :=
  ((d.slotDown n 1).modBuoy n fun b =>
    { b with act := { b.act with gross := false, pre := 0 }, mon := { b.mon with tie := [], tieLeft := false },
             dec := { b.dec with rangeNow := false } }).wrF (buoyOff n + 0x50) 31 1 0

/-- Row 6: the slot enters UP; its phase grid, TIE and counts start anew, and GROSS clears (log entry 151). -/
def Dev.slotUp (n : Fin 64) (t : Int) (d : Dev) : Dev :=
  let d := d.modBuoy n fun b =>
    { b with act := { b.act with st := .up, gross := false, last := some t, pre := 0 },
             mon := { b.mon with origin := t, idx := -1, tieCh := none, tieZero := none, mtie := none, gateFrom := none, gateN := 0,
                                 gateClean := false },
             dec := { b.dec with count := 0 } }
  (d.stateEv 6 0 n 1 2 6 0xFF).qualUp n

/-- An event at `t` reaches the activity detector: rows 3 and 5 to 7. `good`: its interval passes row 5; `frame`: it closes
a frame of a VIN slot. -/
def Dev.actEvent (n : Fin 64) (t : Int) (good frame : Bool) (d : Dev) : Dev :=
  let a := (d.buoy n).act
  match a.st with
  | .up => d.modAct n fun a => { a with last := some t }
  | .down => d.modAct n fun a => { a with st := .returning, retCnt := 1, frames := 0, last := some t }
  | .returning =>
    if !good then d.modAct n fun a => { a with retCnt := 1, frames := 0, last := some t }
    else if (if d.decoder n = 8 then frame && a.frames = 1 else a.retCnt + 1 = nRet (d.decoder n)) then d.slotUp n t
    else d.modAct n fun a =>
      { a with retCnt := a.retCnt + 1, frames := a.frames + (if frame then 1 else 0), last := some t }

/-- T_nom of an edge slot in gr, as numerator and denominator (activity: without PREDIV). -/
def Dev.tNom (d : Dev) (n : Fin 64) : Nat × Nat := (d.rdF (buoyOff n + 0xC) 0 16 * grPerSec, d.rdU40 (buoyOff n + 4))

/-- Row 5 of Table 3-6: the interval lies within ±1 % of T_nom. -/
def Dev.intervalOk (d : Dev) (n : Fin 64) (t : Int) : Bool :=
  match (d.buoy n).act.last with
  | none => true
  | some l =>
    let q := d.tNom n
    decide (((t - l) * q.2 - q.1).natAbs * 100 ≤ q.1)

/-- A stray event of an UP slot: earlier than t_exp − T_nom / 2 (R447). -/
def Dev.stray (d : Dev) (n : Fin 64) (t : Int) : Bool :=
  let q := d.tNom n
  let m := (d.buoy n).mon
  let y := if m.freqValid then m.y else 0
  match (d.buoy n).act.last with
  | none => false
  | some l => d.isUp n && q.2 ≠ 0 && decide (2 * q.2 * (t - l) * two48 < q.1 * (two48 - 2 * y))

/-! ### Monitors (R97 to R99) -/

/-- A TDC event with its phase, taken into the gate in progress. -/
def Dev.gateEvent (n : Fin 64) (t ph : Int) (d : Dev) : Dev :=
  d.modMon n fun m =>
    match m.gateFrom with
    | none => { m with phase := ph, phaseAt := t, gateFrom := some t, gateTo := t, gatePh := ph, gateN := 0 }
    | some _ => { m with phase := ph, phaseAt := t, gateTo := t, gateN := m.gateN + 1 }

/-- A TDC event of an edge slot: its phase on the nominal grid (R101). -/
def Dev.edgeEvent (n : Fin 64) (t : Int) (d : Dev) : Dev :=
  let q := d.slotTev n
  let m := (d.buoy n).mon
  if q.2 = 0 then d
  else (d.modMon n fun m => { m with idx := m.idx + 1 }).gateEvent n t (t - m.origin - (m.idx + 1) * q.1 / q.2)

/-- y of the gate in FU, exactly rounded to the nearest; none with fewer than 2 events. -/
def Dev.gateY (d : Dev) (n : Fin 64) : Option Int :=
  let m := (d.buoy n).mon
  let q := d.slotTev n
  match m.gateFrom with
  | none => none
  | some t0 =>
    if m.gateN = 0 then none
    else if d.decoder n = 10 || d.decoder n = 12 then
      if m.phaseAt ≤ t0 then none else some (roundDiv ((m.gatePh - m.phase) * two48) (m.phaseAt - t0))
    else if q.2 = 0 || m.gateTo ≤ t0 then none
    else some (roundDiv (m.gateN * q.1 * two48) (q.2 * (m.gateTo - t0)) - two48)

/-- The mean FFO of channel c since a mark of its sums. -/
def ffoMean (x : Chan) (mark : Int × Nat) : Int :=
  if x.ffoN ≤ mark.2 then x.loop.y else roundDiv (x.ffoSum - mark.1) ((x.ffoN : Int) - mark.2)

/-- The sums of all channels now. -/
def Dev.ffoMarks (d : Dev) : List (Int × Nat) := (List.finRange 16).map fun c => ((d.chan c).ffoSum, (d.chan c).ffoN)

/-- The next gate begins. -/
def Dev.gateStart (n : Fin 64) (d : Dev) : Dev :=
  d.modMon n fun m => { m with gateFrom := none, gateN := 0, gateClean := d.isUp n, gateChans := d.ffoMarks }

/-- A gate result is published, with the comparison channel's (R97, R98). -/
def Dev.gatePublish (n : Fin 64) (y : Int) (d : Dev) : Dev :=
  let means := (List.finRange 16).map fun c => ffoMean (d.chan c) ((d.buoy n).mon.gateChans.getD c.val (0, 0))
  let d := (d.pub40 (buoyOff n + 0x30) (sat40 y)).modMon n fun m => { m with freqValid := true, y := sat40 y, gateFfo := means }
  match d.cmpChan n with
  | some c =>
    let r := sat40 (ffoRatio y (means.getD c.val 0))
    (d.pub40 (buoyOff n + 0x38) r).modMon n fun m => { m with chValid := true, chOf := some c, yCh := r }
  | none => d.modMon n fun m => { m with chValid := false }

/-- FREQ_GATE_END: publication, GROSS (R94), then qualification; the loss is taken first (R112). -/
def gateEnd (n : Fin 64) (d : Dev) : Dev :=
  if d.buoysOn then
    match (if (d.buoy n).mon.gateClean && d.isUp n then d.gateY n else none) with
    | some y =>
      let d := d.gatePublish n y
      if decide (281474976710656 < y.natAbs * 100) then
        ((d.modAct n fun a => { a with gross := true }).slotDown n 2).gateStart n
      else (d.qualEval n).gateStart n
    | none => (d.modMon n fun m => { m with gateFfo := [] }).gateStart n
  else d

/-- Phase of the slot against the compare channel's feedback, or against the timebase, at its last event (R27, R99). -/
def Dev.tieRaw (d : Dev) (n : Fin 64) : Int :=
  let m := (d.buoy n).mon
  match d.cmpChan n with
  | some c => m.phase - (m.phaseAt * two24 - feedback24 (d.chan c).loop m.phaseAt) / two24
  | none => m.phase

/-- TIE_SAMPLE (R99). The first sample of a period starts its MTIE measurement, which clears DONE (R64; log entry 146). TIE
keeps its value while the slot is not UP, and a change of the compare channel drops no sample of the period (log entry 147). -/
def tieTake (n : Fin 64) (d : Dev) : Dev :=
  if d.buoysOn && d.isUp n then
    let m := (d.buoy n).mon
    let raw := d.tieRaw n
    let ch := d.cmpChan n
    let zero := match m.tieZero with
      | some z => if m.tieCh = ch then z else raw
      | none => raw
    let v := sat40 (raw - zero)
    let d := if m.tie.isEmpty then d.wrF (buoyOff n + 0x50) 31 1 0 else d
    (d.pub40 (buoyOff n + 0x40) v).modMon n fun m => { m with tieCh := ch, tieZero := some zero, tie := m.tie ++ [v] }
  else d

/-- max − min of a list of samples. -/
def spread (l : List Int) : Nat :=
  match l with
  | [] => 0
  | a :: r => (r.foldl max a - r.foldl min a).toNat

/-- MTIE over windows of `w` + 1 samples; none where no window lies inside the period (R100). -/
def mtieOf (w : Nat) : List Int → Option Nat
  | [] => none
  | a :: l =>
    if w ≤ l.length then some (max (spread (a :: l.take w)) ((mtieOf w l).getD 0)) else none

/-- The four results of a period; a window longer than the samples has a free value. -/
def Dev.mtieResults (n : Fin 64) (d : Dev) : List Nat × Dev :=
  (List.range 4).foldl (fun (a : List Nat × Dev) k =>
    match mtieOf (2 ^ d.rdF (buoyOff n + 0x1C) (5 * k) 5) (d.buoy n).mon.tie with
    | some v => (a.1 ++ [satN 32 v], a.2)
    | none => let r := a.2.draw; (a.1 ++ [r.1.toNat % 4294967296], r.2)) ([], d)

/-- MTIE_PERIOD_END (R100). -/
def mtieEnd (n : Fin 64) (d : Dev) : Dev :=
  let m := (d.buoy n).mon
  if d.buoysOn && (!m.tie.isEmpty || m.tieLeft) then
    let r := d.mtieResults n
    let d := (r.2.wrWords (buoyOff n + 0x54) (r.1.map word)).pubStat (buoyOff n + 0x50) (if m.tieLeft then 16384 else 0)
    let up := d.isUp n
    (d.modMon n fun m => { m with tie := [], tieLeft := false, mtie := if up then some r.1 else none }).qualEval n
  else d

/-! ### Time-of-day messages (R81, R82) -/

def isLeapYear (y : Nat) : Bool := (y % 4 = 0 && y % 100 ≠ 0) || y % 400 = 0
def daysIn (y m : Nat) : Nat :=
  if m = 2 then (if isLeapYear y then 29 else 28) else if m = 4 || m = 6 || m = 9 || m = 11 then 30 else 31
/-- Days from 1970-01-01 to a date from 1970 on. -/
def daysTo (y m dd : Nat) : Nat :=
  365 * (y - 1970) + ((y - 1) / 4 - (y - 1) / 100 + (y - 1) / 400 - 477) + ((List.range (m - 1)).map fun i => daysIn y (i + 1)).sum +
    (dd - 1)

/-- The fields of a UTC message are in range (R82); a date before 1970 is not (log entry 148). -/
def utcInRange (m : TodMsg) : Bool :=
  1970 ≤ m.year && 1 ≤ m.month && m.month ≤ 12 && 1 ≤ m.day && m.day ≤ daysIn m.year m.month && m.hour ≤ 23 && m.minute ≤ 59 &&
    (m.second ≤ 59 || (m.second = 60 && m.hour = 23 && m.minute = 59))

/-- The second of a message, the 60th counting as the next day's first. -/
def todSecond (m : TodMsg) : Nat :=
  if m.ptp then m.ptpSec else daysTo m.year m.month m.day * 86400 + m.hour * 3600 + m.minute * 60 + m.second

/-- The message arrived inside the window of its edge (R81). -/
def todInWindow (before : Bool) (m : TodMsg) : Bool :=
  if before then decide (m.endUs < 0) && decide (-900000 ≤ m.endUs) else decide (0 ≤ m.endUs) && decide (m.endUs ≤ 900000)

/-- The second on the time scale of a decoded second: a UTC second is converted with UTC_OFFSET and the pending leap (R228). -/
def Dev.toTs (d : Dev) (n : Fin 4) (ptp sixty : Bool) (sec : Nat) : Int :=
  if ptp then sec
  else
    let off : Int := d.utcOffset n
    match (d.tsc n).leap with
    | some (del, day) =>
      if sec < (day + 1) * 86400 || sixty then sec + off else if del then sec + off - 1 else sec + off + 1
    | none => if sixty then sec + off - 1 else sec + off

/-- An accepted time label reaches the time scales that name the slot: at once against the edge before it, or at the next
edge (R229). -/
def Dev.todToTs (n : Fin 64) (ptp sixty before : Bool) (sec : Nat) (d : Dev) : Dev :=
  forFin 4 (fun k d =>
    if d.todSlot k = n && d.srcValid k then
      let v := d.toTs k ptp sixty sec
      if before then d.modTs k fun t => { t with label := some v }
      else match (d.tsc k).edge with
        | some e => d.tsLabel k v e
        | none => d
    else d) d

/-- A message that is discarded: TOD_VALID and its run end (R82). -/
def Dev.todDrop (n : Fin 64) (d : Dev) : Dev :=
  d.modDec n fun x => { x with todValid := false, todRun := 0, todSec := none, msg := true }

/-- TOD_MESSAGE. -/
def todTake (n : Fin 64) (m : TodMsg) (d : Dev) : Dev :=
  let cfg := d.rd (buoyOff n)
  let before := bit cfg 17
  if !(d.buoysOn && d.decoder n = 3) || !m.listed || m.ptp != (fld cfg 18 2 == 1) then d
  else if !todInWindow before m || !m.checksOk then (d.todDrop n).decErr n
  else if !m.ptp && !utcInRange m then (d.todDrop n).rangeFail n
  else
    let x := (d.buoy n).dec
    let sec := todSecond m
    let sixty := !m.ptp && m.second = 60
    -- after a 60th second the next one carries the same count
    let next := match x.todSec with
      | some p => decide ((sec : Int) = p + (if x.sixty then 0 else 1))
      | none => true
    let run := if next then min (x.todRun + 1) 3 else 1
    let d := d.modDec n fun x =>
      { x with todRun := run, todValid := (next && x.todValid) || run = 3, todSec := some sec, sixty := sixty, msg := true,
               rangeNow := false }
    let d := d.pubDec n [word sec, word (sec / 4294967296 % 65536 + bitAt 16 m.ptp), word x.width, word (twos 32 m.endUs)]
    d.todToTs n m.ptp sixty before sec

/-- An edge of a PPS_TOD slot at `t`: a gap in the messages ends TOD_VALID; the time scales note TS at the edge and take a
label that waits for it. -/
def Dev.todEdge (n : Fin 64) (t : Int) (d : Dev) : Dev :=
  let x := (d.buoy n).dec
  let d := d.modDec n fun x =>
    if x.msg then { x with msg := false } else { x with todValid := false, todRun := 0, todSec := none }
  let d := if x.msg then d else forFin 4 (fun k d => if d.todSlot k = n then d.modTs k fun s => { s with label := none } else d) d
  forFin 4 (fun k d =>
    if d.todEn k && d.todSlot k = n then
      let e := d.tsOn k t
      let d := d.modTs k fun s => { s with edge := some e }
      match (d.tsc k).label with
      | some v => if d.srcValid k then (d.modTs k fun s => { s with label := none }).tsLabel k v e else d
      | none => d
    else d) d

/-! ### LTC, AES, VIDEO (R83 to R85) -/

/-- A BCD byte as a number; none where a digit exceeds 9. -/
def bcd (b : Byte) : Option Nat :=
  if b.toNat % 16 ≤ 9 && b.toNat / 16 ≤ 9 then some (b.toNat / 16 * 10 + b.toNat % 16) else none

/-- The FORMAT code and frames per second of an LTC rate (R83). -/
def Dev.ltcRate (d : Dev) (n : Fin 64) (drop : Bool) : Nat × Nat :=
  let num := d.rdU40 (buoyOff n + 4)
  let den := d.rdF (buoyOff n + 0xC) 0 16
  if num = 24 * den then (1, 24) else if num = 25 * den then (2, 25)
  else if num * 1001 = 30000 * den then (if drop then (3, 30) else (4, 30))
  else (5, 30)

/-- The label one frame after `p`, with frames 0 and 1 skipped in drop-frame mode. -/
def ltcNext (rate : Nat) (drop : Bool) (p : Nat × Nat × Nat × Nat) : Nat × Nat × Nat × Nat :=
  let (h, m, s, f) := p
  if f + 1 < rate then (h, m, s, f + 1)
  else if s < 59 then (h, m, s + 1, 0)
  else
    let m' := (m + 1) % 60
    let h' := if m = 59 then (h + 1) % 24 else h
    (h', m', 0, if drop && m' % 10 ≠ 0 then 2 else 0)

/-- LTC_FRAME: acceptance, DEC_LOCK and the published words (R83, Table 3-10). The frame after a rejected one is compared with none
(log entry 149). -/
def ltcTake (n : Fin 64) (f : LtcFrame) (d : Dev) : Dev :=
  if d.buoysOn && d.decoder n = 4 then
    let x := (d.buoy n).dec
    let rate := d.ltcRate n f.drop
    let drop := rate.1 = 3
    let lbl := match bcd f.hh, bcd f.mm, bcd f.ss, bcd f.ff with
      | some h, some m, some s, some r => if h ≤ 23 && m ≤ 59 && s ≤ 59 && r < rate.2 then some (h, m, s, r) else none
      | _, _, _, _ => none
    let ok := match lbl with
      | none => none
      | some l => match x.ltc with
        | some p => if ltcNext rate.2 drop p = l then some l else none
        | none => some l
    match ok with
    | none => (((d.modDec n fun x => { x with lock := false, run := 0, ltc := none, frameBad := true }).rangeFail n)).qualEval n
    | some l =>
      let up := d.isUp n
      let down := (d.buoy n).act.st = .down
      let d := d.modDec n fun x =>
        { x with ltc := some l, run := x.run + 1, lock := x.lock || (4 ≤ x.run + 1 && !down), rangeNow := false, frameBad := false,
                 format := b8 rate.1, count := if up then x.count + 1 else x.count }
      (d.pubDec n [word (leNat [f.ff, f.ss, f.mm, f.hh]), f.user, word (bitAt 0 f.drop + bitAt 1 f.colour),
        word (d.buoy n).dec.count]).qualEval n
  else d

/-- AES_BLOCK (R84). -/
def aesTake (n : Fin 64) (b : AesBlock) (d : Dev) : Dev :=
  if d.buoysOn && d.decoder n = 5 then
    let whole := b.frames = 192
    let d := (List.range (b.misplaced + if b.crcOk then 0 else 1)).foldl (fun d _ => d.decErr n) d
    let d := if whole then d.modDec n fun x => { x with rangeNow := false } else d.rangeFail n
    let clean := whole && b.misplaced = 0 && b.crcOk
    let up := d.isUp n
    let down := (d.buoy n).act.st = .down
    let d := d.modDec n fun x =>
      { x with lock := clean && !down, format := b8 b.rate, count := if up then x.count + 1 else x.count }
    let d := if whole && b.crcOk then
        d.pubDec n [word (leNat (b.status.take 4)), word (leNat ((b.status.drop 4).take 4)), 0, word (d.buoy n).dec.count]
      else d
    d.qualEval n
  else d

/-- A line event of a VIN slot: RANGE failures make it a missing event, else its words are published (R85). Answers whether
the event stands. -/
def Dev.videoLine (n : Fin 64) (v : VideoInfo) (d : Dev) : Bool × Dev :=
  let bad := v.ampMv < 150 || 600 < v.ampMv
  if v.periodBad || bad then
    let d := if v.periodBad then d.rangeFail n else d
    (false, if bad then d.rangeFail n else d)
  else
    let run := if v.frameEnd then (if v.agrees then (d.buoy n).dec.run + 1 else 1) else (d.buoy n).dec.run
    let down := (d.buoy n).act.st = .down
    let d := d.modDec n fun x => { x with rangeNow := false, run := min run 2, lock := x.lock || (2 ≤ run && !down) }
    let d := if v.frameEnd then d.qualEval n else d
    (true, d.pubDec n [word (v.frame % 65536 * 65536 + linesOf (d.buoy n).dec.format.toNat), word (v.place % 16), v.sch,
      word v.ampMv])

/-- VIDEO_FORMAT_CHANGE: a loss, with a FORMAT event, and the rate that the device sets (R80, R85). -/
def videoFormat (vin : Fin 4) (fmt : Byte) (d : Dev) : Dev :=
  let n : Fin 64 := ⟨32 + vin.val, by omega⟩
  let old := (d.buoy n).dec.format
  if d.buoysOn && old ≠ fmt then
    let d := if (d.buoy n).act.st = .down then d else (slotLoss n d).event 0x05 n 6 [old, fmt]
    let r := frameRate fmt.toNat
    (d.modDec n fun x => { x with format := fmt, lock := false, run := 0 }).setRate n (linesOf fmt.toNat * r.1) r.2 0
  else d

/-! ### Timing events (R95, R447) -/

/-- GLITCH_FILTERED (R79). -/
def glitch (n : Fin 64) (d : Dev) : Dev := if d.buoysOn && d.decoder n ≠ 0 then d.bump (buoyOff n + 0x24) 16 16 else d

/-- Captures armed for an event of slot n at `t` (R230). -/
def Dev.slotCapture (n : Fin 64) (t : Int) (d : Dev) : Dev :=
  forFin 4 (fun k d =>
    let w := d.rd (tsOff k + 0x20)
    if (d.tsc k).armed && fld w 6 2 = 2 && fld w 0 6 = n.val && (d.tsc k).started then d.tsCapture k (d.tsAt k t) else d) d

/-- Whether this edge is one that the TDC times: every PREDIV-th (R75, R76). -/
def Dev.tdcEdge (n : Fin 64) (d : Dev) : Bool × Dev :=
  let p := (d.buoy n).act.pre
  let m := d.rdF (buoyOff n + 0xC) 16 16 + 1
  (p = 0, d.modAct n fun a => { a with pre := (p + 1) % m })

/-- An accepted edge of slots 0–43 at `t`: activity, monitors, channels, time labels, captures. -/
def Dev.edgeIn (n : Fin 64) (t : Int) (frame : Bool) (d : Dev) : Dev :=
  let d := d.actEvent n t (d.intervalOk n t) frame
  let d := if d.isUp n then
      let r := d.tdcEdge n
      if r.1 then (r.2.edgeEvent n t).chanEdge n t else r.2
    else d
  let d := if d.decoder n = 3 then d.todEdge n t else d
  d.slotCapture n t

/-- An edge before its checks: the PPS width, the frame of an LTC slot, the line of a VIN slot, R447. -/
def Dev.edgeCheck (n : Fin 64) (ev : TimingEv) (d : Dev) : Dev :=
  let k := d.decoder n
  if (k = 2 || k = 3) && (ev.widthNs < 100 || 900000000 < ev.widthNs) then d.rangeFail n
  else if k = 4 && (d.buoy n).dec.frameBad then d
  else if d.stray n ev.t then (d.rangeFail n).qualEval n
  else
    let d := if k = 2 || k = 3 then d.modDec n fun x => { x with width := ev.widthNs } else d
    let d := if k = 2 then d.pubDec n [0, 0, word ev.widthNs, 0] else d
    let d := if k = 4 || k = 5 || k = 8 then d else d.modDec n fun x => { x with rangeNow := false }
    match k, ev.video with
    | 8, some v =>
      let r := d.videoLine n v
      if r.1 then r.2.edgeIn n ev.t v.frameEnd else r.2
    | _, _ => d.edgeIn n ev.t false

/-! ### Estimates (R77, R86 to R88) -/

/-- ±200 ppm in FU. -/
def ffoLimit : Nat := 56294995342

/-- An accepted estimate of slot n, phase `ph` on time scale `k`: referred to the timebase, then an event (R77). -/
def Dev.estEvent (n : Fin 64) (k : Fin 4) (ph ffo at_ : Int) (d : Dev) : Dev :=
  let shift := at_ - d.tsAt k at_
  let e : Estimate := ⟨ph, ph + shift, ffo, at_⟩
  let d := (d.modBuoy n fun b => { b with est := some e, dec := { b.dec with count := b.dec.count + 1, rangeNow := false } }).actEvent n
    d.tbGr true false
  let d := if d.isUp n then (d.gateEvent n at_ e.phase).chanEstimate n else d
  d.slotCapture n d.tbGr

/-- PACKET_ESTIMATE: slot 44 + k takes or drops an estimate; a REROUTE indication with it goes to qualification (R86). -/
def Dev.packetEstimate (n : Fin 64) (k : Fin 4) (ph ffo at_ : Int) (reroute : Bool) (d : Dev) : Dev :=
  if !d.buoysOn then d
  else if decide (d.tbGr < at_) || decide (at_ + 655360000000000 < d.tbGr) || sat40 ph ≠ ph || decide (ffoLimit < ffo.natAbs) then
    d.rangeFail n
  else
    let d := d.estEvent n k ph ffo at_
    let d := d.pubDec n [word (d.buoy n).dec.count, word (bitAt 0 reroute), 0, 0]
    if reroute then d.holdOut n fun q => { q with reroute := true }
    else if (d.buoy n).qual.reroute then (d.modQual n fun q => { q with reroute := false }).holdExit n
    else d

/-- The host push at the head of the queue of slots 61–63 becomes an event. -/
def Dev.hsTake (n : Fin 64) (d : Dev) : Dev :=
  match (d.buoy n).hs with
  | [] => d
  | e :: l => (d.modBuoy n fun b => { b with hs := l }).estEvent n (Fin.ofNat 4 e.phase.toNat) e.raw e.ffo e.at_

/-- HS_PUSH as a write of PUSH = 1 takes it: none where R88 discards it; a discarded push is not the last push (log entry 150). The time scale waits in `phase` until the estimate
is referred. -/
def Dev.hsQueue (n : Fin 64) (d : Dev) : Option Dev :=
  let b := d.buoy n
  let ffo := d.rd40 (buoyOff n + 0x108)
  let w := d.rd (buoyOff n + 0x110)
  let age := fld w 0 24
  if decide (ffoLimit < ffo.natAbs) || 10000000 < age || (!b.hsPhase && !b.hsFfo) || 2 ≤ b.hs.length then none
  else some (d.modBuoy n fun b =>
    { b with hs := b.hs ++ [⟨d.rd40 (buoyOff n + 0x100), fld w 24 2, ffo, d.tbGr - age * 65536000⟩], hsPhase := false, hsFfo := false })

/-- A cascade event of slot 60 at `t` with the phase e_k against the channels (R87, R297). -/
def Dev.cascadeEvent (t e : Int) (d : Dev) : Dev :=
  if !d.buoysOn then d
  else
    let d := d.actEvent 60 t true false
    let d := if d.isUp 60 then (d.edgeEvent 60 t).chanGiven 60 e else d
    d.slotCapture 60 t

/-- The CDR clock of port n feeds slot 36 + n while the port is CAL or UP (R247). -/
def Dev.clockFed (d : Dev) (n : Fin 64) : Bool :=
  n.val < 36 || 44 ≤ n.val || (match (d.port (Fin.ofNat 8 (n.val - 36))).st with
    | .cal | .up => true
    | .off | .down => false)

/-- TIMING_EVENT: an edge of slots 0–43, or the pushed estimate of slots 61–63. The events of slots 44–60 come with
SUBINTERVAL_END and CASCADE_EVENT_DELIVERY. -/
def slotEvent (n : Fin 64) (ev : TimingEv) (d : Dev) : Dev :=
  if !d.buoysOn then d
  else if 61 ≤ n.val then d.hsTake n
  else if n.val < 44 && d.decoder n ≠ 0 && d.clockFed n then d.edgeCheck n ev
  else d

/-- BUOY_LOSS: no event by t_exp + DET_WIN. -/
def buoyLossBody (n : Fin 64) (d : Dev) : Dev := if d.buoysOn then slotLoss n d else d

def execGlitchFiltered (slot : Fin 32) (s : State) : Host.Outcome State Fault Refusal := run (glitch (slot.castLE (by omega))) s
def execTimingEvent (slot : Fin 64) (ev : TimingEv) (s : State) : Host.Outcome State Fault Refusal := run (slotEvent slot ev) s
def execTodMessage (slot : Fin 32) (m : TodMsg) (s : State) : Host.Outcome State Fault Refusal :=
  run (todTake (slot.castLE (by omega)) m) s
def execLtcFrame (slot : Fin 32) (f : LtcFrame) (s : State) : Host.Outcome State Fault Refusal :=
  run (ltcTake (slot.castLE (by omega)) f) s
def execAesBlock (slot : Fin 32) (b : AesBlock) (s : State) : Host.Outcome State Fault Refusal :=
  run (aesTake (slot.castLE (by omega)) b) s
def execVideoFormatChange (vin : Fin 4) (fmt : BitVec 8) (s : State) : Host.Outcome State Fault Refusal := run (videoFormat vin fmt) s
def execBuoyLoss (slot : Fin 64) (s : State) : Host.Outcome State Fault Refusal := run (buoyLossBody slot) s
def execFreqGateEnd (slot : Fin 64) (s : State) : Host.Outcome State Fault Refusal := run (gateEnd slot) s
def execTieSample (slot : Fin 64) (s : State) : Host.Outcome State Fault Refusal := run (tieTake slot) s
def execMtiePeriodEnd (slot : Fin 64) (s : State) : Host.Outcome State Fault Refusal := run (mtieEnd slot) s

end Sys2Proof.Machine
end

