-- ==== Sys2Proof/Machine/Matrix.lean ====
section
/-! DEFINITION. The cross-comparison matrix and its witnesses (R101 to R104), the tests that follow each cycle, and REF_CONFIG. -/

namespace Sys2Proof.Machine

/-! ### The cycle -/

/-- Δφ and y of a slot over the cycle (R101); none unless it was UP throughout. A slot without an event in the cycle has no
stated Δφ and y: free values. -/
def Dev.cycleOf (n : Fin 64) (d : Dev) : Option (Int × Int) × Dev :=
  let m := (d.buoy n).mon
  if m.cycUp && d.isUp n then
    match m.cycPhase with
    | none => (none, d)
    | some (p0, t0) =>
      if t0 < m.phaseAt then (some (m.phase - p0, roundDiv ((p0 - m.phase) * two48) (m.phaseAt - t0)), d)
      else
        let a := d.draw
        let b := a.2.draw
        (some (sat40 a.1, sat40 b.1), b.2)
  else (none, d)

/-- The cycle's results of all slots. -/
def Dev.cycleAll (d : Dev) : List (Option (Int × Int)) × Dev :=
  (List.finRange 64).foldl (fun (a : List (Option (Int × Int)) × Dev) n => let r := a.2.cycleOf n; (a.1 ++ [r.1], r.2)) ([], d)

/-- 32-bit signed saturation of the sum of up to 16 phase differences. -/
def pairTt (p : Pair) : Int := sat32 p.trend.sum

/-- A fresh cycle of the pair (i, j), i < j. -/
def Dev.pairUpdate (d : Dev) (i j : Fin 64) (a b : Int × Int) (p : Pair) : Pair :=
  let fd := sat40 (roundDiv ((a.2 - b.2) * two48) (two48 + b.2))
  let trend := ((a.1 - b.1) :: p.trend).take 16
  let xi := d.rd (buoyOff i + 0x18)
  let xj := d.rd (buoyOff j + 0x18)
  let tolF := tolFu (fld xi 0 20 + fld xj 0 20)
  let tolT := (fld xi 20 12 + fld xj 20 12) * 655360
  let bad := decide (tolF < fd.natAbs) || decide (tolT < (sat32 trend.sum).natAbs)
  let dc := if bad then min (p.dc + 1) 255 else p.dc - 1
  let w := d.rd 0x90000
  let dis := if fld w 8 8 ≤ dc then true else p.dis
  ⟨fd, trend, dc, if dc ≤ fld w 0 8 then false else dis, true, true⟩

/-- All pairs i < j. -/
def allPairs : List (Fin 64 × Fin 64) :=
  (List.finRange 64).flatMap fun i => ((List.finRange 64).filter fun j => i < j).map fun j => (i, j)

/-- The working set after a cycle (R102). -/
def Dev.pairsStep (res : List (Option (Int × Int))) (d : Dev) : Dev :=
  allPairs.foldl (fun d (p : Fin 64 × Fin 64) =>
    let k := pairIdx p.1 p.2
    match res.getD p.1.val none, res.getD p.2.val none with
    | some a, some b => d.setPair k (d.pairUpdate p.1 p.2 a b (d.pair k))
    | _, _ => d.setPair k { d.pair k with fresh := false }) d

/-- The entries published (R104). -/
def Dev.pubEntries (d : Dev) : Dev :=
  (List.range 2016).foldl (fun d k =>
    let p := d.pair k
    let o := 0x91000 + 16 * k
    ((d.pub40 o p.fd).wr (o + 8) (word (twos 32 (pairTt p)))).wr (o + 12)
      (word (bitAt 31 p.valid + bitAt 30 p.fresh + bitAt 29 p.dis + p.dc))) d

/-- The counts of fresh entries of slot i with a qualified slot: agreeing and disagreeing (R103). -/
def Dev.witnesses (d : Dev) (i : Fin 64) : Nat × Nat :=
  let l := ((List.finRange 64).filter fun j => j ≠ i && d.isQual j).map fun j => d.pair (pairIdx i j)
  ((l.filter fun p => p.fresh && !p.dis).length, (l.filter fun p => p.fresh && p.dis).length)

/-- The witness registers and MINORITY (R103). -/
def Dev.pubWitness (i : Fin 64) (d : Dev) : Dev :=
  let w := d.witnesses i
  let m := decide (2 ≤ w.2) && decide (w.1 < w.2)
  (d.wr (0x90100 + 4 * i) (word (bitAt 31 m + w.2 * 128 + w.1))).modQual i fun q => { q with minority := m }

/-- The next cycle begins. -/
def Dev.cycleStart (i : Fin 64) (d : Dev) : Dev :=
  let up := d.isUp i
  d.modMon i fun m => { m with cycUp := up, cycPhase := if up then some (m.phase, m.phaseAt) else none }

/-- MATRIX_CYCLE_END. -/
def matrixEnd (d : Dev) : Dev :=
  if d.clk.xo && d.blockReady 7 then
    let r := d.cycleAll
    let d := (r.2.pairsStep r.1).pubEntries.pubStat 0x90004 0
    let d := forFin 64 Dev.cycleStart (forFin 64 Dev.pubWitness { d with cycle := d.cycle + 1 })
    forFin 16 Dev.equalTest (forFin 64 Dev.qualEval d)
  else d

/-! ### Configuration of a slot (R75, R78 to R80, R90, R91, R100, R31) -/

/-- The decoders a slot may run (Table 3-1). -/
def decoderOk (n dec : Nat) : Bool :=
  if n < 32 then dec ≤ 6 else if n < 36 then dec = 8 else if n < 44 then dec = 9 else if n < 60 then dec = 10
  else if n = 60 then dec = 11 else dec = 12

/-- The class fits the decoder (R31). -/
def classOk (dec cls : Nat) : Bool :=
  match dec with
  | 0 => cls ≤ 2
  | 1 => cls = 1 || cls = 2
  | 2 => cls = 0
  | 3 => cls = 0
  | 9 => cls = 1
  | 10 => cls = 3
  | 11 => cls = 4
  | 12 => cls = 5
  | _ => cls = 2

/-- DET_WIN is allowed for a decoder at a nominal rate `num` / `den` (Table 3-5, R90, R91). -/
def detWinOk (dec num den win : Nat) : Bool :=
  match dec with
  | 2 => 100 ≤ win && win ≤ 100000000
  | 3 => 100 ≤ win && win ≤ 100000000
  | 4 => 100000 ≤ win && win ≤ 20000000
  | 5 => 100 ≤ win && win ≤ 10000
  | 8 => 200 ≤ win && win ≤ 10000
  | 9 => win = 16
  | 10 => 125000 ≤ win && win ≤ 60000000
  | 11 => win = 4000
  | 12 => 10000 ≤ win && win ≤ 60000000
  | _ => win = 16 || (num ≠ 0 && num < 62500000 * den && 16 ≤ win && win * 2 * num ≤ 1000000000 * den)

/-- The Table 3-5 default of a decoder. -/
def detWinDefault (dec : Nat) : Nat :=
  match dec with
  | 2 => 1000
  | 3 => 1000
  | 4 => 2000000
  | 5 => 2000
  | 8 => 1000
  | 10 => 2000000
  | 11 => 4000
  | 12 => 2000000
  | _ => 16

/-- What the rules that join the fields of BUOYn_CFG, FNOM and FDEN ask for a slot: failing (word, bit) pairs, words as in
REF_CONFIG. `num` and `fden` are FNOM and the FDEN word in use. -/
def buoyCfgBad (n : Nat) (cfg : Word) (num : Nat) (fden : Word) : List (Nat × Nat) :=
  let dec := fld cfg 28 4
  let mode := fld cfg 22 2
  let den := fld fden 0 16
  let rated := decide (dec = 1 || dec = 6 || dec = 4 || dec = 5)
  let put := fun (b : Bool) (x : Nat × Nat) => if b then [x] else []
  put (!decoderOk n dec) (1, 28) ++ put (!classOk dec (fld cfg 25 3)) (1, 25) ++
  put (if n < 32 then mode = 3 else mode ≠ 0) (1, 22) ++
  put (n < 32 && mode = 0 && (dec = 2 || dec = 3 || dec = 4)) (1, 22) ++
  put (n < 32 && mode = 2 && decide (250000000 * den < num)) (1, 22) ++
  put (n < 32 && (fld cfg 0 10 < 2 || (num ≠ 0 && decide (8000000000 * den ≤ fld cfg 0 10 * num)))) (1, 0) ++
  put (n < 32 && rated && (decide (num < den) || decide (1000000000 * den < num))) (1, 28) ++
  put (n < 32 && !rateFixed dec && decide (125000000 * den * (fld fden 16 16 + 1) < num)) (2, 0)

/-- The MTIE windows and period are in range (R100). -/
def mtieCfgBad (w : Word) : List Nat :=
  (if 16 < fld w 25 5 then [25] else []) ++
    ([0, 5, 10, 15].filter fun b => 16 < fld w b 5 || fld w 25 5 + 5 < fld w b 5)

/-- The rate in use under an image of BUOYn_CFG: the device's own where it sets the rate. -/
def Dev.rateUse (d : Dev) (n : Nat) (dec num : Nat) (fden : Word) : Nat × Word :=
  if dec = 2 || dec = 3 then (1, 1)
  else if rateFixed dec then (d.rdU40 (buoyOff n + 4), d.rd (buoyOff n + 0xC)) else (num, fden)

/-- The rate that the device sets as a slot takes a decoder: 1 Hz for a pulse per second (R80). -/
def Dev.takeRate (n : Fin 64) (d : Dev) : Dev :=
  if d.decoder n = 2 || d.decoder n = 3 then d.setRate n 1 1 0 else d

/-- Some channel follows slot n. -/
def Dev.followed (d : Dev) (n : Fin 64) : Bool := (List.finRange 16).any fun c => (d.chan c).sel.cur = some n

/-- The parameters of REF_CONFIG that fail. -/
def refConfigBad (c : Cmd) (d : Dev) : List Nat :=
  let n : Fin 64 := Fin.ofNat 64 (pf c 0 0 6)
  let o := buoyOff n
  let cfg := wordAt c.words 1
  let dec := fld cfg 28 4
  let num := (wordAt c.words 2).toNat + pf c 3 0 8 * 4294967296
  let use := d.rateUse n dec num (wordAt c.words 4)
  imageBad c 1 o ++
    (if rateFixed dec then [] else imageBad c 2 (o + 4) ++ imageBad c 3 (o + 8) ++ imageBad c 4 (o + 0xC)) ++
    imagesBad c 5 (o + 0x10) 4 ++ (buoyCfgBad n cfg use.1 use.2).map (fun p => 32 * p.1 + p.2) ++
    failIf (!detWinOk dec use.1 (fld use.2 0 16) (pf c 5 0 27)) 60 ++
    (mtieCfgBad (wordAt c.words 8)).map (256 + ·)

/-- REF_CONFIG (R106). -/
def refConfigBody (c : Cmd) (d : Dev) : Option CmdOut × Dev :=
  let n : Fin 64 := Fin.ofNat 64 (pf c 0 0 6)
  let o := buoyOff n
  let cfg := wordAt c.words 1
  let num := (wordAt c.words 2).toNat + pf c 3 0 8 * 4294967296
  checked c ((0, 0, 6) :: wholes 1 8) (refConfigBad c d) (fun d =>
    if d.followed n then (.refused, d)
    else
      let d := d.wr o cfg
      let d := if rateFixed (fld cfg 28 4) then d.takeRate n else (d.pub40 (o + 4) num).wr (o + 0xC) (wordAt c.words 4)
      let d := d.wrWords (o + 0x10) ((List.range 4).map fun i => wordAt c.words (i + 5))
      (.ok, ((d.modQual n fun q => { q with ever := false }).slotRestart n))) d

def execMatrixCycleEnd (s : State) : Host.Outcome State Fault Refusal := run matrixEnd s
def execRefConfig (c : Cmd) (s : State) : Host.Outcome State Fault Refusal := run (command 0x10 c (refConfigBody c)) s

end Sys2Proof.Machine
end

