-- ==== Sys2Proof/Machine/Control.lean ====
section
/-! DEFINITION. The commands of channels, outputs, Lanterns, video outputs and time scales (Tables 5-9, 6-8, 7-10, 8-3, 8-11). -/

namespace Sys2Proof.Machine

/-! ### Channels -/

/-- FR_OFFSET outside ±PULL (R147, R159). -/
def frOutside (cfg2 : Word) (fr : Int) : Bool := decide (fld cfg2 20 12 * 2814749767 < fr.natAbs * 10)

/-- FR_OFFSET of a CHAN_CONFIG. -/
def frOffset (c : Cmd) : Int := signed 40 ((wordAt c.words 3).toNat + pf c 4 0 8 * 4294967296)

/-- The parameters of CHAN_CONFIG that fail. -/
def chanConfigBad (c : Cmd) : List Nat :=
  let o := chanOff (Fin.ofNat 16 (pf c 0 0 4))
  imagesBad c 1 o 4 ++ ((List.range 6).flatMap fun k => imagesBad c (5 + 3 * k) (o + 0x100 + 0x10 * k) 3) ++
    failIf (frOutside (wordAt c.words 2) (frOffset c)) 84

/-- CHAN_CONFIG (0x20). -/
def chanConfigBody (c : Cmd) (d : Dev) : Option CmdOut × Dev :=
  let n : Fin 16 := Fin.ofNat 16 (pf c 0 0 4)
  let o := chanOff n
  let fr := frOffset c
  checked c ((0, 0, 4) :: wholes 1 22) (chanConfigBad c) (fun d =>
    let d := ((d.wr o (wordAt c.words 1)).wr (o + 4) (wordAt c.words 2)).pub40 (o + 8) fr
    let d := (List.range 6).foldl (fun d k =>
      d.wrWords (o + 0x100 + 0x10 * k) ((List.range 3).map fun i => wordAt c.words (5 + 3 * k + i))) d
    (.ok, (d.chanReconf n).chanOutputs n)) d

/-- CHAN_MODE (0x22). -/
def chanModeBody (c : Cmd) (d : Dev) : Option CmdOut × Dev :=
  checked c [(0, 0, 4), (0, 4, 2)] (failIf (pf c 0 4 2 = 3) 4) (fun d =>
    let n : Fin 16 := Fin.ofNat 16 (pf c 0 0 4)
    if (d.chan n).sw.switching then (.busy (d.remainMs n), d)
    else
      let d := match pf c 0 4 2 with
        | 0 => d.modChan n fun x => { x with mode := .auto }
        | 1 => d.toFreeRun n .freeRun
        | _ => d.toFreeRun n .dco
      (.ok (d.chan n).st.code, d)) d

/-- TEMP_SRC takes 0–8 and 15 (R185). -/
def tempSrcBad (w : Word) : Bool := 9 ≤ fld w 15 4 && fld w 15 4 ≤ 14

/-- The fields that CHAN_HOLDOVER_MODEL uses under its SEL. -/
def holdoverUsed (c : Cmd) : List Param :=
  [(0, 0, 4), (0, 4, 2)] ++
    (if pf c 0 4 2 = 0 then wholes 1 5 else if pf c 0 4 2 = 1 then [(0, 8, 6), (0, 16, 4)] ++ wholes 1 (pf c 0 16 4) else [])

/-- The parameters of CHAN_HOLDOVER_MODEL that fail. -/
def holdoverBad (c : Cmd) : List Nat :=
  let o := chanOff (pf c 0 0 4)
  let first := pf c 0 8 6
  let count := pf c 0 16 4
  if pf c 0 4 2 = 0 then imageBad c 1 (o + 0x200) ++ imagesBad c 2 (o + 0x400) 4 ++ failIf (tempSrcBad (wordAt c.words 2)) 79
  else if pf c 0 4 2 = 1 then failIf (32 < first) 8 ++ failIf (count = 0 || 8 < count) 16 ++ failIf (33 < first + count) 8
  else [4]

/-- CHAN_HOLDOVER_MODEL (0x23). -/
def holdoverModelBody (c : Cmd) (d : Dev) : Option CmdOut × Dev :=
  let o := chanOff (pf c 0 0 4)
  let sel := pf c 0 4 2
  let first := pf c 0 8 6
  let count := pf c 0 16 4
  checked c (holdoverUsed c) (holdoverBad c) (fun d =>
    if sel = 0 then
      (.ok 5, (d.wr (o + 0x200) (wordAt c.words 1)).wrWords (o + 0x400) ((List.range 4).map fun i => wordAt c.words (i + 2)))
    else (.ok count, d.wrWords (o + 0x500 + 4 * first) ((List.range count).map fun i => wordAt c.words (i + 1)))) d

/-! ### Outputs and Lanterns -/

/-- The parameters of OUT_CONFIG that fail. -/
def outConfigBad (c : Cmd) (d : Dev) : List Nat :=
  let m := pf c 0 0 6
  let o := outOff m
  let frac := m < 16
  let cfg := wordAt c.words 1
  let fnum := wordAt c.words 4
  let fden := if frac then wordAt c.words 5 else 1
  failIf (48 ≤ m) 0 ++ imageBad c 1 o ++ failIf (bit cfg 31) 63 ++ imagesBad c 2 (o + 4) 2 ++
    (if frac then imagesBad c 4 (o + 0xC) 2 else []) ++ imageBad c 6 (o + 0x14) ++
    (d.outBad m cfg (wordAt c.words 2) (wordAt c.words 3) fnum fden (wordAt c.words 6)).map (fun p => 32 * (p.1 + 1) + p.2)

/-- OUT_CONFIG (0x30). EN keeps its value; FNUM and FDEN of OUT16–OUT47 are ignored but for R199. -/
def outConfigBody (c : Cmd) (d : Dev) : Option CmdOut × Dev :=
  let m := pf c 0 0 6
  let o := outOff m
  let frac := m < 16
  let cfg := wordAt c.words 1
  let fnum := wordAt c.words 4
  let fden := if frac then wordAt c.words 5 else 1
  checked c ((0, 0, 6) :: wholes 1 6) (outConfigBad c d) (fun d =>
    let cur := d.rd o
    let same := setFld cur 31 1 0 = cfg && d.rd (o + 4) = wordAt c.words 2 && d.rd (o + 8) = wordAt c.words 3 &&
      (!frac || (d.rd (o + 0xC) = fnum && d.rd (o + 0x10) = fden))
    if bit cur 31 && !same then (.refused 1, d)
    else
      let d := (d.wr o (setFld cfg 31 1 (fld cur 31 1))).wrWords (o + 4) [wordAt c.words 2, wordAt c.words 3]
      let d := if frac then d.wrWords (o + 0xC) [fnum, fden] else d
      (.ok, (d.wr (o + 0x14) (wordAt c.words 6)).outRefresh (Fin.ofNat 48 m))) d

/-- The outputs of a 48-bit mask. -/
def maskOuts (lo hi : Word) : List (Fin 48) :=
  (List.finRange 48).filter fun m => if m.val < 32 then bit lo m else bit hi (m.val - 32)

/-- OUT_ENABLE (0x31). UNMUTE clears M_WATCH, and M_LANLOCK where the Lantern is LOCKED with AUTO_UNMUTE = 0. -/
def outEnableBody (c : Cmd) (d : Dev) : Option CmdOut × Dev :=
  let act := pf c 1 16 2
  checked c [whole 0, (1, 0, 16), (1, 16, 2)] (failIf (act = 3) 48) (fun d =>
    let l := maskOuts (wordAt c.words 0) (wordAt c.words 1)
    let d := l.foldl (fun d m =>
      (if act = 2 then
        let free := (d.lan (d.outLan m)).st = .locked && !bit (d.lanCfg (d.outLan m)) 22
        d.modOut m fun o => { o with mWatch := false, mLan := o.mLan && !free }
      else d.wrF (outOff m) 31 1 (if act = 0 then 1 else 0)).outRefresh m) d
    (.ok (if act = 1 then 0 else (l.filter fun m => !(d.out m).pin.on).length), d)) d

/-- Rules that join the words of a Lantern: failing (word, bit), CFG being word 0 (R192). -/
def lanBad (fxo : Nat) (cfg nnum nden : Word) : List (Nat × Nat) :=
  (if fld nden 0 24 ≤ fld nnum 0 24 then [(1, 0)] else []) ++ (if bit cfg 27 && !vcoOk fxo cfg nnum nden then [(0, 0)] else [])

/-- The parameters of LANTERN_CONFIG that fail. -/
def lanternConfigBad (c : Cmd) (d : Dev) : List Nat :=
  imagesBad c 1 (lanOff (Fin.ofNat 8 (pf c 0 0 3))) 3 ++
    (lanBad d.fXo (wordAt c.words 1) (wordAt c.words 2) (wordAt c.words 3)).map fun p => 32 * (p.1 + 1) + p.2

/-- LANTERN_CONFIG (0x32). -/
def lanternConfigBody (c : Cmd) (d : Dev) : Option CmdOut × Dev :=
  let n : Fin 8 := Fin.ofNat 8 (pf c 0 0 3)
  let o := lanOff n
  let cfg := wordAt c.words 1
  checked c ((0, 0, 3) :: wholes 1 3) (lanternConfigBad c d) (fun d =>
    let old := d.rd o
    let ratio := d.rd (o + 4) ≠ wordAt c.words 2 || d.rd (o + 8) ≠ wordAt c.words 3 || fld old 0 11 ≠ fld cfg 0 11 ||
      fld old 24 3 ≠ fld cfg 24 3 || fld old 19 3 ≠ fld cfg 19 3
    let held := ratio || fld old 27 5 ≠ fld cfg 27 5
    let runs := ((List.finRange 48).filter fun (m : Fin 48) => d.outLan m = n && (d.out m).pin.on).length
    if held && runs ≠ 0 then (.refused runs, d)
    else
      let d := (d.wrWords o [cfg, wordAt c.words 2, wordAt c.words 3]).lanChanged n ratio
      (.ok (d.lan n).st.code, d)) d

/-! ### Video outputs -/

/-- Rules that join the words of a video output: failing (word, bit), CFG being word 0 (R235, R236). The place of 0H is judged
while FORMAT names a format. -/
def voutBad (cfg fnum fden timing grain : Word) : List (Nat × Nat) :=
  let fmt := fld cfg 16 8
  let px := pixels fmt
  (if fmt ≠ 0 && (dacRate fmt).isNone then [(0, 16)] else []) ++
  (if fld fden 0 24 ≤ fld fnum 0 24 then [(2, 0)] else []) ++
  (if (dacRate fmt).isSome && (linesOf fmt ≤ fld timing 20 12 || px.1 ≤ fld timing 0 12 ||
      decide (grPerSec * px.2.2 < (fld grain 0 23 + 1) * px.2.1)) then [(0, 16)] else [])

/-- The parameters of VOUT_CONFIG that fail. -/
def voutConfigBad (c : Cmd) : List Nat :=
  let w := wordAt c.words
  imagesBad c 1 (voutOff (Fin.ofNat 8 (pf c 0 0 3))) 7 ++
    (voutBad (w 1) (w 3) (w 4) (w 5) (w 6)).map fun p => 32 * (p.1 + 1) + p.2

/-- VOUT_CONFIG (0x33). -/
def voutConfigBody (c : Cmd) (d : Dev) : Option CmdOut × Dev :=
  let k : Fin 8 := Fin.ofNat 8 (pf c 0 0 3)
  let o := voutOff k
  let w := wordAt c.words
  checked c ([(0, 0, 3), (0, 8, 1)] ++ wholes 1 7) (voutConfigBad c) (fun d =>
    let old := d.rd o
    let same := fld old 16 8 = fld (w 1) 16 8 && fld old 26 5 = fld (w 1) 26 5 && d.rd (o + 4) = w 2 && d.rd (o + 8) = w 3 &&
      d.rd (o + 0xC) = w 4
    if bit old 31 && !same then (.refused 1, d)
    else
      let moved := d.rd (o + 0x10) ≠ w 5 || d.rd (o + 0x14) ≠ w 6
      let was := voutDelay (d.voutFmt k) (d.rd (o + 0x10)) (d.rd (o + 0x14))
      let now := d.tsNow (Fin.ofNat 4 (d.rdF o 26 2))
      let d := d.wrWords o ((List.range 7).map fun i => w (i + 1))
      let locked := (d.lan (d.voutLan k)).st = .locked
      let d := d.modVout k fun v =>
        { v with mWatch := v.mWatch && pf c 0 8 1 = 0, mLan := v.mLan && !(locked && pf c 0 8 1 = 1) }
      (.ok, (onlyIf moved (Dev.voutHold k was now now) d).voutRefresh k)) d

/-! ### Time scales -/

/-- The second in which a time scale is. -/
def Dev.presentSec (d : Dev) (n : Fin 4) : Int := d.tsNow n / grPerSec

/-- A slave takes steps, leaps and UTC values for CASC_TS from its master (R300). -/
def Dev.cascSlave (d : Dev) (n : Fin 4) : Bool := d.tide.role = .slave && d.cascTs = n

/-- A bind to channel `ch`: O is recomputed so that TS does not move (R217). -/
def Dev.tsBind (n : Fin 4) (ch : Fin 16) (d : Dev) : Dev :=
  let old := feedback24 (d.chan (d.tsChan n)).loop d.tbGr
  let new := feedback24 (d.chan ch).loop d.tbGr
  (d.wrF (tsOff n) 28 4 ch).modTs n fun t => { t with ofs := if t.started then t.ofs + old - new else t.ofs }

/-- TOD_EN written 0: row 2 of Table 8-2. -/
def Dev.todOff (n : Fin 4) (d : Dev) : Dev :=
  let d := d.wrF (tsOff n) 25 1 0
  if (d.tsc n).st = .todHold then (d.tsClearHold n).tsTo n .running 2 else d

/-- The set-up of the source (CONFIG). A new slot forgets the labels of the old one. -/
def Dev.todConfig (n : Fin 4) (en auto : Bool) (slot : Nat) (follow : Bool) (d : Dev) : Dev :=
  let d := if d.rdF (tsOff n) 16 6 = slot then d else d.modTs n fun t => { t with edge := none, label := none, named := none }
  let d := ((d.wrF (tsOff n) 24 1 (if auto then 1 else 0)).wrF (tsOff n) 16 6 slot).wrF (tsOff n) 26 1 (if follow then 1 else 0)
  if en then d.wrF (tsOff n) 25 1 1 else d.todOff n

/-- The fields a TS_SET uses under its ACTION (Table 12-8). -/
def tsSetUsed (act : Nat) : List Param :=
  match act with
  | 0 => [(1, 0, 4)]
  | 1 => [whole 1, (2, 0, 16), whole 3, (4, 0, 16)]
  | 5 => [whole 1]
  | 6 => [whole 1]
  | 7 => [(1, 0, 6), whole 2]
  | 8 => [(1, 0, 1), (1, 1, 1), (1, 8, 6), (1, 16, 1)]
  | _ => []

/-- The parameters of TS_SET that fail. -/
def tsSetBad (c : Cmd) (d : Dev) : List Nat :=
  let n : Fin 4 := Fin.ofNat 4 (pf c 0 0 2)
  let act := pf c 0 8 4
  failIf (9 ≤ act) 8 ++
    (match act with
     | 1 => failIf (1000000000 ≤ pf c 3 0 32) 96
     | 5 => imageBad c 1 (tsOff n + 4)
     | 6 => imageBad c 1 (tsOff n + 8)
     | 7 => failIf (48 ≤ pf c 1 0 6) 32 ++ imageBad c 2 (sigOff (pf c 1 0 6))
     | 8 => let k := d.decoder (pf c 1 8 6); failIf (!(k = 3 || k = 10 || k = 11)) 40
     | _ => [])

/-- TS_SET (0x40). -/
def tsSetBody (c : Cmd) (d : Dev) : Option CmdOut × Dev :=
  let n : Fin 4 := Fin.ofNat 4 (pf c 0 0 2)
  let act := pf c 0 8 4
  checked c ([(0, 0, 2), (0, 8, 4)] ++ tsSetUsed act) (tsSetBad c d) (fun d =>
    let t := d.tsc n
    match act with
    | 0 => (.ok, d.tsBind n (Fin.ofNat 16 (pf c 1 0 4)))
    | 1 =>
      let g := tripleGr ⟨pf c 1 0 32 + pf c 2 0 16 * 4294967296, pf c 3 0 32, pf c 4 0 16⟩
      (.ok, d.modTs n fun t => { t with set := some (.triple g) })
    | 2 => if d.todEn n && d.srcValid n then (.ok, d.modTs n fun t => { t with set := some .source }) else (.refused 1, d)
    | 3 => if t.st = .todHold then (.ok, d.modTs n fun t => { t with accept := true }) else (.refused t.st.code, d)
    | 4 => if t.st = .todHold then (.ok, d.todOff n) else (.refused t.st.code, d)
    | 5 =>
      if d.cascSlave n then (.refused 3, d)
      else if t.leap.isSome && pf c 1 0 10 ≠ d.utcOffset n then (.refused 1, d)
      else (.ok, d.modTs n fun t => { t with utc := some (wordAt c.words 1) })
    | 6 => (.ok, d.modTs n fun t => { t with localOfs := some (wordAt c.words 1) })
    | 7 =>
      let m : Fin 48 := Fin.ofNat 48 (pf c 1 0 6)
      if d.outEn m then (.refused 1, d) else (.ok, (d.wr (sigOff m) (wordAt c.words 2)).outRefresh m)
    | _ => (.ok, d.todConfig n (pf c 1 0 1 = 1) (pf c 1 1 1 = 1) (pf c 1 8 6) (pf c 1 16 1 = 1))) d

/-- TS_STEP_SCHEDULE (0x41), R224. -/
def tsStepBody (c : Cmd) (d : Dev) : Option CmdOut × Dev :=
  let n : Fin 4 := Fin.ofNat 4 (pf c 0 0 2)
  let dsec := signed 32 (pf c 3 0 32)
  let dns := signed 32 (pf c 4 0 32)
  checked c [(0, 0, 2), whole 1, (2, 0, 16), whole 3, whole 4, (5, 0, 16)] (failIf (1000000000 ≤ dns.natAbs) 128) (fun d =>
    let atSec := pf c 1 0 32 + pf c 2 0 16 * 4294967296
    let soon := fun (a : Nat) => decide ((a : Int) < d.presentSec n + 2)
    if d.cascSlave n then (.refused 3, d)
    else if soon atSec then (.refused 1, d)
    else if (match (d.tsc n).step with
        | some p => soon p.atSec
        | none => false) then (.busy, d)
    else
      let dgr := pf c 5 0 16
      (.ok, d.modTs n fun t => { t with step := if deltaGr dsec dns dgr = 0 then none else some ⟨atSec, dsec, dns, dgr, false⟩ })) d

/-- A leap installed in a time scale, with its notice (R226, R227). -/
def Dev.setLeap (n : Fin 4) (l : Option (Bool × Nat)) (d : Dev) : Dev :=
  (d.modTs n fun t => { t with leap := l }).noticeJudge n (d.tsNow n)

/-- TS_LEAP_SCHEDULE (0x42), R226. -/
def tsLeapBody (c : Cmd) (d : Dev) : Option CmdOut × Dev :=
  let n : Fin 4 := Fin.ofNat 4 (pf c 0 0 2)
  let kind := pf c 0 8 2
  checked c [(0, 0, 2), (0, 8, 2), (1, 0, 20)] (failIf (kind = 3) 8) (fun d =>
    let day := pf c 1 0 20
    if d.cascSlave n then (.refused 3, d)
    else if kind = 2 then (.ok, d.setLeap n none)
    else if decide (((day + 1) * 86400 + d.utcOffset n : Int) ≤ d.presentSec n) then (.refused 1, d)
    else (.ok, d.setLeap n (some (kind = 1, day)))) d

/-- A write of CAPTURE = 1 (R230): at once for CAP_SRC = 0, else armed. -/
def Dev.captureArm (n : Fin 4) (d : Dev) : Dev :=
  if d.rdF (tsOff n + 0x20) 6 2 = 0 then
    (if (d.tsc n).started then d.tsCapture n (d.tsNow n) else d.tsCapture n 0)
  else d.modTs n fun t => { t with armed := true }

def execChanConfig (c : Cmd) (s : State) : Host.Outcome State Fault Refusal := run (command 0x20 c (chanConfigBody c)) s
def execChanMode (c : Cmd) (s : State) : Host.Outcome State Fault Refusal := run (command 0x22 c (chanModeBody c)) s
def execChanHoldoverModel (c : Cmd) (s : State) : Host.Outcome State Fault Refusal := run (command 0x23 c (holdoverModelBody c)) s
def execOutConfig (c : Cmd) (s : State) : Host.Outcome State Fault Refusal := run (command 0x30 c (outConfigBody c)) s
def execOutEnable (c : Cmd) (s : State) : Host.Outcome State Fault Refusal := run (command 0x31 c (outEnableBody c)) s
def execLanternConfig (c : Cmd) (s : State) : Host.Outcome State Fault Refusal := run (command 0x32 c (lanternConfigBody c)) s
def execVoutConfig (c : Cmd) (s : State) : Host.Outcome State Fault Refusal := run (command 0x33 c (voutConfigBody c)) s
def execTsSet (c : Cmd) (s : State) : Host.Outcome State Fault Refusal := run (command 0x40 c (tsSetBody c)) s
def execTsStepSchedule (c : Cmd) (s : State) : Host.Outcome State Fault Refusal := run (command 0x41 c (tsStepBody c)) s
def execTsLeapSchedule (c : Cmd) (s : State) : Host.Outcome State Fault Refusal := run (command 0x42 c (tsLeapBody c)) s

end Sys2Proof.Machine
end

