-- ==== Sys2Proof/Machine/Keeper.lean ====
section
/-! DEFINITION. The Keeper: supervision (chapter 1), its queues and logbook, its sensors, OTP and the update engine (chapter 16). -/

namespace Sys2Proof.Machine

/-! ### Code flash and images (R422) -/

/-- A byte of code flash; an erased byte reads 0xFF. -/
def Dev.codeGet (d : Dev) (a : Nat) : Byte := Tab.get (fun _ => 0xFF#8) d.fw.flash a

/-- The first byte of a slot (Table 16-1). -/
def slotBase (b : Bool) : Nat := if b then 0x400000 else 0

/-- `n` bytes of slot `b` from `a`. -/
def Dev.image (d : Dev) (b : Bool) (a n : Nat) : List Byte := (List.range n).map fun i => d.codeGet (slotBase b + a + i)

/-- SVN and BODY_LEN of the header in a slot (Table 16-6). -/
def Dev.imageSvn (d : Dev) (b : Bool) : Nat := leNat (d.image b 4 4)
def Dev.imageLen (d : Dev) (b : Bool) : Nat := leNat (d.image b 12 4)
def Dev.imageBody (d : Dev) (b : Bool) : List Byte := d.image b 512 (d.imageLen b)

/-- Check 1 of R422. -/
def Dev.headerOk (d : Dev) (b : Bool) : Bool :=
  leNat (d.image b 0 4) = 0x4B465756 && d.imageSvn b ≤ 128 &&
    (d.imageLen b % 256 = 0 && 256 ≤ d.imageLen b && d.imageLen b ≤ 4193792) &&
    decide ((d.image b 17 1).all fun x => x.toNat < 4) && ((d.image b 18 14 ++ d.image b 273 239).all fun x => x = 0)

/-- An ACTIVE key slot holds the hash of this key. -/
def keyActive (k : KeyState × List Byte) (key : List Byte) : Bool := k.1 = .active && k.2 = Config.sha384 key

/-- Check 2 of R422. -/
def Dev.keyOk (d : Dev) (b : Bool) : Bool :=
  match d.otp.keys[(d.codeGet (slotBase b + 16)).toNat]? with
  | some k => keyActive k (d.image b 80 97)
  | none => false

/-- How many checks of R422 pass in their order, 0 to 5. -/
def Dev.imageChecks (d : Dev) (b : Bool) : Nat :=
  if !d.headerOk b then 0
  else if !d.keyOk b then 1
  else if Config.sha384 (d.imageBody b) ≠ d.image b 32 48 then 2
  else if !Config.ecdsaOk (d.image b 80 97) (d.image b 177 96) (Config.sha384 (d.image b 0 177)) then 3
  else if d.imageSvn b < d.otp.rollback then 4 else 5

/-- The error of Table 16-5 for the number of checks passed. -/
def imageError (b : Bool) (n : Nat) : Nat := (if b then 0x20 else 0x10) + [0, 1, 2, 2, 3].getD n 0

/-! ### Supervision (Table 1-5) -/

def ApState.code : ApState → Nat
  | .normal => 0 | .autopilot => 1 | .halted => 2

/-- R25: commands of the Keeper queue that are not accepted go, and its device index moves to the doorbell index. -/
def Dev.keeperDiscard (d : Dev) : Dev :=
  (d.modKeeper fun k => { k with cqFetched := [], cqIdx := k.cqDb }).modHost fun h => { h with ext := h.ext.set 4 none }

/-- A logbook entry written for a revert (Table 16-7, kind 0xC5 of Table 16-4a). -/
def Dev.updateEntry (d : Dev) : Dev :=
  d.ringEntry 9 (entryBytes 0xC5 0 15 true d.stamp
    ([b8 d.fw.stage.toNat, b8 (bitAt 0 d.top.slotB), 0, 0] ++ leBytes 4 (d.imageSvn d.top.slotB)))

/-- The Keeper core is released from reset: the first restart is due within 2 s (R22). -/
def Dev.keeperRelease (d : Dev) : Dev :=
  let d := d.modSup fun s => { s with running := true, kicked := false, wdtAt := d.clk.aonUs + 2000000 }
  if d.fw.reverted then d.updateEntry.modFw fun f => { f with reverted := false } else d

/-- Keeper supervision enters a state by a row of Table 1-5; FS002 follows HALTED. -/
def Dev.apTo (st : ApState) (row : Nat) (d : Dev) : Dev :=
  let old := d.keeper.sup.ap
  ((d.modSup fun s => { s with ap := st }).setCond 2 0 (st = .halted)).stateEv 15 0 0 old.code st.code row 0xFF

/-- A trial reverts into the slot that is confirmed (Table 16-7); an ACTIVATE that waits ends NOT_DONE (R428). -/
def Dev.fwRevert (d : Dev) : Dev :=
  if d.fw.state = .trial then
    let d := match d.fw.activate with
      | some a => d.complete a.1 a.2 (.notDone 5)
      | none => d
    ((d.modFw fun f => { f with state := .idle, stage := 0, session := false, activate := none, reverted := true }).modTop fun t =>
      { t with slotB := !t.slotB }).bump 0x300110 16 8
  else d

/-- WATCHDOG_EXPIRY (R22, R25, Table 1-5). -/
def wdtExpire (d : Dev) : Dev :=
  if d.keeper.sup.running then
    let halt := d.keeper.sup.ap ≠ .normal && d.keeper.sup.stallRun = 2
    let d := ((d.keeperDiscard.bump 0x300104 16 16).modSup fun s =>
      { s with stallRun := if s.stallRun = 3 then 3 else s.stallRun + 1 }).occur 1 0
    let d := d.fwRevert
    if halt then (d.modSup fun s => { s with running := false }).apTo .halted 2
    else (d.keeperRelease.apTo .autopilot 1).autopilotAll
  else d

/-- A restart of the watchdog by a running Keeper (R22); the first one of a trial completes its ACTIVATE (Table 16-7). -/
def Dev.wdtRestart (d : Dev) : Dev :=
  if d.keeper.sup.running then
    let d := d.modSup fun s => { s with kicked := true, wdtAt := d.clk.aonUs + 100000 }
    if d.fw.state = .trial then
      let d := if d.fw.stage.toNat < 6 then d.modFw fun f => { f with stage := 6 } else d
      match d.fw.activate with
      | some a => (d.modFw fun f => { f with activate := none }).complete a.1 a.2 (.ok 6)
      | none => d
    else d
  else d

/-- The condition of RELEASE (Table 1-5). -/
def Dev.releaseOk (d : Dev) : Bool := d.keeper.sup.ap = .autopilot && d.keeper.sup.running && d.keeper.sup.kicked

/-- RELEASE (Table 1-5, row 4). -/
def Dev.apReleased (d : Dev) : Dev := (d.modSup fun s => { s with stallRun := 0 }).apTo .normal 4

/-- RESTART (Table 1-5, row 5). With no valid image both slots are checked again first (R418). -/
def Dev.apRestarted (d : Dev) : Dev :=
  if d.keeper.noImage then
    let p := d.fw.prefB
    if d.imageChecks p = 5 || d.imageChecks (!p) = 5 then
      (((d.modKeeper fun k => { k with noImage := false }).modTop fun t =>
        { t with slotB := if d.imageChecks p = 5 then p else !p, stage := if t.run then 7 else 6 }).keeperRelease).apTo .autopilot 5
    else d
  else d.keeperRelease.apTo .autopilot 5

/-! ### Queues (R411, R446) and the logbook (R414) -/

/-- A consumer index that returns only entries already written (R411). -/
def ciOk (q : KQueue) (size v : Nat) : Bool := v < size && (v + size - q.ci) % size ≤ q.held size

/-- An Announce message for the Keeper: instance, port, the message; a full queue drops it (Table 16-2, R411). -/
def Dev.keeperAnnounce (inst port : Nat) (msg : List Byte) (d : Dev) : Dev :=
  let q := d.keeper.anq
  if q.held 64 < 63 then
    let e := [b8 inst, b8 port, 0, 0] ++ (msg ++ List.replicate 124 0).take 124
    (d.wrWords (0x30B000 + 128 * q.wr) (bytesWords (withPhase q.phase e))).modKeeper fun k => { k with anq := q.next 64 }
  else d.bump 0x30011C 0 16

/-- The entries `i` to `j` − 1 of the Keeper command queue, read from its memory. -/
def Dev.keeperFetch (d : Dev) (j : Nat) : List (Nat × List Word) :=
  (List.range ((j + 16 - d.keeper.cqIdx) % 16)).map fun i =>
    let k := (d.keeper.cqIdx + i) % 16
    (k, (List.range 16).map fun w => d.rd (0x308000 + 64 * k + 4 * w))

/-- An accepted KEEPER_CQ_DB write: the entries it offers are fetched (R446). -/
def Dev.keeperOffer (j : Nat) (d : Dev) : Dev :=
  let l := d.keeperFetch j
  (d.modKeeper fun k => { k with cqDb := j, cqIdx := j, cqFetched := k.cqFetched ++ l }).retireBad 16 .keeper

/-- The logbook entry that word 7 submits (R414). -/
def Dev.logbook (w7 : Word) (d : Dev) : Dev :=
  let ws := ((List.range 7).map fun i => d.rd (0x30E000 + 4 * i)) ++ [w7]
  let w0 := word (setFld (setFld (wordAt ws 0) 24 5 0) 29 1 1 |>.toNat)
  d.ringEntry 9 fun seq => (setFld w0 31 1 0 :: seq :: ws.drop 2).flatMap wordBytes

/-! ### Sensors (R413) -/

/-- A reading published; VALID clears while the sensor cannot sample. -/
def Dev.sensor (off : Nat) (v : Option Nat) (d : Dev) : Dev :=
  match v with
  | some x => d.wr off (word (2147483648 + x % 65536))
  | none => d.wrF off 31 1 0

/-- SENSOR_SAMPLE. TJ_MAX is the highest of the temperature readings (R354). -/
def sensorSample (r : SensorReadings) (d : Dev) : Dev :=
  let d := (List.range 8).foldl (fun d k => d.sensor (0x300200 + 4 * k) ((r.temps.getD k none).map (twos 16))) d
  let d := (List.range 12).foldl (fun d k => d.sensor (0x300240 + 4 * k) (r.rails.getD k none)) d
  let d := d.sensor 0x300280 r.xoAmp
  match (r.temps.take 8).filterMap id with
  | [] => d
  | t :: ts => d.modPwr fun p => { p with tjMax := ts.foldl max t }

/-! ### OTP and debug (R424 to R426) -/

def KeyState.code : KeyState → Nat
  | .empty => 0 | .active => 1 | .revoked => 2

/-- The state that a KEEPER_OTP_CTRL action requires (R425): set-up, no programming, and the slot EMPTY or ACTIVE. The state of a
SLOT that names no key slot is not judged here. -/
def Dev.otpOk (d : Dev) (action slot : Nat) : Bool :=
  let is := fun (k : KeyState) => if h : slot < 3 then decide ((d.otp.keys[slot]).1 = k) else true
  !d.top.run && d.otp.busy.isNone && (if action = 1 then is .empty else if action = 2 then is .active else true)

/-- ENROLL and REVOKE name slot 1 or 2; LOCK_UP names none. -/
def otpSlotBad (action slot : Nat) : Bool := (action = 1 || action = 2) && !(slot = 1 || slot = 2)

/-- The hash in KEEPER_OTP_DATA0–11. -/
def Dev.otpData (d : Dev) : List Byte := (List.range 12).flatMap fun w => wordBytes (d.rd (0x300140 + 4 * w))

/-- An accepted write of KEEPER_OTP_CTRL starts programming. -/
def Dev.otpStart (action slot : Nat) (d : Dev) : Dev :=
  d.modOtp fun o => { o with busy := some (match action with
    | 1 => .enroll (Fin.ofNat 3 slot) d.otpData
    | 2 => .revoke (Fin.ofNat 3 slot)
    | _ => .lockUp) }

/-- OTP_PROGRAM_DONE. -/
def otpDone (d : Dev) : Dev :=
  match d.otp.busy with
  | some (.enroll s h) => d.modOtp fun o => { o with keys := o.keys.set s (.active, h), busy := none }
  | some (.revoke s) => d.modOtp fun o => { o with keys := o.keys.set s (.revoked, (o.keys.get s).2), busy := none }
  | some .lockUp => d.modOtp fun o => { o with debugLevel := min (o.debugLevel + 1) 2, busy := none }
  | none => d

/-- JTAG has debug access and the TEST block (R426). -/
def Dev.debugOpen (d : Dev) : Bool := d.otp.debugOpen || (d.otp.readOut && d.otp.debugLevel = 0)

/-- What interface `i` gets as its answer. -/
def Dev.answer (i : Fin 4) (r : Resp) (d : Dev) : Dev :=
  d.modChk fun c => { c with ports := c.ports.set i { c.ports.get i with resp := r } }

/-- DEBUG_CHALLENGE_READ: a challenge of its own at each read of JTAG, at level 1. -/
def debugChallenge (d : Dev) : Dev :=
  if d.otp.readOut && d.otp.debugLevel = 1 then
    (d.modOtp fun o => { o with challenge := some o.draws, draws := o.draws + 1 }).answer 3 ⟨Config.challenge d.otp.draws, 0, false, false⟩
  else d

/-- DEBUG_UNLOCK: the challenge is used up whether or not the unlock passes. -/
def debugUnlock (key sig : List Byte) (d : Dev) : Dev :=
  match d.otp.challenge with
  | some n =>
    let ok := d.otp.debugLevel = 1 && d.otp.keys.toList.any (fun k => keyActive k key) &&
      Config.ecdsaOk key sig (Config.sha384 (Config.challenge n ++ wordBytes (resetWord 0)))
    d.modOtp fun o => { o with challenge := none, debugOpen := o.debugOpen || ok }
  | none => d

/-! ### The update engine (R427, R428) -/

/-- Bytes of a buffer that a command reads: BAR4, or what DMA brought; a byte that DMA did not bring is a free value. -/
def Dev.bufRead (d : Dev) (bar4 : Bool) (a n : Nat) (data : List Byte) : List Byte :=
  if bar4 then d.bar4Read a n else (List.range n).map fun i => data.getD i (Config.tornByte d.draws i)

/-- Sector `k` of the slot that is not active is erased, once in a session. -/
def Dev.fwErase (k : Nat) (d : Dev) : Dev :=
  if d.fw.erased.contains k then d
  else
    let lo := slotBase (!d.top.slotB) + 65536 * k
    d.modFw fun f =>
      { f with erased := k :: f.erased, flash := f.flash.filter fun e => e.1 < lo || lo + 65536 ≤ e.1 }

/-- A page of the slot that is not active is programmed. -/
def Dev.fwProgram (page : Nat) (bs : List Byte) (d : Dev) : Dev :=
  let a := slotBase (!d.top.slotB) + 256 * page
  d.modFw fun f =>
    { f with programmed := page :: f.programmed,
             flash := (List.range 256).foldl (fun m i => Tab.put (fun _ => 0xFF#8) m (a + i) (bs.getD i 0)) f.flash }

/-- `n` pages from `page` on; answers how many were written before a page that the session has programmed. -/
def Dev.fwPages : Nat → Nat → List Byte → Dev → Nat × Dev
  | 0, _, _, d => (0, d)
  | n + 1, page, bs, d =>
    if d.fw.programmed.contains page then (0, d)
    else
      let r := ((d.fwErase (page / 256)).fwProgram page (bs.take 256)).fwPages n (page + 1) (bs.drop 256)
      (r.1 + 1, r.2)

/-- The safe point at which a command that reads its buffer from host memory stands still: 0 while no request can be issued, else
where the command is stopped (log entry 169). -/
def Dev.stopPoint (c : Cmd) (stop : Option Nat) (d : Dev) : Option Nat := if pf c 1 0 1 = 0 && !d.dmaOpen then some 0 else stop

/-- FW_CHUNK; in the Keeper queue, which does not have it, its header fails (Table 16-9). `stop`: it stands at the safe point after so
many chunks of 256 B when something ends it (R331). -/
def fwChunkBody (data : List Byte) (stop : Option Nat) (c : Cmd) (d : Dev) : Option CmdOut × Dev :=
  let off := (wordAt c.words 0).toNat
  let len := (wordAt c.words 3).toNat
  checkedLong c (wholes 0 4)
    (failIf (off % 256 ≠ 0 || 4194304 < off + len) 0 ++ failIf (len < 256 || 4096 < len || len % 256 ≠ 0) 96) (fun d =>
    if d.fw.state = .trial then (some (.refused 0), d)
    else
      let n := len / 256
      let k := min n ((d.stopPoint c stop).getD n)
      let bs := d.bufRead (pf c 1 0 1 = 1) (bufAddr c 1) len data
      let d := if d.fw.session then d else (d.modFw fun f => { f with session := true, erased := [], programmed := [] }).fwErase 0
      let r := d.fwPages k (off / 256) bs
      let d := if r.1 = 0 then r.2 else r.2.modFw fun f => { f with state := .writing, stage := 0 }
      if r.1 = n then (some (.ok (256 * r.1)), d)
      else if r.1 = k then (none, d.stay c.src (256 * k) false)
      else (some (.refused (256 * r.1)), d)) d

/-- ACTIVATE: the trial of the slot just verified. -/
def Dev.fwTrial (c : Cmd) (d : Dev) : Dev :=
  let d := (d.keeperDiscard.modFw fun f =>
    { f with state := .trial, confirmAt := d.clk.aonUs + d.rdF 0x300114 0 12 * 1000000, activate := some (c.src, inProg c 0x81) }).modTop
      fun t => { t with slotB := !t.slotB, stage := if t.stage = 8 then (if t.run then 7 else 6) else t.stage }
  (((d.modKeeper fun k => { k with noImage := false }).keeperRelease).apTo .autopilot 1).autopilotAll

/-- FW_ACTIVATE. -/
def fwActivateBody (c : Cmd) (d : Dev) : Option CmdOut × Dev :=
  let act := pf c 0 0 2
  checkedLong c [(0, 0, 2)] (failIf (act = 3) 0) (fun d =>
    let no : Option CmdOut × Dev := (some (.refused d.fw.stage.toNat), d)
    let st := d.fw.state
    if act = 0 then
      if st = .writing || st = .verified then
        let n := d.imageChecks (!d.top.slotB)
        let d := d.modFw fun f =>
          { f with stage := BitVec.ofNat 4 n, state := if n = 5 then .verified else .writing, svn := d.imageSvn (!d.top.slotB) }
        (some (if n = 5 then .ok 5 else .refused n), d)
      else no
    else if act = 1 then (if st = .verified then (none, d.fwTrial c) else no)
    else if st = .trial then
      (some (.ok 7), (d.modFw fun f =>
        { f with state := .idle, stage := 7, session := false, prefB := d.top.slotB }).modOtp fun o =>
          { o with rollback := max o.rollback d.fw.svn })
    else no) d

/-- TRIAL_TIMEOUT: CONFIRM_WIN has elapsed. -/
def trialEnd (d : Dev) : Dev := if d.fw.state = .trial then d.fwRevert.keeperRelease else d

def execWatchdogExpiry (s : State) : Host.Outcome State Fault Refusal := run wdtExpire s
def execSensorSample (r : SensorReadings) (s : State) : Host.Outcome State Fault Refusal := run (sensorSample r) s
def execOtpProgramDone (s : State) : Host.Outcome State Fault Refusal := run otpDone s
def execDebugChallengeRead (s : State) : Host.Outcome State Fault Refusal := run debugChallenge s
def execDebugUnlock (key sig : List Byte) (s : State) : Host.Outcome State Fault Refusal := run (debugUnlock key sig) s
def execTrialTimeout (s : State) : Host.Outcome State Fault Refusal := run trialEnd s
def execFwChunk (c : Cmd) (p : Piece) (s : State) : Host.Outcome State Fault Refusal :=
  run (command 0x80 c (fwChunkBody p.data p.stop c)) s
def execFwActivate (c : Cmd) (s : State) : Host.Outcome State Fault Refusal := run (command 0x81 c (fwActivateBody c)) s

end Sys2Proof.Machine
end

