-- ==== Sys2Proof/Machine/Port.lean ====
section
/-! DEFINITION. Timing ports, timestamps, ESMC transmission, host frames and the TXTS queue (chapter 9). -/

namespace Sys2Proof.Machine

def PortState.code : PortState → Nat
  | .off => 0 | .down => 1 | .cal => 2 | .up => 3
def ClState.code : ClState → Nat
  | .disabled => 0 | .listening => 1 | .requesting => 2 | .tracking => 3

/-- The SyncE slot of a port, and its TX and exception rings. -/
def syncSlot (p : Fin 8) : Fin 64 := ⟨36 + p.val, by omega⟩
def txRing (p : Fin 8) : Fin 26 := ⟨10 + p.val, by omega⟩
def excRing (p : Fin 8) : Fin 26 := ⟨18 + p.val, by omega⟩

def Dev.portMac (d : Dev) (p : Nat) : Nat := d.rdF (portOff p + 8) 0 16 * 4294967296 + (d.rd (portOff p + 4)).toNat
/-- clockIdentity: the port MAC in EUI-64 form. -/
def Dev.clockId (d : Dev) (p : Nat) : Nat := d.portMac p / 16777216 * 1099511627776 + 0xFFFE * 16777216 + d.portMac p % 16777216

/-! ### Transmission (R240) -/

/-- The FFO that the transmitter of port p applies: y of its steering channel, clamped to ±100 ppm. -/
def Dev.txFfo (d : Dev) (p : Fin 8) : Int :=
  let w := d.portCfg p
  if bit w 24 then clampI (-28147497671) 28147497671 (d.chan (Fin.ofNat 16 (fld w 20 4))).loop.y else 0

/-! ### Timestamps (R242, R243) -/

/-- The line rate in baud (Table 9-1). -/
def lineRate (rate : Nat) : Nat := if rate = 0 then 1250000000 else if rate = 1 then 10312500000 else 25781250000

/-- `k` unit intervals in grains, rounded to the nearest. -/
def Dev.uiGr (d : Dev) (p : Fin 8) (k : Nat) : Int := roundDiv (k * grPerSec) (lineRate (d.portRate p))

/-- The pin instants of R243 on the timebase. -/
def Dev.txPin (d : Dev) (p : Fin 8) (tPcs : Int) (k : Nat) : Int :=
  tPcs + (d.rd (portOff p + 0x84)).toNat + d.uiGr p k + sfld (d.rd (portOff p + 0x70)) 0 32
def Dev.rxPin (d : Dev) (p : Fin 8) (tPcs : Int) (k : Nat) : Int :=
  tPcs - (d.rd (portOff p + 0x88)).toNat - d.uiGr p k - sfld (d.rd (portOff p + 0x74)) 0 32

/-- The time scale of the port at a pin instant, in grains. -/
def Dev.portTime (d : Dev) (p : Fin 8) (t : Int) : Int := d.tsAt (d.portTs p) t
/-- The line rate that port p transmits at, in baud times 2^48 (R240). -/
def Dev.txRate (d : Dev) (p : Fin 8) : Int := lineRate (d.portRate p) * (281474976710656 + d.txFfo p)

/-- The time of an event message whose start the PCS of port p sees at `t`, bit position k: that of its pin (R242, R243). -/
def Dev.txStamp (d : Dev) (p : Fin 8) (t : Int) (k : Nat) : Triple := grTriple (d.portTime p (d.txPin p t k))

/-! ### TXTS (R254 to R257) -/

/-- Word 0 of a TXTS entry (Table 9-5). -/
def Dev.txtsHead (d : Dev) (p : Fin 8) (notSent : Bool) (id : BitVec 16) : Word :=
  word (2147483648 + bitAt 29 notSent + bitAt 28 (d.portUnset p) + (d.portTs p).val * 33554432 + p.val * 4194304 + id.toNat)

/-- An entry in its place: by its timestamp point, of one point the lower port first (R255). -/
def TxtsEntry.insert (e : TxtsEntry) : List TxtsEntry → List TxtsEntry
  | [] => [e]
  | x :: q => if e.at_ < x.at_ || (e.at_ = x.at_ && e.port < x.port) then e :: x :: q else x :: e.insert q

/-- A result for a TS_REQ frame of port p with its timestamp point: queued, or lost when 64 entries wait (R255, R257). -/
def Dev.txtsPush (p : Fin 8) (at_ : Int) (e : List Word) (d : Dev) : Dev :=
  if d.txts.queue.length < 64 then d.modTxts fun t => { t with queue := TxtsEntry.insert ⟨at_, p, e⟩ t.queue }
  else
    let w0 := wordAt e 0
    (((d.bump 0x208024 16 16).wr 0x208028 w0).occur 145 p).logEnt 0x83 p 12 (wordBytes w0)

/-- The entry of a frame sent at time `gr`, and that of a frame not sent. -/
def Dev.txtsSent (d : Dev) (p : Fin 8) (id : BitVec 16) (gr : Int) : List Word :=
  let t := grTriple gr
  [d.txtsHead p false id, word (t.sec % 4294967296), word (t.gr * 65536 + t.sec / 4294967296), word t.ns]
def Dev.txtsNotSent (d : Dev) (p : Fin 8) (id : BitVec 16) : List Word := [d.txtsHead p true id, 0, 0, 0]

/-- A read of TXTS_HEAD by interface `i`: word 0 of the oldest entry, which leaves the queue (R256, R257). -/
def Dev.txtsPop (i : Fin 4) (d : Dev) : Word × Dev :=
  match d.txts.queue with
  | e :: q => (wordAt e.words 0, d.modTxts fun t => { t with queue := q, hold := t.hold.set i e.words })
  | [] => (0, (d.modTxts fun t => { t with hold := t.hold.set i [0, 0, 0, 0] }).bump 0x208024 0 16)

/-! ### Host frames (R252 to R254, R326) -/

/-- The slot `i` that TX ring p has fetched. -/
def Dev.txSlot (d : Dev) (p : Fin 8) (i : Nat) : TxSlot := ⟨i, d.ringBar4 (txRing p), d.entryAddr (txRing p) i + 28⟩

/-- The DONE word of a slot of TX ring p: also after EN went to 0; the ring's bit counts the slots of an enabled ring (R326, R328). -/
def Dev.txDone (p : Fin 8) (slot : TxSlot) (status : Nat) (d : Dev) : Dev :=
  let r := txRing p
  let d := d.memWrite slot.bar4 slot.addr (wordBytes (word (2147483648 + status)))
  if d.ringEn r then
    let was := d.irqBit r
    (d.modRing r fun g => { g with done := g.done ++ [slot.index] }).notice r was true
  else d

/-- A committed frame ends: its DONE word, or the completion of its PACKET_SEND. -/
def Dev.txEnded (p : Fin 8) (f : TxFrame) (sent : Bool) (d : Dev) : Dev :=
  let d := match f.slot with
    | some i => d.txDone p i (if sent then 0 else 2)
    | none => d
  match f.cmd with
  | some c => d.complete c.1 c.2 (if sent then .ok else .notDone (d.port p).st.code)
  | none => d

/-- A committed frame whose port has left UP before its start octet. -/
def Dev.txLost (p : Fin 8) (f : TxFrame) (d : Dev) : Dev :=
  (if f.tsReq then d.txtsPush p d.tbGr (d.txtsNotSent p f.tsId) else d).txEnded p f false

/-- Every committed frame of a port ends as not sent. -/
def Dev.txDrain (p : Fin 8) (d : Dev) : Dev :=
  (d.port p).txq.foldl (fun d f => d.txLost p f) (d.modPort p fun x => { x with txq := [] })

/-- A TX descriptor (Table 12-12) of `slot` as a frame; none for a LEN outside 14–1,996 (R252). -/
def txDesc (slot : TxSlot) (ws : List Word) : Option TxFrame :=
  let w := wordAt ws
  let len := fld (w 2) 0 16
  if len < 14 || 1996 < len then none
  else some ⟨some slot, none, bit (w 3) 0, BitVec.ofNat 16 (fld (w 2) 16 16), bit (w 3) 1, (w 0).toNat + (w 1).toNat * 4294967296, len⟩

/-- The descriptors that TX ring p has fetched are committed while the port is UP; a bad one ends INVALID (R252). -/
def Dev.txCommit (p : Fin 8) (d : Dev) : Dev :=
  if (d.port p).st = .up then
    let r := txRing p
    (d.ring r).fetched.foldl (fun d e =>
      match txDesc (d.txSlot p e.1) e.2 with
      | some f => d.modPort p fun x => { x with txq := x.txq ++ [f] }
      | none => d.txDone p (d.txSlot p e.1) 4) (d.modRing r fun g => { g with fetched := [] })
  else d

/-- PACKET_TX_DONE: the oldest committed frame has left the pins, or its port has left UP. -/
def packetDone (p : Fin 8) (e : TxEnd) (d : Dev) : Dev :=
  match (d.port p).txq with
  | [] => d
  | f :: q =>
    let d := d.modPort p fun x => { x with txq := q }
    match e with
    | .sent t k data =>
      let d := d.modPort p fun x => { x with sent := x.sent ++ [.host (d.bufRead f.bar4 f.addr f.len data)] }
      let d := if f.tsReq then d.txtsPush p (d.txPin p t k) (d.txtsSent p f.tsId (d.portTime p (d.txPin p t k))) else d
      d.txEnded p f true
    | .leftUp => d.txLost p f

/-- PACKET_SEND. -/
def packetSendBody (c : Cmd) (d : Dev) : Option CmdOut × Dev :=
  let p : Fin 8 := Fin.ofNat 8 (pf c 0 0 3)
  let len := pf c 3 0 11
  checkedLong c [(0, 0, 3), (0, 8, 1), (0, 9, 1), (0, 16, 16), whole 1, whole 2, (3, 0, 11)] (failIf (len < 14 || 1996 < len) 96) (fun d =>
    if (d.port p).st = .up then
      let a := (wordAt c.words 1).toNat + (wordAt c.words 2).toNat * 4294967296
      let f : TxFrame := ⟨none, some (c.src, inProg c 0x54), pf c 0 8 1 = 1, BitVec.ofNat 16 (pf c 0 16 16), pf c 0 9 1 = 1, a, len⟩
      (none, d.modPort p fun x => { x with txq := x.txq ++ [f] })
    else (some (.refused (d.port p).st.code), d)) d

/-! ### Port states (Table 9-2) -/

/-- A port enters a state by a row of Table 9-2, with its event; its server starts or stops (R271, R276). -/
def Dev.portTo (p : Fin 8) (st : PortState) (row : Nat) (d : Dev) : Dev :=
  let old := (d.port p).st
  ((d.modPort p fun x => { x with st := st }).stateEv 12 0 p old.code st.code row 0xFF).loadRefresh

/-- A client instance stops its estimates and its exchange in progress. -/
def Client.stop (x : Client) : Client :=
  { x with sync := none, dreq := none, lastF := none, preq := none, presp := none, subs := [], rm := [], marks := [], ests := [],
           estValid := false }

/-- A client instance enters a state by a row of Table 10-2, with its event. -/
def Dev.clientTo (k : Fin 16) (st : ClState) (row : Nat) (d : Dev) : Dev :=
  let old := (d.client k).st
  (d.modClient k fun x => { x with st := st }).stateEv 12 1 k old.code st.code row 0xFF

/-- PRk_CFG.PORT. -/
def Dev.clientPort (d : Dev) (k : Nat) : Fin 8 := Fin.ofNat 8 (d.rdF (0x212000 + 0x100 * k) 28 3)

/-- Row 2 of Table 10-2: the port of client k has left UP. Its grants run on (R264). -/
def Dev.clientPortDown (k : Fin 16) (d : Dev) : Dev :=
  if (d.client k).st = .disabled then d else (d.modClient k Client.stop).clientTo k .listening 2

/-- A port leaves CAL or UP: its SyncE slot is lost, and from UP its frames, its clients and its settling window (R93, R254). -/
def Dev.portLeave (p : Fin 8) (st : PortState) (row : Nat) (d : Dev) : Dev :=
  let old := (d.port p).st
  let d := d.portTo p st row
  let d := if old = .cal || old = .up then slotLoss (syncSlot p) d else d
  if old = .up then
    let d := (((d.bump (portOff p + 0xA0) 16 16).bucketsSync p).modPort p fun x => { x with settling := false }).txDrain p
    forFin 16 (fun k d => onlyIf (d.clientPort k = p) (Dev.clientPortDown k) d) d
  else d

/-- FS136 + p: its condition holds from a loss until the next entry into UP (Table 15-1). -/
def portSource (p : Fin 8) : Fin 192 := ⟨136 + p.val, by omega⟩

/-- Row 4: a loss, counted in the port-link source. -/
def Dev.portLoss (p : Fin 8) (d : Dev) : Dev :=
  if (d.port p).st = .cal || (d.port p).st = .up then (d.portLeave p .down 4).setCond (portSource p) p true else d

/-- PORT_LINK_LOSS: what the receiver shows then. -/
def portLinkLoss (p : Fin 8) (cdr pcs fec hiBer : Bool) (d : Dev) : Dev :=
  if (d.port p).st = .off then d
  else (d.modPort p fun x => { x with cdr := cdr, pcs := pcs, fec := fec, hiBer := hiBer }).portLoss p

/-- The recovered clock that feeds the SyncE slot: FNOM and PREDIV − 1 (Table 9-1, R247). -/
def Dev.syncRate (p : Fin 8) (d : Dev) : Dev :=
  if d.portRate p = 0 then d.setRate (syncSlot p) 125000000 1 0 else d.setRate (syncSlot p) 156250000 1 1

/-- PORT_LINK_UP: row 5. -/
def portLinkUp (p : Fin 8) (d : Dev) : Dev :=
  if (d.port p).st = .down && d.clk.xo && !d.shed && d.blockReady 12 then
    ((d.modPort p fun x => { x with cdr := true, pcs := true, fec := bit (d.portCfg p) 28, hiBer := false }).syncRate p).portTo p .cal 5
  else d

/-- TX_DLY and RX_DLY in use. -/
def Dev.portDelays (p : Fin 8) (tx rx : Word) (d : Dev) : Dev := (d.wr (portOff p + 0x84) tx).wr (portOff p + 0x88) rx

/-- DNU_FORCED (R249). -/
def Dev.dnuForced (d : Dev) (p : Fin 8) : Bool :=
  let w := d.portCfg p
  bit w 19 && bit w 24 && (d.chan (Fin.ofNat 16 (fld w 20 4))).sel.cur = some (syncSlot p)

/-- The SSM that the port sends (R249). -/
def Dev.ssmNow (d : Dev) (p : Fin 8) : BitVec 4 := if d.dnuForced p then 0xF else BitVec.ofNat 4 (d.rdF (portOff p + 0x90) 0 4)

/-- PORT_CAL_DONE: row 6; the settling window starts with full buckets (R281, R282). -/
def portCalDone (p : Fin 8) (tx rx : Word) (d : Dev) : Dev :=
  if (d.port p).st = .cal then
    let d := (d.portDelays p tx rx).modPort p fun x =>
      { x with settling := d.rdF (0x211010 + 0x100 * p) 26 6 ≠ 0, buckets := [],
               untouched := ⟨d.bwBurst p * 1000000, d.clk.tbUs⟩, ssmSent := d.ssmNow p }
    ((d.portTo p .up 6).setCond (portSource p) p false).txCommit p
  else d

/-- PORT_CAL_TIMEOUT: row 7. -/
def portCalTimeout (p : Fin 8) (d : Dev) : Dev :=
  if (d.port p).st = .cal then (d.portLeave p .down 7).bump (portOff p + 0xA0) 0 16 else d

/-- PORT_RECALIBRATE (R244). -/
def portRecal (p : Fin 8) (tx rx : Word) (d : Dev) : Dev := if (d.port p).st = .up then d.portDelays p tx rx else d

/-- The fields of PORTn_CFG whose change restarts the link. -/
def linkFields (w : Word) : List Nat := [fld w 27 4, fld w 17 2]

/-- What an accepted PORTn_CFG leads to: rows 1 to 3. Answers whether the link restarts. -/
def Dev.portChanged (p : Fin 8) (old : Word) (d : Dev) : Bool × Dev :=
  let w := d.portCfg p
  let off := (d.port p).st = .off
  let gone := fun d : Dev => d.modPort p fun x => { x with cdr := false, pcs := false, fec := false, hiBer := false }
  if !off && !bit w 31 then (false, gone (d.portLeave p .off 1))
  else if !off && linkFields old ≠ linkFields w then (true, gone (d.portLeave p .down 2))
  else if off && bit w 31 then (false, d.portTo p .down 3)
  else (false, d)

/-! ### ESMC (R248, R249) -/

/-- An ESMC PDU in the SSM, and the extended TLV, of this moment. -/
def Dev.esmcPdu (d : Dev) (p : Fin 8) (event : Bool) : TxMsg :=
  let w := d.rd (portOff p + 0x90)
  let w2 := d.rd (portOff p + 0x94)
  .esmc event (d.ssmNow p) (if bit w 31 then
    some (if d.dnuForced p then 0xFF else b8 (fld w 16 8), bit w 30, b8 (fld w2 8 8), b8 (fld w2 0 8), d.clockId p) else none)

/-- Fewer than 10 PDUs in the last second. -/
def Dev.esmcMay (d : Dev) (p : Fin 8) : Bool :=
  (d.port p).st = .up && ((d.port p).esmcAt.filter fun t => d.clk.tbUs < t + 1000000).length < 10

/-- A PDU sent. -/
def Dev.esmcSend (p : Fin 8) (event : Bool) (d : Dev) : Dev :=
  d.modPort p fun x => { x with sent := x.sent ++ [d.esmcPdu p event],
                                esmcAt := (x.esmcAt.filter fun t => d.clk.tbUs < t + 1000000) ++ [d.clk.tbUs] }

/-- ESMC_INFO_TX. -/
def esmcInfo (p : Fin 8) (d : Dev) : Dev := if d.esmcMay p then d.esmcSend p false else d

/-- ESMC_EVENT_TX: for a change of the SSM sent. -/
def esmcEvent (p : Fin 8) (d : Dev) : Dev :=
  if d.esmcMay p && (d.port p).ssmSent ≠ d.ssmNow p then
    (d.esmcSend p true).modPort p fun x => { x with ssmSent := d.ssmNow p }
  else d

/-- ESMC_TIMEOUT: 5 s without a valid PDU. -/
def esmcLate (p : Fin 8) (d : Dev) : Dev :=
  if (d.port p).st ≠ .off && !(d.port p).esmcTimeout then
    ((d.modPort p fun x => { x with esmcValid := false, esmcTimeout := true }).bump (portOff p + 0xAC) 0 16).event 0x0E p 12 []
  else d

/-- The header of an ESMC PDU, in a frame to `dst` (R248). -/
def esmcHeader (x : EsmcPdu) (dst : BitVec 48) : Bool :=
  dst = 0x0180C2000002 && x.etherType = 0x8809 && x.subtype = 0x0A && x.oui = 0x0019A7 && x.ituSubtype = 1 && x.version = 1

/-- The value of the first TLV of a type. -/
def esmcTlv (x : EsmcPdu) (kind : Byte) : Option EsmcTlv := x.tlvs.find? (·.kind = kind)

/-- The TLV check: a QL TLV of length 4, and an extended one, if any, of length 20 (R248). -/
def esmcTlvOk (x : EsmcPdu) : Bool :=
  (x.tlvs.all fun t => t.len.toNat = t.value.length + 3) && (esmcTlv x 1).any (·.len = 4) && ((esmcTlv x 2).all (·.len = 20))

/-- An ESMC PDU whose header has been recognised. The places of the SSM, the enhanced SSM and the mixed-chain flag within their
TLVs are those of ITU-T G.8264 (log entry 163). -/
def Dev.esmcTake (p : Fin 8) (x : EsmcPdu) (d : Dev) : Dev :=
  if esmcTlvOk x then
    let at_ := fun (k : Byte) i => match esmcTlv x k with
      | some t => (t.value.getD i 0).toNat
      | none => 0
    let w := d.rd (portOff p + 0x98)
    let w := if (esmcTlv x 2).isSome then setFld (setFld (setFld w 29 1 1) 28 1 (at_ 2 9 % 2)) 16 8 (at_ 2 0) else setFld w 29 1 0
    (d.wr (portOff p + 0x98) (setFld w 0 4 (at_ 1 0 % 16))).modPort p fun y => { y with esmcValid := true, esmcTimeout := false }
  else d.bump (portOff p + 0xAC) 16 16

/-! ### PORT_CONFIG -/

/-- An address that may not be enabled. -/
def ip4Bad (a : Nat) : Bool := a = 0 || a = 0xFFFFFFFF || a / 0x10000000 = 0xE
def ip6Bad (a : List Word) : Bool := a.all (· = 0) || fld (wordAt a 0) 24 8 = 0xFF

/-- Rules that join fields of a port: failing (word, bit), CFG being word 0 as in PORT_CONFIG words 1 to 27 (R239). -/
def portBad (w : Nat → Word) : List (Nat × Nat) :=
  (if bit (w 0) 28 && fld (w 0) 29 2 ≠ 2 then [(0, 28)] else []) ++
  (if bit (w 0) 27 && fld (w 0) 29 2 ≠ 0 then [(0, 27)] else []) ++
  (if bit (w 3) 30 && (fld (w 3) 0 12 = 0 || fld (w 3) 0 12 = 4095) then [(3, 0)] else []) ++
  ((List.range 4).filterMap fun k => if bit (w 24) k && ip4Bad (w (4 + k)).toNat then some (4 + k, 0) else none) ++
  ((List.range 4).filterMap fun k =>
    if bit (w 24) (4 + k) && ip6Bad ((List.range 4).map fun i => w (8 + 4 * k + i)) then some (8 + 4 * k, 0) else none)

/-- The registers of PORT_CONFIG words 1 to 27. -/
def portWords : List Nat :=
  [0, 4, 8, 0xC] ++ (List.range 4).map (0x10 + 4 * ·) ++ (List.range 16).map (0x20 + 4 * ·) ++ [0x60, 0x70, 0x74]

/-- The parameters of PORT_CONFIG that fail. -/
def portConfigBad (c : Cmd) : List Nat :=
  ((portWords.zipIdx).flatMap fun e => imageBad c (e.2 + 1) (portOff (Fin.ofNat 8 (pf c 0 0 3)) + e.1)) ++
    (portBad fun i => wordAt c.words (i + 1)).map fun q => 32 * (q.1 + 1) + q.2

/-- PORT_CONFIG (0x50). -/
def portConfigBody (c : Cmd) (d : Dev) : Option CmdOut × Dev :=
  let p : Fin 8 := Fin.ofNat 8 (pf c 0 0 3)
  let o := portOff p
  checked c ((0, 0, 3) :: wholes 1 27) (portConfigBad c) (fun d =>
    let old := d.portCfg p
    if bit old 31 && fld old 25 2 ≠ fld (wordAt c.words 1) 25 2 then (.refused 1, d)
    else
      let d := (portWords.zipIdx).foldl (fun d e => d.wr (o + e.1) (wordAt c.words (e.2 + 1))) d
      let r := d.portChanged p old
      (.ok (if r.1 then 2 else 0), r.2)) d

/-! ### BLOCK_RESET (R258, R260) -/

/-- The CT counts of the ports and of TXTS. -/
def portCounts : List Nat :=
  (List.range 8).flatMap (fun n => [portOff n + 0xA0, portOff n + 0xA4, portOff n + 0xA8, portOff n + 0xAC]) ++ [0x208024]

/-- A block reset of PORT/PILOT as it reaches the ports. -/
def Dev.portsReset (d : Dev) : Dev :=
  let d := (forFin 8 Dev.portLoss d).modTxts fun _ => Txts.reset
  portCounts.foldl (fun d o => d.wr o 0) d

def execPortLinkUp (p : Fin 8) (s : State) : Host.Outcome State Fault Refusal := run (portLinkUp p) s
def execPortCalDone (p : Fin 8) (tx rx : Word) (s : State) : Host.Outcome State Fault Refusal := run (portCalDone p tx rx) s
def execPortCalTimeout (p : Fin 8) (s : State) : Host.Outcome State Fault Refusal := run (portCalTimeout p) s
def execPortLinkLoss (p : Fin 8) (cdr pcs fec hiBer : Bool) (s : State) : Host.Outcome State Fault Refusal :=
  run (portLinkLoss p cdr pcs fec hiBer) s
def execPortRecalibrate (p : Fin 8) (tx rx : Word) (s : State) : Host.Outcome State Fault Refusal := run (portRecal p tx rx) s
def execEsmcTimeout (p : Fin 8) (s : State) : Host.Outcome State Fault Refusal := run (esmcLate p) s
def execEsmcInfoTx (p : Fin 8) (s : State) : Host.Outcome State Fault Refusal := run (esmcInfo p) s
def execEsmcEventTx (p : Fin 8) (s : State) : Host.Outcome State Fault Refusal := run (esmcEvent p) s
def execPacketTxDone (p : Fin 8) (e : TxEnd) (s : State) : Host.Outcome State Fault Refusal := run (packetDone p e) s
def execPacketSend (c : Cmd) (s : State) : Host.Outcome State Fault Refusal := run (command 0x54 c (packetSendBody c)) s
def execPortConfig (c : Cmd) (s : State) : Host.Outcome State Fault Refusal := run (command 0x50 c (portConfigBody c)) s

end Sys2Proof.Machine
end

