-- ==== Sys2Proof/Machine/Pilot.lean ====
section
/-! DEFINITION. The Pilot time service: Breakwater, server, unicast negotiation, client table and calendar, client instances and
Sounding engines (chapter 10). -/

namespace Sys2Proof.Machine

def prOff (k : Nat) : Nat := 0x212000 + 0x100 * k

/-! ### The Breakwater (R281) -/

/-- The bytes a source is hashed as. -/
def srcBytes (f : Frame) : List Byte :=
  match f.from_ with
  | .mac => beBytes 6 f.src.toNat
  | .ip4 a => beBytes 4 a.toNat
  | .ip6 a => beBytes 16 a.toNat

/-- The bucket of a frame: CRC-32C of SEED and the source, modulo 1,024. -/
def Dev.bucketIdx (d : Dev) (p : Fin 8) (f : Frame) : Nat :=
  (crc32c (wordBytes (d.rd (psrvOff p + 0x14)) ++ srcBytes f)).toNat % 1024

/-- A frame takes a token; false where none is present. -/
def Dev.police (p : Fin 8) (f : Frame) (d : Dev) : Bool × Dev :=
  let i := d.bucketIdx p f
  let b := d.bucketNow p (Tab.get (fun _ => (d.port p).untouched) (d.port p).buckets i)
  if 1000000 ≤ b.micro then
    (true, d.modPort p fun x => { x with buckets := Tab.ins i { b with micro := b.micro - 1000000 } x.buckets })
  else (false, d)

/-! ### The server (R271 to R273) -/

/-- PILOT_CCSUBs for the state of the channel that disciplines the time scale served on port p. -/
def Dev.ccsub (d : Dev) (p : Fin 8) : Word := d.rd (0x210040 + 4 * (d.chan (d.tsChan (d.portTs p))).st.code)
/-- SUBST (R272). -/
def Dev.subst (d : Dev) (p : Fin 8) : Bool := d.apActive || bit (d.ccsub p) 31

/-- What Announce carries on port p now. -/
def Dev.announceNow (d : Dev) (p : Fin 8) : AnnounceOut :=
  let gm := d.rd (psrvOff p + 0x20)
  let gm2 := d.rd (psrvOff p + 0x24)
  let ts := d.portTs p
  let t := d.tsc ts
  let utc := d.rd (tsOff ts + 4)
  let del := t.leap.map (·.1)
  { clockClass := if d.subst p then b8 (fld (d.ccsub p) 8 8) else b8 (fld gm 24 8)
    accuracy := if d.subst p then b8 (fld (d.ccsub p) 0 8) else b8 (fld gm 16 8)
    prio1 := b8 (fld gm 8 8), prio2 := b8 (fld gm 0 8), variance := BitVec.ofNat 16 (fld gm2 16 16), timeSrc := b8 (fld gm2 8 8)
    stepsRemoved := 0, utcOffset := fld utc 0 10, utcValid := bit utc 31
    leap61 := t.notice && del = some false, leap59 := t.notice && del = some true
    ptpTimescale := !bit (d.rd (tsOff ts)) 27
    timeTraceable := bit gm2 1 && t.st ≠ .todHold, freqTraceable := bit gm2 0 }

/-- A PTP transport code is UDP/IPv6. -/
def isV6 (t : Nat) : Bool := t = 2
def Dev.psrvV6 (d : Dev) (p : Nat) : Bool := isV6 (fld (d.psrv p) 24 2)

/-- The multicast group that the server of port p sends to: in profile 4 that of R261; its own frames carry no tag (log entry 164). -/
def Dev.mcDest (d : Dev) (p : Nat) : Dest := .multicast (if fld (d.psrv p) 26 3 = 4 then some 0x011B19000000 else none) []

/-- ESMC PDUs and event messages go before the others (R253). -/
def TxMsg.first : TxMsg → Bool
  | .esmc .. | .sync .. | .delayReq .. | .pdelayReq .. | .pdelayResp .. => true
  | .arpReply .. | .neighborAdv .. | .followUp .. | .announce .. | .delayResp .. | .pdelayRespFollowUp .. | .signaling ..
  | .host _ => false

/-- What a step has sent since `old`, on each port in the order of R253 (log entry 165). -/
def Dev.txOrder (old d : Dev) : Dev :=
  forFin 8 (fun p d => d.modPort p fun x =>
    let n := (old.port p).sent.length
    let new := x.sent.drop n
    { x with sent := x.sent.take n ++ (new.filter TxMsg.first ++ new.filter fun m => !m.first) }) d

/-- A frame sent on a port. -/
def Dev.send (p : Fin 8) (m : TxMsg) (d : Dev) : Dev := d.modPort p fun x => { x with sent := x.sent ++ [m] }

def Dev.psrvDomain (d : Dev) (p : Nat) : Nat := fld (d.psrv p) 14 8
/-- A Sync whose start the PCS sees at `t`, bit k: one-step with its timestamp, two-step followed by its Follow_Up (R242, R261). -/
def Dev.sendSync (p : Fin 8) (dom seq : Nat) (two v6 : Bool) (dst : Dest) (t : Int) (k : Nat) (d : Dev) : Dev :=
  let at_ := d.txStamp p t k
  if two then (d.send p (.sync dom seq true none v6 dst)).send p (.followUp dom seq at_ v6 dst)
  else d.send p (.sync dom seq false (some at_) v6 dst)

/-- MULTICAST_SYNC_TX: the PCS sees its start at `t`, bit k. -/
def mcSync (p : Fin 8) (t : Int) (k : Nat) (d : Dev) : Dev :=
  if d.mcOn p then
    let n := (d.port p).syncSeq
    (d.sendSync p (d.psrvDomain p) n (d.psrvTwoStep p) (d.psrvV6 p) (d.mcDest p) t k).modPort p fun x =>
      { x with syncSeq := (n + 1) % 65536 }
  else d

/-- MULTICAST_ANNOUNCE_TX. -/
def mcAnnounce (p : Fin 8) (d : Dev) : Dev :=
  if d.mcOn p then
    let n := (d.port p).annSeq
    (d.send p (.announce (d.psrvDomain p) n (d.announceNow p) (d.psrvV6 p) (d.mcDest p))).modPort p fun x => { x with annSeq := (n + 1) % 65536 }
  else d

/-! ### The client table (R277, R278) -/

def Entry.get (e : Entry) : GrantKind → Option Grant
  | .sync => e.sync | .announce => e.ann | .delayResp => e.dresp
def Entry.put (e : Entry) (k : GrantKind) (g : Option Grant) : Entry :=
  match k with
  | .sync => { e with sync := g, dirty := true }
  | .announce => { e with ann := g, dirty := true }
  | .delayResp => { e with dresp := g, dirty := true }
def Entry.grants (e : Entry) : List GrantKind := [GrantKind.sync, .announce, .delayResp].filter fun k => (e.get k).isSome

/-- N. -/
def Dev.tableSize (d : Dev) : Nat :=
  match d.pilot.attached with
  | some a => 2 ^ a.2.2
  | none => 0

/-- Service seconds (R277). -/
def Dev.serviceSec (d : Dev) : Nat := (d.clk.tbUs - d.pilot.attachUs) / 1000000

def Dev.clientCount (d : Dev) : Nat := d.pilot.entries.length
def Dev.portClients (d : Dev) (p : Fin 8) : Nat := (d.pilot.entries.filter fun e => e.2.port = p).length

/-- The entry at an index: the last one listed. -/
def Dev.entryAt (d : Dev) (i : Nat) : Option Entry := (d.pilot.entries.find? fun e => e.1 = i).map (·.2)

/-- The probe chain of a client on port p (R278). -/
def Dev.probe (d : Dev) (p : Fin 8) (ident : BitVec 80) : List Nat :=
  let h := (crc32c (b8 p :: beBytes 10 ident.toNat)).toNat
  (List.range 8).map fun j => (h + j) % d.tableSize

/-- The entry that holds this client; one whose read failed is skipped, but for one in the cache (R278, R280). -/
def Dev.findClient (d : Dev) (p : Fin 8) (ident : BitVec 80) : Option (Nat × Entry) :=
  (d.probe p ident).findSome? fun i =>
    if d.pilot.missing.contains i && !d.pilot.cache.contains i then none
    else match d.entryAt i with
      | some e => if e.port = p && e.ident = ident then some (i, e) else none
      | none => none

/-- The first free entry of the chain. -/
def Dev.freeClient (d : Dev) (p : Fin 8) (ident : BitVec 80) : Option Nat :=
  (d.probe p ident).find? fun i => (d.entryAt i).isNone && !d.pilot.missing.contains i

/-- Bytes of an entry (Table 10-6); `none` is the entry of a freed index, whose generation stays. -/
def entryImage (gen : Nat) (e : Option Entry) : List Byte :=
  match e with
  | none => List.replicate 14 0 ++ leBytes 2 gen ++ List.replicate 48 0
  | some e =>
    let tag := e.tags.head?
    let tr := match e.transport with
      | .l2 => 0 | .ipv4 => 1 | .ipv6 => 2
    let w := 32768 + bitAt 14 e.sync.isSome + bitAt 13 e.ann.isSome + bitAt 12 e.dresp.isSome + tr * 1024 + bitAt 9 tag.isSome +
      e.port.val * 64 + bitAt 5 e.twoStep
    let vl := match tag with
      | some t => t.1.toNat * 8192 + t.2.toNat
      | none => 0
    let li := fun g : Option Grant => sBytes 1 (match g with
      | some g => g.logInt
      | none => 0)
    let ex := fun g : Option Grant => leBytes 4 (match g with
      | some g => g.expiry
      | none => 0)
    leBytes 2 w ++ leBytes 2 vl ++ [b8 e.domain, b8 e.profile] ++ li e.sync ++ li e.ann ++ li e.dresp ++ [0] ++ leBytes 2 e.syncSeq ++
      leBytes 2 e.annSeq ++ leBytes 2 e.gen ++ beBytes 6 e.mac.toNat ++ beBytes 10 e.ident.toNat ++ beBytes 16 e.ip.toNat ++
      ex e.sync ++ ex e.ann ++ ex e.dresp ++ [0, 0, 0, 0]

/-- The image of an entry written to the table. -/
def Dev.entryWrite (i : Nat) (d : Dev) : Dev :=
  match d.pilot.attached with
  | some (b, a, _) => d.memWrite b (a + 64 * i) (entryImage (Tab.get (fun _ => 0) d.pilot.gens i) (d.entryAt i))
  | none => d

/-- `i` listed once. -/
def listed (i : Nat) (l : List Nat) : List Nat := if l.contains i then l else i :: l

/-- An index leaves the cache. -/
def Dev.uncache (i : Nat) (d : Dev) : Dev := d.modPilot fun x => { x with cache := x.cache.filter (· ≠ i) }

/-- An entry stored, in the cache until its write-back; one with no grants left is freed (R274, R279). -/
def Dev.entryPut (i : Nat) (e : Entry) (d : Dev) : Dev :=
  if e.grants.isEmpty then ((d.modPilot fun x => { x with entries := Tab.del i x.entries }).entryWrite i).uncache i
  else d.modPilot fun x => { x with entries := Tab.ins i e x.entries, cache := listed i x.cache }

/-- A changed entry written back; the cache then lets it go (R279). -/
def Dev.writeBack (i : Nat) (d : Dev) : Dev :=
  let d := d.modPilot fun x => { x with writing := x.writing.filter (· ≠ i) }
  match d.entryAt i with
  | some e => if e.dirty then ((d.entryWrite i).modPilot fun x =>
      { x with entries := Tab.ins i { e with dirty := false } x.entries }).uncache i else d
  | none => d

/-- A table access failed: TABLE_ERR and the Pilot-table source (R280). -/
def Dev.tableErr (d : Dev) : Dev := (d.bump 0x210014 0 16).occur 147 0

/-- A read of entry i ends: a failed one leaves what the cache holds (R280). -/
def Dev.fetched (i : Nat) (ok : Bool) (d : Dev) : Dev :=
  d.modPilot fun x =>
    { x with fetching := x.fetching.filter (· ≠ i), cache := if ok then listed i x.cache else x.cache,
             missing := if ok || x.cache.contains i then x.missing.filter (· ≠ i) else listed i x.missing }

/-! ### Unicast negotiation (R274) -/

/-- The answer to one TLV: none is a request discarded without reply. -/
abbrev Answer := Option UcTlv × Dev

def Dev.deny (p : Fin 8) (k : GrantKind) (l : Int) (d : Dev) : Answer :=
  (some (.grant k l 0), d.bump (psrvOff p + 0x50) 0 16)

/-- The address of a frame's source. -/
def srcAddr (f : Frame) : BitVec 128 :=
  match f.from_ with
  | .mac => BitVec.ofNat 128 (f.src.toNat * 2 ^ 80)
  | .ip4 a => BitVec.ofNat 128 (0xFFFF00000000 + a.toNat)
  | .ip6 a => a

/-- The node that a frame came from. -/
def srcNode (f : Frame) : Dest := .node f.src (srcAddr f) f.tags

/-- A new client's entry, without grants. -/
def Dev.newEntry (d : Dev) (p : Fin 8) (f : Frame) (m : PtpMsg) (gen : Nat) : Entry :=
  { sync := none, ann := none, dresp := none, port := p, transport := m.transport, tags := f.tags, twoStep := d.psrvTwoStep p,
    domain := m.domain, profile := fld (d.psrv p) 26 3, syncSeq := 0, annSeq := 0, gen := gen, mac := f.src, ident := m.sender,
    ip := (match f.from_ with
      | .mac => 0
      | _ => srcAddr f), dirty := true }

/-- A grant made: its entry, GRANTS, and the grants of the present second when it is new. -/
def Dev.grantTo (p : Fin 8) (i : Nat) (e : Entry) (k : GrantKind) (l : Int) (dur : Nat) (new : Bool) (d : Dev) : Answer :=
  let t := min dur (d.rdF (psrvOff p + 4) 18 10)
  let d := (d.entryPut i (e.put k (some ⟨l, (d.serviceSec + t) % 4294967296⟩))).bump (psrvOff p + 0x50) 16 16
  let sec := d.clk.tbUs / 1000000
  let d := if new then d.modPort p fun x =>
      { x with grantSecond := sec, grantsInSecond := (if x.grantSecond = sec then x.grantsInSecond else 0) + 1 } else d
  (some (.grant k l t), d.loadRefresh)

/-- One request TLV, by the first row of Table 10-4 that holds. -/
def Dev.request (p : Fin 8) (f : Frame) (m : PtpMsg) (k : GrantKind) (l : Int) (dur : Nat) (d : Dev) : Answer :=
  if !bit (d.psrv p) 30 || !d.serving p || d.pilot.attached.isNone then d.deny p k l
  else if l < sfld (d.rd (psrvOff p + 4)) 28 4 || 4 < l || dur < 10 then d.deny p k l
  else
    let found := d.findClient p m.sender
    let cur := found.bind fun x => x.2.get k
    if cur.map (·.logInt) = some l then
      match found with
      | some (i, e) => d.grantTo p i e k l dur false
      | none => d.deny p k l
    else if d.apActive then d.deny p k l
    else if (d.port p).settling && (d.port p).grantSecond = d.clk.tbUs / 1000000 &&
        d.rdF (psrvOff p + 0x10) 0 21 ≤ (d.port p).grantsInSecond then (none, d.bump (psrvOff p + 0x54) 16 16)
    else
      let spot : Option (Nat × Entry) := match found with
        | some x => some x
        | none =>
          if d.rdF (psrvOff p + 8) 0 21 ≤ d.portClients p || 1048576 ≤ d.clientCount then none
          else (d.freeClient p m.sender).map fun i => (i, d.newEntry p f m ((Tab.get (fun _ => 0) d.pilot.gens i + 1) % 65536))
      match spot with
      | none => d.deny p k l
      | some (i, e) =>
        let add := rate16 l * grantCost k e.twoStep
        if 16 * d.cap * d.rdF 0x210010 0 7 < 100 * (d.load16 + add - grantLoad k e.twoStep cur) then d.deny p k l
        else
          (d.modPilot fun x => { x with gens := Tab.put (fun _ => 0) x.gens i e.gen }).grantTo p i e k l dur true

/-- One TLV of a Signaling message to the server. -/
def Dev.tlv (p : Fin 8) (f : Frame) (m : PtpMsg) (d : Dev) : UcTlv → Answer
  | .request k l dur => d.request p f m k l dur
  | .cancel k =>
    let d := match d.findClient p m.sender with
      | some (i, e) => (d.entryPut i (e.put k none)).loadRefresh
      | none => d
    (some (.ackCancel k), d)
  | .grant .. | .ackCancel _ | .other => (none, d)

/-- The server's one Signaling message in answer to one received. -/
def Dev.negotiate (p : Fin 8) (f : Frame) (m : PtpMsg) (tlvs : List UcTlv) (d : Dev) : Dev :=
  let r := tlvs.foldl (fun (acc : List UcTlv × Dev) t =>
    let a := acc.2.tlv p f m t
    (match a.1 with
      | some x => acc.1 ++ [x]
      | none => acc.1, a.2)) ([], d)
  if r.1.isEmpty || (r.2.port p).st ≠ .up then r.2 else r.2.send p (.signaling m.domain r.1 (m.transport = .ipv6) (srcNode f))

/-- GRANT_EXPIRY. -/
def grantEnd (i : Nat) (k : GrantKind) (d : Dev) : Dev :=
  match d.entryAt i with
  | some e =>
    if (e.get k).isSome then ((d.bump (psrvOff e.port + 0x54) 0 16).entryPut i (e.put k none)).loadRefresh else d
  | none => d

/-- A client's grants end; with `tell`, a CANCEL for each of them is sent. Answers how many. -/
def Dev.cancelEntry (tell : Bool) (i : Nat) (e : Entry) (d : Dev) : Nat × Dev :=
  let d := if tell && (d.port e.port).st = .up then
      d.send e.port (.signaling e.domain (e.grants.map .cancel) (e.transport = .ipv6) (.node e.mac e.ip e.tags)) else d
  (e.grants.length, (d.entryPut i { e with sync := none, ann := none, dresp := none }).loadRefresh)

/-! ### The calendar (R279, R276) -/

/-- A grant is due in round r for entry i. -/
def dueIn (r i : Nat) (g : Option Grant) : Bool :=
  match g with
  | some g => decide ((((r : Int) - i) % (2 ^ (g.logInt + 4).toNat : Nat)) = 0)
  | none => false

/-- The unicast Sync and Announce due in the present round, as (index, kind, LU). -/
def Dev.dueRound (d : Dev) : List (Nat × GrantKind × Nat) :=
  d.pilot.entries.flatMap fun x =>
    (if dueIn d.pilot.round x.1 x.2.sync then [(x.1, .sync, grantCost .sync x.2.twoStep)] else []) ++
    (if dueIn d.pilot.round x.1 x.2.ann then [(x.1, .announce, 3)] else [])

/-- Messages taken from the list until the excess, in sixteenths of LU, is covered. -/
def takeOver : Int → List (Nat × GrantKind × Nat) → List (Nat × GrantKind × Nat)
  | _, [] => []
  | ex, x :: l => if ex ≤ 0 then [] else x :: takeOver (ex - 16 * x.2.2) l

/-- The messages that the present round skips, from the highest index down, the start turned by `skipFrom`. -/
def Dev.skipped (d : Dev) : List (Nat × GrantKind × Nat) :=
  if d.overload then
    let due := d.dueRound
    let other := (d.pilot.entries.map fun e => grantLoad .delayResp e.2.twoStep e.2.dresp).sum + ((List.finRange 8).map d.mcLoad).sum
    -- of one round of 62.5 ms, in 1/16 LU: CAP, and what the round holds
    let excess : Int := ((16 * (due.map (·.2.2)).sum + other / 16 : Nat) : Int) - d.cap
    let order := due.reverse
    let n := if order.isEmpty then 0 else d.pilot.skipFrom % order.length
    takeOver excess (order.drop n ++ order.take n)
  else []

/-- One due message of entry i; the PCS sees the start of a Sync at `t.1`, bit `t.2`. -/
def Dev.calendarSend (i : Nat) (k : GrantKind) (t : Int × Nat) (d : Dev) : Dev :=
  match d.entryAt i with
  | none => d
  | some e =>
    if !d.serving e.port then d
    else
      let dst : Dest := .node e.mac e.ip e.tags
      match k with
      | .sync =>
        (d.sendSync e.port e.domain e.syncSeq e.twoStep (e.transport = .ipv6) dst t.1 t.2).modPilot fun x =>
          { x with entries := Tab.ins i { e with syncSeq := (e.syncSeq + 1) % 65536, dirty := true } x.entries }
      | _ =>
        (d.send e.port (.announce e.domain e.annSeq (d.announceNow e.port) (e.transport = .ipv6) dst)).modPilot fun x =>
          { x with entries := Tab.ins i { e with annSeq := (e.annSeq + 1) % 65536, dirty := true } x.entries }

/-- When the PCS sees the start of the next Sync of the calendar, and at which bit position: at or after the one before it and within
the slot of 10^9 gr that begins now; more the spec does not say (R279, log entry 170). -/
def Dev.slotStart (at_ : Int) (d : Dev) : (Int × Nat) × Dev :=
  let a := d.draw
  let b := a.2.draw
  ((at_ + a.1 % (d.tbGr + 1000000000 - at_), b.1.toNat), b.2)

/-- Due messages sent in their order. -/
def Dev.calendarSendAll (l : List (Nat × GrantKind)) (d : Dev) : Dev :=
  (l.foldl (fun (acc : Int × Dev) x =>
    match x.2 with
    | .sync =>
      let t := acc.2.slotStart acc.1
      (t.1.1, t.2.calendarSend x.1 .sync t.1)
    | k => (acc.1, acc.2.calendarSend x.1 k (acc.1, 0))) (d.tbGr, d)).2

/-- A due message is not sent: SKIPPED (R276, R280). -/
def Dev.calendarSkip (i : Nat) (d : Dev) : Dev :=
  onlyIf (match d.entryAt i with
    | some e => d.serving e.port
    | none => false) (Dev.bump 0x210014 16 16) d

/-- The calendar slot of an entry. -/
def Dev.slotOf (d : Dev) (i : Nat) : Nat := i * 4096 / d.tableSize

/-- The slot whose entries are fetched as slot s begins: s + LEAD (R279). -/
def Dev.fetchSlot (d : Dev) : Nat := (d.pilot.slot + min 256 (16777216 / d.tableSize)) % 4096

/-- The entries of slot s + LEAD are fetched, as far as the 8,192 places of the cache go; entries that hold no client need none. -/
def Dev.calendarFetch (d : Dev) : Dev :=
  d.pilot.entries.foldl (fun d e =>
    if d.slotOf e.1 = d.fetchSlot && !d.pilot.cache.contains e.1 && !d.pilot.fetching.contains e.1 &&
        d.pilot.cache.length + d.pilot.fetching.length < 8192 then
      d.modPilot fun x => { x with fetching := e.1 :: x.fetching, missing := x.missing.filter (· ≠ e.1) }
    else d) d

/-- The write-back of the present slot: what has changed is written, the rest leaves the cache (R279). -/
def Dev.calendarRetire (d : Dev) : Dev :=
  d.pilot.entries.foldl (fun d e =>
    if d.slotOf e.1 = d.pilot.slot then
      (if e.2.dirty then d.modPilot fun x => { x with writing := listed e.1 x.writing } else d.uncache e.1)
    else d) d

/-- CALENDAR_SLOT: the messages whose entries are one slot late are skipped, the entries of slot s + LEAD fetched and the messages of
slot s sent; those whose entry has not arrived wait one slot (R279, R280). Then the next slot. -/
def calendarSlot (d : Dev) : Dev :=
  if d.pilot.attached.isNone || !d.pilotsOn then d
  else
    let old := d
    let d := d.pilot.late.foldl (fun d x => d.calendarSkip x.1) (d.modPilot fun x => { x with late := [] })
    let d := d.calendarFetch
    let mine := d.dueRound.filter fun x => d.slotOf x.1 = d.pilot.slot
    let skip := d.skipped
    let no := fun x : Nat × GrantKind × Nat => skip.any (fun y => y.1 = x.1 && y.2.1 = x.2.1) ||
      (d.pilot.missing.contains x.1 && !d.pilot.cache.contains x.1)
    let go := (mine.filter fun x => !no x).map fun x => (x.1, x.2.1)
    let here := go.filter fun x => d.pilot.cache.contains x.1
    let wait := go.filter fun x => !d.pilot.cache.contains x.1
    let d := (mine.filter no).foldl (fun d x => d.calendarSkip x.1) d
    let d := Dev.txOrder old ((d.calendarSendAll here).modPilot fun x => { x with late := wait })
    let d := d.calendarRetire
    if d.pilot.slot = 4095 then
      d.modPilot fun x => { x with slot := 0, round := x.round + 1, skipFrom := x.skipFrom + skip.length }
    else d.modPilot fun x => { x with slot := x.slot + 1 }

/-- CLIENT_TABLE_DMA: a read or a write-back of an entry ends (R280). An entry that arrives within the slot after its own sends the
messages that waited for it, and is then written back. -/
def tableDma (write : Bool) (i : Nat) (ok : Bool) (d : Dev) : Dev :=
  if d.pilot.attached.isNone then d
  else
    let d := if ok then d else d.tableErr
    if write then
      (if !d.pilot.writing.contains i then d
       else if ok then d.writeBack i else d.modPilot fun x => { x with writing := x.writing.filter (· ≠ i) })
    else
      let d := d.fetched i ok
      let wait := d.pilot.late.filter (·.1 = i)
      if !ok || wait.isEmpty then d
      else Dev.txOrder d ((d.calendarSendAll wait).modPilot fun x =>
        { x with late := x.late.filter (·.1 ≠ i), writing := listed i x.writing })

/-! ### Client instances (Table 10-2, R264) -/

def Dev.pr (d : Dev) (k : Nat) : Word := d.rd (prOff k)
def Dev.prUnicast (d : Dev) (k : Nat) : Bool := bit (d.pr k) 22
def Dev.prP2P (d : Dev) (k : Nat) : Bool := bit (d.pr k) 21
def Dev.prDomain (d : Dev) (k : Nat) : Nat := fld (d.pr k) 13 8
def Dev.prV6 (d : Dev) (k : Nat) : Bool := isV6 (fld (d.pr k) 23 2)
/-- The portIdentity of client k: the clockIdentity of its port with its own portNumber (log entry 162). -/
def Dev.clientIdent (d : Dev) (k : Fin 16) : BitVec 80 :=
  BitVec.ofNat 80 (d.clockId (d.clientPort k) * 65536 + (Config.clientPortNumber k).toNat)

/-- A Signaling message of client k, where its port can send. -/
def Dev.clientSend (k : Fin 16) (tlvs : List UcTlv) (dst : Dest) (d : Dev) : Dev :=
  let p := d.clientPort k
  if tlvs.isEmpty || (d.port p).st ≠ .up then d else d.send p (.signaling (d.prDomain k) tlvs (d.prV6 k) dst)

/-- The log interval that client k asks for. Announce uses the default of its profile (Table 10-1). -/
def Dev.prLog (d : Dev) (k : Nat) : GrantKind → Int
  | .sync => sfld (d.pr k) 9 4
  | .delayResp => sfld (d.pr k) 5 4
  | .announce => ([1, 1, -2, 1, -3] : List Int).getD (fld (d.pr k) 25 3) 0

/-- The candidates of client k. -/
def Client.targets (x : Client) : List (BitVec 128) := x.cands.filter (· ≠ 0)
/-- The address of its parent. -/
def Client.parentAddr (x : Client) : BitVec 128 :=
  match x.parent with
  | some i => x.cands.getD i.val 0
  | none => 0

/-- A grant moved into one of a client's lists: listed once. -/
def grantIn (g : GrantKind × BitVec 128) (l : List (GrantKind × BitVec 128)) : List (GrantKind × BitVec 128) := g :: l.filter (· ≠ g)

/-- Requests of 300 s for the grants given, each to its server (R264). -/
def Dev.clientAsk (k : Fin 16) (grants : List (GrantKind × BitVec 128)) (d : Dev) : Dev :=
  grants.foldl (fun d g => (d.clientSend k [.request g.1 (d.prLog k g.1) 300] (.addr g.2)).modClient k fun x =>
    { x with asked := grantIn g x.asked, denied := x.denied.filter (· ≠ g) }) d

/-- The filter starts: no samples, no baseline, and ASYM_RR is 0. -/
def Dev.clientTrack (k : Fin 16) (d : Dev) : Dev :=
  ((d.modClient k fun x => { x.stop with asymRr := 0 }).clientTo k .tracking 5).pub40 (prOff k + 0x38) 0

/-- The grants that REQUESTING waits for. -/
def Dev.clientNeeds (d : Dev) (k : Fin 16) : List GrantKind := if d.prP2P k then [.sync] else [.sync, .delayResp]

/-- REQUESTING ends when every requested grant is held. -/
def Dev.clientGranted (k : Fin 16) (d : Dev) : Dev :=
  let x := d.client k
  if x.st = .requesting && d.prUnicast k && (d.clientNeeds k).all (fun g => x.held.contains (g, x.parentAddr)) then d.clientTrack k
  else d

/-- A client asks its parent for grants in REQUESTING. -/
def Dev.clientRequest (k : Fin 16) (row : Nat) (d : Dev) : Dev :=
  let a := (d.client k).parentAddr
  let d := (d.modClient k fun x => { x.stop with held := x.held.filter fun g => g.1 = .announce || g.2 ≠ a }).clientTo k .requesting row
  if d.prUnicast k then d.clientAsk k ((d.clientNeeds k).map fun g => (g, a)) else d

/-- Row 6: a grant denied or ended, or no Announce. -/
def Dev.clientLost (k : Fin 16) (announce : Bool) (d : Dev) : Dev :=
  if (d.client k).st = .requesting || (d.client k).st = .tracking then
    let d := if announce then d.bump (prOff k + 0x54) 16 16 else d
    (d.modClient k Client.stop).clientTo k .listening 6
  else d

/-- A GRANT TLV, kind and server, from a server that was asked. -/
def Dev.clientGrant (k : Fin 16) (g : GrantKind × BitVec 128) (dur : Nat) (d : Dev) : Dev :=
  if !(d.client k).asked.contains g then d
  else
    let d := d.modClient k fun x => { x with asked := x.asked.filter (· ≠ g) }
    if dur = 0 then (d.modClient k fun x => { x with denied := grantIn g x.denied, held := x.held.filter (· ≠ g) }).clientLost k false
    else (d.modClient k fun x => { x with held := grantIn g x.held }).clientGranted k

/-- CLIENT_GRANT_RENEW, _RETRY and _EXPIRY, of a kind and a server. -/
def clientRenew (k : Fin 16) (g : GrantKind × BitVec 128) (d : Dev) : Dev :=
  if (d.client k).st ≠ .disabled && (d.client k).held.contains g then d.clientAsk k [g] else d
def clientRetry (k : Fin 16) (g : GrantKind × BitVec 128) (d : Dev) : Dev :=
  if (d.client k).st ≠ .disabled && (d.client k).denied.contains g then d.clientAsk k [g] else d
def clientExpiry (k : Fin 16) (g : GrantKind × BitVec 128) (d : Dev) : Dev :=
  if (d.client k).held.contains g then (d.modClient k fun x => { x with held := x.held.filter (· ≠ g) }).clientLost k false else d

/-- ANNOUNCE_TIMEOUT. -/
def announceLate (k : Fin 16) (d : Dev) : Dev := d.clientLost k true

/-- The content of an Announce: all of it but its sequenceId and its originTimestamp. -/
def announceContent (bs : List Byte) : List Byte := bs.take 30 ++ (bs.drop 32).take 2 ++ bs.drop 44

/-- The Announce of a candidate: posted when its content changes (R264). -/
def Dev.clientAnnounce (k : Fin 16) (sender : BitVec 80) (addr : BitVec 128) (parent : Bool) (a : AnnounceMsg) (d : Dev) : Dev :=
  let x := d.client k
  let old := x.seen.find? fun e => e.sender = sender
  let same := (old.map fun e => announceContent e.bytes) = some (announceContent a.bytes)
  let sec := match old with
    | some e => if same then e.sec else d.clk.tbUs / 1000000
    | none => d.clk.tbUs / 1000000
  let d := d.modClient k fun x => { x with seen := ⟨sender, addr, a.clockClass, a.bytes, sec⟩ :: x.seen.filter (·.sender ≠ sender),
                                           gmClass := if parent then a.clockClass else x.gmClass }
  if same then d else d.keeperAnnounce k (d.clientPort k) a.bytes

/-- GM_CLASS follows the parent that Novnis has named, once an Announce of it has come (R264). -/
def Dev.clientClass (k : Fin 16) (d : Dev) : Dev :=
  let x := d.client k
  match x.seen.find? fun e => x.parent.isSome && (if d.prUnicast k then e.addr = x.parentAddr else e.sender = x.parentId) with
  | some e => d.modClient k fun x => { x with gmClass := e.clockClass }
  | none => d

/-- ANNOUNCE_POST: the latest Announce of each candidate, again. -/
def announcePost (k : Fin 16) (d : Dev) : Dev :=
  if (d.client k).st = .disabled then d
  else
    (d.client k).seen.foldl (fun d e => d.keeperAnnounce k (d.clientPort k) e.bytes)
      (d.modClient k fun x => { x with seen := x.seen.map fun e => { e with sec := d.clk.tbUs / 1000000 } })

/-! ### Exchanges (R265) -/

/-- ASYM in grains. -/
def Dev.asymGr (d : Dev) (k : Nat) : Int := sfld (d.rd (prOff k + 8)) 0 32 * 65536

/-- A complete exchange joins the present sub-interval. -/
def Dev.exchange (k : Fin 16) (f r t2 tb : Int) (d : Dev) : Dev :=
  let x := d.client k
  let e : Exchange := ⟨f, r, truncDiv (f - r) 2 - d.asymGr k - x.asymRr, x.asymRr, t2, tb⟩
  d.modClient k fun x => { x with subs := match x.subs with
    | l :: ls => (e :: l) :: ls
    | [] => [[e]] }

/-- The forward value of a Sync is known; with P2P it makes an exchange once a link delay is. -/
def Dev.forward (k : Fin 16) (f t2 tb : Int) (d : Dev) : Dev :=
  let d := d.modClient k fun x => { x with lastF := some (f, t2, tb), sync := none }
  match (d.client k).linkDelay with
  | some l => if d.prP2P k then d.exchange k f (f - 2 * l) t2 tb else d
  | none => d

/-- A Sync from the parent; in multicast the first one starts TRACKING. -/
def Dev.clientSync (k : Fin 16) (seq : BitVec 16) (origin : Triple) (corr : Int) (two : Bool) (t2 tb : Int) (d : Dev) : Dev :=
  let d := if (d.client k).st = .requesting && !d.prUnicast k then d.clientTrack k else d
  if (d.client k).st ≠ .tracking then d
  else if two then d.modClient k fun x => { x with sync := some (seq, t2, tb, corr) }
  else d.forward k (t2 - tripleGr origin - corr) t2 tb

/-- A Follow_Up of the Sync that waits. -/
def Dev.clientFollow (k : Fin 16) (seq : BitVec 16) (origin : Triple) (corr : Int) (d : Dev) : Dev :=
  match (d.client k).sync with
  | some (s, t2, tb, c) => if s = seq then d.forward k (t2 - tripleGr origin - c - corr) t2 tb else d
  | none => d

/-- A Delay_Resp to the Delay_Req in flight. -/
def Dev.clientResp (k : Fin 16) (seq : BitVec 16) (t4 : Triple) (corr : Int) (d : Dev) : Dev :=
  match (d.client k).dreq, (d.client k).lastF with
  | some (s, t3), some (f, t2, tb) =>
    if s = seq then (d.modClient k fun x => { x with dreq := none }).exchange k f (tripleGr t4 - t3 - corr) t2 tb else d
  | _, _ => d

/-- A Pdelay_Resp to the Pdelay_Req in flight: one-step, its correctionField holds the turnaround (log entry 166). -/
def Dev.clientPdelay (k : Fin 16) (seq : BitVec 16) (t2 : Triple) (corr : Int) (two : Bool) (t4 : Int) (d : Dev) : Dev :=
  match (d.client k).preq with
  | some (s, t1) =>
    if s = seq then
      (if two then d.modClient k fun x => { x with preq := none, presp := some (seq, t4 - t1, tripleGr t2, corr) }
       else d.modClient k fun x => { x with preq := none, linkDelay := some (truncDiv (t4 - t1 - corr) 2) })
    else d
  | none => d

/-- The Pdelay_Resp_Follow_Up of the Pdelay_Resp that waits (log entry 166). -/
def Dev.clientPdelayFollow (k : Fin 16) (seq : BitVec 16) (t3 : Triple) (corr : Int) (d : Dev) : Dev :=
  match (d.client k).presp with
  | some (s, outer, t2, c) =>
    if s = seq then
      d.modClient k fun x => { x with presp := none, linkDelay := some (truncDiv (outer - (tripleGr t3 - t2) - c - corr) 2) }
    else d
  | none => d

/-- DELAY_REQ_TX: a Delay_Req, with P2P a Pdelay_Req, leaves the pins (R243, R261). -/
def delayReq (k : Fin 16) (tPcs : Int) (pos : Nat) (d : Dev) : Dev :=
  let p := d.clientPort k
  let x := d.client k
  let t := d.portTime p (d.txPin p tPcs pos)
  if !((d.port p).st = .up && d.pilotsOn) then d
  else if d.prP2P k then
    (if x.st ≠ .disabled then
      (d.send p (.pdelayReq (d.prDomain k) x.dreqSeq.toNat (d.prV6 k) (.multicast none []))).modClient k fun x =>
        { x with preq := some (x.dreqSeq, t), dreqSeq := x.dreqSeq + 1 }
     else d)
  else if x.st = .tracking then
    (d.send p (.delayReq (d.prDomain k) x.dreqSeq.toNat (d.prV6 k)
      (if d.prUnicast k then .addr x.parentAddr else .multicast none []))).modClient k fun x =>
        { x with dreq := some (x.dreqSeq, t), dreqSeq := x.dreqSeq + 1 }
  else d

/-! ### Estimates (R266, R267) -/

/-- The samples of smallest key, SEL_PCT percent of them and at least one. -/
def keepLow (pct : Nat) (key : Exchange → Int) (l : List Exchange) : List Exchange :=
  (l.mergeSort fun a b => key a ≤ key b).take (max 1 (l.length * pct / 100))

/-- The mean of some values, rounded to the nearest. -/
def meanOf (l : List Int) : Int := if l.isEmpty then 0 else roundDiv l.sum l.length

/-- The least-squares slope of `val` against t2 as numerator and denominator; none where it does not exist. -/
def slopeOf (val : Exchange → Int) (l : List Exchange) : Option (Int × Int) :=
  let n : Int := l.length
  let t0 := match l with
    | e :: _ => e.t2
    | [] => 0
  let st := (l.map fun e => e.t2 - t0).sum
  let sv := (l.map val).sum
  let den := n * (l.map fun e => (e.t2 - t0) * (e.t2 - t0)).sum - st * st
  if den = 0 then none else some (n * (l.map fun e => (e.t2 - t0) * val e).sum - st * sv, den)

/-- Phase and kept samples under LUCKY or MIN_SPLIT. ASYM_RR is the mean of what the kept samples hold, which differs from the
present one only across a re-route (R269, log entry 167). -/
def Dev.filterPhase (d : Dev) (k : Fin 16) (l : List Exchange) : Int × List Exchange :=
  let w := d.rd (prOff k + 4)
  let pct := fld w 20 7
  if bit w 31 then
    let s := (slopeOf (·.o) l).getD (0, 1)
    let tm := meanOf (l.map (·.t2))
    let tilt := fun e : Exchange => roundDiv (s.1 * (e.t2 - tm)) s.2
    let fwd := keepLow pct (fun e => e.f - tilt e) l
    let rev := keepLow pct (fun e => e.r + tilt e) l
    (truncDiv (meanOf (fwd.map fun e => e.f - tilt e) - meanOf (rev.map fun e => e.r + tilt e)) 2 - d.asymGr k -
        truncDiv (meanOf (fwd.map (·.rr)) + meanOf (rev.map (·.rr))) 2,
      fwd ++ rev.filter fun e => !fwd.contains e)
  else
    let kept := keepLow pct (fun e => e.f + e.r) l
    (meanOf (kept.map (·.o)), kept)

/-- y_ts over the window that ends at mark `j` and spans `n` sub-intervals. -/
def Dev.windowFfo (d : Dev) (k : Fin 16) (j n : Nat) : Int :=
  let ms := (d.client k).marks
  let c := d.chan (d.tsChan (d.portTs (d.clientPort k)))
  match ms[j]?, (ms.drop (j + n)).head?.or ms.getLast? with
  | some a, some b => if a.2 ≤ b.2 then c.loop.y else roundDiv (a.1 - b.1) ((a.2 : Int) - b.2)
  | _, _ => c.loop.y

/-- The estimate of the window that ended `j` sub-intervals ago; none where it holds fewer than 4 exchanges (R266). -/
def Dev.windowEst (k : Fin 16) (j : Nat) (d : Dev) : Option PendEst × Dev :=
  let n := 2 ^ d.rdF (prOff k + 4) 27 4
  let l := (((d.client k).subs.drop j).take n).flatten
  if l.length < 4 then (none, d)
  else
    let r := d.filterPhase k l
    let e := match slopeOf (·.o) r.2 with
      | some s => (d.windowFfo k j n - roundDiv (s.1 * 281474976710656) s.2, d)
      | none => d.draw
    (some ⟨r.1, e.1, meanOf (r.2.map (·.tb)), truncDiv (meanOf (r.2.map fun e => e.f + e.r)) 2⟩, e.2)

/-- The estimates of the windows that ended `j` sub-intervals ago and less, newest first, formed again. -/
def Dev.windowEsts (k : Fin 16) : (j : Nat) → Dev → List (Option PendEst) × Dev
  | 0, d => ([], d)
  | j + 1, d =>
    let e := d.windowEst k j
    let l := e.2.windowEsts k j
    (l.1 ++ [e.1], l.2)

/-- The estimate due at the end of a sub-interval: that of the window which ended three sub-intervals ago (R267). -/
def Dev.releaseEst (k : Fin 16) (reroute : Bool) (d : Dev) : Dev :=
  if (d.client k).st ≠ .tracking then d
  else match ((d.client k).ests[3]?).join with
    | none => d.modClient k fun x => { x with estValid := false }
    | some e =>
      let d := ((d.modClient k fun x => { x with estValid := true }).pub40 (prOff k + 0x40) (sat40 e.phase)).pub40 (prOff k + 0x30)
        (sat40 e.delay)
      d.packetEstimate ⟨44 + k.val, by omega⟩ (d.portTs (d.clientPort k)) e.phase e.ffo e.at_ reroute

/-! ### The re-route test (R268 to R270) -/

/-- The median; of an even count the mean of the middle two. -/
def median (l : List Int) : Int :=
  let s := l.mergeSort (fun a b => a ≤ b)
  let n := s.length
  if n % 2 = 1 then s.getD (n / 2) 0 else truncDiv (s.getD (n / 2 - 1) 0 + s.getD (n / 2) 0) 2

/-- What the test finds: a re-route with dR and dO, another step, or neither. -/
inductive RrResult where
  | none
  | other
  | reroute (dR dO : Int)
deriving DecidableEq, Repr

def Dev.rrTest (d : Dev) (k : Fin 16) : RrResult :=
  let w := d.rd (prOff k + 0xC)
  let rm := (d.client k).rm
  let new := rm.take 3
  let old := (rm.drop 3).take 8
  if !bit w 31 || old.length < 8 then .none
  else
    let br := median (old.map (·.1))
    let bo := median (old.map (·.2))
    let lim : Int := fld w 0 11 * 500 * 65536
    if new.all (fun p => lim ≤ p.1 - br) || new.all (fun p => lim ≤ br - p.1) then
      let dR := median (new.map (·.1)) - br
      let dO := median (new.map (·.2)) - bo
      if 100 * (2 * dO.natAbs - dR.natAbs : Int).natAbs ≤ fld w 11 7 * dR.natAbs then .reroute dR dO else .other
    else .none

/-- The samples of the newest three sub-intervals that hold exchanges, moved by −dO. -/
def correctSubs (dO : Int) : Nat → List (List Exchange) → List (List Exchange)
  | 0, l => l
  | _, [] => []
  | n + 1, [] :: ls => [] :: correctSubs dO (n + 1) ls
  | n + 1, (e :: es) :: ls => (e :: es).map (fun x => { x with o := x.o - dO, rr := x.rr + dO }) :: correctSubs dO n ls

/-- REROUTE_DETECTED: with RR_COMP the windows that hold samples of the step are formed again from the corrected samples. The
baseline starts again from the three sub-intervals of the step. -/
def Dev.reroute (k : Fin 16) (dR dO : Int) (d : Dev) : Dev :=
  let comp := bit (d.rd (prOff k + 0xC)) 30
  let c := if comp then dO else 0
  let d := d.modClient k fun x =>
    { x with asymRr := x.asymRr + c, subs := if comp then correctSubs dO 3 x.subs else x.subs,
             rm := (x.rm.take 3).map (fun p => (p.1, p.2 - c)), hold := true,
             holdAt := d.clk.tbUs + d.rdF (prOff k + 0xC) 18 12 * 1000000 }
  let d := if comp then
      let l := d.windowEsts k 3
      l.2.modClient k fun x => { x with ests := l.1 ++ x.ests.drop 3 }
    else d
  ((d.pub40 (prOff k + 0x38) (sat40 (d.client k).asymRr)).bump (prOff k + 0x50) 16 16).event 0x08 k 12 (sBytes 5 dR ++ sBytes 5 dO)

/-- SUBINTERVAL_END. -/
def subintervalEnd (k : Fin 16) (d : Dev) : Dev :=
  if (d.client k).st ≠ .tracking || !d.pilotsOn then d
  else
    let c := d.chan (d.tsChan (d.portTs (d.clientPort k)))
    let cur := ((d.client k).subs.head?).getD []
    let best := keepLow 0 (fun e => e.f + e.r) cur
    let d := d.modClient k fun x =>
      { x with subs := if x.subs.isEmpty then [[]] else x.subs, marks := ((c.ffoSum, c.ffoN) :: x.marks).take 520,
               rm := ((best.map fun e => (e.f + e.r, e.o)) ++ x.rm).take 11 }
    let est := d.windowEst k 0
    let d := est.2.modClient k fun x => { x with ests := (est.1 :: x.ests).take 4 }
    let res := if best.isEmpty then .none else d.rrTest k
    let d := match res with
      | .none => d
      | .other => d.bump (prOff k + 0x50) 0 16
      | .reroute dR dO => d.reroute k dR dO
    let d := d.releaseEst k (d.client k).hold
    -- the next sub-interval begins
    d.modClient k fun x => { x with subs := ([] :: x.subs).take 520 }

/-- REROUTE_HOLD_EXPIRY. -/
def rerouteEnd (k : Fin 16) (d : Dev) : Dev := d.modClient k fun x => { x with hold := false }

/-! ### Received frames (Table 9-3, R263) -/

/-- A frame for the host (R251, Table 12-13). -/
def Dev.exception (p : Fin 8) (f : Frame) (d : Dev) : Dev :=
  let r := excRing p
  let t := grTriple (d.portTime p (d.rxPin p f.tPcs f.kBits))
  let d := if d.ringOpen r then d else (d.bump (portOff p + 0xA8) 0 16).occur 144 p
  d.ringEntry r fun seq =>
    leBytes 2 f.len ++ [b8 (p.val + bitAt 3 ((d.port p).st = .cal) + bitAt 4 (d.portUnset p) + (d.portTs p).val * 32), 0] ++
      wordBytes seq ++ tripleBytes t ++ List.replicate 12 0 ++ f.bytes.take f.len

/-- A multicast message is addressed to a group of the profile: in profile 4 one of those of R261. -/
def groupOk (profile : Nat) (f : Frame) : Bool :=
  profile ≠ 4 || !f.dst.getLsbD 40 || f.dst = 0x011B19000000 || f.dst = 0x0180C200000E

/-- The server of port p takes messages of this domain and transport. -/
def Dev.serverTakes (d : Dev) (p : Fin 8) (f : Frame) (m : PtpMsg) : Bool :=
  groupOk (fld (d.psrv p) 26 3) f && bit (d.psrv p) 31 && d.psrvDomain p = m.domain && fld (d.psrv p) 24 2 = (match m.transport with
    | .l2 => 0 | .ipv4 => 1 | .ipv6 => 2)

/-- The client instances of port p that take messages of this domain and transport. -/
def Dev.clientsOf (d : Dev) (p : Fin 8) (m : PtpMsg) : List (Fin 16) :=
  (List.finRange 16).filter fun k => (d.client k).st ≠ .disabled && d.clientPort k = p && d.prDomain k = m.domain &&
    fld (d.pr k) 23 2 = (match m.transport with
      | .l2 => 0 | .ipv4 => 1 | .ipv6 => 2)

/-- The frame comes from client k's parent: by address in unicast, by portIdentity in multicast. -/
def Dev.fromParent (d : Dev) (k : Fin 16) (f : Frame) (m : PtpMsg) : Bool :=
  let x := d.client k
  x.parent.isSome && (if d.prUnicast k then srcAddr f = x.parentAddr else m.sender = x.parentId)

/-- Served domains, whatever the transport (R263). -/
def Dev.domainServed (d : Dev) (p : Fin 8) (m : PtpMsg) : Bool :=
  (bit (d.psrv p) 31 && d.psrvDomain p = m.domain) ||
    (List.finRange 16).any fun k => (d.client k).st ≠ .disabled && d.clientPort k = p && d.prDomain k = m.domain

/-- An event message. -/
def ptpIsEvent : PtpBody → Bool
  | .sync .. | .delayReq | .pdelayReq | .pdelayResp .. => true
  | _ => false

/-- A malformation of R263. -/
def Dev.ptpBad (d : Dev) (p : Fin 8) (m : PtpMsg) : Bool :=
  !m.versionOk || !m.lengthOk || !m.typeOk || !d.domainServed p m || !m.timestampsOk || !m.unicastFlagOk || !m.tlvsOk ||
    (ptpIsEvent m.body && (d.port p).st = .cal)

/-- FOREIGN_ANNOUNCE (R262): counted, and posted at most once per second for each sender. -/
def Dev.foreignAnnounce (p : Fin 8) (m : PtpMsg) (a : AnnounceMsg) (d : Dev) : Dev :=
  if m.sender.toNat / 65536 = d.clockId p then d
  else
    let d := d.bump (psrvOff p + 0x5C) 16 16
    let recent := (d.port p).foreign.filter fun e => d.clk.tbUs < e.2 + 1000000
    if recent.any fun e => e.1 = m.sender then d
    else (d.modPort p fun x => { x with foreign := (m.sender, d.clk.tbUs) :: recent }).keeperAnnounce (16 + p) p a.bytes

/-- A message for the client instances of a port. -/
def Dev.toClients (l : List (Fin 16)) (f : Frame) (m : PtpMsg) (g : Fin 16 → Dev → Dev) (d : Dev) : Dev :=
  l.foldl (fun d k => if d.fromParent k f m then g k d else d) d

/-- A PTP message that has passed R263. -/
def Dev.ptpServe (p : Fin 8) (f : Frame) (m : PtpMsg) (d : Dev) : Dev :=
  let srv := d.serverTakes p f m
  let cl := d.clientsOf p m
  let tb := d.rxPin p f.tPcs f.kBits
  let t := d.portTime p tb
  let dst : Dest := if f.dst.getLsbD 40 then (match d.mcDest p with
    | .multicast g _ => .multicast g f.tags
    | x => x) else srcNode f
  let v6 := decide (m.transport = .ipv6)
  match m.body with
  | .management | .other => d.exception p f
  | .delayReq =>
    if !srv then d.exception p f
    else if d.serving p then d.send p (.delayResp m.domain m.seqId.toNat (grTriple t) m.sender v6 dst) else d
  | .pdelayReq =>
    if !srv || !bit (d.psrv p) 22 then d.exception p f
    else if d.serving p then
      let out := d.txStamp p f.answer.1 f.answer.2
      if d.psrvTwoStep p then
        (d.send p (.pdelayResp m.domain m.seqId.toNat (grTriple t) none m.sender v6 dst)).send p
          (.pdelayRespFollowUp m.domain m.seqId.toNat out m.sender v6 dst)
      else d.send p (.pdelayResp m.domain m.seqId.toNat (grTriple t) (some (tripleGr out - t)) m.sender v6 dst)
    else d
  | .announce a =>
    if !srv && cl.isEmpty then d.exception p f
    else
      let d := if srv then d.foreignAnnounce p m a else d
      cl.foldl (fun d (k : Fin 16) =>
        if d.prUnicast k && !(d.client k).targets.contains (srcAddr f) then d
        else d.clientAnnounce k m.sender (srcAddr f) (d.fromParent k f m) a) d
  | .signaling tlvs =>
    if !srv && cl.isEmpty then d.exception p f
    else
      let d := if srv then d.negotiate p f m tlvs else d
      cl.foldl (fun d (k : Fin 16) =>
        if d.prUnicast k && (d.client k).targets.contains (srcAddr f) then
          tlvs.foldl (fun d x => match x with
            | .grant g _ dur => d.clientGrant k (g, srcAddr f) dur
            | .cancel g => (clientExpiry k (g, srcAddr f) d).clientSend k [.ackCancel g] (srcNode f)
            | _ => d) d
        else d) d
  | .sync o c two => if cl.isEmpty then d.exception p f else d.toClients cl f m fun k d => d.clientSync k m.seqId o c two t tb
  | .followUp o c => if cl.isEmpty then d.exception p f else d.toClients cl f m fun k d => d.clientFollow k m.seqId o c
  | .delayResp t4 c q =>
    if cl.isEmpty then d.exception p f
    else d.toClients cl f m fun k d => if q = d.clientIdent k then d.clientResp k m.seqId t4 c else d
  | .pdelayResp t2 c two q =>
    if cl.isEmpty then d.exception p f
    else cl.foldl (fun d (k : Fin 16) => if d.prP2P k && q = d.clientIdent k then d.clientPdelay k m.seqId t2 c two t else d) d
  | .pdelayRespFollowUp t3 c q =>
    if cl.isEmpty then d.exception p f
    else cl.foldl (fun d (k : Fin 16) => if d.prP2P k && q = d.clientIdent k then d.clientPdelayFollow k m.seqId t3 c else d) d

/-- The VLAN rule of R250. -/
def Dev.vlanOk (d : Dev) (p : Fin 8) (tags : List (BitVec 3 × BitVec 12)) : Bool :=
  let w := d.rd (portOff p + 0xC)
  match tags with
  | [] => bit w 31
  | [t] => bit w 30 && t.2.toNat = fld w 0 12
  | _ => false

/-- An enabled address of the port. -/
def Dev.hasIp4 (d : Dev) (p : Fin 8) (a : Word) : Bool :=
  (List.range 4).any fun k => bit (d.rd (portOff p + 0x60)) k && d.rd (portOff p + 0x10 + 4 * k) = a
def Dev.hasIp6 (d : Dev) (p : Fin 8) (a : BitVec 128) : Bool :=
  (List.range 4).any fun k => bit (d.rd (portOff p + 0x60)) (4 + k) &&
    ((List.range 4).all fun w => (d.rd (portOff p + 0x20 + 0x10 * k + 4 * w)).toNat = a.toNat / 2 ^ (96 - 32 * w) % 4294967296)

/-- Rows 5 to 9 of Table 9-3. -/
def Dev.classify (p : Fin 8) (f : Frame) (d : Dev) : Dev :=
  let up := (d.port p).st = .up
  match f.body with
  | .esmc x => if esmcHeader x f.dst then d.esmcTake p x else d.exception p f
  | .arp a => if d.hasIp4 p a then onlyIf up (Dev.send p (.arpReply a (srcNode f))) d else d.exception p f
  | .neighborSol a => if d.hasIp6 p a then onlyIf up (Dev.send p (.neighborAdv a (srcNode f))) d else d.exception p f
  | .ptp m =>
    if !d.pilotsOn then d.exception p f
    else if d.ptpBad p m then d.bump (psrvOff p + 0x58) 0 16
    else d.ptpServe p f m
  | .other => d.exception p f

/-- FRAME_RECEIVED: Table 9-3 in its order. -/
def frameRx (p : Fin 8) (f : Frame) (d : Dev) : Dev :=
  if !((d.port p).st = .cal || (d.port p).st = .up) then d
  else if !f.fcsOk || f.len < 64 then d.bump (portOff p + 0xA4) 16 16
  else if 2000 < f.len then d.bump (portOff p + 0xA4) 0 16
  else if !(f.dst.toNat = d.portMac p || f.dst.toNat = 2 ^ 48 - 1 || f.svcMulticast) || !d.vlanOk p f.tags then
    d.bump (portOff p + 0xA8) 16 16
  else
    let r := d.police p f
    let esmc := match f.body with
      | .esmc x => esmcHeader x f.dst
      | _ => false
    if r.1 || esmc then r.2.classify p f else (r.2.bump (psrvOff p + 0x58) 16 16).occur 148 p

/-- SETTLE_END. -/
def settleEnd (p : Fin 8) (d : Dev) : Dev := (d.bucketsSync p).modPort p fun x => { x with settling := false }

/-! ### Commands (Table 10-7) -/

/-- Table 10-1: transport, unicast, domain and log ranges that a profile allows. -/
def profTransport (pr t : Nat) : Bool :=
  match pr with
  | 0 | 1 => t ≤ 2
  | 2 | 5 => t = 1 || t = 2
  | 3 => t = 1
  | 4 => t = 0
  | _ => false
def profUnicast (pr : Nat) : Bool := pr = 0 || pr = 2 || pr = 5
def profDomain (pr v : Nat) : Bool := if pr = 4 then 24 ≤ v && v ≤ 43 else if pr = 5 then 44 ≤ v && v ≤ 63 else v ≤ 127
def profSync (pr : Nat) (l : Int) : Bool :=
  match pr with
  | 0 | 1 => -7 ≤ l && l ≤ 4
  | 2 => -7 ≤ l && l ≤ -1
  | 3 => -4 ≤ l && l ≤ 1
  | 4 => l = -4
  | _ => true
def profAnn (pr : Nat) (l : Int) : Bool :=
  match pr with
  | 0 | 1 => -3 ≤ l && l ≤ 4
  | 2 => -3 ≤ l && l ≤ 1
  | 3 => 0 ≤ l && l ≤ 4
  | 4 => l = -3
  | _ => true

/-- Failing bits of a PSRVn_CFG by Table 10-1. -/
def psrvBad (w : Word) : List Nat :=
  let pr := fld w 26 3
  (if profTransport pr (fld w 24 2) then [] else [24]) ++ (if bit w 30 && !profUnicast pr then [26] else []) ++
  (if bit w 29 && pr = 5 then [26] else []) ++ (if bit w 22 = decide (pr = 1) then [] else [22]) ++
  (if profDomain pr (fld w 14 8) then [] else [14]) ++ (if profSync pr (sfld w 10 4) then [] else [10]) ++
  (if profAnn pr (sfld w 6 4) then [] else [6])

/-- Failing bits of a PRk_CFG by Table 10-1. -/
def prBad (w : Word) : List Nat :=
  let pr := fld w 25 3
  (if profTransport pr (fld w 23 2) then [] else [23]) ++ (if bit w 22 && !profUnicast pr || !bit w 22 && pr = 5 then [22] else []) ++
  (if bit w 21 = decide (pr = 1) then [] else [21]) ++ (if profDomain pr (fld w 13 8) then [] else [13])

/-- Row 1 of Table 10-2: a CANCEL to each server for the grants held from it. -/
def Dev.clientDisable (k : Fin 16) (d : Dev) : Dev :=
  let x := d.client k
  if x.st = .disabled then d
  else
    let d := (x.held.map (·.2)).eraseDups.foldl (fun d a =>
      d.clientSend k ((x.held.filter (·.2 = a)).map fun g => .cancel g.1) (.addr a)) d
    (d.modClient k fun x => { x.stop with held := [], asked := [], denied := [], seen := [], linkDelay := none }).clientTo k .disabled 1

/-- Rows 1 and 3 of Table 10-2, on an accepted PRk_CFG. -/
def Dev.clientEnable (k : Fin 16) (d : Dev) : Dev :=
  if !bit (d.pr k) 31 then d.clientDisable k
  else if (d.client k).st = .disabled then
    let d := d.clientTo k .listening 3
    if d.prUnicast k then d.clientAsk k ((d.client k).targets.map fun a => (.announce, a)) else d
  else d

/-- Rows 4 and 7: Novnis names a parent. -/
def Dev.clientParent (k : Fin 16) (changed : Bool) (d : Dev) : Dev :=
  let x := d.client k
  if x.parent.isNone then d
  else match x.st with
    | .listening => d.clientRequest k 4
    | .tracking => if changed then d.clientRequest k 7 else d
    | .requesting => if changed then (d.clientRequest k 4) else d
    | .disabled => d

/-- The parameters that PTP_INSTANCE_CONFIG uses for an instance. -/
def instUsed (inst : Nat) : List Param :=
  (0, 0, 5) :: (if inst < 16 then wholes 1 4 ++ [(5, 0, 4)] ++ wholes 6 18 ++ [(24, 0, 16)]
    else if inst < 24 then wholes 1 8 else if inst = 24 then wholes 1 6 else [])

/-- The registers of a server's eight words. -/
def psrvWords (n : Nat) : List Nat := [0, 4, 8, 0xC, 0x10, 0x14, 0x20, 0x24].map (psrvOff n + ·)

/-- Bytes of the parameter block from word `w`. -/
def paramBytes (c : Cmd) (w n : Nat) : List Byte := ((List.range (n / 4 + 1)).flatMap fun i => wordBytes (wordAt c.words (w + i))).take n
/-- A number in wire order. -/
def beNat (bs : List Byte) : Nat := leNat bs.reverse

/-- PTP_INSTANCE_CONFIG for a client. -/
def clientConfig (k : Fin 16) (c : Cmd) (d : Dev) : CmdOut × Dev :=
  let o := prOff k
  let old := d.pr k
  let new := wordAt c.words 1
  let held := fld old 23 8 ≠ fld new 23 8 || fld old 13 8 ≠ fld new 13 8
  if (d.client k).st ≠ .disabled && held then (.refused 1, d)
  else
    -- the CANCELs of row 1 go to the candidates of before
    let d := if bit new 31 then d else d.clientDisable k
    let d := d.wrWords o ((List.range 4).map fun i => wordAt c.words (i + 1))
    let x := d.client k
    let parent := if pf c 5 0 4 = 15 then none else some (Fin.ofNat 4 (pf c 5 0 4))
    let cands := (List.range 4).map fun i => BitVec.ofNat 128 (beNat (paramBytes c (6 + 4 * i) 16))
    let pid := BitVec.ofNat 80 (beNat (paramBytes c 22 10))
    let changed := parent ≠ x.parent || pid ≠ x.parentId || (parent.map fun i => cands.getD i.val 0) ≠ (x.parent.map fun i => x.cands.getD i.val 0)
    let d := (d.modClient k fun x => { x with cands := cands, parent := parent, parentId := pid, asymRr := 0, hold := false }).pub40
      (o + 0x38) 0
    let d := ((d.clientEnable k).clientParent k changed).clientClass k
    (.ok (d.client k).st.code, d)

/-- PTP_INSTANCE_CONFIG for a server. -/
def serverConfig (p : Fin 8) (c : Cmd) (d : Dev) : CmdOut × Dev :=
  let old := d.psrv p
  let new := wordAt c.words 1
  if d.portClients p ≠ 0 && (fld old 24 5 ≠ fld new 24 5 || fld old 14 8 ≠ fld new 14 8) then (.refused (satN 16 (d.portClients p)), d)
  else
    let d := (psrvWords p).zipIdx.foldl (fun d e => d.wr e.1 (wordAt c.words (e.2 + 1))) (d.bucketsSync p)
    (.ok, d.loadRefresh)

/-- The parameters of PTP_INSTANCE_CONFIG that fail. -/
def ptpConfigBad (c : Cmd) : List Nat :=
  let inst := pf c 0 0 5
  let n := inst % 16
  if inst < 16 then
    imagesBad c 1 (prOff n) 4 ++ (prBad (wordAt c.words 1)).map (32 + ·) ++ failIf (4 ≤ pf c 5 0 4 && pf c 5 0 4 ≤ 14) 160
  else if inst < 24 then
    ((psrvWords (inst - 16)).zipIdx.flatMap fun e => imageBad c (e.2 + 1) e.1) ++ (psrvBad (wordAt c.words 1)).map (32 + ·)
  else if inst = 24 then imageBad c 1 0x210010 ++ imagesBad c 2 0x210040 5
  else [0]

/-- PTP_INSTANCE_CONFIG (0x51). -/
def ptpConfigBody (c : Cmd) (d : Dev) : Option CmdOut × Dev :=
  let inst := pf c 0 0 5
  checked c (instUsed inst) (ptpConfigBad c) (fun d =>
    if inst < 16 then clientConfig (Fin.ofNat 16 inst) c d
    else if inst < 24 then serverConfig (Fin.ofNat 8 (inst - 16)) c d
    else (.ok, (d.wr 0x210010 (wordAt c.words 1)).wrWords 0x210040 ((List.range 5).map fun i => wordAt c.words (i + 2)))) d

/-- The fields that CLIENT_TABLE_ATTACH uses: none but its action on a detach. -/
def tableAttachUsed (c : Cmd) : List Param :=
  if pf c 0 0 1 = 1 then [(0, 0, 1)] else [(0, 0, 1), (0, 1, 1), (0, 8, 5), whole 1, whole 2]

/-- The parameters of CLIENT_TABLE_ATTACH that fail. -/
def tableAttachBad (c : Cmd) : List Nat :=
  let lg := pf c 0 8 5
  let a := (wordAt c.words 1).toNat + (wordAt c.words 2).toNat * 4294967296
  if pf c 0 0 1 = 1 then []
  else failIf (lg < 8 || 21 < lg) 8 ++ failIf (a % 4096 ≠ 0) 32 ++
    failIf (pf c 0 1 1 = 1 && (11 < lg || 262144 < a + 64 * 2 ^ lg)) 1

/-- CLIENT_TABLE_ATTACH (0x52). -/
def tableAttachBody (c : Cmd) (d : Dev) : Option CmdOut × Dev :=
  let detach := pf c 0 0 1 = 1
  let bar4 := pf c 0 1 1 = 1
  let lg := pf c 0 8 5
  let a := (wordAt c.words 1).toNat + (wordAt c.words 2).toNat * 4294967296
  checked c (tableAttachUsed c) (tableAttachBad c) (fun d =>
    if detach then
      let n := (d.pilot.entries.map fun e => e.2.grants.length).sum
      (.ok (satN 16 n), (d.modPilot fun x =>
        { x with attached := none, entries := [], gens := [], missing := [], cache := [], fetching := [], writing := [],
                 late := [] }).loadRefresh)
    else if d.pilot.attached.isSome then (.refused 1, d)
    else (.ok, d.modPilot fun x =>
      { x with attached := some (bar4, a, lg), attachUs := d.clk.tbUs, entries := [], gens := [], missing := [], round := 0, slot := 0,
               skipFrom := 0, cache := [], fetching := [], writing := [], late := [] })) d

/-- The fields that CLIENT_UPDATE uses under its action. -/
def clientUpdateUsed (c : Cmd) : List Param :=
  (0, 0, 2) :: (if pf c 0 0 2 = 0 then [(1, 0, 21)] else if pf c 0 0 2 = 2 then [(0, 8, 3)] else [])

/-- A walk of CLIENT_UPDATE over its entries `l`, each through `f`, which answers its progress: whole, or up to the safe point after
`stop` entries (R331). -/
def Dev.updateWalk (c : Cmd) (l : List (Nat × Entry)) (stop : Option Nat) (f : Nat × Entry → Dev → Nat × Dev) (d : Dev) :
    Option CmdOut × Dev :=
  let k := min l.length (stop.getD l.length)
  let r := (l.take k).foldl (fun (acc : Nat × Dev) e => let r := f e acc.2; (acc.1 + r.1, r.2)) (0, d)
  if k = l.length then (some (.ok (satN 16 r.1)), r.2) else (none, r.2.stay c.src (satN 16 r.1) false)

/-- CLIENT_UPDATE (0x53). -/
def clientUpdateBody (stop : Option Nat) (c : Cmd) (d : Dev) : Option CmdOut × Dev :=
  let act := pf c 0 0 2
  checkedLong c (clientUpdateUsed c) (failIf (act = 3) 0) (fun d =>
    if act = 0 then
      let i := pf c 1 0 21
      match d.entryAt i with
      | some e => d.updateWalk c [(i, e)] stop (fun e d => d.cancelEntry true e.1 e.2)
      | none => (some (.refused 0), d)
    else if act = 1 then d.updateWalk c (d.pilot.entries.filter fun e => e.2.dirty) stop fun e d => (1, d.writeBack e.1)
    else
      let p := Fin.ofNat 8 (pf c 0 8 3)
      d.updateWalk c (d.pilot.entries.filter fun e => e.2.port = p) stop fun e d => d.cancelEntry true e.1 e.2) d

/-! ### BLOCK_RESET (R260) -/

/-- The CT counts of the Pilot service. -/
def pilotCounts : List Nat :=
  0x210014 :: (List.range 8).flatMap (fun n => [psrvOff n + 0x50, psrvOff n + 0x54, psrvOff n + 0x58, psrvOff n + 0x5C]) ++
    (List.range 16).flatMap fun k => [prOff k + 0x50, prOff k + 0x54]

/-- A block reset of PORT/PILOT. -/
def Dev.portPilotReset (d : Dev) : Dev := pilotCounts.foldl (fun d o => d.wr o 0) (d.abortOps 0x53).portsReset

def execFrameReceived (p : Fin 8) (f : Frame) (s : State) : Host.Outcome State Fault Refusal := run (frameRx p f) s
def execAnnounceTimeout (k : Fin 16) (s : State) : Host.Outcome State Fault Refusal := run (announceLate k) s
def execAnnouncePost (k : Fin 16) (s : State) : Host.Outcome State Fault Refusal := run (announcePost k) s
def execClientGrantRenew (k : Fin 16) (g : GrantKind × BitVec 128) (s : State) : Host.Outcome State Fault Refusal :=
  run (clientRenew k g) s
def execClientGrantRetry (k : Fin 16) (g : GrantKind × BitVec 128) (s : State) : Host.Outcome State Fault Refusal :=
  run (clientRetry k g) s
def execClientGrantExpiry (k : Fin 16) (g : GrantKind × BitVec 128) (s : State) : Host.Outcome State Fault Refusal :=
  run (clientExpiry k g) s
def execGrantExpiry (index : BitVec 21) (kind : GrantKind) (s : State) : Host.Outcome State Fault Refusal := run (grantEnd index.toNat kind) s
def execDelayReqTx (k : Fin 16) (tPcs : Int) (pos : Nat) (s : State) : Host.Outcome State Fault Refusal := run (delayReq k tPcs pos) s
def execSubintervalEnd (k : Fin 16) (s : State) : Host.Outcome State Fault Refusal := run (subintervalEnd k) s
def execRerouteHoldExpiry (k : Fin 16) (s : State) : Host.Outcome State Fault Refusal := run (rerouteEnd k) s
def execMulticastSyncTx (t : TxStart) (s : State) : Host.Outcome State Fault Refusal := run (mcSync t.port t.tPcs t.pos) s
def execMulticastAnnounceTx (p : Fin 8) (s : State) : Host.Outcome State Fault Refusal := run (mcAnnounce p) s
def execCalendarSlot (s : State) : Host.Outcome State Fault Refusal := run calendarSlot s
def execClientTableDma (write : Bool) (index : BitVec 21) (ok : Bool) (s : State) : Host.Outcome State Fault Refusal :=
  run (tableDma write index.toNat ok) s
def execSettleEnd (p : Fin 8) (s : State) : Host.Outcome State Fault Refusal := run (settleEnd p) s
def execPtpInstanceConfig (c : Cmd) (s : State) : Host.Outcome State Fault Refusal := run (command 0x51 c (ptpConfigBody c)) s
def execClientTableAttach (c : Cmd) (s : State) : Host.Outcome State Fault Refusal := run (command 0x52 c (tableAttachBody c)) s
def execClientUpdate (c : PieceCmd) (s : State) : Host.Outcome State Fault Refusal :=
  run (command 0x53 c.cmd (clientUpdateBody c.stop c.cmd)) s

end Sys2Proof.Machine
end

