-- ==== Sys2Proof/Machine/Tide.lean ====
section
/-! DEFINITION. Tideline (chapter 11): links, ranging, tide frames, the active upstream, roles, relayed messages and faults. -/

namespace Sys2Proof.Machine

def Dev.tlPrio (d : Dev) : Nat := fld d.tlCfg 24 8
/-- The exchanges averaged, 2^RNG_R. -/
def Dev.rngN (d : Dev) : Nat := 2 ^ d.rdF 0x280004 16 4
def tlSource (l : Fin 5) : Fin 192 := ⟨160 + l.val, by omega⟩

/-- The links run: their block is ready and XO is qualified (R284, R340). -/
def Dev.tideOn (d : Dev) : Bool := d.clk.xo && d.blockReady 13

/-- A link state change by a row of Table 11-3, with its event. -/
def Dev.linkTo (l : Fin 5) (st : LinkState) (row : Nat) (d : Dev) : Dev :=
  let old := (d.link l).st
  (d.modLink l fun x => { x with st := st }).stateEv 13 0 l old.code st.code row 0xFF

/-- The conditions that the frames show: DEPTH_ERR, DUP_ID, DUAL_MASTER, with their sources (R293, R302). -/
def Dev.tideFlags (d : Dev) : Dev :=
  let lasts := (List.finRange 5).filterMap fun l => if (d.link l).st = .off then none else (d.link l).last
  let depth := (List.finRange 5).any fun l => (match (d.link l).last with
    | some f => d.upLink l && (d.link l).st = .up && f.hops.toNat = 9
    | none => false)
  let dup := lasts.any fun f => f.senderId = d.tide.id
  let dual := d.tide.strapped && [(0 : Fin 5), 4].any fun l => d.eligible l && (match (d.link l).last with
    | some f => f.mId ≠ d.tide.id
    | none => false)
  ((((d.modTide fun t => { t with depthErr := depth, dupId := dup, dualMaster := dual }).setCond 165 0 depth).setCond 166 0 dup).setCond
    167 0 dual)

/-! ### Labels (R296, R298) -/

/-- LABEL_ERR_TIMEOUT (R298). -/
def labelErrEnd (d : Dev) : Dev :=
  if d.tide.lofs ≠ 0 && d.tide.lofs.natAbs < 500000 && !d.tide.labelErr then
    ((d.modTide fun t => { t with labelErr := true }).setCond 168 0 true).event 0x0F 0 13 (sBytes 4 d.tide.lofs)
  else d

/-- A frame of the active upstream sets LOFS when Δ − LOFS leaves ±0.75 µs. -/
def Dev.lofsTrack (l : Fin 5) (f : TideFrame) (d : Dev) : Dev :=
  let x := d.labelDelta l f
  let d := d.modTide fun t => { t with srcLabel := tripleGr f.label, srcAt := d.tSent l f }
  if decide (49152000 < (x - d.tide.lofs * 65536000).natAbs) then d.setLofs (toUs x) else d

/-! ### Roles and the active upstream (R294, R295, Table 11-4) -/

/-- The MASTER event: M_ID and M_PRIO. -/
def Dev.masterEvent (d : Dev) : Dev := d.event 0x0A 0 13 (leBytes 2 d.tide.mId.toNat ++ [d.tide.mPrio])

/-- The conditions of a hitless swap to link `b` (R295). -/
def Dev.swapOk (d : Dev) (a b : Fin 5) : Bool :=
  let tol := d.rdF 0x280004 20 12
  d.eligible b && (match (d.link b).last with
    | some f => f.mId = d.tide.mId
    | none => false) && tol ≠ 0 && decide (((d.link a).thetaMean - (d.link b).thetaMean).natAbs * 100 ≤ tol * 65536)

/-- SWAP. -/
def Dev.swap (a b : Fin 5) (d : Dev) : Dev := ((d.bump 0x280020 0 16).event 0x09 0 13 [b8 b, b8 a]).activate b

/-- The active upstream misses 2 frames or is not eligible: a swap where it is possible. -/
def Dev.trySwap (d : Dev) : Dev :=
  match d.tide.active with
  | some a => if d.tide.role = .slave && d.swapOk a (otherUp a) then d.swap a (otherUp a) else d
  | none => d

/-- Row 1: the active upstream is lost and no swap is possible. -/
def Dev.toOrphan (row : Nat) (d : Dev) : Dev :=
  ((d.modTide fun t => { t with active := none, masterLost := true, events := [] }).roleTo .orphan row)

/-- The active upstream has left UP. -/
def Dev.activeLost (l : Fin 5) (d : Dev) : Dev :=
  if d.tide.active = some l then
    let d := d.trySwap
    if d.tide.active = some l then (d.toOrphan 1).masterEvent else d
  else d

/-- Rows 2, 3 and 6: this device becomes master. -/
def Dev.toMaster (row : Nat) (d : Dev) : Dev :=
  let d := ((d.modTide fun t =>
    { t with active := none, path := [t.id], hops := 0, masterLost := false, mPrio := b8 d.tlPrio, mId := t.id, events := [],
             relay := none }).setLofs 0).bump 0x280024 16 16
  (d.roleTo .master row).masterEvent

/-- The device is a candidate (R303). -/
def Dev.candidate (d : Dev) : Bool := !d.tide.strapped && d.tlPrio < 255

/-- Claims: priority first, then ID. -/
def claimBetter (p i q j : Nat) : Bool := p < q || (p = q && i < j)

/-- CLAIM_POSSIBLE. -/
def Dev.claimPossible (d : Dev) : Bool :=
  d.tide.role = .slave && d.candidate && claimBetter d.tlPrio d.tide.id.toNat d.tide.mPrio.toNat d.tide.mId.toNat

/-- CLAIM_READY. -/
def Dev.claimReady (d : Dev) : Bool :=
  let c := d.chan (d.tsChan d.cascTs)
  (d.tsc d.cascTs).st = .running && (c.st = .holdover || (c.st = .locked && c.sel.cur.isSome && c.sel.cur ≠ some 60))

/-- MASTER_CLAIM. -/
def masterClaim (d : Dev) : Dev := if d.claimPossible && d.claimReady then d.toMaster 2 else d

/-- TAKEOVER_EXPIRY. -/
def takeoverEnd (d : Dev) : Dev :=
  if !d.candidate then d
  else if d.tide.role = .slave && d.tide.masterLost then d.toMaster 3
  else if d.tide.role = .orphan && d.firstEligible.isNone then d.toMaster 6
  else d

/-- An eligible link with MASTER_LOST = 0 that names a master better than the own claim. -/
def Dev.betterLink (d : Dev) : Option (Fin 5) :=
  [(0 : Fin 5), 4].find? fun l => d.eligible l && (match (d.link l).last with
    | some f => !f.masterLost && claimBetter f.mPrio.toNat f.mId.toNat d.tlPrio d.tide.id.toNat
    | none => false)

/-- MASTER_YIELD: row 7. -/
def masterYield (d : Dev) : Dev :=
  if d.tide.role = .master && !d.tide.strapped then
    match d.betterLink with
    | some l => (((d.activate l).bump 0x280020 16 16).roleTo .slave 7).masterEvent
    | none => d
  else d

/-! ### Links (Table 11-3, R285) -/

/-- A link goes to SYNC or OFF. -/
def Dev.linkDrop (l : Fin 5) (st : LinkState) (row : Nat) (d : Dev) : Dev :=
  let d := (d.linkTo l st row).modLink l fun x =>
    { x with missed := 0, good := 0, last := none, delays := [], accepted := 0, outliers := 0, theta := [], dirErr := false, markAt := none,
             own := none, heard := none, taken := none }
  (d.activeLost l).tideFlags

/-- Row 2. -/
def Dev.linkLoss (l : Fin 5) (d : Dev) : Dev :=
  match (d.link l).st with
  | .up => ((d.bump (linkOff l + 0x34) 16 16).occur (tlSource l) l).linkDrop l .sync 2
  | .cal | .ranging => d.linkDrop l .sync 2
  | .off | .sync => d

/-- A missing frame (R285, R295). -/
def missingFrame (l : Fin 5) (c : MissCause) (d : Dev) : Dev :=
  if (d.link l).st = .off || !d.tideOn then d
  else
    let d := (d.bump (linkOff l + 0x30) 0 16).modLink l fun x => { x with missed := x.missed + 1, good := 0, dirErr := c = .dir }
    let d := match c with
      | .absent => d
      | .crc => d.bump (linkOff l + 0x30) 16 16
      | .dir => d.bump (linkOff l + 0x38) 0 16
    let d := if d.tide.active = some l && (d.link l).missed = 2 then d.trySwap else d
    if 4 ≤ (d.link l).missed then d.linkLoss l else d

/-- CODE_GROUP_SYNC_LOSS. -/
def codeGroupLoss (l : Fin 5) (d : Dev) : Dev := d.linkLoss l

/-- TL_TRAIN_TIMEOUT: row 3. -/
def trainTimeout (l : Fin 5) (d : Dev) : Dev :=
  match (d.link l).st with
  | .sync | .cal | .ranging => (d.bump (linkOff l + 0x34) 0 16).linkDrop l .sync 3
  | .off | .up => d

/-- TL_CAL_DONE: row 6. -/
def linkCalDone (l : Fin 5) (d : Dev) : Dev :=
  if (d.link l).st = .cal then (d.modLink l fun x => { x with accepted := 0, delays := [], outliers := 0 }).linkTo l .ranging 6 else d

/-- The exchange that both ends have measured: t4 − t1 and t3 − t2 under one RNG_NUM, not taken yet. -/
def Link.exchange (up : Bool) (x : Link) : Option (BitVec 16 × Int × Int) :=
  match x.own, x.heard with
  | some o, some h =>
    if o.num = h.num && x.taken ≠ some o.num then some (o.num, if up then (h.val, o.val) else (o.val, h.val)) else none
  | _, _ => none

/-- One exchange as an end takes it (R287, R288): `outer` = t4 − t1, `inner` = t3 − t2. -/
def Dev.rangingWith (l : Fin 5) (outer inner : Int) (d : Dev) : Dev :=
    let x := d.link l
    let up := d.upLink l
    let one := truncDiv (outer - inner + (if up then sfld (d.rd (linkOff l)) 0 32 else 0)) 2
    if !x.delays.isEmpty && decide (65536 < (one - x.df).natAbs) then
      let d := (d.bump (linkOff l + 0x38) 16 16).modLink l fun x => { x with outliers := x.outliers + 1 }
      if x.outliers + 1 = 16 then
        (d.modLink l fun x => { x with outliers := 0, delays := [] }).event 0x0D l 13 [b8 l]
      else d
    else
      let ds := (one :: x.delays).take d.rngN
      let df := roundDiv ds.sum ds.length
      let d := (d.modLink l fun x =>
        { x with delays := ds, df := df, accepted := x.accepted + 1, outliers := 0, tooFar := decide (124518400 < df) }).pub40
          (linkOff l + 0x18) (sat40 df)
      if x.st = .ranging && d.rngN ≤ (d.link l).accepted && !(d.link l).tooFar then ((d.linkTo l .up 7).tideFlags).orphanJoin else d

/-- RANGING_EXCHANGE: the exchange `num`, whose two intervals this end holds, is taken, once. -/
def rangingTake (l : Fin 5) (num : BitVec 16) (d : Dev) : Dev :=
  let x := d.link l
  match x.exchange (d.upLink l) with
  | some (n, outer, inner) =>
    if n = num && (x.st = .ranging || x.st = .up) then (d.modLink l fun x => { x with taken := some n }).rangingWith l outer inner else d
  | none => d

/-! ### Relayed faults (R306) -/

/-- The FAULT field of an entry. -/
def faultField (id src hops ms : Nat) : BitVec 64 :=
  BitVec.ofNat 64 (id % 512 + src % 256 * 512 + min hops 15 * 131072 + 2097152 + ms % 4294967296 * 4194304)

/-- An entry for the queue toward the master. -/
def Dev.queueFault (e : BitVec 64) (d : Dev) : Dev :=
  if d.tide.faults.length < 64 then d.modTide fun t => { t with faults := t.faults ++ [e] }
  else (d.bump 0x280024 0 16).occur 169 0

/-- A source of this device has become severe with ALARM in its set. -/
def Dev.ownFault (src : Nat) (d : Dev) : Dev :=
  d.queueFault (faultField d.tide.id.toNat src 0 ((d.tsNow d.cascTs / 65536000000) % 4294967296).toNat)

/-- A FAULT field received on a downstream link. -/
def Dev.relayFault (l : Fin 5) (e : BitVec 64) (d : Dev) : Dev :=
  if e.getLsbD 21 then
    let d := if bit d.tlCfg 20 || d.tide.role ≠ .slave then d.event 0x0B l 13 (leBytes 8 e.toNat) else d
    if d.tide.role = .slave then
      let n := e.toNat
      d.queueFault (faultField n (n / 512) (n / 131072 % 16 + 1) (n / 4194304))
    else d
  else d

/-! ### Steps, leaps and UTC messages (R299, R300) -/

/-- The payloads of CASC_TS: its registers TSn_STEP_*, TSn_LEAP and TSn_UTC. -/
def Dev.stepPayload (d : Dev) (n : Fin 4) : List Byte :=
  match (d.tsc n).step with
  | some s => leBytes 4 (s.atSec % 4294967296) ++ leBytes 4 (2147483648 + s.atSec / 4294967296) ++ sBytes 4 s.dsec ++ sBytes 4 s.dns ++
      leBytes 4 s.dgr
  | none => List.replicate 20 0
def leapWord (l : Option (Bool × Nat)) : Word :=
  match l with
  | some (del, day) => word (2147483648 + bitAt 30 del + day % 1048576)
  | none => 0
def Dev.payload (d : Dev) (n : Fin 4) (type : Nat) : List Byte :=
  if type = 1 then d.stepPayload n
  else if type = 2 then wordBytes (leapWord (d.tsc n).leap)
  else wordBytes (d.rd (tsOff n + 4))

/-- The own message of a type: MSG_SEQ rises when its payload has changed. -/
def Dev.ownMsg (type : Nat) (d : Dev) : (BitVec 8 × BitVec 16 × List Byte) × Dev :=
  let p := d.payload d.cascTs type
  let old := d.tide.own.find? fun m => m.1 = b8 type
  let m : BitVec 8 × BitVec 16 × List Byte := match old with
    | some m => if m.2.2 = p then m else (b8 type, m.2.1 + 1, p)
    | none => (b8 type, 1, p)
  (m, d.modTide fun t => { t with own := m :: t.own.filter (fun x => x.1 ≠ b8 type) })

/-- A slave installs a message of its active upstream (R300). -/
def Dev.install (f : TideFrame) (d : Dev) : Dev :=
  let n := d.cascTs
  let p := f.msg
  let w := fun i => word (leNat ((p.drop (4 * i)).take 4))
  if f.msgType = 1 && d.tide.stepSeq ≠ some f.msgSeq then
    let d := d.modTide fun t => { t with stepSeq := some f.msgSeq }
    let sec := (w 0).toNat + fld (w 1) 0 16 * 4294967296
    if !bit (w 1) 31 then d.modTs n fun t => { t with step := none }
    else if decide ((sec : Int) ≤ d.presentSec n) then d
    else d.modTs n fun t => { t with step := some ⟨sec, sfld (w 2) 0 32, sfld (w 3) 0 32, fld (w 4) 0 16, true⟩ }
  else if f.msgType = 2 && d.tide.leapSeq ≠ some f.msgSeq then
    (d.modTide fun t => { t with leapSeq := some f.msgSeq }).setLeap n
      (if bit (w 0) 31 then some (bit (w 0) 30, fld (w 0) 0 20) else none)
  else if f.msgType = 3 && d.tide.utcSeq ≠ some f.msgSeq then
    (d.modTide fun t => { t with utcSeq := some f.msgSeq }).modTs n fun t => { t with utc := some (w 0) }
  else d

/-! ### Frames received (R285, R293, R296, R297) -/

/-- e_k of a frame: CASC_TS less the label without LOFS. -/
def Dev.frameE (d : Dev) (l : Fin 5) (f : TideFrame) : Int := -(d.labelDelta l f - d.tide.lofs * 65536000)

/-- THETA: the mean of e_k over 1 ms. -/
def Dev.thetaTake (l : Fin 5) (e : Int) (d : Dev) : Dev :=
  let es := e :: (d.link l).theta
  if es.length < 1000 then d.modLink l fun x => { x with theta := es }
  else
    let m := roundDiv es.sum es.length
    (d.modLink l fun x => { x with theta := [], thetaMean := m }).pub40 (linkOff l + 0x20) (sat40 m)

/-- A frame of the active upstream of a slave. -/
def Dev.activeFrame (l : Fin 5) (f : TideFrame) (d : Dev) : Dev :=
  let other := f.mId ≠ d.tide.mId
  let d := (d.lofsTrack l f).adopt f
  let d := if other then (d.msgsAfresh.bump 0x280020 16 16).masterEvent else d
  let d := if f.msgType = 1 || f.msgType = 2 || f.msgType = 3 then
      (d.modTide fun t => { t with relay := some (f.msgType, f.msgSeq, f.msg) }).install f else d
  d.modTide fun t => { t with events := t.events ++ [⟨d.tSent l f, d.frameE l f⟩] }

/-- What a received frame gives to ranging (R287). The downstream end takes t2 and RNG_NUM from a marked frame; the upstream end
takes t4 from the marked frame that names its exchange. RNG_VAL counts in every frame but a marked one of the upstream end,
which opens an exchange (log entry 168). -/
def Link.rangingHear (up : Bool) (f : TideFrame) (x : Link) : Link :=
  if up then
    if f.rngMark then { x with rngNum := f.rngNum, markAt := some f.arrival } else { x with heard := some ⟨f.rngNum, f.rngVal⟩ }
  else
    let x : Link := { x with heard := some ⟨f.rngNum, f.rngVal⟩ }
    match x.markAt with
    | some t1 => if f.rngMark && f.rngNum = x.rngNum then { x with own := some ⟨x.rngNum, f.arrival - t1⟩, markAt := none } else x
    | none => x

/-- TIDE_FRAME_RX. -/
def tideRx (l : Fin 5) (f : TideFrame) (d : Dev) : Dev :=
  if (d.link l).st = .off || !d.tideOn || f.version ≠ 1 then d
  else if f.dir = d.upLink l then missingFrame l .dir d
  else
    let d := d.modLink l fun x =>
      ({ x with missed := 0, good := x.good + 1, last := some f, dirErr := false } : Link).rangingHear (d.upLink l) f
    let d := if (d.link l).st = .sync && 2 ≤ (d.link l).good then d.linkTo l .cal 5 else d
    let d := d.tideFlags
    if d.upLink l then
      let d := if (d.link l).st = .up then d.thetaTake l (d.frameE l f) else d
      let d := if d.tide.active = some l && d.tide.role = .slave then
          (let d := d.activeFrame l f
           if d.eligible l then d else d.trySwap) else d
      d.orphanJoin
    else d.relayFault l f.fault

/-- CASCADE_EVENT_DELIVERY. -/
def cascDeliver (d : Dev) : Dev :=
  match d.tide.events with
  | e :: l => (d.modTide fun t => { t with events := l }).cascadeEvent e.t e.e
  | [] => d

/-! ### Frames sent (R284, R292, R299) -/

/-- The rotating detail of channel SEQ mod 16. -/
def Dev.tideDetail (d : Dev) (us : Nat) : BitVec 88 :=
  let c := us % 16
  BitVec.ofNat 88 (c + twos 40 (d.rd40 (chanOff c + 0x30)) * 256 + twos 40 (d.rd40 (chanOff c + 0x38)) * 281474976710656)

/-- The boundary at `us` µs of CASC_TS as a timebase instant: TS runs at 1 + y. -/
def Dev.boundaryAt (d : Dev) (us : Int) : Int :=
  d.tbGr + roundDiv ((us * 65536000 - d.tsNow d.cascTs) * two48) (two48 + (d.chan (d.tsChan d.cascTs)).loop.y)

/-- Ranging as a frame with its boundary at `t` leaves (R287): whether the frame is marked, and the link after it. The upstream end
opens an exchange on each whole millisecond; the downstream end answers with its first boundary 2 µs after t2, which gives it
t3 − t2. -/
def Link.rangingSend (up : Bool) (us t : Int) (x : Link) : Bool × Link :=
  let ms := decide (us % 1000 = 0)
  if !up then (ms, if ms then { x with rngNum := x.rngNum + 1, markAt := some t } else x)
  else match x.markAt with
    | some t2 =>
      if t2 + 131072000 ≤ t then (true, { x with own := some ⟨x.rngNum, t - t2⟩, markAt := none }) else (ms, x)
    | none => (ms, x)

/-- RNG_NUM of a frame sent: a marked frame of the upstream end names the exchange that it opens, every other frame the exchange
whose interval RNG_VAL returns (log entry 168). -/
def Link.sentNum (up mark : Bool) (x : Link) : BitVec 16 := if mark && !up then x.rngNum else (x.own.map (·.num)).getD 0
def Link.sentVal (x : Link) : Int := (x.own.map (·.val)).getD 0

/-- The frame of link `l` at the boundary `us`, in µs of CASC_TS. -/
def Dev.tideFrame (d : Dev) (l : Fin 5) (us : Int) (mark : Bool) (msg : BitVec 8 × BitVec 16 × List Byte) : TideFrame :=
  let t := d.tide
  let n := d.cascTs
  let c := d.tsChan n
  let up := d.upLink l
  let own := t.role = .master
  let hops := if own then 1 else min (t.hops + 1) 9
  let path := if t.path.isEmpty then [t.id] else t.path
  { version := 1, dir := up, masterLost := t.masterLost, strapped := t.strapped,
    rngMark := mark,
    todHold := (d.tsc n).st = .todHold, hops := b8 hops, mPrio := if t.strapped then 0 else t.mPrio, mId := t.mId,
    senderLink := BitVec.ofNat 3 l.val, senderId := t.id,
    path := (path ++ List.replicate 8 0x1FF).take 8,
    label := grTriple ((us + t.lofs) * 65536000),
    masterChState := if own then BitVec.ofNat 3 (d.chan c).st.code else t.masterCh,
    masterTsState := if own then BitVec.ofNat 2 (d.tsc n).st.code else t.masterTs,
    phaseAcc := if own then 0 else sat40 (t.phaseAcc + d.rd40 (chanOff c + 0x48)),
    ffo := (d.chan c).loop.y, chStates := (List.finRange 16).map fun k => BitVec.ofNat 3 (d.chan k).st.code,
    detail := d.tideDetail ((us + t.lofs) % 65536).toNat, rngNum := (d.link l).sentNum up mark, rngVal := (d.link l).sentVal,
    fault := if t.active = some l then t.faults.headD 0 else 0,
    msgType := if up then 0 else msg.1, msgSeq := if up then 0 else msg.2.1, msg := if up then [] else msg.2.2, arrival := 0 }

/-- SEQ: the microsecond count of LABEL, modulo 2^16. -/
def tideSeq (f : TideFrame) : Nat := (toUs (tripleGr f.label) % 65536).toNat

/-- Fields of `w` bits, the first one lowest, as one number. -/
def packBits (w : Nat) (l : List Nat) : Nat := l.foldr (fun x n => x % 2 ^ w + 2 ^ w * n) 0

/-- Bytes 0 to 140 of Table 11-2. -/
def tideBody (f : TideFrame) : List Byte :=
  leBytes 2 (tideSeq f) ++
  [b8 (f.version.toNat * 64 + bitAt 5 f.dir + bitAt 4 f.masterLost + bitAt 3 f.strapped + bitAt 2 f.rngMark + bitAt 1 f.todHold)] ++
  [f.hops, f.mPrio] ++ leBytes 2 f.mId.toNat ++ leBytes 2 (f.senderLink.toNat * 8192 + f.senderId.toNat) ++
  leBytes 9 (packBits 9 (((f.path ++ List.replicate 8 511).take 8).map BitVec.toNat)) ++
  leBytes 6 f.label.sec ++ leBytes 4 f.label.ns ++ leBytes 2 f.label.gr ++
  [b8 (f.masterChState.toNat * 32 + f.masterTsState.toNat * 8)] ++ sBytes 5 f.phaseAcc ++ sBytes 5 f.ffo ++
  leBytes 6 (packBits 3 (f.chStates.map BitVec.toNat)) ++ leBytes 11 f.detail.toNat ++
  leBytes 2 f.rngNum.toNat ++ sBytes 5 f.rngVal ++ leBytes 8 f.fault.toNat ++
  [f.msgType, b8 f.msg.length] ++ leBytes 2 f.msgSeq.toNat ++ (f.msg ++ List.replicate 64 0).take 64

/-- The 145 bytes of a frame: MSG_LEN is the length of the message, the CRC-32 covers bytes 0 to 140 (R286). -/
def tideBytes (f : TideFrame) : List Byte := tideBody f ++ leBytes 4 (crc32 (tideBody f)).toNat

/-- TIDE_FRAME_TX: one frame on each running link. -/
def tideTx (d : Dev) : Dev :=
  if !d.tideOn then d
  else
    let us := toUs (d.tsNow d.cascTs)
    let m := if d.tide.role = .slave then
        (d.tide.relay.getD (0, 0, []), d.modTide fun t => { t with relay := none })
      else d.ownMsg (d.tide.turn % 3 + 1)
    let d1 := m.2
    let d2 := forFin 5 (fun l d =>
      if (d.link l).st = .off then d
      else
        let r := (d.link l).rangingSend (d.upLink l) us (d1.boundaryAt us)
        let d := d.modLink l fun _ => r.2
        let f := d.tideFrame l us r.1 m.1
        d.modLink l fun x => { x with sent := x.sent ++ [f] }) d1
    d2.modTide fun t => { t with turn := (t.turn + 1) % 3, faults := if t.active.isSome then t.faults.drop 1 else t.faults }

/-! ### Commands (Table 11-7) -/

/-- Links take in LINK_EN: rows 1 and 4. -/
def Dev.linkEnables (d : Dev) : Dev :=
  forFin 5 (fun l d =>
    if !bit d.tlCfg (15 + l.val) && (d.link l).st ≠ .off then d.linkDrop l .off 1
    else if bit d.tlCfg (15 + l.val) && (d.link l).st = .off then d.linkTo l .sync 4
    else d) d

/-- The parameters of TL_CONFIG that fail: PRIO is not taken from it. -/
def tlConfigBad (c : Cmd) (d : Dev) : List Nat :=
  imageFields 0x280000 (setFld (wordAt c.words 0) 24 8 (max d.tlPrio 1)) ++ imageBad c 1 0x280004 ++
    (List.range 5).flatMap fun i => imageBad c (2 + i) (linkOff i)

/-- TL_CONFIG (0x60). -/
def tlConfigBody (c : Cmd) (d : Dev) : Option CmdOut × Dev :=
  checked c (wholes 0 7) (tlConfigBad c d) (fun d =>
    let old := d.tlCfg
    let new := setFld (wordAt c.words 0) 24 8 d.tlPrio
    if fld old 21 3 ≠ fld new 21 3 && (List.finRange 5).any (fun l => (d.link l).st ≠ .off) then (.refused 1, d)
    else
      let d := (d.wr 0x280000 new).wr 0x280004 (wordAt c.words 1)
      let d := (List.range 5).foldl (fun d i => d.wr (linkOff i) (wordAt c.words (2 + i))) d
      (.ok, d.linkEnables)) d

/-- A new PRIO. A strapped master keeps the claim (0, ID) (R302). -/
def Dev.setPrio (v : Nat) (d : Dev) : Dev :=
  let d := d.wrF 0x280000 24 8 v
  if d.tide.role = .master && !d.tide.strapped then
    if v = 255 then d.toOrphan 8 else d.modTide fun t => { t with mPrio := b8 v }
  else d

/-- The fields that TL_ELECT uses under its action. -/
def tlElectUsed (c : Cmd) : List Param :=
  (0, 0, 2) :: (if pf c 0 0 2 = 0 then [(0, 8, 8)] else if pf c 0 0 2 = 1 then [(0, 16, 3)] else [])

/-- The parameters of TL_ELECT that fail. -/
def tlElectBad (c : Cmd) : List Nat :=
  let act := pf c 0 0 2
  let link := pf c 0 16 3
  failIf (2 ≤ act) 0 ++ failIf (act = 0 && pf c 0 8 8 = 0) 8 ++ failIf (act = 1 && link ≠ 0 && link ≠ 4) 16

/-- TL_ELECT (0x61). -/
def tlElectBody (c : Cmd) (d : Dev) : Option CmdOut × Dev :=
  let act := pf c 0 0 2
  let link := pf c 0 16 3
  checked c (tlElectUsed c) (tlElectBad c) (fun d =>
    if act = 0 then
      if d.tide.strapped then (.refused 1, d)
      else let d := d.setPrio (pf c 0 8 8); (.ok d.tide.role.code, d)
    else
      let l : Fin 5 := Fin.ofNat 5 link
      let same := match (d.link l).last with
        | some f => f.mId = d.tide.mId
        | none => false
      if !d.eligible l || !same then (.refused 2, d)
      else match d.tide.active with
        | some a =>
          if a = l then (.ok 0, d)
          else if d.swapOk a l then (.ok 1, d.swap a l)
          else (.ok 0, (slotLoss 60 (d.modTide fun t => { t with events := [] })).activate l)
        | none => (.ok 0, slotLoss 60 ((d.activate l).roleTo .slave 5))) d

def execTideFrameTx (s : State) : Host.Outcome State Fault Refusal := run tideTx s
def execTideFrameRx (l : Fin 5) (f : TideFrame) (s : State) : Host.Outcome State Fault Refusal := run (tideRx l f) s
def execFrameMissing (l : Fin 5) (c : MissCause) (s : State) : Host.Outcome State Fault Refusal := run (missingFrame l c) s
def execCascadeEventDelivery (s : State) : Host.Outcome State Fault Refusal := run cascDeliver s
def execTlCalDone (l : Fin 5) (s : State) : Host.Outcome State Fault Refusal := run (linkCalDone l) s
def execRangingExchange (l : Fin 5) (num : BitVec 16) (s : State) : Host.Outcome State Fault Refusal := run (rangingTake l num) s
def execTlTrainTimeout (l : Fin 5) (s : State) : Host.Outcome State Fault Refusal := run (trainTimeout l) s
def execMasterClaim (s : State) : Host.Outcome State Fault Refusal := run masterClaim s
def execTakeoverExpiry (s : State) : Host.Outcome State Fault Refusal := run takeoverEnd s
def execMasterYield (s : State) : Host.Outcome State Fault Refusal := run masterYield s
def execLabelErrTimeout (s : State) : Host.Outcome State Fault Refusal := run labelErrEnd s
def execCodeGroupSyncLoss (l : Fin 5) (s : State) : Host.Outcome State Fault Refusal := run (codeGroupLoss l) s
def execTlConfig (c : Cmd) (s : State) : Host.Outcome State Fault Refusal := run (command 0x60 c (tlConfigBody c)) s
def execTlElect (c : Cmd) (s : State) : Host.Outcome State Fault Refusal := run (command 0x61 c (tlElectBody c)) s

end Sys2Proof.Machine
end

