-- ==== Sys2Proof/Machine/Chart.lean ====
section
/-! DEFINITION. The Chart store (chapter 14): flash, records, commits, reclamation, tallies, raw pages. Lines are numbered 0 to
32,767 over the whole flash, 512 to a sector and 16 to a page. -/

namespace Sys2Proof.Machine

/-- The store is unusable: the scan runs, or it ended in a fault (R388, Table 16-5). -/
def Dev.chartShut (d : Dev) : Bool := d.chart.scanning || d.chart.scanFault

/-- The scan is still to come, or runs: no SEQ and no append point is known (R367, R387). -/
def Dev.unscanned (d : Dev) : Bool := d.chart.scanning || (d.chart.nextSeq = 0 && !d.chart.scanFault)

/-! ### Flash (Table 14-1, R365, R366) -/

/-- A byte of data flash; an erased byte reads 0xFF. -/
def Dev.nvGet (d : Dev) (a : Nat) : Byte := Tab.get (fun _ => 0xFF#8) d.chart.flash a
/-- `n` bytes of data flash. -/
def Dev.nvBytes (d : Dev) (a n : Nat) : List Byte := (List.range n).map fun i => d.nvGet (a + i)
/-- A line reads with an uncorrectable error. -/
def Dev.lineBad (d : Dev) (l : Nat) : Bool := d.chart.bad.contains l
/-- The lines from `l` to `h` − 1 read as erased. -/
def Dev.erasedLines (d : Dev) (l h : Nat) : Bool :=
  (d.chart.flash.all fun e => e.1 < 16 * l || 16 * h ≤ e.1) && d.chart.bad.all fun b => b < l || h ≤ b
/-- A line reads as erased. -/
def Dev.lineErased (d : Dev) (l : Nat) : Bool := d.erasedLines l (l + 1)
/-- Bytes programmed from the start of a line on: a line that does not read as erased is never programmed (R365). -/
def Dev.nvProgram (l : Nat) (bs : List Byte) (d : Dev) : Dev :=
  onlyIf (d.erasedLines l (l + ceilDiv bs.length 16)) (fun d => d.modChart fun c =>
    { c with flash := (List.range bs.length).foldl (fun m i => Tab.put (fun _ => 0xFF#8) m (16 * l + i) (bs.getD i 0xFF)) c.flash }) d

/-- The region of a sector (Table 14-2). -/
def sectorRegion (s : Nat) : Nat := if s < 54 then 0 else if s < 56 then 1 else 2

/-- The sector header without and with its CRC (R366). -/
def headerBody (s count seq : Nat) : List Byte := leBytes 2 0x5343 ++ [b8 (sectorRegion s), 0] ++ leBytes 4 count ++ leBytes 4 seq
def sectorHeader (s count seq : Nat) : List Byte :=
  headerBody s count seq ++ leBytes 4 (crc32c (headerBody s count seq)).toNat

/-- A word of a sector header. -/
def Dev.headWord (d : Dev) (s i : Nat) : Nat := leNat (d.nvBytes (8192 * s + 4 * i) 4)
/-- A sector's header is valid. -/
def Dev.sectorOk (d : Dev) (s : Nat) : Bool :=
  !d.lineBad (512 * s) && d.nvBytes (8192 * s) 16 = sectorHeader s (d.headWord s 1) (d.headWord s 2)
def Dev.retired (d : Dev) (s : Nat) : Bool := d.chart.retired.getLsbD s
/-- A sector may be used: its header is valid, it is not retired and no erase of it runs. -/
def Dev.usable (d : Dev) (s : Nat) : Bool :=
  !d.retired s && d.sectorOk s && (match d.chart.erasing with | some e => decide (e.1 ≠ s) | none => true)
/-- A sector is erased: usable, and nothing but its header is programmed. -/
def Dev.sectorErased (d : Dev) (s : Nat) : Bool := d.usable s && d.erasedLines (512 * s + 1) (512 * s + 512)
/-- The erased record-log sectors. -/
def Dev.erasedLog (d : Dev) : List Nat := (List.range 54).filter d.sectorErased

/-- An uncorrectable line read (R377, Table 14-8): counted, and an occurrence of FS024 with the sector as object. -/
def Dev.eccUncorr (l : Nat) (d : Dev) : Dev := (d.bump 0x040024 0 16).occur 24 (l / 512)
/-- The lines `l` to `h` − 1 are read: corrected bits are counted. -/
def Dev.eccCorr (l h : Nat) (d : Dev) : Dev :=
  d.bumpBy (d.chart.corr.filter fun x => l ≤ x && x < h).length 0x040024 16 16

/-! ### Records (Table 14-3, R367, R368) -/

/-- The lines that a value of `len` bytes occupies with its header. -/
def recLines (len : Nat) : Nat := 1 + ceilDiv len 16
def Rec.lines (r : Rec) : Nat := recLines r.val.length

/-- A record's first 10 bytes, its header and its lines. -/
def Rec.head10 (r : Rec) : List Byte :=
  leBytes 2 r.key ++ leBytes 2 r.val.length ++ leBytes 4 r.seq ++ [b8 (bitAt 0 r.del + bitAt 1 r.copy + bitAt 2 r.shutdown), 0]
def Rec.head12 (r : Rec) : List Byte := r.head10 ++ leBytes 2 (crc32c r.head10).toNat
def Rec.bytes (r : Rec) : List Byte :=
  r.head12 ++ leBytes 4 (crc32c (r.head12 ++ r.val)).toNat ++ r.val ++ List.replicate (16 * ceilDiv r.val.length 16 - r.val.length) 0

/-- HCHK of the header at a line checks. -/
def Dev.hchkOk (d : Dev) (l : Nat) : Bool :=
  !d.lineBad l && leNat (d.nvBytes (16 * l + 10) 2) = (crc32c (d.nvBytes (16 * l) 10)).toNat % 65536
/-- LEN of the header at a line. -/
def Dev.recLen (d : Dev) (l : Nat) : Nat := leNat (d.nvBytes (16 * l + 2) 2)
/-- The record at a line whose HCHK checks, as its bytes give it. -/
def Dev.recAt (d : Dev) (l : Nat) : Rec :=
  let f := d.nvGet (16 * l + 8)
  ⟨leNat (d.nvBytes (16 * l) 2), leNat (d.nvBytes (16 * l + 4) 4), f.getLsbD 0, f.getLsbD 1, f.getLsbD 2,
    d.nvBytes (16 * l + 16) (d.recLen l)⟩
/-- R368: the record at a line is valid; `hi` is the end of its sector. -/
def Dev.recValid (d : Dev) (l hi : Nat) : Bool :=
  let n := recLines (d.recLen l)
  d.recLen l ≤ 2048 && l + n ≤ hi && (d.chart.bad.all fun b => b < l || l + n ≤ b) &&
    leNat (d.nvBytes (16 * l + 12) 4) = (crc32c (d.nvBytes (16 * l) 12 ++ (d.recAt l).val)).toNat &&
    (d.nvBytes (16 * l + 16 + d.recLen l) (16 * (n - 1) - d.recLen l)).all fun x => x = 0

/-- What the walk of a sector finds: valid records with their lines, invalid records and failed headers, the lines read with
an uncorrectable error, and the append point. -/
structure Walked where
  recs : List (Nat × Rec)
  torn : Nat
  bad : List Nat
  at_ : Option Nat
deriving DecidableEq, Repr

/-- Step 2 of R387 from line `l` to `hi`; `torn` says that the step before met an invalid record, after which an erased line
leads on to the next page boundary, where appending resumed (step 4). -/
def Dev.walk (d : Dev) (hi : Nat) : (fuel l : Nat) → (torn : Bool) → Walked
  | 0, _, _ => ⟨[], 0, [], none⟩
  | n + 1, l, torn =>
    let page := (l + 15) / 16 * 16
    if hi ≤ l then ⟨[], 0, [], none⟩
    else if d.lineErased l then (if torn && page ≠ l then d.walk hi n page false else ⟨[], 0, [], some l⟩)
    else if !d.hchkOk l then
      let w := d.walk hi n ((l / 16 + 1) * 16) true
      { w with torn := w.torn + 1, bad := if d.lineBad l then l :: w.bad else w.bad }
    else
      let k := recLines (d.recLen l)
      if d.recValid l hi then
        let w := d.walk hi n (l + k) false
        { w with recs := (l, d.recAt l) :: w.recs }
      else
        let w := d.walk hi n (l + k) true
        { w with torn := w.torn + 1, bad := (d.chart.bad.filter fun b => l ≤ b && b < min (l + k) hi) ++ w.bad }

/-- The walk of a record-log sector. -/
def Dev.walkSector (d : Dev) (s : Nat) : Walked := d.walk (512 * s + 512) 512 (512 * s + 1) false
/-- The record-log sectors whose header is valid. -/
def Dev.logSectors (d : Dev) : List Nat := (List.range 54).filter fun s => !d.retired s && d.sectorOk s
/-- Every valid record of the log with its line. -/
def Dev.logRecs (d : Dev) : List (Nat × Rec) := d.logSectors.flatMap fun s => (d.walkSector s).recs

/-- The newest record of each key; a record of the buffer has no line (R368). -/
def Dev.newest (d : Dev) : Tab (Option Nat × Rec) :=
  let put (m : Tab (Option Nat × Rec)) (e : Option Nat × Rec) : Tab (Option Nat × Rec) :=
    match m.find? fun x => x.1 = e.2.key with
    | some x => if x.2.2.seq < e.2.seq then Tab.ins e.2.key e m else m
    | none => Tab.ins e.2.key e m
  (d.chart.buf.map fun r => (none, r)).foldl put ((d.logRecs.map fun e => (some e.1, e.2)).foldl put [])

/-- The newest record of a key that is present. -/
def Dev.record (d : Dev) (key : Nat) : Option (Option Nat × Rec) :=
  match d.newest.find? fun x => x.1 = key with
  | some x => if x.2.2.del then none else some x.2
  | none => none

/-- Lines of the newest valid records, and live keys (R379). -/
def liveLines (m : Tab (Option Nat × Rec)) : Nat := (m.map fun e => e.2.2.lines).sum
def liveKeys (m : Tab (Option Nat × Rec)) : Nat := (m.filter fun e => !e.2.2.del).length

/-! ### Appending (R367, R373) -/

/-- The erased record-log sector of lowest SECT_SEQ. -/
def Dev.nextSector (d : Dev) : Option Nat :=
  (d.erasedLog.foldl (fun b s => match b with
    | some m => if d.headWord s 2 < d.headWord m 2 then some s else b
    | none => some s) none)

/-- Where `n` lines go: behind the append point, or at line 1 of the next sector; the last erased sector is the reserve. -/
def Dev.placeFor (d : Dev) (reserve : Bool) (n : Nat) : Option Nat :=
  let fresh := if (if reserve then 1 else 2) ≤ d.erasedLog.length then d.nextSector.map (512 * · + 1) else none
  match d.chart.appendAt with
  | some l => if l % 512 + n ≤ 512 then some l else fresh
  | none => fresh

/-- A record appended to the log, with its line. -/
def Dev.append (reserve : Bool) (r : Rec) (d : Dev) : Option (Nat × Dev) :=
  (d.placeFor reserve r.lines).map fun l =>
    let e := l + r.lines
    (l, (d.nvProgram l r.bytes).modChart fun c => { c with appendAt := if e % 512 = 0 then none else some e })

/-- The records that can be appended in order, with their lines, and whether all could be. -/
def Dev.appendAll (reserve : Bool) : List Rec → Dev → List (Nat × Rec) × Bool × Dev
  | [], d => ([], true, d)
  | r :: rs, d =>
    match d.append reserve r with
    | some x => let y := x.2.appendAll reserve rs; ((x.1, r) :: y.1, y.2)
    | none => ([], false, d)

/-- The next SEQ. -/
def Dev.takeSeq (d : Dev) : Nat × Dev := (d.chart.nextSeq, d.modChart fun c => { c with nextSeq := satN 32 (c.nextSeq + 1) })

/-- Records with SEQ numbers of their own, in order. -/
def Dev.number : List Rec → Dev → List Rec × Dev
  | [], d => ([], d)
  | r :: rs, d => let x := d.takeSeq; let y := x.2.number rs; ({ r with seq := x.1 } :: y.1, y.2)

/-! ### Commits (R370 to R373) -/

/-- The buffer without the records that a later one supersedes. -/
def Dev.bufKept (d : Dev) : List Rec := d.chart.buf.filter fun r => !d.chart.buf.any fun q => q.key = r.key && r.seq < q.seq
/-- The bytes of the gather buffer, a record taking its whole lines. -/
def bufBytes (l : List Rec) : Nat := 16 * (l.map Rec.lines).sum

/-- The history summary of a channel (Table 14-4). -/
def Dev.histSummary (d : Dev) (c : Fin 16) : List Byte :=
  let a := d.avg1024 c
  let t := match a with | some (_, some t) => t | _ => 0
  sBytes 5 ((a.map (·.1)).getD 0) ++ sBytes 2 t ++ leBytes 3 (d.chan c).ho.histS ++ [b8 (bitAt 0 (d.chan c).everLocked)] ++
    List.replicate 5 0

/-- The shutdown set (R371). -/
def Dev.shutdownSet (d : Dev) : List Rec :=
  [⟨0x0002, 0, false, false, true, d.chart.wear.toList.flatMap (leBytes 4)⟩,
   ⟨0x0010, 0, false, false, true, leBytes 8 d.chart.runHours16 ++ leBytes 4 d.chart.powerCycles ++ leBytes 4 d.chart.anchorEntries⟩] ++
    (List.finRange 16).map fun c => ⟨0x0020 + c.val, 0, false, false, true, d.histSummary c⟩

/-- The commit is one of a power failure or of an Anchor entry. -/
def CommitKind.hard : CommitKind → Bool
  | .powerFail | .anchor => true
  | _ => false

/-- A commit writes the shutdown set and may use the reserve (Table 14-5). -/
def Dev.commitHard (d : Dev) : Bool :=
  d.chart.extended || d.chart.commit.any CommitKind.hard

/-- Copies of the records to rewrite because a line of theirs was read with a corrected bit (Table 14-8). -/
def Dev.rewrites (d : Dev) : List Rec :=
  d.chart.rewrite.filterMap fun k => match d.newest.find? fun x => x.1 = k with
    | some (_, some _, r) => some { r with copy := true }
    | _ => none

/-- What the commit in progress writes, numbered. -/
def Dev.commitRecs (d : Dev) : List Rec × Dev :=
  let x := d.number (if d.commitHard then d.shutdownSet else d.rewrites)
  (d.bufKept ++ x.1, x.2)

/-- The lines of the commit in progress with their bytes, in order, and whether all of it fits. -/
def Dev.commitPlan (d : Dev) : List (Nat × List Byte) × Bool :=
  let x := d.commitRecs
  let p := x.2.appendAll d.commitHard x.1
  (p.1.flatMap fun e => (List.range e.2.lines).map fun i => (e.1 + i, (e.2.bytes.drop (16 * i)).take 16), p.2.1)

/-- A commit waits for space: what it writes does not fit outside the reserve (R373). -/
def Dev.commitWaits (d : Dev) : Bool := d.chart.commit.isSome && !d.commitHard && !d.commitPlan.2

/-- A commit starts. -/
def Dev.commitStart (k : CommitKind) (d : Dev) : Dev := d.modChart fun c => { c with commit := some k }

/-- A record enters the buffer with its SEQ; the first one starts the timer. -/
def Dev.bufPut (r : Rec) (d : Dev) : Dev :=
  let x := d.takeSeq
  x.2.modChart fun c => { c with timerOn := c.timerOn || c.buf.isEmpty, buf := c.buf ++ [{ r with seq := x.1 }] }

/-- What a commit that has been written leads to: the bytes it committed and the command that ends (R370). -/
def Dev.commitEnd (k : CommitKind) (bytes : Nat) (d : Dev) : Dev :=
  match k with
  | .command src p => d.complete src p (.ok bytes)
  | .full src p r => (d.bufPut r).complete src p (.ok r.val.length)
  | _ => d

/-- An NV command in progress at a line of its own holds the store: a commit waits for it (R374). -/
def Dev.lineHeld (d : Dev) : Bool :=
  d.chart.tallyWait.isSome || d.host.busy.toList.any fun b => b.any fun p => p.op.toNat = 0x73 && p.out.isNone

/-- The commit in progress is written, if its space is there and no other command holds the store (R374). A hard commit writes what
fits. An unusable store writes nothing. -/
def Dev.commitFinish (d : Dev) : Dev :=
  match d.chart.commit with
  | none => d
  | some k =>
    if d.unscanned || (d.lineHeld && !d.commitHard) then d
    else if d.chart.scanFault then (d.modChart fun c => { c with commit := none, extended := false }).commitEnd k 0
    else
    let x := d.commitRecs
    let p := x.2.appendAll d.commitHard x.1
    if p.2.1 || d.commitHard then
      let bytes := bufBytes d.bufKept
      ((p.2.2.modChart fun c =>
        { c with buf := [], commit := none, extended := false, timerOn := false, rewrite := if d.commitHard then c.rewrite else [] }).bump
          0x040020 16 16).commitEnd k bytes
    else d

/-- A line in programming as the power fails, left as R386 says: uncorrectable, as intended, or a mixture. -/
def Dev.tearLine (how : Fin 3) (e : Nat × List Byte) (d : Dev) : Dev :=
  match how with
  | 0 => d.modChart fun c => { c with bad := e.1 :: c.bad }
  | 1 => d.nvProgram e.1 e.2
  | _ => d.nvProgram e.1 ((List.range 16).map fun i => e.2.getD i 0 ||| Config.tornByte d.draws (16 * e.1 + i))

/-- The commit in progress is stopped after `n` lines, the next line torn where `torn` says how. -/
def Dev.commitCut (n : Nat) (torn : Option (Fin 3)) (d : Dev) : Dev :=
  let l := d.commitPlan.1
  let d := (l.take n).foldl (fun d e => d.nvProgram e.1 e.2) d
  match torn, (l.drop n).head? with
  | some how, some e => d.tearLine how e
  | _, _ => d

/-- A raw write stands in the middle as the power fails: its next line is torn (R386), how a free value. -/
def Dev.rawTear (d : Dev) : Dev :=
  match d.chart.rawNext with
  | some e =>
    if d.host.busy.toList.any fun b => b.any fun p => p.rawWrite && p.out.isNone then let x := d.draw; x.2.tearLine (Fin.ofNat 3 (x.1 % 3).toNat) e
    else d
  | none => d

/-- Where a stop falls in a commit in progress is not stated: free values choose it. A commit that waits for the scan writes nothing. -/
def Dev.commitStop (power : Bool) (d : Dev) : Dev :=
  if d.chart.commit.isSome && !d.unscanned && !d.chart.scanFault then
    let x := d.draw
    let y := x.2.draw
    let n := (x.1 % ((d.commitPlan.1.length + 1 : Nat) : Int)).toNat
    y.2.commitCut n (if power then some (Fin.ofNat 3 (y.1 % 3).toNat) else none)
  else d

/-! ### Erases (R366, R375 to R378) -/

/-- The erase allowance A (R378). -/
def Dev.allowance (d : Dev) : Nat := 64 + d.chart.runHours16 / 16 * 4 / 9
/-- An erase of the sector may start now, whatever asks for it. -/
def Dev.eraseOk (d : Dev) (s : Nat) : Bool :=
  s < 64 && d.chart.erasing.isNone && !d.retired s && decide (d.chart.tokens ≠ 0 ∧ d.chart.wear.toList.getD s 0 < d.allowance)

/-- An erase starts. -/
def Dev.eraseStart (s : Nat) (p : ErasePurpose) (d : Dev) : Dev :=
  if d.eraseOk s then d.modChart fun c => { c with tokens := c.tokens - 1, erasing := some (s, p) } else d

/-- A sector left by an interrupted or failed erase: a mixture of old and erased bits, its header invalid. -/
def Dev.tornSector (s : Nat) (d : Dev) : Dev :=
  d.modChart fun c =>
    { c with
      scheduled := if c.scheduled.contains s then c.scheduled else c.scheduled ++ [s],
      flash := c.flash.foldl (fun m e =>
        if e.1 / 8192 ≠ s then m
        else Tab.put (fun _ => 0xFF#8) m e.1 (if e.1 % 8192 < 16 then 0xFF else e.2 ||| Config.tornByte d.draws e.1)) c.flash }

/-- The sector of fewest lines of newest valid records, or by the lowest erase count where `static`; `live` gives the lines. -/
def pickSector (live wear : Nat → Nat) (static : Bool) (l : List Nat) : Option Nat :=
  let le (a b : Nat) : Bool := if static then wear a < wear b else live a < live b || live a = live b && wear a < wear b
  l.foldl (fun m s => match m with
    | some b => if le s b then some s else m
    | none => some s) none

/-- The newest valid records that lie in a sector. -/
def Dev.liveIn (d : Dev) (s : Nat) : List Rec :=
  d.newest.filterMap fun e => match e.2.1 with
    | some l => if l / 512 = s then some e.2.2 else none
    | none => none

/-- Sectors that reclamation may pick: of the record log, neither erased nor the one being appended to, below their allowance. -/
def Dev.reclaimable (d : Dev) : List Nat :=
  d.logSectors.filter fun s => !d.sectorErased s && d.eraseOk s && decide (d.chart.appendAt.map (· / 512) ≠ some s)

/-- A sector that reclamation may pick is marked for refresh: it comes ahead of the usual choice (R377). -/
def Dev.refreshPick (d : Dev) : Option Nat := d.reclaimable.find? fun s => d.chart.refresh.getLsbD s

/-- The sector that reclamation picks (R375 to R377): one marked for refresh, else after 1,000 erases the one of lowest erase
count, else the one of fewest live lines. -/
def Dev.reclaimPick (d : Dev) : Option Nat :=
  let lines (s : Nat) : Nat := ((d.liveIn s).map Rec.lines).sum
  let wear (s : Nat) : Nat := d.chart.wear.toList.getD s 0
  match d.refreshPick with
  | some s => some s
  | none => pickSector lines wear (1000 ≤ d.chart.logErases) d.reclaimable

/-- The erases counted towards the next pick by the lowest erase count, once a reclamation has picked (R376). -/
def Dev.erasesLeft (d : Dev) : Nat :=
  if 1000 ≤ d.chart.logErases && d.refreshPick.isNone then d.chart.logErases - 1000 else d.chart.logErases

/-- RECLAIM_START: an erase that is scheduled starts, else with fewer than 2 erased sectors the records of one sector are copied
and its erase starts. -/
def reclaimStart (d : Dev) : Dev :=
  if d.chartShut || d.pwr.pf ≠ .normal then d
  else
    match d.chart.scheduled.find? d.eraseOk with
    | some s => d.eraseStart s .schedule
    | none =>
      if 2 ≤ d.erasedLog.length then d
      else
        match d.reclaimPick with
        | none => d
        | some s =>
          let x := d.number ((d.liveIn s).map fun r => { r with copy := true })
          let p := x.2.appendAll false x.1
          if p.2.1 then
            ((p.2.2.modChart fun c => { c with logErases := d.erasesLeft }).eraseStart s .reclaim)
          else d

/-- WEAR_WAIT: an erase is needed, and no token or no sector below its allowance is there (R373, R378). -/
def Dev.wearWait (d : Dev) : Bool :=
  !d.chartShut && (d.commitWaits || d.chart.tallyWait.isSome || !d.chart.scheduled.isEmpty || d.erasedLog.length < 2) &&
    d.chart.erasing.isNone && !d.chart.scheduled.any d.eraseOk &&
    (d.chart.tokens = 0 || (d.reclaimable.isEmpty && !(List.range 8).any fun k => d.eraseOk (56 + k)))

/-! ### Tallies (R380 to R383) -/

/-- A base record: COUNT, GEN, PAGE. -/
structure TallyBase where
  count : Nat
  gen : Nat
  page : Nat
deriving DecidableEq, Repr

/-- The newest base record of a tally with its SEQ. -/
def Dev.tallyBase (d : Dev) (t : Nat) : Option (TallyBase × Nat) :=
  (d.record (0x0040 + t)).map fun e =>
    (⟨leNat (e.2.val.take 8), leNat ((e.2.val.drop 8).take 4), leNat ((e.2.val.drop 12).take 2) % 256⟩, e.2.seq)

/-- The flash line of line `k` of a tally-ring page. -/
def tallyLine (page k : Nat) : Nat := 16 * (1792 + page) + k
/-- The lines of a tally-ring page that hold tally lines. -/
def tallyLines (page : Nat) : List Nat := ((List.range 16).drop (if page % 32 = 0 then 1 else 0)).map (tallyLine page)

/-- A tally line's bytes (Table 14-6). -/
def tallyBytes (gen t amount : Nat) : List Byte :=
  let b := leBytes 4 gen ++ [b8 t, 0xA5, 0, 0] ++ leBytes 4 amount
  b ++ leBytes 4 (crc32c b).toNat

/-- The amount by which a line counts (R380). -/
def Dev.tallyAmount (d : Dev) (t gen l : Nat) : Nat :=
  let b := d.nvBytes (16 * l) 16
  if !d.lineBad l && leNat (b.drop 12) = (crc32c (b.take 12)).toNat && leNat ((b.drop 4).take 1) = t && leNat (b.take 4) = gen then
    leNat ((b.drop 8).take 4)
  else 0

/-- The value of a tally (R380). -/
def Dev.tallyValue (d : Dev) (t : Nat) : Nat :=
  match d.tallyBase t with
  | some (b, _) => satN 64 (b.count + ((tallyLines b.page).map (d.tallyAmount t b.gen)).sum)
  | none => 0

/-- The line that the next increment uses: behind the last one of the page that does not read as erased (R381). -/
def Dev.tallyNext (d : Dev) (page : Nat) : Option Nat :=
  match ((tallyLines page).filter fun l => !d.lineErased l).getLast? with
  | some l => if (l + 1) / 16 = l / 16 then some (l + 1) else none
  | none => (tallyLines page).head?

/-- The tallies that have a base record, with it. -/
def Dev.tallies (d : Dev) : List (Nat × TallyBase × Nat) :=
  (List.range 32).filterMap fun t => (d.tallyBase t).map fun b => (t, b.1, b.2)

/-- The page carried to last: that of the base record with the highest SEQ. -/
def Dev.ringHead (d : Dev) : Option Nat :=
  (d.tallies.foldl (fun (m : Option (Nat × Nat)) e => match m with
    | some b => if b.2 < e.2.2 then some (e.2.1.page, e.2.2) else m
    | none => some (e.2.1.page, e.2.2)) none).map (·.1)

/-- A tally-ring page is free: erased, in a usable sector, and no tally's current page (R382). -/
def Dev.pageFree (d : Dev) (p : Nat) : Bool :=
  d.usable (56 + p / 32) && (tallyLines p).all d.lineErased && !d.tallies.any fun e => e.2.1.page = p

/-- The next free page behind the head of the ring, outside sector `not`. -/
def Dev.nextPage (d : Dev) (not : Option Nat) : Option Nat :=
  let h := match d.ringHead with | some p => p + 1 | none => 0
  ((List.range 256).map fun i => (h + i) % 256).find? fun p => decide (some (56 + p / 32) ≠ not) && d.pageFree p

/-- A carry: a base record of the present value with GEN + 1 and the next free page, committed at once, alone (R382). -/
def Dev.carry (t : Nat) (not : Option Nat) (d : Dev) : Option Dev :=
  match d.nextPage not with
  | none => none
  | some p =>
    let gen := match d.tallyBase t with | some (b, _) => (b.gen + 1) % 4294967296 | none => 1
    let x := d.takeSeq
    (x.2.append false ⟨0x0040 + t, x.1, false, false, false, leBytes 8 (d.tallyValue t) ++ leBytes 4 gen ++ leBytes 2 p ++ [0, 0]⟩).map
      (·.2.bump 0x040020 16 16)

/-- Every tally whose current page lies in a sector is carried out of it; answers whether all could be. -/
def Dev.carryOut (s : Nat) (d : Dev) : Bool × Dev :=
  d.tallies.foldl (fun a e =>
    if e.2.1.page / 32 + 56 = s then match a.2.carry e.1 (some s) with | some x => (a.1, x) | none => (false, a.2) else a) (true, d)

/-- The sector ahead of the head in the ring is erased where it holds old lines, its tallies carried first (R382). -/
def Dev.ringAhead (d : Dev) : Dev :=
  let h := match d.ringHead with | some p => p / 32 | none => 0
  match ((List.range 7).map fun i => 56 + (h + 1 + i) % 8).find? fun s => !d.retired s with
  | none => d
  | some s =>
    if d.sectorErased s || !d.eraseOk s then d
    else
      let x := d.carryOut s
      if x.1 then x.2.eraseStart s .tally else d

/-- One tally increment; none where it must wait for an erase. -/
def Dev.tallyAdd (t amount : Nat) (d : Dev) : Option Dev :=
  let put (d : Dev) : Option Dev :=
    match d.tallyBase t with
    | some (b, _) => (d.tallyNext b.page).map fun l => d.nvProgram l (tallyBytes b.gen t amount)
    | none => none
  match put d with
  | some x => some x
  | none => ((d.carry t none).bind put).map Dev.ringAhead

/-- A tally command that waits tries again. -/
def Dev.tallyRetry (d : Dev) : Dev :=
  match d.chart.tallyWait with
  | none => d
  | some (src, p, t, a) =>
    match d.tallyAdd t a with
    | some x => (x.modChart fun c => { c with tallyWait := none }).complete src p (.ok a (satN 32 (x.tallyValue t)))
    | none => d.ringAhead

/-! ### The rows -/

/-- An outcome REFUSED with its reason (CHART_STATUS.LAST_REFUSE). -/
def Dev.nvRefuse (reason : Nat) (d : Dev) : CmdOut × Dev :=
  (.refused 0, (d.modChart fun c => { c with lastRefuse := BitVec.ofNat 4 reason }).bump 0x040028 0 16)

/-- SCANNING, then PF, else `f`. -/
def Dev.nvReady (f : Dev → Option CmdOut × Dev) (d : Dev) : Option CmdOut × Dev :=
  if d.chartShut then let r := d.nvRefuse 1; (some r.1, r.2)
  else if d.pwr.pf ≠ .normal then let r := d.nvRefuse 6; (some r.1, r.2)
  else f d

/-- Table 14-4: the key may be written by this source. -/
def keyWritable (src : CmdSrc) (k : Nat) : Bool :=
  (0x0100 ≤ k && k < 0x1000) || 0x8000 ≤ k || (src = .keeper && 0x1000 ≤ k && k < 0x8000)

/-- The bytes of a value carried from parameter word 1 on. -/
def valueOf (ws : List Word) (len : Nat) : List Byte := ((ws.drop 1).flatMap wordBytes).take len

/-- NV_WRITE (R370, R379). -/
def nvWriteBody (c : Cmd) (d : Dev) : Option CmdOut × Dev :=
  let key := pf c 0 0 16
  let len := pf c 0 16 12
  let used := [(0, 0, 16), (0, 16, 12)] ++ wholes 1 (len / 4) ++ (if len % 4 = 0 then [] else [(1 + len / 4, 0, 8 * (len % 4))])
  checkedLong c used (failIf (key = 0 || key = 65535) 0 ++ failIf (2048 < len) 16) (fun d =>
    let r : Rec := ⟨key, 0, len = 0, false, false, valueOf c.words len⟩
    let no (n : Nat) : Option CmdOut × Dev := let x := d.nvRefuse n; (some x.1, x.2)
    let m := d.newest
    if d.chartShut then no 1
    else if !keyWritable c.src key then no 2
    else if 12288 < liveLines (Tab.ins key (none, r) m) then no 4
    else if 4096 ≤ liveKeys m && (d.record key).isNone then no 3
    else if d.pwr.pf ≠ .normal then no 6
    else if 4294967295 ≤ d.chart.nextSeq then no 7
    else if bufBytes (d.chart.buf ++ [r]) ≤ 4096 then (some (.ok len), d.bufPut r)
    else (none, d.commitStart (.full c.src (inProg c 0x70) r))) d

/-- NV_READ (R368). -/
def nvReadBody (c : Cmd) (d : Dev) : Option CmdOut × Dev :=
  let len := pf c 3 0 12
  checked c [(0, 0, 16), whole 1, whole 2, (3, 0, 12)] [] (fun d =>
    if d.chartShut then d.nvRefuse 1
    else
      match d.record (pf c 0 0 16) with
      | none => (.ok 0 0, d)
      | some (at_, r) =>
        let d := match at_ with
          | some l =>
            let n := l + r.lines
            (d.eccCorr l n).modChart fun h =>
              { h with rewrite := if h.corr.any (fun x => l ≤ x && x < n) && !h.rewrite.contains r.key then h.rewrite ++ [r.key] else h.rewrite }
          | none => d
        let k := min len r.val.length
        (⟨if len < r.val.length then 1 else 0, k, 0, r.seq⟩, d.memWrite (pf c 1 0 1 = 1) (bufAddr c 1) (r.val.take k))) d

/-- NV_COMMIT (R373). -/
def nvCommitBody (c : Cmd) (d : Dev) : Option CmdOut × Dev :=
  checkedLong c [] [] (Dev.nvReady fun d =>
    if d.chart.buf.isEmpty then (some (.ok 0), d) else (none, d.commitStart (.command c.src (inProg c 0x72)))) d

/-- The flash byte of byte `k` of a raw transfer: it wraps within the page (R384). -/
def rawAddr (page off k : Nat) : Nat := 256 * page + (off + k) % 256

/-- The bytes of a raw transfer up to the safe point after `k` lines (R331). -/
def rawStop (off len : Nat) (k : Option Nat) : Nat :=
  match k with
  | some k => if k = 0 then 0 else min len (16 * k - off % 16)
  | none => len

/-- A raw read: the bytes before the first line with an uncorrectable error; `stop` bytes where it stands at a safe point. -/
def Dev.rawRead (c : Cmd) (page off len stop : Nat) (d : Dev) : Option CmdOut × Dev :=
  let n := ((List.range stop).takeWhile fun k => !d.lineBad (rawAddr page off k / 16)).length
  let bs := (List.range n).map fun k => d.nvGet (rawAddr page off k)
  let d := ((List.range n).map fun k => rawAddr page off k / 16).dedup.foldl (fun d l => d.eccCorr l (l + 1)) d
  let d := if n < stop then d.eccUncorr (rawAddr page off n / 16) else d
  let d := d.memWrite (pf c 1 0 1 = 1) (bufAddr c 1) bs
  if n < stop then (some (.partly n), d) else if n = len then (some (.ok n), d) else (none, d.stay c.src n false)

/-- A raw write: the lines in transfer order, or none of them; `stop` bytes where it stands at a safe point. -/
def Dev.rawWrite (c : Cmd) (page off stop : Nat) (bs : List Byte) (d : Dev) : Option CmdOut × Dev :=
  let ls := (List.range (bs.length / 16)).map fun i => (rawAddr page off (16 * i) / 16, (bs.drop (16 * i)).take 16)
  if ls.any fun e => e.1 % 512 = 0 || !d.lineErased e.1 then let r := d.nvRefuse 5; (some r.1, r.2)
  else
    let d := (ls.take (stop / 16)).foldl (fun d e => d.nvProgram e.1 e.2) d
    if stop = bs.length then (some (.ok bs.length), d)
    else (none, (d.modChart fun h => { h with rawNext := (ls.drop (stop / 16)).head? }).stay c.src stop true)

/-- NV_RAW_PAGE (R384); `data` is what DMA brought of a buffer in host memory. `stop`: it stands at the safe point after so many
lines when something ends it (R331). A limit that holds under DIR = write alone relates its field to DIR (R318). -/
def nvRawBody (data : List Byte) (stop : Option Nat) (c : Cmd) (d : Dev) : Option CmdOut × Dev :=
  let page := pf c 0 0 11
  let off := pf c 0 16 8
  let wr := pf c 0 24 1 = 1
  let len := pf c 3 0 9
  checkedLong c [(0, 0, 11), (0, 16, 8), (0, 24, 1), whole 1, whole 2, (3, 0, 9)]
    (failIf (len = 0 || 256 < len) 96 ++ failIf (wr && len % 16 ≠ 0) 24 ++ failIf (wr && (page < 1728 || 1791 < page)) 0 ++
      failIf (wr && off % 16 ≠ 0) 16) (fun d =>
    if d.chartShut then let r := d.nvRefuse 1; (some r.1, r.2)
    else if wr then
      d.rawWrite c page off (rawStop 0 len (d.stopPoint c stop)) (d.bufRead (pf c 1 0 1 = 1) (bufAddr c 1) len data)
    else d.rawRead c page off len (rawStop off len stop)) d

/-- NV_TALLY_ADD (R381). -/
def nvTallyBody (c : Cmd) (d : Dev) : Option CmdOut × Dev :=
  let t := pf c 0 0 5
  let a := pf c 1 0 16
  checkedLong c [(0, 0, 5), (1, 0, 16)] (failIf (a = 0) 32) (Dev.nvReady fun d =>
    match d.tallyAdd t a with
    | some x => (some (.ok a (satN 32 (x.tallyValue t))), x)
    | none => (none, (d.modChart fun h => { h with tallyWait := some (c.src, inProg c 0x74, t, a) }).ringAhead)) d

/-- COMMIT_TIMER_EXPIRY: the commit starts, behind a command that holds the store (R374). A commit in progress writes the buffer
itself: the timer stays due until it has. -/
def commitTimer (d : Dev) : Dev :=
  if d.chart.timerOn && !d.chartShut && d.chart.commit.isNone then
    d.modChart fun c => { c with timerOn := false, commit := if c.buf.isEmpty then none else some .timer }
  else d

/-- NV_WAIT_TIMEOUT: a command that has waited 5 s ends BUSY; the buffer is kept (R373, Table 14-8). -/
def nvWaitTimeout (d : Dev) : Dev :=
  let drop := d.modChart fun c => { c with commit := none }
  match d.chart.tallyWait, d.chart.commit with
  | some (src, p, _, _), _ => (d.modChart fun c => { c with tallyWait := none }).complete src p (.busy 0)
  | none, some (.command src p) => if d.commitWaits then drop.complete src p (.busy 0) else d
  | none, some (.full src p _) => if d.commitWaits then drop.complete src p (.busy 0) else d
  | none, _ => d

/-- ERASE_DONE: the sector is erased and its header written; `ok` is whether it passes its verify (R366, R376). -/
def eraseDone (ok : Bool) (d : Dev) : Dev :=
  match d.chart.erasing with
  | none => d
  | some (s, _) =>
    let n := d.chart.wear.toList.getD s 0 + 1
    let d := (d.modChart fun c =>
      { c with erasing := none, wear := c.wear.setIfInBounds s n, logErases := if s < 54 then c.logErases + 1 else c.logErases,
               bad := c.bad.filter fun l => l / 512 ≠ s, corr := c.corr.filter fun l => l / 512 ≠ s,
               retired := if 100000 ≤ n then c.retired ||| BitVec.ofNat 64 (2 ^ s) else c.retired }).bump 0x040028 16 16
    if ok then
      let q := d.chart.sectSeq + 1
      (((d.modChart fun c =>
        { c with flash := c.flash.filter (fun e => e.1 / 8192 ≠ s), sectSeq := q, scheduled := c.scheduled.filter (· ≠ s),
                 fails := Tab.put (fun _ => 0) c.fails s 0,
                 refresh := c.refresh &&& ~~~(BitVec.ofNat 64 (2 ^ s)) }).nvProgram (512 * s) (sectorHeader s n q))).tallyRetry
    else
      let f := Tab.get (fun _ => 0) d.chart.fails s + 1
      let d := (d.tornSector s).modChart fun c => { c with fails := Tab.put (fun _ => 0) c.fails s f }
      if 3 ≤ f then
        (d.modChart fun c =>
          { c with scheduled := c.scheduled.filter (· ≠ s), retired := c.retired ||| BitVec.ofNat 64 (2 ^ s) }).tallyRetry
      else d.tallyRetry

/-- ERASE_TOKEN_GAIN. -/
def eraseToken (d : Dev) : Dev := (d.modChart fun c => { c with tokens := min 64 (c.tokens + 1) }).tallyRetry

/-- A sector is marked for refresh (R377): a raw sector is reported, the tallies of a tally-ring sector are carried. -/
def Dev.refreshMark (s : Nat) (d : Dev) : Dev :=
  let d := d.modChart fun c => { c with refresh := c.refresh ||| BitVec.ofNat 64 (2 ^ s) }
  if sectorRegion s = 1 then d.occur 24 s else if sectorRegion s = 2 then (d.carryOut s).2 else d

/-- SCRUB of one line (R377): read once normally, with a corrected bit or an uncorrectable error, and once against the margin. -/
def scrubLine (l : Nat) (corrected margin : Bool) (d : Dev) : Dev :=
  if d.chartShut then d
  else
    let s := l / 512
    let d := if d.lineBad l then d.eccUncorr l
      else if corrected then
        (d.bump 0x040024 16 16).modChart fun c => { c with corr := if c.corr.contains l then c.corr else l :: c.corr }
      else d
    if corrected && !d.lineBad l || margin then d.refreshMark s else d

/-- CHART_RAW_ERASE is accepted now (R385). -/
def Dev.rawEraseOk (d : Dev) (s : Nat) : Bool := !d.chartShut && d.eraseOk s

/-- The accepted erase of a raw sector. -/
def Dev.rawErase (s : Nat) (d : Dev) : Dev := d.eraseStart s .raw

/-! ### Scan, resets and power failure -/

/-- An image of the AON RAM copies from the run record: the counts never fall. -/
def Dev.loadRun (d : Dev) : Dev :=
  match d.record 0x0010 with
  | some (_, r) => d.modChart fun c =>
    { c with runHours16 := max c.runHours16 (leNat (r.val.take 8)), powerCycles := max c.powerCycles (leNat ((r.val.drop 8).take 4)),
             anchorEntries := max c.anchorEntries (leNat ((r.val.drop 12).take 4)) }
  | none => d

/-- The wear table: from the headers; of a sector whose header is invalid, from the wear table record (R366). -/
def Dev.loadWear (d : Dev) : Dev :=
  let rec_ := (d.record 0x0002).map (·.2.val)
  d.modChart fun c =>
    { c with wear := Vector.ofFn fun (s : Fin 64) =>
        if d.sectorOk s then d.headWord s 1
        else match rec_ with
          | some v => max (c.wear.get s) (leNat ((v.drop (4 * s.val)).take 4))
          | none => c.wear.get s }

/-- The append point: the end of the written sector of highest SECT_SEQ (R387 step 4). -/
def Dev.scanAppend (d : Dev) : Option Nat :=
  match (d.logSectors.filter fun s => !d.sectorErased s).foldl (fun (b : Option Nat) s => match b with
      | some m => if d.headWord m 2 < d.headWord s 2 then some s else b
      | none => some s) none with
  | some s => (d.walkSector s).at_
  | none => none

/-- The scan (R387), and R388 for the buffer that a BLOCK_RESET kept. -/
def Dev.chartScan (d : Dev) : Dev :=
  let bad := ((List.range 64).map (512 * ·)).filter d.lineBad ++ d.logSectors.flatMap fun s => (d.walkSector s).bad
  let torn := (d.logSectors.map fun s => (d.walkSector s).torn).sum
  let top := (d.logRecs.map (·.2.seq)).foldl max 0
  let keys := (d.newest.filter fun e => match e.2.1 with
    | some l => d.chart.corr.any fun x => l ≤ x && x < l + e.2.2.lines
    | none => false).map (·.1)
  let app := d.scanAppend
  let buf := d.chart.buf
  let d := bad.foldl (fun d l => d.eccUncorr l) (d.bumpBy torn 0x040020 0 16)
  let d := d.modChart fun c =>
    { c with scanning := false, nextSeq := top + 1, appendAt := app, rewrite := keys,
             sectSeq := ((List.range 64).filter d.sectorOk).foldl (fun m s => max m (d.headWord s 2)) 0,
             scheduled := (List.range 64).filter fun s => !d.sectorOk s && !d.retired s && decide (c.erasing.map (·.1) ≠ some s) }
  let d := d.loadWear.loadRun
  let x := d.number buf
  x.2.modChart fun c =>
    { c with buf := x.1, commit := if c.commit.isNone && !x.1.isEmpty then some .timer else c.commit }

/-- The command that the store holds ends ABORTED. -/
def Dev.nvAbort (d : Dev) : Dev :=
  let d := d.abortOps 0x73
  let d := match d.chart.tallyWait with
    | some (src, p, _, _) => (d.modChart fun c => { c with tallyWait := none }).complete src p (.aborted 0)
    | none => d
  match d.chart.commit with
  | some (.command src p) => (d.modChart fun c => { c with commit := if c.extended then some .powerFail else none }).complete src p (.aborted 0)
  | some (.full src p _) => (d.modChart fun c => { c with commit := if c.extended then some .powerFail else none }).complete src p (.aborted 0)
  | some .timer => d.modChart fun c => { c with commit := if c.extended then some .powerFail else none }
  | _ => d

/-- A BLOCK_RESET of CHART (R374, R388): the store scans again, the buffer is kept. -/
def Dev.chartReset (d : Dev) : Dev := ((d.commitStop false).modChart fun c => { c with scanning := true }).nvAbort

/-- An erase in progress is suspended for good (R372). -/
def Dev.eraseSuspend (d : Dev) : Dev :=
  match d.chart.erasing with
  | some (s, _) => ((d.tornSector s).modChart fun c => { c with erasing := none }).draw.2
  | none => d

/-- The power-failure or Anchor-entry commit starts; a commit in progress is extended, a raw write stops (R372). -/
def Dev.chartPowerFail (anchor : Bool) (d : Dev) : Dev :=
  let d := d.eraseSuspend.endWhere (·.rawWrite) CmdOut.partly
  let d := match d.chart.tallyWait with
    | some (src, p, _, _) =>
      let r := (d.modChart fun c => { c with tallyWait := none }).nvRefuse 6
      r.2.complete src p r.1
    | none => d
  d.modChart fun c =>
    { c with timerOn := false, extended := c.extended || c.commit.isSome,
             commit := some (match c.commit with | some k => k | none => if anchor then .anchor else .powerFail) }

/-- The copies in AON RAM go with the AON supply (R360, R371). -/
def Dev.aonLost (d : Dev) : Dev :=
  d.modChart fun c => { c with wear := Vector.replicate 64 0, runHours16 := 0, powerCycles := 0, anchorEntries := 0 }

/-- A device reset as the store sees it: the buffer is lost, the tokens are full; AON RAM and flash stay. `power` cuts a line in
the middle. -/
def Dev.chartDeviceReset (power : Bool) (d : Dev) : Dev :=
  let d := (onlyIf power Dev.rawTear (d.commitStop power)).eraseSuspend
  d.modChart fun c =>
    { c with buf := [], rawNext := none, appendAt := none, rewrite := [], tokens := 64, scanning := false, commit := none, extended := false,
             timerOn := false, tallyWait := none, lastRefuse := 0, scanFault := false, scheduled := [], refresh := 0, nextSeq := 0,
             fails := [], logErases := 0 }

def execNvWrite (c : Cmd) (s : State) : Host.Outcome State Fault Refusal := run (command 0x70 c (nvWriteBody c)) s
def execNvRead (c : Cmd) (s : State) : Host.Outcome State Fault Refusal := run (command 0x71 c (nvReadBody c)) s
def execNvCommit (c : Cmd) (s : State) : Host.Outcome State Fault Refusal := run (command 0x72 c (nvCommitBody c)) s
def execNvRawPage (c : Cmd) (p : Piece) (s : State) : Host.Outcome State Fault Refusal :=
  run (command 0x73 c (nvRawBody p.data p.stop c)) s
def execNvTallyAdd (c : Cmd) (s : State) : Host.Outcome State Fault Refusal := run (command 0x74 c (nvTallyBody c)) s
def execCommitTimerExpiry (s : State) : Host.Outcome State Fault Refusal := run commitTimer s
def execNvWaitTimeout (s : State) : Host.Outcome State Fault Refusal := run nvWaitTimeout s
def execReclaimStart (s : State) : Host.Outcome State Fault Refusal := run reclaimStart s
def execEraseDone (ok : Bool) (s : State) : Host.Outcome State Fault Refusal := run (eraseDone ok) s
def execEraseTokenGain (s : State) : Host.Outcome State Fault Refusal := run eraseToken s
def execScrub (line : BitVec 15) (corrected margin : Bool) (s : State) : Host.Outcome State Fault Refusal :=
  run (scrubLine line.toNat corrected margin) s

end Sys2Proof.Machine
end

