-- ==== Sys2Proof/Machine/HostIf.lean ====
section
/-! DEFINITION. The host interface: register violations (R70, R71), doorbells, ring set-up and errors, fetches, interrupts and
the host-interface reset (chapter 12). -/

namespace Sys2Proof.Machine

/-! ### Violations (R70 to R73) -/

/-- The reasons of Table 2-8. -/
inductive Reason where
  | locked | guard | ro | range | unimpl | early
deriving DecidableEq, Repr

def Reason.code : Reason → Nat
  | .locked => 1 | .guard => 2 | .ro => 3 | .range => 4 | .unimpl => 5 | .early => 6

/-- The SOURCE codes of REG_VIOL_INFO. -/
def ifaceIdx : Iface → Fin 4
  | .pcie => 0 | .spi => 1 | .keeper => 2 | .jtag => 3

/-- A violation: counted, reported to the Watch, captured or counted in MORE, and logged at most 1,000 times a second. `space` is
0 for BAR0, 1 for BAR2. -/
def Dev.violate (i : Iface) (space off : Nat) (why : Reason) (write : Bool) (data : Word) (d : Dev) : Dev :=
  let addr := word (off % 4194304 + space * 16777216)
  let info := why.code * 16777216 + (ifaceIdx i).val * 1048576 + bitAt 19 write
  let d := (d.bump 0x050010 0 32).occur 0 0
  let d := if bit (d.rd 0x050004) 31 then d.bump 0x050004 0 16
    else ((d.wr 0x050000 addr).wr 0x050004 (word (2147483648 + info))).wr 0x050008 data
  let sec := d.clk.aonUs / 1000000
  let n := if d.chk.logSecond = sec then d.chk.logged else 0
  let d := d.modChk fun c => { c with logSecond := sec, logged := n + 1 }
  if n < 1000 then d.logEnt 0x81 0 5 (wordBytes addr ++ wordBytes (word info) ++ wordBytes data) else d

/-- The SPI status byte of a transaction (Table 2-7). -/
def Dev.spiStatus (why : Option Reason) (d : Dev) : Byte :=
  b8 (bitAt 7 why.isSome + bitAt 6 d.irqN + bitAt 5 d.top.ready + (match why with | some r => r.code | none => 0))

/-! ### Doorbells (R313, R314, R39) -/

/-- A ring error halts its ring (R314); the event of a failing event ring stands in the log ring. -/
def Dev.ringError (r : Fin 26) (code index : Nat) (d : Dev) : Dev :=
  let was := d.irqBit r
  let d := (d.modRing r fun g => { g with err := true, errCode := BitVec.ofNat 3 code }).bump (ringOff r + 0x10) 0 16
  let d := d.occur 25 r
  let data := b8 r :: b8 code :: leBytes 2 index
  let d := if r = 8 then d.ringEntry 9 (entryBytes 0x11 r 14 false d.stamp data) else d.event 0x11 r 14 data
  d.notice r was false

/-- The slots from `a` up to `b` − 1, modulo the ring size. -/
def between (size a b i : Nat) : Bool := (i + size - a) % size < (b + size - a) % size

/-- An accepted doorbell index of an enabled ring: it offers entries of a host-filled ring, and returns those of a ring that the
device fills. -/
def Dev.doorbell (r : Fin 26) (i : Nat) (d : Dev) : Dev :=
  let g := d.ring r
  let size := d.ringSize r
  if !d.ringEn r || g.err then d
  else if size ≤ i then d.ringError r 1 i
  else if deviceFilled r then
    if d.unreturned r < (i + size - g.use) % size then d.ringError r 2 i
    else
      let was := d.irqBit r
      let d := (d.modRing r fun g => { g with use := i }).notice r was false
      if r = 8 || r = 9 then d.overflow r
      else if h : 4 ≤ r.val ∧ r.val < 8 then d.retireBad 16 (.cq ⟨r.val - 4, by omega⟩) else d
  else
    let was := d.irqBit r
    (d.modRing r fun g => { g with use := i, done := g.done.filter fun s => !between size g.use i s }).notice r was false

/-- The checks of R39 on a doorbell value. -/
def doorbellOk (r : Nat) (v : Nat) : Bool := v / 65536 % 256 = r && v / 16777216 = 0

/-- A doorbell write of an interface at its ring (R39, R68, R69): discarded during a host-interface reset; before READY the value
is kept and no ring is processed. Answers the reason where it is discarded. -/
def Dev.doorbellAt (i : Iface) (r : Fin 26) (v : Nat) (d : Dev) : Option Reason × Dev :=
  let w := word (v % 4294967296)
  if d.host.resetCause.isSome then (some .early, d.violate i 1 (8 * r) .early true w)
  else if !doorbellOk r v then (some .range, d.violate i 1 (8 * r) .range true w)
  else
    let d := d.modRing r fun g => { g with db := w }
    (none, if d.top.ready && d.blockReady 14 then d.doorbell r (v % 65536) else d)

/-- A word written to the MSI-X table; a vector that is unmasked while pending is signalled (PCI Express Base Specification). -/
def Dev.msixWrite (k : Nat) (v : Word) (d : Dev) : Dev :=
  (d.modHost fun h => { h with msix := Tab.put msixReset h.msix k v }).msixFlush

/-- DOORBELL_WRITE: a BAR2 write of PCIe. -/
def doorbellWrite (off : Nat) (wide : Bool) (v : Nat) (d : Dev) : Dev :=
  let lo := v % 4294967296
  if h : off < 0xD0 then
    let r : Fin 26 := ⟨off / 8, by omega⟩
    if off % 8 = 0 then (d.doorbellAt .pcie r (if wide then v else lo)).2
    else d.violate .pcie 1 off (if d.host.resetCause.isSome then .early else .range) true (word lo)
  else if 0x400 ≤ off && off < 0x800 then
    let k := (off - 0x400) / 4
    let d := d.msixWrite k (word lo)
    if wide && k + 1 < 256 then d.msixWrite (k + 1) (word (v / 4294967296)) else d
  else if 0x800 ≤ off && off < 0x808 then d
  else d.violate .pcie 1 off .unimpl true (word lo)

/-- A word of BAR2 as PCIe reads it: the last accepted doorbell value, or a word of the MSI-X structures; none elsewhere. -/
def Dev.bar2Word (d : Dev) (off : Nat) : Option Word :=
  if h : off < 0xD0 then (if off % 8 = 0 then some (d.ring ⟨off / 8, by omega⟩).db else some 0)
  else if 0x400 ≤ off && off < 0x800 then some (Tab.get msixReset d.host.msix ((off - 0x400) / 4))
  else if off = 0x800 then some (word (d.host.pending.toNat % 4294967296))
  else if off = 0x804 then some (word (d.host.pending.toNat / 4294967296))
  else none

/-! ### Ring set-up (R311, R312) -/

/-- A command fetched from CQq, or in execution, has not completed. -/
def Dev.cqBusy (q : Fin 4) (d : Dev) : Bool := !(d.ring (cqRing q)).fetched.isEmpty || (d.host.busy.get (srcIdx (.cq q))).isSome

/-- A write of RINGr_CFG is out of range beyond its single fields. -/
def Dev.ringCfgBad (r : Nat) (old new : Word) (d : Dev) : Bool :=
  let en0 := bit old 31
  let en1 := bit new 31
  (en0 && fld old 0 31 ≠ fld new 0 31) ||
    (if h : r < 4 then en1 && !en0 && !d.ringEn (r + 4)
     else if h : r < 8 then en0 && !en1 && (d.ringEn (r - 4) || d.cqBusy ⟨r - 4, by omega⟩)
     else false) ||
    (bit new 30 && 262144 < d.ringBase r + headSize r + 2 ^ fld new 16 4 * entrySize r)

/-- What an accepted RINGr_CFG write leads to: at EN 0 → 1 the indices and the error clear, and an OVERFLOW entry follows drops. -/
def Dev.ringCfgDone (r : Fin 26) (old new : Word) (d : Dev) : Dev :=
  if bit new 31 && !bit old 31 then
    (d.modRing r fun g =>
      { g with devIdx := 0, use := 0, phase := true, err := false, errCode := 0, lastFetched := none, lastRetired := none,
               signalled := none, itrWait := false, done := [] }) |> fun d => if r = 8 || r = 9 then d.overflow r else d
  else d

/-- ITR_EXPIRY (R329). -/
def itrExpiry (r : Fin 26) (d : Dev) : Dev :=
  if (d.ring r).itrWait then
    if d.irqBit r then d.signal r else d.modRing r fun g => { g with itrWait := false }
  else d

/-! ### Fetches (R318, R319) -/

/-- A descriptor of a ring in BAR4. -/
def Dev.bar4Entry (d : Dev) (r i : Nat) : List Word := bytesWords (d.bar4Read (d.entryAddr r i) (entrySize r))

/-- How many entries a host-filled ring may fetch now: offered, and at most 4 ahead on a command ring. -/
def Dev.fetchable (d : Dev) (r : Fin 26) : Nat :=
  let g := d.ring r
  let n := (g.use + d.ringSize r - g.devIdx) % d.ringSize r
  if r.val < 4 then min n (4 - g.fetched.length) else n

/-- The ring fetches now: host-filled, enabled, not halted, HOSTIF ready, its memory within reach, and for a TX ring its port UP
(R252). -/
def Dev.fetchOpen (d : Dev) (r : Fin 26) : Bool :=
  !deviceFilled r && d.ringEn r && !(d.ring r).err && d.top.ready && d.blockReady 14 && (d.ringBar4 r || d.dmaOpen) &&
    (r.val < 4 || (d.port (Fin.ofNat 8 (r.val - 10))).st = .up)

/-- DESCRIPTOR_FETCH: `res` is what DMA brought of a ring in host memory. -/
def descriptorFetch (r : Fin 26) (res : Fetch (List (List Word))) (d : Dev) : Dev :=
  let n := d.fetchable r
  let g := d.ring r
  if !d.fetchOpen r || n = 0 then d
  else
    match d.ringBar4 r, res with
    | false, .error => d.ringError r 3 g.use
    | b4, res =>
      let l := if b4 then (List.range n).map fun i => d.bar4Entry r ((g.devIdx + i) % d.ringSize r)
        else (match res with | .data l => l.take n | .error => [])
      if l.isEmpty then d
      else
        let es := l.zipIdx.map fun e => ((g.devIdx + e.2) % d.ringSize r, (List.range (entrySize r / 4)).map (wordAt e.1))
        let d := d.modRing r fun g =>
          { g with fetched := g.fetched ++ es, devIdx := (g.devIdx + l.length) % d.ringSize r,
                   lastFetched := es.getLast?.map fun e => BitVec.ofNat 16 e.1 }
        if h : r.val < 4 then d.retireBad 16 (.cq ⟨r.val, h⟩)
        else if h : 10 ≤ r.val ∧ r.val < 18 then d.txCommit ⟨r.val - 10, by omega⟩ else d

/-- The oldest fetched descriptor of a source that waits for its external block. -/
def Dev.extHead (d : Dev) (src : CmdSrc) : Option (Nat × List Word) :=
  match d.fetchedOf src with
  | e :: _ => if descExt e.2 && (headerFail (src = .keeper) e.2).isNone && (d.host.ext.get (srcIdx src)).isNone && d.accepts src then some e else none
  | [] => none

/-- EXT_BLOCK_FETCH: step 2 of R318; a block in BAR4 is read there. No request for host memory is issued without Bus Master Enable
(R308). -/
def extBlockFetch (src : CmdSrc) (res : Fetch (List Word)) (d : Dev) : Dev :=
  match d.extHead src with
  | none => d
  | some e =>
    let w := wordAt e.2
    let n := descExtLen e.2
    let a := (w 2).toNat / 8 * 8 + (w 3).toNat * 4294967296
    let got : Option (List Word) :=
      if bit (w 2) 0 then (if a + n ≤ 262144 then some (bytesWords (d.bar4Read a n)) else none)
      else match res with | .data l => some ((List.range (n / 4)).map (wordAt l)) | .error => none
    if !bit (w 2) 0 && !d.dmaOpen then d
    else match got with
    | some l => d.modHost fun h => { h with ext := h.ext.set (srcIdx src) (some l) }
    | none => (d.retireHead src e .notDone).retireBad 16 src

/-- EXT_BLOCK_TIMEOUT. -/
def extBlockTimeout (src : CmdSrc) (d : Dev) : Dev :=
  match d.extHead src with
  | some e => (d.retireHead src e .timeout).retireBad 16 src
  | none => d

/-! ### Commands that are stopped (R319, R331) -/

/-- PWR_OPP, ANCHOR_ENTER and NV_COMMIT have no safe point. -/
def noSafePoint (op : Nat) : Bool := op = 0x90 || op = 0x91 || op = 0x72

/-- A commit that loses its command runs on as one of the device. -/
def CommitKind.orphan (src : CmdSrc) : CommitKind → CommitKind
  | .full s p r => if s = src then .timer else .full s p r
  | k => k

/-- What the blocks hold for a command in progress of `src` is given up; a committed PACKET_SEND that has not begun has its
NOT_SENT result (R254). -/
def Dev.unhold (src : CmdSrc) (d : Dev) : Dev :=
  let mine (f : TxFrame) : Bool := decide (f.cmd.map (·.1) = some src)
  let d := forFin 8 (fun p d =>
    let l := (d.port p).txq.filter mine
    let d := d.modPort p fun x => { x with txq := x.txq.filter fun f => !mine f }
    l.foldl (fun d f => if f.tsReq then d.txtsPush p d.tbGr (d.txtsNotSent p f.tsId) else d) d) d
  let d := d.modChart fun c =>
    { c with commit := c.commit.map (CommitKind.orphan src),
             tallyWait := match c.tallyWait with | some (s, x) => if s = src then none else some (s, x) | none => none }
  d.modFw fun f => { f with activate := match f.activate with | some (s, p) => if s = src then none else some (s, p) | none => none }

/-- The progress of a command in progress when it is stopped: the stage of FW_ACTIVATE, else what it had done at its last safe point. -/
def Dev.progressOf (d : Dev) (p : InProg) : Nat := if p.op = 0x81 then d.fw.stage.toNat else p.progress

/-- COMMAND_TIMEOUT: 10 s after its acceptance (R319). A command that has ended and waits for its completion ring stays so. -/
def commandTimeout (src : CmdSrc) (d : Dev) : Dev :=
  match d.host.busy.get (srcIdx src) with
  | some p => if noSafePoint p.op.toNat || p.out.isSome then d else (d.unhold src).complete src p (.timeout (d.progressOf p))
  | none => d

/-! ### Host-interface reset (R331 to R334) -/

/-- Step 2 of R331 for one command ring: a command without a safe point runs on, one that has ended is recorded as it ended, any
other ends ABORTED with no completion. -/
def Dev.abortCq (q : Fin 4) (d : Dev) : Dev :=
  match d.host.busy.get (srcIdx (.cq q)) with
  | some p =>
    match p.out with
    | some o => (d.recordIp q p o).cqRetire q p
    | none =>
      if noSafePoint p.op.toNat then d
      else
        let n := d.progressOf p
        ((d.unhold (.cq q)).recordIp q p (.aborted n)).modHost fun h => { h with busy := h.busy.set (srcIdx (.cq q)) none }
  | none => d

/-- A host-interface reset starts (steps 1 and 2 of R331); one that runs already goes on. -/
def Dev.hostReset (cause : Nat) (d : Dev) : Dev :=
  if d.host.resetCause.isSome || !d.top.ready then d
  else
    let d := (d.modHost fun h =>
      { h with resetCause := some (b8 cause, d.stamp), resets := h.resets + 1, ip := Vector.replicate 4 none }).modTop fun t =>
        { t with blk := t.blk &&& ~~~(BitVec.ofNat 17 16384) }
    forFin 4 Dev.abortCq (d.bump 0x2C0008 0 16)

/-- The recovery record of CQq (Table 12-14), its first 32 bytes. -/
def Dev.recoveryBytes (d : Dev) (q : Fin 4) (cause : Byte) (mem : Bool) (t : Stamp) : List Byte :=
  let idx (o : Option (BitVec 16)) : List Byte := leBytes 2 ((o.getD 0xFFFF).toNat)
  let g := d.ring (cqRing q)
  let ip : List Byte := match d.host.ip.get q with
    | some (p, st) => leBytes 2 p.seq.toNat ++ [p.op, b8 (st % 16)] ++ leBytes 2 p.progress ++ leBytes 2 p.index.toNat
    | none => List.replicate 8 0
  leBytes 2 0x5243 ++ [cause, b8 (bitAt 0 (d.host.ip.get q).isSome + bitAt 1 mem)] ++ leBytes 4 d.host.resets ++
    idx g.lastFetched ++ idx g.lastRetired ++ ip ++ tripleBytes t.t

/-- Step 3 of R331 for one command ring. -/
def Dev.recoverCq (cause : Byte) (t : Stamp) (q : Fin 4) (d : Dev) : Dev :=
  let r := cqRing q
  let mem := d.ringEn r && (d.ringBar4 r || d.dmaOpen)
  let rec_ := d.recoveryBytes q cause mem t
  let d := d.wrWords (0x2C0100 + 0x20 * q) (bytesWords rec_)
  if mem then d.memWrite (d.ringBar4 r) (d.ringBase r) (rec_ ++ List.replicate 32 0) else d

/-- Steps 3 to 5 of R331, once no command ring has a command in progress: RECOVERY_RECORD. -/
def recoveryRecord (d : Dev) : Dev :=
  match d.host.resetCause with
  | none => d
  | some (cause, t) =>
    if (List.finRange 4).any fun q => (d.host.busy.get (srcIdx (.cq q))).isSome then d
    else
      let d := forFin 4 (Dev.recoverCq cause t) d
      let d := forFin 26 (fun r d =>
        (d.wrF (ringOff r + 8) 31 1 0).modRing r fun g => { Ring.reset with seq := g.seq, lost := g.lost }) d
      let d := forFin 8 (fun p d => d.modPort p fun x => { x with txq := x.txq.map fun f => { f with slot := none } }) d
      (d.modHost fun h =>
        { h with resetCause := none, stalled := [], ext := Vector.ofFn fun i => if i = 4 then h.ext.get 4 else none,
                 passed := Vector.ofFn fun i => if i = 4 then h.passed.get 4 else 0 }).modTop fun t =>
        { t with blk := t.blk ||| BitVec.ofNat 17 16384 }

/-- What a reset of the PCIe function clears: its configuration and the MSI-X structures; a conventional reset takes the link down. -/
def Dev.pcieClear (flr : Bool) (d : Dev) : Dev :=
  d.modHost fun h =>
    { h with busMaster := false, msixOn := false, msixMask := false, mps := 0, mrrs := 2, bars := Vector.replicate 3 0, msix := [],
             pending := 0, stalled := [], pcieUp := flr && h.pcieUp, training := h.training || (h.pcieUp && !flr) }

/-- PCIE_RESET. -/
def pcieReset (flr : Bool) (d : Dev) : Dev := (d.pcieClear flr).hostReset (if flr then 2 else 1)

/-- The size of BAR0, BAR2 and BAR4. -/
def barSize (k : Fin 3) : Nat := if k = 0 then 4194304 else if k = 1 then 4096 else 262144

/-- A configuration register (R308) in the layout of the PCI Express Base Specification (log entry 68). -/
def Dev.cfgWord (d : Dev) (r : CfgReg) : BitVec 64 :=
  let h := d.host
  BitVec.ofNat 64 (match r with
    | .id => 0x7512 * 65536 + Config.vendorId.toNat
    | .command _ => bitAt 2 h.busMaster
    | .bar k _ => (h.bars.get k).toNat + (if k = 2 then 12 else 4)
    | .msixControl .. => bitAt 15 h.msixOn + bitAt 14 h.msixMask + 63
    | .deviceCaps => bitAt 28 true + 2
    | .deviceControl .. => h.mrrs.val * 4096 + h.mps.val * 32)

/-- What a configuration write sets; the address bits of a BAR below its size read 0. -/
def Dev.cfgWrite (r : CfgReg) (d : Dev) : Dev :=
  match r with
  | .id | .deviceCaps => d
  | .command b => d.modHost fun h => { h with busMaster := b }
  | .bar k v => d.modHost fun h => { h with bars := h.bars.set k (BitVec.ofNat 64 (v.toNat / barSize k * barSize k)) }
  | .msixControl e m => d.modHost fun h => { h with msixOn := e, msixMask := m }
  | .deviceControl a b => d.modHost fun h => { h with mps := a, mrrs := b }

/-- What waited for Bus Master Enable or for the MSI-X masks leaves as they allow it. -/
def Dev.dmaFlush (d : Dev) : Dev :=
  (onlyIf d.dmaOpen (fun d => d.modHost fun h => { h with posted := h.posted ++ h.stalled, stalled := [] }) d).msixFlush

/-- PCIE_CONFIG_REQUEST on a link that is up: before READY it is answered with Retry Status and changes nothing (R420); a read is
answered with the register's bytes. -/
def pcieConfig (write : Bool) (r : CfgReg) (d : Dev) : Dev :=
  if !d.host.pcieUp then d
  else if !d.top.ready then d.answer 0 ⟨[], 0, false, true⟩
  else if write then ((d.cfgWrite r).dmaFlush).answer 0 ⟨[], 0, false, false⟩
  else d.answer 0 ⟨leBytes (match r with | .bar .. => 8 | _ => 4) (d.cfgWord r).toNat, 0, false, false⟩

/-- PCIE_LINK_UP: link training completes (R420). -/
def pcieLinkUp (d : Dev) : Dev :=
  if d.host.training then d.modHost fun h => { h with training := false, pcieUp := true } else d

def execDoorbellWrite (off : BitVec 12) (wide : Bool) (v : BitVec 64) (s : State) : Host.Outcome State Fault Refusal :=
  run (doorbellWrite off.toNat wide v.toNat) s
def execDescriptorFetch (r : Fin 26) (res : Fetch (List (List Word))) (s : State) : Host.Outcome State Fault Refusal :=
  run (descriptorFetch r res) s
def execExtBlockFetch (src : CmdSrc) (res : Fetch (List Word)) (s : State) : Host.Outcome State Fault Refusal :=
  run (extBlockFetch src res) s
def execExtBlockTimeout (src : CmdSrc) (s : State) : Host.Outcome State Fault Refusal := run (extBlockTimeout src) s
def execCommandTimeout (src : CmdSrc) (s : State) : Host.Outcome State Fault Refusal := run (commandTimeout src) s
def execItrExpiry (r : Fin 26) (s : State) : Host.Outcome State Fault Refusal := run (itrExpiry r) s
def execPcieReset (flr : Bool) (s : State) : Host.Outcome State Fault Refusal := run (pcieReset flr) s
def execRecoveryRecord (s : State) : Host.Outcome State Fault Refusal := run recoveryRecord s
def execPcieConfigRequest (write : Bool) (r : CfgReg) (s : State) : Host.Outcome State Fault Refusal := run (pcieConfig write r) s
def execPcieLinkUp (s : State) : Host.Outcome State Fault Refusal := run pcieLinkUp s

/-- NOP. -/
def nopBody (c : Cmd) (d : Dev) : Option CmdOut × Dev := checked c [] [] (fun d => (.ok, d)) d
def execNop (c : Cmd) (s : State) : Host.Outcome State Fault Refusal := run (command 0x01 c (nopBody c)) s

end Sys2Proof.Machine
end

