-- ==== Sys2Proof/Machine/Watch.lean ====
section
/-! DEFINITION. The Watch (chapter 15): counting, reactions, blanking, ALARM_N, and the BLOCK_RESETs. -/

namespace Sys2Proof.Machine

def fltOff (n : Nat) : Nat := 0x031000 + 0x20 * n

/-- The block of a source (Table 15-1), by its bit in TOP_BLOCK_READY. -/
def sourceBlock (n : Nat) : Nat :=
  if n < 1 then 5 else if n < 3 then 15 else if n < 8 then 0 else if n < 11 then 1 else if n < 24 then 2 else if n < 25 then 4
  else if n < 32 then 14 else if n < 48 then 6 else if n < 112 then 8 else if n < 128 then 9 else if n < 136 then 11
  else if n < 160 then 12 else if n < 176 then 13 else 15

/-- The sources of kind L. -/
def isLevel (n : Nat) : Bool :=
  n = 2 || n = 3 || n = 9 || (64 ≤ n && n < 96) || (136 ≤ n && n < 144) || n = 146 || (165 ≤ n && n < 169)

/-- The object that a source is bound to by its number. -/
def ownObject (n : Nat) : Option Nat :=
  if 64 ≤ n && n < 112 then some (n % 16)
  else if 112 ≤ n && n < 120 then some (n - 112)
  else if 128 ≤ n && n < 132 then some (n - 128)
  else if 136 ≤ n && n < 144 then some (n - 136)
  else if 160 ≤ n && n < 165 then some (n - 160)
  else none

/-- The sources whose occurrences name an object of their own (Table 15-1). -/
def objectNamed (n : Nat) : Bool := [10, 24, 25, 32, 33, 34, 48, 49, 120, 144, 148].contains n

/-- OBJ of an occurrence's event (R390). -/
def eventObject (o : Occ) : Nat :=
  match ownObject o.src with
  | some k => k
  | none => if objectNamed o.src && !o.forced && !o.raised then o.obj.toNat else 255

/-! ### Counting (R391 to R393, R404, R405) -/

/-- N, and the leak period P in µs. -/
def Dev.fltN (d : Dev) (n : Nat) : Nat := d.rdF (fltOff n + 4) 24 8
def Dev.fltPeriod (d : Dev) (n : Nat) : Nat := d.rdF (fltOff n + 4) 0 24 / d.fltN n * 1000

/-- A counted occurrence of an enabled source: its occurrence, whether it is severe, COUNT and OCCUR after it, the set and the
words of its source, and whether its source became severe by it. -/
structure Counted where
  at_ : Reached
  severe : Bool
  count : Nat
  occur : Nat
  set : Nat
  cfg : Word
  mask0 : Word
  mask1 : Word
  became : Bool
deriving DecidableEq, Repr

def Counted.has (a : Counted) (b : Nat) : Bool := a.set.testBit b

/-- One occurrence counted. -/
def Dev.countOne (x : Reached) (d : Dev) : Option Counted × Dev :=
  let n := x.occ.src
  let f := fltOff n
  if x.blanked then (none, d.bump (f + 0x18) 0 16)
  else
    let d := ((d.bump (f + 0x14) 0 32).wr (f + 0x1C) (word (d.tbMs % 4294967296))).modWatch fun w => { w with last := b8 n }
    if !bit (d.rd f) 31 then (none, d)
    else
      let s := d.source n
      let c := min (s.count + 1) (d.fltN n)
      let sev := c = d.fltN n
      let d := d.modSource n fun s =>
        { s with count := c, severe := s.severe || sev, leakAt := if s.count = 0 then d.clk.aonUs + d.fltPeriod n else s.leakAt }
      let d := if sev then d.bump (f + 0x18) 16 16 else d
      (some ⟨x, sev, c, (d.rd (f + 0x14)).toNat, d.rdF f (if sev then 22 else 13) 9, d.rd f, d.rd (f + 8), d.rd (f + 12), sev && !s.severe⟩, d)

/-- The occurrences of one cycle, counted in turn. -/
def Dev.countAll : List Reached → Dev → List Counted × Dev
  | [], d => ([], d)
  | x :: xs, d =>
    let r := d.countOne x
    let q := r.2.countAll xs
    (match r.1 with | some a => a :: q.1 | none => q.1, q.2)

/-- Ascending source number; occurrences of one source keep their order. -/
def bySource (l : List Reached) : List Reached := (List.range 192).flatMap fun n => l.filter fun x => x.occ.src.val = n

/-! ### Blanking (R403) -/

/-- Sources `a` to `b` − 1 are blanked for BLANK_TIME; a blanking extends to the later end. -/
def Dev.blank (a b : Nat) (d : Dev) : Dev :=
  let to_ := d.clk.aonUs + d.rdF 0x030000 0 10 * 1000
  d.modWatch fun w =>
    { w with srcs := Vector.ofFn fun (n : Fin 192) =>
        let s := w.srcs.get n
        if a ≤ n.val && n.val < b then
          { s with blankTo := some (match s.blankTo with | some t => max t to_ | none => to_), rose := s.rose && s.blankTo.isSome }
        else s }

/-! ### Reactions (Table 15-2) -/

/-- The DATA of a FAULT event (Table 15-3). -/
def Counted.data (a : Counted) : List Byte :=
  let o := a.at_.occ
  leBytes 2 o.src ++ [b8 a.count, b8 (bitAt 0 a.severe + bitAt 1 o.forced + bitAt 2 a.at_.blankEnd + bitAt 3 o.raised)] ++
    leBytes 2 a.set ++ [0, 0] ++ leBytes 4 a.occur

/-- LOG: an entry in the Keeper's fault queue, or its drop (R395). -/
def Dev.faultLog (a : Counted) (d : Dev) : Dev :=
  let q := d.keeper.flq
  if q.held 64 < 63 then
    let e := entryBytes 0x10 (eventObject a.at_.occ) (sourceBlock a.at_.occ.src) false a.at_.stamp a.data q.seq
    (d.wrWords (0x30D000 + 32 * q.wr) (bytesWords (withPhase q.phase e))).modKeeper fun k =>
      { k with flq := { q.next 64 with seq := q.seq + 1 } }
  else d.bump 0x03000C 16 16

/-- An entry of the event ring that is signalled at once, whatever the ring's ITR (R396). -/
def Dev.eventNow (mk : Word → List Byte) (d : Dev) : Dev :=
  let written := d.ringOpen 8
  let d := d.evtEntry mk
  if written && (d.ring 8).itrWait then d.signal 8 else d

/-- EVENT and IRQ: one FAULT event (R396). -/
def Dev.faultEvent (a : Counted) (d : Dev) : Dev :=
  let mk := entryBytes 0x10 (eventObject a.at_.occ) (sourceBlock a.at_.occ.src) false a.at_.stamp a.data
  if a.has 2 then d.eventNow mk else d.evtEntry mk

/-- ALARM: a pulse of ALARM_MIN from now (R397). -/
def Dev.alarmPulse (d : Dev) : Dev := d.modWatch fun w => { w with pulseTo := some (d.clk.aonUs + d.rdF 0x030000 10 17) }

/-- The release of one channel that has a current slot, with its blanking (R398, R403). -/
def Dev.watchRelease (c : Fin 16) (d : Dev) : Dev :=
  if (d.chan c).sel.cur.isSome then
    ((((d.blank (64 + c) (65 + c)).blank (80 + c) (81 + c)).blank (96 + c) (97 + c))).leaveSlot c false
  else d

/-- OUT_MUTE on the outputs and video outputs of the masks (R399). -/
def Dev.watchMute (lo hi : Word) (vouts : Nat) (d : Dev) : Dev :=
  let d := d.blank 120 121
  let d := (maskOuts lo hi).foldl (fun d m => (d.modOut m fun o => { o with mWatch := true }).outRefresh m) d
  forFin 8 (fun k d => onlyIf (vouts.testBit k) (fun d => (d.modVout k fun o => { o with mWatch := true }).voutRefresh k) d) d

/-- Every CT field of the registers in a window cleared. -/
def Dev.clearCts (lo hi : Nat) (d : Dev) : Dev :=
  d.regs.foldl (fun d e =>
    if lo ≤ e.1 && e.1 < hi then
      match regDesc e.1 with
      | some r => (r.fields.filter fun f => f.acc = .ct).foldl (fun d f => d.wrF e.1 f.lo f.width 0) d
      | none => d
    else d) d

/-- The bit of a block in TOP_BLOCK_READY. -/
def Dev.setReady (b : Nat) (v : Bool) (d : Dev) : Dev :=
  d.modTop fun t => { t with blk := if v then t.blk ||| BitVec.ofNat 17 (2 ^ b) else t.blk &&& ~~~(BitVec.ofNat 17 (2 ^ b)) }

/-- BLOCK_RESET of a block, with what it blanks (Table 15-4, R401, R403). -/
def Dev.blockReset (b : Nat) (d : Dev) : Dev :=
  let d := d.bump 0x03000C 0 16
  match b with
  | 6 => (forFin 64 Dev.slotRestart ((d.blank 32 112).setReady 6 false)).clearCts 0x080000 0x088000
  | 8 => (forFin 16 Dev.chanHold ((d.blank 48 112).setReady 8 false)).clearCts 0x100000 0x110000
  | 12 => (((d.blank 32 48).blank 64 112).blank 136 160).setReady 12 false |>.portPilotReset
  | 14 => (d.blank 25 32).hostReset 4
  | 4 => ((d.blank 24 25).setReady 4 false).chartReset
  | _ => d

/-- The reactions of the occurrences of one cycle, in the order of Table 15-2. -/
def Dev.react (l : List Counted) (d : Dev) : Dev :=
  let some_ (b : Nat) : Bool := l.any fun a => a.has b
  let orOf (b : Nat) (f : Counted → Nat) : Nat := (l.filter fun a => a.has b).foldl (fun m a => m ||| f a) 0
  let d := l.foldl (fun d a => onlyIf (a.has 0) (Dev.faultLog a) d) d
  let d := l.foldl (fun d a => onlyIf (a.has 1 || a.has 2) (Dev.faultEvent a) d) d
  let d := onlyIf (some_ 3) Dev.alarmPulse d
  let d := l.foldl (fun d a => onlyIf (a.has 3 && a.became) (Dev.ownFault a.at_.occ.src) d) d
  let chs := orOf 5 fun a => fld a.mask1 16 16
  let d := forFin 16 (fun c d => onlyIf (chs.testBit c) (Dev.watchRelease c) d) d
  let d := onlyIf (some_ 6)
    (Dev.watchMute (word (orOf 6 fun a => a.mask0.toNat)) (word (orOf 6 fun a => fld a.mask1 0 16)) (orOf 6 fun a => fld a.cfg 0 8)) d
  let d := onlyIf (some_ 7) (fun d => forFin 16 Dev.watchRelease (d.modWatch fun w => { w with safe := true })) d
  let blocks := [6, 8, 12, 14, 4].filter fun b => l.any fun a => a.has 4 && sourceBlock a.at_.occ.src = b
  let d := blocks.foldl (fun d b => d.blockReset b) d
  match l.find? fun a => a.has 8 with
  | some a => d.modWatch fun w => { w with resetPending := match w.resetPending with | some s => some s | none => some (b8 a.at_.occ.src) }
  | none => d

/-- The occurrences that have reached the Watch, and `extra`, in one cycle (R405). -/
def faultOccurrence (extra : List Occ) (d : Dev) : Dev :=
  let l := bySource (d.watch.reached ++ extra.map fun o => d.reaches o false)
  let r := (d.modWatch fun w => { w with reached := [] }).countAll l
  r.2.react r.1

/-! ### Timers (R391, R397, R404) -/

/-- LEAK_EXPIRY. -/
def leakExpiry (n : Fin 192) (d : Dev) : Dev :=
  if (d.source n).count = 0 then d
  else d.modSource n fun s =>
    { s with count := s.count - 1, severe := s.severe && s.count ≠ 1, leakAt := d.clk.aonUs + d.fltPeriod n }

/-- ALARM_PULSE_END. -/
def alarmPulseEnd (d : Dev) : Dev := d.modWatch fun w => { w with pulseTo := none }

/-- BLANKING_END. -/
def blankingEnd (n : Fin 192) (d : Dev) : Dev :=
  let s := d.source n
  if s.blankTo.isSome then
    let d := d.modSource n fun s => { s with blankTo := none, rose := false }
    if isLevel n && s.cond && s.rose then d.reach ⟨n, BitVec.ofNat 8 ((ownObject n).getD 255), false, false⟩ true else d
  else d

/-- BLOCK_READY_RETURN: BUOY, CHAN or PORT/PILOT is back after its BLOCK_RESET (R107, R163, R260). CHART and HOSTIF come back by
CHART_SCAN_DONE and RECOVERY_RECORD. -/
def blockBack (b : Fin 17) (d : Dev) : Dev :=
  if d.top.ready && !d.blockReady b then
    match b with
    | 6 => d.setReady 6 true
    | 8 =>
      let l := (List.finRange 16).filter fun c => engaged (d.chan c) && (d.chan c).sel.cur.isNone
      (forFin 16 Dev.chanBack (d.setReady 8 true)).autopilotFor l
    | 12 => (d.setReady 12 true).loadRefresh
    | _ => d
  else d

/-! ### Register actions (R400, R407, R408) -/

/-- SAFE clears; the autopilot may select again. -/
def Dev.safeClear (d : Dev) : Dev := (d.modWatch fun w => { w with safe := false }).autopilotAll

/-- One forced or raised occurrence of a source. -/
def Dev.faultGiven (src : Nat) (forced : Bool) (d : Dev) : Dev :=
  if h : src < 192 then d.reach ⟨⟨src, h⟩, BitVec.ofNat 8 ((ownObject src).getD 255), forced, !forced⟩ false else d

/-- ALARM_N is driven low (R397). -/
def Dev.alarmLow (d : Dev) : Bool := d.watch.pulseTo.isSome || bit (d.rd 0x030004) 0 || d.watch.safe || d.watch.supAlarm

/-! ### Configuration (R401, R409) -/

/-- BLOCK_RESET stands in a set of a source whose block cannot be reset (R401). -/
def setsBad (src : Nat) (cfg : Word) : Bool :=
  (bit cfg 17 || bit cfg 26) && !([4, 6, 8, 12, 14] : List Nat).contains (sourceBlock src)

/-- W is below N (R391). -/
def thrBad (thr : Word) : Bool := fld thr 0 24 < fld thr 24 8

/-- A COUNT above the new N becomes N (R409). -/
def Dev.countClamp (n : Fin 192) (d : Dev) : Dev := d.modSource n fun s => { s with count := min s.count (d.fltN n) }

/-- FAULT_CONFIG (R409). -/
def faultConfigBody (c : Cmd) (d : Dev) : Option CmdOut × Dev :=
  let src := pf c 0 0 8
  checked c ((0, 0, 8) :: wholes 1 4)
    (failIf (192 ≤ src) 0 ++ imagesBad c 1 (fltOff 0) 4 ++ failIf (src < 192 && setsBad src (wordAt c.words 1)) 0 ++
      failIf (thrBad (wordAt c.words 2)) 64)
    (fun d => (.ok, (d.wrWords (fltOff src) ((List.range 4).map fun i => wordAt c.words (i + 1))).countClamp (Fin.ofNat 192 src))) d

def execFaultOccurrence (extra : List Occ) (s : State) : Host.Outcome State Fault Refusal := run (faultOccurrence extra) s
def execLeakExpiry (src : Fin 192) (s : State) : Host.Outcome State Fault Refusal := run (leakExpiry src) s
def execAlarmPulseEnd (s : State) : Host.Outcome State Fault Refusal := run alarmPulseEnd s
def execBlankingEnd (src : Fin 192) (s : State) : Host.Outcome State Fault Refusal := run (blankingEnd src) s
def execBlockReadyReturn (block : Fin 17) (s : State) : Host.Outcome State Fault Refusal := run (blockBack block) s
def execFaultConfig (c : Cmd) (s : State) : Host.Outcome State Fault Refusal := run (command 0xA0 c (faultConfigBody c)) s

end Sys2Proof.Machine
end

