-- ==== Sys2Proof/Machine/Power.lean ====
section
/-! DEFINITION. Start-up, resets, clocks, operating points, power failure and Anchor mode (chapters 13 and 16). -/

namespace Sys2Proof.Machine

/-! ### Device reset (R45) and the supervisor (Table 13-1) -/

/-- The device after a reset with `cause`, held in HOLD: what survives is the flash, the OTP, the supervisor's own bits,
FLT_RESET_SRC, retention RAM with the AON copies, and BAR4. `power` says that supplies fell, so that a line of flash in
programming is torn (R386). -/
def Dev.fresh (power : Bool) (cause : BitVec 3) (d : Dev) : Dev :=
  let d := d.chartDeviceReset power
  { Dev.reset with
    bar4 := d.bar4, bar4Gen := d.bar4Gen, draws := d.draws,
    top := { Top.reset with cause := cause },
    clk := { Clk.reset with bcn := d.clk.bcn, bstop := d.clk.bstop, bcnRestart := d.clk.bcnRestart },
    pwr := { Pwr.reset with vbakOk := d.pwr.vbakOk, snapshot := d.pwr.snapshot, tlog := d.pwr.tlog, inAnchor := d.pwr.inAnchor,
                            xoCounted := d.pwr.inAnchor && d.pwr.xoCounted, xoCntLost := d.pwr.inAnchor && d.pwr.xoCntLost,
                            byPf := d.pwr.inAnchor && d.pwr.byPf, millivolt := d.pwr.millivolt },
    watch := { Watch.reset with resetBy := d.watch.resetBy },
    fw := { Fw.reset with prefB := d.fw.prefB, flash := d.fw.flash },
    otp := { d.otp with busy := none, readOut := false, debugOpen := false, challenge := none },
    chart := d.chart,
    tide := { Tide.reset with strapped := d.tide.strapped, strapId := d.tide.strapId } }

/-- BAR4 loses its content (R38). -/
def Dev.bar4Lost (d : Dev) : Dev := { d with bar4 := [], bar4Gen := d.bar4Gen + 1 }

/-- A supply below its threshold (row 1): HOLD; the AON copies and BAR4 go with the supplies. -/
def Dev.powerLost (d : Dev) : Dev :=
  (((d.fresh true 0).aonLost.bar4Lost).modClk fun c => { c with bstop := false }).modPwr fun p => { p with tlog := [] }

/-- The entry into Anchor mode (R359, R360). `byPf`: automatic. -/
def Dev.anchorDown (byPf xoCount : Bool) (d : Dev) : Dev :=
  ((d.fresh false 0).bar4Lost.modClk fun c => { c with bstop := false }).modPwr fun p =>
    { p with inAnchor := true, byPf := byPf, xoCounted := xoCount, xoCntLost := false, tlog := [] }

/-- The automatic entry is possible: SHEDDING or HELD, AUTO and VBAK_OK (R359). -/
def Dev.autoAnchor (d : Dev) : Bool :=
  (d.pwr.pf = .shedding || d.pwr.pf = .held) && bit (d.rd 0x020020) 31 && d.pwr.vbakOk

/-- ANCHOR_AUTO_ENTRY: with the snapshot taken Anchor mode is entered, else HOLD without one (R434). -/
def anchorAuto (d : Dev) : Dev :=
  if d.autoAnchor then
    if d.pwr.snapshot.isSome then
      (d.modChart fun c => { c with anchorEntries := c.anchorEntries + 1 }).anchorDown true (bit (d.rd 0x020020) 30)
    else d.powerLost
  else d

/-- SUPPLY_FAIL; `all`: loss of all supplies, VBAK included (R339, R402, R432). -/
def supplyFail (all : Bool) (d : Dev) : Dev :=
  if all then
    ((d.powerLost.modClk fun c => { c with bcnRestart := false }).modPwr fun p =>
      { p with vbakOk := false, snapshot := none, inAnchor := false, byPf := false, xoCounted := false, xoCntLost := false }).modWatch
        fun w => { w with resetBy := none }
  else if d.pwr.inAnchor then d
  else if d.autoAnchor && d.pwr.snapshot.isSome then anchorAuto d
  else d.powerLost

/-- RESET_N_ASSERT: row 1. In HOLD it ends a Beacon hold, and changes nothing else. -/
def resetN (d : Dev) : Dev :=
  if d.clk.sup = .hold then
    if d.clk.bstop then
      ((d.modClk fun c => { c with bstop := false }).modWatch fun w => { w with supAlarm := false }).modTop fun t => { t with cause := 1 }
    else d
  else (d.fresh true 1).modClk fun c => { c with bstop := false }

/-- BEACON_LOSS: row 2 while XO is not qualified; with XO only the activity detector shows it (R338). -/
def beaconLoss (d : Dev) : Dev :=
  if d.clk.sup = .hold then d
  else if d.clk.xo then d.modClk fun c => { c with bcn := false }
  else ((d.fresh false 0).modClk fun c => { c with bstop := true, bcn := false }).modWatch fun w => { w with supAlarm := true }

/-- The voltage written for an operating point, in mV (R350, Table 13-4). -/
def Dev.oppMv (d : Dev) (pt : Nat) : Nat :=
  (([650, 720, 800, 880].getD pt 650 : Int) + sfld (d.rd 0x020004) 28 4 * 5).toNat

/-- M_ANCHOR on every output and video output (R364). -/
def Dev.anchorMute (d : Dev) : Dev :=
  forFin 8 (fun k d => (d.modVout k fun o => { o with mAnchor := true }).voutRefresh k)
    (forFin 48 (fun m d => (d.modOut m fun o => { o with mAnchor := true }).outRefresh m) d)

/-- What a start with a snapshot is: CAUSE 3, M_ANCHOR, BAR4 lost (R38, R362, R364). -/
def Dev.anchorStart (d : Dev) : Dev :=
  if d.pwr.snapshot.isSome then (d.bar4Lost.modTop fun t => { t with cause := 3 }).anchorMute else d

/-- Row 3: from HOLD to BOOT with the straps latched (R291, R302, R435); BSTOP stays (R339). The voltage of OPP0 is written (R352). -/
def Dev.release (d : Dev) : Dev :=
  let d := d.modClk fun c => { c with sup := .boot, bcn := true, bcnRestart := c.bstop, xoTimer := true }
  let d := (d.modWatch fun w => { w with supAlarm := false }).modTop fun t => { t with stage := 1 }
  let d := d.modTide fun t => { t with id := t.strapId }
  let d := if d.tide.strapped then
      d.modTide fun t => { t with role := .master, path := [t.id], mId := t.id, mPrio := 0, masterLost := false } else d
  let d := d.modPwr fun p => { p with avs := .initAck, millivolt := d.oppMv 0, inAnchor := false }
  d.anchorStart

/-- HOLD_RELEASE. -/
def holdRelease (master : Bool) (id : BitVec 9) (vbakOk : Bool) (d : Dev) : Dev :=
  if d.clk.sup = .hold then
    ((d.modTide fun t => { t with strapped := master, strapId := id }).modPwr fun p => { p with vbakOk := vbakOk }).release
  else d

/-- DEVICE_RESET: the reset that a DEVICE_RESET reaction asked for (R402). The straps keep their sampled values. -/
def deviceReset (d : Dev) : Dev :=
  match d.watch.resetPending with
  | some src => ((d.modWatch fun w => { w with resetBy := some src }).fresh false 2).release
  | none => d

/-! ### Boot (Table 16-4) -/

/-- A boot error: the first one stays (R416); it is the condition of FS003. -/
def Dev.bootError (e : Nat) (d : Dev) : Dev :=
  (d.modTop fun t => { t with error := if t.error = 0 then b8 e else t.error }).setCond 3 0 true

def Dev.stage (n : Nat) (d : Dev) : Dev := d.modTop fun t => { t with stage := b8 n }

/-- BPLL_LOCK. -/
def bpllLock (d : Dev) : Dev :=
  if d.clk.sup ≠ .hold && !d.clk.bpll then
    let d := d.modClk fun c => { c with bpll := true }
    if d.top.stage = 1 then d.stage 2 else d
  else d

/-- OTP_READ_DONE. -/
def otpReadDone (ok : Bool) (d : Dev) : Dev :=
  if d.top.stage = 2 then
    let d := ((d.modOtp fun o => { o with readOut := true }).stage 3).modChart fun c => { c with scanning := true }
    if ok then d else d.bootError 0x01
  else d

/-- FREQ from the record of key 0x0101 (R335). -/
def Dev.loadFreq (d : Dev) : Dev :=
  match d.record 0x0101 with
  | some (_, r) =>
    let f := leNat (r.val.take 4)
    if 10000000 ≤ f && f ≤ 250000000 then d.wr 0x010000 (word f) else d
  | none => d

/-- The ID from the record of key 0x0201 (R291); a strapped master names it. -/
def Dev.loadId (d : Dev) : Dev :=
  match d.record 0x0201 with
  | some (_, r) =>
    d.modTide fun t =>
      let n := BitVec.ofNat 9 (leNat (r.val.take 2))
      { t with id := n, fromChart := true, path := if t.strapped then [n] else t.path, mId := if t.strapped then n else t.mId }
  | none => d

/-- The end of stage 3: FREQ is final and the check of the preferred slot starts (R417, R418). -/
def Dev.scanStage (d : Dev) : Dev :=
  ((d.modClk fun c => { c with freqFinal := true }).stage 4).modTop fun t => { t with slotB := d.fw.prefB }

/-- CHART_SCAN_DONE, at boot or after a BLOCK_RESET of CHART (R387, R388). A scan fault leaves the store unusable (Table 16-5). -/
def chartScanDone (ok : Bool) (d : Dev) : Dev :=
  if !d.chart.scanning then d
  else if d.top.stage = 3 then
    if ok then
      let d := d.chartScan
      let d := if d.top.cause = 0 && !d.clk.bcnRestart then d.modChart fun c => { c with powerCycles := c.powerCycles + 1 } else d
      d.loadFreq.loadId.scanStage
    else ((d.modChart fun c => { c with scanning := false, scanFault := true }).bootError 0x02).scanStage
  else if d.top.ready then
    (if ok then d.chartScan else (d.modChart fun c => { c with scanning := false, scanFault := true }).bootError 0x02).setReady 4 true
  else d

/-- The Tideline links enable themselves as their block leaves reset (R290): those of LINK_EN stand in SYNC. -/
def Dev.linksStart (d : Dev) : Dev :=
  forFin 5 (fun l d => onlyIf (bit d.tlCfg (15 + l.val)) (fun d => d.linkTo l .sync 4) d) d

/-- BOOT_READY: every block is ready (R419). -/
def Dev.bootReady (d : Dev) : Dev :=
  ((d.linksStart.modTop fun t => { t with ready := true, blk := BitVec.allOnes 17 }).loadRefresh).lanternsXo

/-- The Pilot microcode of the image in slot `b` (R423). -/
def Dev.loadMicrocode (b : Bool) (d : Dev) : Dev :=
  if (d.codeGet (slotBase b + 17)).getLsbD 1 then
    if Config.pilotSectionOk (d.imageBody b) then d.modPilot fun p => { p with microcode := true }
    else d.bootError (imageError b 2)
  else d

/-- IMAGE_CHECK_DONE of a slot (R418, R422). -/
def imageCheckDone (slotB : Bool) (d : Dev) : Dev :=
  if d.top.stage = 4 && d.top.slotB = slotB then
    let n := d.imageChecks slotB
    if n = 5 then ((d.loadMicrocode slotB).stage 6).bootReady.keeperRelease
    else
      let d := d.bootError (imageError slotB n)
      if slotB = d.fw.prefB then d.modTop fun t => { t with slotB := !slotB }
      else
        let d := (d.modTop fun t => { t with error := 0x30, slotB := d.fw.prefB }).stage 8
        ((d.modKeeper fun k => { k with noImage := true, sup := { k.sup with ap := .halted } }).bootReady).setCond 2 0 true
  else d

/-! ### XO and the Beacon (R335 to R343) -/

/-- A window that counts toward qualification: amplitude, activity, ±10 % of FREQ (R336, R437). -/
def Dev.windowOk (d : Dev) (w : XoWindow) : Bool :=
  400 ≤ w.ampMv && !w.activityFail && decide (((w.xoHz : Int) - d.fXo).natAbs * 10 ≤ d.fXo)

/-- The 16 measurements agree within ±0.1 % of their mean (R336). -/
def windowsAgree (l : List XoWindow) : Bool :=
  let s := (l.map (·.xoHz)).sum
  l.length = 16 && l.all fun w => decide (((16 * w.xoHz : Nat) - (s : Int)).natAbs * 1000 ≤ s)

/-- The length of the gap as the Beacon counts it: within 8 % (R342). -/
def Dev.xoGap (d : Dev) : Dev :=
  let x := d.draw
  let gap : Int := d.clk.aonUs - d.clk.gapFrom
  x.2.wr 0x010024 (word (satN 32 (gap * (920 + x.1 % 161) / 1000).toNat))

/-- XO_QUALIFIED: AON moves to XO, CPLL and PCIe training start, the timebase runs (Table 13-1, R342). -/
def Dev.xoQualify (d : Dev) : Dev :=
  let d := if d.clk.everXo then d.xoGap else d
  let d := d.modClk fun c =>
    { c with xo := true, aondiv := true, sup := .run, windows := [], everXo := true, xoTimer := false, aonSw := some true }
  (d.modHost fun h => { h with training := true }).lanternsXo

/-- XO_WINDOW_END. -/
def xoWindowEnd (w : XoWindow) (d : Dev) : Dev :=
  if d.clk.sup = .hold then d
  else
    let d := (d.wrF 0x010020 0 16 (satN 16 (w.xoHz / 100000))).modClk fun c => { c with bcn := true }
    if d.clk.xo then
      let bad := w.bcnKhz < 29440 || 34560 < w.bcnKhz
      ((d.wrF 0x010020 16 16 (satN 16 w.bcnKhz)).modClk fun c => { c with bcnBad := bad }).setCond 9 0 bad
    else if d.clk.freqFinal then
      let l := if d.windowOk w then (w :: d.clk.windows).take 16 else []
      let d := d.modClk fun c => { c with windows := l }
      if windowsAgree l then d.xoQualify else d
    else d

/-- XO_ABSENT_TIMEOUT. -/
def xoAbsentTimeout (d : Dev) : Dev :=
  if d.clk.xoTimer && d.clk.sup = .boot && !d.clk.xo then
    (d.modClk fun c => { c with sup := .xoAbsent, xoTimer := false }).occur 8 0
  else d

/-- A domain's source and its switch in progress after XO, and CPLL with it, is gone: back to the fallback (R346, R347). -/
def fallBack (on : Bool) (sw : Option Bool) : Option Bool :=
  if on then some false else if sw = some true then none else sw

/-- XO_FAIL: the effects of R341 in the cycle of R337. -/
def xoFail (cause : Fin 3) (d : Dev) : Dev :=
  if d.clk.xo then
    let w := d.rd 0x010010
    let d := d.modClk fun c =>
      { c with xo := false, aondiv := false, cpll := false, lastXoFail := BitVec.ofNat 2 (cause + 1), sup := .xoAbsent, windows := [],
               gapFrom := c.aonUs, aonSw := fallBack c.aonOnXo c.aonSw,
               sysSw := fallBack (bit w 0) c.sysSw, fastSw := fallBack (bit w 1) c.fastSw }
    let d := ((d.wrF 0x010020 16 16 0).bump 0x010028 0 16).occur 8 0
    let d := (forFin 64 slotLoss d).lanternsXo
    let d := forFin 5 Dev.linkLoss (forFin 8 Dev.portLoss d)
    (pcieReset false d).modHost fun h => { h with training := false, pcieUp := false }
  else d

/-! ### Clock domains (R344 to R347) -/

/-- CPLL_LOCK. -/
def cpllLock (d : Dev) : Dev := if d.clk.xo then d.modClk fun c => { c with cpll := true } else d

/-- CPLL_UNLOCK: a pending switch to CPLL is withdrawn. -/
def cpllUnlock (d : Dev) : Dev :=
  d.modClk fun c =>
    { c with cpll := false, sysSw := if c.sysSw = some true then none else c.sysSw,
             fastSw := if c.fastSw = some true then none else c.fastSw }

/-- SW_BUSY. -/
def Dev.swBusy (d : Dev) : Bool := d.clk.aonSw.isSome || d.clk.sysSw.isSome || d.clk.fastSw.isSome

/-- The switch in progress of a domain. -/
def Dev.switchOf (d : Dev) : Domain → Option Bool
  | .aon => d.clk.aonSw | .sys => d.clk.sysSw | .fast => d.clk.fastSw

/-- Whether a domain runs on XO or CPLL. -/
def Dev.domainOn (d : Dev) : Domain → Bool
  | .aon => d.clk.aonOnXo | .sys => bit (d.rd 0x010010) 0 | .fast => bit (d.rd 0x010010) 1

/-- A domain runs on its new source. -/
def Dev.domainTo (x : Domain) (to_ : Bool) (d : Dev) : Dev :=
  match x with
  | .aon => d.modClk fun c => { c with aonSw := none, aonOnXo := to_ }
  | .sys => (d.modClk fun c => { c with sysSw := none }).wrF 0x010010 0 1 (bitAt 0 to_)
  | .fast => (d.modClk fun c => { c with fastSw := none }).wrF 0x010010 1 1 (bitAt 0 to_)

/-- CLOCK_SWITCH_DONE. -/
def switchDone (x : Domain) (d : Dev) : Dev :=
  match d.switchOf x with
  | some to_ => d.domainTo x to_
  | none => d

def Domain.code : Domain → Nat
  | .aon => 0 | .sys => 1 | .fast => 2

/-- FORCED_SWITCH: counted, and logged with the domain, the old and the new source. -/
def forcedSwitch (x : Domain) (d : Dev) : Dev :=
  match d.switchOf x with
  | some to_ =>
    let old := d.domainOn x
    (((d.domainTo x to_).bump 0x010028 16 16).occur 10 (Domain.code x)).logEnt 0x86 0 1
      [b8 (Domain.code x), b8 (bitAt 0 old), b8 (bitAt 0 to_)]
  | none => d

/-- An accepted CLK_SRC_SEL write may be made: its sources are ready and no switch is in progress (R344). -/
def Dev.srcSelOk (d : Dev) (v : Word) : Bool :=
  !d.swBusy && (if bit v 0 || bit v 1 then d.clk.cpll else true) && (if bit v 0 && bit v 1 then true else d.clk.bpll)

/-- The switches that an accepted CLK_SRC_SEL write starts. -/
def Dev.srcSel (v : Word) (d : Dev) : Dev :=
  let w := d.rd 0x010010
  d.modClk fun c =>
    { c with sysSw := if bit v 0 = bit w 0 then none else some (bit v 0),
             fastSw := if bit v 1 = bit w 1 then none else some (bit v 1) }

/-- The nominal frequency in Hz of a CLKMON source as numerator and denominator (Table 13-3, R349). -/
def Dev.clkmonHz (d : Dev) (src : Nat) : Nat × Nat :=
  let opp := d.pwr.inForce.toNat
  if src = 0 then (d.fXo, 1)
  else if src = 1 then (32000000, 1)
  else if src = 2 then (32000, 1)
  else if src = 3 then (if bit (d.rd 0x010010) 0 then [100000000, 250000000, 400000000, 400000000].getD opp 0 else 100000000, 1)
  else if src = 4 then (if bit (d.rd 0x010010) 1 then [100000000, 250000000, 400000000, 500000000].getD opp 0 else 100000000, 1)
  else if src = 5 then (2000000000, 1)
  else if src = 6 then (100000000, 1)
  else if 8 ≤ src && src < 16 then
    let v := d.lanVco (src - 8)
    (v.1, v.2 * d.lanDiv (src - 8))
  else if src < 24 then (if d.portRate (Fin.ofNat 8 (src - 16)) = 0 then 125000000 else 156250000, 1)
  else (0, 1)

/-- A CLKMON_CFG value is in range: its SRC, and at most 250 MHz (R349). -/
def Dev.clkmonBad (d : Dev) (v : Word) : Bool :=
  let src := fld v 24 5
  src = 7 || 24 ≤ src || (let f := d.clkmonHz src; 250000000 * (f.2 * (fld v 0 16 + 1)) < f.1)

/-! ### Operating points (R350 to R354) -/

/-- The point that the sequencer moves toward (R353, R356). -/
def Dev.oppWanted (d : Dev) : Nat :=
  if d.pwr.pf ≠ .normal || d.pwr.anchorCmd.isSome then 0 else min (d.rdF 0x020000 0 2) d.pwr.cap.toNat

/-- A PWR_OPP that waits completes: the sequencer rests. -/
def Dev.oppDone (o : Nat → CmdOut) (d : Dev) : Dev :=
  match d.pwr.oppCmd with
  | some x => (d.modPwr fun p => { p with oppCmd := none }).complete x.1 x.2 (o d.pwr.inForce.toNat)
  | none => d

/-- The sequencer at rest takes the next step toward the point wanted: up, the voltage first; down, the dividers first. -/
def Dev.oppKick (d : Dev) : Dev :=
  if d.pwr.avs ≠ .rest then d
  else
    let now := d.pwr.inForce.toNat
    if now < d.oppWanted then
      d.modPwr fun p => { p with avs := .upAck (BitVec.ofNat 2 (now + 1)), millivolt := d.oppMv (now + 1) }
    else if d.oppWanted < now then
      (d.modPwr fun p => { p with inForce := BitVec.ofNat 2 (now - 1), avs := .downAck, millivolt := d.oppMv (now - 1) }).loadRefresh
    else d.oppDone fun n => .ok n

/-- AVS_ACK. -/
def avsAck (d : Dev) : Dev :=
  match d.pwr.avs with
  | .upAck pt => d.modPwr fun p => { p with avs := .upSettle pt, avsErr := false }
  | .downAck => (d.modPwr fun p => { p with avs := .rest, avsErr := false }).oppKick
  | .initAck => (d.modPwr fun p => { p with avs := .rest, avsErr := false }).oppKick
  | _ => d

/-- AVS_SETTLE_EXPIRY: the dividers change. -/
def avsSettle (d : Dev) : Dev :=
  match d.pwr.avs with
  | .upSettle pt => ((d.modPwr fun p => { p with inForce := pt, avs := .rest }).loadRefresh).oppKick
  | _ => d

/-- The sequencer waits for an acknowledgement. -/
def AvsStage.waits : AvsStage → Bool
  | .upAck _ => true | .downAck => true | .initAck => true | _ => false

/-- AVS_TIMEOUT: the move stops (R351). -/
def avsTimeout (d : Dev) : Dev :=
  if d.pwr.avs.waits then
    (((d.modPwr fun p => { p with avs := .rest, avsErr := true }).bump 0x020010 0 8).occur 11 0).oppDone fun n => .timeout n
  else d

/-- PWR_OPP (Table 13-5). -/
def pwrOppBody (c : Cmd) (d : Dev) : Option CmdOut × Dev :=
  checkedLong c [(0, 0, 2)] [] (fun d =>
    if d.pwr.pf ≠ .normal then (some (.refused 0), d)
    else
      (none, (((d.wrF 0x020000 0 2 (pf c 0 0 2)).loadRefresh).modPwr fun p =>
        { p with oppCmd := some (c.src, inProg c 0x90) }).oppKick)) d

/-- CAP drops by one operating point. -/
def Dev.capDrop (d : Dev) : Dev :=
  if d.pwr.cap = 0 then d
  else ((((d.modPwr fun p => { p with cap := p.cap - 1 }).bump 0x020010 8 8).occur 12 0)).oppKick

/-- THERMAL_SAMPLE: above 105 °C CAP drops at once and the 10 ms interval runs; at 100 °C or less the 1 s interval runs. -/
def thermalSample (d : Dev) : Dev :=
  if 6720 < d.pwr.tjMax then
    if d.pwr.hot then d else (d.modPwr fun p => { p with hot := true, cool := false }).capDrop
  else d.modPwr fun p => { p with hot := false, cool := decide (d.pwr.tjMax ≤ 6400) }

/-- THROTTLE_DROP. -/
def throttleDrop (d : Dev) : Dev := if d.pwr.hot then d.capDrop else d

/-- THROTTLE_RISE. -/
def throttleRise (d : Dev) : Dev :=
  if d.pwr.cool && d.pwr.cap ≠ 3 then (d.modPwr fun p => { p with cap := p.cap + 1 }).oppKick else d

/-! ### Power failure (R355 to R358) -/

/-- SHEDDING: ports go DOWN, unkept Lanterns OFF, the sequencer moves to OPP0, the commit starts (R356, R359). -/
def Dev.shedLoads (anchor : Bool) (d : Dev) : Dev :=
  ((forFin 8 Dev.portLoss d).lanternsXo.oppKick).chartPowerFail anchor

/-- PWRFAIL_TRIGGER: PWRFAIL_N, or the internal monitor. -/
def pwrfailTrigger (monitor : Bool) (d : Dev) : Dev :=
  if d.clk.sup = .hold then d
  else
    let d := d.modPwr fun p => { p with pwrfail := p.pwrfail || !monitor, vddMon := p.vddMon || monitor }
    if d.pwr.pf = .normal || d.pwr.pf = .resuming then
      (((d.modPwr fun p => { p with pf := .shedding }).bump 0x020010 16 16).occur 13 0).shedLoads false
    else d

/-- COMMIT_DONE: the commit in progress is written; a power-failure commit leads to HELD, that of ANCHOR_ENTER to its
snapshot. -/
def commitDone (d : Dev) : Dev :=
  let hard := d.chart.commit.isSome && d.commitHard
  let d := d.commitFinish
  if hard && d.chart.commit.isNone then
    let d := if d.pwr.pf = .shedding then
        d.modPwr fun p => { p with pf := .held, snapWait := p.snapWait || bit (d.rd 0x020020) 31 && p.vbakOk } else d
    if d.pwr.anchorCmd.isSome then d.modPwr fun p => { p with snapWait := true } else d
  else d

/-- PF_RESUME_EXPIRY: the shed blocks power up; the snapshot is discarded. -/
def pfResume (d : Dev) : Dev :=
  if d.pwr.pf = .held then
    (d.modPwr fun p => { p with pf := .resuming, pwrfail := false, vddMon := false, snapshot := none, snapWait := p.anchorCmd.isSome && p.snapWait }).lanternsXo
  else d

/-- PF_RESUMED. -/
def pfResumed (d : Dev) : Dev :=
  if d.pwr.pf = .resuming then ((d.modPwr fun p => { p with pf := .normal }).loadRefresh).oppKick else d

/-! ### Anchor mode (R359 to R364) -/

/-- The snapshot of this moment (R359). -/
def Dev.snapshotNow (beaconPs : Nat) (d : Dev) : Snapshot :=
  { ts := Vector.ofFn fun (n : Fin 4) =>
      let t := d.tsc n
      ⟨d.tsNow n, t.st ≠ .unset, d.rd (tsOff n + 4), d.rd (tsOff n + 8), t.ofs, t.step.isSome, t.leap⟩,
    chans := Vector.ofFn fun (c : Fin 16) =>
      ⟨(d.chan c).loop.b, (d.chan c).everLocked, d.rd (chanOff c + 0x408), d.rd (chanOff c + 0x40C),
        (List.range 33).map fun k => d.rd (chanOff c + 0x500 + 4 * k)⟩,
    beaconPs := beaconPs, acc := d.rd 0x020024, cfg := d.rd 0x020020 }

/-- ANCHOR_SNAPSHOT: a snapshot that is due is taken at a whole millisecond of the timebase; ANCHOR_ENTER completes and the
device powers down. -/
def anchorSnapshot (beaconPs : Nat) (d : Dev) : Dev :=
  if d.pwr.snapWait && d.clk.xo then
    let s := d.snapshotNow beaconPs
    let d := d.modPwr fun p => { p with snapshot := some s, snapWait := false }
    match d.pwr.anchorCmd with
    | some (src, p, xo) => (d.complete src p (.ok 0)).anchorDown false xo
    | none => d
  else d

/-- ANCHOR_ENTER (Table 13-5). -/
def anchorEnterBody (c : Cmd) (d : Dev) : Option CmdOut × Dev :=
  checkedLong c [(0, 0, 1)] [] (fun d =>
    if !d.pwr.vbakOk then (some (.refused 1), d)
    else if d.pwr.pf ≠ .normal then (some (.refused 2), d)
    else
      (none, ((d.modPwr fun p => { p with anchorCmd := some (c.src, inProg c 0x91, pf c 0 0 1 = 1) }).modChart fun h =>
        { h with anchorEntries := h.anchorEntries + 1 }).shedLoads true)) d

/-- ANCHOR_TEMP_LOG: the ring holds the newest 2,048 samples (R360). -/
def anchorTempLog (tj : BitVec 16) (d : Dev) : Dev :=
  if d.pwr.inAnchor then
    d.modPwr fun p => let l := p.tlog ++ [tj]; { p with tlog := l.drop (l.length - 2048) }
  else d

/-- ANCHOR_XO_STOP (R361). -/
def anchorXoStop (d : Dev) : Dev :=
  if d.pwr.inAnchor && d.pwr.xoCounted then d.modPwr fun p => { p with xoCntLost := true } else d

/-- VBAK_LOSS: the snapshot is erased (R362); in Anchor mode everything that VBAK kept goes with it. -/
def vbakLoss (d : Dev) : Dev :=
  if d.pwr.inAnchor then
    d.aonLost.modPwr fun p =>
      { p with vbakOk := false, snapshot := none, inAnchor := false, tlog := [], byPf := false, xoCounted := false, xoCntLost := false }
  else d.modPwr fun p => { p with vbakOk := false, snapshot := none, snapWait := p.snapWait && p.anchorCmd.isSome }

/-- ANCHOR_WAKE: the start finds a snapshot; `crcOk` is whether its CRC checks (R362). -/
def anchorWake (crcOk : Bool) (d : Dev) : Dev :=
  if d.clk.sup = .hold then d
  else match d.pwr.snapshot with
    | some s =>
      (d.modTop fun t => { t with cause := 3 }).anchorMute.modPwr fun p =>
        { p with snapshot := none, restored := crcOk, restoreFrom := if crcOk then some s else none, tlogOut := p.tlog, tlog := [],
                 restoreTodo := if crcOk then BitVec.allOnes 16 else 0 }
    | none => d

/-- M_ANCHOR cleared on every output (R364). -/
def Dev.anchorFree (d : Dev) : Dev :=
  forFin 8 (fun k d => (d.modVout k fun o => { o with mAnchor := false }).voutRefresh k)
    (forFin 48 (fun m d => (d.modOut m fun o => { o with mAnchor := false }).outRefresh m) d)

/-- The parts of E in grains: XO cycles of FREQ, and Beacon ticks of the measured period (R361). Without the counter every tick is the
Beacon's; with it the Beacon counts what follows the loss of the XO. -/
def Dev.elapsed (d : Dev) (beaconPs cycles ticks : Nat) : Nat × Nat :=
  (if d.pwr.xoCounted then cycles * 65536000000000 / d.fXo else 0,
   if d.pwr.xoCounted && !d.pwr.xoCntLost then 0 else ticks * beaconPs * 65536 / 1000)

/-- U in µs: the accuracies are ppb of XO time and ppm of Beacon time (R361). -/
def anchorUnc (acc : Word) (xoUs bcnUs : Nat) : Nat := (xoUs * fld acc 0 16 + bcnUs * fld acc 16 16 * 1000) / 1000000000

/-- A time scale wakes RUNNING at snapshot + E, its pending leap applied where its change fell within E (R363). -/
def Dev.tsRestore (n : Fin 4) (s : SnapTs) (eGr : Int) (d : Dev) : Dev :=
  let f := feedback24 (d.chan (d.tsChan n)).loop ((d.chan (d.tsChan n)).loop.at_ / two24)
  let gr := s.gr + eGr
  let d := (d.wr (tsOff n + 4) s.utc).wr (tsOff n + 8) s.localOfs
  let d := d.modTs n fun t => { t with started := true, st := .running, ofs := gr * two24 - f, leap := s.leap }
  (d.noticeJudge n gr).edgeLeap n gr

/-- The wake event: it gives E in ms, U in µs and the pending steps discarded (bit n for time scale n); the spec gives it no KIND
and no layout, which are free (R363, log entry 131). -/
def Dev.wakeEvent (eMs uUs : Nat) (steps : BitVec 4) (d : Dev) : Dev :=
  d.event Config.wakeKind.toNat 0 2 (Config.wakeData eMs uUs steps)

/-- The pending steps that a restore discards. -/
def Snapshot.steps (s : Snapshot) : BitVec 4 :=
  BitVec.ofNat 4 (((List.finRange 4).map fun (n : Fin 4) => bitAt n.val ((s.ts.get n).wasSet && (s.ts.get n).stepPending)).sum)

/-- A channel wakes in FREE_RUN with FR_OFFSET from its b and its holdover model reloaded (R363). -/
def Dev.chanRestore (c : Fin 16) (s : SnapChan) (d : Dev) : Dev :=
  let v := sat40 (roundDiv s.b two24)
  let d := d.pub40 (chanOff c + 8) v
  (((d.wr (chanOff c + 0x408) s.unc).wr (chanOff c + 0x40C) s.age).wrWords (chanOff c + 0x500) s.tc).chanReconf c

/-- TIME_RESTORE at the first update of a channel after XO qualification: `cycles` of XO and `ticks` of the Beacon since the snapshot
(R361, R363). -/
def timeRestore (c : Fin 16) (cycles ticks : Nat) (d : Dev) : Dev :=
  match d.pwr.restoreFrom with
  | some s =>
    if d.clk.xo && d.pwr.restored && d.pwr.restoreTodo.getLsbD c then
      let e := d.elapsed s.beaconPs cycles ticks
      let eMs := (e.1 + e.2) / 65536000000
      let u := anchorUnc s.acc (e.1 / 65536000) (e.2 / 65536000)
      let first := d.pwr.restoreTodo = BitVec.allOnes 16
      let d := (d.pub40 0x020030 (eMs : Nat)).wr 0x020038 (word (satN 32 u))
      let d := forFin 4 (fun n d =>
        if d.tsChan n = c && (s.ts.get n).wasSet && !(d.tsc n).started then d.tsRestore n (s.ts.get n) ((e.1 + e.2 : Nat) : Int) else d) d
      let d := d.modPwr fun p => { p with restoreTodo := p.restoreTodo &&& ~~~(BitVec.ofNat 16 (2 ^ c.val)) }
      let d := d.tsZero c
      let d := if bit s.cfg 28 && (s.chans.get c).everLocked then d.chanRestore c (s.chans.get c) else d
      let d := if first then d.wakeEvent eMs u s.steps else d
      if bit s.cfg 29 && u ≤ fld s.cfg 0 24 then d.anchorFree else d
    else d
  | none => d

def execSupplyFail (all : Bool) (s : State) : Host.Outcome State Fault Refusal := run (supplyFail all) s
def execResetNAssert (s : State) : Host.Outcome State Fault Refusal := run resetN s
def execBeaconLoss (s : State) : Host.Outcome State Fault Refusal := run beaconLoss s
def execHoldRelease (master : Bool) (id : BitVec 9) (vbakOk : Bool) (s : State) : Host.Outcome State Fault Refusal :=
  run (holdRelease master id vbakOk) s
def execDeviceReset (s : State) : Host.Outcome State Fault Refusal := run deviceReset s
def execBpllLock (s : State) : Host.Outcome State Fault Refusal := run bpllLock s
def execOtpReadDone (ok : Bool) (s : State) : Host.Outcome State Fault Refusal := run (otpReadDone ok) s
def execChartScanDone (ok : Bool) (s : State) : Host.Outcome State Fault Refusal := run (chartScanDone ok) s
def execImageCheckDone (slotB : Bool) (s : State) : Host.Outcome State Fault Refusal := run (imageCheckDone slotB) s
def execXoWindowEnd (w : XoWindow) (s : State) : Host.Outcome State Fault Refusal := run (xoWindowEnd w) s
def execXoAbsentTimeout (s : State) : Host.Outcome State Fault Refusal := run xoAbsentTimeout s
def execXoFail (cause : Fin 3) (s : State) : Host.Outcome State Fault Refusal := run (xoFail cause) s
def execCpllLock (s : State) : Host.Outcome State Fault Refusal := run cpllLock s
def execCpllUnlock (s : State) : Host.Outcome State Fault Refusal := run cpllUnlock s
def execClockSwitchDone (d : Domain) (s : State) : Host.Outcome State Fault Refusal := run (switchDone d) s
def execForcedSwitch (d : Domain) (s : State) : Host.Outcome State Fault Refusal := run (forcedSwitch d) s
def execAvsAck (s : State) : Host.Outcome State Fault Refusal := run avsAck s
def execAvsSettleExpiry (s : State) : Host.Outcome State Fault Refusal := run avsSettle s
def execAvsTimeout (s : State) : Host.Outcome State Fault Refusal := run avsTimeout s
def execThermalSample (s : State) : Host.Outcome State Fault Refusal := run thermalSample s
def execThrottleDrop (s : State) : Host.Outcome State Fault Refusal := run throttleDrop s
def execThrottleRise (s : State) : Host.Outcome State Fault Refusal := run throttleRise s
def execPwrfailTrigger (monitor : Bool) (s : State) : Host.Outcome State Fault Refusal := run (pwrfailTrigger monitor) s
def execCommitDone (s : State) : Host.Outcome State Fault Refusal := run commitDone s
def execPfResumeExpiry (s : State) : Host.Outcome State Fault Refusal := run pfResume s
def execPfResumed (s : State) : Host.Outcome State Fault Refusal := run pfResumed s
def execAnchorSnapshot (beaconPeriodPs : Nat) (s : State) : Host.Outcome State Fault Refusal := run (anchorSnapshot beaconPeriodPs) s
def execAnchorAutoEntry (s : State) : Host.Outcome State Fault Refusal := run anchorAuto s
def execAnchorTempLog (tj : BitVec 16) (s : State) : Host.Outcome State Fault Refusal := run (anchorTempLog tj) s
def execAnchorXoStop (s : State) : Host.Outcome State Fault Refusal := run anchorXoStop s
def execAnchorWake (crcOk : Bool) (s : State) : Host.Outcome State Fault Refusal := run (anchorWake crcOk) s
def execTimeRestore (ch : Fin 16) (xoCycles bcnTicks : Nat) (s : State) : Host.Outcome State Fault Refusal :=
  run (timeRestore ch xoCycles bcnTicks) s
def execVbakLoss (s : State) : Host.Outcome State Fault Refusal := run vbakLoss s
def execPwrOpp (c : Cmd) (s : State) : Host.Outcome State Fault Refusal := run (command 0x90 c (pwrOppBody c)) s
def execAnchorEnter (c : Cmd) (s : State) : Host.Outcome State Fault Refusal := run (command 0x91 c (anchorEnterBody c)) s

end Sys2Proof.Machine
end

