-- ==== Sys2Proof/Machine/Flags.lean ====
section
/-! DEFINITION. What a register reads: the stored word, or the word that the block's present state gives (access types RO/H and
LV of Table 2-4). Bits are those of the register listings that close the chapters. -/

namespace Sys2Proof.Machine

/-- A word from its fields: lowest bit, width, value. -/
def pack (l : List (Nat × Nat × Nat)) : Word := word ((l.map fun f => f.2.2 % 2 ^ f.2.1 * 2 ^ f.1).sum)

/-- A one-bit field. -/
def f1 (lo : Nat) (b : Bool) : Nat × Nat × Nat := (lo, 1, bitAt 0 b)

/-- A slot number of a field that is valid under another field. -/
def slotOf (s : Option (Fin 64)) : Nat := match s with
  | some n => n.val
  | none => 0

/-- µs left until `t`, in units of `u` µs, rounded up. -/
def leftUs (t now u : Nat) : Nat := ceilDiv (t - now) u

/-- TOP (chapter 2). -/
def topView (o : Nat) (d : Dev) : Option Word :=
  let t := d.top
  if o = 0x4 then
    some (pack [f1 31 t.ready, f1 30 (d.clk.sup = .xoAbsent), f1 29 t.run, (24, 3, t.cause.toNat), f1 16 t.slotB,
      (8, 8, t.stage.toNat), (0, 8, t.error.toNat)])
  else if o = 0x8 then some (pack [f1 0 t.run])
  else if o = 0xC then some (pack [(0, 17, t.blk.toNat)])
  else none

/-- CLK_READY and CLK_STATUS (chapter 13). -/
def clkView (o : Nat) (d : Dev) : Option Word :=
  let c := d.clk
  if o = 0x18 then some (pack [f1 4 c.aondiv, f1 3 c.cpll, f1 2 c.bpll, f1 1 c.xo, f1 0 c.bcn])
  else if o = 0x1C then
    some (pack [f1 31 c.aonOnXo, f1 30 d.swBusy, f1 29 c.bcnBad, f1 28 c.bcnRestart, (24, 2, c.lastXoFail.toNat)])
  else none

/-- The codes of PF_STATE (Table 13-6). -/
def PfState.code : PfState → Nat
  | .normal => 0 | .shedding => 1 | .held => 2 | .resuming => 3

/-- A channel is clock-gated (R348). -/
def Dev.chanGated (d : Dev) (c : Fin 16) : Bool :=
  let x := d.chan c
  x.st = .freeRun && (x.mode = .auto || x.mode = .freeRun) && x.loop.y = d.frOffset c &&
    !((List.finRange 8).any fun n => (d.lanSteer n && d.lanChan n = c) ||
        (bit (d.portCfg n) 24 && fld (d.portCfg n) 20 4 = c.val)) &&
    !((List.finRange 4).any fun n => d.tsChan n = c)

/-- A client instance is DISABLED. -/
def Dev.clientOff (d : Dev) (k : Fin 16) : Bool := (d.client k).st = .disabled

/-- A Pilot is power-gated (R348). -/
def Dev.pilotGated (d : Dev) (k : Fin 16) : Bool := d.clientOff k && !((List.range 8).any fun p => bit (d.psrv p) 31)

/-- A Sounding engine is power-gated (R348). -/
def Dev.soundingGated (d : Dev) (m : Fin 4) : Bool := (List.range 4).all fun i => d.clientOff (Fin.ofNat 16 (4 * m.val + i))

/-- The number whose bit i is `f i`. -/
def bitsOf (n : Nat) (f : Fin n → Bool) : Nat := ((List.finRange n).map fun i => bitAt i.val (f i)).sum

/-- PWR (chapter 13). -/
def pwrView (o : Nat) (d : Dev) : Option Word :=
  let p := d.pwr
  if o = 0x0 then
    let w := d.rd 0x020000
    let moving := match p.avs with
      | .upAck _ | .upSettle _ | .downAck => true
      | _ => false
    some (pack [f1 31 moving, f1 30 (p.cap.toNat < fld w 0 2), f1 29 p.avsErr, (6, 2, p.cap.toNat), (4, 2, p.inForce.toNat),
      (0, 2, fld w 0 2)])
  else if o = 0xC then
    some (pack [(30, 2, p.pf.code), f1 29 p.pwrfail, f1 28 p.vddMon, f1 27 p.vbakOk, (0, 16, twos 16 p.tjMax)])
  else if o = 0x14 then
    some (pack [(24, 8, bitsOf 8 fun n => (d.lan n).st = .off), (16, 8, bitsOf 8 fun n => !bit (d.portCfg n) 31),
      (0, 16, bitsOf 16 d.pilotGated)])
  else if o = 0x18 then some (pack [(16, 4, bitsOf 4 d.soundingGated), (0, 16, bitsOf 16 d.chanGated)])
  else if o = 0x28 then
    some (pack [f1 31 p.restored, f1 30 p.xoCounted, f1 29 p.xoCntLost, f1 28 p.byPf, (16, 12, p.tlogOut.length)])
  else none

/-- FLT (chapter 15), the registers of the sources apart. -/
def fltView (o : Nat) (d : Dev) : Option Word :=
  let w := d.watch
  let all := fun (k : Nat) (g : Source → Bool) => pack [(0, 32, bitsOf 32 fun j => g (d.source (Fin.ofNat 192 (32 * k + j.val))))]
  if o = 0x4 then some (pack [f1 31 w.pulseTo.isSome, f1 30 d.alarmLow, (0, 1, d.rdF 0x030004 0 1)])
  else if o = 0x8 then
    some (pack [f1 31 w.safe, f1 30 ((List.finRange 192).any fun n => (d.source n).severe), (0, 8, w.last.toNat)])
  else if o = 0x24 then some (pack [f1 31 w.resetBy.isSome, (0, 8, (w.resetBy.getD 0).toNat)])
  else if 0x40 ≤ o && o < 0x58 then some (all ((o - 0x40) / 4) fun s => s.severe)
  else if 0x60 ≤ o && o < 0x78 then some (all ((o - 0x60) / 4) fun s => s.cond)
  else none

/-- FLT_SRCnnn_STAT. -/
def fltSrcView (n : Fin 192) (o : Nat) (d : Dev) : Option Word :=
  let s := d.source n
  if o = 0x10 then some (pack [f1 31 s.severe, f1 30 s.cond, f1 29 s.blankTo.isSome, f1 28 (isLevel n), (0, 8, s.count)])
  else none

/-- CHART (chapter 14). -/
def chartView (o : Nat) (d : Dev) : Option Word :=
  let c := d.chart
  if o = 0x4 then
    some (pack [f1 31 d.chartShut, f1 30 c.commit.isSome, f1 29 (c.commit.isSome && d.commitHard), f1 28 c.erasing.isSome,
      f1 27 d.wearWait, f1 26 (c.refresh ≠ 0), (20, 4, c.lastRefuse.toNat), (0, 13, bufBytes c.buf)])
  else if o = 0x8 then some (pack [(24, 8, d.erasedLog.length), (16, 8, c.tokens), (0, 16, liveLines d.newest)])
  else if o = 0xC then some (word c.nextSeq)
  else if o = 0x10 then some (pack [(0, 13, liveKeys d.newest)])
  else if 0x100 ≤ o && o < 0x200 then
    let n : Fin 64 := Fin.ofNat 64 ((o - 0x100) / 4)
    some (pack [f1 31 (d.retired n), (29, 2, sectorRegion n), f1 28 (c.refresh.getLsbD n), (0, 24, c.wear.get n)])
  else none

/-- BUOYn_STATUS and BUOYn_QUAL_STATUS (chapters 3 and 4); the rate in use of the CASCADE slot, one event in 1 µs (R80, R135). -/
def buoyView (n : Fin 64) (o : Nat) (d : Dev) : Option Word :=
  let b := d.buoy n
  if o = 0x20 then
    some (pack [f1 31 (b.act.st = .up), f1 30 (b.act.st = .returning), f1 29 b.mon.freqValid, f1 28 (d.ffoChValid n),
      f1 27 b.act.gross, f1 26 b.dec.lock, f1 25 b.dec.todValid, f1 24 b.dec.rangeNow, f1 23 (d.followed n),
      (8, 8, b.dec.format.toNat), (0, 8, satN 8 b.act.retCnt)])
  else if n.val = 60 && (o = 0x4 || o = 0x8 || o = 0xC) then some (if o = 0x4 then 1000000 else if o = 0x8 then 0 else 1)
  else if o = 0x1A0 then
    let q := b.qual
    let f := d.failBits n
    let timed := q.st = .first || q.st = .wtr
    some (pack [(29, 3, q.st.code), f1 28 (q.st = .qualified), f1 27 q.ever, f1 26 (d.disagree n), f1 25 q.reroute,
      f1 24 q.hostHold, f1 23 (f.getD 0 false), f1 22 (f.getD 1 false), f1 21 (f.getD 2 false), f1 20 (f.getD 3 false),
      f1 19 (f.getD 4 false), (0, 16, if timed then satN 16 (d.qualRemain n) else 0)])
  else none

/-- The codes of CHANn_STATE.MODE and CHANn_SEL_STATUS.SEL_SRC. -/
def ChMode.code : ChMode → Nat
  | .auto => 0 | .freeRun => 1 | .dco => 2
def SelSrc.code : SelSrc → Nat
  | .command => 0 | .autopilot => 1 | .forced => 2

/-- LOCK_REMAIN in 10 ms: what is left of LOCK_TIME while it runs, the whole of it while it does not (R153). -/
def Dev.lockRemain (d : Dev) (c : Fin 16) : Nat :=
  let x := d.chan c
  if x.st ≠ .acquiring then 0
  else if x.track.lockRun then leftUs x.track.lockAt d.clk.tbUs 10000
  else fld (d.clsWord c 2) 0 16

/-- One tide channel (chapters 4 to 6). -/
def chanView (c : Fin 16) (o : Nat) (d : Dev) : Option Word :=
  let x := d.chan c
  if o = 0x20 then
    let t := x.track
    some (pack [(29, 3, x.st.code), (27, 2, x.mode.code), f1 26 x.everLocked, f1 25 t.phValid, f1 24 t.phSat, f1 23 t.fpull,
      f1 22 t.slopeLim, f1 21 t.frateLim, f1 20 t.pullLim, f1 19 t.bwClamp, (16, 3, x.cls.val), (0, 16, satN 16 (d.lockRemain c))])
  else if o = 0x204 then
    some (pack [(30, 2, x.sw.lastMode.code), f1 29 (d.quiet c), f1 28 x.sw.jumpUsed, f1 27 x.sw.await,
      f1 26 (x.st = .holdover || x.st = .lost), (0, 16, d.remainMs c)])
  else if o = 0x420 then
    some (pack [f1 31 (d.predValid c), f1 30 x.ho.run, (28, 2, x.ho.baseUsed.toNat), f1 27 x.ho.tempStale,
      (0, 24, satN 24 x.ho.histS)])
  else if o = 0xC00 then
    let s := x.sel
    let b := d.betterSlot c
    some (pack [f1 31 s.cur.isSome, (29, 2, s.src.code), f1 28 x.sw.switching, f1 27 b.isSome, f1 26 s.partner.isSome,
      f1 25 (bit (d.rd (chanOff c + 0xC08)) 0), f1 24 s.orphaned, (18, 6, slotOf s.cur), (12, 6, slotOf b),
      (6, 6, slotOf s.partner)])
  else none

/-- LANn_STATUS (chapter 7). -/
def lanView (n : Fin 8) (o : Nat) (d : Dev) : Option Word :=
  let l := d.lan n
  if o = 0x10 then some (pack [(29, 3, l.st.code), f1 28 (l.st = .locked), f1 27 l.vcoLow, (8, 8, l.band.toNat)]) else none

/-- OUTm_STATUS (chapter 7). -/
def outView (m : Fin 48) (o : Nat) (d : Dev) : Option Word :=
  let x := d.out m
  if o = 0x20 then
    some (pack [f1 31 x.pin.on, f1 30 (d.adjBusy m), f1 21 (!d.lanSteer (d.outLan m)), f1 20 x.mLan, f1 19 (d.mLost m),
      f1 18 x.mWatch, f1 17 x.mAnchor, f1 16 x.mRealign])
  else none

/-- VOUTk_STATUS (chapter 8). -/
def voutView (k : Fin 8) (o : Nat) (d : Dev) : Option Word :=
  let v := d.vout k
  if o = 0x20 then
    some (pack [f1 31 v.pin.on, f1 30 v.mLan, f1 29 v.mWatch, f1 28 v.mAnchor, f1 27 (d.rateErr k), f1 26 v.transition])
  else none

/-- One time scale (chapter 8): the pending step and leap read 0 where nothing is pending. -/
def tsView (n : Fin 4) (o : Nat) (d : Dev) : Option Word :=
  let t := d.tsc n
  let del := t.leap.map (·.1)
  if o = 0x10 then
    some (pack [(30, 2, t.st.code), f1 29 (t.st = .todHold), f1 28 t.step.isSome, f1 27 t.set.isSome,
      f1 26 (t.notice && del = some false), f1 25 (t.notice && del = some true), f1 24 (d.srcValid n),
      (21, 3, (d.chan (d.tsChan n)).st.code)])
  else if o = 0x20 then some (pack [f1 9 t.armed, (0, 8, d.rdF (tsOff n + 0x20) 0 8)])
  else if 0x50 ≤ o && o ≤ 0x60 then
    match t.step with
    | none => some 0
    | some s =>
      if o = 0x50 then some (pack [(0, 32, s.atSec)])
      else if o = 0x54 then some (pack [f1 31 true, (0, 16, s.atSec / 4294967296)])
      else if o = 0x58 then some (word (twos 32 s.dsec))
      else if o = 0x5C then some (word (twos 32 s.dns))
      else some (pack [(0, 16, s.dgr)])
  else if o = 0x68 then
    match t.leap with
    | some l => some (pack [f1 31 true, f1 30 l.1, (0, 20, l.2)])
    | none => some 0
  else if o = 0x6C then some (pack [(30, 2, t.consist), (0, 30, twos 30 t.holdK)])
  else none

/-- TS_OUTm_SIGSTAT (chapter 8). -/
def sigView (m : Fin 48) (o : Nat) (d : Dev) : Option Word :=
  if o = 0x4 then some (pack [f1 31 (d.sigErr m), (0, 16, d.rdF (sigOff m + 4) 0 16)]) else none

/-- TXSTEER_SAT: the clamp to ±100 ppm acts (R240). -/
def Dev.txSat (d : Dev) (p : Fin 8) : Bool :=
  let w := d.portCfg p
  bit w 24 && (d.port p).st ≠ .off && d.txFfo p ≠ (d.chan (Fin.ofNat 16 (fld w 20 4))).loop.y

/-- One port (chapter 9). -/
def portView (p : Fin 8) (o : Nat) (d : Dev) : Option Word :=
  let x := d.port p
  if o = 0x80 then
    some (pack [(30, 2, x.st.code), f1 29 (x.st = .up), f1 28 x.cdr, f1 27 x.pcs, f1 26 (x.fec && bit (d.portCfg p) 28),
      f1 25 x.hiBer, f1 24 (d.txSat p), f1 23 (d.dnuForced p)])
  else if o = 0x98 then some (pack [f1 31 x.esmcValid, f1 30 x.esmcTimeout, (0, 30, d.rdF (portOff p + 0x98) 0 30)])
  else none

/-- TXTS (chapter 9): the holding set is that of the reading interface (R256). -/
def txtsView (i : Fin 4) (o : Nat) (d : Dev) : Option Word :=
  if 0x4 ≤ o && o ≤ 0x10 then some (wordAt (d.txts.hold.get i) (o / 4 - 1))
  else if o = 0x20 then some (pack [f1 31 (d.txts.queue.length == 64), (0, 7, d.txts.queue.length)])
  else none

/-- The Pilots, a port server and a client instance (chapter 10). -/
def pilotView (o : Nat) (d : Dev) : Option Word :=
  if o = 0x0 then
    some (pack [f1 31 d.overload, f1 30 d.pilot.attached.isSome, (24, 5, match d.pilot.attached with | some a => a.2.2 | none => 0),
      (0, 21, d.clientCount)])
  else if o = 0x4 then some (word (satN 32 (ceilDiv d.load16 16)))
  else if o = 0x8 then some (word d.cap)
  else none
def psrvView (p : Fin 8) (o : Nat) (d : Dev) : Option Word :=
  if o = 0x40 then
    some (pack [f1 31 (d.port p).settling, f1 30 (d.serving p), f1 29 (d.subst p), (0, 21, d.portClients p)])
  else none
def prView (k : Fin 16) (o : Nat) (d : Dev) : Option Word :=
  let x := d.client k
  if o = 0x20 then
    some (pack [(30, 2, x.st.code), f1 29 x.hold, f1 28 x.estValid, (20, 8, x.gmClass.toNat),
      (0, 16, if x.hold then satN 16 (leftUs x.holdAt d.clk.tbUs 1000000) else 0)])
  else none

/-- The Tideline block and one link (chapter 11). -/
def tideView (o : Nat) (d : Dev) : Option Word :=
  let t := d.tide
  if o = 0x8 then some (pack [f1 31 t.fromChart, (16, 9, t.strapId.toNat), (0, 9, t.id.toNat)])
  else if o = 0x10 then
    some (pack [(30, 2, t.role.code), f1 29 t.strapped, f1 28 t.active.isSome, (25, 3, match t.active with | some l => l.val | none => 0),
      f1 24 t.masterLost, f1 23 d.claimPossible, f1 22 d.claimReady, f1 21 t.dualMaster, f1 20 t.dupId, f1 19 t.labelErr,
      f1 18 t.depthErr])
  else if o = 0x14 then some (pack [(24, 8, t.mPrio.toNat), (12, 4, satN 4 t.hops), (0, 9, t.mId.toNat)])
  else if o = 0x18 then some (word (twos 32 (sat32 t.lofs)))
  else none
def linkView (l : Fin 5) (o : Nat) (d : Dev) : Option Word :=
  let x := d.link l
  if o = 0x10 then
    let peer := match x.last with
      | some f => [f1 26 f.masterLost, (16, 9, f.senderId.toNat), (12, 4, satN 4 f.hops.toNat), (9, 3, f.senderLink.toNat),
          (0, 9, f.mId.toNat)]
      | none => []
    some (pack ([(29, 3, x.st.code), f1 28 (d.eligible l), f1 27 x.dirErr, f1 25 x.tooFar] ++ peer))
  else none

/-- HOSTIF and one ring (chapter 12). -/
def hostView (o : Nat) (d : Dev) : Option Word :=
  if o = 0x8 then
    some (pack [f1 31 d.host.resetCause.isSome, f1 30 d.host.pcieUp, f1 29 d.host.busMaster, (0, 16, d.rdF 0x2C0008 0 16)])
  else if o = 0x10 then some (pack [(0, 26, bitsOf 26 d.irqBit)])
  else none
def ringView (r : Fin 26) (o : Nat) (d : Dev) : Option Word :=
  let g := d.ring r
  if o = 0xC then
    some (pack [f1 31 g.err, f1 30 (if h : r.val < 4 then d.cqBusy ⟨r.val, h⟩ else false),
      f1 29 (deviceFilled r && d.ringEn r && d.ringFull r), (26, 3, g.errCode.toNat), (0, 16, g.devIdx)])
  else none

/-- The codes of FW_STATE (Table 16-7). -/
def FwState.code : FwState → Nat
  | .idle => 0 | .writing => 1 | .verified => 2 | .trial => 3

/-- KEEPER (chapters 1 and 16). -/
def keeperView (o : Nat) (d : Dev) : Option Word :=
  let s := d.keeper.sup
  let f := d.fw
  if o = 0x104 then
    some (pack [(16, 16, d.rdF 0x300104 16 16), (8, 2, s.stallRun.toNat), f1 1 (s.ap = .halted), f1 0 d.apActive])
  else if o = 0x110 then
    some (pack [(29, 3, f.state.code), f1 28 f.prefB, (24, 4, f.stage.toNat), (16, 8, d.rdF 0x300110 16 8),
      (0, 16, if f.state = .trial then satN 16 (leftUs f.confirmAt d.clk.aonUs 1000000) else 0)])
  else if o = 0x118 then
    some (pack ([f1 31 d.otp.busy.isSome, f1 30 d.debugOpen, (28, 2, d.otp.debugLevel)] ++
      ((List.finRange 3).map fun k => (22 + 2 * k.val, 2, (d.otp.keys.get k).1.code)) ++ [(0, 8, d.otp.rollback)]))
  else if o = 0x294 then
    let i := d.rdF 0x300290 0 11
    let n := d.pwr.tlogOut.length
    some (if i < n then pack [(16, 16, n - 1 - i), (0, 16, (d.pwr.tlogOut.getD i 0).toNat)] else 0)
  else none

/-- A word of the Keeper-private range (Table 16-2): the index registers of R446, the OTP window, whose layout the spec does not
give (log entry 9), and the memory of the queues; the write-only logbook port reads 0. -/
def privateView (off : Nat) (d : Dev) : Option Word :=
  let k := d.keeper
  if off = 0x308800 then some (word k.cqDb)
  else if off = 0x308810 then some (word k.evq.ci)
  else if off = 0x308814 then some (word k.anq.ci)
  else if off = 0x308818 then some (word k.flq.ci)
  else if 0x30E000 ≤ off && off < 0x30E020 then some 0
  else if 0x310000 ≤ off && off < 0x310200 then
    let keys := ((List.finRange 3).map fun j => 4 ^ j.val * (d.otp.keys.get j).1.code).sum
    some (Config.otpWord (d.otp.rollback + 256 * d.otp.debugLevel + 1024 * keys) off)
  else none

/-- The word that the state gives for a register, none where the register is storage. -/
def Dev.computed (i : Fin 4) (off : Nat) (d : Dev) : Option Word :=
  if off < 0x10000 then topView off d
  else if off < 0x20000 then clkView (off - 0x10000) d
  else if off < 0x30000 then pwrView (off - 0x20000) d
  else if off < 0x31000 then fltView (off - 0x30000) d
  else if off < 0x40000 then fltSrcView (Fin.ofNat 192 ((off - 0x31000) / 0x20)) ((off - 0x31000) % 0x20) d
  else if off < 0x50000 then chartView (off - 0x40000) d
  else if off < 0x80000 then none
  else if off < 0x88000 then buoyView (Fin.ofNat 64 ((off - 0x80000) / 0x200)) ((off - 0x80000) % 0x200) d
  else if off < 0x100000 then none
  else if off < 0x110000 then chanView (Fin.ofNat 16 ((off - 0x100000) / 0x1000)) ((off - 0x100000) % 0x1000) d
  else if off < 0x141000 then lanView (Fin.ofNat 8 ((off - 0x140000) / 0x100)) ((off - 0x140000) % 0x100) d
  else if off < 0x180000 then outView (Fin.ofNat 48 ((off - 0x141000) / 0x40)) ((off - 0x141000) % 0x40) d
  else if off < 0x1C0000 then voutView (Fin.ofNat 8 ((off - 0x181000) / 0x40)) ((off - 0x181000) % 0x40) d
  else if off < 0x1C1000 then tsView (Fin.ofNat 4 ((off - 0x1C0000) / 0x100)) ((off - 0x1C0000) % 0x100) d
  else if off < 0x200000 then sigView (Fin.ofNat 48 ((off - 0x1C1000) / 0x10)) ((off - 0x1C1000) % 0x10) d
  else if off < 0x208000 then portView (Fin.ofNat 8 ((off - 0x200000) / 0x400)) ((off - 0x200000) % 0x400) d
  else if off < 0x210000 then txtsView i (off - 0x208000) d
  else if off < 0x211000 then pilotView (off - 0x210000) d
  else if off < 0x212000 then psrvView (Fin.ofNat 8 ((off - 0x211000) / 0x100)) ((off - 0x211000) % 0x100) d
  else if off < 0x280000 then prView (Fin.ofNat 16 ((off - 0x212000) / 0x100)) ((off - 0x212000) % 0x100) d
  else if off < 0x280100 then tideView (off - 0x280000) d
  else if off < 0x2C0000 then linkView (Fin.ofNat 5 ((off - 0x280100) / 0x80)) ((off - 0x280100) % 0x80) d
  else if off < 0x2C1000 then hostView (off - 0x2C0000) d
  else if off < 0x300000 then ringView (Fin.ofNat 26 ((off - 0x2C1000) / 0x40)) ((off - 0x2C1000) % 0x40) d
  else if off < 0x308000 then keeperView (off - 0x300000) d
  else if off < 0x3F0000 then privateView off d
  else none

/-- What a read of the register at `off` returns to interface `i`; a complement register reads 0 (R56). -/
def Dev.regView (i : Fin 4) (off : Nat) (d : Dev) : Word :=
  if (regDesc off).any (·.kind = .complement) then 0 else (d.computed i off).getD (d.rd off)

end Sys2Proof.Machine
end

