-- ==== Sys2Proof/Machine/RegBus.lean ====
section
/-! DEFINITION. REGCHK: the checks of Table 2-3 in their order, guarded writes (R55 to R58), 40-bit values (R62), the effect of an
accepted write, and reads (chapter 2); with the commands that are register accesses. -/

namespace Sys2Proof.Machine

/-! ### The port of an interface -/

def Dev.guardOf (i : Iface) (d : Dev) : Option Guard := (d.chk.ports.get (ifaceIdx i)).guard
def Dev.setGuard (i : Iface) (g : Option Guard) (d : Dev) : Dev :=
  d.modChk fun c => { c with ports := c.ports.set (ifaceIdx i) { c.ports.get (ifaceIdx i) with guard := g } }
/-- The pending _LO of a writable 40-bit value at `base`. -/
def Dev.loOf (i : Iface) (base : Nat) (d : Dev) : Option Word :=
  ((d.chk.ports.get (ifaceIdx i)).pendLo.find? fun e => e.1 = base).map (·.2)
def Dev.setLo (i : Iface) (base : Nat) (v : Option Word) (d : Dev) : Dev :=
  d.modChk fun c =>
    let p := c.ports.get (ifaceIdx i)
    let l := match v with
      | some w => Tab.ins base w p.pendLo
      | none => Tab.del base p.pendLo
    { c with ports := c.ports.set (ifaceIdx i) { p with pendLo := l } }

/-- A guarded sequence breaks: the guard is disarmed and the first write recorded with reason GUARD at its address (R55). -/
def Dev.guardBreak (i : Iface) (d : Dev) : Dev :=
  match d.guardOf i with
  | some g => (d.setGuard i none).violate i 0 g.off .guard true g.val
  | none => d

/-! ### Steps 1 to 3 -/

/-- Step 1: the device is not READY or the block is not ready; TOP and REGCHK are exempt but for a write of TOP_RUN (R42). -/
def Dev.early (d : Dev) (a : Nat) (write : Bool) : Bool :=
  match blockOf a with
  | some b => if b = 0 || b = 5 then write && a = 8 && !d.top.ready else !d.top.ready || !d.blockReady b
  | none => !d.top.ready

/-- What an address of the Keeper-private range is (Table 16-2). -/
inductive PrivKind where
  | memory | index | logbook | readOnly
deriving DecidableEq, Repr

def privKind (a : Nat) : Option PrivKind :=
  if 0x308000 ≤ a && a < 0x308400 then some .memory
  else if 0x308400 ≤ a && a < 0x308500 then some .readOnly
  else if a = 0x308800 || a = 0x308810 || a = 0x308814 || a = 0x308818 then some .index
  else if 0x309000 ≤ a && a < 0x30D800 then some .readOnly
  else if 0x30E000 ≤ a && a < 0x30E020 then some .logbook
  else if 0x310000 ≤ a && a < 0x310200 then some .readOnly
  else none

/-- Step 2: no register of its block's chapter, and nothing of Table 16-2 (R35). -/
def unimplemented (a : Nat) : Bool := (regDesc a).isNone && (privKind a).isNone

/-- The first of steps 1 to 3 that fails. -/
def Dev.steps123 (d : Dev) (i : Iface) (a : Nat) (write : Bool) : Option Reason :=
  if d.early a write then some .early
  else if unimplemented a then some .unimpl
  else if isPrivate a && i ≠ .keeper then some .locked
  else none

/-! ### Steps 4 and 5 -/

/-- Registers that the Keeper alone writes: KEEPER_WDT_KICK and FLT_RAISE (R408). -/
def keeperOnly (a : Nat) : Bool := a = 0x300100 || a = 0x030020

/-- A KR field's written value differs from its current value; test controls change through JTAG with debug unlocked (R54). -/
def Dev.krBad (d : Dev) (i : Iface) (a : Nat) (r : RegDesc) (v : Word) : Bool :=
  !(i = .jtag && d.debugOpen) && r.fields.any fun f => f.acc = .kr && fld v f.lo f.width ≠ fld (d.rd a) f.lo f.width

def Dev.steps45 (d : Dev) (i : Iface) (a : Nat) (r : RegDesc) (v : Word) : Option Reason :=
  if d.krBad i a r v then some .ro else if (keeperOnly a && i ≠ .keeper) || !(r.fields.any fun f => f.acc ≠ .zero) then some .ro
  else if d.top.run && (a = 8 || r.setup) then some .locked
  else none

/-! ### Step 6 -/

/-- The state that a guarded field requires holds. -/
def Dev.step6 (d : Dev) (a : Nat) (v : Word) : Bool :=
  if a = 0x010010 then d.srcSelOk v
  else if a = 0x030010 then !bit v 0 || d.watch.safe
  else if a = 0x040030 then d.rawEraseOk (fld v 0 6)
  else if a = 0x300108 then (!bit v 0 || d.releaseOk) && (!bit v 1 || d.keeper.sup.ap = .halted)
  else if a = 0x300120 then d.otpOk (fld v 0 2) (fld v 4 2)
  else true

/-! ### Step 7: what joins several fields or reads the state -/

/-- A word of a register group as it would stand after the write. -/
def Dev.over (d : Dev) (a : Nat) (v : Word) (b : Nat) : Word := if a = b then v else d.rd b

/-- A Buoy's registers (R75, R78 to R80, R90, R91, R100, Table 4-4, R88). -/
def Dev.buoyBad (d : Dev) (n : Fin 64) (o : Nat) (v : Word) : Bool :=
  let b := buoyOff n
  let cfg := d.rd b
  let num := d.rdU40 (b + 4)
  if o = 0x0 then
    let use := d.rateUse n (fld v 28 4) num (d.rd (b + 0xC))
    !(buoyCfgBad n v use.1 use.2).isEmpty
  else if o = 0xC then !(buoyCfgBad n cfg num v).isEmpty
  else if o = 0x10 then
    let use := d.rateUse n (d.decoder n) num (d.rd (b + 0xC))
    !detWinOk (d.decoder n) use.1 (fld use.2 0 16) (fld v 0 27)
  else if o = 0x1C then !(mtieCfgBad v).isEmpty
  else if o = 0x184 || o = 0x188 then fld v 16 16 ≤ fld v 0 16
  else if o = 0x114 then bit v 0 && (d.hsQueue n).isNone
  else false

/-- A Lantern's registers (R192): NNUM stays below NDEN, and f_V is judged as LANn_CFG is written. -/
def Dev.lanRegBad (d : Dev) (n : Fin 8) (o : Nat) (v : Word) : Bool :=
  let b := lanOff n
  let nnum := d.over (b + o) v (b + 4)
  let nden := d.over (b + o) v (b + 8)
  if o = 0x0 then !(lanBad d.fXo v nnum nden).isEmpty else o ≤ 0x8 && decide (fld nden 0 24 ≤ fld nnum 0 24)

/-- An output's registers (R199, R204). -/
def Dev.outRegBad (d : Dev) (m : Fin 48) (o : Nat) (v : Word) : Bool :=
  let b := outOff m
  let w := fun k => d.over (b + o) v (b + k)
  o ≤ 0x14 && !(d.outBad m (w 0) (w 4) (w 8) (if m.val < 16 then w 0xC else 0) (if m.val < 16 then w 0x10 else 1) (w 0x14)).isEmpty

/-- A video output's registers (R235, R236). -/
def Dev.voutRegBad (d : Dev) (k : Fin 8) (o : Nat) (v : Word) : Bool :=
  let b := voutOff k
  let w := fun j => d.over (b + o) v (b + j)
  o ≤ 0x14 && !(voutBad (w 0) (w 8) (w 0xC) (w 0x10) (w 0x14)).isEmpty

/-- A port's registers (R239, chapter 9). -/
def Dev.portRegBad (d : Dev) (p : Fin 8) (o : Nat) (v : Word) : Bool :=
  let b := portOff p
  portWords.contains o && !(portBad fun i => d.over (b + o) v (b + portWords.getD i 0)).isEmpty

/-- Step 7 beyond the single fields. -/
def Dev.crossBad (d : Dev) (a : Nat) (v : Word) : Bool :=
  if a = 0x010000 then
    let f := fld v 0 28
    f < 10000000 || 250000000 < f || (d.clk.xo && f ≠ d.fXo)
  else if a = 0x010030 then d.clkmonBad v
  else if 0x031000 ≤ a && a < 0x032800 then
    if (a - 0x31000) % 0x20 = 0 then setsBad ((a - 0x31000) / 0x20) v else if (a - 0x31000) % 0x20 = 4 then thrBad v else false
  else if 0x080000 ≤ a && a < 0x088000 then d.buoyBad (Fin.ofNat 64 ((a - 0x80000) / 0x200)) ((a - 0x80000) % 0x200) v
  else if a = 0x090000 then fld v 8 8 ≤ fld v 0 8
  else if 0x100000 ≤ a && a < 0x110000 then (a - 0x100000) % 0x1000 = 0x400 && tempSrcBad v
  else if 0x140000 ≤ a && a < 0x140800 then d.lanRegBad (Fin.ofNat 8 ((a - 0x140000) / 0x100)) ((a - 0x140000) % 0x100) v
  else if 0x141000 ≤ a && a < 0x141C00 then d.outRegBad (Fin.ofNat 48 ((a - 0x141000) / 0x40)) ((a - 0x141000) % 0x40) v
  else if 0x181000 ≤ a && a < 0x181200 then d.voutRegBad (Fin.ofNat 8 ((a - 0x181000) / 0x40)) ((a - 0x181000) % 0x40) v
  else if 0x200000 ≤ a && a < 0x202000 then d.portRegBad (Fin.ofNat 8 ((a - 0x200000) / 0x400)) ((a - 0x200000) % 0x400) v
  else if 0x211000 ≤ a && a < 0x211800 then (a - 0x211000) % 0x100 = 0 && !(psrvBad v).isEmpty
  else if 0x212000 ≤ a && a < 0x213000 then (a - 0x212000) % 0x100 = 0 && !(prBad v).isEmpty
  else if 0x2C1000 ≤ a && a < 0x2C1680 then
    let r : Fin 26 := Fin.ofNat 26 ((a - 0x2C1000) / 0x40)
    let o := (a - 0x2C1000) % 0x40
    if o = 8 then d.ringCfgBad r (d.rd a) v else if o < 8 then d.ringEn r else false
  else if a = 0x300100 then fld v 0 16 ≠ 0x4B45
  else if a = 0x300120 then otpSlotBad (fld v 0 2) (fld v 4 2)
  else if a = 0x300290 then d.pwr.tlogOut.length ≤ fld v 0 11
  else false

/-- Step 7. -/
def Dev.step7 (d : Dev) (a : Nat) (r : RegDesc) (v : Word) : Bool := r.fields.any (fieldBad v) || d.crossBad a v

/-- FNOM, FDEN and PREDIV of a slot whose decoder sets them: a write is neither judged at step 7 nor kept (R80). -/
def Dev.ignores (d : Dev) (a : Nat) : Bool :=
  let o := (a - 0x80000) % 0x200
  0x080000 ≤ a && a < 0x088000 && (o = 4 || o = 8 || o = 0xC) && rateFixed (d.decoder ((a - 0x80000) / 0x200))

/-! ### The effect of an accepted write -/

/-- The fields marked /H that hardware updates in the cycle of the write (R47); of a CT counter R51 decides. -/
def hwFields (fs : List RegField) (hw : Word) : List RegField :=
  fs.filter fun f => f.mark = .hw && f.acc ≠ .ct && fld hw f.lo f.width ≠ 0

/-- A write meets the hardware updates of its cycle: the fields that lose keep the hardware value `now`, and the write is counted
(R47, R49). An /S field takes the written value (R50). -/
def Dev.meets (fs : List RegField) (hw now v : Word) (d : Dev) : Word × Dev :=
  match hwFields fs hw with
  | [] => (v, d)
  | l => (l.foldl (fun w f => setFld w f.lo f.width (fld now f.lo f.width)) v, d.bump 0x050014 0 32)

/-- The increments of CT fields in the cycle of a write: those that `hw` names, and those that the write's own command made, which
took the register from `before` to `now` (R51). -/
def sameCycle (fs : List RegField) (hw before now : Word) : Word :=
  fs.foldl (fun w f =>
    if f.acc = .ct then
      setFld w f.lo f.width (satN f.width (fld hw f.lo f.width + (fld now f.lo f.width - fld before f.lo f.width)))
    else w) hw

/-- The writable fields of a register taken from a written word (Table 2-4): a CT field takes the increments of its cycle where 0 is
written (R51); the one LK field is held in TOP. -/
def takeFields (fs : List RegField) (hw v old : Word) : Word :=
  fs.foldl (fun w f =>
    match f.acc with
    | .rw | .kr => setFld w f.lo f.width (fld v f.lo f.width)
    | .ct => if fld v f.lo f.width = 0 then setFld w f.lo f.width (fld hw f.lo f.width) else w
    | .zero | .tr | .lk => w) old

/-- A new rate leaves the DET_WIN of a CLOCK or WORDCLK slot outside its range: it becomes 16 ns (R91). -/
def Dev.windowKeep (n : Fin 64) (d : Dev) : Dev :=
  let dec := d.decoder n
  if (dec = 1 || dec = 6) && !detWinOk dec (d.rdU40 (buoyOff n + 4)) (d.rdF (buoyOff n + 0xC) 0 16) (d.rdF (buoyOff n + 0x10) 0 27) then
    d.wr (buoyOff n + 0x10) 16
  else d

/-- What follows a Buoy's registers: row 1 of Table 3-6 and the DET_WIN of a new decoder (R80, R91), an estimate pushed (R88). -/
def Dev.buoyTook (n : Fin 64) (o : Nat) (old v : Word) (d : Dev) : Dev :=
  if o = 0x0 then
    let d := if fld old 28 4 = fld v 28 4 then d else (d.wr (buoyOff n + 0x10) (word (detWinDefault (fld v 28 4)))).takeRate n
    d.slotRestart n
  else if o = 0xC then d.windowKeep n
  else if o = 0x114 then (if bit v 0 then (d.hsQueue n).getD d else d)
  else d

/-- What follows a channel's registers: coefficients and limits (R142), mute on loss, ranks (R126), the host's temperature. -/
def Dev.chanTook (c : Fin 16) (o : Nat) (old : Word) (d : Dev) : Dev :=
  if o = 0x0 || (0x100 ≤ o && o < 0x160) then d.chanReconf c
  else if o = 0x4 then (d.chanReconf c).chanOutputs c
  else if o = 0x410 then d.modHo c fun h => { h with extAt := some d.clk.aonUs }
  else if 0xC40 ≤ o && o < 0xC60 then
    d.partnerKeep c fun s => if 0xC40 + 4 * (s.val / 8) = o then fld old (4 * (s.val % 8)) 4 else d.rank c s
  else d

/-- What follows a Lantern's registers (R198): the ratio, LDIV or LBW changed, or only STEER_EN and the steering. -/
def Dev.lanTook (n : Fin 8) (o : Nat) (old v : Word) (d : Dev) : Dev :=
  let ratio := if o = 0x0 then decide (fld old 0 11 ≠ fld v 0 11) || decide (fld old 24 3 ≠ fld v 24 3) || decide (fld old 19 3 ≠ fld v 19 3)
    else decide (old ≠ v)
  d.lanChanged n ratio

/-- What follows a video output's registers: a new place of 0H while it runs is a transition (R238). -/
def Dev.voutTook (k : Fin 8) (o : Nat) (old v : Word) (d : Dev) : Dev :=
  let moved := (o = 0x10 || o = 0x14) && decide (old ≠ v)
  let was := fun b => if o = b then old else d.rd (voutOff k + b)
  let now := d.tsNow (Fin.ofNat 4 (d.rdF (voutOff k) 26 2))
  (onlyIf moved (Dev.voutHold k (voutDelay (d.voutFmt k) (was 0x10) (was 0x14)) now now) d).voutRefresh k

/-- TSn_CFG: the bind of R217 and the set-up of the source; TSn_CAP_CTRL.CAPTURE arms (R230). -/
def Dev.tsTook (n : Fin 4) (o : Nat) (old v : Word) (d : Dev) : Dev :=
  if o = 0x0 then
    -- the other bits are in force; CH and the source are taken from the old word on
    let d := d.wr (tsOff n) (setFld (setFld (setFld (setFld (setFld v 28 4 (fld old 28 4)) 24 1 (fld old 24 1)) 16 6 (fld old 16 6)) 26 1
      (fld old 26 1)) 25 1 (fld old 25 1))
    let d := if fld old 28 4 = fld v 28 4 then d else d.tsBind n (Fin.ofNat 16 (fld v 28 4))
    d.todConfig n (bit v 25) (bit v 24) (fld v 16 6) (bit v 26)
  else if o = 0x4 then d.noticeJudge n (d.tsNow n)
  else if o = 0x20 then (if bit v 8 then d.captureArm n else d)
  else d

/-- TL_CFG: LINK_EN (rows 1 and 4 of Table 11-3) and PRIO (R303). -/
def Dev.tideTook (o : Nat) (old v : Word) (d : Dev) : Dev :=
  if o = 0x0 then
    let d := d.linkEnables
    if fld old 24 8 = fld v 24 8 then d else d.setPrio (fld v 24 8)
  else d

/-- What an accepted write leads to beyond the stored word; `old` is the word before. -/
def Dev.took (a : Nat) (old v : Word) (d : Dev) : Dev :=
  if a = 0x000008 then d.modTop fun t => { t with run := true, stage := if t.stage = 6 then 7 else t.stage }
  else if a = 0x010000 then (if fld old 0 28 = fld v 0 28 then d else d.modClk fun c => { c with windows := [] })
  else if a = 0x020000 then d.loadRefresh.oppKick
  else if a = 0x020028 then (if bit v 0 then d.anchorFree else d)
  else if a = 0x030020 then (if bit v 8 then d.faultGiven (fld v 0 8) false else d)
  else if 0x031000 ≤ a && a < 0x032800 then
    (if (a - 0x31000) % 0x20 = 4 then d.countClamp (Fin.ofNat 192 ((a - 0x31000) / 0x20)) else d)
  else if a = 0x05000C then
    (if bit v 0 then d.wr 0x050004 (setFld (setFld (d.rd 0x050004) 31 1 0) 0 16 0) else d)
  else if 0x080000 ≤ a && a < 0x088000 then d.buoyTook (Fin.ofNat 64 ((a - 0x80000) / 0x200)) ((a - 0x80000) % 0x200) old v
  else if 0x100000 ≤ a && a < 0x110000 then d.chanTook (Fin.ofNat 16 ((a - 0x100000) / 0x1000)) ((a - 0x100000) % 0x1000) old
  else if 0x140000 ≤ a && a < 0x140800 then
    (if (a - 0x140000) % 0x100 < 0x10 then d.lanTook (Fin.ofNat 8 ((a - 0x140000) / 0x100)) ((a - 0x140000) % 0x100) old v else d)
  else if 0x141000 ≤ a && a < 0x141C00 then d.outRefresh (Fin.ofNat 48 ((a - 0x141000) / 0x40))
  else if 0x181000 ≤ a && a < 0x181200 then d.voutTook (Fin.ofNat 8 ((a - 0x181000) / 0x40)) ((a - 0x181000) % 0x40) old v
  else if 0x1C0000 ≤ a && a < 0x1C0400 then d.tsTook (Fin.ofNat 4 ((a - 0x1C0000) / 0x100)) ((a - 0x1C0000) % 0x100) old v
  else if 0x1C1000 ≤ a && a < 0x1C1300 then d.outRefresh (Fin.ofNat 48 ((a - 0x1C1000) / 0x10))
  else if 0x200000 ≤ a && a < 0x202000 then
    (if (a - 0x200000) % 0x400 = 0 then (d.portChanged (Fin.ofNat 8 ((a - 0x200000) / 0x400)) old).2 else d)
  else if 0x211000 ≤ a && a < 0x211800 then d.loadRefresh
  else if 0x212000 ≤ a && a < 0x213000 then
    (if (a - 0x212000) % 0x100 = 0 then d.clientEnable (Fin.ofNat 16 ((a - 0x212000) / 0x100)) else d)
  else if 0x280000 ≤ a && a < 0x280100 then d.tideTook (a - 0x280000) old v
  else if a = 0x2C0000 then (if bit v 0 then d.hostReset 3 else d)
  else if 0x2C1000 ≤ a && a < 0x2C1680 then
    (if (a - 0x2C1000) % 0x40 = 8 then d.ringCfgDone (Fin.ofNat 26 ((a - 0x2C1000) / 0x40)) old v else d)
  else if a = 0x300100 then d.wdtRestart
  else d

/-- A write of a plain register that has passed every check, with the hardware updates of its cycle. A restart of the watchdog
in the cycle of its expiry is discarded (R23). -/
def Dev.take (a : Nat) (r : RegDesc) (hw v : Word) (d : Dev) : Dev :=
  if a = 0x300100 && hw ≠ 0 then d
  else
    let d := if 0x211000 ≤ a && a < 0x211800 then d.bucketsSync (Fin.ofNat 8 ((a - 0x211000) / 0x100)) else d
    let old := d.rd a
    let m := d.meets r.fields hw old v
    (m.2.wr a (takeFields r.fields hw m.1 old)).took a old m.1

/-- A guarded write that has passed every check: its triggers act and read 0. -/
def Dev.takeGuarded (a : Nat) (v : Word) (d : Dev) : Dev :=
  if a = 0x010010 then d.srcSel v
  else if a = 0x030010 then (if bit v 0 then d.safeClear else d)
  else if a = 0x030018 then
    let d := d.wr a (word (fld v 0 8))
    if bit v 8 then d.faultGiven (fld v 0 8) true else d
  else if a = 0x040030 then d.rawErase (fld v 0 6)
  else if a = 0x300108 then (if bit v 0 then d.apReleased else if bit v 1 then d.apRestarted else d)
  else if a = 0x300120 then (d.wr a (word (fld v 4 2 * 16))).otpStart (fld v 0 2) (fld v 4 2)
  else if 0x100000 ≤ a && a < 0x110000 then d.forceWrite (Fin.ofNat 16 ((a - 0x100000) / 0x1000)) v
  else d

/-! ### Writes -/

/-- What a check answers: the reason it recorded, if any. -/
abbrev Checked := Option Reason × Dev

/-- A write discarded and recorded. -/
def Dev.fail (i : Iface) (off : Nat) (why : Reason) (v : Word) (d : Dev) : Checked := (some why, d.violate i 0 off why true v)

/-- Steps 6 and 7 on the value of a complete guarded sequence, recorded at address `a` (R55, R58). -/
def Dev.guardWrite (i : Iface) (a : Nat) (hw v : Word) (d : Dev) : Checked :=
  if !d.step6 a v then d.fail i a .guard v
  else if (match regDesc a with | some r => d.step7 a r v | none => false) then d.fail i a .range v
  else
    let m := d.meets (match regDesc a with | some r => r.fields | none => []) hw (d.regView 0 a) v
    (none, m.2.takeGuarded a m.1)

/-- A write to a complement address (R55, R56). -/
def Dev.complement (i : Iface) (a : Nat) (hw v : Word) (d : Dev) : Checked :=
  match d.guardOf i with
  | some g =>
    if g.off + 4 = a then
      let d := d.setGuard i none
      if v = ~~~g.val then d.guardWrite i g.off hw g.val else d.fail i a .guard v
    else d.fail i a .guard v
  | none => d.fail i a .guard v

/-- The range of a writable 40-bit value: a rate under the rules of its slot, FR_OFFSET and the DCO target within ±PULL. -/
def Dev.bad40 (d : Dev) (base : Nat) (v : Nat) : Bool :=
  if 0x080000 ≤ base && base < 0x088000 then
    let n : Fin 64 := Fin.ofNat 64 ((base - 0x80000) / 0x200)
    (base - 0x80000) % 0x200 = 4 && !(buoyCfgBad n (d.rd (buoyOff n)) v (d.rd (buoyOff n + 0xC))).isEmpty
  else frOutside (d.rd (chanOff ((base - 0x100000) / 0x1000) + 4)) (signed 40 v)

/-- What follows a 40-bit value: DET_WIN under a new rate, the marks of a host estimate. -/
def Dev.took40 (base : Nat) (d : Dev) : Dev :=
  if 0x080000 ≤ base && base < 0x088000 then
    let n : Fin 64 := Fin.ofNat 64 ((base - 0x80000) / 0x200)
    let o := (base - 0x80000) % 0x200
    if o = 4 then d.windowKeep n
    else if o = 0x100 then d.modBuoy n fun b => { b with hsPhase := true }
    else d.modBuoy n fun b => { b with hsFfo := true }
  else d

/-- A _HI write: the value of this word and the interface's own pending _LO takes effect (R62). -/
def Dev.write40 (i : Iface) (a : Nat) (r : RegDesc) (lo : Option Word) (hw v : Word) (d : Dev) : Checked :=
  let base := a - 4
  let n := fld v 0 8 * 4294967296 + (lo.getD (d.rd base)).toNat
  if d.ignores a then (none, d)
  else if fld v 8 24 ≠ 0 || d.bad40 base n then d.fail i a .range v
  else if hwFields r.fields hw ≠ [] then (none, (d.meets r.fields hw v v).2)
  else (none, (d.pub40 base n).took40 base)

/-- A word written to the Keeper-private range by the Keeper (Table 16-2, R411, R414, R446). -/
def Dev.privWrite (i : Iface) (a : Nat) (k : PrivKind) (v : Word) (d : Dev) : Checked :=
  let n := v.toNat
  match k with
  | .memory => (none, d.wr a v)
  | .readOnly => d.fail i a .ro v
  | .logbook =>
    if a ≠ 0x30E01C then (none, d.wr a v)
    else if d.rdF 0x30E000 0 8 < 0xC0 then d.fail i a .range v
    else (none, d.logbook v)
  | .index =>
    if a = 0x308800 then (if n < 16 then (none, d.keeperOffer n) else d.fail i a .range v)
    else if a = 0x308810 then
      if ciOk d.keeper.evq 256 n then (none, d.modKeeper fun x => { x with evq := { x.evq with ci := n } }) else d.fail i a .range v
    else if a = 0x308814 then
      if ciOk d.keeper.anq 64 n then (none, d.modKeeper fun x => { x with anq := { x.anq with ci := n } }) else d.fail i a .range v
    else if ciOk d.keeper.flq 64 n then (none, d.modKeeper fun x => { x with flq := { x.flq with ci := n } }) else d.fail i a .range v

/-- A full write that has passed steps 1 to 3 and is not partial; `lo` is the pending _LO that a _HI write ends. -/
def Dev.writeReg (i : Iface) (a : Nat) (r : RegDesc) (lo : Option Word) (hw v : Word) (d : Dev) : Checked :=
  match r.kind with
  | .complement => d.complement i a hw v
  | k =>
    match d.steps45 i a r v with
    | some why => d.fail i a why v
    | none =>
      match k with
      | .guard => (none, d.setGuard i (some ⟨a, v⟩))
      | .lo40 => (none, if d.ignores a then d else d.setLo i a (some v))
      | .hi40 => d.write40 i a r lo hw v
      | _ =>
        if d.ignores a then (none, d)
        else if d.step7 a r v then d.fail i a .range v
        else (none, d.take a r hw v)

/-- A BAR0 write of an interface: it resolves the guard of its interface, ends a pending _LO, and is checked (R36, R41, R55, R62).
`be` are the byte enables, `hw` the hardware updates of the cycle. -/
def Dev.busWrite (i : Iface) (off : Nat) (v : Word) (be : Nat) (hw : Word) (d : Dev) : Checked :=
  let a := off / 4 * 4
  let full := be = 15 && off = a
  let before := d.rd a
  let d := match d.guardOf i with
    | some g => if full && a = g.off + 4 then d else d.guardBreak i
    | none => d
  let hi := (regDesc a).any fun r => r.kind = .hi40
  let lo := if hi then d.loOf i (a - 4) else none
  let d := if hi then d.setLo i (a - 4) none else d
  match d.steps123 i a true with
  | some why => (d.setGuard i none).fail i off why v
  | none =>
    if !full then d.fail i off .range v
    else match privKind a, regDesc a with
      | some k, _ => d.privWrite i a k v
      | none, some r => d.writeReg i a r lo (sameCycle r.fields hw before (d.rd a)) v
      | none, none => d.fail i off .unimpl v

/-! ### Reads -/

/-- What a BAR0 read answers: the reason it recorded, the word, and the device. -/
def Dev.busRead (i : Iface) (off : Nat) (d : Dev) : Option Reason × Word × Dev :=
  let a := off / 4 * 4
  match d.steps123 i a false with
  | some why => (some why, if why = .early then 0xFFFFFFFF else 0, d.violate i 0 off why false 0)
  | none => if a = 0x208000 then let r := d.txtsPop (ifaceIdx i); (none, r.1, r.2) else (none, d.regView (ifaceIdx i) a, d)

/-- The enabled bytes of a word (R36). -/
def laneBytes (w : Word) (be : Nat) : List Byte := ((wordBytes w).zipIdx.filter fun e => be.testBit e.2).map (·.1)

/-- The answer to a transaction of interface `i` (Tables 2-6 and 2-7): SPI counts a transaction that ends with ERR = 1. -/
def Dev.respond (i : Iface) (why : Option Reason) (data : List Byte) (d : Dev) : Dev :=
  let spi := i = .spi
  let d := if spi && why.isSome then d.bump 0x2C0018 0 16 else d
  d.answer (ifaceIdx i) ⟨data, if spi then d.spiStatus why else 0, false, false⟩

/-- A register write as a command of its own. -/
def regWrite (i : Iface) (off : Nat) (v : Word) (be : Nat) (hw : Word) (d : Dev) : Dev :=
  let r := d.busWrite i off v be hw
  r.2.respond i r.1 []

/-- The earlier of two reasons. -/
def firstWhy (a b : Option Reason) : Option Reason := match a with
  | some r => some r
  | none => b

/-- A 64-bit write of PCIe: two 32-bit writes, the lower address first (R36). -/
def wideWrite (off v be : Nat) (d : Dev) : Dev :=
  let lo := d.busWrite .pcie off (word (v % 4294967296)) (be % 16) 0
  let hi := lo.2.busWrite .pcie (off + 4) (word (v / 4294967296)) (be / 16) 0
  hi.2.respond .pcie (firstWhy lo.1 hi.1) []

/-- A register read: PCIe answers a protected address with Completer Abort and no data. -/
def regRead (i : Iface) (off be : Nat) (d : Dev) : Dev :=
  let r := d.busRead i off
  if i = .pcie && r.1 = some .locked then r.2.2.answer 0 ⟨[], 0, true, false⟩ else r.2.2.respond i r.1 (laneBytes r.2.1 be)

/-- A 64-bit read of PCIe: two 32-bit reads, the lower address first (R36). -/
def wideRead (off be : Nat) (d : Dev) : Dev :=
  let lo := d.busRead .pcie off
  let hi := lo.2.2.busRead .pcie (off + 4)
  if lo.1 = some .locked || hi.1 = some .locked then hi.2.2.answer 0 ⟨[], 0, true, false⟩
  else hi.2.2.respond .pcie (firstWhy lo.1 hi.1) (laneBytes lo.2.1 (be % 16) ++ laneBytes hi.2.1 (be / 16))

/-- A BAR2 read of PCIe, the one interface that reads it (R40). -/
def bar2Read (i : Iface) (off be : Nat) (d : Dev) : Dev :=
  if i ≠ .pcie then d
  else match d.bar2Word (off / 4 * 4) with
    | some w => d.respond i none (laneBytes w be)
    | none => (d.violate i 1 off .unimpl false 0).respond i (some .unimpl) (laneBytes 0 be)

/-- A guarded write: V at A, then its complement at A + 4 (R55). -/
def guardedWrite (i : Iface) (off : Nat) (v : Word) (d : Dev) : Dev := regWrite i (off + 4) (~~~v) 15 0 (regWrite i off v 15 0 d)

/-- GUARD_WINDOW_END. -/
def guardEnd (i : Iface) (d : Dev) : Dev := d.guardBreak i

/-- RINGr_CFG with EN changed. -/
def ringSwitch (i : Iface) (r : Fin 26) (en : Nat) (d : Dev) : Dev :=
  regWrite i (ringOff r + 8) (setFld (d.rd (ringOff r + 8)) 31 1 en) 15 0 d

/-! ### QUERY_STATE (R321) -/

/-- The windows: base, size, number of objects. -/
def queryWindow (type : Nat) : Option (Nat × Nat × Nat) :=
  [(0x80000, 0x200, 64), (0x100000, 0x1000, 16), (0x140000, 0x100, 8), (0x141000, 0x40, 48), (0x181000, 0x40, 8), (0x1C0000, 0x100, 4),
   (0x200000, 0x400, 8), (0x212000, 0x100, 16), (0x211000, 0x100, 8), (0x280100, 0x80, 5)][type]?

/-- A word as QUERY_STATE copies it: unimplemented addresses copy as 0. -/
def Dev.queryWord (d : Dev) (off : Nat) : Word := if (regDesc off).isSome then d.regView 0 off else 0

/-- QUERY_STATE (0x02): one object's window to ADDR. -/
def queryBody (c : Cmd) (d : Dev) : Option CmdOut × Dev :=
  let type := pf c 0 0 4
  let idx := pf c 0 16 6
  let win := queryWindow type
  let len := pf c 3 0 32
  -- the limits of INDEX and LEN follow from TYPE, the lowest field that these rules read (R318)
  let bad := match win with
    | some w => failIf (w.2.2 ≤ idx || len < w.2.1) 0
    | none => [0]
  checked c ([(0, 0, 4), (0, 16, 6)] ++ wholes 1 3) bad (fun d =>
    match win with
    | some w =>
      let off := w.1 + w.2.1 * idx
      let bs := (List.range (w.2.1 / 4)).flatMap fun k => wordBytes (d.queryWord (off + 4 * k))
      (.ok w.2.1, d.memWrite (pf c 1 0 1 = 1) (bufAddr c 1) bs)
    | none => (.ok, d)) d

/-! ### The rows -/

/-- Bytes `a` to `a + n − 1` lie in BAR4. -/
def inBar4 (a n : Nat) : Bool := a + n ≤ 262144

/-- BAR4 is all the memory there is: an access beyond it stops. -/
def inMemory (a n : Nat) (o : Host.Outcome State Fault Refusal) : Host.Outcome State Fault Refusal :=
  if inBar4 a n then o else .fault (.noSuchMemory a)

/-- Only PCIe makes 64-bit accesses, reads BAR2, and reaches BAR4 in this way, within the 256 KiB that its BAR decodes; of another
interface, and beyond the BAR, there is no such access. -/
def execRegisterWrite (i : Iface) (off : BitVec 22) (w : BusData) (be : BitVec 8) (s : State) : Host.Outcome State Fault Refusal :=
  match w with
  | .word v hw => run (regWrite i off.toNat v (be.toNat % 16) hw) s
  | .wide v => run (onlyIf (i = .pcie) (wideWrite off.toNat v.toNat be.toNat)) s
  | .bytes bs => run (onlyIf (i = .pcie && inBar4 off.toNat bs.length) fun d => (d.bar4Write off.toNat bs).respond .pcie none []) s
def execRegisterRead (i : Iface) (r : BusSpace) (off : BitVec 22) (be : BitVec 8) (s : State) : Host.Outcome State Fault Refusal :=
  match r with
  | .word => run (regRead i off.toNat (be.toNat % 16)) s
  | .wide => run (onlyIf (i = .pcie) (wideRead off.toNat be.toNat)) s
  | .bar2 => run (bar2Read i (off.toNat % 4096) (be.toNat % 16)) s
  | .bar4 n => run (onlyIf (i = .pcie && inBar4 off.toNat n) fun d => d.respond .pcie none (d.bar4Read off.toNat n)) s
/-- An expiry in the AON_CLK cycle of the restart wins (R23). -/
def execWatchdogKick (i : Iface) (w : KickWrite) (s : State) : Host.Outcome State Fault Refusal :=
  run (regWrite i 0x300100 w.v 15 (if w.late then 1 else 0)) s
def execApRelease (i : Iface) (s : State) : Host.Outcome State Fault Refusal := run (guardedWrite i 0x300108 1) s
def execApRestart (i : Iface) (s : State) : Host.Outcome State Fault Refusal := run (guardedWrite i 0x300108 2) s
def execGuardArm (i : Iface) (off : BitVec 22) (v : Word) (s : State) : Host.Outcome State Fault Refusal :=
  run (regWrite i off.toNat v 15 0) s
def execGuardWindowEnd (i : Iface) (s : State) : Host.Outcome State Fault Refusal := run (guardEnd i) s
def execRegViolAck (i : Iface) (s : State) : Host.Outcome State Fault Refusal := run (regWrite i 0x05000C 1 15 0) s
def execTopRunWrite (i : Iface) (v : Word) (s : State) : Host.Outcome State Fault Refusal := run (regWrite i 0x000008 v 15 0) s
def execHsPush (i : Iface) (k : Fin 3) (s : State) : Host.Outcome State Fault Refusal :=
  run (regWrite i (buoyOff (61 + k.val) + 0x114) 1 15 0) s
def execForceArm (i : Iface) (ch : Fin 16) (slot : Fin 64) (s : State) : Host.Outcome State Fault Refusal :=
  run (guardedWrite i (chanOff ch + 0xC10) (word (128 + slot.val))) s
def execForceDisarm (i : Iface) (ch : Fin 16) (s : State) : Host.Outcome State Fault Refusal :=
  run (guardedWrite i (chanOff ch + 0xC10) 0) s
def execTsCaptureArm (i : Iface) (n : Fin 4) (v : Word) (s : State) : Host.Outcome State Fault Refusal :=
  run (regWrite i (tsOff n + 0x20) v 15 0) s
def execTxtsPop (i : Iface) (s : State) : Host.Outcome State Fault Refusal := run (regRead i 0x208000 15) s
def execRingEnable (i : Iface) (r : Fin 26) (s : State) : Host.Outcome State Fault Refusal := run (ringSwitch i r 1) s
def execRingDisable (i : Iface) (r : Fin 26) (s : State) : Host.Outcome State Fault Refusal := run (ringSwitch i r 0) s
def execHostifCtrlReset (i : Iface) (s : State) : Host.Outcome State Fault Refusal := run (regWrite i 0x2C0000 1 15 0) s
def execClkSrcSelWrite (i : Iface) (v : Word) (s : State) : Host.Outcome State Fault Refusal := run (guardedWrite i 0x010010 v) s
def execClkmonCfgWrite (i : Iface) (v : Word) (s : State) : Host.Outcome State Fault Refusal := run (regWrite i 0x010030 v 15 0) s
def execAnchorRelease (i : Iface) (s : State) : Host.Outcome State Fault Refusal := run (regWrite i 0x020028 1 15 0) s
def execChartRawErase (i : Iface) (v : Word) (s : State) : Host.Outcome State Fault Refusal := run (guardedWrite i 0x040030 v) s
def execSafeClear (i : Iface) (s : State) : Host.Outcome State Fault Refusal := run (guardedWrite i 0x030010 1) s
def execFaultForce (i : Iface) (v : Word) (s : State) : Host.Outcome State Fault Refusal := run (guardedWrite i 0x030018 v) s
def execFaultRaise (i : Iface) (v : Word) (s : State) : Host.Outcome State Fault Refusal := run (regWrite i 0x030020 v 15 0) s
def execKeeperCqDb (i : Iface) (v : Word) (s : State) : Host.Outcome State Fault Refusal := run (regWrite i 0x308800 v 15 0) s
def execKeeperEvqCi (i : Iface) (v : Word) (s : State) : Host.Outcome State Fault Refusal := run (regWrite i 0x308810 v 15 0) s
def execKeeperAnqCi (i : Iface) (v : Word) (s : State) : Host.Outcome State Fault Refusal := run (regWrite i 0x308814 v 15 0) s
def execKeeperFlqCi (i : Iface) (v : Word) (s : State) : Host.Outcome State Fault Refusal := run (regWrite i 0x308818 v 15 0) s
def execKeeperLogbook (i : Iface) (v : Word) (s : State) : Host.Outcome State Fault Refusal := run (regWrite i 0x30E01C v 15 0) s
def execEnroll (i : Iface) (slot : BitVec 2) (s : State) : Host.Outcome State Fault Refusal :=
  run (guardedWrite i 0x300120 (word (slot.toNat * 16 + 1))) s
def execRevoke (i : Iface) (slot : BitVec 2) (s : State) : Host.Outcome State Fault Refusal :=
  run (guardedWrite i 0x300120 (word (slot.toNat * 16 + 2))) s
def execLockUp (i : Iface) (s : State) : Host.Outcome State Fault Refusal := run (guardedWrite i 0x300120 3) s
def execQueryState (c : Cmd) (s : State) : Host.Outcome State Fault Refusal := run (command 0x02 c (queryBody c)) s

end Sys2Proof.Machine
end

