-- ==== Sys2Proof/Machine/Spi.lean ====
section
/-! DEFINITION. The SPI transactions: bursts of register accesses, BAR4, doorbells, and transactions that end early (R39, R309, R310). -/

namespace Sys2Proof.Machine

/-- `n` register reads at ascending addresses: the first reason, the bytes, the device. -/
def Dev.spiReads (addr : Nat) : Nat → Dev → Option Reason × List Byte × Dev
  | 0, d => (none, [], d)
  | n + 1, d =>
    let r := d.busRead .spi addr
    let t := Dev.spiReads (addr + 4) n r.2.2
    (firstWhy r.1 t.1, wordBytes r.2.1 ++ t.2.1, t.2.2)

/-- Register writes at ascending addresses. -/
def Dev.spiWrites (addr : Nat) : List Word → Dev → Checked
  | [], d => (none, d)
  | v :: vs, d =>
    let r := d.busWrite .spi addr v 15 0
    let t := Dev.spiWrites (addr + 4) vs r.2
    (firstWhy r.1 t.1, t.2)

/-- A doorbell word: at the doorbell of a ring, else UNIMPL, since SPI reaches no other part of BAR2 (R39). -/
def Dev.spiBell (addr : Nat) (v : Word) (d : Dev) : Checked :=
  if h : addr < 0xD0 then
    if addr % 8 = 0 then d.doorbellAt .spi ⟨addr / 8, by omega⟩ v.toNat
    else if d.host.resetCause.isSome then (some .early, d.violate .spi 1 addr .early true v)
    else (some .range, d.violate .spi 1 addr .range true v)
  else (some .unimpl, d.violate .spi 1 addr .unimpl true v)

/-- SPI_REG_READ: `count` + 1 words. -/
def spiRegRead (addr count : Nat) (d : Dev) : Dev :=
  let r := d.spiReads addr (count + 1)
  r.2.2.respond .spi r.1 r.2.1

/-- SPI_REG_WRITE. -/
def spiRegWrite (addr : Nat) (words : List Word) (d : Dev) : Dev :=
  let r := d.spiWrites addr words
  r.2.respond .spi r.1 []

/-- SPI_DOORBELL. -/
def spiDoorbell (addr : Nat) (v : Word) (d : Dev) : Dev :=
  let r := d.spiBell addr v
  r.2.respond .spi r.1 []

/-- The bytes of BAR4 that a part of a transaction moves. -/
def partSpan : SpiPart → Nat × Nat
  | .memRead a n => (a.toNat, n)
  | .memWrite a bs => (a.toNat, bs.length)
  | _ => (0, 0)

/-- What was received or sent in full takes effect: the bytes read, and the device (R310). -/
def Dev.spiPart (p : SpiPart) (d : Dev) : List Byte × Dev :=
  match p with
  | .regRead a n => let r := d.spiReads a.toNat n; (r.2.1, r.2.2)
  | .regWrite a ws => ([], (d.spiWrites a.toNat ws).2)
  | .memRead a n => (d.bar4Read a.toNat n, d)
  | .memWrite a bs => ([], d.bar4Write a.toNat bs)
  | .doorbell a (some v) => ([], (d.spiBell a.toNat v).2)
  | .doorbell _ none => ([], d)
  | .nothing => ([], d)

/-- A transaction that ends without its status byte: counted in SPI_TIMEOUTS and in the host-interface timeout source (R310). -/
def spiEnd (p : SpiPart) (d : Dev) : Dev :=
  let r := d.spiPart p
  ((r.2.bump 0x2C0018 16 16).occur 26 0).answer 1 ⟨r.1, 0, false, false⟩

/-- An unknown opcode has ERR = 1, reason UNIMPL and no data (R309). -/
def execSpiRegRead (r : SpiRead) (count : BitVec 8) (s : State) : Host.Outcome State Fault Refusal :=
  match r with
  | .regs addr => run (spiRegRead addr.toNat count.toNat) s
  | .unknown _ => run (Dev.respond .spi (some .unimpl) []) s
def execSpiRegWrite (addr : BitVec 24) (words : List Word) (s : State) : Host.Outcome State Fault Refusal :=
  run (spiRegWrite addr.toNat words) s
def execSpiMemRead (addr : BitVec 24) (count : BitVec 8) (s : State) : Host.Outcome State Fault Refusal :=
  inMemory addr.toNat (count.toNat + 1)
    (run (fun d => d.respond .spi none (d.bar4Read addr.toNat (count.toNat + 1))) s)
def execSpiMemWrite (addr : BitVec 24) (bytes : List Byte) (s : State) : Host.Outcome State Fault Refusal :=
  inMemory addr.toNat bytes.length (run (fun d => (d.bar4Write addr.toNat bytes).respond .spi none []) s)
def execSpiDoorbell (addr : BitVec 24) (v : Word) (s : State) : Host.Outcome State Fault Refusal :=
  run (spiDoorbell addr.toNat v) s
def execSpiTimeout (part : SpiPart) (s : State) : Host.Outcome State Fault Refusal :=
  inMemory (partSpan part).1 (partSpan part).2 (run (spiEnd part) s)
def execSpiCsRelease (part : SpiPart) (s : State) : Host.Outcome State Fault Refusal :=
  inMemory (partSpan part).1 (partSpan part).2 (run (spiEnd part) s)

end Sys2Proof.Machine
end

