-- ==== Sys2Proof/Machine/Dispatch.lean ====
section
/-! DEFINITION. The meaning of every command: one arm each. -/

namespace Sys2Proof.Machine

def exec (i : Instr) (s : State) : Host.Outcome State Fault Refusal :=
  match i with
  | .watchdogKick iface w => Sys2Proof.Machine.execWatchdogKick iface w s
  | .watchdogExpiry => Sys2Proof.Machine.execWatchdogExpiry s
  | .apRelease iface => Sys2Proof.Machine.execApRelease iface s
  | .apRestart iface => Sys2Proof.Machine.execApRestart iface s
  | .guardArm iface off v => Sys2Proof.Machine.execGuardArm iface off v s
  | .guardWindowEnd iface => Sys2Proof.Machine.execGuardWindowEnd iface s
  | .registerWrite iface off w be => Sys2Proof.Machine.execRegisterWrite iface off w be s
  | .regViolAck iface => Sys2Proof.Machine.execRegViolAck iface s
  | .topRunWrite iface v => Sys2Proof.Machine.execTopRunWrite iface v s
  | .doorbellWrite off wide v => Sys2Proof.Machine.execDoorbellWrite off wide v s
  | .glitchFiltered slot => Sys2Proof.Machine.execGlitchFiltered slot s
  | .timingEvent slot ev => Sys2Proof.Machine.execTimingEvent slot ev s
  | .todMessage slot m => Sys2Proof.Machine.execTodMessage slot m s
  | .ltcFrame slot f => Sys2Proof.Machine.execLtcFrame slot f s
  | .aesBlock slot b => Sys2Proof.Machine.execAesBlock slot b s
  | .videoFormatChange vin fmt => Sys2Proof.Machine.execVideoFormatChange vin fmt s
  | .hsPush iface k => Sys2Proof.Machine.execHsPush iface k s
  | .buoyLoss slot => Sys2Proof.Machine.execBuoyLoss slot s
  | .freqGateEnd slot => Sys2Proof.Machine.execFreqGateEnd slot s
  | .tieSample slot => Sys2Proof.Machine.execTieSample slot s
  | .mtiePeriodEnd slot => Sys2Proof.Machine.execMtiePeriodEnd slot s
  | .matrixCycleEnd => Sys2Proof.Machine.execMatrixCycleEnd s
  | .qualTimerExpiry slot => Sys2Proof.Machine.execQualTimerExpiry slot s
  | .forceArm iface ch slot => Sys2Proof.Machine.execForceArm iface ch slot s
  | .forceDisarm iface ch => Sys2Proof.Machine.execForceDisarm iface ch s
  | .forceArmExpiry ch => Sys2Proof.Machine.execForceArmExpiry ch s
  | .chanUpdate ch => Sys2Proof.Machine.execChanUpdate ch s
  | .pullinWindowEnd ch => Sys2Proof.Machine.execPullinWindowEnd ch s
  | .lockTimeExpiry ch => Sys2Proof.Machine.execLockTimeExpiry ch s
  | .historySnapshot => Sys2Proof.Machine.execHistorySnapshot s
  | .historySample ch => Sys2Proof.Machine.execHistorySample ch s
  | .holdoverSecond ch => Sys2Proof.Machine.execHoldoverSecond ch s
  | .hoPredictionSecond ch => Sys2Proof.Machine.execHoPredictionSecond ch s
  | .tempSample ch => Sys2Proof.Machine.execTempSample ch s
  | .lanternBandFound l band => Sys2Proof.Machine.execLanternBandFound l band s
  | .lanternCalTimeout l => Sys2Proof.Machine.execLanternCalTimeout l s
  | .lanternLock l skewPs => Sys2Proof.Machine.execLanternLock l skewPs s
  | .lanternAcqTimeout l => Sys2Proof.Machine.execLanternAcqTimeout l s
  | .lanternUnlock l ampLow => Sys2Proof.Machine.execLanternUnlock l ampLow s
  | .lanternRecal l => Sys2Proof.Machine.execLanternRecal l s
  | .outputStart m => Sys2Proof.Machine.execOutputStart m s
  | .outputStop m => Sys2Proof.Machine.execOutputStop m s
  | .outputForcedStop m => Sys2Proof.Machine.execOutputForcedStop m s
  | .phaseAdjustStep m => Sys2Proof.Machine.execPhaseAdjustStep m s
  | .ppsEdge n => Sys2Proof.Machine.execPpsEdge n s
  | .tsCaptureArm iface n v => Sys2Proof.Machine.execTsCaptureArm iface n v s
  | .leapNoticeStart n => Sys2Proof.Machine.execLeapNoticeStart n s
  | .voutStart k => Sys2Proof.Machine.execVoutStart k s
  | .voutStop k => Sys2Proof.Machine.execVoutStop k s
  | .voutClockLoss k => Sys2Proof.Machine.execVoutClockLoss k s
  | .voutRealign k => Sys2Proof.Machine.execVoutRealign k s
  | .portLinkUp p => Sys2Proof.Machine.execPortLinkUp p s
  | .portCalDone p tx rx => Sys2Proof.Machine.execPortCalDone p tx rx s
  | .portCalTimeout p => Sys2Proof.Machine.execPortCalTimeout p s
  | .portLinkLoss p cdr pcs fec hiBer => Sys2Proof.Machine.execPortLinkLoss p cdr pcs fec hiBer s
  | .portRecalibrate p tx rx => Sys2Proof.Machine.execPortRecalibrate p tx rx s
  | .frameReceived p f => Sys2Proof.Machine.execFrameReceived p f s
  | .esmcTimeout p => Sys2Proof.Machine.execEsmcTimeout p s
  | .esmcInfoTx p => Sys2Proof.Machine.execEsmcInfoTx p s
  | .esmcEventTx p => Sys2Proof.Machine.execEsmcEventTx p s
  | .packetTxDone p e => Sys2Proof.Machine.execPacketTxDone p e s
  | .txtsPop iface => Sys2Proof.Machine.execTxtsPop iface s
  | .announceTimeout k => Sys2Proof.Machine.execAnnounceTimeout k s
  | .announcePost k => Sys2Proof.Machine.execAnnouncePost k s
  | .clientGrantRenew k g => Sys2Proof.Machine.execClientGrantRenew k g s
  | .clientGrantRetry k g => Sys2Proof.Machine.execClientGrantRetry k g s
  | .grantExpiry index kind => Sys2Proof.Machine.execGrantExpiry index kind s
  | .delayReqTx k tPcs pos => Sys2Proof.Machine.execDelayReqTx k tPcs pos s
  | .subintervalEnd k => Sys2Proof.Machine.execSubintervalEnd k s
  | .rerouteHoldExpiry k => Sys2Proof.Machine.execRerouteHoldExpiry k s
  | .multicastSyncTx t => Sys2Proof.Machine.execMulticastSyncTx t s
  | .multicastAnnounceTx p => Sys2Proof.Machine.execMulticastAnnounceTx p s
  | .calendarSlot => Sys2Proof.Machine.execCalendarSlot s
  | .clientTableDma write index ok => Sys2Proof.Machine.execClientTableDma write index ok s
  | .settleEnd p => Sys2Proof.Machine.execSettleEnd p s
  | .tideFrameTx => Sys2Proof.Machine.execTideFrameTx s
  | .tideFrameRx l f => Sys2Proof.Machine.execTideFrameRx l f s
  | .frameMissing l c => Sys2Proof.Machine.execFrameMissing l c s
  | .cascadeEventDelivery => Sys2Proof.Machine.execCascadeEventDelivery s
  | .tlCalDone l => Sys2Proof.Machine.execTlCalDone l s
  | .rangingExchange l num => Sys2Proof.Machine.execRangingExchange l num s
  | .tlTrainTimeout l => Sys2Proof.Machine.execTlTrainTimeout l s
  | .masterClaim => Sys2Proof.Machine.execMasterClaim s
  | .takeoverExpiry => Sys2Proof.Machine.execTakeoverExpiry s
  | .masterYield => Sys2Proof.Machine.execMasterYield s
  | .labelErrTimeout => Sys2Proof.Machine.execLabelErrTimeout s
  | .spiRegRead r count => Sys2Proof.Machine.execSpiRegRead r count s
  | .spiRegWrite addr words => Sys2Proof.Machine.execSpiRegWrite addr words s
  | .spiMemRead addr count => Sys2Proof.Machine.execSpiMemRead addr count s
  | .spiMemWrite addr bytes => Sys2Proof.Machine.execSpiMemWrite addr bytes s
  | .spiDoorbell addr v => Sys2Proof.Machine.execSpiDoorbell addr v s
  | .spiTimeout part => Sys2Proof.Machine.execSpiTimeout part s
  | .spiCsRelease part => Sys2Proof.Machine.execSpiCsRelease part s
  | .descriptorFetch r res => Sys2Proof.Machine.execDescriptorFetch r res s
  | .extBlockFetch src res => Sys2Proof.Machine.execExtBlockFetch src res s
  | .extBlockTimeout src => Sys2Proof.Machine.execExtBlockTimeout src s
  | .commandTimeout src => Sys2Proof.Machine.execCommandTimeout src s
  | .ringEnable iface r => Sys2Proof.Machine.execRingEnable iface r s
  | .ringDisable iface r => Sys2Proof.Machine.execRingDisable iface r s
  | .itrExpiry r => Sys2Proof.Machine.execItrExpiry r s
  | .hostifCtrlReset iface => Sys2Proof.Machine.execHostifCtrlReset iface s
  | .pcieReset flr => Sys2Proof.Machine.execPcieReset flr s
  | .recoveryRecord => Sys2Proof.Machine.execRecoveryRecord s
  | .pcieConfigRequest write r => Sys2Proof.Machine.execPcieConfigRequest write r s
  | .nop c => Sys2Proof.Machine.execNop c s
  | .queryState c => Sys2Proof.Machine.execQueryState c s
  | .refConfig c => Sys2Proof.Machine.execRefConfig c s
  | .refQualParams c => Sys2Proof.Machine.execRefQualParams c s
  | .refForceState c => Sys2Proof.Machine.execRefForceState c s
  | .chanConfig c => Sys2Proof.Machine.execChanConfig c s
  | .chanSelect c => Sys2Proof.Machine.execChanSelect c s
  | .chanMode c => Sys2Proof.Machine.execChanMode c s
  | .chanHoldoverModel c => Sys2Proof.Machine.execChanHoldoverModel c s
  | .outConfig c => Sys2Proof.Machine.execOutConfig c s
  | .outEnable c => Sys2Proof.Machine.execOutEnable c s
  | .lanternConfig c => Sys2Proof.Machine.execLanternConfig c s
  | .voutConfig c => Sys2Proof.Machine.execVoutConfig c s
  | .tsSet c => Sys2Proof.Machine.execTsSet c s
  | .tsStepSchedule c => Sys2Proof.Machine.execTsStepSchedule c s
  | .tsLeapSchedule c => Sys2Proof.Machine.execTsLeapSchedule c s
  | .portConfig c => Sys2Proof.Machine.execPortConfig c s
  | .ptpInstanceConfig c => Sys2Proof.Machine.execPtpInstanceConfig c s
  | .clientTableAttach c => Sys2Proof.Machine.execClientTableAttach c s
  | .clientUpdate c => Sys2Proof.Machine.execClientUpdate c s
  | .packetSend c => Sys2Proof.Machine.execPacketSend c s
  | .tlConfig c => Sys2Proof.Machine.execTlConfig c s
  | .tlElect c => Sys2Proof.Machine.execTlElect c s
  | .nvWrite c => Sys2Proof.Machine.execNvWrite c s
  | .nvRead c => Sys2Proof.Machine.execNvRead c s
  | .nvCommit c => Sys2Proof.Machine.execNvCommit c s
  | .nvRawPage c data => Sys2Proof.Machine.execNvRawPage c data s
  | .nvTallyAdd c => Sys2Proof.Machine.execNvTallyAdd c s
  | .fwChunk c data => Sys2Proof.Machine.execFwChunk c data s
  | .fwActivate c => Sys2Proof.Machine.execFwActivate c s
  | .pwrOpp c => Sys2Proof.Machine.execPwrOpp c s
  | .anchorEnter c => Sys2Proof.Machine.execAnchorEnter c s
  | .faultConfig c => Sys2Proof.Machine.execFaultConfig c s
  | .supplyFail all => Sys2Proof.Machine.execSupplyFail all s
  | .resetNAssert => Sys2Proof.Machine.execResetNAssert s
  | .beaconLoss => Sys2Proof.Machine.execBeaconLoss s
  | .holdRelease master id vbakOk => Sys2Proof.Machine.execHoldRelease master id vbakOk s
  | .otpReadDone ok => Sys2Proof.Machine.execOtpReadDone ok s
  | .chartScanDone ok => Sys2Proof.Machine.execChartScanDone ok s
  | .imageCheckDone slotB => Sys2Proof.Machine.execImageCheckDone slotB s
  | .xoWindowEnd w => Sys2Proof.Machine.execXoWindowEnd w s
  | .xoAbsentTimeout => Sys2Proof.Machine.execXoAbsentTimeout s
  | .xoFail cause => Sys2Proof.Machine.execXoFail cause s
  | .cpllLock => Sys2Proof.Machine.execCpllLock s
  | .clkSrcSelWrite iface v => Sys2Proof.Machine.execClkSrcSelWrite iface v s
  | .clockSwitchDone d => Sys2Proof.Machine.execClockSwitchDone d s
  | .forcedSwitch d => Sys2Proof.Machine.execForcedSwitch d s
  | .clkmonCfgWrite iface v => Sys2Proof.Machine.execClkmonCfgWrite iface v s
  | .avsAck => Sys2Proof.Machine.execAvsAck s
  | .avsSettleExpiry => Sys2Proof.Machine.execAvsSettleExpiry s
  | .avsTimeout => Sys2Proof.Machine.execAvsTimeout s
  | .thermalSample => Sys2Proof.Machine.execThermalSample s
  | .throttleDrop => Sys2Proof.Machine.execThrottleDrop s
  | .throttleRise => Sys2Proof.Machine.execThrottleRise s
  | .sensorSample r => Sys2Proof.Machine.execSensorSample r s
  | .pwrfailTrigger monitor => Sys2Proof.Machine.execPwrfailTrigger monitor s
  | .commitDone => Sys2Proof.Machine.execCommitDone s
  | .pfResumeExpiry => Sys2Proof.Machine.execPfResumeExpiry s
  | .pfResumed => Sys2Proof.Machine.execPfResumed s
  | .anchorSnapshot beaconPeriodPs => Sys2Proof.Machine.execAnchorSnapshot beaconPeriodPs s
  | .anchorAutoEntry => Sys2Proof.Machine.execAnchorAutoEntry s
  | .anchorTempLog tj => Sys2Proof.Machine.execAnchorTempLog tj s
  | .anchorXoStop => Sys2Proof.Machine.execAnchorXoStop s
  | .anchorWake crcOk => Sys2Proof.Machine.execAnchorWake crcOk s
  | .timeRestore ch xoCycles bcnTicks => Sys2Proof.Machine.execTimeRestore ch xoCycles bcnTicks s
  | .anchorRelease iface => Sys2Proof.Machine.execAnchorRelease iface s
  | .commitTimerExpiry => Sys2Proof.Machine.execCommitTimerExpiry s
  | .nvWaitTimeout => Sys2Proof.Machine.execNvWaitTimeout s
  | .reclaimStart => Sys2Proof.Machine.execReclaimStart s
  | .eraseDone ok => Sys2Proof.Machine.execEraseDone ok s
  | .eraseTokenGain => Sys2Proof.Machine.execEraseTokenGain s
  | .scrub line corrected margin => Sys2Proof.Machine.execScrub line corrected margin s
  | .chartRawErase iface v => Sys2Proof.Machine.execChartRawErase iface v s
  | .faultOccurrence extra => Sys2Proof.Machine.execFaultOccurrence extra s
  | .deviceReset => Sys2Proof.Machine.execDeviceReset s
  | .blockReadyReturn block => Sys2Proof.Machine.execBlockReadyReturn block s
  | .leakExpiry src => Sys2Proof.Machine.execLeakExpiry src s
  | .alarmPulseEnd => Sys2Proof.Machine.execAlarmPulseEnd s
  | .blankingEnd src => Sys2Proof.Machine.execBlankingEnd src s
  | .safeClear iface => Sys2Proof.Machine.execSafeClear iface s
  | .faultForce iface v => Sys2Proof.Machine.execFaultForce iface v s
  | .faultRaise iface v => Sys2Proof.Machine.execFaultRaise iface v s
  | .keeperCqDb iface v => Sys2Proof.Machine.execKeeperCqDb iface v s
  | .keeperEvqCi iface v => Sys2Proof.Machine.execKeeperEvqCi iface v s
  | .keeperAnqCi iface v => Sys2Proof.Machine.execKeeperAnqCi iface v s
  | .keeperFlqCi iface v => Sys2Proof.Machine.execKeeperFlqCi iface v s
  | .keeperLogbook iface v => Sys2Proof.Machine.execKeeperLogbook iface v s
  | .enroll iface slot => Sys2Proof.Machine.execEnroll iface slot s
  | .revoke iface slot => Sys2Proof.Machine.execRevoke iface slot s
  | .lockUp iface => Sys2Proof.Machine.execLockUp iface s
  | .otpProgramDone => Sys2Proof.Machine.execOtpProgramDone s
  | .debugChallengeRead => Sys2Proof.Machine.execDebugChallengeRead s
  | .debugUnlock key sig => Sys2Proof.Machine.execDebugUnlock key sig s
  | .trialTimeout => Sys2Proof.Machine.execTrialTimeout s
  | .registerRead iface r off be => Sys2Proof.Machine.execRegisterRead iface r off be s
  | .bpllLock => Sys2Proof.Machine.execBpllLock s
  | .cpllUnlock => Sys2Proof.Machine.execCpllUnlock s
  | .pcieLinkUp => Sys2Proof.Machine.execPcieLinkUp s
  | .codeGroupSyncLoss l => Sys2Proof.Machine.execCodeGroupSyncLoss l s
  | .clientGrantExpiry k g => Sys2Proof.Machine.execClientGrantExpiry k g s
  | .vbakLoss => Sys2Proof.Machine.execVbakLoss s

end Sys2Proof.Machine
end

