-- ==== Sys2Proof/Machine/Idle.lean ====
section
/-! DEFINITION. What the block does while no command waits: the Watch takes what has reached it, and time runs (log entry 1). -/

namespace Sys2Proof.Machine

/-- One microsecond: AON time always, the measurement timebase while XO is qualified (R322); a sixteenth of an hour of running
is counted for the erase allowance each 225 s (R378). -/
def tick (d : Dev) : Dev :=
  let d := d.modClk fun c => { c with aonUs := c.aonUs + 1, tbUs := if c.xo then c.tbUs + 1 else c.tbUs }
  if d.clk.sup ≠ .hold && d.clk.aonUs % 225000000 = 0 then d.modChart fun c => { c with runHours16 := c.runHours16 + 1 } else d

/-- The occurrences that wait for the Watch are one cycle of it (R405); else time runs. -/
def idleDev (d : Dev) : Dev := if d.watch.reached.isEmpty then tick d else faultOccurrence [] d

/-- The block's own step on an empty queue. -/
def idle (s : State) : Host.Outcome State Fault Refusal := run idleDev s

end Sys2Proof.Machine
end

