-- ==== Sys2Proof/WellFormed.lean ====
section
/-! DEFINITION. What a sender can send: the sizes and ranges that the interfaces, frames and tables of the spec fix for the
operands of a command. `exec` is total and does not rest on these checks. -/

namespace Sys2Proof

/-- Seconds of 48 bits, nanoseconds below 10^9, grains below 65,536 (Table 1-6, R29). -/
def Triple.wf (t : Triple) : Bool := t.sec < 2 ^ 48 && t.ns < 1000000000 && t.gr < 65536

/-- The parameter block: descriptor bytes 16–63 without EXT, 4 to 4,096 bytes with it (R317, Table 12-5). -/
def Cmd.wf (c : Cmd) : Bool := if c.ext then 1 ≤ c.words.length && c.words.length ≤ 1024 else c.words.length = 12

/-- A command of a host ring: FW_CHUNK has no Keeper form (Table 16-9). -/
def Cmd.fromHost (c : Cmd) : Bool := match c.src with
  | .cq _ => true
  | .keeper => false

/-- A burst of an SPI transaction: 1 to 256 (R309). -/
def burst (n : Nat) : Bool := 1 ≤ n && n ≤ 256

/-- Video comes from the VIN slots 32–35 only (Table 3-1). -/
def TimingEv.wf (slot : Nat) (e : TimingEv) : Bool := e.video.isNone || (32 ≤ slot && slot < 36)

/-- 24 bytes of channel status (AES3). -/
def AesBlock.wf (b : AesBlock) : Bool := b.status.length = 24

/-- Eight temperatures and twelve rails (R413). -/
def SensorReadings.wf (r : SensorReadings) : Bool := r.temps.length = 8 && r.rails.length = 12

/-- PATH of at most eight entries, 16 channel states, a message of at most 64 bytes, a whole-microsecond LABEL triple
(Table 11-2). -/
def TideFrame.wf (f : TideFrame) : Bool :=
  f.path.length ≤ 8 && f.chStates.length = 16 && f.msg.length ≤ 64 && f.label.wf

/-- What was sent in full of a burst (R310). -/
def SpiPart.wf : SpiPart → Bool
  | .regRead _ n => n ≤ 256
  | .regWrite _ ws => ws.length ≤ 256
  | .memRead _ n => n ≤ 256
  | .memWrite _ bs => bs.length ≤ 256
  | .doorbell _ _ => true
  | .nothing => true

/-- Any 1 to 64 bytes of BAR4 (R38); 64-bit accesses and BAR4 over PCIe only. -/
def BusData.wf (i : Iface) (off : Nat) : BusData → Bool
  | .word .. => true
  | .wide .. => i = .pcie
  | .bytes bs => i = .pcie && 1 ≤ bs.length && bs.length ≤ 64 && off + bs.length ≤ 262144
def BusSpace.wf (i : Iface) (off : Nat) : BusSpace → Bool
  | .word => true
  | .wide => i = .pcie
  | .bar2 => i = .pcie && off < 4096
  | .bar4 n => i = .pcie && 1 ≤ n && n ≤ 64 && off + n ≤ 262144

/-- An opcode that Table 12-2 does not list. -/
def SpiRead.wf : SpiRead → Bool
  | .regs .. => true
  | .unknown op => !([0x0B, 0x02, 0x0D, 0x05, 0x21].contains op.toNat)

/-- The parameter block as DMA brings it. -/
def extWf : Fetch (List Word) → Bool
  | .data ws => 1 ≤ ws.length && ws.length ≤ 1024
  | .error => true

/-- Descriptors of 64 bytes (Table 12-5). -/
def descsWf : Fetch (List (List Word)) → Bool
  | .data ds => ds.all fun d => d.length = 16
  | .error => true

/-- A well-formed command. -/
def Instr.wf : Instr → Bool
  | .timingEvent slot ev => ev.wf slot
  | .aesBlock _ b => b.wf
  | .sensorSample r => r.wf
  | .tideFrameRx _ f => f.wf
  | .registerWrite i off w _ => w.wf i off.toNat
  | .registerRead i r off _ => r.wf i off.toNat
  | .spiRegRead r _ => r.wf
  | .spiRegWrite _ ws => burst ws.length
  | .spiMemWrite _ bs => burst bs.length
  | .spiTimeout p | .spiCsRelease p => p.wf
  | .descriptorFetch _ r => descsWf r
  | .extBlockFetch _ r => extWf r
  | .debugUnlock key sig => key.length = 96 && sig.length = 96
  | .nvRawPage c p => c.wf && p.data.length ≤ 256
  | .clientUpdate c => c.cmd.wf
  | .fwChunk c p => c.wf && c.fromHost && p.data.length ≤ 4096
  | .nop c | .queryState c | .refConfig c | .refQualParams c | .refForceState c | .chanConfig c | .chanSelect c | .chanMode c
  | .chanHoldoverModel c | .outConfig c | .outEnable c | .lanternConfig c | .voutConfig c | .tsSet c | .tsStepSchedule c
  | .tsLeapSchedule c | .portConfig c | .ptpInstanceConfig c | .clientTableAttach c | .packetSend c
  | .tlConfig c | .tlElect c | .nvWrite c | .nvRead c | .nvCommit c | .nvTallyAdd c | .fwActivate c | .pwrOpp c
  | .anchorEnter c | .faultConfig c => c.wf
  | .watchdogKick .. | .watchdogExpiry | .apRelease .. | .apRestart .. | .guardArm .. | .guardWindowEnd .. | .regViolAck .. | .topRunWrite ..
  | .doorbellWrite ..
  | .glitchFiltered .. | .todMessage .. | .ltcFrame .. | .videoFormatChange .. | .hsPush .. | .buoyLoss .. | .freqGateEnd ..
  | .tieSample .. | .mtiePeriodEnd .. | .matrixCycleEnd | .qualTimerExpiry .. | .forceArm .. | .forceDisarm ..
  | .forceArmExpiry .. | .chanUpdate .. | .pullinWindowEnd .. | .lockTimeExpiry .. | .historySnapshot | .historySample ..
  | .holdoverSecond .. | .hoPredictionSecond .. | .tempSample .. | .lanternBandFound .. | .lanternCalTimeout .. | .lanternLock ..
  | .lanternAcqTimeout .. | .lanternUnlock .. | .lanternRecal .. | .outputStart .. | .outputStop .. | .outputForcedStop ..
  | .phaseAdjustStep .. | .ppsEdge .. | .tsCaptureArm .. | .leapNoticeStart .. | .voutStart .. | .voutStop .. | .voutClockLoss ..
  | .voutRealign .. | .portLinkUp .. | .portCalDone .. | .portCalTimeout .. | .portLinkLoss .. | .portRecalibrate ..
  | .frameReceived .. | .esmcTimeout .. | .esmcInfoTx .. | .esmcEventTx .. | .packetTxDone .. | .txtsPop .. | .announceTimeout ..
  | .announcePost .. | .clientGrantRenew .. | .clientGrantRetry .. | .grantExpiry .. | .delayReqTx .. | .subintervalEnd ..
  | .rerouteHoldExpiry .. | .multicastSyncTx .. | .multicastAnnounceTx .. | .calendarSlot .. | .clientTableDma .. | .settleEnd ..
  | .tideFrameTx | .frameMissing .. | .cascadeEventDelivery | .tlCalDone .. | .rangingExchange .. | .tlTrainTimeout ..
  | .masterClaim | .takeoverExpiry | .masterYield | .labelErrTimeout | .spiMemRead .. | .spiDoorbell ..
  | .extBlockTimeout .. | .commandTimeout .. | .ringEnable .. | .ringDisable .. | .itrExpiry .. | .hostifCtrlReset ..
  | .pcieReset .. | .recoveryRecord | .pcieConfigRequest .. | .supplyFail .. | .resetNAssert | .beaconLoss | .holdRelease ..
  | .otpReadDone .. | .chartScanDone .. | .imageCheckDone .. | .xoWindowEnd .. | .xoAbsentTimeout | .xoFail .. | .cpllLock
  | .clkSrcSelWrite .. | .clockSwitchDone .. | .forcedSwitch .. | .clkmonCfgWrite .. | .avsAck | .avsSettleExpiry | .avsTimeout
  | .thermalSample | .throttleDrop | .throttleRise | .pwrfailTrigger .. | .commitDone | .pfResumeExpiry | .pfResumed
  | .anchorSnapshot .. | .anchorAutoEntry | .anchorTempLog .. | .anchorXoStop | .anchorWake .. | .timeRestore ..
  | .anchorRelease .. | .commitTimerExpiry | .nvWaitTimeout | .reclaimStart | .eraseDone .. | .eraseTokenGain | .scrub ..
  | .chartRawErase .. | .faultOccurrence .. | .deviceReset | .blockReadyReturn .. | .leakExpiry .. | .alarmPulseEnd
  | .blankingEnd .. | .safeClear .. | .faultForce .. | .faultRaise .. | .keeperCqDb .. | .keeperEvqCi .. | .keeperAnqCi ..
  | .keeperFlqCi .. | .keeperLogbook .. | .enroll .. | .revoke .. | .lockUp .. | .otpProgramDone | .debugChallengeRead
  | .trialTimeout | .bpllLock | .cpllUnlock | .pcieLinkUp | .codeGroupSyncLoss .. | .clientGrantExpiry .. | .vbakLoss => true

end Sys2Proof
end

