-- ==== Sys2Proof/Safety.lean ====
section
/-! DEFINITION. What counts as a safe run, the invariant of the memories, and the words in which statements say what a command
leaves alone. -/

namespace Sys2Proof.Machine

/-- A step ends in a next state: no fault and no refusal. -/
def Proceeds (o : Host.Outcome State Fault Refusal) : Prop := ∃ t, o = .next t

/-- The state with another device and the same waiting commands. -/
def State.withDev (s : State) (d : Dev) : State := { s with dev := d }

/-- The memories are in their canonical form: registers and the two flashes by rising address with no entry equal to what an
unlisted address reads as; BAR4 by rising address within its 256 KiB. -/
def Dev.memoryWf (d : Dev) : Bool :=
  Tab.wf resetWord d.regs && Tab.rising none d.bar4 && d.bar4.all (fun e => e.1 < 262144) &&
    Tab.wf (fun _ => 0xFF#8) d.chart.flash && Tab.wf (fun _ => 0xFF#8) d.fw.flash

/-- A state whose memories are canonical and whose waiting commands are well formed. -/
def State.wf (s : State) : Bool := s.dev.memoryWf && s.pending.all Instr.wf

/-! ### What a command leaves alone -/

/-- A word that an event, a log entry or an entry of a Keeper queue may write: the drop counters of the event and log rings,
KEEPER_QDROP, and the queues of the Keeper-private range. -/
def EventWord (a : Nat) : Prop := a = ringOff 8 + 0x10 ∨ a = ringOff 9 + 0x10 ∨ a = 0x30011C ∨ 0x308400 ≤ a

/-- Every stored register reads as before but those of `offs` and what events write. -/
def KeepsRegs (offs : List Nat) (d d' : Dev) : Prop := ∀ a, a ∉ offs → ¬ EventWord a → d'.rd a = d.rd a

/-- Byte `a` of BAR4 belongs to an entry of ring `r`. -/
def Dev.inRing (d : Dev) (r : Fin 26) (a : Nat) : Prop :=
  d.ringBar4 r = true ∧ ∃ i, (i = (d.ring r).devIdx ∨ i < d.ringSize r) ∧ d.entryAddr r i ≤ a ∧ a < d.entryAddr r i + entrySize r

/-- Every byte of BAR4 outside the entries of the rings `rs` reads as before. -/
def KeepsBar4 (rs : List (Fin 26)) (d d' : Dev) : Prop := ∀ a, (∀ r ∈ rs, ¬ d.inRing r a) → d'.bar4Get a = d.bar4Get a

/-- Of the rings, the host interface and the Keeper, only what entries of the event ring and the log ring change. -/
def EventFrame (offs : List Nat) (d d' : Dev) : Prop :=
  KeepsRegs offs d d' ∧ KeepsBar4 [8, 9] d d' ∧ (∀ r : Fin 26, r ≠ 8 → r ≠ 9 → d'.ring r = d.ring r) ∧
    d'.host = { d.host with rings := d'.host.rings, pending := d'.host.pending, signals := d'.host.signals, posted := d'.host.posted, stalled := d'.host.stalled } ∧
    d'.keeper = { d.keeper with evq := d'.keeper.evq }

/-- A counter field has gone up by 1, saturating (Table 2-4, CT). -/
def Counts (off lo width : Nat) (d d' : Dev) : Prop := d'.rdF off lo width = satN width (d.rdF off lo width + 1)

/-- Exactly one occurrence of `src` has reached the Watch. -/
def Reports (src : Fin 192) (obj : Nat) (d d' : Dev) : Prop :=
  ∃ r, d'.watch = { d.watch with reached := d.watch.reached ++ [r] } ∧ r.occ = ⟨src, BitVec.ofNat 8 obj, false, false⟩

/-- The command of `c` has ended with outcome `o` on the device `d`. -/
def Ends (c : Cmd) (op : Nat) (o : CmdOut) (d : Dev) (s t : State) : Prop :=
  t = { s with dev := d.complete c.src (inProg c op) o }

/-- A full write of `v` to the plain register at `a` passes every check of Table 2-3, and the interface has no guard armed. -/
def Dev.admits (d : Dev) (i : Iface) (a : Nat) (v : Word) : Prop :=
  a % 4 = 0 ∧ d.guardOf i = none ∧ d.steps123 i a true = none ∧ privKind a = none ∧
    ∃ r, regDesc a = some r ∧ r.kind = .plain ∧ d.steps45 i a r v = none ∧ d.ignores a = false ∧ d.step7 a r v = false

/-- A guarded write of `v` to the GD register at `a` passes every check of Table 2-3, and the interface has no guard armed. -/
def Dev.admitsGuarded (d : Dev) (i : Iface) (a : Nat) (v : Word) : Prop :=
  a % 4 = 0 ∧ d.guardOf i = none ∧ d.steps123 i a true = none ∧ d.steps123 i (a + 4) true = none ∧ privKind a = none ∧
    privKind (a + 4) = none ∧ (∃ c, regDesc (a + 4) = some c ∧ c.kind = .complement) ∧
    ∃ r, regDesc a = some r ∧ r.kind = .guard ∧ d.steps45 i a r v = none ∧ d.step6 a v = true ∧ d.step7 a r v = false

/-- A word of the Keeper-private range at `a` takes a full write of the Keeper. -/
def Dev.admitsKeeper (d : Dev) (a : Nat) : Prop :=
  d.guardOf .keeper = none ∧ d.steps123 .keeper a true = none

/-- What a register access leaves alone where it changes only the words of `offs` and the interface's access port. -/
def PortFrame (offs : List Nat) (s t : State) : Prop :=
  t.pending = s.pending ∧ t.dev = { s.dev with regs := t.dev.regs, chk := t.dev.chk } ∧ KeepsRegs offs s.dev t.dev

/-- The words of `l` stand at their addresses, and every other register reads as before. -/
def Stored (l : List (Nat × Word)) (d d' : Dev) : Prop :=
  (∀ e ∈ l, d'.rd e.1 = e.2) ∧ ∀ a, (∀ e ∈ l, a ≠ e.1) → d'.rd a = d.rd a

/-- The words of `l` stand at their addresses. -/
def Stands (l : List (Nat × Word)) (d : Dev) : Prop := ∀ e ∈ l, d.rd e.1 = e.2

/-- `n` parameter words from `i`, each with its address from `off` on. -/
def wordsAt (c : Cmd) (i off n : Nat) : List (Nat × Word) := (List.range n).map fun k => (off + 4 * k, wordAt c.words (i + k))

/-- A ring command that the arbiter takes (R319, R320) and that checks its parameters, `used` the fields it uses and `bad` those out of range (R317, R318): a failing field
ends it INVALID with the lowest index and no other effect; otherwise it ends with an outcome and a device that `Q` describes. -/
def Serves (x : Instr) (c : Cmd) (op : Nat) (used : List Param) (bad : List Nat) (s : State) (Q : CmdOut → Dev → Prop) : Prop :=
  s.dev.takes op c = true →
  (∀ i, paramFail c used bad = some i → ∃ t, exec x s = .next t ∧ Ends c op (.invalid i) (s.dev.begun c op) s t) ∧
  (paramFail c used bad = none → ∃ (t : State) (o : CmdOut) (d : Dev), exec x s = .next t ∧ Ends c op o d s t ∧ Q o d)

end Sys2Proof.Machine
end

