-- ==== Sys2Proof/Certificates/Slice0/Obligations.lean ====
section
/-! DEFINITION. The statements for the provers. -/

section Statements

open Sys2Proof Sys2Proof.Machine

/-! ### The whole block -/

/-- A step runs the command at the front of the queue on the state with the rest of the queue; on an empty queue it is the
block's own step (log entry 1, DESIGN CHOICE). -/
def Obligations.StepRunsFrontCommand : Prop :=
  (∀ (c : Instr) (rest : List Instr) (s : State), s.pending = c :: rest → step s = exec c { s with pending := rest }) ∧
  (∀ s : State, s.pending = [] → step s = idle s)

/-- Every command but the BAR4 accesses of SPI answers a next state, in every state, and leaves the queue of waiting commands as
it is. A step takes at most the front command from the queue and adds none: the queue after a step is its tail. -/
def Obligations.CommandsProceed : Prop :=
  (
  ∀ (c : Instr) (s : State),
    (∀ a n, c ≠ .spiMemRead a n) → (∀ a bs, c ≠ .spiMemWrite a bs) → (∀ p, c ≠ .spiTimeout p) → (∀ p, c ≠ .spiCsRelease p) →
      ∃ t, exec c s = .next t ∧ t.pending = s.pending) ∧
  (
  ∀ s t : State, step s = .next t → t.pending = s.pending.tail)

/-- Every step keeps the invariant: registers, BAR4 and the two flashes stay in their canonical form, and the commands that wait
stay well formed. -/
def Obligations.StepKeepsMemoryCanonical : Prop :=
  ∀ s t : State, s.wf = true → step s = .next t → t.wf = true

/-- The state after reset meets the invariant, and no command waits. The state after reset: the device is held in HOLD by its
supervisor with no block ready, TOP_RUN 0, the Keeper NORMAL and in reset, PF_STATE NORMAL, CAP 3, no channel, Lantern,
output, port or link in another state than its first, and every register at the value of its table. -/
def Obligations.ResetState : Prop :=
  (
  State.reset.wf = true ∧ State.reset.pending = []) ∧
  (
  let d := State.reset.dev
  d.clk.sup = .hold ∧ d.top.ready = false ∧ d.top.run = false ∧ d.top.blk = 0 ∧ d.keeper.sup.ap = .normal ∧
    d.keeper.sup.running = false ∧ d.pwr.pf = .normal ∧ d.pwr.cap = 3 ∧ (∀ c, (d.chan c).st = .freeRun) ∧
    (∀ l, (d.lan l).st = .off) ∧ (∀ m, (d.out m).pin = .stopped) ∧ (∀ k, (d.vout k).pin = .stopped) ∧
    (∀ p, (d.port p).st = .off) ∧ (∀ l, (d.link l).st = .off) ∧ (∀ n, (d.tsc n).st = .unset) ∧
    (∀ n, (d.buoy n).act.st = .down) ∧ (∀ a, d.rd a = resetWord a))

/-- The block's own step on an empty queue (log entry 1, DESIGN CHOICE): with nothing waiting for the Watch one microsecond
passes, on the measurement timebase only while XO is qualified. -/
def Obligations.IdleLetsTimePass : Prop :=
  ∀ s : State, s.pending = [] → s.dev.watch.reached = [] →
    ∃ t, step s = .next t ∧ t.pending = [] ∧ t.dev.clk.aonUs = s.dev.clk.aonUs + 1 ∧
      t.dev.clk.tbUs = (if s.dev.clk.xo then s.dev.clk.tbUs + 1 else s.dev.clk.tbUs) ∧
      t.dev = { s.dev with clk := { s.dev.clk with aonUs := t.dev.clk.aonUs, tbUs := t.dev.clk.tbUs }, chart := t.dev.chart } ∧
      t.dev.chart = { s.dev.chart with runHours16 := t.dev.chart.runHours16 }

/-! ### Lanterns and outputs -/

/-- What a Lantern's own transition leaves alone: the other Lanterns, and everything but Lanterns, outputs, video outputs, the
Watch, counters and what an event writes. -/
def LanFrame (l : Fin 8) (offs : List Nat) (s t : State) : Prop :=
  t.pending = s.pending ∧ (∀ k, k ≠ l → t.dev.lan k = s.dev.lan k) ∧
    t.dev = { s.dev with regs := t.dev.regs, bar4 := t.dev.bar4, host := t.dev.host, keeper := t.dev.keeper, watch := t.dev.watch,
                         lans := t.dev.lans, outs := t.dev.outs, vouts := t.dev.vouts } ∧
    EventFrame offs s.dev t.dev

/-- Rows 4 to 9 of Table 7-3: each transition of a Lantern from the state its row names, with its counter and its Watch
occurrence. -/
def Obligations.LanternTransitions : Prop :=
  ∀ (l : Fin 8) (s : State),
    (∀ band, (s.dev.lan l).st = .calibrating → ∃ t, exec (.lanternBandFound l band) s = .next t ∧ LanFrame l [] s t ∧
      t.dev.lan l = { s.dev.lan l with st := .acquiring, band := band, vcoLow := false } ∧ t.dev.watch = s.dev.watch) ∧
    ((s.dev.lan l).st = .calibrating → ∃ t, exec (.lanternCalTimeout l) s = .next t ∧ LanFrame l [lanOff l + 0x14] s t ∧
      t.dev.lan l = { s.dev.lan l with st := .unlocked } ∧ Counts (lanOff l + 0x14) 8 8 s.dev t.dev ∧
      Reports (lanSource l) l s.dev t.dev) ∧
    (∀ skew, (s.dev.lan l).st = .acquiring → ∃ t, exec (.lanternLock l skew) s = .next t ∧
      LanFrame l [lanOff l + 0x14, lanOff l + 0x18] s t ∧ (t.dev.lan l).st = .locked ∧ Counts (lanOff l + 0x14) 0 8 s.dev t.dev ∧
      t.dev.watch = s.dev.watch ∧
      (bit (s.dev.lanCfg l) 23 = true → (t.dev.lan l).grid = 0 ∧ t.dev.rd (lanOff l + 0x18) = word skew.toNat) ∧
      (bit (s.dev.lanCfg l) 23 = false → t.dev.lan l = { s.dev.lan l with st := .locked } ∧
        t.dev.rd (lanOff l + 0x18) = s.dev.rd (lanOff l + 0x18))) ∧
    ((s.dev.lan l).st = .acquiring → ∃ t, exec (.lanternAcqTimeout l) s = .next t ∧ LanFrame l [] s t ∧
      t.dev.lan l = { s.dev.lan l with st := .unlocked } ∧ Reports (lanSource l) l s.dev t.dev) ∧
    (∀ low, (s.dev.lan l).st = .locked → ∃ t, exec (.lanternUnlock l low) s = .next t ∧ LanFrame l [lanOff l + 0x14] s t ∧
      t.dev.lan l = { s.dev.lan l with st := .unlocked, vcoLow := low } ∧ Counts (lanOff l + 0x14) 16 16 s.dev t.dev ∧
      Reports (lanSource l) l s.dev t.dev) ∧
    ((s.dev.lan l).st = .unlocked → ∃ t, exec (.lanternRecal l) s = .next t ∧ LanFrame l [] s t ∧
      t.dev.lan l = { s.dev.lan l with st := .calibrating } ∧ t.dev.watch = s.dev.watch)

/-- An output starts on its edge while its start condition holds, stops at its falling edge or by force, and a running output takes
one phase step: COARSE by one VCO period, or FINE when COARSE has arrived (log entry 11, DESIGN CHOICE, for the order of the
two). -/
def Obligations.OutputStartStopAndPhase : Prop :=
  ∀ (m : Fin 48) (s : State),
    ((s.dev.out m).pin = .starting → s.dev.outWants m = true → ∃ t, exec (.outputStart m) s = .next t ∧ t.pending = s.pending ∧
      t.dev = { s.dev with outs := s.dev.outs.set m { s.dev.out m with pin := .running, mRealign := false, resume := none } }) ∧
    (∀ mute, (s.dev.out m).pin = .stopping mute →
      (∃ t, exec (.outputStop m) s = .next t ∧ t.pending = s.pending ∧ (t.dev.out m).pin.on = false ∧
        (∀ k, k ≠ m → t.dev.out k = s.dev.out k) ∧
        t.dev = { s.dev with regs := t.dev.regs, watch := t.dev.watch, outs := t.dev.outs } ∧
        (mute = true → Counts (outOff m + 0x24) 16 16 s.dev t.dev ∧ Reports 120 m s.dev t.dev ∧ KeepsRegs [outOff m + 0x24] s.dev t.dev) ∧
        (mute = false → t.dev.regs = s.dev.regs ∧ t.dev.watch = s.dev.watch)) ∧
      (∃ t, exec (.outputForcedStop m) s = .next t ∧ t.pending = s.pending ∧ (t.dev.out m).pin.on = false ∧
        (∀ k, k ≠ m → t.dev.out k = s.dev.out k) ∧ Counts (outOff m + 0x24) 0 16 s.dev t.dev ∧
        t.dev = { s.dev with regs := t.dev.regs, bar4 := t.dev.bar4, host := t.dev.host, watch := t.dev.watch, outs := t.dev.outs } ∧
        EventFrame [outOff m + 0x24] s.dev t.dev ∧ (t.dev.ring 9).seq = (s.dev.ring 9).seq + 1 ∧
        (mute = true → Reports 120 m s.dev t.dev) ∧ (mute = false → t.dev.watch = s.dev.watch))) ∧
    ((s.dev.out m).pin = .running → ∃ t, exec (.phaseAdjustStep m) s = .next t ∧ t.pending = s.pending ∧
      t.dev = { s.dev with outs := s.dev.outs.set m (t.dev.out m) } ∧
      ((s.dev.out m).coarse < s.dev.rdF (outOff m + 0x14) 8 24 →
        t.dev.out m = { s.dev.out m with coarse := (s.dev.out m).coarse + 1 }) ∧
      (s.dev.rdF (outOff m + 0x14) 8 24 < (s.dev.out m).coarse →
        t.dev.out m = { s.dev.out m with coarse := (s.dev.out m).coarse - 1 }) ∧
      ((s.dev.out m).coarse = s.dev.rdF (outOff m + 0x14) 8 24 →
        t.dev.out m = { s.dev.out m with fine := s.dev.rdF (outOff m + 0x14) 0 7 }))

/-- The video outputs: start at the first frame start, stop at the end of the line, forced 0 V when the clock is absent, and the
restart of a transition, with the counts of VOUTk_CNT. -/
def Obligations.VideoOutputs : Prop :=
  ∀ (k : Fin 8) (s : State),
    ((s.dev.vout k).pin = .starting → s.dev.voutWants k = true → ∃ t, exec (.voutStart k) s = .next t ∧ t.pending = s.pending ∧
      t.dev = { s.dev with vouts := s.dev.vouts.set k { s.dev.vout k with pin := .running } }) ∧
    (∀ mute, (s.dev.vout k).pin = .stopping mute → ∃ t, exec (.voutStop k) s = .next t ∧ t.pending = s.pending ∧
      (t.dev.vout k).pin.on = false ∧ (∀ j, j ≠ k → t.dev.vout j = s.dev.vout j) ∧
      t.dev = { s.dev with regs := t.dev.regs, vouts := t.dev.vouts } ∧ KeepsRegs [voutOff k + 0x24] s.dev t.dev ∧
      (mute = true → Counts (voutOff k + 0x24) 16 16 s.dev t.dev)) ∧
    ((s.dev.vout k).pin.on = true → ∃ t, exec (.voutClockLoss k) s = .next t ∧ t.pending = s.pending ∧
      (t.dev.vout k).pin.on = false ∧ (t.dev.vout k).transition = false ∧ (∀ j, j ≠ k → t.dev.vout j = s.dev.vout j) ∧
      t.dev = { s.dev with regs := t.dev.regs, vouts := t.dev.vouts } ∧ Counts (voutOff k + 0x24) 16 16 s.dev t.dev ∧
      KeepsRegs [voutOff k + 0x24] s.dev t.dev) ∧
    ((s.dev.vout k).transition = true → ∃ t, exec (.voutRealign k) s = .next t ∧ t.pending = s.pending ∧
      t.dev = { s.dev with regs := t.dev.regs, vouts := s.dev.vouts.set k { s.dev.vout k with transition := false, resume := none } } ∧
      Counts (voutOff k + 0x24) 0 16 s.dev t.dev ∧ KeepsRegs [voutOff k + 0x24] s.dev t.dev)

/-! ### Supplies, start-up, resets -/

/-- HOLD_RELEASE leaves HOLD for BOOT with the straps latched, a strapped MASTER in its role, and an Anchor wake where a snapshot
is held: CAUSE 3, M_ANCHOR on every output and BAR4 lost. The boot stages 1 to 4 (Table 16-4): BPLL locks, OTP is read, the
Chart scan ends with FREQ final and the preferred slot chosen, with ERROR 0x01 and 0x02 for a failure where no error stood
before. A scan that follows a reset of the CHART block makes the block ready again (R388). -/
def Obligations.BootStages : Prop :=
  (
  ∀ (master : Bool) (id : BitVec 9) (vbak : Bool) (s : State), s.dev.clk.sup = .hold →
    ∃ t, exec (.holdRelease master id vbak) s = .next t ∧ t.pending = s.pending ∧
      t.dev.clk = { s.dev.clk with sup := .boot, bcn := true, bcnRestart := s.dev.clk.bstop, xoTimer := true } ∧
      t.dev.top = { s.dev.top with stage := 1, cause := if s.dev.pwr.snapshot.isSome then 3 else s.dev.top.cause } ∧
      t.dev.tide.id = id ∧ t.dev.tide.strapped = master ∧
      (master = true → t.dev.tide.role = .master ∧ t.dev.tide.mPrio = 0 ∧ t.dev.tide.mId = id ∧ t.dev.tide.path = [id]) ∧
      t.dev.pwr.vbakOk = vbak ∧ t.dev.pwr.snapshot = s.dev.pwr.snapshot ∧ t.dev.watch = { s.dev.watch with supAlarm := false } ∧
      (s.dev.pwr.snapshot.isSome = true →
        t.dev.bar4 = [] ∧ (∀ m, (t.dev.out m).mAnchor = true) ∧ (∀ k, (t.dev.vout k).mAnchor = true)) ∧
      (s.dev.pwr.snapshot = none → t.dev.bar4 = s.dev.bar4 ∧ t.dev.outs = s.dev.outs ∧ t.dev.vouts = s.dev.vouts) ∧
      t.dev = { s.dev with bar4 := t.dev.bar4, bar4Gen := t.dev.bar4Gen, top := t.dev.top, clk := t.dev.clk, pwr := t.dev.pwr,
                           watch := t.dev.watch, outs := t.dev.outs, vouts := t.dev.vouts, tide := t.dev.tide }) ∧
  (
  ∀ s : State,
    (s.dev.clk.sup ≠ .hold → s.dev.clk.bpll = false → exec .bpllLock s = .next { s with dev := { s.dev with
      clk := { s.dev.clk with bpll := true },
      top := if s.dev.top.stage = 1 then { s.dev.top with stage := 2 } else s.dev.top } }) ∧
    (∀ ok, s.dev.top.stage = 2 → ∃ t, exec (.otpReadDone ok) s = .next t ∧ t.pending = s.pending ∧
      t.dev.otp = { s.dev.otp with readOut := true } ∧ t.dev.chart = { s.dev.chart with scanning := true } ∧
      t.dev.top = { s.dev.top with stage := 3, error := if ok = false ∧ s.dev.top.error = 0 then 1 else s.dev.top.error } ∧
      (ok = true → t.dev.watch = s.dev.watch) ∧
      t.dev = { s.dev with top := t.dev.top, watch := t.dev.watch, otp := t.dev.otp, chart := t.dev.chart }) ∧
    (∀ ok, s.dev.chart.scanning = true → s.dev.top.stage = 3 → ∃ t, exec (.chartScanDone ok) s = .next t ∧ t.pending = s.pending ∧
      t.dev.chart.scanning = false ∧ t.dev.clk = { s.dev.clk with freqFinal := true } ∧
      t.dev.top = { s.dev.top with
        stage := 4, slotB := s.dev.fw.prefB,
        error := if ok = false ∧ s.dev.top.error = 0 then 2 else s.dev.top.error } ∧
      (ok = false → t.dev.chart.scanFault = true ∧ t.dev.regs = s.dev.regs) ∧
      t.dev = { s.dev with regs := t.dev.regs, top := t.dev.top, clk := t.dev.clk, watch := t.dev.watch, chart := t.dev.chart,
                           tide := t.dev.tide }) ∧
    (∀ ok, s.dev.chart.scanning = true → s.dev.top.stage ≠ 3 → s.dev.top.ready = true → ∃ t, exec (.chartScanDone ok) s = .next t ∧
      t.pending = s.pending ∧ t.dev.chart.scanning = false ∧ t.dev.top.blk = s.dev.top.blk ||| 0x10 ∧
      (ok = false → t.dev.chart.scanFault = true ∧ t.dev.regs = s.dev.regs ∧
        t.dev.top.error = (if s.dev.top.error = 0 then 2 else s.dev.top.error)) ∧
      t.dev = { s.dev with regs := t.dev.regs, top := t.dev.top, watch := t.dev.watch, chart := t.dev.chart }))

/-- The image check of stage 4 (R418): a slot that passes its five checks makes every block ready and releases the Keeper with 2 s
for its first restart; a preferred slot that fails gives way to the other slot; when that one fails too, ERROR is 0x30 and the
device is ready with the Keeper HALTED. -/
def Obligations.ImageCheckEndsBoot : Prop :=
  ∀ (b : Bool) (s : State), s.dev.top.stage = 4 → s.dev.top.slotB = b → ∃ t, exec (.imageCheckDone b) s = .next t ∧
    t.pending = s.pending ∧
    (s.dev.imageChecks b = 5 → t.dev.top.ready = true ∧ t.dev.top.blk = BitVec.allOnes 17 ∧ t.dev.top.stage = 6 ∧ t.dev.top.slotB = b ∧
      t.dev.keeper.sup.running = true ∧ t.dev.keeper.sup.kicked = false ∧
      t.dev.keeper.sup.wdtAt = s.dev.clk.aonUs + 2000000 ∧ t.dev.keeper.sup.ap = s.dev.keeper.sup.ap) ∧
    (s.dev.imageChecks b ≠ 5 → b = s.dev.fw.prefB → t.dev.top.slotB = (!b) ∧ t.dev.top.ready = s.dev.top.ready ∧ t.dev.top.stage = 4 ∧
      t.dev.top.error = (if s.dev.top.error = 0 then b8 (imageError b (s.dev.imageChecks b)) else s.dev.top.error) ∧
      t.dev = { s.dev with top := t.dev.top, watch := t.dev.watch }) ∧
    (s.dev.imageChecks b ≠ 5 → b ≠ s.dev.fw.prefB → t.dev.top.error = 0x30 ∧ t.dev.top.stage = 8 ∧ t.dev.top.ready = true ∧
      t.dev.keeper.sup.ap = .halted ∧ t.dev.keeper.noImage = true)

/-- What every device reset leaves: HOLD (or BOOT, after DEVICE_RESET), no block ready, TOP_RUN 0, every register at the value of its
table, every channel in FREE_RUN, every Lantern OFF, the OTP keys, levels and both firmware slots as before. -/
def DeviceResetFrame (s t : State) : Prop :=
  t.pending = s.pending ∧ t.dev.top.ready = false ∧ t.dev.top.run = false ∧ t.dev.top.blk = 0 ∧ (∀ a, t.dev.rd a = resetWord a) ∧
    (∀ c, (t.dev.chan c).st = .freeRun) ∧ (∀ l, (t.dev.lan l).st = .off) ∧ t.dev.otp.keys = s.dev.otp.keys ∧
    t.dev.otp.debugLevel = s.dev.otp.debugLevel ∧ t.dev.otp.rollback = s.dev.otp.rollback ∧ t.dev.otp.debugOpen = false ∧
    t.dev.fw.flash = s.dev.fw.flash ∧ t.dev.fw.prefB = s.dev.fw.prefB ∧ t.dev.keeper = Keeper.reset ∧ t.dev.chk = Chk.reset

/-- The device resets (R45): loss of supplies, RESET_N, loss of the Beacon without XO, and the DEVICE_RESET reaction, which
boots at once with the kept straps (log entry 128, DESIGN CHOICE). -/
def Obligations.DeviceResets : Prop :=
  ∀ s : State,
    (∃ t, exec (.supplyFail true) s = .next t ∧ DeviceResetFrame s t ∧ t.dev.clk.sup = .hold ∧ t.dev.bar4 = [] ∧
      t.dev.pwr.snapshot = none ∧ t.dev.pwr.vbakOk = false ∧ t.dev.watch.resetBy = none ∧ t.dev.clk.bcnRestart = false) ∧
    (s.dev.pwr.inAnchor = false → (s.dev.autoAnchor = false ∨ s.dev.pwr.snapshot = none) → ∃ t, exec (.supplyFail false) s = .next t ∧ DeviceResetFrame s t ∧
      t.dev.clk.sup = .hold ∧ t.dev.bar4 = [] ∧ t.dev.pwr.snapshot = s.dev.pwr.snapshot ∧
      t.dev.watch.resetBy = s.dev.watch.resetBy) ∧
    (s.dev.pwr.inAnchor = true → exec (.supplyFail false) s = .next s) ∧
    (s.dev.pwr.inAnchor = false → s.dev.autoAnchor = true → s.dev.pwr.snapshot.isSome = true →
      ∃ t, exec (.supplyFail false) s = .next t ∧ DeviceResetFrame s t ∧ t.dev.clk.sup = .hold ∧ t.dev.bar4 = [] ∧
        t.dev.pwr.inAnchor = true ∧ t.dev.pwr.byPf = true ∧ t.dev.pwr.snapshot = s.dev.pwr.snapshot) ∧
    (s.dev.clk.sup = .hold → s.dev.clk.bstop = true → exec .resetNAssert s = .next (s.withDev { s.dev with
      clk := { s.dev.clk with bstop := false }, watch := { s.dev.watch with supAlarm := false }, top := { s.dev.top with cause := 1 } })) ∧
    (s.dev.clk.sup = .hold → s.dev.clk.bstop = false → exec .resetNAssert s = .next s) ∧
    (s.dev.clk.sup = .hold → exec .beaconLoss s = .next s) ∧
    (s.dev.clk.sup ≠ .hold → ∃ t, exec .resetNAssert s = .next t ∧ DeviceResetFrame s t ∧ t.dev.clk.sup = .hold ∧
      t.dev.top.cause = 1 ∧ t.dev.bar4 = s.dev.bar4 ∧ t.dev.bar4Gen = s.dev.bar4Gen ∧ t.dev.watch.resetBy = s.dev.watch.resetBy) ∧
    (s.dev.clk.sup ≠ .hold → s.dev.clk.xo = false → ∃ t, exec .beaconLoss s = .next t ∧ DeviceResetFrame s t ∧
      t.dev.clk.sup = .hold ∧ t.dev.clk.bstop = true ∧ t.dev.watch.supAlarm = true) ∧
    (s.dev.clk.sup ≠ .hold → s.dev.clk.xo = true →
      exec .beaconLoss s = .next { s with dev := { s.dev with clk := { s.dev.clk with bcn := false } } }) ∧
    (∀ src, s.dev.watch.resetPending = some src → ∃ t, exec .deviceReset s = .next t ∧ DeviceResetFrame s t ∧
      t.dev.clk.sup = .boot ∧ t.dev.top.stage = 1 ∧ t.dev.watch.resetBy = some src ∧ t.dev.watch.resetPending = none ∧
      t.dev.top.cause = (if s.dev.pwr.snapshot.isSome then 3 else 2))

/-! ### Clocks -/

/-- XO qualification, its failure and the CPLL (R336, R337, R341, R346, R347). A domain switch in progress ends with the domain
on its new source and the others as they were; a forced one is counted, reported to the Watch and logged (R345). That a CPLL unlock
only withdraws a switch to it is the choice of log entry 139. -/
def Obligations.Clocks : Prop :=
  (
  ∀ s : State,
    (∀ w : XoWindow, s.dev.clk.sup ≠ .hold → s.dev.clk.xo = false → s.dev.clk.freqFinal = true → s.dev.windowOk w = true →
      ∃ t, exec (.xoWindowEnd w) s = .next t ∧ t.pending = s.pending ∧ t.dev.clk.bcn = true ∧
        (windowsAgree ((w :: s.dev.clk.windows).take 16) = true →
          t.dev.clk.xo = true ∧ t.dev.clk.aondiv = true ∧ t.dev.clk.sup = .run ∧ t.dev.clk.aonSw = some true ∧
            t.dev.host.training = true) ∧
        (windowsAgree ((w :: s.dev.clk.windows).take 16) = false →
          t.dev.clk = { s.dev.clk with bcn := true, windows := (w :: s.dev.clk.windows).take 16 } ∧
          t.dev = { s.dev with clk := t.dev.clk, regs := t.dev.regs } ∧ KeepsRegs [0x010020] s.dev t.dev)) ∧
    (∀ w : XoWindow, s.dev.clk.sup ≠ .hold → s.dev.clk.xo = false → s.dev.clk.freqFinal = true → s.dev.windowOk w = false →
      ∃ t, exec (.xoWindowEnd w) s = .next t ∧ t.dev.clk = { s.dev.clk with bcn := true, windows := [] }) ∧
    (∀ w : XoWindow, s.dev.clk.sup ≠ .hold → s.dev.clk.xo = false → s.dev.clk.freqFinal = false → ∃ t,
      exec (.xoWindowEnd w) s = .next t ∧ t.pending = s.pending ∧ t.dev.clk = { s.dev.clk with bcn := true } ∧
      t.dev = { s.dev with clk := t.dev.clk, regs := t.dev.regs } ∧ KeepsRegs [0x010020] s.dev t.dev) ∧
    (∀ (w : XoWindow) (bad : Bool), s.dev.clk.sup ≠ .hold → s.dev.clk.xo = true →
      bad = decide (w.bcnKhz < 29440 ∨ 34560 < w.bcnKhz) → ∃ t, exec (.xoWindowEnd w) s = .next t ∧ t.pending = s.pending ∧
        t.dev.clk = { s.dev.clk with bcn := true, bcnBad := bad } ∧ (t.dev.source 9).cond = bad ∧
        t.dev.rdF 0x010020 0 16 = satN 16 (w.xoHz / 100000) ∧ t.dev.rdF 0x010020 16 16 = satN 16 w.bcnKhz ∧
        ((s.dev.source 9).cond = bad → t.dev.watch = s.dev.watch) ∧ ((s.dev.source 9).cond = false → bad = true →
          t.dev.watch.reached.length = s.dev.watch.reached.length + 1) ∧
        t.dev = { s.dev with clk := t.dev.clk, regs := t.dev.regs, watch := t.dev.watch } ∧ KeepsRegs [0x010020] s.dev t.dev) ∧
    (s.dev.clk.xoTimer = true → s.dev.clk.sup = .boot → s.dev.clk.xo = false → ∃ t, exec .xoAbsentTimeout s = .next t ∧
      t.pending = s.pending ∧ t.dev.clk = { s.dev.clk with sup := .xoAbsent, xoTimer := false } ∧ Reports 8 0 s.dev t.dev ∧
      t.dev = { s.dev with clk := t.dev.clk, watch := t.dev.watch }) ∧
    (∀ cause : Fin 3, s.dev.clk.xo = true → ∃ t, exec (.xoFail cause) s = .next t ∧ t.pending = s.pending ∧
      t.dev.clk.xo = false ∧ t.dev.clk.cpll = false ∧ t.dev.clk.aondiv = false ∧ t.dev.clk.sup = .xoAbsent ∧
      t.dev.clk.lastXoFail = BitVec.ofNat 2 (cause + 1) ∧ t.dev.clk.gapFrom = s.dev.clk.aonUs ∧ t.dev.clk.tbUs = s.dev.clk.tbUs ∧
      t.dev.host.pcieUp = false ∧ t.dev.bar4Gen = s.dev.bar4Gen ∧ t.dev.otp = s.dev.otp ∧
      t.dev.pwr = s.dev.pwr ∧ t.dev.ts = s.dev.ts ∧ t.dev.pilot = s.dev.pilot) ∧
    (s.dev.clk.xo = true → exec .cpllLock s = .next { s with dev := { s.dev with clk := { s.dev.clk with cpll := true } } }) ∧
    exec .cpllUnlock s = .next { s with dev := { s.dev with clk := { s.dev.clk with
      cpll := false, sysSw := if s.dev.clk.sysSw = some true then none else s.dev.clk.sysSw,
      fastSw := if s.dev.clk.fastSw = some true then none else s.dev.clk.fastSw } } }) ∧
  (
  ∀ (x : Domain) (to_ : Bool) (s : State), s.dev.switchOf x = some to_ →
    (∃ t, exec (.clockSwitchDone x) s = .next t ∧ t.pending = s.pending ∧ t.dev.domainOn x = to_ ∧ t.dev.switchOf x = none ∧
      (∀ y, y ≠ x → t.dev.domainOn y = s.dev.domainOn y ∧ t.dev.switchOf y = s.dev.switchOf y) ∧
      t.dev = { s.dev with regs := t.dev.regs, clk := t.dev.clk } ∧ KeepsRegs [0x010010] s.dev t.dev) ∧
    (∃ t, exec (.forcedSwitch x) s = .next t ∧ t.pending = s.pending ∧ t.dev.domainOn x = to_ ∧ t.dev.switchOf x = none ∧
      (∀ y, y ≠ x → t.dev.domainOn y = s.dev.domainOn y ∧ t.dev.switchOf y = s.dev.switchOf y) ∧
      Counts 0x010028 16 16 s.dev t.dev ∧ Reports 10 (Domain.code x) s.dev t.dev ∧ (t.dev.ring 9).seq = (s.dev.ring 9).seq + 1 ∧
      t.dev = { s.dev with regs := t.dev.regs, bar4 := t.dev.bar4, host := t.dev.host, clk := t.dev.clk, watch := t.dev.watch } ∧
      EventFrame [0x010010, 0x010028] s.dev t.dev))

/-! ### Operating points and power failure -/

/-- The sequencer (R350, R351): an acknowledged raise waits for SETTLE and then takes its point; a timeout stops the move, sets
AVS_ERR and is counted; the acknowledgement of a voltage, and the end of SETTLE, leave the sequencer at rest, where a PWR_OPP that waits completes, or start
the next step toward the point wanted; the Pilot-overload source follows the point in force (R276). Thermal
throttling (R354): CAP drops at once above 105 °C and at each interval, is counted and reported; it rises after a cool
interval; a sample at 105 °C or less only starts or stops the intervals. -/
def Obligations.OperatingPoints : Prop :=
  (
  ∀ s : State,
    (∀ pt, s.dev.pwr.avs = .upAck pt → exec .avsAck s = .next { s with dev := { s.dev with
      pwr := { s.dev.pwr with avs := .upSettle pt, avsErr := false } } }) ∧
    ((s.dev.pwr.avs = .downAck ∨ s.dev.pwr.avs = .initAck) → s.dev.oppWanted = s.dev.pwr.inForce.toNat → s.dev.pwr.oppCmd = none →
      exec .avsAck s = .next { s with dev := { s.dev with pwr := { s.dev.pwr with avs := .rest, avsErr := false } } }) ∧
    (∀ x, (s.dev.pwr.avs = .downAck ∨ s.dev.pwr.avs = .initAck) → s.dev.oppWanted = s.dev.pwr.inForce.toNat → s.dev.pwr.oppCmd = some x →
      ∃ d : Dev, exec .avsAck s = .next (s.withDev (d.complete x.1 x.2 (.ok s.dev.pwr.inForce.toNat))) ∧
        d = { s.dev with pwr := { s.dev.pwr with avs := .rest, avsErr := false, oppCmd := none } }) ∧
    ((s.dev.pwr.avs = .downAck ∨ s.dev.pwr.avs = .initAck) → s.dev.pwr.inForce.toNat < s.dev.oppWanted → ∃ n,
      n = s.dev.pwr.inForce.toNat + 1 ∧ exec .avsAck s = .next (s.withDev { s.dev with pwr := { s.dev.pwr with
        avs := .upAck (BitVec.ofNat 2 n), avsErr := false, millivolt := s.dev.oppMv n } })) ∧
    ((s.dev.pwr.avs = .downAck ∨ s.dev.pwr.avs = .initAck) → s.dev.oppWanted < s.dev.pwr.inForce.toNat → ∃ t n,
      n = s.dev.pwr.inForce.toNat - 1 ∧ exec .avsAck s = .next t ∧ t.pending = s.pending ∧
      t.dev.pwr = { s.dev.pwr with avs := .downAck, avsErr := false, inForce := BitVec.ofNat 2 n, millivolt := s.dev.oppMv n } ∧
      (t.dev.source 146).cond = t.dev.overload ∧ t.dev = { s.dev with pwr := t.dev.pwr, watch := t.dev.watch }) ∧
    (∀ pt, s.dev.pwr.avs = .upSettle pt → ∃ t, exec .avsSettleExpiry s = .next t ∧ t.pending = s.pending ∧
      (t.dev.source 146).cond = t.dev.overload ∧
      (s.dev.oppWanted = pt.toNat → t.dev.pwr = { s.dev.pwr with avs := .rest, inForce := pt, oppCmd := none } ∧
        (s.dev.pwr.oppCmd = none → t.dev = { s.dev with pwr := t.dev.pwr, watch := t.dev.watch }) ∧
        (∀ x, s.dev.pwr.oppCmd = some x → ∃ d : Dev, t.dev = d.complete x.1 x.2 (.ok pt.toNat) ∧
          d = { s.dev with pwr := d.pwr, watch := d.watch })) ∧
      (pt.toNat < s.dev.oppWanted → t.dev = { s.dev with pwr := t.dev.pwr, watch := t.dev.watch } ∧
        t.dev.pwr = { s.dev.pwr with
          avs := .upAck (BitVec.ofNat 2 (pt.toNat + 1)), inForce := pt, millivolt := s.dev.oppMv (pt.toNat + 1) }) ∧
      (s.dev.oppWanted < pt.toNat → t.dev = { s.dev with pwr := t.dev.pwr, watch := t.dev.watch } ∧
        t.dev.pwr = { s.dev.pwr with
          avs := .downAck, inForce := BitVec.ofNat 2 (pt.toNat - 1), millivolt := s.dev.oppMv (pt.toNat - 1) })) ∧
    (s.dev.pwr.avs.waits = true → ∃ t, exec .avsTimeout s = .next t ∧ t.pending = s.pending ∧
      t.dev.pwr = { s.dev.pwr with avs := .rest, avsErr := true, oppCmd := none } ∧ Counts 0x020010 0 8 s.dev t.dev ∧
      Reports 11 0 s.dev t.dev ∧
      t.dev = { s.dev with regs := t.dev.regs, bar4 := t.dev.bar4, host := t.dev.host, pwr := t.dev.pwr, watch := t.dev.watch,
                           keeper := t.dev.keeper })) ∧
  (
  ∀ s : State,
    (6720 < s.dev.pwr.tjMax → s.dev.pwr.hot = false → s.dev.pwr.cap ≠ 0 → ∃ t, exec .thermalSample s = .next t ∧
      t.pending = s.pending ∧ t.dev.pwr.cap = s.dev.pwr.cap - 1 ∧ t.dev.pwr.hot = true ∧ t.dev.pwr.cool = false ∧
      Counts 0x020010 8 8 s.dev t.dev ∧       (∃ r ∈ t.dev.watch.reached, r.occ = ⟨12, 0, false, false⟩)) ∧
    (6720 < s.dev.pwr.tjMax → s.dev.pwr.hot = true → exec .thermalSample s = .next s) ∧
    (6720 < s.dev.pwr.tjMax → s.dev.pwr.hot = false → s.dev.pwr.cap = 0 → exec .thermalSample s = .next { s with dev := { s.dev with
      pwr := { s.dev.pwr with hot := true, cool := false } } }) ∧
    (s.dev.pwr.hot = true → s.dev.pwr.cap = 0 → exec .throttleDrop s = .next s) ∧
    (s.dev.pwr.tjMax ≤ 6720 → exec .thermalSample s = .next { s with dev := { s.dev with
      pwr := { s.dev.pwr with hot := false, cool := decide (s.dev.pwr.tjMax ≤ 6400) } } }) ∧
    (s.dev.pwr.hot = true → s.dev.pwr.cap ≠ 0 → ∃ t, exec .throttleDrop s = .next t ∧ t.pending = s.pending ∧
      t.dev.pwr.cap = s.dev.pwr.cap - 1 ∧ Counts 0x020010 8 8 s.dev t.dev ∧
      (∃ r ∈ t.dev.watch.reached, r.occ = ⟨12, 0, false, false⟩)) ∧
    (s.dev.pwr.cool = true → s.dev.pwr.cap ≠ 3 → ∃ t, exec .throttleRise s = .next t ∧ t.pending = s.pending ∧
      t.dev.pwr.cap = s.dev.pwr.cap + 1))

/-- Power failure (R355 to R358): a trigger sheds, a written power-failure commit leads to HELD, the resume and its end lead back to
NORMAL; a trigger while shedding or held only shows its input; a commit that is
written empties the buffer and ends its command with the bytes it wrote; of an unusable store none is written. -/
def Obligations.PowerFailure : Prop :=
  ∀ s : State,
    (∀ mon, s.dev.clk.sup ≠ .hold → (s.dev.pwr.pf = .normal ∨ s.dev.pwr.pf = .resuming) → ∃ t,
      exec (.pwrfailTrigger mon) s = .next t ∧ t.pending = s.pending ∧ t.dev.pwr.pf = .shedding ∧
      (mon = true → t.dev.pwr.vddMon = true) ∧ (mon = false → t.dev.pwr.pwrfail = true) ∧ t.dev.chart.commit.isSome = true ∧
      t.dev.clk = s.dev.clk ∧ t.dev.ts = s.dev.ts ∧ t.dev.tide = s.dev.tide ∧ t.dev.otp = s.dev.otp ∧ t.dev.fw = s.dev.fw) ∧
    (∀ mon, s.dev.clk.sup ≠ .hold → (s.dev.pwr.pf = .shedding ∨ s.dev.pwr.pf = .held) →
      exec (.pwrfailTrigger mon) s = .next { s with dev := { s.dev with
        pwr := { s.dev.pwr with pwrfail := s.dev.pwr.pwrfail || !mon, vddMon := s.dev.pwr.vddMon || mon } } }) ∧
    (s.dev.pwr.pf = .held → ∃ t, exec .pfResumeExpiry s = .next t ∧ t.pending = s.pending ∧ t.dev.pwr.pf = .resuming ∧
      t.dev.pwr.snapshot = none ∧ t.dev.pwr.pwrfail = false ∧ t.dev.pwr.vddMon = false ∧ t.dev.chart = s.dev.chart) ∧
    (s.dev.pwr.pf = .resuming → ∃ t, exec .pfResumed s = .next t ∧ t.pending = s.pending ∧ t.dev.pwr.pf = .normal ∧
      t.dev.chart = s.dev.chart ∧ t.dev.lans = s.dev.lans) ∧
    (∀ k, s.dev.chart.commit = some k → s.dev.unscanned = false → s.dev.chart.scanFault = false →
      (s.dev.commitPlan.2 = true ∧ s.dev.lineHeld = false ∨ s.dev.commitHard = true) → ∃ t, exec .commitDone s = .next t ∧ t.pending = s.pending ∧
        t.dev.chart.commit = none ∧ t.dev.chart.extended = false ∧ Counts 0x040020 16 16 s.dev t.dev ∧
        ((k = .timer ∨ k = .powerFail ∨ k = .anchor) → t.dev.chart.buf = [] ∧ t.dev.chart.timerOn = false ∧
          t.dev = { s.dev with regs := t.dev.regs, chart := t.dev.chart, pwr := t.dev.pwr } ∧ KeepsRegs [0x040020] s.dev t.dev) ∧
        (∀ src p, k = .command src p → t.dev.chart.buf = [] ∧ t.dev.chart.timerOn = false ∧ ∃ d : Dev,
          d = { s.dev with regs := d.regs, chart := t.dev.chart } ∧
          t.dev = { d.complete src p (.ok (bufBytes s.dev.bufKept)) with pwr := t.dev.pwr }) ∧
        (∀ src p e, k = .full src p e → t.dev.chart.timerOn = true ∧ (∃ n, t.dev.chart.buf = [{ e with seq := n }]) ∧ ∃ d : Dev,
          d = { s.dev with regs := d.regs, chart := t.dev.chart } ∧
          t.dev = { d.complete src p (.ok e.val.length) with pwr := t.dev.pwr }) ∧
        (s.dev.commitHard = false → t.dev.pwr = s.dev.pwr) ∧
        (s.dev.commitHard = true → s.dev.pwr.pf = .shedding → t.dev.pwr.pf = .held) ∧
        (s.dev.commitHard = true → s.dev.pwr.anchorCmd.isSome = true → t.dev.pwr.snapWait = true)) ∧
    (s.dev.lineHeld = true → s.dev.commitHard = false → s.dev.chart.commit ≠ none → exec .commitDone s = .next s) ∧
    (∀ k, s.dev.chart.commit = some k → s.dev.chart.scanning = false → s.dev.chart.scanFault = true →
      (s.dev.lineHeld = false ∨ s.dev.commitHard = true) → ∃ t,
      exec .commitDone s = .next t ∧ t.pending = s.pending ∧ t.dev.chart.commit = none ∧ t.dev.chart.flash = s.dev.chart.flash ∧
      (s.dev.commitHard = true → s.dev.pwr.pf = .shedding → t.dev.pwr.pf = .held))

/-! ### Anchor mode -/

/-- Anchor mode (R359 to R364): the snapshot, the automatic entry, what Anchor mode records, the wake and the release of the mutes.
The loss of VBAK and the restored time follow log entries 132 and 130, the model's readings. -/
def Obligations.AnchorMode : Prop :=
  ∀ s : State,
    (∀ ps, s.dev.pwr.snapWait = true → s.dev.clk.xo = true → s.dev.pwr.anchorCmd = none →
      exec (.anchorSnapshot ps) s = .next { s with dev := { s.dev with
        pwr := { s.dev.pwr with snapshot := some (s.dev.snapshotNow ps), snapWait := false } } }) ∧
    (∀ ps cmd, s.dev.pwr.snapWait = true → s.dev.clk.xo = true → s.dev.pwr.anchorCmd = some cmd → ∃ t,
      exec (.anchorSnapshot ps) s = .next t ∧ t.pending = s.pending ∧ t.dev.clk.sup = .hold ∧ t.dev.pwr.inAnchor = true ∧
      t.dev.pwr.byPf = false ∧ t.dev.pwr.xoCounted = cmd.2.2 ∧ t.dev.pwr.snapshot = some (s.dev.snapshotNow ps) ∧ t.dev.bar4 = []) ∧
    (s.dev.autoAnchor = true → s.dev.pwr.snapshot.isSome = true → ∃ t, exec .anchorAutoEntry s = .next t ∧ t.pending = s.pending ∧
      t.dev.clk.sup = .hold ∧ t.dev.pwr.inAnchor = true ∧ t.dev.pwr.byPf = true ∧
      t.dev.pwr.xoCounted = bit (s.dev.rd 0x020020) 30 ∧ t.dev.pwr.snapshot = s.dev.pwr.snapshot ∧ t.dev.bar4 = []) ∧
    (s.dev.autoAnchor = true → s.dev.pwr.snapshot = none → ∃ t, exec .anchorAutoEntry s = .next t ∧ DeviceResetFrame s t ∧
      t.dev.clk.sup = .hold ∧ t.dev.pwr.snapshot = none ∧ t.dev.bar4 = []) ∧
    (∀ tj, s.dev.pwr.inAnchor = true → exec (.anchorTempLog tj) s = .next { s with dev := { s.dev with
      pwr := { s.dev.pwr with tlog := (s.dev.pwr.tlog ++ [tj]).drop ((s.dev.pwr.tlog ++ [tj]).length - 2048) } } }) ∧
    (s.dev.pwr.inAnchor = true → s.dev.pwr.xoCounted = true → exec .anchorXoStop s = .next { s with dev := { s.dev with
      pwr := { s.dev.pwr with xoCntLost := true } } }) ∧
    (∃ t, exec .vbakLoss s = .next t ∧ t.pending = s.pending ∧ t.dev.pwr.snapshot = none ∧ t.dev.pwr.vbakOk = false ∧
      t.dev.pwr.inAnchor = false ∧ t.dev = { s.dev with pwr := t.dev.pwr, chart := t.dev.chart } ∧
      (s.dev.pwr.inAnchor = false → t.dev.chart = s.dev.chart)) ∧
    (∀ ok snap, s.dev.clk.sup ≠ .hold → s.dev.pwr.snapshot = some snap → ∃ t, exec (.anchorWake ok) s = .next t ∧
      t.pending = s.pending ∧ t.dev.top = { s.dev.top with cause := 3 } ∧ t.dev.pwr.snapshot = none ∧ t.dev.pwr.restored = ok ∧
      t.dev.pwr.restoreFrom = (if ok then some snap else none) ∧ t.dev.pwr.tlogOut = s.dev.pwr.tlog ∧ t.dev.pwr.tlog = [] ∧
      (∀ m, (t.dev.out m).mAnchor = true) ∧ (∀ k, (t.dev.vout k).mAnchor = true) ∧
      t.dev = { s.dev with top := t.dev.top, pwr := t.dev.pwr, outs := t.dev.outs, vouts := t.dev.vouts }) ∧
    (∀ (ch : Fin 16) (cycles ticks : Nat) (snap : Snapshot) (e : Nat × Nat), s.dev.pwr.restoreFrom = some snap → s.dev.clk.xo = true →
      s.dev.pwr.restored = true → s.dev.pwr.restoreTodo.getLsbD ch = true → e = s.dev.elapsed snap.beaconPs cycles ticks →
      ∃ t, exec (.timeRestore ch cycles ticks) s = .next t ∧
        t.pending = s.pending ∧ t.dev.pwr.restoreTodo.getLsbD ch = false ∧
        (∀ k : Fin 16, k ≠ ch → t.dev.pwr.restoreTodo.getLsbD k = s.dev.pwr.restoreTodo.getLsbD k) ∧
        t.dev.rd 0x020038 = word (satN 32 (anchorUnc snap.acc (e.1 / 65536000) (e.2 / 65536000))) ∧
        (∀ n, s.dev.tsChan n = ch → (snap.ts.get n).wasSet = true → (s.dev.tsc n).started = false →
          (t.dev.tsc n).st = .running ∧ (t.dev.tsc n).started = true))

/-! ### Register accesses -/

/-- A full write to a plain register that passes every check takes effect in full, with the hardware updates of its cycle, and its
interface is answered without a reason (R41, R47). A 64-bit write of PCIe is two 32-bit writes, the lower address first (R36); a
write of PCIe to BAR4 stores its bytes and leaves every other byte (R38); a word of the Keeper's command queue is stored (R37). With a guard
armed on the interface, a write that does not complete its sequence first breaks it, and then, on a register that the break leaves as
it was, is the write that it is without (R55); a first write to a GD register is the arming. -/
def Obligations.RegisterWriteTakesEffect : Prop :=
  (∀ (i : Iface) (off : BitVec 22) (v hw : Word) (s : State), s.dev.admits i off.toNat v →
    ∃ r, regDesc off.toNat = some r ∧
      exec (.registerWrite i off (.word v hw) 15) s = .next { s with dev := (s.dev.take off.toNat r hw v).respond i none [] }) ∧
  (∀ (off : BitVec 22) (v : BitVec 64) (r q : RegDesc) (s : State), regDesc off.toNat = some r → regDesc (off.toNat + 4) = some q →
    s.dev.admits .pcie off.toNat (word (v.toNat % 4294967296)) →
    (s.dev.take off.toNat r 0 (word (v.toNat % 4294967296))).admits .pcie (off.toNat + 4) (word (v.toNat / 4294967296)) →
    exec (.registerWrite .pcie off (.wide v) 255) s = .next (s.withDev
      (((s.dev.take off.toNat r 0 (word (v.toNat % 4294967296))).take (off.toNat + 4) q 0 (word (v.toNat / 4294967296))).respond
        .pcie none []))) ∧
  (∀ (a : BitVec 22) (bs : List Byte) (be : BitVec 8) (s : State), a.toNat + bs.length ≤ 262144 → ∃ t,
    exec (.registerWrite .pcie a (.bytes bs) be) s = .next t ∧ t.pending = s.pending ∧
      (∀ i, i < bs.length → t.dev.bar4Get (a.toNat + i) = bs.getD i 0) ∧
      (∀ x, (x < a.toNat ∨ a.toNat + bs.length ≤ x) → t.dev.bar4Get x = s.dev.bar4Get x) ∧
      t.dev = { s.dev with bar4 := t.dev.bar4, chk := t.dev.chk }) ∧
  (∀ (i : Iface) (off : BitVec 22) (v : Word) (be : BitVec 8) (g : Guard) (s : State), s.dev.guardOf i = some g →
    ¬ (be.toNat % 16 = 15 ∧ off.toNat = g.off + 4 ∧ off.toNat % 4 = 0) →
    (s.dev.guardBreak i).rd (off.toNat / 4 * 4) = s.dev.rd (off.toNat / 4 * 4) →
    exec (.registerWrite i off (.word v 0) be) s = exec (.registerWrite i off (.word v 0) be) (s.withDev (s.dev.guardBreak i))) ∧
  (∀ (i : Iface) (off : BitVec 22) (v : Word) (s : State),
    exec (.registerWrite i off (.word v 0) 15) s = exec (.guardArm i off v) s) ∧
  (∀ (off : BitVec 22) (v hw : Word) (s : State), off.toNat % 4 = 0 → privKind off.toNat = some .memory →
    s.dev.admitsKeeper off.toNat → ∃ t, exec (.registerWrite .keeper off (.word v hw) 15) s = .next t ∧ PortFrame [] s
      { t with dev := { t.dev with regs := s.dev.regs } } ∧ t.dev.rd off.toNat = v ∧
      (∀ a, a ≠ off.toNat → t.dev.rd a = s.dev.rd a))

/-- A full write that fails a check of Table 2-3 is discarded: of the registers only the violation capture and counters, the SPI error
count and what the log entry writes change, the Watch gets occurrence 0, and the reason is that of the first failing step among
1 to 3, else 4 or 5, else 7. A partial write that passes steps 1 to 3 is discarded with RANGE (R36). -/
def Obligations.RegisterWriteIsDiscarded : Prop :=
  (∀ (i : Iface) (off : BitVec 22) (v hw : Word) (r : RegDesc) (s : State), off.toNat % 4 = 0 → s.dev.guardOf i = none →
    privKind off.toNat = none → regDesc off.toNat = some r → r.kind = .plain → s.dev.ignores off.toNat = false →
    (s.dev.steps123 i off.toNat true ≠ none ∨ s.dev.steps45 i off.toNat r v ≠ none ∨ s.dev.step7 off.toNat r v = true) →
    ∃ t, exec (.registerWrite i off (.word v hw) 15) s = .next t ∧ t.pending = s.pending ∧
      KeepsRegs [0x050000, 0x050004, 0x050008, 0x050010, 0x2C0018] s.dev t.dev ∧ Reports 0 0 s.dev t.dev ∧
      Counts 0x050010 0 32 s.dev t.dev ∧
      t.dev = { s.dev with regs := t.dev.regs, bar4 := t.dev.bar4, chk := t.dev.chk, host := t.dev.host, watch := t.dev.watch } ∧
      (bit (s.dev.rd 0x050004) 31 = false →
        t.dev.rd 0x050000 = word off.toNat ∧ t.dev.rd 0x050008 = v ∧ t.dev.rdF 0x050004 31 1 = 1 ∧
        t.dev.rdF 0x050004 24 3 =
          (match s.dev.steps123 i off.toNat true with
            | some why => why.code
            | none => match s.dev.steps45 i off.toNat r v with
              | some why => why.code
              | none => Reason.range.code)) ∧
      (bit (s.dev.rd 0x050004) 31 = true → Counts 0x050004 0 16 s.dev t.dev ∧ t.dev.rd 0x050000 = s.dev.rd 0x050000 ∧
        t.dev.rd 0x050008 = s.dev.rd 0x050008)) ∧
  (∀ (i : Iface) (off : BitVec 22) (v hw : Word) (be : BitVec 8) (s : State), (be.toNat % 16 ≠ 15 ∨ off.toNat % 4 ≠ 0) →
    s.dev.guardOf i = none → s.dev.steps123 i (off.toNat / 4 * 4) true = none →
    ∃ t, exec (.registerWrite i off (.word v hw) be) s = .next t ∧ t.pending = s.pending ∧
      KeepsRegs [0x050000, 0x050004, 0x050008, 0x050010, 0x2C0018] s.dev t.dev ∧ Reports 0 0 s.dev t.dev ∧
      Counts 0x050010 0 32 s.dev t.dev ∧
      t.dev = { s.dev with regs := t.dev.regs, bar4 := t.dev.bar4, chk := t.dev.chk, host := t.dev.host, watch := t.dev.watch } ∧
      (bit (s.dev.rd 0x050004) 31 = false → t.dev.rd 0x050000 = word off.toNat ∧ t.dev.rdF 0x050004 24 3 = Reason.range.code))

/-- Guards (R55): a first write to a GD register arms the guard of its interface with the register and the value and does nothing else;
at the end of the window an armed guard disarms and its first write is recorded as a violation. -/
def Obligations.GuardArmsAndDisarms : Prop :=
  (∀ (i : Iface) (off : BitVec 22) (v : Word) (r : RegDesc) (s : State), off.toNat % 4 = 0 → s.dev.guardOf i = none →
    s.dev.steps123 i off.toNat true = none → privKind off.toNat = none → regDesc off.toNat = some r → r.kind = .guard →
    s.dev.steps45 i off.toNat r v = none → ∃ t, exec (.guardArm i off v) s = .next t ∧ t.pending = s.pending ∧
      t.dev.guardOf i = some ⟨off.toNat, v⟩ ∧ (∀ j, j ≠ i → t.dev.guardOf j = s.dev.guardOf j) ∧
      t.dev = { s.dev with chk := t.dev.chk }) ∧
  (∀ (i : Iface) (g : Guard) (s : State), s.dev.guardOf i = some g → ∃ t, exec (.guardWindowEnd i) s = .next t ∧
    t.pending = s.pending ∧ t.dev.guardOf i = none ∧ (∀ j, j ≠ i → t.dev.guardOf j = s.dev.guardOf j) ∧
    Counts 0x050010 0 32 s.dev t.dev ∧ Reports 0 0 s.dev t.dev ∧
    (bit (s.dev.rd 0x050004) 31 = false → t.dev.rd 0x050000 = word (g.off % 4194304) ∧ t.dev.rd 0x050008 = g.val ∧
      t.dev.rdF 0x050004 24 3 = Reason.guard.code) ∧
    KeepsRegs [0x050000, 0x050004, 0x050008, 0x050010] s.dev t.dev)

/-- A write to a complement address while the guard of its interface is not armed with the register before it is discarded and recorded
with reason GUARD, after the record of the guard it found armed; a read of a complement address returns 0 and records nothing, whether or not a guard is armed (R56). -/
def Obligations.ComplementAccesses : Prop :=
  ∀ (i : Iface) (off : BitVec 22) (r : RegDesc) (s : State), off.toNat % 4 = 0 → regDesc off.toNat = some r → r.kind = .complement →
    privKind off.toNat = none →
    (∀ v hw, s.dev.steps123 i off.toNat true = none → s.dev.guardOf i = none → ∃ t, exec (.registerWrite i off (.word v hw) 15) s = .next t ∧
      t.dev.guardOf i = none ∧ Counts 0x050010 0 32 s.dev t.dev ∧ Reports 0 0 s.dev t.dev ∧
      (bit (s.dev.rd 0x050004) 31 = false → t.dev.rd 0x050000 = word off.toNat ∧ t.dev.rdF 0x050004 24 3 = Reason.guard.code) ∧
      KeepsRegs [0x050000, 0x050004, 0x050008, 0x050010, 0x2C0018] s.dev t.dev) ∧
    (∀ v hw g, s.dev.steps123 i off.toNat true = none → s.dev.guardOf i = some g → g.off + 4 ≠ off.toNat →
      ∃ t, exec (.registerWrite i off (.word v hw) 15) s = .next t ∧ t.dev.guardOf i = none ∧
        t.dev.rdF 0x050010 0 32 = satN 32 (s.dev.rdF 0x050010 0 32 + 2) ∧
        t.dev.watch.reached.length = s.dev.watch.reached.length + 2 ∧
        (bit (s.dev.rd 0x050004) 31 = false → t.dev.rd 0x050000 = word (g.off % 4194304) ∧
          t.dev.rdF 0x050004 24 3 = Reason.guard.code ∧ t.dev.rdF 0x050004 0 16 = 1) ∧
        KeepsRegs [0x050000, 0x050004, 0x050008, 0x050010, 0x2C0018] s.dev t.dev) ∧
    (s.dev.steps123 i off.toNat false = none → exec (.registerRead i .word off 15) s = .next { s with
      dev := s.dev.respond i none (wordBytes 0) })

/-- The guarded commands of the clocks, the Watch, the Chart store and the channels: a complete sequence that passes every check has
its effect. -/
def Obligations.GuardedCommandsOfTheBlocks : Prop :=
  ∀ (i : Iface) (s : State),
    (∀ v, s.dev.admitsGuarded i 0x010010 v → ∃ t, exec (.clkSrcSelWrite i v) s = .next t ∧ PortFrame [] s { t with dev := { t.dev with clk := s.dev.clk } } ∧
      t.dev.clk = { s.dev.clk with
        sysSw := if bit v 0 = bit (s.dev.rd 0x010010) 0 then none else some (bit v 0),
        fastSw := if bit v 1 = bit (s.dev.rd 0x010010) 1 then none else some (bit v 1) }) ∧
    (s.dev.admitsGuarded i 0x030010 1 → ∃ t, exec (.safeClear i) s = .next t ∧ t.pending = s.pending ∧
      t.dev.watch.safe = false ∧ t.dev.clk = s.dev.clk ∧ t.dev.otp = s.dev.otp ∧ t.dev.pwr = s.dev.pwr) ∧
    (∀ v, bit v 8 = true → fld v 0 8 < 192 → s.dev.admitsGuarded i 0x030018 v → ∃ t, exec (.faultForce i v) s = .next t ∧
      t.pending = s.pending ∧ t.dev.rd 0x030018 = word (fld v 0 8) ∧
      (∃ r, t.dev.watch = { s.dev.watch with reached := s.dev.watch.reached ++ [r] } ∧ r.occ.src.val = fld v 0 8 ∧
        r.occ.forced = true ∧ r.occ.raised = false) ∧
      t.dev = { s.dev with regs := t.dev.regs, chk := t.dev.chk, watch := t.dev.watch } ∧ KeepsRegs [0x030018] s.dev t.dev) ∧
    (∀ v, s.dev.admitsGuarded i 0x040030 v → ∃ t, exec (.chartRawErase i v) s = .next t ∧ t.pending = s.pending ∧
      t.dev.chart = { s.dev.chart with tokens := s.dev.chart.tokens - 1, erasing := some (fld v 0 6, .raw) } ∧
      t.dev = { s.dev with chk := t.dev.chk, chart := t.dev.chart }) ∧
    (∀ (ch : Fin 16) (slot : Fin 64), s.dev.admitsGuarded i (chanOff ch + 0xC10) (word (128 + slot.val)) → ∃ t,
      exec (.forceArm i ch slot) s = .next t ∧ t.pending = s.pending ∧ (t.dev.chan ch).sel.armed = some slot ∧
      (t.dev.chan ch).sel.armedAt = s.dev.clk.aonUs ∧ (∀ c, c ≠ ch → t.dev.chan c = s.dev.chan c) ∧
      t.dev = { s.dev with regs := t.dev.regs, chk := t.dev.chk, chans := t.dev.chans }) ∧
    (∀ ch : Fin 16, s.dev.admitsGuarded i (chanOff ch + 0xC10) 0 → ∃ t, exec (.forceDisarm i ch) s = .next t ∧
      t.pending = s.pending ∧ (t.dev.chan ch).sel.armed = none ∧ (∀ c, c ≠ ch → t.dev.chan c = s.dev.chan c) ∧
      t.dev = { s.dev with regs := t.dev.regs, chk := t.dev.chk, chans := t.dev.chans })

/-- The guarded commands of the Keeper block: RELEASE, RESTART with a valid image, and the OTP actions, which start programming with
the operands written. -/
def Obligations.GuardedCommandsOfTheKeeper : Prop :=
  ∀ (i : Iface) (s : State),
    (s.dev.admitsGuarded i 0x300108 1 → ∃ t, exec (.apRelease i) s = .next t ∧ t.pending = s.pending ∧
      t.dev.keeper.sup = { s.dev.keeper.sup with ap := .normal, stallRun := 0 } ∧ t.dev.otp = s.dev.otp ∧ t.dev.clk = s.dev.clk) ∧
    (s.dev.admitsGuarded i 0x300108 2 → s.dev.keeper.noImage = false → ∃ t, exec (.apRestart i) s = .next t ∧
      t.pending = s.pending ∧ t.dev.keeper.sup = { s.dev.keeper.sup with
        ap := .autopilot, running := true, kicked := false, wdtAt := s.dev.clk.aonUs + 2000000 }) ∧
    (∀ slot : BitVec 2, s.dev.admitsGuarded i 0x300120 (word (slot.toNat * 16 + 1)) → ∃ t, exec (.enroll i slot) s = .next t ∧
      PortFrame [0x300120] s { t with dev := { t.dev with otp := s.dev.otp } } ∧
      t.dev.otp = { s.dev.otp with busy := some (.enroll (Fin.ofNat 3 slot.toNat) s.dev.otpData) }) ∧
    (∀ slot : BitVec 2, s.dev.admitsGuarded i 0x300120 (word (slot.toNat * 16 + 2)) → ∃ t, exec (.revoke i slot) s = .next t ∧
      PortFrame [0x300120] s { t with dev := { t.dev with otp := s.dev.otp } } ∧
      t.dev.otp = { s.dev.otp with busy := some (.revoke (Fin.ofNat 3 slot.toNat)) }) ∧
    (s.dev.admitsGuarded i 0x300120 3 → ∃ t, exec (.lockUp i) s = .next t ∧
      PortFrame [0x300120] s { t with dev := { t.dev with otp := s.dev.otp } } ∧
      t.dev.otp = { s.dev.otp with busy := some .lockUp })

/-- The register commands of plain registers: each accepted write has the effect of its row; a restart of the watchdog that falls in
the cycle of its expiry is discarded (R23). -/
def Obligations.RegisterCommands : Prop :=
  ∀ (i : Iface) (s : State),
    (∀ v, s.dev.admits i 0x300100 v → s.dev.keeper.sup.running = true → ∃ t,
      exec (.watchdogKick i ⟨v, false⟩) s = .next t ∧ t.pending = s.pending ∧
      t.dev.keeper.sup = { s.dev.keeper.sup with kicked := true, wdtAt := s.dev.clk.aonUs + 100000 } ∧
      (s.dev.fw.state ≠ .trial → t.dev.keeper = { s.dev.keeper with sup := t.dev.keeper.sup } ∧
        t.dev = { s.dev with regs := t.dev.regs, chk := t.dev.chk, keeper := t.dev.keeper }) ∧
      (s.dev.fw.state = .trial → t.dev.fw = { s.dev.fw with
        activate := none, stage := if s.dev.fw.stage.toNat < 6 then 6 else s.dev.fw.stage })) ∧
    (∀ v, s.dev.admits i 0x300100 v → exec (.watchdogKick i ⟨v, true⟩) s = .next { s with dev := s.dev.respond i none [] }) ∧
    (s.dev.admits i 0x05000C 1 → ∃ t, exec (.regViolAck i) s = .next t ∧ t.dev.rdF 0x050004 31 1 = 0 ∧ t.dev.rdF 0x050004 0 16 = 0 ∧
      PortFrame [0x050004, 0x05000C] s t) ∧
    (∀ v, s.dev.admits i 0x000008 v → ∃ t, exec (.topRunWrite i v) s = .next t ∧ t.pending = s.pending ∧
      t.dev.top = { s.dev.top with run := true, stage := if s.dev.top.stage = 6 then 7 else s.dev.top.stage } ∧
      t.dev = { s.dev with regs := t.dev.regs, chk := t.dev.chk, top := t.dev.top }) ∧
    (s.dev.admits i 0x2C0000 1 → s.dev.host.resetCause = none → ∃ t, exec (.hostifCtrlReset i) s = .next t ∧
      t.pending = s.pending ∧ t.dev.host.resetCause = some (3, s.dev.stamp) ∧ t.dev.blockReady 14 = false ∧
      t.dev.host.resets = s.dev.host.resets + 1 ∧ t.dev.chans = s.dev.chans ∧ t.dev.ts = s.dev.ts ∧ t.dev.otp = s.dev.otp) ∧
    (∀ v, s.dev.admits i 0x010030 v → ∃ t, exec (.clkmonCfgWrite i v) s = .next t ∧ PortFrame [0x010030] s t ∧
      t.dev.rdF 0x010030 24 5 = fld v 24 5 ∧ t.dev.rdF 0x010030 0 16 = fld v 0 16) ∧
    (s.dev.admits i 0x020028 1 → ∃ t, exec (.anchorRelease i) s = .next t ∧ t.pending = s.pending ∧
      (∀ m, (t.dev.out m).mAnchor = false) ∧ (∀ k, (t.dev.vout k).mAnchor = false) ∧
      t.dev = { s.dev with regs := t.dev.regs, chk := t.dev.chk, outs := t.dev.outs, vouts := t.dev.vouts }) ∧
    (∀ (n : Fin 4) (v : Word), bit v 8 = true → s.dev.admits i (tsOff n + 0x20) v → ∃ t, exec (.tsCaptureArm i n v) s = .next t ∧
      t.pending = s.pending ∧ (t.dev.tsc n).armed = decide (fld v 6 2 ≠ 0) ∧ (∀ k, k ≠ n → t.dev.tsc k = s.dev.tsc k) ∧
      (fld v 6 2 = 0 → t.dev.rdF (tsOff n + 0x34) 16 16 = (s.dev.rdF (tsOff n + 0x34) 16 16 + 1) % 65536) ∧
      t.dev = { s.dev with regs := t.dev.regs, chk := t.dev.chk, ts := t.dev.ts }) ∧
    (∀ k : Fin 3, s.dev.admits i (buoyOff (61 + k.val) + 0x114) 1 → ∃ t, exec (.hsPush i k) s = .next t ∧ t.pending = s.pending ∧
      (t.dev.buoy ⟨61 + k.val, by omega⟩).hs.length = (s.dev.buoy ⟨61 + k.val, by omega⟩).hs.length + 1 ∧
      (∀ n : Fin 64, n.val ≠ 61 + k.val → t.dev.buoy n = s.dev.buoy n) ∧
      t.dev = { s.dev with regs := t.dev.regs, chk := t.dev.chk, buoys := t.dev.buoys }) ∧
    (∀ r : Fin 26, s.dev.ringEn r = false → s.dev.admits i (ringOff r + 8) (setFld (s.dev.rd (ringOff r + 8)) 31 1 1) → ∃ t,
      exec (.ringEnable i r) s = .next t ∧ t.pending = s.pending ∧ t.dev.ringEn r = true ∧
      (r ≠ 8 → r ≠ 9 → (t.dev.ring r).devIdx = 0 ∧ (t.dev.ring r).use = 0 ∧ (t.dev.ring r).err = false ∧
        (t.dev.ring r).phase = true)) ∧
    (∀ r : Fin 26, s.dev.admits i (ringOff r + 8) (setFld (s.dev.rd (ringOff r + 8)) 31 1 0) → ∃ t,
      exec (.ringDisable i r) s = .next t ∧ t.dev.ringEn r = false ∧ PortFrame [ringOff r + 8] s t ∧ t.dev.host = s.dev.host)

/-- FLT_RAISE (R408): a Keeper write with RAISE = 1 and SRC from 176 to 191 gives one raised occurrence of SRC; any other SRC is
discarded with RANGE; a write from another interface is discarded with RO. -/
def Obligations.FaultRaise : Prop :=
  ∀ (v : Word) (s : State), s.dev.top.ready = true → s.dev.blockReady 3 = true → fld v 9 23 = 0 →
    (bit v 8 = true → 176 ≤ fld v 0 8 → fld v 0 8 < 192 → s.dev.guardOf .keeper = none →
      ∃ t, exec (.faultRaise .keeper v) s = .next t ∧ t.pending = s.pending ∧
        (∃ r, t.dev.watch = { s.dev.watch with reached := s.dev.watch.reached ++ [r] } ∧ r.occ.src.val = fld v 0 8 ∧
          r.occ.forced = false ∧ r.occ.raised = true) ∧
        t.dev = { s.dev with regs := t.dev.regs, chk := t.dev.chk, watch := t.dev.watch } ∧ KeepsRegs [0x030020] s.dev t.dev) ∧
    ((fld v 0 8 < 176 ∨ 192 ≤ fld v 0 8) → s.dev.guardOf .keeper = none → bit (s.dev.rd 0x050004) 31 = false →
      ∃ t, exec (.faultRaise .keeper v) s = .next t ∧ t.dev.rd 0x030020 = s.dev.rd 0x030020 ∧ Reports 0 0 s.dev t.dev ∧
        t.dev.rdF 0x050004 24 3 = Reason.range.code) ∧
    (∀ i, i ≠ .keeper → s.dev.guardOf i = none → bit (s.dev.rd 0x050004) 31 = false →
      ∃ t, exec (.faultRaise i v) s = .next t ∧ t.dev.rd 0x030020 = s.dev.rd 0x030020 ∧ Reports 0 0 s.dev t.dev ∧
        t.dev.rdF 0x050004 24 3 = Reason.ro.code)

/-- Violations beyond 1,000 in a second are counted and reported to the Watch and are not logged; the others are logged (R71). The
seconds are those of AON time (log entry 60, DESIGN CHOICE). -/
def Obligations.ViolationLogLimit : Prop :=
  ∀ (i : Iface) (space off : Nat) (why : Reason) (wr : Bool) (v : Word) (d : Dev),
    Counts 0x050010 0 32 d (d.violate i space off why wr v) ∧ Reports 0 0 d (d.violate i space off why wr v) ∧
    (d.chk.logSecond = d.clk.aonUs / 1000000 → 1000 ≤ d.chk.logged →
      (d.violate i space off why wr v).host = d.host ∧ (d.violate i space off why wr v).bar4 = d.bar4) ∧
    (d.chk.logSecond ≠ d.clk.aonUs / 1000000 ∨ d.chk.logged < 1000 →
      ((d.violate i space off why wr v).ring 9).seq = (d.ring 9).seq + 1)

/-- The Keeper's own words: the command-queue doorbell, the consumer indices (R411), and the logbook port, with a value out of range
discarded. -/
def Obligations.KeeperQueueCommands : Prop :=
  ∀ (v : Word) (s : State),
    (s.dev.admitsKeeper 0x308800 → v.toNat < 16 → ∃ t, exec (.keeperCqDb .keeper v) s = .next t ∧ t.pending = s.pending ∧
      t.dev.keeper.cqDb = v.toNat ∧ t.dev.keeper.cqIdx = v.toNat ∧ t.dev.keeper.sup = s.dev.keeper.sup) ∧
    (s.dev.admitsKeeper 0x308810 → ciOk s.dev.keeper.evq 256 v.toNat = true → ∃ t, exec (.keeperEvqCi .keeper v) s = .next t ∧
      PortFrame [] s { t with dev := { t.dev with keeper := s.dev.keeper } } ∧
      t.dev.keeper = { s.dev.keeper with evq := { s.dev.keeper.evq with ci := v.toNat } }) ∧
    (s.dev.admitsKeeper 0x308814 → ciOk s.dev.keeper.anq 64 v.toNat = true → ∃ t, exec (.keeperAnqCi .keeper v) s = .next t ∧
      PortFrame [] s { t with dev := { t.dev with keeper := s.dev.keeper } } ∧
      t.dev.keeper = { s.dev.keeper with anq := { s.dev.keeper.anq with ci := v.toNat } }) ∧
    (s.dev.admitsKeeper 0x308818 → ciOk s.dev.keeper.flq 64 v.toNat = true → ∃ t, exec (.keeperFlqCi .keeper v) s = .next t ∧
      PortFrame [] s { t with dev := { t.dev with keeper := s.dev.keeper } } ∧
      t.dev.keeper = { s.dev.keeper with flq := { s.dev.keeper.flq with ci := v.toNat } }) ∧
    (s.dev.admitsKeeper 0x308810 → ciOk s.dev.keeper.evq 256 v.toNat = false → ∃ t, exec (.keeperEvqCi .keeper v) s = .next t ∧
      t.dev.keeper = s.dev.keeper ∧ Reports 0 0 s.dev t.dev) ∧
    (s.dev.admitsKeeper 0x30E01C → 0xC0 ≤ s.dev.rdF 0x30E000 0 8 → ∃ t, exec (.keeperLogbook .keeper v) s = .next t ∧
      t.pending = s.pending ∧ (t.dev.ring 9).seq = (s.dev.ring 9).seq + 1 ∧
      t.dev = { s.dev with regs := t.dev.regs, bar4 := t.dev.bar4, host := t.dev.host, chk := t.dev.chk } ∧
      EventFrame [] { s.dev with chk := t.dev.chk } t.dev)

/-- Reads: a register that passes steps 1 to 3 answers the enabled bytes of its view and changes nothing else, a 64-bit read of PCIe
those of two registers and a BAR4 read the bytes of BAR4 (R36, R38); TXTS_HEAD pops the oldest entry into the
holding set of the reading interface, TXTS_HOLDk reads word k of that set and leaves it, and a pop of an empty queue returns 0 with a
set of zeros and is counted (R256, R257); a doorbell offset of BAR2 answers the last accepted value (R40). -/
def Obligations.Reads : Prop :=
  (∀ (i : Iface) (off : BitVec 22) (s : State), off.toNat % 4 = 0 → off.toNat ≠ 0x208000 →
    s.dev.steps123 i off.toNat false = none → ∀ be : BitVec 8, exec (.registerRead i .word off be) s = .next { s with
      dev := s.dev.respond i none (laneBytes (s.dev.regView (ifaceIdx i) off.toNat) (be.toNat % 16)) }) ∧
  (∀ (off : BitVec 22) (be : BitVec 8) (s : State), off.toNat % 4 = 0 → off.toNat ≠ 0x208000 → off.toNat + 4 ≠ 0x208000 →
    s.dev.steps123 .pcie off.toNat false = none → s.dev.steps123 .pcie (off.toNat + 4) false = none →
    exec (.registerRead .pcie .wide off be) s = .next (s.withDev (s.dev.respond .pcie none
      (laneBytes (s.dev.regView 0 off.toNat) (be.toNat % 16) ++ laneBytes (s.dev.regView 0 (off.toNat + 4)) (be.toNat / 16))))) ∧
  (∀ (a : BitVec 22) (n : Nat) (be : BitVec 8) (s : State), a.toNat + n ≤ 262144 → exec (.registerRead .pcie (.bar4 n) a be) s = .next { s with
    dev := s.dev.respond .pcie none ((List.range n).map fun i => s.dev.bar4Get (a.toNat + i)) }) ∧
  (∀ (i : Iface) (e : TxtsEntry) (q : List TxtsEntry) (s : State), s.dev.steps123 i 0x208000 false = none →
    s.dev.txts.queue = e :: q → ∃ t, exec (.txtsPop i) s = .next t ∧ t.dev.txts.queue = q ∧ t.dev.txts.hold.get (ifaceIdx i) = e.words ∧
      (∀ j, j ≠ ifaceIdx i → t.dev.txts.hold.get j = s.dev.txts.hold.get j) ∧
      (t.dev.chk.ports.get (ifaceIdx i)).resp.data = wordBytes (wordAt e.words 0) ∧ t.pending = s.pending ∧
      t.dev = { s.dev with chk := t.dev.chk, txts := t.dev.txts }) ∧
  (∀ (i : Iface) (s : State), s.dev.steps123 i 0x208000 false = none → s.dev.txts.queue = [] →
    ∃ t, exec (.txtsPop i) s = .next t ∧ t.pending = s.pending ∧ t.dev.txts.queue = [] ∧
      t.dev.txts.hold.get (ifaceIdx i) = [0, 0, 0, 0] ∧ (∀ j, j ≠ ifaceIdx i → t.dev.txts.hold.get j = s.dev.txts.hold.get j) ∧
      (t.dev.chk.ports.get (ifaceIdx i)).resp.data = wordBytes 0 ∧ Counts 0x208024 0 16 s.dev t.dev ∧
      KeepsRegs [0x208024] s.dev t.dev ∧ t.dev = { s.dev with regs := t.dev.regs, chk := t.dev.chk, txts := t.dev.txts }) ∧
  (∀ (i : Iface) (k : Fin 4) (s : State), s.dev.steps123 i (0x208004 + 4 * k.val) false = none →
    exec (.registerRead i .word (BitVec.ofNat 22 (0x208004 + 4 * k.val)) 15) s = .next { s with
      dev := s.dev.respond i none (wordBytes (wordAt (s.dev.txts.hold.get (ifaceIdx i)) k)) }) ∧
  (∀ (r : Fin 26) (off : BitVec 22) (s : State), off.toNat = 8 * r.val → exec (.registerRead .pcie .bar2 off 15) s = .next { s with
    dev := s.dev.respond .pcie none (wordBytes (s.dev.ring r).db) })

/-! ### SPI -/

/-- `e` is the device after the words, written over SPI at ascending addresses, that all pass their checks. -/
def SpiBurst (addr : Nat) : List Word → Dev → Dev → Prop
  | [], d, e => e = d
  | v :: vs, d, e => d.admits .spi addr v ∧ ∃ r, regDesc addr = some r ∧ SpiBurst (addr + 4) vs (d.take addr r 0 v) e

/-- `e` is the device after the words, written over SPI at ascending addresses, each as a register write with the reason it records,
and `why` the first of those reasons (R309). -/
def SpiWords (addr : Nat) : List Word → Option Reason → Dev → Dev → Prop
  | [], why, d, e => e = d ∧ why = none
  | v :: vs, why, d, e => ∃ d' w w', d.busWrite .spi addr v 15 0 = (w, d') ∧ SpiWords (addr + 4) vs w' d' e ∧ why = firstWhy w w'

/-- BAR4 over SPI: the bytes read are those of BAR4; the bytes written read back, and every other byte reads as before; an access
beyond 256 KiB reaches no memory and stops. SPI register bursts, doorbells and early ends (R39, R309, R310): the words of a burst
are register writes in ascending order, whether or not they are accepted, with the first reason as the answer; a burst of one word is that register write, a read burst that passes the checks answers its
words in ascending order, an unlisted opcode is answered with UNIMPL and no data, a doorbell word does what a doorbell of its ring
does, and a transaction that ends early is counted and reported after what it moved in full. -/
def Obligations.SpiInterface : Prop :=
  (
  ∀ (addr : BitVec 24) (s : State),
    (∀ n : BitVec 8, addr.toNat + n.toNat + 1 ≤ 262144 → exec (.spiMemRead addr n) s = .next { s with
      dev := s.dev.respond .spi none ((List.range (n.toNat + 1)).map fun i => s.dev.bar4Get (addr.toNat + i)) }) ∧
    (∀ bs : List Byte, addr.toNat + bs.length ≤ 262144 → ∃ t, exec (.spiMemWrite addr bs) s = .next t ∧ t.pending = s.pending ∧
      (∀ i, i < bs.length → t.dev.bar4Get (addr.toNat + i) = bs.getD i 0) ∧
      (∀ a, (a < addr.toNat ∨ addr.toNat + bs.length ≤ a) → t.dev.bar4Get a = s.dev.bar4Get a) ∧
      t.dev = { s.dev with bar4 := t.dev.bar4, chk := t.dev.chk }) ∧
    (∀ n : BitVec 8, 262144 < addr.toNat + n.toNat + 1 → exec (.spiMemRead addr n) s = .fault (.noSuchMemory addr.toNat)) ∧
    (∀ bs : List Byte, 262144 < addr.toNat + bs.length → exec (.spiMemWrite addr bs) s = .fault (.noSuchMemory addr.toNat))) ∧
  (
  ∀ s : State,
    (∀ (addr : BitVec 24) (ws : List Word) (e : Dev), SpiBurst addr.toNat ws s.dev e →
      exec (.spiRegWrite addr ws) s = .next { s with dev := e.respond .spi none [] }) ∧
    (∀ (addr : BitVec 24) (ws : List Word), ∃ (e : Dev) (why : Option Reason), SpiWords addr.toNat ws why s.dev e ∧
      exec (.spiRegWrite addr ws) s = .next (s.withDev (e.respond .spi why []))) ∧
    (∀ (addr : BitVec 22) (v : Word), exec (.spiRegWrite (addr.setWidth 24) [v]) s = exec (.registerWrite .spi addr (.word v 0) 15) s) ∧
    (∀ (op : Byte) (n : BitVec 8), exec (.spiRegRead (.unknown op) n) s = .next { s with dev := s.dev.respond .spi (some .unimpl) [] }) ∧
    (∀ (r : Fin 26) (addr : BitVec 24) (v : Word), addr.toNat = 8 * r.val → exec (.spiDoorbell addr v) s = .next { s with
      dev := (s.dev.doorbellAt .spi r v.toNat).2.respond .spi (s.dev.doorbellAt .spi r v.toNat).1 [] }) ∧
    (∀ p : SpiPart, (partSpan p).1 + (partSpan p).2 ≤ 262144 → ∃ t, exec (.spiTimeout p) s = .next t ∧
      exec (.spiCsRelease p) s = .next t ∧ t.pending = s.pending ∧ Counts 0x2C0018 16 16 (s.dev.spiPart p).2 t.dev ∧
      Reports 26 0 (s.dev.spiPart p).2 t.dev ∧
      t.dev = { (s.dev.spiPart p).2 with regs := t.dev.regs, chk := t.dev.chk, watch := t.dev.watch } ∧
      KeepsRegs [0x2C0018] (s.dev.spiPart p).2 t.dev) ∧
    (∀ p : SpiPart, 262144 < (partSpan p).1 + (partSpan p).2 →
      exec (.spiTimeout p) s = .fault (.noSuchMemory (partSpan p).1) ∧ exec (.spiCsRelease p) s = .fault (.noSuchMemory (partSpan p).1)) ∧
    (∀ (addr : BitVec 24) (n : BitVec 8), addr.toNat % 4 = 0 →
      (∀ k, k ≤ n.toNat → addr.toNat + 4 * k ≠ 0x208000 ∧ s.dev.steps123 .spi (addr.toNat + 4 * k) false = none) →
      exec (.spiRegRead (.regs addr) n) s = .next { s with
        dev := s.dev.respond .spi none
          ((List.range (n.toNat + 1)).flatMap fun k => wordBytes (s.dev.regView 1 (addr.toNat + 4 * k))) }) ∧
    (∀ (r : Fin 26) (addr : BitVec 24) (v : Word), addr.toNat = 8 * r.val → s.dev.host.resetCause = none →
      doorbellOk r v.toNat = true → s.dev.ringEn r = false → ∃ t, exec (.spiDoorbell addr v) s = .next t ∧ t.pending = s.pending ∧
        t.dev.ring r = { s.dev.ring r with db := v } ∧ (∀ q, q ≠ r → t.dev.ring q = s.dev.ring q) ∧
        t.dev = { s.dev with host := t.dev.host, chk := t.dev.chk }) ∧
    (∃ t, exec (.spiTimeout .nothing) s = .next t ∧ Counts 0x2C0018 16 16 s.dev t.dev ∧ Reports 26 0 s.dev t.dev ∧
      t.dev = { s.dev with regs := t.dev.regs, chk := t.dev.chk, watch := t.dev.watch }) ∧
    (∀ (a : BitVec 24) (bs : List Byte), a.toNat + bs.length ≤ 262144 → ∃ t, exec (.spiCsRelease (.memWrite a bs)) s = .next t ∧
      Counts 0x2C0018 16 16 s.dev t.dev ∧ Reports 26 0 s.dev t.dev ∧
      (∀ i, i < bs.length → t.dev.bar4Get (a.toNat + i) = bs.getD i 0) ∧
      (∀ x, (x < a.toNat ∨ a.toNat + bs.length ≤ x) → t.dev.bar4Get x = s.dev.bar4Get x)))

/-! ### Rings and the host-interface reset -/

/-- Doorbells (R39, R313, R314): an accepted index of an enabled host-filled ring offers its entries; that of a disabled ring is
kept and does nothing; an index beyond the ring halts it with its error; a value that fails R39 changes no ring. Fetches
(R318, R319): an error response halts the ring with code 3; descriptors that arrive move a command ring on; an external block
is kept for its command, waits while the device may issue no request, and ends NOT_DONE or TIMEOUT at an error response or a
time-out; a command stopped after 10 s ends TIMEOUT with its progress. -/
def Obligations.DoorbellsAndFetches : Prop :=
  (
  ∀ (r : Fin 26) (off : BitVec 12) (v : BitVec 64) (s : State), off.toNat = 8 * r.val → s.dev.host.resetCause = none →
    (doorbellOk r v.toNat = true → s.dev.ringEn r = false → ∃ t, exec (.doorbellWrite off true v) s = .next t ∧
      t.pending = s.pending ∧ t.dev.ring r = { s.dev.ring r with db := word (v.toNat % 4294967296) } ∧
      (∀ q, q ≠ r → t.dev.ring q = s.dev.ring q) ∧ t.dev = { s.dev with host := t.dev.host }) ∧
    (doorbellOk r v.toNat = true → s.dev.ringEn r = true → (s.dev.ring r).err = false → s.dev.top.ready = true →
      s.dev.blockReady 14 = true → deviceFilled r = false → v.toNat % 65536 < s.dev.ringSize r → ∃ t,
      exec (.doorbellWrite off true v) s = .next t ∧ (t.dev.ring r).use = v.toNat % 65536 ∧
      (∀ q, q ≠ r → t.dev.ring q = s.dev.ring q) ∧ t.dev = { s.dev with host := t.dev.host }) ∧
    (doorbellOk r v.toNat = true → s.dev.ringEn r = true → (s.dev.ring r).err = false → s.dev.top.ready = true →
      s.dev.blockReady 14 = true → s.dev.ringSize r ≤ v.toNat % 65536 → ∃ t, exec (.doorbellWrite off true v) s = .next t ∧
      (t.dev.ring r).err = true ∧ (t.dev.ring r).errCode = 1 ∧ Reports 25 r s.dev t.dev) ∧
    (doorbellOk r v.toNat = false → ∃ t, exec (.doorbellWrite off true v) s = .next t ∧ (t.dev.ring r).use = (s.dev.ring r).use ∧
      (t.dev.ring r).db = (s.dev.ring r).db ∧ Reports 0 0 s.dev t.dev)) ∧
  (
  ∀ s : State,
    (∀ r : Fin 26, s.dev.fetchOpen r = true → s.dev.fetchable r ≠ 0 → s.dev.ringBar4 r = false → ∃ t,
      exec (.descriptorFetch r .error) s = .next t ∧ t.pending = s.pending ∧ (t.dev.ring r).err = true ∧
      (t.dev.ring r).errCode = 3 ∧ (t.dev.ring r).fetched = (s.dev.ring r).fetched ∧ Reports 25 r s.dev t.dev) ∧
    (∀ (r : Fin 26) (l : List (List Word)), r.val < 4 → s.dev.fetchOpen r = true → s.dev.fetchable r ≠ 0 → s.dev.ringBar4 r = false →
      l ≠ [] → ∃ t, exec (.descriptorFetch r (.data l)) s = .next t ∧ t.pending = s.pending ∧
        (t.dev.ring r).devIdx = ((s.dev.ring r).devIdx + min (s.dev.fetchable r) l.length) % s.dev.ringSize r ∧
        (t.dev.ring r).lastFetched = some (BitVec.ofNat 16
          (((s.dev.ring r).devIdx + (min (s.dev.fetchable r) l.length - 1)) % s.dev.ringSize r))) ∧
    (∀ (r : Fin 26) (res : Fetch (List (List Word))) (n : Nat), s.dev.fetchOpen r = true →
      n = (if s.dev.ringBar4 r then s.dev.fetchable r else match res with
        | .data l => min (s.dev.fetchable r) l.length
        | .error => 0) → n ≠ 0 → ∃ t, exec (.descriptorFetch r res) s = .next t ∧ t.pending = s.pending ∧
        (t.dev.ring r).devIdx = ((s.dev.ring r).devIdx + n) % s.dev.ringSize r ∧
        (t.dev.ring r).lastFetched = some (BitVec.ofNat 16 (((s.dev.ring r).devIdx + (n - 1)) % s.dev.ringSize r))) ∧
    (∀ (src : CmdSrc) (e : Nat × List Word) (l : List Word), s.dev.extHead src = some e → bit (wordAt e.2 2) 0 = false →
      s.dev.dmaOpen = true → exec (.extBlockFetch src (.data l)) s = .next { s with dev := { s.dev with host := { s.dev.host with
        ext := s.dev.host.ext.set (srcIdx src) (some ((List.range (descExtLen e.2 / 4)).map (wordAt l))) } } }) ∧
    (∀ (src : CmdSrc) (e : Nat × List Word), s.dev.extHead src = some e → bit (wordAt e.2 2) 0 = false →
      s.dev.dmaOpen = true → exec (.extBlockFetch src .error) s = .next { s with dev := (s.dev.retireHead src e .notDone).retireBad 16 src }) ∧
    (∀ (src : CmdSrc) (e : Nat × List Word) (res : Fetch (List Word)), s.dev.extHead src = some e → bit (wordAt e.2 2) 0 = true →
      (wordAt e.2 2).toNat / 8 * 8 + (wordAt e.2 3).toNat * 4294967296 + descExtLen e.2 ≤ 262144 →
      exec (.extBlockFetch src res) s = .next (s.withDev (s.dev.modHost fun h => { h with
        ext := h.ext.set (srcIdx src) (some (bytesWords (s.dev.bar4Read
          ((wordAt e.2 2).toNat / 8 * 8 + (wordAt e.2 3).toNat * 4294967296) (descExtLen e.2)))) }))) ∧
    (∀ (src : CmdSrc) (e : Nat × List Word) (res : Fetch (List Word)), s.dev.extHead src = some e → bit (wordAt e.2 2) 0 = false →
      s.dev.dmaOpen = false → exec (.extBlockFetch src res) s = .next s) ∧
    (∀ (src : CmdSrc) (e : Nat × List Word), s.dev.extHead src = some e →
      exec (.extBlockTimeout src) s = .next { s with dev := (s.dev.retireHead src e .timeout).retireBad 16 src }) ∧
    (∀ (src : CmdSrc) (p : InProg), s.dev.host.busy.get (srcIdx src) = some p → noSafePoint p.op.toNat = false →
      p.out = none → ∃ t, exec (.commandTimeout src) s = .next t ∧ t.pending = s.pending ∧
      ((∀ q, src = .cq q → s.dev.ringOpen (crRing q) = true) → t.dev.host.busy.get (srcIdx src) = none) ∧
      t.dev = (s.dev.unhold src).complete src p (.timeout (s.dev.progressOf p))))

/-- An entry that the device writes to a ring in BAR4 lands at its device index, at the address of R311, with the phase in bit 31
of its first word; every byte outside it reads as before, and the index moves on by one modulo the ring size. The end of a
command (R319): where its completion ring has a returned slot, its source is free again, its completion is the entry of that
ring and its ring index is the last retired; else it has ended and waits, or stands for the recovery record of the host-interface
reset in progress (R334). -/
def Obligations.RingEntriesAndCompletions : Prop :=
  (
  ∀ (r : Fin 26) (e : List Byte) (d : Dev),
    (d.ringStore r e).ring r = { d.ring r with
      devIdx := ((d.ring r).devIdx + 1) % d.ringSize r,
      phase := if ((d.ring r).devIdx + 1) % d.ringSize r = 0 then !(d.ring r).phase else (d.ring r).phase } ∧
    (∀ a, (a < d.entryAddr r (d.ring r).devIdx ∨ d.entryAddr r (d.ring r).devIdx + e.length ≤ a) →
      (d.ringStore r e).bar4Get a = d.bar4Get a) ∧
    (d.ringBar4 r = true → d.entryAddr r (d.ring r).devIdx + e.length ≤ 262144 →
      ∀ i, i < e.length → (d.ringStore r e).bar4Get (d.entryAddr r (d.ring r).devIdx + i) = (withPhase (d.ring r).phase e).getD i 0) ∧
    (d.ringBar4 r = false → (d.ringStore r e).bar4 = d.bar4)) ∧
  (
  ∀ (q : Fin 4) (p : InProg) (o : CmdOut) (d : Dev),
    ((d.completeOne (.cq q) p o).ring (cqRing q)).fetched = (d.ring (cqRing q)).fetched ∧
    (d.ringOpen (crRing q) = true →
      (d.completeOne (.cq q) p o).host.busy.get (srcIdx (.cq q)) = none ∧
      ((d.completeOne (.cq q) p o).ring (cqRing q)).lastRetired = some p.index ∧
      ((d.completeOne (.cq q) p o).ring (crRing q)).devIdx = ((d.ring (crRing q)).devIdx + 1) % d.ringSize (crRing q) ∧
      (d.ringBar4 (crRing q) = true → d.entryAddr (crRing q) (d.ring (crRing q)).devIdx + 16 ≤ 262144 → ∀ i, i < 16 →
        (d.completeOne (.cq q) p o).bar4Get (d.entryAddr (crRing q) (d.ring (crRing q)).devIdx + i) =
          (withPhase (d.ring (crRing q)).phase (completionBytes p o)).getD i 0)) ∧
    (d.ringOpen (crRing q) = false → (d.completeOne (.cq q) p o).bar4 = d.bar4 ∧
      (d.host.resetCause = none →
        (d.completeOne (.cq q) p o).host.busy.get (srcIdx (.cq q)) = some { p with out := some o } ∧
        (d.completeOne (.cq q) p o).ring (cqRing q) = d.ring (cqRing q)) ∧
      (d.host.resetCause.isSome = true →
        (d.completeOne (.cq q) p o).host.busy.get (srcIdx (.cq q)) = none ∧
        (d.completeOne (.cq q) p o).host.ip.get q = some ({ p with progress := o.progress }, o.status))))

/-- Interrupts and the host-interface reset (R329, R331 to R334, R420): the end of an ITR interval sends what waits, or keeps it
pending where its vector is masked, and drops it where its condition has gone; a PCIe reset clears the function and starts a
host-interface reset, whose commands with a safe point end and are recorded ABORTED; the recovery record, once no command is in
progress, is written for each command ring and ends the reset with every ring disabled, numbering on, and HOSTIF ready again; the
configuration of PCIe (its layout is that of log entry 68, PRESUMED). -/
def Obligations.InterruptsAndHostReset : Prop :=
  ∀ s : State,
    (∀ r : Fin 26, (s.dev.ring r).itrWait = true → s.dev.irqBit r = true → ∃ t, exec (.itrExpiry r) s = .next t ∧
      t.pending = s.pending ∧ t.dev.ring r = { s.dev.ring r with signalled := some s.dev.clk.aonUs, itrWait := false } ∧
      (∀ q, q ≠ r → t.dev.ring q = s.dev.ring q) ∧
      (s.dev.vectorOpen (s.dev.rdF (ringOff r + 8) 8 6) = true → t.dev.host = { s.dev.host with
        rings := t.dev.host.rings, signals := s.dev.host.signals ++ [BitVec.ofNat 6 (s.dev.rdF (ringOff r + 8) 8 6)] }) ∧
      (s.dev.vectorOpen (s.dev.rdF (ringOff r + 8) 8 6) = false → t.dev.host = { s.dev.host with
        rings := t.dev.host.rings, pending := s.dev.host.pending ||| BitVec.ofNat 64 (2 ^ s.dev.rdF (ringOff r + 8) 8 6) }) ∧
      t.dev = { s.dev with host := t.dev.host }) ∧
    (∀ r : Fin 26, (s.dev.ring r).itrWait = true → s.dev.irqBit r = false → ∃ t, exec (.itrExpiry r) s = .next t ∧
      t.pending = s.pending ∧ t.dev.ring r = { s.dev.ring r with itrWait := false } ∧ (∀ q, q ≠ r → t.dev.ring q = s.dev.ring q) ∧
      t.dev = { s.dev with host := { s.dev.host with rings := t.dev.host.rings } }) ∧
    (∀ flr : Bool, ∃ t, exec (.pcieReset flr) s = .next t ∧
      t.pending = s.pending ∧ t.dev.host.busMaster = false ∧ t.dev.host.msixOn = false ∧ t.dev.host.msixMask = false ∧
      t.dev.host.mps = 0 ∧ t.dev.host.mrrs = 2 ∧ t.dev.host.msix = [] ∧ t.dev.host.pending = 0 ∧
      t.dev.host.pcieUp = (flr && s.dev.host.pcieUp) ∧ t.dev.clk = s.dev.clk ∧ t.dev.chans = s.dev.chans ∧ t.dev.outs = s.dev.outs ∧
      (s.dev.host.resetCause = none → s.dev.top.ready = true →
        t.dev.host.resetCause = some (if flr then 2 else 1, s.dev.stamp) ∧ t.dev.blockReady 14 = false ∧
        t.dev.host.resets = s.dev.host.resets + 1 ∧
        (∀ (q : Fin 4) (p : InProg), s.dev.host.busy.get (srcIdx (.cq q)) = some p → p.out = none → noSafePoint p.op.toNat = false →
          t.dev.host.busy.get (srcIdx (.cq q)) = none ∧
            t.dev.host.ip.get q = some ({ p with progress := s.dev.progressOf p }, 7)) ∧
        (∀ q : Fin 4, s.dev.host.busy.get (srcIdx (.cq q)) = none → t.dev.host.ip.get q = none)) ∧
      (s.dev.host.resetCause.isSome = true ∨ s.dev.top.ready = false →
        t.dev = { s.dev with host := t.dev.host } ∧ t.dev.host.resetCause = s.dev.host.resetCause)) ∧
    (∀ c : Byte × Stamp, s.dev.host.resetCause = some c → (∀ q : Fin 4, s.dev.host.busy.get (srcIdx (.cq q)) = none) → ∃ t,
      exec .recoveryRecord s = .next t ∧ t.pending = s.pending ∧ t.dev.host.resetCause = none ∧ t.dev.blockReady 14 = true ∧
      t.dev.host.stalled = [] ∧
      (∀ r : Fin 26, t.dev.ringEn r = false ∧ t.dev.ring r = { Ring.reset with seq := (s.dev.ring r).seq, lost := (s.dev.ring r).lost }) ∧
      (∀ (q : Fin 4) (k : Nat), k < 8 → t.dev.rd (0x2C0100 + 0x20 * q.val + 4 * k) = wordAt (bytesWords (s.dev.recoveryBytes q c.1
        (s.dev.ringEn (cqRing q) && (s.dev.ringBar4 (cqRing q) || s.dev.dmaOpen)) c.2)) k) ∧
      t.dev = { s.dev with regs := t.dev.regs, bar4 := t.dev.bar4, top := t.dev.top, host := t.dev.host, ports := t.dev.ports }) ∧
    (∀ (q : Fin 4) (p : InProg), s.dev.host.busy.get (srcIdx (.cq q)) = some p → exec .recoveryRecord s = .next s) ∧
    (s.dev.top.ready = true → s.dev.host.pcieUp = true →
      (∃ t, exec (.pcieConfigRequest false .id) s = .next t ∧ t.pending = s.pending ∧ t.dev = { s.dev with chk := t.dev.chk } ∧
        (t.dev.chk.ports.get 0).resp = ⟨leBytes 4 (0x7512 * 65536 + Config.vendorId.toNat), 0, false, false⟩) ∧
      (∀ r : CfgReg, ∃ t, exec (.pcieConfigRequest false r) s = .next t ∧ t.dev = { s.dev with chk := t.dev.chk } ∧
        (t.dev.chk.ports.get 0).resp.data = leBytes (match r with | .bar .. => 8 | _ => 4) (s.dev.cfgWord r).toNat) ∧
      (∃ t, exec (.pcieConfigRequest true (.command true)) s = .next t ∧ t.pending = s.pending ∧ t.dev.host.busMaster = true ∧
        t.dev.host.posted = s.dev.host.posted ++ s.dev.host.stalled ∧ t.dev.host.stalled = [] ∧
        t.dev = { s.dev with chk := t.dev.chk, host := t.dev.host }) ∧
      (∃ t, exec (.pcieConfigRequest true (.command false)) s = .next t ∧ t.pending = s.pending ∧
        t.dev = { s.dev with chk := t.dev.chk, host := { s.dev.host with busMaster := false } }) ∧
      (∀ (k : Fin 3) (v : BitVec 64), ∃ t, exec (.pcieConfigRequest true (.bar k v)) s = .next t ∧ t.pending = s.pending ∧
        t.dev.host.bars = s.dev.host.bars.set k (BitVec.ofNat 64 (v.toNat / barSize k * barSize k)) ∧
        t.dev = { s.dev with chk := t.dev.chk, host := t.dev.host }) ∧
      (∀ on mask : Bool, ∃ t, exec (.pcieConfigRequest true (.msixControl on mask)) s = .next t ∧ t.pending = s.pending ∧
        t.dev.host.msixOn = on ∧ t.dev.host.msixMask = mask ∧ t.dev = { s.dev with chk := t.dev.chk, host := t.dev.host } ∧
        (∀ v : Fin 64, s.dev.host.pending.getLsbD v = true → t.dev.vectorOpen v = true →
          BitVec.ofNat 6 v.val ∈ t.dev.host.signals ∧ t.dev.host.pending.getLsbD v = false)) ∧
      (∀ mps mrrs : Fin 3, ∃ t, exec (.pcieConfigRequest true (.deviceControl mps mrrs)) s = .next t ∧ t.pending = s.pending ∧
        t.dev.host.mps = mps ∧ t.dev.host.mrrs = mrrs ∧ t.dev = { s.dev with chk := t.dev.chk, host := t.dev.host })) ∧
    (∀ w q, s.dev.host.pcieUp = true → s.dev.top.ready = false → ∃ t, exec (.pcieConfigRequest w q) s = .next t ∧
      t.pending = s.pending ∧ t.dev = { s.dev with chk := t.dev.chk } ∧ (t.dev.chk.ports.get 0).resp = ⟨[], 0, false, true⟩) ∧
    (s.dev.host.training = true → exec .pcieLinkUp s = .next { s with
      dev := { s.dev with host := { s.dev.host with training := false, pcieUp := true } } })

/-! ### The Watch and the Keeper -/

/-- Counting of one occurrence (R391, R392, R404): a blanked one counts BLANKED only, one of a source that is not enabled OCCUR only; else
OCCUR and COUNT go up and COUNT = N is severe, with the sets of reset or any other of LOG, EVENT, IRQ, ALARM and DEVICE_RESET, an
ALARM starting its pulse and a DEVICE_RESET waiting for its reset; with a set that names no reaction nothing else happens. All
occurrences of a cycle are counted, by source, before their reactions act (R405). -/
def Obligations.WatchCountsOneOccurrence : Prop :=
  (∀ (extra : List Occ) (l : List Counted) (e : Dev) (s : State),
    Dev.countAll (bySource (s.dev.watch.reached ++ extra.map fun o => s.dev.reaches o false))
      (s.dev.modWatch fun w => { w with reached := [] }) = (l, e) →
    exec (.faultOccurrence extra) s = .next (s.withDev (e.react l))) ∧
  ∀ (x : Reached) (s : State), s.dev.watch.reached = [x] →
    (x.blanked = true → ∃ t, exec (.faultOccurrence []) s = .next t ∧ t.pending = s.pending ∧
      Counts (fltOff x.occ.src + 0x18) 0 16 s.dev t.dev ∧ t.dev.watch = { s.dev.watch with reached := [] } ∧
      t.dev = { s.dev with regs := t.dev.regs, watch := t.dev.watch } ∧ KeepsRegs [fltOff x.occ.src + 0x18] s.dev t.dev) ∧
    (x.blanked = false → s.dev.rdF (fltOff x.occ.src) 31 1 = 0 → ∃ t, exec (.faultOccurrence []) s = .next t ∧
      Counts (fltOff x.occ.src + 0x14) 0 32 s.dev t.dev ∧ t.dev.source x.occ.src = s.dev.source x.occ.src ∧
      t.dev = { s.dev with regs := t.dev.regs, watch := t.dev.watch }) ∧
    (x.blanked = false → s.dev.rdF (fltOff x.occ.src) 31 1 = 1 → s.dev.rdF (fltOff x.occ.src) 22 9 = 0 →
      s.dev.rdF (fltOff x.occ.src) 13 9 = 0 → ∃ t, exec (.faultOccurrence []) s = .next t ∧ t.pending = s.pending ∧
        Counts (fltOff x.occ.src + 0x14) 0 32 s.dev t.dev ∧
        (t.dev.source x.occ.src).count = min ((s.dev.source x.occ.src).count + 1) (s.dev.fltN x.occ.src) ∧
        ((t.dev.source x.occ.src).severe = true ↔ ((s.dev.source x.occ.src).severe = true ∨
          min ((s.dev.source x.occ.src).count + 1) (s.dev.fltN x.occ.src) = s.dev.fltN x.occ.src)) ∧
        (min ((s.dev.source x.occ.src).count + 1) (s.dev.fltN x.occ.src) = s.dev.fltN x.occ.src →
          Counts (fltOff x.occ.src + 0x18) 16 16 s.dev t.dev) ∧
        t.dev.watch.last = b8 x.occ.src ∧ (∀ n, n ≠ x.occ.src → t.dev.source n = s.dev.source n) ∧
        t.dev = { s.dev with regs := t.dev.regs, watch := t.dev.watch }) ∧
    (x.blanked = false → s.dev.rdF (fltOff x.occ.src) 31 1 = 1 → s.dev.rdF (fltOff x.occ.src) 26 4 = 0 →
      s.dev.rdF (fltOff x.occ.src) 17 4 = 0 → ∃ t, exec (.faultOccurrence []) s = .next t ∧ t.pending = s.pending ∧
        Counts (fltOff x.occ.src + 0x14) 0 32 s.dev t.dev ∧
        (t.dev.source x.occ.src).count = min ((s.dev.source x.occ.src).count + 1) (s.dev.fltN x.occ.src) ∧
        ((t.dev.source x.occ.src).severe = true ↔ ((s.dev.source x.occ.src).severe = true ∨
          min ((s.dev.source x.occ.src).count + 1) (s.dev.fltN x.occ.src) = s.dev.fltN x.occ.src)) ∧
        t.dev.watch.last = b8 x.occ.src ∧ (∀ n, n ≠ x.occ.src → t.dev.source n = s.dev.source n) ∧
        (min ((s.dev.source x.occ.src).count + 1) (s.dev.fltN x.occ.src) = s.dev.fltN x.occ.src →
          (s.dev.rdF (fltOff x.occ.src) 25 1 = 1 → t.dev.watch.pulseTo = some (s.dev.clk.aonUs + s.dev.rdF 0x030000 10 17)) ∧
          (s.dev.rdF (fltOff x.occ.src) 30 1 = 1 → t.dev.watch.resetPending.isSome = true)) ∧
        (min ((s.dev.source x.occ.src).count + 1) (s.dev.fltN x.occ.src) ≠ s.dev.fltN x.occ.src →
          (s.dev.rdF (fltOff x.occ.src) 16 1 = 1 → t.dev.watch.pulseTo = some (s.dev.clk.aonUs + s.dev.rdF 0x030000 10 17)) ∧
          (s.dev.rdF (fltOff x.occ.src) 21 1 = 1 → t.dev.watch.resetPending.isSome = true)) ∧
        t.dev.clk = s.dev.clk ∧ t.dev.chans = s.dev.chans ∧ t.dev.outs = s.dev.outs ∧ t.dev.otp = s.dev.otp)

/-- The timers of the Watch and the return of a reset block (R391, R397, R404, R107, R163, R276). -/
def Obligations.WatchTimers : Prop :=
  ∀ s : State,
    (∀ n : Fin 192, (s.dev.source n).count ≠ 0 → ∃ t, exec (.leakExpiry n) s = .next t ∧ t.pending = s.pending ∧
      t.dev.source n = { s.dev.source n with
        count := (s.dev.source n).count - 1, severe := (s.dev.source n).severe && (s.dev.source n).count ≠ 1,
        leakAt := s.dev.clk.aonUs + s.dev.fltPeriod n } ∧
      (∀ k, k ≠ n → t.dev.source k = s.dev.source k) ∧ t.dev = { s.dev with watch := t.dev.watch }) ∧
    (exec .alarmPulseEnd s = .next { s with dev := { s.dev with watch := { s.dev.watch with pulseTo := none } } }) ∧
    (∀ n : Fin 192, (s.dev.source n).blankTo.isSome = true → ∃ t, exec (.blankingEnd n) s = .next t ∧ t.pending = s.pending ∧
      t.dev.source n = { s.dev.source n with blankTo := none, rose := false } ∧
      (isLevel n = true → (s.dev.source n).cond = true → (s.dev.source n).rose = true →
        ∃ r, t.dev.watch.reached = s.dev.watch.reached ++ [r] ∧ r.occ.src = n ∧ r.blankEnd = true ∧ r.blanked = false) ∧
      ((isLevel n && (s.dev.source n).cond && (s.dev.source n).rose) = false → t.dev.watch.reached = s.dev.watch.reached) ∧
      t.dev = { s.dev with watch := t.dev.watch }) ∧
    (∀ b : Fin 17, s.dev.top.ready = true → s.dev.blockReady b = false → (b = 6 ∨ b = 8 ∨ b = 12) → ∃ t,
      exec (.blockReadyReturn b) s = .next t ∧ t.pending = s.pending ∧ t.dev.blockReady b = true ∧
      (∀ k : Fin 17, k ≠ b → t.dev.blockReady k = s.dev.blockReady k) ∧
      (b = 6 → t.dev = { s.dev with top := t.dev.top }) ∧
      (b = 12 → t.dev = { s.dev with top := t.dev.top, watch := t.dev.watch } ∧ (t.dev.source 146).cond = t.dev.overload))

/-- Keeper supervision (R22, R25, Table 1-5): every expiry of a running Keeper is counted and reported, discards the commands of its queue
that were not accepted, and reverts a trial; it takes the Keeper to AUTOPILOT and starts it again, with an autopilot run, or halts
it where it is the third in a row; the trial that runs out of its window reverts. -/
def Obligations.KeeperSupervision : Prop :=
  ∀ s : State,
    (s.dev.keeper.sup.running = true → ∃ (t : State) (e : Dev), exec .watchdogExpiry s = .next t ∧ t.pending = s.pending ∧
      Counts 0x300104 16 16 s.dev e ∧ (∃ r ∈ e.watch.reached, r.occ = ⟨1, 0, false, false⟩) ∧
      e.keeper.cqFetched = [] ∧ e.keeper.cqIdx = s.dev.keeper.cqDb ∧
      e.keeper.sup.stallRun = (if s.dev.keeper.sup.stallRun = 3 then 3 else s.dev.keeper.sup.stallRun + 1) ∧
      e.chans = s.dev.chans ∧ e.clk = s.dev.clk ∧ e.otp = s.dev.otp ∧ e.outs = s.dev.outs ∧
      (s.dev.fw.state = .trial → e.fw.state = .idle ∧ e.fw.activate = none ∧ e.top.slotB = (!s.dev.top.slotB)) ∧
      (s.dev.fw.state ≠ .trial → e.fw = { s.dev.fw with reverted := e.fw.reverted } ∧ e.top = s.dev.top) ∧
      (s.dev.keeper.sup.ap ≠ .normal → s.dev.keeper.sup.stallRun = 2 → t.dev = e ∧ e.keeper.sup.ap = .halted ∧
        e.keeper.sup.running = false) ∧
      ((s.dev.keeper.sup.ap = .normal ∨ s.dev.keeper.sup.stallRun ≠ 2) → t.dev = e.autopilotAll ∧ e.keeper.sup.ap = .autopilot ∧
        e.keeper.sup.running = true ∧ e.keeper.sup.kicked = false ∧ e.keeper.sup.wdtAt = s.dev.clk.aonUs + 2000000)) ∧
    (s.dev.keeper.sup.running = true → (s.dev.keeper.sup.ap = .normal ∨ s.dev.keeper.sup.stallRun ≠ 2) → ∃ t,
      exec .watchdogExpiry s = .next t ∧ t.pending = s.pending ∧ t.dev.keeper.sup.ap = .autopilot ∧
      t.dev.keeper.sup.running = true ∧ t.dev.keeper.sup.kicked = false ∧ t.dev.keeper.sup.wdtAt = s.dev.clk.aonUs + 2000000 ∧
      t.dev.keeper.sup.stallRun = (if s.dev.keeper.sup.stallRun = 3 then 3 else s.dev.keeper.sup.stallRun + 1) ∧
      t.dev.clk = s.dev.clk ∧ t.dev.ports = s.dev.ports ∧ t.dev.otp = s.dev.otp) ∧
    (s.dev.keeper.sup.running = true → s.dev.keeper.sup.ap ≠ .normal → s.dev.keeper.sup.stallRun = 2 → ∃ t,
      exec .watchdogExpiry s = .next t ∧ t.dev.keeper.sup.ap = .halted ∧ t.dev.keeper.sup.running = false ∧
      t.dev.keeper.sup.stallRun = 3 ∧ (t.dev.source 2).cond = true ∧ Counts 0x300104 16 16 s.dev t.dev ∧
      t.dev.chans = s.dev.chans ∧ t.dev.outs = s.dev.outs) ∧
    (s.dev.fw.state = .trial → ∃ t, exec .trialTimeout s = .next t ∧ t.pending = s.pending ∧ t.dev.fw.state = .idle ∧
      t.dev.fw.stage = 0 ∧ t.dev.fw.activate = none ∧ t.dev.top.slotB = (!s.dev.top.slotB) ∧ t.dev.keeper.sup.running = true ∧
      Counts 0x300110 16 8 s.dev t.dev ∧ t.dev.fw.flash = s.dev.fw.flash)

/-- Sensors, OTP programming and debug (R413, R424 to R426). -/
def Obligations.SensorsOtpAndDebug : Prop :=
  ∀ s : State,
    (∀ r : SensorReadings, ∃ t, exec (.sensorSample r) s = .next t ∧ t.pending = s.pending ∧
      t.dev.pwr = { s.dev.pwr with tjMax := t.dev.pwr.tjMax } ∧ t.dev = { s.dev with regs := t.dev.regs, pwr := t.dev.pwr } ∧
      (∀ k : Fin 8, r.temps.getD k none = none → t.dev.rdF (0x300200 + 4 * k.val) 31 1 = 0) ∧
      (∀ (k : Fin 12) (v : Nat), r.rails.getD k none = some v → t.dev.rd (0x300240 + 4 * k.val) = word (2147483648 + v % 65536)) ∧
      (∀ k : Fin 12, r.rails.getD k none = none → t.dev.rdF (0x300240 + 4 * k.val) 31 1 = 0) ∧
      (∀ v : Nat, r.xoAmp = some v → t.dev.rd 0x300280 = word (2147483648 + v % 65536)) ∧
      (r.xoAmp = none → t.dev.rdF 0x300280 31 1 = 0)) ∧
    (∀ (r : SensorReadings) (k : Fin 8) (v : Int), r.temps.getD k none = some v → ∃ t, exec (.sensorSample r) s = .next t ∧
      t.pending = s.pending ∧ t.dev.rd (0x300200 + 4 * k.val) = word (2147483648 + twos 16 v % 65536) ∧ v ≤ t.dev.pwr.tjMax ∧
      t.dev.pwr = { s.dev.pwr with tjMax := t.dev.pwr.tjMax } ∧ t.dev = { s.dev with regs := t.dev.regs, pwr := t.dev.pwr }) ∧
    (∀ (k : Fin 3) (h : List Byte), s.dev.otp.busy = some (.enroll k h) → exec .otpProgramDone s = .next { s with dev := { s.dev with
      otp := { s.dev.otp with keys := s.dev.otp.keys.set k (.active, h), busy := none } } }) ∧
    (∀ k : Fin 3, s.dev.otp.busy = some (.revoke k) → ∃ t, exec .otpProgramDone s = .next t ∧ t.pending = s.pending ∧
      (t.dev.otp.keys.get k).1 = .revoked ∧ (∀ j, j ≠ k → t.dev.otp.keys.get j = s.dev.otp.keys.get j) ∧ t.dev.otp.busy = none ∧
      t.dev = { s.dev with otp := t.dev.otp }) ∧
    (s.dev.otp.busy = some .lockUp → exec .otpProgramDone s = .next { s with dev := { s.dev with
      otp := { s.dev.otp with debugLevel := min (s.dev.otp.debugLevel + 1) 2, busy := none } } }) ∧
    (s.dev.otp.readOut = true → s.dev.otp.debugLevel = 1 → ∃ t, exec .debugChallengeRead s = .next t ∧ t.pending = s.pending ∧
      t.dev.otp = { s.dev.otp with challenge := some s.dev.otp.draws, draws := s.dev.otp.draws + 1 } ∧
      (t.dev.chk.ports.get 3).resp.data = Config.challenge s.dev.otp.draws ∧
      t.dev = { s.dev with otp := t.dev.otp, chk := t.dev.chk }) ∧
    (∀ (key sig : List Byte) (n : Nat), s.dev.otp.challenge = some n → ∃ t, exec (.debugUnlock key sig) s = .next t ∧
      t.pending = s.pending ∧ t.dev.otp = { s.dev.otp with challenge := none, debugOpen := t.dev.otp.debugOpen } ∧
      (t.dev.otp.debugOpen = true ↔ (s.dev.otp.debugOpen = true ∨ (s.dev.otp.debugLevel = 1 ∧
        s.dev.otp.keys.toList.any (fun k => keyActive k key) = true ∧
        Config.ecdsaOk key sig (Config.sha384 (Config.challenge n ++ wordBytes (resetWord 0))) = true))) ∧
      t.dev = { s.dev with otp := t.dev.otp })

/-! ### The Chart store -/

/-- The commit timer starts a commit of the buffer; a command that has waited 5 s for space ends BUSY with the buffer kept; and
reclamation starts an erase that is scheduled, or copies the records of the sector it picks to lines of their own and starts its
erase, leaving every other byte of flash as it was (R370, R373, R375). -/
def Obligations.CommitsAndReclamation : Prop :=
  ∀ s : State,
    (s.dev.chart.timerOn = true → s.dev.chartShut = false → s.dev.chart.commit = none → ∃ t, exec .commitTimerExpiry s = .next t ∧
      t = { s with dev := { s.dev with chart := { s.dev.chart with
        timerOn := false, commit := if s.dev.chart.buf.isEmpty then none else some .timer } } }) ∧
    (s.dev.chart.commit.isSome = true → exec .commitTimerExpiry s = .next s) ∧
    (∀ (src : CmdSrc) (p : InProg) (a b : Nat), s.dev.chart.tallyWait = some (src, p, a, b) → ∃ t d, exec .nvWaitTimeout s = .next t ∧
      d = { s.dev with chart := { s.dev.chart with tallyWait := none } } ∧ t = { s with dev := d.complete src p (.busy 0) }) ∧
    (∀ (src : CmdSrc) (p : InProg), s.dev.chart.tallyWait = none → s.dev.commitWaits = true →
      (s.dev.chart.commit = some (.command src p) ∨ ∃ r, s.dev.chart.commit = some (.full src p r)) →
      ∃ t d, exec .nvWaitTimeout s = .next t ∧ d = { s.dev with chart := { s.dev.chart with commit := none } } ∧
        t = { s with dev := d.complete src p (.busy 0) } ∧ t.dev.chart.buf = s.dev.chart.buf) ∧
    (∀ k, s.dev.chartShut = false → s.dev.pwr.pf = .normal → s.dev.chart.scheduled.find? s.dev.eraseOk = some k →
      ∃ t, exec .reclaimStart s = .next t ∧ t = { s with dev := { s.dev with
        chart := { s.dev.chart with tokens := s.dev.chart.tokens - 1, erasing := some (k, .schedule) } } }) ∧
    (∀ (k : Nat) (rs : List Rec) (d : Dev) (ls : List (Nat × Rec)) (d' : Dev), s.dev.chartShut = false → s.dev.pwr.pf = .normal →
      s.dev.chart.scheduled.find? s.dev.eraseOk = none → s.dev.erasedLog.length < 2 → s.dev.reclaimPick = some k →
      s.dev.number ((s.dev.liveIn k).map fun r => { r with copy := true }) = (rs, d) → d.appendAll false rs = (ls, true, d') →
      ∃ t, exec .reclaimStart s = .next t ∧ t.pending = s.pending ∧ t.dev = { s.dev with chart := t.dev.chart } ∧
        t.dev.chart.erasing = some (k, .reclaim) ∧ t.dev.chart.tokens = s.dev.chart.tokens - 1 ∧ ls.map (·.2) = rs ∧
        (t.dev.chart.logErases = if 1000 ≤ s.dev.chart.logErases ∧ (∀ j ∈ s.dev.reclaimable, s.dev.chart.refresh.getLsbD j = false)
          then s.dev.chart.logErases - 1000 else s.dev.chart.logErases) ∧
        (∀ a, (∀ e ∈ ls, a < 16 * e.1 ∨ 16 * (e.1 + e.2.lines) ≤ a) → t.dev.nvGet a = s.dev.nvGet a) ∧
        t.dev.chart.buf = s.dev.chart.buf ∧ t.dev.chart.commit = s.dev.chart.commit ∧ t.dev.chart.wear = s.dev.chart.wear ∧
        (s.dev.chart.nextSeq < 4294967296 → t.dev.chart.nextSeq = satN 32 (s.dev.chart.nextSeq + rs.length)))

/-- The end of an erase (R366, R376): the sector's erase count rises by one and, where the verify passes, its flash holds a new
header and reads 0xFF elsewhere; where it fails, the sector is left without a valid header, and the third failure in a row
retires it. No byte of another sector changes; a tally command that waits then tries again (R381). A gained token and a scrubbed
line, whose tallies are carried out of a sector marked for refresh (R377). -/
def Obligations.ErasesTokensAndScrub : Prop :=
  ∀ s : State,
    (∀ (k : Nat) (p : ErasePurpose), s.dev.chart.erasing = some (k, p) → k < 64 →
      (∃ t e n, exec (.eraseDone true) s = .next t ∧ t.pending = s.pending ∧ n = s.dev.chart.wear.toList.getD k 0 + 1 ∧
        t.dev = e.tallyRetry ∧ (s.dev.chart.tallyWait = none → t.dev = e) ∧
        e = { s.dev with regs := e.regs, chart := e.chart } ∧ KeepsRegs [0x040028] s.dev e ∧
        Counts 0x040028 16 16 s.dev e ∧ e.chart.erasing = none ∧ e.chart.sectSeq = s.dev.chart.sectSeq + 1 ∧
        (∀ j : Fin 64, e.chart.wear.get j = if j.val = k then n else s.dev.chart.wear.get j) ∧
        (∀ a, a / 8192 ≠ k → e.nvGet a = s.dev.nvGet a) ∧
        (∀ i, i < 8192 → e.nvGet (8192 * k + i) = (sectorHeader k n (s.dev.chart.sectSeq + 1)).getD i 0xFF) ∧
        e.retired k = (s.dev.retired k || decide (100000 ≤ n)) ∧ e.chart.tokens = s.dev.chart.tokens ∧
        e.chart.buf = s.dev.chart.buf ∧ e.chart.commit = s.dev.chart.commit ∧ e.chart.tallyWait = s.dev.chart.tallyWait) ∧
      (∃ t e n, exec (.eraseDone false) s = .next t ∧ t.pending = s.pending ∧ n = s.dev.chart.wear.toList.getD k 0 + 1 ∧
        t.dev = e.tallyRetry ∧ (s.dev.chart.tallyWait = none → t.dev = e) ∧ e.chart.tallyWait = s.dev.chart.tallyWait ∧
        e = { s.dev with regs := e.regs, chart := e.chart } ∧ KeepsRegs [0x040028] s.dev e ∧
        Counts 0x040028 16 16 s.dev e ∧ e.chart.erasing = none ∧ e.chart.sectSeq = s.dev.chart.sectSeq ∧
        (∀ j : Fin 64, e.chart.wear.get j = if j.val = k then n else s.dev.chart.wear.get j) ∧
        (∀ a, a / 8192 ≠ k → e.nvGet a = s.dev.nvGet a) ∧ (∀ i, i < 16 → e.nvGet (8192 * k + i) = 0xFF) ∧
        (e.retired k = (s.dev.retired k || decide (100000 ≤ n) ||
          decide (2 ≤ Tab.get (fun _ => 0) s.dev.chart.fails k))) ∧
        (Tab.get (fun _ => 0) s.dev.chart.fails k < 2 → k ∈ e.chart.scheduled))) ∧
    (∃ t e, exec .eraseTokenGain s = .next t ∧ t = { s with dev := e.tallyRetry } ∧ (s.dev.chart.tallyWait = none → t.dev = e) ∧
      e = { s.dev with chart := { s.dev.chart with tokens := min 64 (s.dev.chart.tokens + 1) } }) ∧
    (∀ (line : BitVec 15) (corrected margin : Bool), s.dev.chartShut = false →
      (s.dev.lineBad line.toNat = true → margin = false → ∃ t, exec (.scrub line corrected margin) s = .next t ∧ t.pending = s.pending ∧
        t.dev = { s.dev with regs := t.dev.regs, watch := t.dev.watch } ∧ KeepsRegs [0x040024] s.dev t.dev ∧
        Counts 0x040024 0 16 s.dev t.dev ∧ Reports 24 (line.toNat / 512) s.dev t.dev) ∧
      (s.dev.lineBad line.toNat = true → ∃ e, e = s.dev.eccUncorr line.toNat ∧ e.chart = s.dev.chart ∧
        exec (.scrub line corrected true) s = .next { s with dev := e.refreshMark (line.toNat / 512) }) ∧
      (s.dev.lineBad line.toNat = false → line.toNat / 512 < 56 → ∃ t, exec (.scrub line corrected margin) s = .next t ∧
        t.pending = s.pending ∧ t.dev = { s.dev with regs := t.dev.regs, watch := t.dev.watch, chart := t.dev.chart } ∧
        KeepsRegs [0x040024] s.dev t.dev ∧
        t.dev.chart = { s.dev.chart with corr := t.dev.chart.corr, refresh := t.dev.chart.refresh } ∧
        (corrected = true → Counts 0x040024 16 16 s.dev t.dev ∧ line.toNat ∈ t.dev.chart.corr) ∧
        (corrected = false → t.dev.regs = s.dev.regs ∧ t.dev.chart.corr = s.dev.chart.corr) ∧
        (∀ j : Fin 64, t.dev.chart.refresh.getLsbD j =
          (s.dev.chart.refresh.getLsbD j || ((corrected || margin) && decide (j.val = line.toNat / 512)))) ∧
        ((corrected || margin) = true → 54 ≤ line.toNat / 512 → Reports 24 (line.toNat / 512) s.dev t.dev) ∧
        (((corrected || margin) = false ∨ line.toNat / 512 < 54) → t.dev.watch = s.dev.watch)) ∧
      (s.dev.lineBad line.toNat = false → 56 ≤ line.toNat / 512 → ∃ t e, exec (.scrub line corrected margin) s = .next t ∧
        t.pending = s.pending ∧ t.dev = (if corrected || margin then (e.carryOut (line.toNat / 512)).2 else e) ∧
        e = { s.dev with regs := e.regs, chart := { s.dev.chart with corr := e.chart.corr, refresh := e.chart.refresh } } ∧
        KeepsRegs [0x040024] s.dev e ∧ (corrected = true → Counts 0x040024 16 16 s.dev e ∧ line.toNat ∈ e.chart.corr) ∧
        (corrected = false → e.regs = s.dev.regs ∧ e.chart.corr = s.dev.chart.corr) ∧
        (∀ j : Fin 64, e.chart.refresh.getLsbD j =
          (s.dev.chart.refresh.getLsbD j || ((corrected || margin) && decide (j.val = line.toNat / 512))))))

/-- The commands of the store (R368, R370, R373, R381, R384): a record enters the buffer with the next SEQ and starts the timer; a read
gives LEN bytes of the newest record, PARTIAL where it is longer, with its SEQ; a commit of an empty buffer ends at once and any
other stays in progress; a raw write programs erased lines of the raw region only; a raw transfer that something stops stands at the end of
a line with the bytes before it moved (R331, log entry 169, DESIGN CHOICE); a tally increment programs the next line of its page. -/
def Obligations.StoreCommands : Prop :=
  ∀ (c : Cmd) (s : State),
    (∀ key len r, s.dev.takes 0x70 c = true → key = pf c 0 0 16 → len = pf c 0 16 12 → key ≠ 0 → key ≠ 65535 → len ≤ 2048 →
      unusedFail c.words ([(0, 0, 16), (0, 16, 12)] ++ wholes 1 (len / 4) ++
        (if len % 4 = 0 then [] else [(1 + len / 4, 0, 8 * (len % 4))])) = [] →
      shortFail c.words ([(0, 0, 16), (0, 16, 12)] ++ wholes 1 (len / 4) ++
        (if len % 4 = 0 then [] else [(1 + len / 4, 0, 8 * (len % 4))])) = [] →
      s.dev.chartShut = false → keyWritable c.src key = true → s.dev.pwr.pf = .normal → s.dev.chart.nextSeq < 4294967295 →
      r = Rec.mk key s.dev.chart.nextSeq (decide (len = 0)) false false (valueOf c.words len) →
      liveLines (Tab.ins key (none, { r with seq := 0 }) s.dev.newest) ≤ 12288 →
      (liveKeys s.dev.newest < 4096 ∨ (s.dev.record key).isSome = true) → bufBytes (s.dev.chart.buf ++ [{ r with seq := 0 }]) ≤ 4096 →
      ∃ t d, exec (.nvWrite c) s = .next t ∧ Ends c 0x70 (.ok len) d s t ∧ d = { s.dev.begun c 0x70 with
        chart := { s.dev.chart with nextSeq := s.dev.chart.nextSeq + 1, buf := s.dev.chart.buf ++ [r],
                                    timerOn := s.dev.chart.timerOn || s.dev.chart.buf.isEmpty } }) ∧
    (∀ len at_ r, s.dev.takes 0x71 c = true → paramFail c [(0, 0, 16), whole 1, whole 2, (3, 0, 12)] [] = none → len = pf c 3 0 12 → s.dev.chartShut = false →
      s.dev.record (pf c 0 0 16) = some (at_, r) →
      ∃ t d, exec (.nvRead c) s = .next t ∧
        Ends c 0x71 ⟨if len < r.val.length then 1 else 0, min len r.val.length, 0, r.seq⟩ d s t ∧
        d.chart = { s.dev.chart with rewrite := d.chart.rewrite } ∧
        (at_ = none → d = (s.dev.begun c 0x71).memWrite (pf c 1 0 1 = 1) (bufAddr c 1) (r.val.take (min len r.val.length)))) ∧
    (s.dev.takes 0x71 c = true → paramFail c [(0, 0, 16), whole 1, whole 2, (3, 0, 12)] [] = none → s.dev.chartShut = false →
      s.dev.record (pf c 0 0 16) = none → ∃ t, exec (.nvRead c) s = .next t ∧ Ends c 0x71 (.ok 0 0) (s.dev.begun c 0x71) s t) ∧
    (s.dev.takes 0x72 c = true → paramFail c [] [] = none → s.dev.chartShut = false → s.dev.pwr.pf = .normal →
      (s.dev.chart.buf = [] → ∃ t, exec (.nvCommit c) s = .next t ∧ Ends c 0x72 .ok (s.dev.begun c 0x72) s t) ∧
      (s.dev.chart.buf ≠ [] → ∃ t, exec (.nvCommit c) s = .next t ∧ t = { s with dev := { s.dev.begun c 0x72 with
        chart := { s.dev.chart with commit := some (.command c.src (inProg c 0x72)) } } })) ∧
    (∀ data page off len bs, s.dev.takes 0x73 c = true → (pf c 1 0 1 = 1 ∨ s.dev.dmaOpen = true) → page = pf c 0 0 11 → off = pf c 0 16 8 → len = pf c 3 0 9 → pf c 0 24 1 = 1 →
      0 < len → len ≤ 256 → len % 16 = 0 → off % 16 = 0 → 1728 ≤ page → page ≤ 1791 →
      unusedFail c.words [(0, 0, 11), (0, 16, 8), (0, 24, 1), whole 1, whole 2, (3, 0, 9)] = [] → 4 ≤ c.words.length →
      s.dev.chartShut = false → bs = (s.dev.begun c 0x73).bufRead (pf c 1 0 1 = 1) (bufAddr c 1) len data →
      (∀ i, i < len / 16 → rawAddr page off (16 * i) / 16 % 512 ≠ 0 ∧ s.dev.lineErased (rawAddr page off (16 * i) / 16) = true) →
      (∃ t d, exec (.nvRawPage c ⟨data, none⟩) s = .next t ∧ Ends c 0x73 (.ok len) d s t ∧
        d = { s.dev.begun c 0x73 with chart := { s.dev.chart with flash := d.chart.flash } } ∧
        (∀ k, k < len → d.nvGet (rawAddr page off k) = bs.getD k 0) ∧
        (∀ a, (∀ k, k < len → a ≠ rawAddr page off k) → d.nvGet a = s.dev.nvGet a)) ∧
      (∀ n, 16 * n < len → ∃ t, exec (.nvRawPage c ⟨data, some n⟩) s = .next t ∧ t.pending = s.pending ∧
        t.dev.host.busy.get (srcIdx c.src) = some { inProg c 0x73 with progress := 16 * n, rawWrite := true } ∧
        t.dev = { s.dev.begun c 0x73 with host := t.dev.host, chart := { s.dev.chart with
          flash := t.dev.chart.flash, rawNext := some (rawAddr page off (16 * n) / 16, (bs.drop (16 * n)).take 16) } } ∧
        (∀ k, k < 16 * n → t.dev.nvGet (rawAddr page off k) = bs.getD k 0) ∧
        (∀ a, (∀ k, k < 16 * n → a ≠ rawAddr page off k) → t.dev.nvGet a = s.dev.nvGet a))) ∧
    (∀ data page off len, s.dev.takes 0x73 c = true → page = pf c 0 0 11 → off = pf c 0 16 8 → len = pf c 3 0 9 → pf c 0 24 1 = 0 → 0 < len → len ≤ 256 →
      unusedFail c.words [(0, 0, 11), (0, 16, 8), (0, 24, 1), whole 1, whole 2, (3, 0, 9)] = [] → 4 ≤ c.words.length →
      s.dev.chartShut = false → (∀ k, k < len → s.dev.lineBad (rawAddr page off k / 16) = false) →
      (∃ t d, exec (.nvRawPage c ⟨data, none⟩) s = .next t ∧ Ends c 0x73 (.ok len) d s t ∧ d.chart = s.dev.chart ∧
        (pf c 1 0 1 = 1 → KeepsRegs [0x040024] (s.dev.begun c 0x73) d ∧
          d.bar4 = ((s.dev.begun c 0x73).bar4Write (bufAddr c 1)
            ((List.range len).map fun k => s.dev.nvGet (rawAddr page off k))).bar4)) ∧
      (∀ n, rawStop off len (some n) < len → ∃ t, exec (.nvRawPage c ⟨data, some n⟩) s = .next t ∧ t.pending = s.pending ∧
        t.dev.host.busy.get (srcIdx c.src) = some { inProg c 0x73 with progress := rawStop off len (some n) } ∧
        t.dev.chart = s.dev.chart)) ∧
    (∀ x, s.dev.takes 0x74 c = true → paramFail c [(0, 0, 5), (1, 0, 16)] (failIf (pf c 1 0 16 = 0) 32) = none → s.dev.chartShut = false →
      s.dev.pwr.pf = .normal → (s.dev.begun c 0x74).tallyAdd (pf c 0 0 5) (pf c 1 0 16) = some x →
      ∃ t, exec (.nvTallyAdd c) s = .next t ∧ Ends c 0x74 (.ok (pf c 1 0 16) (satN 32 (x.tallyValue (pf c 0 0 5)))) x s t ∧
        x = { s.dev.begun c 0x74 with regs := x.regs, chart := x.chart }) ∧
    (∀ b seq l, s.dev.takes 0x74 c = true → paramFail c [(0, 0, 5), (1, 0, 16)] (failIf (pf c 1 0 16 = 0) 32) = none → s.dev.chartShut = false →
      s.dev.pwr.pf = .normal → s.dev.tallyBase (pf c 0 0 5) = some (b, seq) → s.dev.tallyNext b.page = some l →
      ∃ t d, exec (.nvTallyAdd c) s = .next t ∧ d = { s.dev.begun c 0x74 with
          chart := { s.dev.chart with flash := d.chart.flash } } ∧
        Ends c 0x74 (.ok (pf c 1 0 16) (satN 32 (d.tallyValue (pf c 0 0 5)))) d s t ∧
        (∀ a, (a < 16 * l ∨ 16 * l + 16 ≤ a) → d.nvGet a = s.dev.nvGet a) ∧
        (∀ i, i < 16 → d.nvGet (16 * l + i) = (tallyBytes b.gen (pf c 0 0 5) (pf c 1 0 16)).getD i 0))

/-! ### Timing ports -/

/-- The ports (Table 9-2): link up with the recovered clock's rate, calibration and its delays, its time-out, a loss with what it takes
along, the recalibration of an UP port and the end of the settling window. -/
def Obligations.PortStates : Prop :=
  ∀ (p : Fin 8) (s : State),
    ((s.dev.port p).st = .down → s.dev.clk.xo = true → s.dev.shed = false → s.dev.blockReady 12 = true →
      ∃ t, exec (.portLinkUp p) s = .next t ∧ t.pending = s.pending ∧
        t.dev.port p = { s.dev.port p with st := .cal, cdr := true, pcs := true, fec := bit (s.dev.portCfg p) 28, hiBer := false } ∧
        (∀ q, q ≠ p → t.dev.port q = s.dev.port q) ∧
        t.dev.rdU40 (buoyOff (syncSlot p) + 4) = (if s.dev.portRate p = 0 then 125000000 else 156250000) ∧
        t.dev.rdF (buoyOff (syncSlot p) + 0xC) 0 16 = 1 ∧
        t.dev.rdF (buoyOff (syncSlot p) + 0xC) 16 16 = (if s.dev.portRate p = 0 then 0 else 1) ∧
        (t.dev.source 146).cond = t.dev.overload ∧
        t.dev = { s.dev with regs := t.dev.regs, bar4 := t.dev.bar4, host := t.dev.host, keeper := t.dev.keeper, ports := t.dev.ports,
                             watch := t.dev.watch } ∧
        EventFrame [buoyOff (syncSlot p) + 4, buoyOff (syncSlot p) + 8, buoyOff (syncSlot p) + 0xC] s.dev t.dev ∧
        (t.dev.ring 8).seq = (s.dev.ring 8).seq + 1) ∧
    (∀ tx rx : Word, (s.dev.port p).st = .cal → ∃ t, exec (.portCalDone p tx rx) s = .next t ∧ t.pending = s.pending ∧
      t.dev.port p = { s.dev.port p with
        st := .up, settling := decide (s.dev.rdF (0x211010 + 0x100 * p) 26 6 ≠ 0), buckets := [],
        untouched := ⟨s.dev.bwBurst p * 1000000, s.dev.clk.tbUs⟩, ssmSent := s.dev.ssmNow p,
        txq := (s.dev.port p).txq ++ (s.dev.ring (txRing p)).fetched.filterMap fun e => txDesc (s.dev.txSlot p e.1) e.2 } ∧
      (t.dev.source 146).cond = t.dev.overload ∧ (t.dev.ring (txRing p)).fetched = [] ∧
      (∀ q, q ≠ p → t.dev.port q = s.dev.port q) ∧ t.dev.rd (portOff p + 0x84) = tx ∧ t.dev.rd (portOff p + 0x88) = rx ∧
      KeepsRegs [portOff p + 0x84, portOff p + 0x88] s.dev t.dev ∧ (t.dev.source (portSource p)).cond = false ∧
      t.dev = { s.dev with regs := t.dev.regs, bar4 := t.dev.bar4, host := t.dev.host, watch := t.dev.watch,
                           keeper := t.dev.keeper, ports := t.dev.ports }) ∧
    ((s.dev.port p).st = .cal → ∃ t, exec (.portCalTimeout p) s = .next t ∧ t.pending = s.pending ∧
      t.dev.port p = { s.dev.port p with st := .down } ∧ (∀ q, q ≠ p → t.dev.port q = s.dev.port q) ∧
      (t.dev.buoy (syncSlot p)).act.st = .down ∧ t.dev.clk = s.dev.clk ∧ t.dev.ts = s.dev.ts ∧ t.dev.clients = s.dev.clients ∧
      ((s.dev.buoy (syncSlot p)).act.st ≠ .up → Counts (portOff p + 0xA0) 0 16 s.dev t.dev ∧
        EventFrame [portOff p + 0xA0] s.dev t.dev)) ∧
    (∀ cdr pcs fec hiBer : Bool,
      ((s.dev.port p).st = .down → ∃ t, exec (.portLinkLoss p cdr pcs fec hiBer) s = .next t ∧ t = { s with dev := { s.dev with
        ports := s.dev.ports.set p { s.dev.port p with cdr := cdr, pcs := pcs, fec := fec, hiBer := hiBer } } }) ∧
      ((s.dev.port p).st = .cal ∨ (s.dev.port p).st = .up → ∃ t, exec (.portLinkLoss p cdr pcs fec hiBer) s = .next t ∧
        t.pending = s.pending ∧ (t.dev.port p).st = .down ∧ (t.dev.port p).cdr = cdr ∧ (t.dev.port p).pcs = pcs ∧
        (t.dev.port p).fec = fec ∧ (t.dev.port p).hiBer = hiBer ∧ (∀ q, q ≠ p → t.dev.port q = s.dev.port q) ∧
        (t.dev.buoy (syncSlot p)).act.st = .down ∧ (t.dev.source (portSource p)).cond = true ∧ (t.dev.source 146).cond = t.dev.overload ∧
        t.dev.clk = s.dev.clk ∧ t.dev.ts = s.dev.ts ∧
        ((s.dev.port p).st = .up → (t.dev.port p).txq = [] ∧ (t.dev.port p).settling = false ∧
          Counts (portOff p + 0xA0) 16 16 s.dev t.dev) ∧
        ((s.dev.port p).st = .up → (s.dev.buoy (syncSlot p)).act.st ≠ .up → ∀ k : Fin 16, (t.dev.client k).st =
          if s.dev.clientPort k = p ∧ (s.dev.client k).st ≠ .disabled then .listening else (s.dev.client k).st))) ∧
    (∀ tx rx : Word, (s.dev.port p).st = .up → ∃ t, exec (.portRecalibrate p tx rx) s = .next t ∧ t.pending = s.pending ∧
      t.dev = { s.dev with regs := t.dev.regs } ∧ t.dev.rd (portOff p + 0x84) = tx ∧ t.dev.rd (portOff p + 0x88) = rx ∧
      ∀ a, a ≠ portOff p + 0x84 → a ≠ portOff p + 0x88 → t.dev.rd a = s.dev.rd a) ∧
    (∃ t, exec (.settleEnd p) s = .next t ∧ t = { s with dev := { s.dev with ports := s.dev.ports.set p { s.dev.port p with
      settling := false, buckets := (s.dev.port p).buckets.map fun e => (e.1, s.dev.bucketNow p e.2),
      untouched := s.dev.bucketNow p (s.dev.port p).untouched } } })

/-- ESMC transmission (R248, R249) and the end of a host frame (R254, R326): its DONE word or its completion, and its TXTS entry where
TS_REQ asks for one. -/
def Obligations.EsmcAndHostFrames : Prop :=
  ∀ (p : Fin 8) (s : State),
    ((s.dev.port p).st ≠ .off → (s.dev.port p).esmcTimeout = false → ∃ t, exec (.esmcTimeout p) s = .next t ∧ t.pending = s.pending ∧
      t.dev.port p = { s.dev.port p with esmcValid := false, esmcTimeout := true } ∧ (∀ q, q ≠ p → t.dev.port q = s.dev.port q) ∧
      Counts (portOff p + 0xAC) 0 16 s.dev t.dev ∧ EventFrame [portOff p + 0xAC] s.dev t.dev ∧
      (t.dev.ring 8).seq = (s.dev.ring 8).seq + 1 ∧
      t.dev = { s.dev with regs := t.dev.regs, bar4 := t.dev.bar4, host := t.dev.host, keeper := t.dev.keeper, ports := t.dev.ports }) ∧
    (s.dev.esmcMay p = true → ∃ t at_, exec (.esmcInfoTx p) s = .next t ∧
      at_ = ((s.dev.port p).esmcAt.filter fun u => s.dev.clk.tbUs < u + 1000000) ++ [s.dev.clk.tbUs] ∧
      t = { s with dev := { s.dev with ports := s.dev.ports.set p { s.dev.port p with
        sent := (s.dev.port p).sent ++ [s.dev.esmcPdu p false], esmcAt := at_ } } }) ∧
    (s.dev.esmcMay p = true → (s.dev.port p).ssmSent ≠ s.dev.ssmNow p → ∃ t at_, exec (.esmcEventTx p) s = .next t ∧
      at_ = ((s.dev.port p).esmcAt.filter fun u => s.dev.clk.tbUs < u + 1000000) ++ [s.dev.clk.tbUs] ∧
      t = { s with dev := { s.dev with ports := s.dev.ports.set p { s.dev.port p with
        sent := (s.dev.port p).sent ++ [s.dev.esmcPdu p true], esmcAt := at_, ssmSent := s.dev.ssmNow p } } }) ∧
    (∀ (f : TxFrame) (q : List TxFrame) (u : Int) (k : Nat) (data : List Byte), (s.dev.port p).txq = f :: q →
      (f.tsReq = true → s.dev.txts.queue.length < 64) →
      (∃ (t : State) (d : Dev), exec (.packetTxDone p (.sent u k data)) s = .next t ∧ t = { s with dev := d.txEnded p f true } ∧
        d = { s.dev with
          ports := s.dev.ports.set p { s.dev.port p with
            txq := q, sent := (s.dev.port p).sent ++ [TxMsg.host (s.dev.bufRead f.bar4 f.addr f.len data)] },
          txts := { s.dev.txts with queue := if f.tsReq then (TxtsEntry.insert
            ⟨s.dev.txPin p u k, p, s.dev.txtsSent p f.tsId (s.dev.portTime p (s.dev.txPin p u k))⟩ s.dev.txts.queue)
            else s.dev.txts.queue } }) ∧
      (∃ (t : State) (d : Dev), exec (.packetTxDone p .leftUp) s = .next t ∧ t = { s with dev := d.txEnded p f false } ∧
        d = { s.dev with
          ports := s.dev.ports.set p { s.dev.port p with txq := q },
          txts := { s.dev.txts with queue := if f.tsReq then
            (TxtsEntry.insert ⟨s.dev.tbGr, p, s.dev.txtsNotSent p f.tsId⟩ s.dev.txts.queue) else s.dev.txts.queue } })) ∧
    (∀ (f : TxFrame) (q : List TxFrame) (e : TxEnd), (s.dev.port p).txq = f :: q → f.tsReq = true → 64 ≤ s.dev.txts.queue.length →
      ∃ (t : State) (d : Dev) (sent : Bool), exec (.packetTxDone p e) s = .next t ∧ t = s.withDev (d.txEnded p f sent) ∧
        (sent = false ↔ e = .leftUp) ∧ d.txts = s.dev.txts ∧ Counts 0x208024 16 16 s.dev d ∧ Reports 145 p s.dev d ∧
        (d.ring 9).seq = (s.dev.ring 9).seq + 1 ∧ EventFrame [0x208024, 0x208028] s.dev d ∧ (d.port p).txq = q ∧
        (∀ j, j ≠ p → d.port j = s.dev.port j) ∧
        d = { s.dev with regs := d.regs, bar4 := d.bar4, host := d.host, watch := d.watch, ports := d.ports }) ∧
    (∀ (f : TxFrame) (sent : Bool),
      (f.slot = none → ∀ c, f.cmd = some c →
        s.dev.txEnded p f sent = s.dev.complete c.1 c.2 (if sent then .ok else .notDone (s.dev.port p).st.code)) ∧
      (∀ i, f.slot = some i → f.cmd = none → s.dev.ringEn (txRing p) = true →
        ((s.dev.txEnded p f sent).ring (txRing p)).done = (s.dev.ring (txRing p)).done ++ [i.index] ∧
        (∀ r : Fin 26, r ≠ txRing p → (s.dev.txEnded p f sent).ring r = s.dev.ring r) ∧
        (s.dev.txEnded p f sent).regs = s.dev.regs ∧ (s.dev.txEnded p f sent).ports = s.dev.ports) ∧
      (∀ i, f.slot = some i → f.cmd = none → s.dev.ringEn (txRing p) = false →
        s.dev.txEnded p f sent = s.dev.memWrite i.bar4 i.addr (wordBytes (word (2147483648 + if sent then 0 else 2)))))

/-- A received frame goes the way of Table 9-3 in its order: discarded by a port that is neither CAL nor UP; bad or short; long; not
for this port or of another VLAN; without a token in its bucket; else it is classified, an address question answered, a
malformed PTP message counted, a Delay_Req answered with the time at which it arrived, anything else put on the exception ring. -/
def Obligations.ReceivedFrames : Prop :=
  ∀ (p : Fin 8) (f : Frame) (s : State),
    ((s.dev.port p).st = .off ∨ (s.dev.port p).st = .down → exec (.frameReceived p f) s = .next s) ∧
    ((s.dev.port p).st = .cal ∨ (s.dev.port p).st = .up →
      (f.fcsOk = false ∨ f.len < 64 → ∃ t, exec (.frameReceived p f) s = .next t ∧ t.pending = s.pending ∧
        t.dev = { s.dev with regs := t.dev.regs } ∧ Counts (portOff p + 0xA4) 16 16 s.dev t.dev ∧
        KeepsRegs [portOff p + 0xA4] s.dev t.dev) ∧
      (f.fcsOk = true → 2000 < f.len → ∃ t, exec (.frameReceived p f) s = .next t ∧ t.pending = s.pending ∧
        t.dev = { s.dev with regs := t.dev.regs } ∧ Counts (portOff p + 0xA4) 0 16 s.dev t.dev ∧
        KeepsRegs [portOff p + 0xA4] s.dev t.dev) ∧
      (f.fcsOk = true → 64 ≤ f.len → f.len ≤ 2000 →
        ((f.dst.toNat ≠ s.dev.portMac p ∧ f.dst.toNat ≠ 2 ^ 48 - 1 ∧ f.svcMulticast = false) ∨ s.dev.vlanOk p f.tags = false →
          ∃ t, exec (.frameReceived p f) s = .next t ∧ t.pending = s.pending ∧
            t.dev = { s.dev with regs := t.dev.regs } ∧ Counts (portOff p + 0xA8) 16 16 s.dev t.dev ∧
            KeepsRegs [portOff p + 0xA8] s.dev t.dev) ∧
        (f.dst.toNat = s.dev.portMac p ∨ f.dst.toNat = 2 ^ 48 - 1 ∨ f.svcMulticast = true → s.dev.vlanOk p f.tags = true →
          ((∀ x, f.body = .esmc x → esmcHeader x f.dst = false) → (s.dev.police p f).1 = false → ∃ t, exec (.frameReceived p f) s = .next t ∧
            t.pending = s.pending ∧ t.dev = { s.dev with regs := t.dev.regs, watch := t.dev.watch } ∧
            Counts (psrvOff p + 0x58) 16 16 s.dev t.dev ∧ KeepsRegs [psrvOff p + 0x58] s.dev t.dev ∧ Reports 148 p s.dev t.dev) ∧
          (∀ d, s.dev.police p f = (true, d) →
            (∃ b, d = { s.dev with ports := s.dev.ports.set p { s.dev.port p with buckets := b } }) ∧
            (∀ a, f.body = .arp a → s.dev.hasIp4 p a = true → (s.dev.port p).st = .up → ∃ t, exec (.frameReceived p f) s = .next t ∧
              t = { s with dev := d.send p (.arpReply a (srcNode f)) }) ∧
            ((∃ a, f.body = .arp a ∧ s.dev.hasIp4 p a = true) ∨ (∃ a, f.body = .neighborSol a ∧ s.dev.hasIp6 p a = true) →
              (s.dev.port p).st = .cal → exec (.frameReceived p f) s = .next (s.withDev d)) ∧
            (∀ a, f.body = .neighborSol a → s.dev.hasIp6 p a = true → (s.dev.port p).st = .up →
              ∃ t, exec (.frameReceived p f) s = .next t ∧ t = { s with dev := d.send p (.neighborAdv a (srcNode f)) }) ∧
            (∀ m, f.body = .ptp m → s.dev.pilotsOn = true → s.dev.ptpBad p m = true → ∃ t, exec (.frameReceived p f) s = .next t ∧
              t.pending = s.pending ∧ t.dev = { d with regs := t.dev.regs } ∧ Counts (psrvOff p + 0x58) 0 16 s.dev t.dev ∧
              KeepsRegs [psrvOff p + 0x58] s.dev t.dev) ∧
            (∀ m, f.body = .ptp m → s.dev.pilotsOn = true → s.dev.ptpBad p m = false → m.body = .delayReq →
              s.dev.serverTakes p f m = true → s.dev.serving p = true → ∃ t, exec (.frameReceived p f) s = .next t ∧
              t = { s with dev := d.send p (.delayResp m.domain m.seqId.toNat
                (grTriple (s.dev.portTime p (s.dev.rxPin p f.tPcs f.kBits))) m.sender (decide (m.transport = .ipv6))
                (if f.dst.getLsbD 40 then
                  .multicast (if fld (s.dev.psrv p) 26 3 = 4 then some 0x011B19000000 else none) f.tags else srcNode f)) }) ∧
            (∀ m, f.body = .ptp m → s.dev.pilotsOn = true → s.dev.ptpBad p m = false → m.body = .delayReq →
              s.dev.serverTakes p f m = true → s.dev.serving p = false → exec (.frameReceived p f) s = .next (s.withDev d)) ∧
            (f.body = .other ∨ (∃ a, f.body = .arp a ∧ s.dev.hasIp4 p a = false) ∨ (∃ a, f.body = .neighborSol a ∧ s.dev.hasIp6 p a = false) ∨
              (∃ x, f.body = .esmc x ∧ esmcHeader x f.dst = false) ∨ (∃ m, f.body = .ptp m ∧ s.dev.pilotsOn = false) →
              s.dev.ringOpen (excRing p) = true → ∃ t, exec (.frameReceived p f) s = .next t ∧
              t.pending = s.pending ∧ t.dev = { d with bar4 := t.dev.bar4, host := t.dev.host } ∧
              (t.dev.ring (excRing p)).seq = (s.dev.ring (excRing p)).seq + 1 ∧
              (t.dev.ring (excRing p)).devIdx = ((s.dev.ring (excRing p)).devIdx + 1) % s.dev.ringSize (excRing p) ∧
              (∀ r : Fin 26, r ≠ excRing p → t.dev.ring r = s.dev.ring r)) ∧
            (f.body = .other ∨ (∃ a, f.body = .arp a ∧ s.dev.hasIp4 p a = false) ∨ (∃ a, f.body = .neighborSol a ∧ s.dev.hasIp6 p a = false) ∨
              (∃ x, f.body = .esmc x ∧ esmcHeader x f.dst = false) ∨ (∃ m, f.body = .ptp m ∧ s.dev.pilotsOn = false) →
              s.dev.ringOpen (excRing p) = false → ∃ t, exec (.frameReceived p f) s = .next t ∧
              t.pending = s.pending ∧ t.dev = { d with regs := t.dev.regs, host := t.dev.host, watch := t.dev.watch } ∧
              Counts (portOff p + 0xA8) 0 16 s.dev t.dev ∧ Reports 144 p s.dev t.dev ∧
              KeepsRegs [portOff p + 0xA8, ringOff (excRing p) + 0x10] s.dev t.dev ∧
              (t.dev.ring (excRing p)).lost = (s.dev.ring (excRing p)).lost + 1)) ∧
          (∀ x, f.body = .esmc x → esmcHeader x f.dst = true → ∃ t, exec (.frameReceived p f) s = .next t ∧ t.pending = s.pending ∧
            t.dev = { s.dev with regs := t.dev.regs, ports := t.dev.ports } ∧
            KeepsRegs [portOff p + 0x98, portOff p + 0xAC] s.dev t.dev ∧
            (esmcTlvOk x = true → (t.dev.port p).esmcValid = true ∧ (t.dev.port p).esmcTimeout = false ∧
              ∀ v, esmcTlv x 1 = some v → t.dev.rdF (portOff p + 0x98) 0 4 = (v.value.getD 0 0).toNat % 16) ∧
            (esmcTlvOk x = false → Counts (portOff p + 0xAC) 16 16 s.dev t.dev)))))

/-! ### Pilots -/

/-- A Sync with its timestamp, two-step with the Follow_Up that holds it (R242, R261). -/
def SyncSent (dom seq : Nat) (two : Bool) (at_ : Triple) (v6 : Bool) (dst : Dest) : List TxMsg :=
  if two then [.sync dom seq true none v6 dst, .followUp dom seq at_ v6 dst] else [.sync dom seq false (some at_) v6 dst]

/-- The server (R271, R274, R277, R279, R280): multicast Sync and Announce with rising sequence numbers, the end of a grant, one slot of
the calendar, and the DMA of the client table. -/
def Obligations.ServerAndCalendar : Prop :=
  ∀ s : State,
    (∀ p : Fin 8, s.dev.mcOn p = true →
      (∀ (u : Int) (k : Nat), ∃ t, exec (.multicastSyncTx ⟨p, u, k⟩) s = .next t ∧
        t = { s with dev := { s.dev with ports := s.dev.ports.set p { s.dev.port p with
          syncSeq := ((s.dev.port p).syncSeq + 1) % 65536,
          sent := (s.dev.port p).sent ++ SyncSent (s.dev.psrvDomain p) (s.dev.port p).syncSeq (s.dev.psrvTwoStep p)
            (s.dev.txStamp p u k) (s.dev.psrvV6 p) (s.dev.mcDest p) } } }) ∧
      (∃ t, exec (.multicastAnnounceTx p) s = .next t ∧ t = { s with dev := { s.dev with ports := s.dev.ports.set p { s.dev.port p with
        annSeq := ((s.dev.port p).annSeq + 1) % 65536,
        sent := (s.dev.port p).sent ++
          [.announce (s.dev.psrvDomain p) (s.dev.port p).annSeq (s.dev.announceNow p) (s.dev.psrvV6 p) (s.dev.mcDest p)] } } })) ∧
    (∀ (i : BitVec 21) (k : GrantKind) (e : Entry), s.dev.entryAt i.toNat = some e → (e.get k).isSome = true →
      ∃ t, exec (.grantExpiry i k) s = .next t ∧ t.pending = s.pending ∧
        t.dev.entryAt i.toNat = (if (e.put k none).grants = [] then none else some (e.put k none)) ∧
        (∀ j, j ≠ i.toNat → t.dev.entryAt j = s.dev.entryAt j) ∧ Counts (psrvOff e.port + 0x54) 0 16 s.dev t.dev ∧
        KeepsRegs [psrvOff e.port + 0x54] s.dev t.dev ∧ t.dev.pilot = { s.dev.pilot with entries := t.dev.pilot.entries, cache := t.dev.pilot.cache } ∧
        (t.dev.source 146).cond = t.dev.overload ∧ t.dev = { s.dev with regs := t.dev.regs, bar4 := t.dev.bar4, host := t.dev.host, watch := t.dev.watch, pilot := t.dev.pilot }) ∧
    (s.dev.pilot.attached.isSome = true → s.dev.pilotsOn = true → ∃ t,
      exec .calendarSlot s = .next t ∧ t.pending = s.pending ∧
      t.dev = { s.dev with regs := t.dev.regs, ports := t.dev.ports, pilot := t.dev.pilot, draws := t.dev.draws } ∧
      KeepsRegs [0x210014] s.dev t.dev ∧
      t.dev.pilot.slot = (if s.dev.pilot.slot = 4095 then 0 else s.dev.pilot.slot + 1) ∧
      t.dev.pilot.round = (if s.dev.pilot.slot = 4095 then s.dev.pilot.round + 1 else s.dev.pilot.round) ∧
      ((s.dev.dueRound.filter fun x => s.dev.slotOf x.1 = s.dev.pilot.slot) = [] → s.dev.pilot.late = [] →
        t.dev.ports = s.dev.ports ∧ t.dev.regs = s.dev.regs ∧ t.dev.pilot.entries = s.dev.pilot.entries ∧ t.dev.pilot.late = []) ∧
      (∀ (i lu : Nat) (e : Entry) (u : Int × Nat), u = (s.dev.slotStart s.dev.tbGr).1 →
        (s.dev.dueRound.filter fun x => s.dev.slotOf x.1 = s.dev.pilot.slot) = [(i, .sync, lu)] →
        s.dev.overload = false → s.dev.pilot.missing = [] → s.dev.pilot.late = [] → s.dev.entryAt i = some e →
        s.dev.serving e.port = true →
        (s.dev.pilot.cache.contains i = true →
          (t.dev.port e.port).sent = (s.dev.port e.port).sent ++ SyncSent e.domain e.syncSeq e.twoStep
            (s.dev.txStamp e.port u.1 u.2) (decide (e.transport = .ipv6)) (.node e.mac e.ip e.tags) ∧
          t.dev.entryAt i = some { e with syncSeq := (e.syncSeq + 1) % 65536, dirty := true } ∧
          (∀ q, q ≠ e.port → t.dev.port q = s.dev.port q) ∧ t.dev.regs = s.dev.regs) ∧
        (s.dev.pilot.cache.contains i = false →
          t.dev.ports = s.dev.ports ∧ t.dev.regs = s.dev.regs ∧ t.dev.pilot.late = [(i, .sync)]))) ∧
    (∀ (i : BitVec 21) (e : Entry), s.dev.pilot.attached.isSome = true →
      s.dev.pilot.writing.contains i.toNat = true → s.dev.entryAt i.toNat = some e → e.dirty = true →
      ∃ t d, exec (.clientTableDma true i true) s = .next t ∧ d = s.dev.entryWrite i.toNat ∧
        t = { s with dev := { d with pilot := { s.dev.pilot with
          entries := Tab.ins i.toNat { e with dirty := false } s.dev.pilot.entries,
          writing := s.dev.pilot.writing.filter (· ≠ i.toNat), cache := s.dev.pilot.cache.filter (· ≠ i.toNat) } } }) ∧
    (∀ (w : Bool) (i : BitVec 21), s.dev.pilot.attached.isSome = true → ∃ t,
      exec (.clientTableDma w i false) s = .next t ∧
      t.pending = s.pending ∧ Counts 0x210014 0 16 s.dev t.dev ∧ KeepsRegs [0x210014] s.dev t.dev ∧ Reports 147 0 s.dev t.dev ∧
      t.dev.pilot = { s.dev.pilot with
        missing := t.dev.pilot.missing, fetching := t.dev.pilot.fetching, writing := t.dev.pilot.writing } ∧
      (w = true → t.dev.pilot.missing = s.dev.pilot.missing ∧ t.dev.pilot.fetching = s.dev.pilot.fetching ∧
        i.toNat ∉ t.dev.pilot.writing) ∧
      (w = false → t.dev.pilot.writing = s.dev.pilot.writing ∧ i.toNat ∉ t.dev.pilot.fetching ∧
        (i.toNat ∈ t.dev.pilot.missing ↔ i.toNat ∉ s.dev.pilot.cache)) ∧
      t.dev = { s.dev with regs := t.dev.regs, watch := t.dev.watch, pilot := t.dev.pilot }) ∧
    (∀ (i : BitVec 21) (d : Dev), s.dev.pilot.attached.isSome = true →
      d = { s.dev with pilot := { s.dev.pilot with
        fetching := s.dev.pilot.fetching.filter (· ≠ i.toNat), cache := listed i.toNat s.dev.pilot.cache,
        missing := s.dev.pilot.missing.filter (· ≠ i.toNat) } } →
      (s.dev.pilot.late.filter (·.1 = i.toNat) = [] → exec (.clientTableDma false i true) s = .next (s.withDev d)) ∧
      (∀ (e : Entry) (u : Int × Nat), u = (s.dev.slotStart s.dev.tbGr).1 →
        s.dev.pilot.late.filter (·.1 = i.toNat) = [(i.toNat, .sync)] → s.dev.entryAt i.toNat = some e → s.dev.serving e.port = true →
        ∃ t, exec (.clientTableDma false i true) s = .next t ∧ t.pending = s.pending ∧
          (t.dev.port e.port).sent = (s.dev.port e.port).sent ++ SyncSent e.domain e.syncSeq e.twoStep
            (s.dev.txStamp e.port u.1 u.2) (decide (e.transport = .ipv6)) (.node e.mac e.ip e.tags) ∧
          (∀ q, q ≠ e.port → t.dev.port q = s.dev.port q) ∧ i.toNat ∈ t.dev.pilot.writing ∧
          t.dev.pilot.late = s.dev.pilot.late.filter (·.1 ≠ i.toNat) ∧
          t.dev = { d with ports := t.dev.ports, pilot := t.dev.pilot, draws := t.dev.draws }))

/-- What a client instance sends to renew or repeat a request for a grant (R264). -/
def GrantAsked (k : Fin 16) (g : GrantKind) (a : BitVec 128) (s t : State) : Prop :=
  t.pending = s.pending ∧ t.dev = { s.dev with ports := t.dev.ports, clients := t.dev.clients } ∧
    t.dev.client k = { s.dev.client k with
      asked := (g, a) :: (s.dev.client k).asked.filter (· ≠ (g, a)), denied := (s.dev.client k).denied.filter (· ≠ (g, a)) } ∧
    (∀ j, j ≠ k → t.dev.client j = s.dev.client j) ∧ (∀ q, q ≠ s.dev.clientPort k → t.dev.port q = s.dev.port q) ∧
    t.dev.port (s.dev.clientPort k) = { s.dev.port (s.dev.clientPort k) with
      sent := (s.dev.port (s.dev.clientPort k)).sent ++
        (if (s.dev.port (s.dev.clientPort k)).st = .up then
          [.signaling (s.dev.prDomain k) [.request g (s.dev.prLog k g) 300] (s.dev.prV6 k) (.addr a)] else []) }

/-- The client instances (Table 10-2, R264 to R270). -/
def Obligations.ClientInstances : Prop :=
  ∀ (k : Fin 16) (s : State),
    ((s.dev.client k).st = .requesting ∨ (s.dev.client k).st = .tracking → ∃ t, exec (.announceTimeout k) s = .next t ∧
      t.pending = s.pending ∧ t.dev.client k = { (s.dev.client k).stop with st := .listening } ∧
      (∀ j, j ≠ k → t.dev.client j = s.dev.client j) ∧ Counts (prOff k + 0x54) 16 16 s.dev t.dev ∧
      EventFrame [prOff k + 0x54] s.dev t.dev ∧ (t.dev.ring 8).seq = (s.dev.ring 8).seq + 1 ∧
      t.dev = { s.dev with regs := t.dev.regs, bar4 := t.dev.bar4, host := t.dev.host, keeper := t.dev.keeper,
                           clients := t.dev.clients }) ∧
    ((s.dev.client k).st ≠ .disabled → ∃ t, exec (.announcePost k) s = .next t ∧ t.pending = s.pending ∧
      t.dev = { s.dev with regs := t.dev.regs, keeper := t.dev.keeper, clients := t.dev.clients } ∧ KeepsRegs [] s.dev t.dev ∧
      t.dev.client k = { s.dev.client k with
        seen := (s.dev.client k).seen.map fun e => { e with sec := s.dev.clk.tbUs / 1000000 } } ∧
      (∀ j, j ≠ k → t.dev.client j = s.dev.client j) ∧ t.dev.keeper = { s.dev.keeper with anq := t.dev.keeper.anq } ∧
      ((s.dev.client k).seen ≠ [] → s.dev.keeper.anq.wr < 64 → s.dev.keeper.anq.ci < 64 →
        s.dev.keeper.anq.held 64 + (s.dev.client k).seen.length ≤ 63 →
        t.dev.keeper.anq.wr = (s.dev.keeper.anq.wr + (s.dev.client k).seen.length) % 64)) ∧
    (∀ g a, (s.dev.client k).st ≠ .disabled → (s.dev.client k).held.contains (g, a) = true → ∃ t,
      exec (.clientGrantRenew k (g, a)) s = .next t ∧ GrantAsked k g a s t) ∧
    (∀ g a, (s.dev.client k).st ≠ .disabled → (s.dev.client k).denied.contains (g, a) = true → ∃ t,
      exec (.clientGrantRetry k (g, a)) s = .next t ∧ GrantAsked k g a s t) ∧
    (∀ g a, (s.dev.client k).held.contains (g, a) = true → ∃ t, exec (.clientGrantExpiry k (g, a)) s = .next t ∧ t.pending = s.pending ∧
      t.dev.client k = (if (s.dev.client k).st = .requesting ∨ (s.dev.client k).st = .tracking then
          { (s.dev.client k).stop with st := .listening, held := (s.dev.client k).held.filter (· ≠ (g, a)) }
        else { s.dev.client k with held := (s.dev.client k).held.filter (· ≠ (g, a)) }) ∧
      (∀ j, j ≠ k → t.dev.client j = s.dev.client j) ∧ EventFrame [] s.dev t.dev ∧
      t.dev = { s.dev with regs := t.dev.regs, bar4 := t.dev.bar4, host := t.dev.host, keeper := t.dev.keeper,
                           clients := t.dev.clients }) ∧
    (∀ (u : Int) (pos : Nat), (s.dev.client k).st = .tracking → (s.dev.port (s.dev.clientPort k)).st = .up → s.dev.pilotsOn = true →
      s.dev.prP2P k = false → ∃ t p, exec (.delayReqTx k u pos) s = .next t ∧ p = s.dev.clientPort k ∧ t = { s with dev := { s.dev with
        ports := s.dev.ports.set p { s.dev.port p with
          sent := (s.dev.port p).sent ++ [.delayReq (s.dev.prDomain k) (s.dev.client k).dreqSeq.toNat (s.dev.prV6 k)
            (if s.dev.prUnicast k then .addr (s.dev.client k).parentAddr else .multicast none [])] },
        clients := s.dev.clients.set k { s.dev.client k with
          dreq := some ((s.dev.client k).dreqSeq, s.dev.portTime p (s.dev.txPin p u pos)),
          dreqSeq := (s.dev.client k).dreqSeq + 1 } } }) ∧
    (∀ (u : Int) (pos : Nat), (s.dev.client k).st ≠ .disabled → (s.dev.port (s.dev.clientPort k)).st = .up → s.dev.pilotsOn = true →
      s.dev.prP2P k = true → ∃ t p, exec (.delayReqTx k u pos) s = .next t ∧ p = s.dev.clientPort k ∧ t = { s with dev := { s.dev with
        ports := s.dev.ports.set p { s.dev.port p with
          sent := (s.dev.port p).sent ++ [.pdelayReq (s.dev.prDomain k) (s.dev.client k).dreqSeq.toNat (s.dev.prV6 k)
            (.multicast none [])] },
        clients := s.dev.clients.set k { s.dev.client k with
          preq := some ((s.dev.client k).dreqSeq, s.dev.portTime p (s.dev.txPin p u pos)),
          dreqSeq := (s.dev.client k).dreqSeq + 1 } } }) ∧
    (∀ (c : Chan) (subs : List (List Exchange)) (n : Nat), (s.dev.client k).st = .tracking → s.dev.pilotsOn = true →
      c = s.dev.chan (s.dev.tsChan (s.dev.portTs (s.dev.clientPort k))) →
      subs = (if (s.dev.client k).subs.isEmpty then [[]] else (s.dev.client k).subs) → n = 2 ^ s.dev.rdF (prOff k + 4) 27 4 →
      ∃ t, exec (.subintervalEnd k) s = .next t ∧ t.pending = s.pending ∧ (t.dev.client k).subs.head? = some [] ∧
        (t.dev.client k).marks = ((c.ffoSum, c.ffoN) :: (s.dev.client k).marks).take 520 ∧
        (t.dev.client k).estValid = ((s.dev.client k).ests[2]?).join.isSome ∧
        (∀ j, j ≠ k → t.dev.client j = s.dev.client j) ∧ t.dev.ports = s.dev.ports ∧ t.dev.pilot = s.dev.pilot ∧
        (((s.dev.client k).subs.head?).getD [] = [] → (subs.take n).flatten.length < 4 → ((s.dev.client k).ests[2]?).join = none →
          t.dev = { s.dev with clients := t.dev.clients } ∧ (t.dev.client k).subs = ([] :: subs).take 520 ∧
          (t.dev.client k).ests = (none :: (s.dev.client k).ests).take 4 ∧
          (t.dev.client k).asymRr = (s.dev.client k).asymRr)) ∧
    (∃ t, exec (.rerouteHoldExpiry k) s = .next t ∧ t = { s with dev := { s.dev with
      clients := s.dev.clients.set k { s.dev.client k with hold := false } } })

/-! ### Tideline -/

/-- The frames of the cascade (R284, R285, R292, R293, R297): one on each running link with this device's ID; one received; one
missing; and the delivery of a cascade event to slot 60. -/
def Obligations.TideFrames : Prop :=
  ∀ s : State,
    (s.dev.tideOn = true → ∃ t, exec .tideFrameTx s = .next t ∧ t.pending = s.pending ∧ t.dev = { s.dev with tide := t.dev.tide } ∧
      t.dev.tide.turn = (s.dev.tide.turn + 1) % 3 ∧ t.dev.tide.role = s.dev.tide.role ∧ t.dev.tide.active = s.dev.tide.active ∧
      t.dev.tide.faults = (if s.dev.tide.active.isSome then s.dev.tide.faults.drop 1 else s.dev.tide.faults) ∧
      (∀ l : Fin 5, (s.dev.link l).st = .off → t.dev.link l = s.dev.link l) ∧
      (∀ l : Fin 5, (s.dev.link l).st ≠ .off → ∃ f, (t.dev.link l).sent = (s.dev.link l).sent ++ [f] ∧ f.version = 1 ∧
        f.senderId = s.dev.tide.id ∧ f.senderLink = BitVec.ofNat 3 l.val ∧ f.dir = s.dev.upLink l ∧
        f.mId = s.dev.tide.mId ∧ f.masterLost = s.dev.tide.masterLost ∧ f.path.length = 8 ∧
        f.hops = (if s.dev.tide.role = .master then 1 else b8 (min (s.dev.tide.hops + 1) 9)) ∧
        f.mPrio = (if s.dev.tide.strapped then 0 else s.dev.tide.mPrio) ∧
        (t.dev.link l).st = (s.dev.link l).st ∧ (t.dev.link l).missed = (s.dev.link l).missed ∧
        (t.dev.link l).last = (s.dev.link l).last)) ∧
    (∀ (l : Fin 5) (f : TideFrame), f.version ≠ 1 → exec (.tideFrameRx l f) s = .next s) ∧
    (∀ (l : Fin 5) (f : TideFrame), (s.dev.link l).st ≠ .off → s.dev.tideOn = true → f.version = 1 → f.dir ≠ s.dev.upLink l →
      ∃ t, exec (.tideFrameRx l f) s = .next t ∧ t.pending = s.pending ∧ (t.dev.link l).missed = 0 ∧
        (t.dev.link l).good = (s.dev.link l).good + 1 ∧ (t.dev.link l).last = some f ∧ (t.dev.link l).dirErr = false ∧
        (t.dev.link l).st = (if (s.dev.link l).st = .sync ∧ 1 ≤ (s.dev.link l).good then .cal else (s.dev.link l).st) ∧
        (∀ k, k ≠ l → t.dev.link k = s.dev.link k) ∧
        t.dev = { s.dev with regs := t.dev.regs, bar4 := t.dev.bar4, host := t.dev.host, watch := t.dev.watch, keeper := t.dev.keeper,
                             ts := t.dev.ts, tide := t.dev.tide } ∧
        (s.dev.tide.active = some l → s.dev.tide.role = .slave → (s.dev.link l).st = .up → s.dev.upLink l = true →
          f.hops.toNat ≤ 8 → (framePath f).contains s.dev.tide.id = false → f.senderId ≠ s.dev.tide.id →
          t.dev.tide.mPrio = f.mPrio ∧ t.dev.tide.mId = f.mId ∧ t.dev.tide.masterLost = f.masterLost ∧
          t.dev.tide.hops = f.hops.toNat ∧ t.dev.tide.active = some l ∧ t.dev.tide.role = .slave ∧
          t.dev.tide.events.length = s.dev.tide.events.length + 1)) ∧
    (∀ (l : Fin 5) (c : MissCause), (s.dev.link l).st ≠ .off → s.dev.tideOn = true →
      ((s.dev.link l).missed < 3 ∨ (s.dev.link l).st = .sync → (s.dev.tide.active ≠ some l ∨ (s.dev.link l).missed ≠ 1) →
        ∃ t, exec (.frameMissing l c) s = .next t ∧ t.pending = s.pending ∧
          t.dev = { s.dev with regs := t.dev.regs, tide := t.dev.tide } ∧
          KeepsRegs [linkOff l + 0x30, linkOff l + 0x38] s.dev t.dev ∧ Counts (linkOff l + 0x30) 0 16 s.dev t.dev ∧
          (c = .crc → Counts (linkOff l + 0x30) 16 16 s.dev t.dev) ∧ (c = .dir → Counts (linkOff l + 0x38) 0 16 s.dev t.dev) ∧
          t.dev.link l = { s.dev.link l with missed := (s.dev.link l).missed + 1, good := 0, dirErr := decide (c = .dir) } ∧
          (∀ k, k ≠ l → t.dev.link k = s.dev.link k) ∧ t.dev.tide = { s.dev.tide with links := t.dev.tide.links }) ∧
      (3 ≤ (s.dev.link l).missed → (s.dev.link l).st ≠ .sync → ∃ t, exec (.frameMissing l c) s = .next t ∧ t.pending = s.pending ∧
        (t.dev.link l).st = .sync ∧ (t.dev.link l).missed = 0 ∧ (t.dev.link l).last = none ∧ t.dev.tide.active ≠ some l ∧
        (∀ k, k ≠ l → t.dev.link k = s.dev.link k) ∧
        t.dev = { s.dev with regs := t.dev.regs, bar4 := t.dev.bar4, host := t.dev.host, watch := t.dev.watch, keeper := t.dev.keeper,
                             tide := t.dev.tide }) ∧
      ((s.dev.link l).missed = 1 → s.dev.tide.active = some l → ∃ t, exec (.frameMissing l c) s = .next t ∧ t.pending = s.pending ∧
        t.dev.link l = { s.dev.link l with missed := 2, good := 0, dirErr := decide (c = .dir) } ∧
        (∀ k, k ≠ l → t.dev.link k = s.dev.link k) ∧ t.dev.tide.role = s.dev.tide.role ∧
        t.dev.tide.active = (if s.dev.tide.role = .slave ∧ s.dev.swapOk l (otherUp l) = true then some (otherUp l) else some l) ∧
        Counts (linkOff l + 0x30) 0 16 s.dev t.dev ∧
        t.dev = { s.dev with regs := t.dev.regs, bar4 := t.dev.bar4, host := t.dev.host, watch := t.dev.watch, keeper := t.dev.keeper,
                             tide := t.dev.tide })) ∧
    (∀ e es, s.dev.tide.events = e :: es → ∃ t, exec .cascadeEventDelivery s = .next t ∧ t.pending = s.pending ∧
      t.dev.tide = { s.dev.tide with events := es } ∧ (s.dev.buoysOn = true → (t.dev.buoy 60).act.last = some e.t) ∧
      (∀ n, n ≠ 60 → t.dev.buoy n = s.dev.buoy n) ∧
      t.dev = { s.dev with regs := t.dev.regs, bar4 := t.dev.bar4, host := t.dev.host, keeper := t.dev.keeper, buoys := t.dev.buoys,
                           chans := t.dev.chans, ts := t.dev.ts, tide := t.dev.tide })

/-- The links of the cascade (Table 11-3, R287, R288): calibration done, an exchange of ranging accepted into the mean of the last
2^RNG_R or counted as an outlier, UP after as many accepted ones, and the ways back to SYNC. -/
def Obligations.TideLinksAndRanging : Prop :=
  ∀ (l : Fin 5) (s : State),
    ((s.dev.link l).st = .cal → ∃ t, exec (.tlCalDone l) s = .next t ∧ t.pending = s.pending ∧
      t.dev.link l = { s.dev.link l with st := .ranging, accepted := 0, delays := [], outliers := 0 } ∧
      (∀ k, k ≠ l → t.dev.link k = s.dev.link k) ∧ t.dev.tide = { s.dev.tide with links := t.dev.tide.links } ∧
      EventFrame [] s.dev t.dev ∧ (t.dev.ring 8).seq = (s.dev.ring 8).seq + 1 ∧
      t.dev = { s.dev with regs := t.dev.regs, bar4 := t.dev.bar4, host := t.dev.host, keeper := t.dev.keeper, tide := t.dev.tide }) ∧
    (∀ n, (∀ e, (s.dev.link l).exchange (s.dev.upLink l) = some e → e.1 ≠ n) → exec (.rangingExchange l n) s = .next s) ∧
    (∀ (n : BitVec 16) (outer inner one df : Int) (ds : List Int), (s.dev.link l).st = .ranging ∨ (s.dev.link l).st = .up →
      (s.dev.link l).exchange (s.dev.upLink l) = some (n, outer, inner) →
      one = truncDiv (outer - inner + (if s.dev.upLink l then sfld (s.dev.rd (linkOff l)) 0 32 else 0)) 2 →
      ds = (one :: (s.dev.link l).delays).take s.dev.rngN → df = roundDiv ds.sum ds.length →
      ((s.dev.link l).delays = [] ∨ (one - (s.dev.link l).df).natAbs ≤ 65536 → ∃ t, exec (.rangingExchange l n) s = .next t ∧
        t.pending = s.pending ∧
        t.dev.link l = { s.dev.link l with
          taken := some n, delays := ds, df := df, accepted := (s.dev.link l).accepted + 1, outliers := 0,
          tooFar := decide (124518400 < df),
          st := if s.dev.rngN ≤ (s.dev.link l).accepted + 1 ∧ df ≤ 124518400 then .up else (s.dev.link l).st } ∧
        t.dev.rd40 (linkOff l + 0x18) = sat40 df ∧
        (∀ k, k ≠ l → t.dev.link k = s.dev.link k) ∧ EventFrame [linkOff l + 0x18, linkOff l + 0x1C] s.dev t.dev ∧
        (s.dev.tide.role ≠ .orphan → t.dev.tide.role = s.dev.tide.role ∧ t.dev.tide.active = s.dev.tide.active) ∧
        t.dev = { s.dev with regs := t.dev.regs, bar4 := t.dev.bar4, host := t.dev.host, watch := t.dev.watch, keeper := t.dev.keeper,
                             tide := t.dev.tide }) ∧
      ((s.dev.link l).delays ≠ [] → 65536 < (one - (s.dev.link l).df).natAbs → ∃ t, exec (.rangingExchange l n) s = .next t ∧
        t.pending = s.pending ∧ Counts (linkOff l + 0x38) 16 16 s.dev t.dev ∧ EventFrame [linkOff l + 0x38] s.dev t.dev ∧
        (t.dev.link l).st = (s.dev.link l).st ∧ (t.dev.link l).df = (s.dev.link l).df ∧ (t.dev.link l).taken = some n ∧
        ((s.dev.link l).outliers ≠ 15 → (t.dev.link l).outliers = (s.dev.link l).outliers + 1 ∧
          (t.dev.link l).delays = (s.dev.link l).delays) ∧
        ((s.dev.link l).outliers = 15 → (t.dev.link l).outliers = 0 ∧ (t.dev.link l).delays = [] ∧
          (t.dev.ring 8).seq = (s.dev.ring 8).seq + 1) ∧
        (∀ k, k ≠ l → t.dev.link k = s.dev.link k) ∧
        t.dev = { s.dev with regs := t.dev.regs, bar4 := t.dev.bar4, host := t.dev.host, keeper := t.dev.keeper, tide := t.dev.tide })) ∧
    ((s.dev.link l).st = .sync ∨ (s.dev.link l).st = .cal ∨ (s.dev.link l).st = .ranging →
      ∃ t, exec (.tlTrainTimeout l) s = .next t ∧ t.pending = s.pending ∧ (t.dev.link l).st = .sync ∧ (t.dev.link l).missed = 0 ∧
        (t.dev.link l).good = 0 ∧ (t.dev.link l).last = none ∧ (t.dev.link l).delays = [] ∧ t.dev.tide.active ≠ some l ∧
        Counts (linkOff l + 0x34) 0 16 s.dev t.dev ∧ KeepsRegs [linkOff l + 0x34, 0x280020] s.dev t.dev ∧
        (∀ k, k ≠ l → t.dev.link k = s.dev.link k) ∧
        t.dev = { s.dev with regs := t.dev.regs, bar4 := t.dev.bar4, host := t.dev.host, watch := t.dev.watch, keeper := t.dev.keeper,
                             tide := t.dev.tide }) ∧
    ((s.dev.link l).st = .cal ∨ (s.dev.link l).st = .ranging ∨ (s.dev.link l).st = .up →
      ∃ t, exec (.codeGroupSyncLoss l) s = .next t ∧ t.pending = s.pending ∧ (t.dev.link l).st = .sync ∧ (t.dev.link l).missed = 0 ∧
        (t.dev.link l).good = 0 ∧ (t.dev.link l).last = none ∧ (t.dev.link l).delays = [] ∧ t.dev.tide.active ≠ some l ∧
        ((s.dev.link l).st = .up → Counts (linkOff l + 0x34) 16 16 s.dev t.dev) ∧
        KeepsRegs [linkOff l + 0x34, 0x280020] s.dev t.dev ∧ (∀ k, k ≠ l → t.dev.link k = s.dev.link k) ∧
        t.dev = { s.dev with regs := t.dev.regs, bar4 := t.dev.bar4, host := t.dev.host, watch := t.dev.watch, keeper := t.dev.keeper,
                             tide := t.dev.tide })

/-- This device becomes master (rows 2, 3 and 6 of Table 11-4). -/
def BecomesMaster (s t : State) : Prop :=
  t.pending = s.pending ∧ t.dev.tide.role = .master ∧ t.dev.tide.active = none ∧ t.dev.tide.mId = s.dev.tide.id ∧
    t.dev.tide.mPrio = b8 s.dev.tlPrio ∧ t.dev.tide.path = [s.dev.tide.id] ∧ t.dev.tide.hops = 0 ∧ t.dev.tide.masterLost = false ∧
    t.dev.tide.lofs = 0 ∧ t.dev.tide.events = [] ∧ t.dev.tide.links = s.dev.tide.links ∧
    Counts 0x280024 16 16 s.dev t.dev ∧ EventFrame [0x280024] s.dev t.dev ∧ (t.dev.ring 8).seq = (s.dev.ring 8).seq + 2 ∧
    t.dev = { s.dev with regs := t.dev.regs, bar4 := t.dev.bar4, host := t.dev.host, watch := t.dev.watch, keeper := t.dev.keeper,
                         tide := t.dev.tide }

/-- The roles (Table 11-4, R298, R303 to R305): a claim, a takeover, a yield to a better master, and LABEL_ERR. -/
def Obligations.TideRoles : Prop :=
  ∀ s : State,
    (s.dev.claimPossible = true → s.dev.claimReady = true → ∃ t, exec .masterClaim s = .next t ∧ BecomesMaster s t) ∧
    (s.dev.candidate = true → (s.dev.tide.role = .slave ∧ s.dev.tide.masterLost = true) ∨
        (s.dev.tide.role = .orphan ∧ s.dev.firstEligible = none) → ∃ t, exec .takeoverExpiry s = .next t ∧ BecomesMaster s t) ∧
    (∀ (l : Fin 5) (f : TideFrame), s.dev.tide.role = .master → s.dev.tide.strapped = false → s.dev.betterLink = some l →
      (s.dev.link l).last = some f → ∃ t, exec .masterYield s = .next t ∧ t.pending = s.pending ∧ t.dev.tide.role = .slave ∧
        t.dev.tide.active = some l ∧ t.dev.tide.mPrio = f.mPrio ∧ t.dev.tide.mId = f.mId ∧
        t.dev.tide.masterLost = f.masterLost ∧ t.dev.tide.hops = f.hops.toNat ∧ t.dev.tide.lofs = toUs (s.dev.labelDelta l f) ∧
        t.dev.tide.links = s.dev.tide.links ∧ Counts 0x280020 16 16 s.dev t.dev ∧ EventFrame [0x280020] s.dev t.dev ∧
        (t.dev.ring 8).seq = (s.dev.ring 8).seq + 2 ∧
        t.dev = { s.dev with regs := t.dev.regs, bar4 := t.dev.bar4, host := t.dev.host, watch := t.dev.watch, keeper := t.dev.keeper,
                             tide := t.dev.tide }) ∧
    (s.dev.tide.lofs ≠ 0 → s.dev.tide.lofs.natAbs < 500000 → s.dev.tide.labelErr = false → ∃ t, exec .labelErrTimeout s = .next t ∧
      t.pending = s.pending ∧ t.dev.tide = { s.dev.tide with labelErr := true } ∧ (t.dev.source 168).cond = true ∧
      EventFrame [] s.dev t.dev ∧ (t.dev.ring 8).seq = (s.dev.ring 8).seq + 1 ∧
      t.dev = { s.dev with regs := t.dev.regs, bar4 := t.dev.bar4, host := t.dev.host, watch := t.dev.watch, keeper := t.dev.keeper,
                           tide := t.dev.tide })

/-! ### Buoys -/

/-- A slot has gone DOWN: it is in no lock, its monitors are not valid, it is not QUALIFIED, and no channel follows it. -/
def SlotIsDown (n : Fin 64) (s t : State) : Prop :=
  t.pending = s.pending ∧ (t.dev.buoy n).act.st = .down ∧ (t.dev.buoy n).dec.lock = false ∧
    (t.dev.buoy n).mon.freqValid = false ∧ (t.dev.buoy n).est = none ∧ (t.dev.buoy n).qual.st ≠ .qualified ∧
    (∀ c, (t.dev.chan c).sel.cur ≠ some n) ∧ (∀ m, m ≠ n → t.dev.buoy m = s.dev.buoy m) ∧
    t.dev = { s.dev with regs := t.dev.regs, bar4 := t.dev.bar4, host := t.dev.host, watch := t.dev.watch, keeper := t.dev.keeper,
                         buoys := t.dev.buoys, pairs := t.dev.pairs, chans := t.dev.chans, lans := t.dev.lans,
                         outs := t.dev.outs, vouts := t.dev.vouts, tide := t.dev.tide }

/-- The timing events of the Buoys (R75, R79, R88, R92, R95, R247, R447, Table 3-6): a filtered pulse is counted; a pulse of a bad width is a
range failure and no event; the first event of a DOWN slot makes it RETURNING; the edge that the TDC times moves an UP slot's
grid on and gives each channel that follows the slot one more phase; a pushed estimate is taken in its turn; and a slot without
its event in time goes DOWN. A slot without a decoder, and the clock of a port that is neither CAL nor UP, give no event. -/
def Obligations.TimingEvents : Prop :=
  ∀ (n : Fin 64) (s : State), s.dev.buoysOn = true →
    (∀ k : Fin 32, n = k.castLE (by omega) → s.dev.decoder n ≠ 0 → ∃ t, exec (.glitchFiltered k) s = .next t ∧ t.pending = s.pending ∧
      t.dev = { s.dev with regs := t.dev.regs } ∧ Counts (buoyOff n + 0x24) 16 16 s.dev t.dev ∧
      KeepsRegs [buoyOff n + 0x24] s.dev t.dev) ∧
    (∀ ev : TimingEv, n.val < 44 → s.dev.decoder n = 0 ∨ s.dev.clockFed n = false → exec (.timingEvent n ev) s = .next s) ∧
    (∀ ev : TimingEv, n.val < 44 → s.dev.clockFed n = true →
      (s.dev.decoder n = 2 ∨ s.dev.decoder n = 3 → ev.widthNs < 100 ∨ 900000000 < ev.widthNs → ∃ t,
        exec (.timingEvent n ev) s = .next t ∧ t.pending = s.pending ∧ Counts (buoyOff n + 0x28) 16 16 s.dev t.dev ∧
        KeepsRegs [buoyOff n + 0x28] s.dev t.dev ∧ Reports 33 n s.dev t.dev ∧
        t.dev = { s.dev with regs := t.dev.regs, watch := t.dev.watch, buoys := s.dev.buoys.set n { s.dev.buoy n with
          dec := { (s.dev.buoy n).dec with rangeNow := true } } }) ∧
      (s.dev.decoder n = 1 ∨ s.dev.decoder n = 6 ∨ s.dev.decoder n = 9 → (s.dev.buoy n).act.st = .down → ∃ t,
        exec (.timingEvent n ev) s = .next t ∧ t.pending = s.pending ∧
        t.dev = { s.dev with regs := t.dev.regs, ts := t.dev.ts, buoys := s.dev.buoys.set n { s.dev.buoy n with
          act := { (s.dev.buoy n).act with st := .returning, retCnt := 1, frames := 0, last := some ev.t },
          dec := { (s.dev.buoy n).dec with rangeNow := false } } }) ∧
      (s.dev.decoder n = 1 ∨ s.dev.decoder n = 6 ∨ s.dev.decoder n = 9 → (s.dev.buoy n).act.st = .up → s.dev.stray n ev.t = false →
        (s.dev.buoy n).act.pre = 0 → (s.dev.slotTev n).1 ≠ 0 → (s.dev.slotTev n).2 ≠ 0 → ∃ t,
        exec (.timingEvent n ev) s = .next t ∧ t.pending = s.pending ∧ (t.dev.buoy n).act.st = .up ∧
        (t.dev.buoy n).act.last = some ev.t ∧ (t.dev.buoy n).mon.idx = (s.dev.buoy n).mon.idx + 1 ∧
        (t.dev.buoy n).mon.phaseAt = ev.t ∧
        (∀ m, m ≠ n → t.dev.buoy m = s.dev.buoy m) ∧
        (∀ c, (s.dev.chan c).sel.cur = some n → engaged (s.dev.chan c) = true → (t.dev.chan c).track.phValid = true ∧
          (t.dev.chan c).track.evs.length = (s.dev.chan c).track.evs.length + 1 ∧ (t.dev.chan c).loop = (s.dev.chan c).loop) ∧
        (∀ c, (s.dev.chan c).sel.cur ≠ some n → t.dev.chan c = s.dev.chan c) ∧
        t.dev = { s.dev with regs := t.dev.regs, buoys := t.dev.buoys, chans := t.dev.chans, ts := t.dev.ts }) ∧
      (s.dev.decoder n = 1 ∨ s.dev.decoder n = 6 ∨ s.dev.decoder n = 9 → (s.dev.buoy n).act.st = .up → s.dev.stray n ev.t = true → ∃ t,
        exec (.timingEvent n ev) s = .next t ∧ t.pending = s.pending ∧ Counts (buoyOff n + 0x28) 16 16 s.dev t.dev ∧
        (t.dev.buoy n).act = (s.dev.buoy n).act ∧ (t.dev.buoy n).mon = (s.dev.buoy n).mon ∧
        (t.dev.buoy n).dec = { (s.dev.buoy n).dec with rangeNow := true } ∧ (∀ m, m ≠ n → t.dev.buoy m = s.dev.buoy m) ∧
        ((s.dev.buoy n).qual.st = .idle ∨ (s.dev.buoy n).qual.st = .held →
          KeepsRegs [buoyOff n + 0x28] s.dev t.dev ∧ Reports 33 n s.dev t.dev ∧
          t.dev = { s.dev with regs := t.dev.regs, watch := t.dev.watch, buoys := t.dev.buoys }))) ∧
    (∀ (ev : TimingEv) (e : Estimate) (es : List Estimate), 61 ≤ n.val → (s.dev.buoy n).hs = e :: es → ∃ t x,
      exec (.timingEvent n ev) s = .next t ∧ t.pending = s.pending ∧ (t.dev.buoy n).hs = es ∧ (t.dev.buoy n).est = some x ∧
      x.raw = e.raw ∧ x.ffo = e.ffo ∧ x.at_ = e.at_ ∧ (∀ m, m ≠ n → t.dev.buoy m = s.dev.buoy m)) ∧
    ((s.dev.buoy n).act.st = .up → ∃ t, exec (.buoyLoss n) s = .next t ∧ SlotIsDown n s t) ∧
    ((s.dev.buoy n).act.st = .returning → ∃ t, exec (.buoyLoss n) s = .next t ∧ t.pending = s.pending ∧
      (t.dev.buoy n).act = { (s.dev.buoy n).act with st := .down, retCnt := 0, frames := 0, last := none } ∧
      (t.dev.buoy n).qual = (s.dev.buoy n).qual ∧ (∀ m, m ≠ n → t.dev.buoy m = s.dev.buoy m) ∧
      (∀ c, (t.dev.chan c).loop = (s.dev.chan c).loop ∧ (t.dev.chan c).st = (s.dev.chan c).st ∧
        (t.dev.chan c).sel.cur = (s.dev.chan c).sel.cur) ∧
      t.dev = { s.dev with regs := t.dev.regs, bar4 := t.dev.bar4, host := t.dev.host, keeper := t.dev.keeper, buoys := t.dev.buoys,
                           pairs := t.dev.pairs, chans := t.dev.chans } ∧ EventFrame [] s.dev t.dev) ∧
    ((s.dev.buoy n).act.st = .down → ∃ t, exec (.buoyLoss n) s = .next t ∧ t = s.withDev { s.dev with
      buoys := s.dev.buoys.set n { s.dev.buoy n with dec := { (s.dev.buoy n).dec with lock := false, run := 0 } } })

/-- The decoders (R81 to R85): a message out of its window or with failing checks ends TOD_VALID, one out of range is a range failure,
an accepted one is published; an LTC frame that follows its predecessor, and one with a bad digit, out of range or out of sequence; an AES3 block, and a change of video format, which
takes an UP slot down. -/
def Obligations.Decoders : Prop :=
  ∀ (k : Fin 32) (n : Fin 64) (s : State), s.dev.buoysOn = true → n = k.castLE (by omega) →
    (∀ m : TodMsg, s.dev.decoder n = 3 → m.listed = true → m.ptp = (fld (s.dev.rd (buoyOff n)) 18 2 == 1) →
      (todInWindow (bit (s.dev.rd (buoyOff n)) 17) m = false ∨ m.checksOk = false → ∃ t, exec (.todMessage k m) s = .next t ∧
        t.pending = s.pending ∧ Counts (buoyOff n + 0x28) 0 16 s.dev t.dev ∧ KeepsRegs [buoyOff n + 0x28] s.dev t.dev ∧
        Reports 34 n s.dev t.dev ∧
        t.dev = { s.dev with regs := t.dev.regs, watch := t.dev.watch, buoys := s.dev.buoys.set n { s.dev.buoy n with
          dec := { (s.dev.buoy n).dec with todValid := false, todRun := 0, todSec := none, msg := true } } }) ∧
      (todInWindow (bit (s.dev.rd (buoyOff n)) 17) m = true → m.checksOk = true → m.ptp = false → utcInRange m = false →
        ∃ t, exec (.todMessage k m) s = .next t ∧ t.pending = s.pending ∧ Counts (buoyOff n + 0x28) 16 16 s.dev t.dev ∧
        KeepsRegs [buoyOff n + 0x28] s.dev t.dev ∧ Reports 33 n s.dev t.dev ∧ (t.dev.buoy n).dec.todValid = false ∧
        (t.dev.buoy n).dec.rangeNow = true) ∧
      (∀ next : Bool, todInWindow (bit (s.dev.rd (buoyOff n)) 17) m = true → m.checksOk = true →
        (m.ptp = true ∨ utcInRange m = true) →
        (next = true ↔ ∀ p, (s.dev.buoy n).dec.todSec = some p →
          (todSecond m : Int) = p + (if (s.dev.buoy n).dec.sixty then 0 else 1)) →
        ∃ t, exec (.todMessage k m) s = .next t ∧ t.pending = s.pending ∧
          (t.dev.buoy n).dec.todSec = some (todSecond m : Int) ∧
          (t.dev.buoy n).dec.todRun = (if next then min ((s.dev.buoy n).dec.todRun + 1) 3 else 1) ∧
          (t.dev.buoy n).dec.todValid = ((next && (s.dev.buoy n).dec.todValid) || decide ((t.dev.buoy n).dec.todRun = 3)) ∧
          t.dev.rd (buoyOff n + 0x74) = word (todSecond m) ∧ t.dev.rdF (buoyOff n + 0x70) 31 1 = 1 ∧
          t.dev.rdF (buoyOff n + 0x70) 0 16 = (s.dev.rdF (buoyOff n + 0x70) 0 16 + 1) % 65536 ∧
          (∀ j, j ≠ n → t.dev.buoy j = s.dev.buoy j) ∧
          t.dev = { s.dev with regs := t.dev.regs, bar4 := t.dev.bar4, host := t.dev.host, watch := t.dev.watch,
                               keeper := t.dev.keeper, buoys := t.dev.buoys, ts := t.dev.ts })) ∧
    (∀ (f : LtcFrame) (h m sec r : Nat), s.dev.decoder n = 4 → bcd f.hh = some h → bcd f.mm = some m → bcd f.ss = some sec →
      bcd f.ff = some r → h ≤ 23 → m ≤ 59 → sec ≤ 59 → r < (s.dev.ltcRate n f.drop).2 →
      (∀ p, (s.dev.buoy n).dec.ltc = some p →
        ltcNext (s.dev.ltcRate n f.drop).2 (decide ((s.dev.ltcRate n f.drop).1 = 3)) p = (h, m, sec, r)) →
      ∃ t, exec (.ltcFrame k f) s = .next t ∧ t.pending = s.pending ∧ (t.dev.buoy n).dec.ltc = some (h, m, sec, r) ∧
        (t.dev.buoy n).dec.run = (s.dev.buoy n).dec.run + 1 ∧ (t.dev.buoy n).dec.rangeNow = false ∧
        (t.dev.buoy n).dec.frameBad = false ∧
        (t.dev.buoy n).dec.lock = ((s.dev.buoy n).dec.lock ||
          decide (4 ≤ (s.dev.buoy n).dec.run + 1 ∧ (s.dev.buoy n).act.st ≠ .down)) ∧
        (t.dev.buoy n).act = (s.dev.buoy n).act ∧ (∀ j, j ≠ n → t.dev.buoy j = s.dev.buoy j) ∧
        ((s.dev.buoy n).qual.st = .idle ∨ (s.dev.buoy n).qual.st = .held →
          t.dev.rd (buoyOff n + 0x74) = word (leNat [f.ff, f.ss, f.mm, f.hh]) ∧ t.dev.rd (buoyOff n + 0x78) = f.user ∧
          t.dev = { s.dev with regs := t.dev.regs, buoys := t.dev.buoys })) ∧
    (∀ f : LtcFrame, s.dev.decoder n = 4 →
      (∀ h m sec r, bcd f.hh = some h → bcd f.mm = some m → bcd f.ss = some sec → bcd f.ff = some r →
        23 < h ∨ 59 < m ∨ 59 < sec ∨ (s.dev.ltcRate n f.drop).2 ≤ r ∨
        ∃ p, (s.dev.buoy n).dec.ltc = some p ∧
          ltcNext (s.dev.ltcRate n f.drop).2 (decide ((s.dev.ltcRate n f.drop).1 = 3)) p ≠ (h, m, sec, r)) →
      ∃ t, exec (.ltcFrame k f) s = .next t ∧ t.pending = s.pending ∧ (t.dev.buoy n).dec.lock = false ∧
        (t.dev.buoy n).dec.ltc = none ∧ (t.dev.buoy n).dec.rangeNow = true ∧ (t.dev.buoy n).dec.frameBad = true ∧
        (t.dev.buoy n).act = (s.dev.buoy n).act ∧ (∀ j, j ≠ n → t.dev.buoy j = s.dev.buoy j)) ∧
    (∀ b : AesBlock, s.dev.decoder n = 5 → ∃ t, exec (.aesBlock k b) s = .next t ∧ t.pending = s.pending ∧
      (t.dev.buoy n).dec.lock = (decide (b.frames = 192 ∧ b.misplaced = 0) && b.crcOk && decide ((s.dev.buoy n).act.st ≠ .down)) ∧
      (t.dev.buoy n).dec.format = b8 b.rate ∧ (t.dev.buoy n).dec.rangeNow = decide (b.frames ≠ 192) ∧
      (t.dev.buoy n).act = (s.dev.buoy n).act ∧ (∀ j, j ≠ n → t.dev.buoy j = s.dev.buoy j) ∧
      (b.frames = 192 → b.crcOk = true → b.misplaced = 0 → (s.dev.buoy n).qual.st = .idle ∨ (s.dev.buoy n).qual.st = .held →
        t.dev.rd (buoyOff n + 0x74) = word (leNat (b.status.take 4)) ∧
        t.dev = { s.dev with regs := t.dev.regs, buoys := t.dev.buoys })) ∧
    (∀ (vin : Fin 4) (fmt : BitVec 8) (v : Fin 64), v.val = 32 + vin.val → (s.dev.buoy v).dec.format ≠ fmt →
      ∃ t, exec (.videoFormatChange vin fmt) s = .next t ∧ t.pending = s.pending ∧ (t.dev.buoy v).dec.format = fmt ∧
        (t.dev.buoy v).dec.lock = false ∧ (t.dev.buoy v).act.st = .down ∧
        t.dev.rdU40 (buoyOff v + 4) = linesOf fmt.toNat * (frameRate fmt.toNat).1 ∧
        t.dev.rdF (buoyOff v + 0xC) 0 16 = (frameRate fmt.toNat).2 ∧ (∀ j, j ≠ v → t.dev.buoy j = s.dev.buoy j) ∧
        ((s.dev.buoy v).act.st = .down → t.dev = { s.dev with regs := t.dev.regs, buoys := t.dev.buoys } ∧
          KeepsRegs [buoyOff v + 4, buoyOff v + 8, buoyOff v + 0xC] s.dev t.dev))

/-- The monitors of a slot (R94, R97 to R100): a clean gate's frequency is published, a gross one takes the slot down; a TIE sample,
which begins an MTIE period where there is none (log entry 146, DESIGN CHOICE, for DONE); the end of an MTIE period. -/
def Obligations.Monitors : Prop :=
  ∀ (n : Fin 64) (s : State), s.dev.buoysOn = true →
    (∀ y, (s.dev.buoy n).mon.gateClean = true → s.dev.isUp n = true → s.dev.gateY n = some y →
      (y.natAbs * 100 ≤ 281474976710656 → ∃ t, exec (.freqGateEnd n) s = .next t ∧ t.pending = s.pending ∧
        (t.dev.buoy n).mon.freqValid = true ∧ (t.dev.buoy n).mon.y = sat40 y ∧ (t.dev.buoy n).mon.gateFrom = none ∧
        (t.dev.buoy n).mon.gateN = 0 ∧ (t.dev.buoy n).act = (s.dev.buoy n).act ∧ (∀ m, m ≠ n → t.dev.buoy m = s.dev.buoy m) ∧
        ((s.dev.buoy n).qual.st = .idle ∨ (s.dev.buoy n).qual.st = .held →
          t.dev.rd40 (buoyOff n + 0x30) = sat40 y ∧ t.dev = { s.dev with regs := t.dev.regs, buoys := t.dev.buoys } ∧
          KeepsRegs [buoyOff n + 0x30, buoyOff n + 0x34, buoyOff n + 0x38, buoyOff n + 0x3C] s.dev t.dev)) ∧
      (281474976710656 < y.natAbs * 100 → ∃ t, exec (.freqGateEnd n) s = .next t ∧ SlotIsDown n s t ∧
        (t.dev.buoy n).act.gross = true)) ∧
    ((s.dev.buoy n).mon.gateClean = false ∨ s.dev.isUp n = false ∨ s.dev.gateY n = none → ∃ t, exec (.freqGateEnd n) s = .next t ∧
      t = { s with dev := { s.dev with buoys := s.dev.buoys.set n { s.dev.buoy n with mon := { (s.dev.buoy n).mon with
        gateFfo := [], gateFrom := none, gateN := 0, gateClean := s.dev.isUp n, gateChans := s.dev.ffoMarks } } } }) ∧
    (∀ v, s.dev.isUp n = true → v = sat40 (s.dev.tieRaw n - (match (s.dev.buoy n).mon.tieZero with
        | some z => if (s.dev.buoy n).mon.tieCh = s.dev.cmpChan n then z else s.dev.tieRaw n
        | none => s.dev.tieRaw n)) →
      ∃ t, exec (.tieSample n) s = .next t ∧ t.pending = s.pending ∧ t.dev.rd40 (buoyOff n + 0x40) = v ∧
        (t.dev.buoy n).mon.tie = (s.dev.buoy n).mon.tie ++ [v] ∧ (t.dev.buoy n).act = (s.dev.buoy n).act ∧
        (∀ m, m ≠ n → t.dev.buoy m = s.dev.buoy m) ∧ t.dev = { s.dev with regs := t.dev.regs, buoys := t.dev.buoys } ∧
        KeepsRegs [buoyOff n + 0x40, buoyOff n + 0x44, buoyOff n + 0x50] s.dev t.dev ∧
        ((s.dev.buoy n).mon.tie = [] → t.dev.rdF (buoyOff n + 0x50) 31 1 = 0 ∧
          t.dev.rdF (buoyOff n + 0x50) 0 31 = s.dev.rdF (buoyOff n + 0x50) 0 31) ∧
        ((s.dev.buoy n).mon.tie ≠ [] → t.dev.rd (buoyOff n + 0x50) = s.dev.rd (buoyOff n + 0x50))) ∧
    ((s.dev.buoy n).mon.tie ≠ [] ∨ (s.dev.buoy n).mon.tieLeft = true → ∃ t, exec (.mtiePeriodEnd n) s = .next t ∧
      t.pending = s.pending ∧ (t.dev.buoy n).mon.tie = [] ∧ (t.dev.buoy n).mon.tieLeft = false ∧
      (t.dev.buoy n).mon.mtie.isSome = s.dev.isUp n ∧ (t.dev.buoy n).act = (s.dev.buoy n).act ∧
      (∀ m, m ≠ n → t.dev.buoy m = s.dev.buoy m) ∧
      ((s.dev.buoy n).qual.st = .idle ∨ (s.dev.buoy n).qual.st = .held →
        t.dev = { s.dev with regs := t.dev.regs, draws := t.dev.draws, buoys := t.dev.buoys } ∧
        t.dev.rdF (buoyOff n + 0x50) 31 1 = 1 ∧ t.dev.rdF (buoyOff n + 0x50) 30 1 = bitAt 0 (s.dev.buoy n).mon.tieLeft ∧
        t.dev.rdF (buoyOff n + 0x50) 0 16 = (s.dev.rdF (buoyOff n + 0x50) 0 16 + 1) % 65536 ∧
        (∀ (k : Nat) (v : Nat), k < 4 → mtieOf (2 ^ s.dev.rdF (buoyOff n + 0x1C) (5 * k) 5) (s.dev.buoy n).mon.tie = some v →
          t.dev.rd (buoyOff n + 0x54 + 4 * k) = word (satN 32 v))))

/-- The matrix cycle (R101, R102), the qualification timer (R110, R112) and the end of an arming (R127). -/
def Obligations.MatrixAndQualification : Prop :=
  ∀ s : State,
    (s.dev.clk.xo = true → s.dev.blockReady 7 = true → ∃ t, exec .matrixCycleEnd s = .next t ∧ t.pending = s.pending ∧ t.dev.cycle = s.dev.cycle + 1 ∧
      (∀ n, (t.dev.buoy n).mon.cycUp = s.dev.isUp n ∧ (t.dev.buoy n).act = (s.dev.buoy n).act) ∧
      (∀ i j : Fin 64, i < j → (t.dev.pair (pairIdx i j)).fresh =
        decide ((s.dev.buoy i).mon.cycUp = true ∧ s.dev.isUp i = true ∧ (s.dev.buoy i).mon.cycPhase.isSome = true ∧
          (s.dev.buoy j).mon.cycUp = true ∧ s.dev.isUp j = true ∧ (s.dev.buoy j).mon.cycPhase.isSome = true)) ∧
      t.dev.clk = s.dev.clk ∧ t.dev.ts = s.dev.ts ∧ t.dev.ports = s.dev.ports) ∧
    (∀ n : Fin 64, (s.dev.buoy n).qual.st = .first ∨ (s.dev.buoy n).qual.st = .wtr →
      (s.dev.accepted n = true → ∃ t, exec (.qualTimerExpiry n) s = .next t ∧ t.pending = s.pending ∧
        t.dev.buoy n = { s.dev.buoy n with qual := { (s.dev.buoy n).qual with
          st := .qualified, ever := true, expired := false, fromMs := s.dev.tbMs } } ∧
        (∀ m, m ≠ n → t.dev.buoy m = s.dev.buoy m) ∧
        (s.dev.apActive = false → Counts (buoyOff n + 0x1A4) 16 16 s.dev t.dev ∧ EventFrame [buoyOff n + 0x1A4] s.dev t.dev ∧
          t.dev = { s.dev with regs := t.dev.regs, bar4 := t.dev.bar4, host := t.dev.host, keeper := t.dev.keeper,
                               buoys := t.dev.buoys })) ∧
      (s.dev.accepted n = false → ∃ t, exec (.qualTimerExpiry n) s = .next t ∧
        t = { s with dev := { s.dev with buoys := s.dev.buoys.set n { s.dev.buoy n with
          qual := { (s.dev.buoy n).qual with expired := true } } } })) ∧
    (∀ c : Fin 16, (s.dev.chan c).sel.armed.isSome = true → ∃ t, exec (.forceArmExpiry c) s = .next t ∧ t.pending = s.pending ∧
      t.dev = { s.dev with regs := t.dev.regs, chans := s.dev.chans.set c { s.dev.chan c with
        sel := { (s.dev.chan c).sel with armed := none } } } ∧
      t.dev.rdF (chanOff c + 0xC10) 7 1 = 0 ∧ KeepsRegs [chanOff c + 0xC10] s.dev t.dev)

/-! ### Tide channels -/

/-- One update of a channel (R133, R145 to R147): in FREE_RUN b moves toward FR_OFFSET by at most FR and p is 0; (DCO: toward the
frequency written); in every update b stays within ±PULL, |p| ≤ S, y is b + p, and the NCO advances by T_u (1 + y), and by D where the
update takes D and its mode is JUMP (R166, R177); the window of a pull-in gives a new
target or ends it with its D (R151, R152); LOCK_TIME makes the channel LOCKED (R153). -/
def Obligations.ChannelUpdates : Prop :=
  ∀ (c : Fin 16) (s : State),
    (∀ (dt : Int) (l : Loop), s.dev.clk.xo = true → s.dev.blockReady 8 = true → l = (s.dev.chan c).loop →
      dt = roundDiv ((s.dev.tu c).1 * two24) (s.dev.tu c).2 →
      (∀ want : Int, (s.dev.chan c).st = .freeRun → want = (if (s.dev.chan c).mode = .dco then s.dev.rd40 (chanOff c + 0x10)
          else s.dev.frOffset c) * two24 → ∃ t, exec (.chanUpdate c) s = .next t ∧ t.pending = s.pending ∧
        (t.dev.chan c).loop = { l with
          b := moveB l.b want (s.dev.fr24 c) (s.dev.pull24 c), p := 0, vSw := 0,
          y := sat40 (roundDiv (moveB l.b want (s.dev.fr24 c) (s.dev.pull24 c)) two24),
          nco := l.nco + dt + dt * sat40 (roundDiv (moveB l.b want (s.dev.fr24 c) (s.dev.pull24 c)) two24)
            / two48,
          at_ := l.at_ + dt } ∧
        (t.dev.chan c).st = .freeRun ∧ (t.dev.chan c).sel = (s.dev.chan c).sel ∧
        (∀ k, k ≠ c → t.dev.chan k = s.dev.chan k) ∧
        t.dev = { s.dev with regs := t.dev.regs, chans := t.dev.chans, lans := t.dev.lans, ts := t.dev.ts } ∧
        KeepsRegs [chanOff c + 0x38, chanOff c + 0x3C, chanOff c + 0x40, chanOff c + 0x44, chanOff c + 0x74] s.dev t.dev) ∧
      (∃ (t : State) (g : Int), exec (.chanUpdate c) s = .next t ∧ t.pending = s.pending ∧
        (t.dev.chan c).loop.at_ = l.at_ + dt ∧ (t.dev.chan c).loop.y =
          sat40 (roundDiv ((t.dev.chan c).loop.b + (t.dev.chan c).loop.p) two24) ∧
        (t.dev.chan c).loop.nco = l.nco + g + dt + dt * (t.dev.chan c).loop.y / two48 ∧
        ((s.dev.chan c).sw.due = false → g = 0) ∧
        ((s.dev.chan c).sw.due = true → engaged (s.dev.chan c) = true → (s.dev.chan c).track.phValid = true →
          tracking (s.dev.chan c) = true → (t.dev.chan c).sw.due = false ∧ (t.dev.chan c).sw.await = false ∧
          (t.dev.chan c).sw.d = clampI (-549755813888) 549755813887 (s.dev.updateE c) ∧
          g = (if (t.dev.chan c).sw.lastMode = .jump then (t.dev.chan c).sw.d * two24 else 0)) ∧
        ((l.b.natAbs : Int) ≤ s.dev.pull24 c → ((t.dev.chan c).loop.b.natAbs : Int) ≤ s.dev.pull24 c) ∧
        ((t.dev.chan c).loop.p.natAbs : Int) ≤ s.dev.slopeS c * two24 ∧
        (t.dev.chan c).ffoN = (s.dev.chan c).ffoN + 1 ∧
        (t.dev.chan c).ffoSum = (s.dev.chan c).ffoSum + (t.dev.chan c).loop.y ∧
        (∀ k, k ≠ c → t.dev.chan k = s.dev.chan k) ∧
        t.dev = { s.dev with regs := t.dev.regs, bar4 := t.dev.bar4, host := t.dev.host, watch := t.dev.watch, keeper := t.dev.keeper,
                             chans := t.dev.chans, lans := t.dev.lans, outs := t.dev.outs, vouts := t.dev.vouts, ts := t.dev.ts })) ∧
    (∀ (e0 f24 : Int), s.dev.blockReady 8 = true → (s.dev.chan c).track.winE = some e0 → (s.dev.chan c).st = .acquiring → (s.dev.chan c).track.fpull = true →
      (s.dev.chan c).track.phValid = true →
      f24 = ((s.dev.chan c).loop.e - e0) * two24 * two48 * (pullWindow (s.dev.tu c)).2 / (pullWindow (s.dev.tu c)).1 →
      (s.dev.slopeS c * two24 < 4 * f24.natAbs ∨ s.dev.pull24 c ≤ (s.dev.chan c).loop.b.natAbs → ∃ t,
        exec (.pullinWindowEnd c) s = .next t ∧ t = { s with dev := { s.dev with chans := s.dev.chans.set c { s.dev.chan c with
          loop := { (s.dev.chan c).loop with
            target := clampI (-s.dev.pull24 c) (s.dev.pull24 c) ((s.dev.chan c).loop.b + f24) },
          track := { (s.dev.chan c).track with winE := some (s.dev.chan c).loop.e } } } }) ∧
      (4 * f24.natAbs ≤ s.dev.slopeS c * two24 → (s.dev.chan c).loop.b.natAbs < s.dev.pull24 c → ∃ t,
        exec (.pullinWindowEnd c) s = .next t ∧ t.pending = s.pending ∧ (t.dev.chan c).track.fpull = false ∧
        (t.dev.chan c).sw.d = (s.dev.chan c).loop.e ∧ (t.dev.chan c).sw.await = false ∧ (t.dev.chan c).sw.due = false ∧
        (t.dev.chan c).sw.lastMode = (s.dev.modeFor c true).1 ∧
        ((s.dev.modeFor c true).1 = .pass → (t.dev.chan c).sw.switching = true ∧
          (t.dev.chan c).loop.phiSw = (s.dev.chan c).loop.e * 65536) ∧
        ((s.dev.modeFor c true).1 = .absorb → (t.dev.chan c).sw.switching = false ∧
          (t.dev.chan c).loop.phiSw = (s.dev.chan c).loop.e * 65536) ∧
        ((s.dev.modeFor c true).1 = .jump → (t.dev.chan c).sw.switching = false ∧ (t.dev.chan c).loop.phiSw = 0 ∧
          (t.dev.chan c).loop.nco = (s.dev.chan c).loop.nco + (s.dev.chan c).loop.e * two24) ∧
        (t.dev.chan c).st = .acquiring ∧ (∀ k, k ≠ c → t.dev.chan k = s.dev.chan k))) ∧
    (s.dev.blockReady 8 = true → (s.dev.chan c).st = .acquiring → (s.dev.chan c).track.lockRun = true → ∃ t, exec (.lockTimeExpiry c) s = .next t ∧
      t.pending = s.pending ∧ (t.dev.chan c).st = .locked ∧ (t.dev.chan c).everLocked = true ∧
      (t.dev.chan c).track.lockRun = false ∧ (t.dev.chan c).ho.run = true ∧ (t.dev.chan c).loop = (s.dev.chan c).loop ∧
      (∀ k, k ≠ c → t.dev.chan k = s.dev.chan k) ∧ Counts (chanOff c + 0x70) 16 16 s.dev t.dev ∧
      EventFrame [chanOff c + 0x70] s.dev t.dev ∧ t.dev.watch.reached.length = s.dev.watch.reached.length + 1 ∧
      t.dev = { s.dev with regs := t.dev.regs, bar4 := t.dev.bar4, host := t.dev.host, watch := t.dev.watch, keeper := t.dev.keeper,
                           chans := t.dev.chans, outs := t.dev.outs, vouts := t.dev.vouts })

/-- History, prediction and temperature (R179, R181 to R188); while XO is absent no second of them passes (R341, R342). -/
def Obligations.HistoryAndPrediction : Prop :=
  ∀ s : State,
    (s.dev.clk.xo = true → ∃ t, exec .historySnapshot s = .next t ∧ t.pending = s.pending ∧
      t.dev = { s.dev with chans := t.dev.chans } ∧ ∀ c, t.dev.chan c = { s.dev.chan c with ho := { (s.dev.chan c).ho with
        snaps := (⟨s.dev.clk.tbUs / 125, (s.dev.chan c).loop.b, tracking (s.dev.chan c)⟩ :: (s.dev.chan c).ho.snaps).take 2050 } }) ∧
    (∀ (c : Fin 16) (x : Chan), s.dev.clk.xo = true → x = s.dev.chan c → ∃ t, exec (.historySample c) s = .next t ∧ t.pending = s.pending ∧
      t.dev = { s.dev with regs := t.dev.regs, chans := t.dev.chans } ∧ (∀ k, k ≠ c → t.dev.chan k = s.dev.chan k) ∧
      KeepsRegs [chanOff c + 0x438, chanOff c + 0x43C, chanOff c + 0x440, chanOff c + 0x444] s.dev t.dev ∧
      (t.dev.chan c).ho.sum = 0 ∧ (t.dev.chan c).ho.n = 0 ∧ (t.dev.chan c).ho.whole = (x.ho.run && tracking x) ∧
      (t.dev.chan c).loop = x.loop ∧
      (x.ho.run = true → x.ho.whole = true → tracking x = true → x.ho.n ≠ 0 →
        (t.dev.chan c).ho.samples = ((roundDiv x.ho.sum x.ho.n,
          if s.dev.rdF (chanOff c + 0x400) 15 4 = 15 then none else x.ho.temp) :: x.ho.samples).take 1025 ∧
        (t.dev.chan c).ho.histS = min (x.ho.histS + 1) 16777215) ∧
      (x.ho.run = false ∨ x.ho.whole = false ∨ tracking x = false →
        (t.dev.chan c).ho.samples = x.ho.samples ∧ (t.dev.chan c).ho.histS = x.ho.histS)) ∧
    (∀ (c : Fin 16) (x : Chan) (tau : Nat) (y : Int) (u : Nat × Nat), s.dev.clk.xo = true → x = s.dev.chan c → x.st = .holdover → tau = x.ho.tau + 1 →
      y = s.dev.yPred c x.ho.base x.ho.tcenUs x.ho.tempB tau →
      u = uncertainty (s.dev.rdF (chanOff c + 0x408) 16 16) (s.dev.rdF (chanOff c + 0x408) 0 16) tau (x.ho.base - x.ho.bFrz).natAbs →
      (u.1 ≤ s.dev.rdF (chanOff c + 0x404) 0 23 * u.2 → ∃ t, exec (.holdoverSecond c) s = .next t ∧ t.pending = s.pending ∧
        t.dev = { s.dev with regs := t.dev.regs, chans := s.dev.chans.set c { x with
          ho := { x.ho with tau := tau }, loop := { x.loop with target := y } } } ∧
        t.dev.rd (chanOff c + 0x424) = word (satN 32 (u.1 / u.2)) ∧ t.dev.rd (chanOff c + 0x428) = word (satN 32 tau) ∧
        t.dev.rd40 (chanOff c + 0x448) = sat40 (roundDiv y two24) ∧
        KeepsRegs [chanOff c + 0x424, chanOff c + 0x428, chanOff c + 0x448, chanOff c + 0x44C] s.dev t.dev) ∧
      (s.dev.rdF (chanOff c + 0x404) 0 23 * u.2 < u.1 → ∃ t, exec (.holdoverSecond c) s = .next t ∧ t.pending = s.pending ∧
        (t.dev.chan c).st = .lost ∧ (t.dev.chan c).loop = { x.loop with target := x.loop.b } ∧ (t.dev.chan c).ho.histS = 0 ∧
        (t.dev.chan c).ho.samples = [] ∧ (t.dev.source (fsLost c)).cond = true ∧ (t.dev.source (fsHoldover c)).cond = false ∧
        (∀ k, k ≠ c → t.dev.chan k = s.dev.chan k) ∧ (t.dev.ring 8).seq = (s.dev.ring 8).seq + 1 ∧
        t.dev = { s.dev with regs := t.dev.regs, bar4 := t.dev.bar4, host := t.dev.host, watch := t.dev.watch, keeper := t.dev.keeper,
                             chans := t.dev.chans, outs := t.dev.outs, vouts := t.dev.vouts })) ∧
    (∀ (c : Fin 16) (b : Int × BitVec 2 × Nat × Option Int), s.dev.clk.xo = true → (s.dev.chan c).st ≠ .holdover →
      b = s.dev.predBase c (s.dev.bFreeze c) → ∃ t, exec (.hoPredictionSecond c) s = .next t ∧ t.pending = s.pending ∧
        t.dev = { s.dev with regs := t.dev.regs } ∧
        t.dev.rd40 (chanOff c + 0x448) = sat40 (roundDiv (s.dev.yPred c b.1 b.2.2.1 b.2.2.2 0) two24) ∧
        KeepsRegs [chanOff c + 0x448, chanOff c + 0x44C] s.dev t.dev) ∧
    (∀ (c : Fin 16) (w : Word), ∃ t v stale, exec (.tempSample c) s = .next t ∧ t = { s with dev := { s.dev with
        chans := s.dev.chans.set c { s.dev.chan c with ho := { (s.dev.chan c).ho with temp := v, tempStale := stale } } } } ∧
      (s.dev.rdF (chanOff c + 0x400) 15 4 < 8 → w = s.dev.rd (0x300200 + 4 * s.dev.rdF (chanOff c + 0x400) 15 4) →
        stale = false ∧ v = if bit w 31 then some (sfld w 0 16) else none) ∧
      (s.dev.rdF (chanOff c + 0x400) 15 4 = 8 → ∀ at_, (s.dev.chan c).ho.extAt = some at_ →
        (at_ + 10000000 ≤ s.dev.clk.aonUs → stale = true ∧ v = (s.dev.chan c).ho.temp) ∧
        (s.dev.clk.aonUs < at_ + 10000000 → stale = false ∧ v = some (sfld (s.dev.rd (chanOff c + 0x410)) 0 16))) ∧
      (s.dev.rdF (chanOff c + 0x400) 15 4 = 8 → (s.dev.chan c).ho.extAt = none →
        v = none ∧ (stale = true ↔ 10000000 ≤ s.dev.clk.aonUs)) ∧
      (8 < s.dev.rdF (chanOff c + 0x400) 15 4 → v = none ∧ stale = false)) ∧
    (∀ c : Fin 16, s.dev.clk.xo = false → exec (.historySample c) s = .next s ∧ exec (.holdoverSecond c) s = .next s ∧
      exec (.hoPredictionSecond c) s = .next s)

/-! ### Time scales -/

/-- The PPS edge of a started time scale (Table 8-4, R219 to R226): an edge with nothing pending emits its second once; a scheduled step
that is due moves O by its delta; a due leap changes UTC_OFFSET by one and moves nothing; a SET makes TS the triple at this
edge and starts an UNSET time scale. Then the notice of a leap (R227). -/
def Obligations.PpsEdges : Prop :=
  ∀ (n : Fin 4) (s : State),
    (∀ sec, (s.dev.tsc n).started = true → s.dev.clk.xo = true → sec = s.dev.edgeSec n → (s.dev.tsc n).armed = false → (s.dev.tsc n).utc = none →
      (s.dev.tsc n).localOfs = none → (s.dev.tsc n).st ≠ .todHold → s.dev.srcValid n = false →
      ((s.dev.tsc n).step = none → (s.dev.tsc n).set = none → (s.dev.tsc n).leap = none → ∃ t, exec (.ppsEdge n) s = .next t ∧
        t.pending = s.pending ∧ t.dev = { s.dev with regs := t.dev.regs, draws := t.dev.draws, ts := t.dev.ts } ∧
        (∀ k, k ≠ n → t.dev.tsc k = s.dev.tsc k) ∧
        KeepsRegs ((tsOff n + 0x70) :: (List.range 48).map fun m => sigOff m + 4) s.dev t.dev ∧
        (∀ h, (s.dev.tsc n).hiSec = some h → sec ≤ h →
          t.dev.tsc n = s.dev.tsc n ∧ Counts (tsOff n + 0x70) 0 16 s.dev t.dev) ∧
        ((s.dev.tsc n).hiSec = none ∨ (∃ h, (s.dev.tsc n).hiSec = some h ∧ h < sec) →
          t.dev.tsc n = { s.dev.tsc n with hiSec := some sec } ∧ t.dev.rd (tsOff n + 0x70) = s.dev.rd (tsOff n + 0x70))) ∧
      (∀ p : StepPend, (s.dev.tsc n).step = some p → (p.atSec : Int) ≤ sec → (s.dev.tsc n).set = none →
        (s.dev.tsc n).leap = none → ∃ t, exec (.ppsEdge n) s = .next t ∧ t.pending = s.pending ∧ (t.dev.tsc n).step = none ∧
          (t.dev.tsc n).ofs = (s.dev.tsc n).ofs + deltaGr p.dsec p.dns p.dgr * 16777216 ∧
          (t.dev.tsc n).st = (s.dev.tsc n).st ∧ (∀ k, k ≠ n → t.dev.tsc k = s.dev.tsc k) ∧ t.dev.chans = s.dev.chans ∧
          Counts (tsOff n + 0x70) 16 16 s.dev t.dev ∧ (t.dev.ring 8).seq = (s.dev.ring 8).seq + 1) ∧
      (∀ (del : Bool) (day : Nat), (s.dev.tsc n).leap = some (del, day) → (leapEdge (s.dev.utcOffset n) del day : Int) ≤ sec →
        (s.dev.tsc n).step = none → (s.dev.tsc n).set = none → ∃ t, exec (.ppsEdge n) s = .next t ∧ t.pending = s.pending ∧
          (t.dev.tsc n).leap = none ∧ (t.dev.tsc n).notice = false ∧ (t.dev.tsc n).ofs = (s.dev.tsc n).ofs ∧
          t.dev.utcOffset n = (if del then s.dev.utcOffset n - 1 else min (s.dev.utcOffset n + 1) 1023) ∧
          (∀ k, k ≠ n → t.dev.tsc k = s.dev.tsc k) ∧ t.dev.chans = s.dev.chans ∧ Counts (tsOff n + 0x74) 0 16 s.dev t.dev ∧
          (t.dev.ring 8).seq = (s.dev.ring 8).seq + 1) ∧
      (∀ g : Int, (s.dev.tsc n).set = some (.triple g) → (s.dev.tsc n).step = none → (s.dev.tsc n).leap = none → ∃ t,
        exec (.ppsEdge n) s = .next t ∧ t.pending = s.pending ∧ (t.dev.tsc n).set = none ∧ (t.dev.tsc n).st = .running ∧
          (t.dev.tsc n).ofs = (s.dev.tsc n).ofs + (g - sec * grPerSec) * 16777216 ∧
          (∀ k, k ≠ n → t.dev.tsc k = s.dev.tsc k) ∧ t.dev.chans = s.dev.chans ∧ Counts (tsOff n + 0x70) 16 16 s.dev t.dev)) ∧
    ((s.dev.tsc n).started = false ∨ s.dev.clk.xo = false → exec (.ppsEdge n) s = .next s) ∧
    (∃ t, exec (.leapNoticeStart n) s = .next t ∧ t = { s with dev := { s.dev with
      ts := s.dev.ts.set n { s.dev.tsc n with notice := (s.dev.tsc n).leap.isSome } } })

/-! ### Commands of the rings -/

/-- The commands of the rings with their opcodes: `c` is the descriptor, `data` the host data of those that read a buffer, `stop` the
safe point at which one that runs in parts stands still. -/
def ringCommands (c : Cmd) (data : List Byte) (stop : Option Nat) : List (Nat × Instr) :=
  [(0x01, .nop c), (0x02, .queryState c), (0x10, .refConfig c), (0x11, .refQualParams c), (0x12, .refForceState c), (0x20, .chanConfig c),
   (0x21, .chanSelect c), (0x22, .chanMode c), (0x23, .chanHoldoverModel c), (0x30, .outConfig c), (0x31, .outEnable c),
   (0x32, .lanternConfig c), (0x33, .voutConfig c), (0x40, .tsSet c), (0x41, .tsStepSchedule c), (0x42, .tsLeapSchedule c),
   (0x50, .portConfig c), (0x51, .ptpInstanceConfig c), (0x52, .clientTableAttach c), (0x53, .clientUpdate ⟨c, stop⟩), (0x54, .packetSend c),
   (0x60, .tlConfig c), (0x61, .tlElect c), (0x70, .nvWrite c), (0x71, .nvRead c), (0x72, .nvCommit c), (0x73, .nvRawPage c ⟨data, stop⟩),
   (0x74, .nvTallyAdd c), (0x80, .fwChunk c ⟨data, stop⟩), (0x81, .fwActivate c), (0x90, .pwrOpp c), (0x91, .anchorEnter c),
   (0xA0, .faultConfig c)]

/-- The sources before `src` in the arbiter's fixed order (R320). -/
def sourcesBefore (src : CmdSrc) : List CmdSrc := cmdSources.takeWhile fun x => x ≠ src

/-- The arbiter (R319, R320). It takes the oldest command fetched of a source that is ready and whose object is free: of two such
sources the first in the fixed order, unless one has been passed over 256 times; it counts the sources it passes over. A command
that it does not take, its source busy, its completion ring without a returned slot, not the oldest fetched, or its object serving an
earlier command, leaves the state as it is: that a command waits so is the model's DESIGN CHOICE of log entry 18. NOP and QUERY_STATE:
a QUERY_STATE writes the registers of one object's window to its buffer. -/
def Obligations.CommandsThatWait : Prop :=
  ∀ (c : Cmd) (s : State),
    (∀ data stop, ∀ e ∈ ringCommands c data stop, s.dev.accepts c.src = false ∨ s.dev.headCmd c.src ≠ some (e.1, c) ∨
      s.dev.objectHeld e.1 c = true ∨ s.dev.takes e.1 c = false → exec e.2 s = .next s) ∧
    (∀ data stop, s.dev.chartHeld = true →
      ∀ x ∈ [Instr.nvWrite c, .nvRead c, .nvCommit c, .nvRawPage c ⟨data, stop⟩, .nvTallyAdd c], exec x s = .next s) ∧
    (∀ data stop, s.dev.fw.activate.isSome = true → exec (.fwChunk c ⟨data, stop⟩) s = .next s ∧ exec (.fwActivate c) s = .next s) ∧
    (s.dev.portHeld (Fin.ofNat 8 (pf c 0 0 3)) = true → exec (.packetSend c) s = .next s ∧ exec (.portConfig c) s = .next s) ∧
    (s.dev.pwr.oppCmd.isSome = true ∨ s.dev.pwr.anchorCmd.isSome = true →
      exec (.pwrOpp c) s = .next s ∧ exec (.anchorEnter c) s = .next s) ∧
    (∀ op, s.dev.accepts c.src = true → s.dev.headCmd c.src = some (op, c) → s.dev.objectHeld op c = false →
      (s.dev.host.passed.get (srcIdx c.src) < 256 → (∀ x, s.dev.canTake x = true → s.dev.host.passed.get (srcIdx x) < 256) →
        (∀ x ∈ sourcesBefore c.src, s.dev.canTake x = false) → s.dev.takes op c = true) ∧
      (256 ≤ s.dev.host.passed.get (srcIdx c.src) →
        (∀ x ∈ sourcesBefore c.src, s.dev.canTake x = true → s.dev.host.passed.get (srcIdx x) < 256) → s.dev.takes op c = true)) ∧
    (∀ op x, (s.dev.begun c op).host.passed.get (srcIdx x) =
      if x ≠ c.src ∧ s.dev.canTake x = true then s.dev.host.passed.get (srcIdx x) + 1 else 0) ∧
    Serves (.nop c) c 0x01 [] [] s (fun o d => o = .ok ∧ d = s.dev.begun c 0x01) ∧
    (
      (queryWindow (pf c 0 0 4) = none → Serves (.queryState c) c 0x02 ([(0, 0, 4), (0, 16, 6)] ++ wholes 1 3) [0] s (fun _ _ => False)) ∧
      (∀ base size count, queryWindow (pf c 0 0 4) = some (base, size, count) →
        Serves (.queryState c) c 0x02 ([(0, 0, 4), (0, 16, 6)] ++ wholes 1 3)
          (failIf (count ≤ pf c 0 16 6 || pf c 3 0 32 < size) 0) s (fun o d =>
            o = .ok size ∧ d = (s.dev.begun c 0x02).memWrite (pf c 1 0 1 = 1) (bufAddr c 1)
              ((List.range (size / 4)).flatMap fun k =>
                wordBytes ((s.dev.begun c 0x02).queryWord (base + size * pf c 0 16 6 + 4 * k))))))

/-- The commands of the reference slots. REF_CONFIG is refused while a channel follows the slot; otherwise the slot goes DOWN with
its new set-up and forgets that it ever qualified. REF_QUAL_PARAMS stores its words. REF_FORCE_STATE sets and clears the host's
hold, or ends the timer of FIRST and WTR. -/
def Obligations.SlotCommands : Prop :=
  ∀ (c : Cmd) (s : State) (n : Fin 64), n = Fin.ofNat 64 (pf c 0 0 6) →
    Serves (.refConfig c) c 0x10 ((0, 0, 6) :: wholes 1 8) (refConfigBad c (s.dev.begun c 0x10)) s (fun o d =>
      (s.dev.followed n = true → o = .refused ∧ d = s.dev.begun c 0x10) ∧
      (s.dev.followed n = false → o = .ok ∧ (d.buoy n).act.st = .down ∧ (d.buoy n).qual.ever = false ∧
        d = { s.dev.begun c 0x10 with
          regs := d.regs, bar4 := d.bar4, host := d.host, watch := d.watch, keeper := d.keeper, buoys := d.buoys, pairs := d.pairs,
          chans := d.chans, lans := d.lans, outs := d.outs, vouts := d.vouts, tide := d.tide } ∧
        (∀ k, k ≠ n → d.buoy k = s.dev.buoy k) ∧ d.rdF (buoyOff n + 0x50) 31 1 = 0 ∧
        ((s.dev.buoy n).act.st ≠ .up → d = { s.dev.begun c 0x10 with
            regs := d.regs, bar4 := d.bar4, host := d.host, keeper := d.keeper, buoys := d.buoys, pairs := d.pairs, chans := d.chans } ∧
          (∀ k, (d.chan k).loop = (s.dev.chan k).loop ∧ (d.chan k).sel.cur = (s.dev.chan k).sel.cur) ∧
          Stands ((buoyOff n, wordAt c.words 1) :: wordsAt c 5 (buoyOff n + 0x10) 4) d ∧
          (rateFixed (pf c 1 28 4) = false →
            d.rdU40 (buoyOff n + 4) = pf c 2 0 32 + pf c 3 0 8 * 4294967296 ∧ d.rd (buoyOff n + 0xC) = wordAt c.words 4) ∧
          (∀ a, (a < buoyOff n ∨ buoyOff n + 0x20 ≤ a) → a ≠ buoyOff n + 0x50 → ¬ EventWord a → d.rd a = s.dev.rd a)))) ∧
    Serves (.refQualParams c) c 0x11 ((0, 0, 6) :: wholes 1 7) (refQualBad c) s (fun o d =>
      o = .ok ∧ d = { s.dev.begun c 0x11 with regs := d.regs } ∧
        Stored (wordsAt c 1 (buoyOff n + 0x180) 3 ++ wordsAt c 4 (buoyOff n + 0x190) 4) s.dev d) ∧
    Serves (.refForceState c) c 0x12 [(0, 0, 6), (0, 8, 2)] (failIf (pf c 0 8 2 = 3) 8) s (fun o d =>
      let q := (s.dev.buoy n).qual
      let q' := (d.buoy n).qual
      (∀ k, k ≠ n → d.buoy k = s.dev.buoy k) ∧
      d = { s.dev.begun c 0x12 with
        regs := d.regs, bar4 := d.bar4, host := d.host, watch := d.watch, keeper := d.keeper, buoys := d.buoys, chans := d.chans,
        lans := d.lans, outs := d.outs, vouts := d.vouts } ∧
      (pf c 0 8 2 = 2 → q.st ≠ .first → q.st ≠ .wtr → o = .refused q.st.code ∧ d = s.dev.begun c 0x12) ∧
      (pf c 0 8 2 = 2 → q.st = .first ∨ q.st = .wtr → o = .ok q'.st.code ∧
        (s.dev.accepted n = true → q'.st = .qualified ∧ q'.ever = true) ∧
        (s.dev.accepted n = false → q' = { q with expired := true })) ∧
      (pf c 0 8 2 = 1 → o = .ok 5 ∧ q'.st = .held ∧ q'.hostHold = true ∧ q'.reroute = q.reroute) ∧
      (pf c 0 8 2 = 0 → o = .ok q'.st.code ∧ q'.hostHold = false ∧
        (q.st ≠ .held → q' = { q with hostHold := false }) ∧
        (q.st = .held → q.reroute = true → q'.st = .held) ∧
        (q.st = .held → q.reroute = false →
          q'.st = if s.dev.isUp n then (if s.dev.rejects n then .failed else if q.ever then .wtr else .first) else .idle)))

/-- The commands of the channels. CHAN_CONFIG stores the set-up and keeps the state. CHAN_SELECT selects the slot, or is refused by
the order of Table 4-7, releases, or stores the ranks. CHAN_MODE takes AUTO or goes to FREE_RUN. CHAN_HOLDOVER_MODEL stores the
model or its table. A channel that switches answers BUSY to a selection, a release and a mode. -/
def Obligations.ChannelCommands : Prop :=
  ∀ (c : Cmd) (s : State) (n : Fin 16), n = Fin.ofNat 16 (pf c 0 0 4) →
    Serves (.chanConfig c) c 0x20 ((0, 0, 4) :: wholes 1 22) (chanConfigBad c) s (fun o d =>
      o = .ok ∧ d = { s.dev.begun c 0x20 with regs := d.regs, chans := d.chans, outs := d.outs } ∧
        Stands (wordsAt c 1 (chanOff n) 2 ++ (List.range 6).flatMap fun k => wordsAt c (5 + 3 * k) (chanOff n + 0x100 + 0x10 * k) 3) d ∧
        d.rd40 (chanOff n + 8) = frOffset c ∧ (d.chan n).st = (s.dev.chan n).st ∧ (d.chan n).sel = (s.dev.chan n).sel ∧
        (∀ k, k ≠ n → d.chan k = s.dev.chan k) ∧
        (∀ a, (a < chanOff n ∨ chanOff n + 0x160 ≤ a) → d.rd a = s.dev.rd a)) ∧
    Serves (.chanSelect c) c 0x21 (chanSelectUsed c) (failIf (pf c 0 4 2 = 3) 4) s (fun o d =>
      let x := (s.dev.chan n).sel
      let slot := Fin.ofNat 64 (pf c 0 8 6)
      d = { s.dev.begun c 0x21 with
        regs := d.regs, bar4 := d.bar4, host := d.host, watch := d.watch, keeper := d.keeper, chans := d.chans, lans := d.lans,
        outs := d.outs, vouts := d.vouts } ∧
      (∀ k, k ≠ n → d.chan k = s.dev.chan k) ∧
      ((s.dev.chan n).sw.switching = true → pf c 0 4 2 ≠ 2 → o = .busy (s.dev.remainMs n) ∧ d = s.dev.begun c 0x21) ∧
      (pf c 0 4 2 = 2 → o = .ok ∧ Stands ((chanOff n + 0xC08, word (pf c 0 17 1)) :: wordsAt c 1 (chanOff n + 0xC40) 8) d ∧
        (d.chan n).sel.cur = x.cur) ∧
      ((s.dev.chan n).sw.switching = false → pf c 0 4 2 = 1 → o = .ok ∧ (d.chan n).sel.cur = none ∧ (d.chan n).sel.orphaned = false) ∧
      ((s.dev.chan n).sw.switching = false → pf c 0 4 2 = 0 → pf c 0 16 1 = 0 →
        (s.dev.isUp slot = false → o = .refused 2) ∧
        (s.dev.isUp slot = true → s.dev.isQual slot = false → o = .refused 1) ∧
        (s.dev.isUp slot = true → s.dev.isQual slot = true → o = .ok ∧ (d.chan n).sel.cur = some slot ∧
          (d.chan n).sel.src ≠ .forced ∧ (x.cur ≠ some slot → (d.chan n).sel.src = .command ∧ (d.chan n).sel.orphaned = false))) ∧
      ((s.dev.chan n).sw.switching = false → pf c 0 4 2 = 0 → pf c 0 16 1 = 1 →
        (x.armed ≠ some slot → o = .refused 3 ∧ (d.chan n).sel.armed = none) ∧
        (x.armed = some slot → s.dev.isUp slot = false → o = .refused 2 ∧ (d.chan n).sel.armed = none) ∧
        (x.armed = some slot → s.dev.isUp slot = true → o = .ok ∧ (d.chan n).sel.cur = some slot ∧ (d.chan n).sel.src = .forced)) ∧
      ((s.dev.chan n).sw.switching = false → pf c 0 4 2 = 0 → o.status = 3 → x.orphaned = false →
        Counts (chanOff n + 0xC04) 0 16 (s.dev.begun c 0x21) d ∧ (d.chan n).sel.cur = x.cur)) ∧
    Serves (.chanMode c) c 0x22 [(0, 0, 4), (0, 4, 2)] (failIf (pf c 0 4 2 = 3) 4) s (fun o d =>
      ((s.dev.chan n).sw.switching = true → o = .busy (s.dev.remainMs n) ∧ d = s.dev.begun c 0x22) ∧
      ((s.dev.chan n).sw.switching = false → o = .ok (d.chan n).st.code ∧ (∀ k, k ≠ n → d.chan k = s.dev.chan k) ∧
        d = { s.dev.begun c 0x22 with
          regs := d.regs, bar4 := d.bar4, host := d.host, watch := d.watch, keeper := d.keeper, chans := d.chans, lans := d.lans,
          outs := d.outs, vouts := d.vouts } ∧
        (pf c 0 4 2 = 0 → d = (s.dev.begun c 0x22).modChan n fun x => { x with mode := .auto }) ∧
        (pf c 0 4 2 ≠ 0 → (d.chan n).st = .freeRun ∧ (d.chan n).sel.cur = none ∧ (d.chan n).sel.orphaned = false ∧
          (d.chan n).mode = if pf c 0 4 2 = 1 then .freeRun else .dco))) ∧
    Serves (.chanHoldoverModel c) c 0x23 (holdoverUsed c) (holdoverBad c) s (fun o d =>
      d = { s.dev.begun c 0x23 with regs := d.regs } ∧
      (pf c 0 4 2 = 0 → o = .ok 5 ∧
        Stored ((chanOff n + 0x200, wordAt c.words 1) :: wordsAt c 2 (chanOff n + 0x400) 4) s.dev d) ∧
      (pf c 0 4 2 = 1 → o = .ok (pf c 0 16 4) ∧
        Stored (wordsAt c 1 (chanOff n + 0x500 + 4 * pf c 0 8 6) (pf c 0 16 4)) s.dev d))

/-- The commands of outputs, Lanterns and video outputs. The set-up of an enabled output or video output, and of a Lantern whose
outputs run, is refused where it would change more than may change then; otherwise it stands and the rest reads as before. -/
def Obligations.OutputCommands : Prop :=
  ∀ (c : Cmd) (s : State),
    (∀ m : Fin 48, m.val = pf c 0 0 6 →
      Serves (.outConfig c) c 0x30 ((0, 0, 6) :: wholes 1 6) (outConfigBad c (s.dev.begun c 0x30)) s (fun o d =>
        let frac := if m.val < 16 then wordsAt c 4 (outOff m + 0xC) 2 else []
        let held := bit (s.dev.rd (outOff m)) 31 = true ∧
          ¬ (setFld (s.dev.rd (outOff m)) 31 1 0 = wordAt c.words 1 ∧ Stands (wordsAt c 2 (outOff m + 4) 2 ++ frac) s.dev)
        (held → o = .refused 1 ∧ d = s.dev.begun c 0x30) ∧
        (¬ held → o = .ok ∧ d = { s.dev.begun c 0x30 with regs := d.regs, outs := d.outs } ∧ (∀ k, k ≠ m → d.out k = s.dev.out k) ∧
          Stored ([(outOff m, setFld (wordAt c.words 1) 31 1 (s.dev.rdF (outOff m) 31 1)), (outOff m + 0x14, wordAt c.words 6)] ++
            wordsAt c 2 (outOff m + 4) 2 ++ frac) s.dev d))) ∧
    Serves (.outEnable c) c 0x31 [whole 0, (1, 0, 16), (1, 16, 2)] (failIf (pf c 1 16 2 = 3) 48) s (fun o d =>
      let l := maskOuts (wordAt c.words 0) (wordAt c.words 1)
      o = .ok (if pf c 1 16 2 = 1 then 0 else (l.filter fun m => !(d.out m).pin.on).length) ∧
      d = { s.dev.begun c 0x31 with regs := d.regs, outs := d.outs } ∧ (∀ m, m ∉ l → d.out m = s.dev.out m) ∧
      (pf c 1 16 2 = 2 → d.regs = s.dev.regs ∧ ∀ m ∈ l, (d.out m).mWatch = false) ∧
      (pf c 1 16 2 ≠ 2 → Stored (l.map fun m => (outOff m, setFld (s.dev.rd (outOff m)) 31 1 (1 - pf c 1 16 2))) s.dev d)) ∧
    (∀ n : Fin 8, n = Fin.ofNat 8 (pf c 0 0 3) →
      Serves (.lanternConfig c) c 0x32 ((0, 0, 3) :: wholes 1 3) (lanternConfigBad c (s.dev.begun c 0x32)) s (fun o d =>
        let runs := ((List.finRange 48).filter fun (m : Fin 48) => s.dev.outLan m = n && (s.dev.out m).pin.on).length
        let held := runs ≠ 0 ∧ (¬ Stands (wordsAt c 2 (lanOff n + 4) 2) s.dev ∨ s.dev.rdF (lanOff n) 0 11 ≠ pf c 1 0 11 ∨
          s.dev.rdF (lanOff n) 24 8 ≠ pf c 1 24 8 ∨ s.dev.rdF (lanOff n) 19 3 ≠ pf c 1 19 3)
        (held → o = .refused runs ∧ d = s.dev.begun c 0x32) ∧
        (¬ held → o = .ok (d.lan n).st.code ∧ Stands (wordsAt c 1 (lanOff n) 3) d ∧
          KeepsRegs ((wordsAt c 1 (lanOff n) 3).map (·.1)) s.dev d ∧ (∀ k, k ≠ n → d.lan k = s.dev.lan k) ∧
          d = { s.dev.begun c 0x32 with
            regs := d.regs, bar4 := d.bar4, host := d.host, keeper := d.keeper, lans := d.lans, outs := d.outs, vouts := d.vouts }))) ∧
    (∀ k : Fin 8, k = Fin.ofNat 8 (pf c 0 0 3) →
      Serves (.voutConfig c) c 0x33 ([(0, 0, 3), (0, 8, 1)] ++ wholes 1 7) (voutConfigBad c) s (fun o d =>
        let held := s.dev.rdF (voutOff k) 31 1 = 1 ∧ ¬ (s.dev.rdF (voutOff k) 16 8 = pf c 1 16 8 ∧
          s.dev.rdF (voutOff k) 26 5 = pf c 1 26 5 ∧ Stands (wordsAt c 2 (voutOff k + 4) 3) s.dev)
        (held → o = .refused 1 ∧ d = s.dev.begun c 0x33) ∧
        (¬ held → o = .ok ∧ Stored (wordsAt c 1 (voutOff k) 7) s.dev d ∧ (∀ j, j ≠ k → d.vout j = s.dev.vout j) ∧
          (pf c 0 8 1 = 1 → (d.vout k).mWatch = false) ∧ d = { s.dev.begun c 0x33 with regs := d.regs, vouts := d.vouts })))

/-- The commands of the time scales. TS_SET binds without a move of TS, waits to set, accepts a difference, leaves TOD_HOLD, takes
UTC and local offsets, a signal's set-up or the source's; TS_STEP_SCHEDULE and TS_LEAP_SCHEDULE schedule, or refuse one that comes
too soon or on the time scale of a cascade slave. -/
def Obligations.TimeScaleCommands : Prop :=
  ∀ (c : Cmd) (s : State) (n : Fin 4), n = Fin.ofNat 4 (pf c 0 0 2) →
    Serves (.tsSet c) c 0x40 ([(0, 0, 2), (0, 8, 4)] ++ tsSetUsed (pf c 0 8 4)) (tsSetBad c (s.dev.begun c 0x40)) s (fun o d =>
      let x := s.dev.tsc n
      let act := pf c 0 8 4
      let stays := d = s.dev.begun c 0x40
      (∀ k, k ≠ n → d.tsc k = s.dev.tsc k) ∧
      d = { s.dev.begun c 0x40 with
        regs := d.regs, bar4 := d.bar4, host := d.host, watch := d.watch, keeper := d.keeper, ts := d.ts, outs := d.outs } ∧
      (act = 0 → o = .ok ∧ d.tsChan n = Fin.ofNat 16 (pf c 1 0 4) ∧ (x.started = true → d.tsNow n = s.dev.tsNow n)) ∧
      (act = 1 → o = .ok ∧ d.regs = s.dev.regs ∧ d.tsc n = { x with
        set := some (.triple (tripleGr ⟨pf c 1 0 32 + pf c 2 0 16 * 4294967296, pf c 3 0 32, pf c 4 0 16⟩)) }) ∧
      (act = 2 → if s.dev.todEn n = true ∧ s.dev.srcValid n = true then o = .ok ∧ d.tsc n = { x with set := some .source }
        else o = .refused 1 ∧ stays) ∧
      (act = 3 → if x.st = .todHold then o = .ok ∧ d.tsc n = { x with accept := true } else o = .refused x.st.code ∧ stays) ∧
      (act = 4 → if x.st = .todHold then o = .ok ∧ (d.tsc n).st = .running ∧ d.rdF (tsOff n) 25 1 = 0
        else o = .refused x.st.code ∧ stays) ∧
      (act = 5 → if s.dev.cascSlave n = true then o = .refused 3 ∧ stays
        else if x.leap.isSome = true ∧ pf c 1 0 10 ≠ s.dev.utcOffset n then o = .refused 1 ∧ stays
        else o = .ok ∧ d.tsc n = { x with utc := some (wordAt c.words 1) }) ∧
      (act = 6 → o = .ok ∧ d.tsc n = { x with localOfs := some (wordAt c.words 1) }) ∧
      (act = 7 → ∀ m : Fin 48, m.val = pf c 1 0 6 → if s.dev.outEn m = true then o = .refused 1 ∧ stays
        else o = .ok ∧ Stored [(sigOff m, wordAt c.words 2)] s.dev d ∧ ∀ k, k ≠ m → d.out k = s.dev.out k) ∧
      (act = 8 → o = .ok ∧ d.rdF (tsOff n) 25 1 = pf c 1 0 1 ∧ d.rdF (tsOff n) 24 1 = pf c 1 1 1 ∧
        d.rdF (tsOff n) 16 6 = pf c 1 8 6 ∧ d.rdF (tsOff n) 26 1 = pf c 1 16 1 ∧ KeepsRegs [tsOff n] s.dev d)) ∧
    Serves (.tsStepSchedule c) c 0x41 [(0, 0, 2), whole 1, (2, 0, 16), whole 3, whole 4, (5, 0, 16)]
      (failIf (1000000000 ≤ (signed 32 (pf c 4 0 32)).natAbs) 128) s (fun o d =>
        let at_ := pf c 1 0 32 + pf c 2 0 16 * 4294967296
        let stays := d = s.dev.begun c 0x41
        if s.dev.cascSlave n = true then o = .refused 3 ∧ stays
        else if (at_ : Int) < s.dev.presentSec n + 2 then o = .refused 1 ∧ stays
        else if (match (s.dev.tsc n).step with
            | some p => decide ((p.atSec : Int) < s.dev.presentSec n + 2)
            | none => false) = true then o = .busy ∧ stays
        else o = .ok ∧ d = (s.dev.begun c 0x41).modTs n fun x => { x with
          step := if deltaGr (signed 32 (pf c 3 0 32)) (signed 32 (pf c 4 0 32)) (pf c 5 0 16) = 0 then none
            else some ⟨at_, signed 32 (pf c 3 0 32), signed 32 (pf c 4 0 32), pf c 5 0 16, false⟩ }) ∧
    Serves (.tsLeapSchedule c) c 0x42 [(0, 0, 2), (0, 8, 2), (1, 0, 20)] (failIf (pf c 0 8 2 = 3) 8) s (fun o d =>
      let day := pf c 1 0 20
      let stays := d = s.dev.begun c 0x42
      if s.dev.cascSlave n = true then o = .refused 3 ∧ stays
      else if pf c 0 8 2 = 2 then
        o = .ok ∧ (d.tsc n).leap = none ∧ d = { s.dev.begun c 0x42 with ts := s.dev.ts.set n (d.tsc n) }
      else if ((day + 1) * 86400 + s.dev.utcOffset n : Int) ≤ s.dev.presentSec n then o = .refused 1 ∧ stays
      else o = .ok ∧ (d.tsc n).leap = some (decide (pf c 0 8 2 = 1), day) ∧
        d = { s.dev.begun c 0x42 with ts := s.dev.ts.set n (d.tsc n) })

/-- The commands of ports and Pilots. PORT_CONFIG moves the port by rows 1 to 3; PACKET_SEND leaves a frame with its port and stays
in progress; PTP_INSTANCE_CONFIG sets up a client, a server or the Pilots; CLIENT_TABLE_ATTACH and CLIENT_UPDATE work on the client
table; a CLIENT_UPDATE that something ends stands at the safe point after `stop` of its entries (R331, log entry 169, DESIGN CHOICE). -/
def Obligations.PortAndPilotCommands : Prop :=
  ∀ (c : Cmd) (s : State),
    (∀ p : Fin 8, p = Fin.ofNat 8 (pf c 0 0 3) →
      Serves (.portConfig c) c 0x50 ((0, 0, 3) :: wholes 1 27) (portConfigBad c) s (fun o d =>
        let l := portWords.zipIdx.map fun e => (portOff p + e.1, wordAt c.words (e.2 + 1))
        let st := (s.dev.port p).st
        let held := bit (s.dev.portCfg p) 31 = true ∧ fld (s.dev.portCfg p) 25 2 ≠ pf c 1 25 2
        let moves := linkFields (s.dev.portCfg p) ≠ linkFields (wordAt c.words 1)
        (held → o = .refused 1 ∧ d = s.dev.begun c 0x50) ∧
        (¬ held → o = .ok (if (s.dev.port p).st ≠ .off ∧ pf c 1 31 1 = 1 ∧
            linkFields (s.dev.portCfg p) ≠ linkFields (wordAt c.words 1) then 2 else 0) ∧
          (pf c 1 31 1 = 0 → (d.port p).st = .off) ∧
          (pf c 1 31 1 = 1 → st ≠ .off → moves → (d.port p).st = .down) ∧
          (pf c 1 31 1 = 1 → st ≠ .off → ¬ moves →
            Stored l s.dev d ∧ d = { s.dev.begun c 0x50 with regs := d.regs }) ∧
          (pf c 1 31 1 = 0 → st = .off → Stored l s.dev d ∧ d = { s.dev.begun c 0x50 with regs := d.regs }) ∧
          (pf c 1 31 1 = 1 → st = .off → (d.port p).st = .down ∧ Stands l d ∧ KeepsRegs (l.map (·.1)) s.dev d)))) ∧
    (∀ p : Fin 8, p = Fin.ofNat 8 (pf c 0 0 3) → s.dev.takes 0x54 c = true →
      paramFail c [(0, 0, 3), (0, 8, 1), (0, 9, 1), (0, 16, 16), whole 1, whole 2, (3, 0, 11)]
        (failIf (pf c 3 0 11 < 14 || 1996 < pf c 3 0 11) 96) = none →
      ((s.dev.port p).st ≠ .up → ∃ t, exec (.packetSend c) s = .next t ∧
        Ends c 0x54 (.refused (s.dev.port p).st.code) (s.dev.begun c 0x54) s t) ∧
      ((s.dev.port p).st = .up → ∃ t, exec (.packetSend c) s = .next t ∧ t = { s with
        dev := (s.dev.begun c 0x54).modPort p fun x => { x with
          txq := x.txq ++ [⟨none, some (c.src, inProg c 0x54), pf c 0 8 1 = 1, BitVec.ofNat 16 (pf c 0 16 16), pf c 0 9 1 = 1,
            (wordAt c.words 1).toNat + (wordAt c.words 2).toNat * 4294967296, pf c 3 0 11⟩] } })) ∧
    (Serves (.ptpInstanceConfig c) c 0x51 (instUsed (pf c 0 0 5)) (ptpConfigBad c) s (fun o d =>
      (∀ k : Fin 16, k.val = pf c 0 0 5 →
        let held := (s.dev.client k).st ≠ .disabled ∧
          (fld (s.dev.pr k) 23 8 ≠ pf c 1 23 8 ∨ fld (s.dev.pr k) 13 8 ≠ pf c 1 13 8)
        (held → o = .refused 1 ∧ d = s.dev.begun c 0x51) ∧
        (¬ held → o = .ok (d.client k).st.code ∧ Stands (wordsAt c 1 (prOff k) 4) d ∧ d.rd40 (prOff k + 0x38) = 0 ∧
          (d.client k).parent = (if pf c 5 0 4 = 15 then none else some (Fin.ofNat 4 (pf c 5 0 4))) ∧
          (d.client k).parentId = BitVec.ofNat 80 (beNat (paramBytes c 22 10)) ∧
          (pf c 1 31 1 = 0 → (d.client k).st = .disabled) ∧
          (pf c 1 31 1 = 1 → (s.dev.client k).st = .disabled → pf c 5 0 4 = 15 → (d.client k).st = .listening) ∧
          (∀ j, j ≠ k → d.client j = s.dev.client j))) ∧
      (∀ p : Fin 8, pf c 0 0 5 = 16 + p.val →
        let held := s.dev.portClients p ≠ 0 ∧ (fld (s.dev.psrv p) 24 5 ≠ pf c 1 24 5 ∨ fld (s.dev.psrv p) 14 8 ≠ pf c 1 14 8)
        (held → o = .refused (satN 16 (s.dev.portClients p)) ∧ d = s.dev.begun c 0x51) ∧
        (¬ held → o = .ok ∧ Stored ((psrvWords p).zipIdx.map fun e => (e.1, wordAt c.words (e.2 + 1))) s.dev d ∧
          d.clients = s.dev.clients ∧ ∀ q, q ≠ p → d.port q = s.dev.port q)) ∧
      (pf c 0 0 5 = 24 → o = .ok ∧ Stored ((0x210010, wordAt c.words 1) :: wordsAt c 2 0x210040 5) s.dev d ∧
        d = { s.dev.begun c 0x51 with regs := d.regs }) ∧
      d = { s.dev.begun c 0x51 with
        regs := d.regs, bar4 := d.bar4, host := d.host, watch := d.watch, keeper := d.keeper, ports := d.ports,
        clients := d.clients })) ∧
    Serves (.clientTableAttach c) c 0x52 (tableAttachUsed c) (tableAttachBad c) s (fun o d =>
      let x := s.dev.pilot
      (pf c 0 0 1 = 1 → o = .ok (satN 16 (x.entries.map fun e => e.2.grants.length).sum) ∧
        (d.source 146).cond = d.overload ∧
        d = { s.dev.begun c 0x52 with watch := d.watch, pilot := { x with attached := none, entries := [], gens := [], missing := [],
                                                                          cache := [], fetching := [], writing := [], late := [] } }) ∧
      (pf c 0 0 1 = 0 → x.attached.isSome = true → o = .refused 1 ∧ d = s.dev.begun c 0x52) ∧
      (pf c 0 0 1 = 0 → x.attached = none → o = .ok ∧ d = { s.dev.begun c 0x52 with
        pilot := { x with attached := some (decide (pf c 0 1 1 = 1), (wordAt c.words 1).toNat + (wordAt c.words 2).toNat * 4294967296,
                            pf c 0 8 5),
                          attachUs := s.dev.clk.tbUs, entries := [], gens := [], missing := [], round := 0, slot := 0, skipFrom := 0,
                          cache := [], fetching := [], writing := [], late := [] } })) ∧
    (∀ (stop : Option Nat) (l : List (Nat × Entry)),
      l = (if pf c 0 0 2 = 0 then (match s.dev.entryAt (pf c 1 0 21) with | some e => [(pf c 1 0 21, e)] | none => [])
        else if pf c 0 0 2 = 1 then s.dev.pilot.entries.filter fun e => e.2.dirty
        else s.dev.pilot.entries.filter fun e => e.2.port = Fin.ofNat 8 (pf c 0 8 3)) →
      (stop = none ∨ (∃ k, stop = some k ∧ l.length ≤ k) →
        Serves (.clientUpdate ⟨c, stop⟩) c 0x53 (clientUpdateUsed c) (failIf (pf c 0 0 2 = 3) 0) s (fun o d =>
          d = { s.dev.begun c 0x53 with
            regs := d.regs, bar4 := d.bar4, host := d.host, watch := d.watch, ports := d.ports, pilot := d.pilot } ∧
          (pf c 0 0 2 = 0 → l = [] → o = .refused 0 ∧ d = s.dev.begun c 0x53) ∧
          (∀ e, pf c 0 0 2 = 0 → s.dev.entryAt (pf c 1 0 21) = some e → o = .ok (satN 16 e.grants.length) ∧
            d.pilot.entries = Tab.del (pf c 1 0 21) s.dev.pilot.entries) ∧
          (pf c 0 0 2 = 1 → o = .ok (satN 16 l.length)) ∧
          (pf c 0 0 2 = 2 → ∀ e ∈ d.pilot.entries, e.2.port ≠ Fin.ofNat 8 (pf c 0 8 3)))) ∧
      (∀ k, stop = some k → k < l.length → s.dev.takes 0x53 c = true →
        paramFail c (clientUpdateUsed c) (failIf (pf c 0 0 2 = 3) 0) = none →
        ∃ (t : State) (d : Dev) (n : Nat), exec (.clientUpdate ⟨c, stop⟩) s = .next t ∧ t = s.withDev (d.stay c.src n false) ∧
          (k = 0 → n = 0 ∧ d = s.dev.begun c 0x53) ∧ (pf c 0 0 2 = 1 → n = satN 16 k) ∧
          d = { s.dev.begun c 0x53 with
            regs := d.regs, bar4 := d.bar4, host := d.host, watch := d.watch, ports := d.ports, pilot := d.pilot }))

/-- The commands of the Tide cascade. TL_CONFIG keeps PRIO, is refused where it changes the roles of the links while one is on, and
takes each link off or into SYNC. TL_ELECT sets the priority, refused on a strapped master, or moves the upstream. -/
def Obligations.CascadeCommands : Prop :=
  ∀ (c : Cmd) (s : State),
    Serves (.tlConfig c) c 0x60 (wholes 0 7) (tlConfigBad c (s.dev.begun c 0x60)) s (fun o d =>
      let new := setFld (wordAt c.words 0) 24 8 s.dev.tlPrio
      let held := fld s.dev.tlCfg 21 3 ≠ pf c 0 21 3 ∧ ∃ l, (s.dev.link l).st ≠ .off
      (held → o = .refused 1 ∧ d = s.dev.begun c 0x60) ∧
      (¬ held → o = .ok ∧ Stands ((0x280000, new) :: (0x280004, wordAt c.words 1) ::
          (List.range 5).map fun i => (linkOff i, wordAt c.words (2 + i))) d ∧
        (∀ l : Fin 5, (d.link l).st = if bit new (15 + l.val) then (if (s.dev.link l).st = .off then .sync else (s.dev.link l).st)
          else .off) ∧
        d = { s.dev.begun c 0x60 with
          regs := d.regs, bar4 := d.bar4, host := d.host, watch := d.watch, keeper := d.keeper, tide := d.tide })) ∧
    Serves (.tlElect c) c 0x61 (tlElectUsed c) (tlElectBad c) s (fun o d =>
      let l := Fin.ofNat 5 (pf c 0 16 3)
      let same := ∃ f, (s.dev.link l).last = some f ∧ f.mId = s.dev.tide.mId
      (pf c 0 0 2 = 0 → s.dev.tide.strapped = true → o = .refused 1 ∧ d = s.dev.begun c 0x61) ∧
      (pf c 0 0 2 = 0 → s.dev.tide.strapped = false → o = .ok d.tide.role.code ∧
        Stands [(0x280000, setFld s.dev.tlCfg 24 8 (pf c 0 8 8))] d ∧ KeepsRegs [0x280000] s.dev d ∧
        (s.dev.tide.role ≠ .master → d = (s.dev.begun c 0x61).wrF 0x280000 24 8 (pf c 0 8 8)) ∧
        (s.dev.tide.role = .master → pf c 0 8 8 = 255 → d.tide.role = .orphan) ∧
        (s.dev.tide.role = .master → pf c 0 8 8 ≠ 255 → d.tide = { s.dev.tide with mPrio := b8 (pf c 0 8 8) })) ∧
      (pf c 0 0 2 = 1 → ¬ (s.dev.eligible l = true ∧ same) → o = .refused 2 ∧ d = s.dev.begun c 0x61) ∧
      (pf c 0 0 2 = 1 → s.dev.eligible l = true → same → s.dev.tide.active = some l → o = .ok 0 ∧ d = s.dev.begun c 0x61) ∧
      (∀ a, pf c 0 0 2 = 1 → s.dev.eligible l = true → same → s.dev.tide.active = some a → a ≠ l →
        o = .ok (if s.dev.swapOk a l then 1 else 0) ∧ d.tide.active = some l) ∧
      (pf c 0 0 2 = 1 → s.dev.eligible l = true → same → s.dev.tide.active = none →
        o = .ok 0 ∧ d.tide.active = some l ∧ d.tide.role = .slave))

/-- The commands of firmware, power and the Watch. FW_CHUNK programs its pages where the session has not programmed them, fails
its header with 0xF000 in the Keeper's queue, whose table does not have it (Table 16-9), and stands at a safe point where something ends it or no request can be issued (log entry 169, DESIGN CHOICE); FW_ACTIVATE verifies, starts the trial or confirms it; PWR_OPP and ANCHOR_ENTER begin, refused while the supply
fails; FAULT_CONFIG stores a source's set-up. -/
def Obligations.FirmwarePowerAndFaultCommands : Prop :=
  ∀ (c : Cmd) (s : State),
    (∀ ws, descOp ws = 0x80 → headerFail true ws = some 0xF000) ∧
    (∀ data stop, c.src = .keeper → exec (.fwChunk c ⟨data, stop⟩) s = .next s) ∧
    (∀ data stop off len n k at_ bs bad, c.src ≠ .keeper → off = (wordAt c.words 0).toNat → len = (wordAt c.words 3).toNat → n = len / 256 →
      k = min n ((s.dev.stopPoint c stop).getD n) → at_ = slotBase (!s.dev.top.slotB) →
      bs = s.dev.bufRead (pf c 1 0 1 = 1) (bufAddr c 1) len data →
      bad = failIf (off % 256 ≠ 0 || 4194304 < off + len) 0 ++ failIf (len < 256 || 4096 < len || len % 256 ≠ 0) 96 →
      (s.dev.fw.state = .trial ∨ k = n → Serves (.fwChunk c ⟨data, stop⟩) c 0x80 (wholes 0 4) bad s (fun o d =>
        (s.dev.fw.state = .trial → o = .refused 0 ∧ d = s.dev.begun c 0x80) ∧
        (s.dev.fw.state ≠ .trial → d = { s.dev.begun c 0x80 with fw := d.fw } ∧
          (∀ a, (a < at_ ∨ at_ + 4194304 ≤ a) →
            Tab.get (fun _ => 0xFF#8) d.fw.flash a = Tab.get (fun _ => 0xFF#8) s.dev.fw.flash a)) ∧
        (s.dev.fw.state ≠ .trial → s.dev.fw.session = true → off / 256 ∈ s.dev.fw.programmed →
          o = .refused 0 ∧ d = s.dev.begun c 0x80) ∧
        (s.dev.fw.state ≠ .trial → (∀ j, j < n → s.dev.fw.session = false ∨ off / 256 + j ∉ s.dev.fw.programmed) →
          o = .ok len ∧ d.fw.state = .writing ∧ d.fw.stage = 0 ∧ d.fw.session = true ∧
            ∀ j, j < len → Tab.get (fun _ => 0xFF#8) d.fw.flash (at_ + off + j) = bs.getD j 0))) ∧
      (s.dev.fw.state ≠ .trial → k < n → s.dev.takes 0x80 c = true → paramFail c (wholes 0 4) bad = none →
        (∀ j, j < k → s.dev.fw.session = false ∨ off / 256 + j ∉ s.dev.fw.programmed) →
        ∃ (t : State) (d : Dev), exec (.fwChunk c ⟨data, stop⟩) s = .next t ∧ t = s.withDev (d.stay c.src (256 * k) false) ∧
          d = { s.dev.begun c 0x80 with fw := d.fw } ∧ d.fw.session = true ∧
          ∀ j, j < 256 * k → Tab.get (fun _ => 0xFF#8) d.fw.flash (at_ + off + j) = bs.getD j 0)) ∧
    (s.dev.takes 0x81 c = true → paramFail c [(0, 0, 2)] (failIf (pf c 0 0 2 = 3) 0) = none →
      let f := s.dev.fw
      let checks := (s.dev.begun c 0x81).imageChecks (!s.dev.top.slotB)
      (pf c 0 0 2 = 0 → f.state = .writing ∨ f.state = .verified → ∃ t d, exec (.fwActivate c) s = .next t ∧
        Ends c 0x81 (if checks = 5 then .ok 5 else .refused checks) d s t ∧
        d = { s.dev.begun c 0x81 with fw := { f with
          stage := BitVec.ofNat 4 checks, state := if checks = 5 then .verified else .writing, svn := d.fw.svn } }) ∧
      (pf c 0 0 2 = 1 → f.state = .verified → ∃ t, exec (.fwActivate c) s = .next t ∧ t.pending = s.pending ∧
        t.dev.fw.state = .trial ∧ t.dev.top.slotB = (!s.dev.top.slotB) ∧ t.dev.fw.activate = some (c.src, inProg c 0x81) ∧
        t.dev.fw.confirmAt = s.dev.clk.aonUs + s.dev.rdF 0x300114 0 12 * 1000000 ∧ t.dev.keeper.sup.ap = .autopilot ∧
        t.dev.fw.flash = f.flash ∧ t.dev.clk = s.dev.clk) ∧
      (pf c 0 0 2 = 2 → f.state = .trial → ∃ t d, exec (.fwActivate c) s = .next t ∧ Ends c 0x81 (.ok 7) d s t ∧
        d = { s.dev.begun c 0x81 with
          fw := { f with state := .idle, stage := 7, session := false, prefB := s.dev.top.slotB },
          otp := { s.dev.otp with rollback := max s.dev.otp.rollback f.svn } }) ∧
      ((pf c 0 0 2 = 0 ∧ f.state ≠ .writing ∧ f.state ≠ .verified) ∨ (pf c 0 0 2 = 1 ∧ f.state ≠ .verified) ∨
          (pf c 0 0 2 = 2 ∧ f.state ≠ .trial) →
        ∃ t, exec (.fwActivate c) s = .next t ∧ Ends c 0x81 (.refused f.stage.toNat) (s.dev.begun c 0x81) s t)) ∧
    (s.dev.takes 0x90 c = true → paramFail c [(0, 0, 2)] [] = none →
      (s.dev.pwr.pf ≠ .normal → ∃ t, exec (.pwrOpp c) s = .next t ∧ Ends c 0x90 (.refused 0) (s.dev.begun c 0x90) s t) ∧
      (s.dev.pwr.pf = .normal → s.dev.pwr.avs ≠ .rest → ∃ t, exec (.pwrOpp c) s = .next t ∧ t.pending = s.pending ∧
        t.dev = { s.dev.begun c 0x90 with regs := t.dev.regs, watch := t.dev.watch,
                                          pwr := { s.dev.pwr with oppCmd := some (c.src, inProg c 0x90) } } ∧
        Stored [(0x020000, setFld (s.dev.rd 0x020000) 0 2 (pf c 0 0 2))] s.dev t.dev) ∧
      (∀ want, s.dev.pwr.pf = .normal → s.dev.pwr.avs = .rest →
        want = min (pf c 0 0 2) s.dev.pwr.cap.toNat →
        (want = s.dev.pwr.inForce.toNat → ∃ t d, exec (.pwrOpp c) s = .next t ∧ Ends c 0x90 (.ok want) d s t ∧
          d = { s.dev.begun c 0x90 with regs := d.regs, watch := d.watch } ∧
          Stored [(0x020000, setFld (s.dev.rd 0x020000) 0 2 (pf c 0 0 2))] s.dev d) ∧
        (s.dev.pwr.inForce.toNat < want → ∃ t, exec (.pwrOpp c) s = .next t ∧ t.pending = s.pending ∧
          t.dev = { s.dev.begun c 0x90 with regs := t.dev.regs, watch := t.dev.watch, pwr := t.dev.pwr } ∧
          Stored [(0x020000, setFld (s.dev.rd 0x020000) 0 2 (pf c 0 0 2))] s.dev t.dev ∧
          t.dev.pwr = { s.dev.pwr with oppCmd := some (c.src, inProg c 0x90), millivolt := t.dev.pwr.millivolt,
                                       avs := .upAck (BitVec.ofNat 2 (s.dev.pwr.inForce.toNat + 1)) }) ∧
        (want < s.dev.pwr.inForce.toNat → ∃ t, exec (.pwrOpp c) s = .next t ∧ t.pending = s.pending ∧
          t.dev = { s.dev.begun c 0x90 with regs := t.dev.regs, watch := t.dev.watch, pwr := t.dev.pwr } ∧
          t.dev.pwr = { s.dev.pwr with oppCmd := some (c.src, inProg c 0x90), millivolt := t.dev.pwr.millivolt, avs := .downAck,
                                       inForce := BitVec.ofNat 2 (s.dev.pwr.inForce.toNat - 1) }))) ∧
    (s.dev.takes 0x91 c = true → paramFail c [(0, 0, 1)] [] = none →
      (s.dev.pwr.vbakOk = false → ∃ t, exec (.anchorEnter c) s = .next t ∧ Ends c 0x91 (.refused 1) (s.dev.begun c 0x91) s t) ∧
      (s.dev.pwr.vbakOk = true → s.dev.pwr.pf ≠ .normal →
        ∃ t, exec (.anchorEnter c) s = .next t ∧ Ends c 0x91 (.refused 2) (s.dev.begun c 0x91) s t) ∧
      (s.dev.pwr.vbakOk = true → s.dev.pwr.pf = .normal → ∃ t, exec (.anchorEnter c) s = .next t ∧ t.pending = s.pending ∧
        t.dev.pwr.anchorCmd = some (c.src, inProg c 0x91, decide (pf c 0 0 1 = 1)) ∧ t.dev.pwr.pf = .normal ∧ t.dev.shed = true ∧
        t.dev.chart.commit.isSome = true ∧ t.dev.chart.anchorEntries = s.dev.chart.anchorEntries + 1 ∧
        (∀ p, (t.dev.port p).st ≠ .cal ∧ (t.dev.port p).st ≠ .up) ∧ t.dev.clk = s.dev.clk ∧ t.dev.ts = s.dev.ts)) ∧
    Serves (.faultConfig c) c 0xA0 ((0, 0, 8) :: wholes 1 4)
      (failIf (192 ≤ pf c 0 0 8) 0 ++ imagesBad c 1 (fltOff 0) 4 ++
        failIf (pf c 0 0 8 < 192 && setsBad (pf c 0 0 8) (wordAt c.words 1)) 0 ++ failIf (thrBad (wordAt c.words 2)) 64) s (fun o d =>
      ∀ n : Fin 192, n.val = pf c 0 0 8 → o = .ok ∧ Stored (wordsAt c 1 (fltOff n) 4) s.dev d ∧
        d = { s.dev.begun c 0xA0 with regs := d.regs, watch := { s.dev.watch with srcs := s.dev.watch.srcs.set n { s.dev.source n with
          count := min (s.dev.source n).count (pf c 2 24 8) } } })

end Statements
end

