-- ==== Sys2Proof/Laws/Tab.lean ====
section
/-! SUPPORT. Sparse tables: reading after a write, and that every write keeps the canonical form. -/

namespace Sys2Proof.Machine.Tab

variable {α : Type}

@[simp] theorem get_nil (f : Nat → α) (k : Nat) : get f [] k = f k := rfl

theorem get_ins_same (f : Nat → α) (k : Nat) (v : α) (m : Tab α) : get f (ins k v m) k = v := by
  induction m with
  | nil => simp [ins, get]
  | cons e m ih =>
    obtain ⟨j, w⟩ := e
    simp only [ins]
    split
    · simp [get]
    · split
      · simp [get]
      · simp [get, *]

theorem get_ins_ne (f : Nat → α) {k k' : Nat} (v : α) (m : Tab α) (h : k ≠ k') : get f (ins k v m) k' = get f m k' := by
  induction m with
  | nil => simp [ins, get, h]
  | cons e m ih =>
    obtain ⟨j, w⟩ := e
    simp only [ins]
    split
    · simp [get, h]
    · split
      · rename_i hj
        subst hj
        simp [get, h]
      · simp only [get, ih]

theorem get_del_ne (f : Nat → α) {k k' : Nat} (m : Tab α) (h : k ≠ k') : get f (del k m) k' = get f m k' := by
  induction m with
  | nil => rfl
  | cons e m ih =>
    obtain ⟨j, w⟩ := e
    simp only [del]
    split
    · rename_i hj
      subst hj
      simp [get, h, ih]
    · simp only [get, ih]

theorem get_del_same (f : Nat → α) (k : Nat) (m : Tab α) : get f (del k m) k = f k := by
  induction m with
  | nil => rfl
  | cons e m ih =>
    obtain ⟨j, w⟩ := e
    simp only [del]
    split
    · exact ih
    · simp only [get]
      split
      · contradiction
      · exact ih

/-- What a key reads as after a write to it. -/
@[simp] theorem get_put_same [DecidableEq α] (f : Nat → α) (m : Tab α) (k : Nat) (v : α) : get f (put f m k v) k = v := by
  unfold put
  split
  · rename_i h
    rw [get_del_same, h]
  · exact get_ins_same f k v m

/-- A write leaves every other key alone. -/
theorem get_put_ne [DecidableEq α] (f : Nat → α) (m : Tab α) {k k' : Nat} (v : α) (h : k ≠ k') :
    get f (put f m k v) k' = get f m k' := by
  unfold put
  split
  · exact get_del_ne f m h
  · exact get_ins_ne f v m h

/-- Keys that rise above a larger bound rise above a smaller one. -/
theorem rising_mono {l l' : Nat} (h : l ≤ l') : (m : Tab α) → rising (some l') m = true → rising (some l) m = true
  | [], _ => rfl
  | (j, _) :: m, hm => by
    simp only [rising, Bool.and_eq_true, decide_eq_true_eq] at hm ⊢
    exact ⟨by omega, hm.2⟩

theorem rising_none {l : Nat} (m : Tab α) (h : rising (some l) m = true) : rising none m = true := by
  cases m with
  | nil => rfl
  | cons e m => simp only [rising, Bool.and_eq_true] at h ⊢; exact h.2

theorem rising_ins_some (k : Nat) (v : α) : (l : Nat) → (m : Tab α) → l < k → rising (some l) m = true →
    rising (some l) (ins k v m) = true
  | _, [], hk, _ => by simp [ins, rising, hk]
  | l, (j, w) :: m, hk, hm => by
    simp only [rising, Bool.and_eq_true, decide_eq_true_eq] at hm
    simp only [ins]
    split
    · simp [rising, hm.2, *]
    · split
      · rename_i hj
        subst hj
        simp [rising, hm.2, hk]
      · simp only [rising, Bool.and_eq_true, decide_eq_true_eq]
        exact ⟨hm.1, rising_ins_some k v j m (by omega) hm.2⟩

/-- An insertion keeps the keys rising. -/
theorem rising_ins (k : Nat) (v : α) (m : Tab α) (h : rising none m = true) : rising none (ins k v m) = true := by
  cases m with
  | nil => rfl
  | cons e m =>
    obtain ⟨j, w⟩ := e
    simp only [rising] at h
    simp only [ins]
    split
    · simp [rising, *]
    · split
      · rename_i hj
        subst hj
        exact h
      · exact rising_ins_some k v j m (by omega) h

theorem rising_del_some (k : Nat) : (l : Nat) → (m : Tab α) → rising (some l) m = true → rising (some l) (del k m) = true
  | _, [], _ => rfl
  | l, (j, w) :: m, hm => by
    simp only [rising, Bool.and_eq_true, decide_eq_true_eq] at hm
    simp only [del]
    split
    · exact rising_mono (by omega) _ (rising_del_some k j m hm.2)
    · simp only [rising, Bool.and_eq_true, decide_eq_true_eq]
      exact ⟨hm.1, rising_del_some k j m hm.2⟩

/-- A deletion keeps the keys rising. -/
theorem rising_del (k : Nat) (m : Tab α) (h : rising none m = true) : rising none (del k m) = true := by
  cases m with
  | nil => rfl
  | cons e m =>
    obtain ⟨j, w⟩ := e
    simp only [rising] at h
    simp only [del]
    split
    · exact rising_none _ (rising_del_some k j m h)
    · exact rising_del_some k j m h

theorem mem_ins {k : Nat} {v : α} {m : Tab α} {e : Nat × α} (h : e ∈ ins k v m) : e = (k, v) ∨ e ∈ m := by
  induction m with
  | nil => simpa [ins] using h
  | cons x m ih =>
    obtain ⟨j, w⟩ := x
    simp only [ins] at h
    split at h
    · simpa using h
    · split at h
      · simp only [List.mem_cons] at h ⊢; tauto
      · simp only [List.mem_cons] at h ⊢
        rcases h with h | h
        · exact .inr (.inl h)
        · rcases ih h with h | h
          · exact .inl h
          · exact .inr (.inr h)

theorem mem_del {k : Nat} {m : Tab α} {e : Nat × α} (h : e ∈ del k m) : e ∈ m := by
  induction m with
  | nil => exact h
  | cons x m ih =>
    obtain ⟨j, w⟩ := x
    simp only [del] at h
    split at h
    · exact List.mem_cons_of_mem _ (ih h)
    · rcases List.mem_cons.mp h with h | h
      · exact h ▸ List.mem_cons_self
      · exact List.mem_cons_of_mem _ (ih h)

theorem wf_nil [DecidableEq α] (f : Nat → α) : wf f ([] : Tab α) = true := rfl

/-- A write keeps the canonical form. -/
theorem wf_put [DecidableEq α] (f : Nat → α) (m : Tab α) (k : Nat) (v : α) (h : wf f m = true) : wf f (put f m k v) = true := by
  simp only [wf, Bool.and_eq_true, List.all_eq_true] at h ⊢
  unfold put
  split
  · exact ⟨rising_del k m h.1, fun e he => h.2 e (mem_del he)⟩
  · refine ⟨rising_ins k v m h.1, fun e he => ?_⟩
    rcases mem_ins he with rfl | he
    · simpa using ‹¬ v = f k›
    · exact h.2 e he

theorem rising_some_filter (p : Nat × α → Bool) : (l : Nat) → (m : Tab α) → rising (some l) m = true →
    rising (some l) (m.filter p) = true
  | _, [], _ => rfl
  | l, (j, w) :: m, hm => by
    simp only [rising, Bool.and_eq_true, decide_eq_true_eq] at hm
    have h' := rising_some_filter p j m hm.2
    by_cases hp : p (j, w) = true
    · simp only [List.filter_cons, hp, if_true, rising, Bool.and_eq_true, decide_eq_true_eq]
      exact ⟨hm.1, h'⟩
    · simp only [List.filter_cons, hp]
      exact rising_mono (by omega) _ h'

/-- Entries left out keep the canonical form. -/
theorem wf_filter [DecidableEq α] (f : Nat → α) (m : Tab α) (p : Nat × α → Bool) (h : wf f m = true) :
    wf f (m.filter p) = true := by
  simp only [wf, Bool.and_eq_true, List.all_eq_true] at h ⊢
  refine ⟨?_, fun e he => h.2 e (List.mem_of_mem_filter he)⟩
  cases m with
  | nil => rfl
  | cons e m =>
    obtain ⟨j, w⟩ := e
    have h1 := h.1
    simp only [rising] at h1
    have h' := rising_some_filter p j m h1
    by_cases hp : p (j, w) = true
    · simp only [List.filter_cons, hp, if_true, rising]
      exact h'
    · simp only [List.filter_cons, hp]
      exact rising_none _ h'

end Sys2Proof.Machine.Tab
end

