-- ==== Sys2Proof/Laws/Memory.lean ====
section
/-! SUPPORT. The memories: what a read gives after a write, and that every operation that writes one keeps the canonical form. -/

namespace Sys2Proof.Machine

set_option Elab.async false

/-! ### Registers -/

@[simp] theorem rd_wr_same (off : Nat) (w : Word) (d : Dev) : (d.wr off w).rd off = w := Tab.get_put_same _ _ _ _

theorem rd_wr_ne {off a : Nat} (w : Word) (d : Dev) (h : off ≠ a) : (d.wr off w).rd a = d.rd a := Tab.get_put_ne _ _ _ h

/-- Words stored from `off` on: the words in their places, every other register as before. -/
theorem rd_wrWords_out (ws : List Word) : ∀ (off a : Nat) (d : Dev), (∀ i, i < ws.length → a ≠ off + 4 * i) →
    (d.wrWords off ws).rd a = d.rd a := by
  induction ws with
  | nil => intro off a d _; rfl
  | cons w ws ih =>
    intro off a d h
    have h0 : off ≠ a := fun he => h 0 (by simp) (by omega)
    show ((d.wr off w).wrWords (off + 4) ws).rd a = _
    rw [ih (off + 4) a _ (fun i hi => ?_), rd_wr_ne w d h0]
    have := h (i + 1) (by simpa using hi)
    omega

theorem rd_wrWords_in (ws : List Word) : ∀ (off i : Nat) (d : Dev), i < ws.length → (d.wrWords off ws).rd (off + 4 * i) = ws.getD i 0 := by
  induction ws with
  | nil => intro off i d h; simp at h
  | cons w ws ih =>
    intro off i d h
    cases i with
    | zero =>
      show ((d.wr off w).wrWords (off + 4) ws).rd (off + 4 * 0) = _
      rw [rd_wrWords_out ws (off + 4) _ _ (fun i _ => by omega)]
      exact rd_wr_same off w d
    | succ i =>
      have := ih (off + 4) i (d.wr off w) (by simpa using h)
      rw [show off + 4 * (i + 1) = off + 4 + 4 * i by omega]
      exact this

/-! ### BAR4 -/

theorem bar4Get_put_same {a : Nat} (b : Byte) (d : Dev) (h : a < 262144) : (d.bar4Put a b).bar4Get a = b := by
  simp only [Dev.bar4Put, h, if_true, Dev.bar4Get]
  exact Tab.get_ins_same _ _ _ _

theorem bar4Get_put_ne {a a' : Nat} (b : Byte) (d : Dev) (h : a ≠ a') : (d.bar4Put a b).bar4Get a' = d.bar4Get a' := by
  unfold Dev.bar4Put
  split
  · exact Tab.get_ins_ne _ _ _ h
  · rfl

/-- Bytes written to BAR4 leave every other byte as it was. -/
theorem bar4Get_write_out (bs : List Byte) : ∀ (a a' : Nat) (d : Dev), (a' < a ∨ a + bs.length ≤ a') →
    (d.bar4Write a bs).bar4Get a' = d.bar4Get a' := by
  induction bs with
  | nil => intro a a' d _; rfl
  | cons b bs ih =>
    intro a a' d h
    simp only [List.length_cons] at h
    show ((d.bar4Put a b).bar4Write (a + 1) bs).bar4Get a' = _
    rw [ih (a + 1) a' _ (by omega), bar4Get_put_ne b d (by omega)]

theorem bar4Get_write_in (bs : List Byte) : ∀ (a i : Nat) (d : Dev), i < bs.length → a + bs.length ≤ 262144 →
    (d.bar4Write a bs).bar4Get (a + i) = bs.getD i 0 := by
  induction bs with
  | nil => intro a i d h; simp at h
  | cons b bs ih =>
    intro a i d h hl
    simp only [List.length_cons] at h hl
    cases i with
    | zero =>
      show ((d.bar4Put a b).bar4Write (a + 1) bs).bar4Get (a + 0) = _
      rw [bar4Get_write_out bs (a + 1) _ _ (by omega)]
      exact bar4Get_put_same b d (by omega)
    | succ i =>
      have := ih (a + 1) i (d.bar4Put a b) (by omega) (by omega)
      rw [show a + (i + 1) = a + 1 + i by omega]
      exact this

/-! ### The canonical form -/

/-- The form of the memories depends on the memories alone. -/
theorem memoryWf_congr {d d' : Dev} (h1 : d'.regs = d.regs) (h2 : d'.bar4 = d.bar4) (h3 : d'.chart.flash = d.chart.flash)
    (h4 : d'.fw.flash = d.fw.flash) : d'.memoryWf = d.memoryWf := by
  simp only [Dev.memoryWf, h1, h2, h3, h4]

theorem memoryWf_wr (off : Nat) (w : Word) {d : Dev} (h : d.memoryWf = true) : (d.wr off w).memoryWf = true := by
  simp only [Dev.memoryWf, Bool.and_eq_true] at h ⊢
  exact ⟨⟨⟨⟨Tab.wf_put _ _ _ _ h.1.1.1.1, h.1.1.1.2⟩, h.1.1.2⟩, h.1.2⟩, h.2⟩

theorem memoryWf_wrF (off lo width v : Nat) {d : Dev} (h : d.memoryWf = true) : (d.wrF off lo width v).memoryWf = true :=
  memoryWf_wr _ _ h

theorem memoryWf_bump (off lo width : Nat) {d : Dev} (h : d.memoryWf = true) : (d.bump off lo width).memoryWf = true :=
  memoryWf_wr _ _ h

theorem memoryWf_pub40 (base : Nat) (v : Int) {d : Dev} (h : d.memoryWf = true) : (d.pub40 base v).memoryWf = true := by
  simp only [Dev.pub40]
  split
  · exact h
  · exact memoryWf_wr _ _ (memoryWf_wr _ _ h)

theorem memoryWf_wrWords (ws : List Word) : ∀ (off : Nat) {d : Dev}, d.memoryWf = true → (d.wrWords off ws).memoryWf = true := by
  induction ws with
  | nil => intro off d h; exact h
  | cons w ws ih => intro off d h; exact ih (off + 4) (memoryWf_wr off w h)

theorem memoryWf_bar4Put (a : Nat) (b : Byte) {d : Dev} (h : d.memoryWf = true) : (d.bar4Put a b).memoryWf = true := by
  unfold Dev.bar4Put
  split
  · rename_i ha
    simp only [Dev.memoryWf, Bool.and_eq_true, List.all_eq_true] at h ⊢
    refine ⟨⟨⟨⟨h.1.1.1.1, Tab.rising_ins _ _ _ h.1.1.1.2⟩, fun e he => ?_⟩, h.1.2⟩, h.2⟩
    rcases Tab.mem_ins he with rfl | he
    · simpa using ha
    · exact h.1.1.2 e he
  · exact h

theorem memoryWf_bar4Write (bs : List Byte) : ∀ (a : Nat) {d : Dev}, d.memoryWf = true → (d.bar4Write a bs).memoryWf = true := by
  induction bs with
  | nil => intro a d h; exact h
  | cons b bs ih => intro a d h; exact ih (a + 1) (memoryWf_bar4Put a b h)

theorem memoryWf_memWrite (bar4 : Bool) (a : Nat) (bs : List Byte) {d : Dev} (h : d.memoryWf = true) :
    (d.memWrite bar4 a bs).memoryWf = true := by
  cases bar4
  · show (d.post a bs).memoryWf = true
    unfold Dev.post
    split <;> exact h
  · exact memoryWf_bar4Write bs a h

theorem memoryWf_bar4Lost {d : Dev} (h : d.memoryWf = true) : d.bar4Lost.memoryWf = true := by
  simp only [Dev.memoryWf, Bool.and_eq_true] at h ⊢
  exact ⟨⟨⟨⟨h.1.1.1.1, rfl⟩, rfl⟩, h.1.2⟩, h.2⟩

/-- A flash whose bytes are written one by one stays canonical. -/
theorem flash_fold_put {α : Type} (addr : α → Nat) (v : α → Byte) (l : List α) : ∀ m : Tab Byte, Tab.wf (fun _ => 0xFF#8) m = true →
    Tab.wf (fun _ => 0xFF#8) (l.foldl (fun m i => Tab.put (fun _ => 0xFF#8) m (addr i) (v i)) m) = true := by
  induction l with
  | nil => intro m h; exact h
  | cons i l ih => intro m h; exact ih _ (Tab.wf_put _ _ _ _ h)

/-- The store's flash, changed to a canonical table, leaves the form of all memories. -/
theorem memoryWf_flash {d d' : Dev} (h : d.memoryWf = true) (h1 : d'.regs = d.regs) (h2 : d'.bar4 = d.bar4)
    (h3 : Tab.wf (fun _ => 0xFF#8) d'.chart.flash = true) (h4 : d'.fw.flash = d.fw.flash) : d'.memoryWf = true := by
  simp only [Dev.memoryWf, Bool.and_eq_true] at h ⊢
  rw [h1, h2, h4]
  exact ⟨⟨h.1.1, h3⟩, h.2⟩

/-- The code flash, changed to a canonical table. -/
theorem memoryWf_code {d d' : Dev} (h : d.memoryWf = true) (h1 : d'.regs = d.regs) (h2 : d'.bar4 = d.bar4)
    (h3 : d'.chart.flash = d.chart.flash) (h4 : Tab.wf (fun _ => 0xFF#8) d'.fw.flash = true) : d'.memoryWf = true := by
  simp only [Dev.memoryWf, Bool.and_eq_true] at h ⊢
  rw [h1, h2, h3]
  exact ⟨h.1, h4⟩

theorem memoryWf_chartFlash {d : Dev} (h : d.memoryWf = true) : Tab.wf (fun _ => 0xFF#8) d.chart.flash = true := by
  simp only [Dev.memoryWf, Bool.and_eq_true] at h
  exact h.1.2

theorem memoryWf_codeFlash {d : Dev} (h : d.memoryWf = true) : Tab.wf (fun _ => 0xFF#8) d.fw.flash = true := by
  simp only [Dev.memoryWf, Bool.and_eq_true] at h
  exact h.2

/-- Lines programmed. -/
theorem memoryWf_nvProgram (l : Nat) (bs : List Byte) {d : Dev} (h : d.memoryWf = true) : (d.nvProgram l bs).memoryWf = true := by
  unfold Dev.nvProgram onlyIf
  split
  · exact memoryWf_flash h rfl rfl (flash_fold_put (16 * l + ·) (bs.getD · 0xFF) _ _ (memoryWf_chartFlash h)) rfl
  · exact h

/-- A torn sector. -/
theorem memoryWf_tornSector (s : Nat) {d : Dev} (h : d.memoryWf = true) : (d.tornSector s).memoryWf = true := by
  refine memoryWf_flash h rfl rfl ?_ rfl
  have : ∀ (l m : Tab Byte), Tab.wf (fun _ => 0xFF#8) m = true → Tab.wf (fun _ => 0xFF#8) (l.foldl (fun m e =>
        if e.1 / 8192 ≠ s then m
        else Tab.put (fun _ => 0xFF#8) m e.1 (if e.1 % 8192 < 16 then 0xFF else e.2 ||| Config.tornByte d.draws e.1)) m) = true := by
    intro l
    induction l with
    | nil => intro m hm; exact hm
    | cons e l ih =>
      intro m hm
      refine ih _ ?_
      dsimp only
      split
      · exact hm
      · exact Tab.wf_put _ _ _ _ hm
  exact this _ _ (memoryWf_chartFlash h)

/-- A sector of code flash erased. -/
theorem memoryWf_fwErase (k : Nat) {d : Dev} (h : d.memoryWf = true) : (d.fwErase k).memoryWf = true := by
  unfold Dev.fwErase
  split
  · exact h
  · exact memoryWf_code h rfl rfl rfl (Tab.wf_filter _ _ _ (memoryWf_codeFlash h))

/-- A page of code flash programmed. -/
theorem memoryWf_fwProgram (page : Nat) (bs : List Byte) {d : Dev} (h : d.memoryWf = true) : (d.fwProgram page bs).memoryWf = true := by
  unfold Dev.fwProgram Dev.modFw
  generalize List.range 256 = l
  exact memoryWf_code h rfl rfl rfl (flash_fold_put (slotBase (!d.top.slotB) + 256 * page + ·) (bs.getD · 0) l _ (memoryWf_codeFlash h))

theorem memoryWf_fwPages (n : Nat) : ∀ (page : Nat) (bs : List Byte) {d : Dev}, d.memoryWf = true →
    (d.fwPages n page bs).2.memoryWf = true := by
  induction n with
  | zero => intro page bs d h; exact h
  | succ n ih =>
    intro page bs d h
    unfold Dev.fwPages
    split
    · exact h
    · exact ih _ _ (memoryWf_fwProgram _ _ (memoryWf_fwErase _ h))

/-- The memories after reset. -/
theorem memoryWf_reset : State.reset.dev.memoryWf = true := rfl

end Sys2Proof.Machine
end

