-- ==== Sys2Proof/Laws/Command.lean ====
section
/-! SUPPORT. What a ring command does, said once: the arbiter's part around the command's own effect. -/

namespace Sys2Proof.Machine

set_option Elab.async false

/-- Every meaning that changes only the device proceeds and keeps the queue. -/
theorem run_eq (f : Dev → Dev) (s : State) : run f s = .next { s with dev := f s.dev } := rfl

/-- A meaning that changes nothing answers the state it was given. -/
theorem run_same {f : Dev → Dev} {s : State} (h : f s.dev = s.dev) : run f s = .next s := by rw [run_eq, h]

/-- A command that the arbiter does not take. -/
theorem command_waits {op : Nat} {c : Cmd} {f : Dev → Option CmdOut × Dev} {d : Dev} (h : d.takes op c = false) :
    command op c f d = d := by simp [command, h]

/-- A command that ends at once: its completion on the device that its effect leaves. -/
theorem command_ends {op : Nat} {c : Cmd} {f : Dev → Option CmdOut × Dev} {d d' : Dev} {o : CmdOut} (h : d.takes op c = true)
    (hf : f (d.begun c op) = (some o, d')) : command op c f d = d'.complete c.src (inProg c op) o := by
  simp only [command, h, if_true, hf]

/-- A command that stays in progress. -/
theorem command_stays {op : Nat} {c : Cmd} {f : Dev → Option CmdOut × Dev} {d d' : Dev} (h : d.takes op c = true)
    (hf : f (d.begun c op) = (none, d')) : command op c f d = d' := by
  simp only [command, h, if_true, hf]

/-- A command of checked parameters serves what its effect gives. -/
theorem serves_checked {x : Instr} {c : Cmd} {op : Nat} {used : List Param} {bad : List Nat} {s : State} {Q : CmdOut → Dev → Prop}
    (f : Dev → CmdOut × Dev) (hx : exec x s = run (command op c (checked c used bad f)) s)
    (hq : paramFail c used bad = none → Q (f (s.dev.begun c op)).1 (f (s.dev.begun c op)).2) : Serves x c op used bad s Q := by
  intro ha
  refine ⟨fun i hi => ⟨_, hx, ?_⟩, fun hn => ⟨_, _, _, hx, ?_, hq hn⟩⟩
  · show ({ s with dev := command op c (checked c used bad f) s.dev } : State) = _
    rw [command_ends ha (d' := s.dev.begun c op) (o := .invalid i) (by simp only [checked, hi])]
  · show ({ s with dev := command op c (checked c used bad f) s.dev } : State) = _
    rw [command_ends ha (d' := (f (s.dev.begun c op)).2) (o := (f (s.dev.begun c op)).1) (by simp only [checked, hn])]

/-- Accepting a command changes the host interface and the Keeper's queue alone. -/
theorem begun_eq (c : Cmd) (op : Nat) (d : Dev) :
    d.begun c op = { d with host := (d.begun c op).host, keeper := (d.begun c op).keeper } := by
  have h : ∀ e : Dev, e.takeFetched c.src = { e with host := (e.takeFetched c.src).host, keeper := (e.takeFetched c.src).keeper } := by
    intro e
    cases c.src <;> rfl
  show ((d.passOver c.src).takeFetched c.src).modHost _ = _
  unfold Dev.modHost
  rw [h (d.passOver c.src)]
  rfl

@[simp] theorem begun_regs (c : Cmd) (op : Nat) (d : Dev) : (d.begun c op).regs = d.regs := by
  conv_lhs => rw [begun_eq]

@[simp] theorem begun_rd (c : Cmd) (op : Nat) (d : Dev) (a : Nat) : (d.begun c op).rd a = d.rd a := by
  simp only [Dev.rd, begun_regs]

/-- Words stored one block after the parameters' order. -/
theorem stored_wrWords (ws : List Word) (off : Nat) (d : Dev) :
    Stored ((List.range ws.length).map fun k => (off + 4 * k, ws.getD k 0)) d (d.wrWords off ws) := by
  constructor
  · intro e he
    simp only [List.mem_map, List.mem_range] at he
    obtain ⟨k, hk, rfl⟩ := he
    exact rd_wrWords_in ws off k d hk
  · intro a ha
    refine rd_wrWords_out ws off a d fun i hi he => ?_
    exact ha (off + 4 * i, ws.getD i 0) (List.mem_map.2 ⟨i, List.mem_range.2 hi, rfl⟩) he

/-- Two blocks of words stored one after the other, where no address is in both. -/
theorem Stored.append {l₁ l₂ : List (Nat × Word)} {d d₁ d₂ : Dev} (h₁ : Stored l₁ d d₁) (h₂ : Stored l₂ d₁ d₂)
    (hd : ∀ e ∈ l₁, ∀ f ∈ l₂, e.1 ≠ f.1) : Stored (l₁ ++ l₂) d d₂ := by
  constructor
  · intro e he
    rcases List.mem_append.1 he with he | he
    · rw [h₂.2 e.1 (fun f hf => hd e he f hf)]
      exact h₁.1 e he
    · exact h₂.1 e he
  · intro a ha
    rw [h₂.2 a fun f hf => ha f (List.mem_append_right _ hf), h₁.2 a fun e he => ha e (List.mem_append_left _ he)]

end Sys2Proof.Machine
end

