-- ==== Sys2Proof/Laws/State.lean ====
section
/-! SUPPORT. The fields of the device after an update of one of its parts: each is what it was, or what the update makes it. -/

namespace Sys2Proof.Machine

set_option Elab.async false

@[simp] theorem run_next (f : Dev → Dev) (s : State) : run f s = .next { s with dev := f s.dev } := rfl

@[simp] theorem modBuoy_regs (n : Fin 64) (f : Buoy → Buoy) (d : Dev) : (d.modBuoy n f).regs = d.regs := rfl
@[simp] theorem modBuoy_bar4 (n : Fin 64) (f : Buoy → Buoy) (d : Dev) : (d.modBuoy n f).bar4 = d.bar4 := rfl
@[simp] theorem modBuoy_bar4Gen (n : Fin 64) (f : Buoy → Buoy) (d : Dev) : (d.modBuoy n f).bar4Gen = d.bar4Gen := rfl
@[simp] theorem modBuoy_draws (n : Fin 64) (f : Buoy → Buoy) (d : Dev) : (d.modBuoy n f).draws = d.draws := rfl
@[simp] theorem modBuoy_top (n : Fin 64) (f : Buoy → Buoy) (d : Dev) : (d.modBuoy n f).top = d.top := rfl
@[simp] theorem modBuoy_chk (n : Fin 64) (f : Buoy → Buoy) (d : Dev) : (d.modBuoy n f).chk = d.chk := rfl
@[simp] theorem modBuoy_host (n : Fin 64) (f : Buoy → Buoy) (d : Dev) : (d.modBuoy n f).host = d.host := rfl
@[simp] theorem modBuoy_clk (n : Fin 64) (f : Buoy → Buoy) (d : Dev) : (d.modBuoy n f).clk = d.clk := rfl
@[simp] theorem modBuoy_pwr (n : Fin 64) (f : Buoy → Buoy) (d : Dev) : (d.modBuoy n f).pwr = d.pwr := rfl
@[simp] theorem modBuoy_watch (n : Fin 64) (f : Buoy → Buoy) (d : Dev) : (d.modBuoy n f).watch = d.watch := rfl
@[simp] theorem modBuoy_keeper (n : Fin 64) (f : Buoy → Buoy) (d : Dev) : (d.modBuoy n f).keeper = d.keeper := rfl
@[simp] theorem modBuoy_fw (n : Fin 64) (f : Buoy → Buoy) (d : Dev) : (d.modBuoy n f).fw = d.fw := rfl
@[simp] theorem modBuoy_otp (n : Fin 64) (f : Buoy → Buoy) (d : Dev) : (d.modBuoy n f).otp = d.otp := rfl
@[simp] theorem modBuoy_chart (n : Fin 64) (f : Buoy → Buoy) (d : Dev) : (d.modBuoy n f).chart = d.chart := rfl
@[simp] theorem modBuoy_buoys (n : Fin 64) (f : Buoy → Buoy) (d : Dev) : (d.modBuoy n f).buoys = d.buoys.set n (f (d.buoys.get n)) := rfl
@[simp] theorem modBuoy_pairs (n : Fin 64) (f : Buoy → Buoy) (d : Dev) : (d.modBuoy n f).pairs = d.pairs := rfl
@[simp] theorem modBuoy_cycle (n : Fin 64) (f : Buoy → Buoy) (d : Dev) : (d.modBuoy n f).cycle = d.cycle := rfl
@[simp] theorem modBuoy_chans (n : Fin 64) (f : Buoy → Buoy) (d : Dev) : (d.modBuoy n f).chans = d.chans := rfl
@[simp] theorem modBuoy_lans (n : Fin 64) (f : Buoy → Buoy) (d : Dev) : (d.modBuoy n f).lans = d.lans := rfl
@[simp] theorem modBuoy_outs (n : Fin 64) (f : Buoy → Buoy) (d : Dev) : (d.modBuoy n f).outs = d.outs := rfl
@[simp] theorem modBuoy_vouts (n : Fin 64) (f : Buoy → Buoy) (d : Dev) : (d.modBuoy n f).vouts = d.vouts := rfl
@[simp] theorem modBuoy_ts (n : Fin 64) (f : Buoy → Buoy) (d : Dev) : (d.modBuoy n f).ts = d.ts := rfl
@[simp] theorem modBuoy_ports (n : Fin 64) (f : Buoy → Buoy) (d : Dev) : (d.modBuoy n f).ports = d.ports := rfl
@[simp] theorem modBuoy_txts (n : Fin 64) (f : Buoy → Buoy) (d : Dev) : (d.modBuoy n f).txts = d.txts := rfl
@[simp] theorem modBuoy_clients (n : Fin 64) (f : Buoy → Buoy) (d : Dev) : (d.modBuoy n f).clients = d.clients := rfl
@[simp] theorem modBuoy_pilot (n : Fin 64) (f : Buoy → Buoy) (d : Dev) : (d.modBuoy n f).pilot = d.pilot := rfl
@[simp] theorem modBuoy_tide (n : Fin 64) (f : Buoy → Buoy) (d : Dev) : (d.modBuoy n f).tide = d.tide := rfl

@[simp] theorem modChan_regs (n : Fin 16) (f : Chan → Chan) (d : Dev) : (d.modChan n f).regs = d.regs := rfl
@[simp] theorem modChan_bar4 (n : Fin 16) (f : Chan → Chan) (d : Dev) : (d.modChan n f).bar4 = d.bar4 := rfl
@[simp] theorem modChan_bar4Gen (n : Fin 16) (f : Chan → Chan) (d : Dev) : (d.modChan n f).bar4Gen = d.bar4Gen := rfl
@[simp] theorem modChan_draws (n : Fin 16) (f : Chan → Chan) (d : Dev) : (d.modChan n f).draws = d.draws := rfl
@[simp] theorem modChan_top (n : Fin 16) (f : Chan → Chan) (d : Dev) : (d.modChan n f).top = d.top := rfl
@[simp] theorem modChan_chk (n : Fin 16) (f : Chan → Chan) (d : Dev) : (d.modChan n f).chk = d.chk := rfl
@[simp] theorem modChan_host (n : Fin 16) (f : Chan → Chan) (d : Dev) : (d.modChan n f).host = d.host := rfl
@[simp] theorem modChan_clk (n : Fin 16) (f : Chan → Chan) (d : Dev) : (d.modChan n f).clk = d.clk := rfl
@[simp] theorem modChan_pwr (n : Fin 16) (f : Chan → Chan) (d : Dev) : (d.modChan n f).pwr = d.pwr := rfl
@[simp] theorem modChan_watch (n : Fin 16) (f : Chan → Chan) (d : Dev) : (d.modChan n f).watch = d.watch := rfl
@[simp] theorem modChan_keeper (n : Fin 16) (f : Chan → Chan) (d : Dev) : (d.modChan n f).keeper = d.keeper := rfl
@[simp] theorem modChan_fw (n : Fin 16) (f : Chan → Chan) (d : Dev) : (d.modChan n f).fw = d.fw := rfl
@[simp] theorem modChan_otp (n : Fin 16) (f : Chan → Chan) (d : Dev) : (d.modChan n f).otp = d.otp := rfl
@[simp] theorem modChan_chart (n : Fin 16) (f : Chan → Chan) (d : Dev) : (d.modChan n f).chart = d.chart := rfl
@[simp] theorem modChan_buoys (n : Fin 16) (f : Chan → Chan) (d : Dev) : (d.modChan n f).buoys = d.buoys := rfl
@[simp] theorem modChan_pairs (n : Fin 16) (f : Chan → Chan) (d : Dev) : (d.modChan n f).pairs = d.pairs := rfl
@[simp] theorem modChan_cycle (n : Fin 16) (f : Chan → Chan) (d : Dev) : (d.modChan n f).cycle = d.cycle := rfl
@[simp] theorem modChan_chans (n : Fin 16) (f : Chan → Chan) (d : Dev) : (d.modChan n f).chans = d.chans.set n (f (d.chans.get n)) := rfl
@[simp] theorem modChan_lans (n : Fin 16) (f : Chan → Chan) (d : Dev) : (d.modChan n f).lans = d.lans := rfl
@[simp] theorem modChan_outs (n : Fin 16) (f : Chan → Chan) (d : Dev) : (d.modChan n f).outs = d.outs := rfl
@[simp] theorem modChan_vouts (n : Fin 16) (f : Chan → Chan) (d : Dev) : (d.modChan n f).vouts = d.vouts := rfl
@[simp] theorem modChan_ts (n : Fin 16) (f : Chan → Chan) (d : Dev) : (d.modChan n f).ts = d.ts := rfl
@[simp] theorem modChan_ports (n : Fin 16) (f : Chan → Chan) (d : Dev) : (d.modChan n f).ports = d.ports := rfl
@[simp] theorem modChan_txts (n : Fin 16) (f : Chan → Chan) (d : Dev) : (d.modChan n f).txts = d.txts := rfl
@[simp] theorem modChan_clients (n : Fin 16) (f : Chan → Chan) (d : Dev) : (d.modChan n f).clients = d.clients := rfl
@[simp] theorem modChan_pilot (n : Fin 16) (f : Chan → Chan) (d : Dev) : (d.modChan n f).pilot = d.pilot := rfl
@[simp] theorem modChan_tide (n : Fin 16) (f : Chan → Chan) (d : Dev) : (d.modChan n f).tide = d.tide := rfl

@[simp] theorem modLan_regs (n : Fin 8) (f : Lan → Lan) (d : Dev) : (d.modLan n f).regs = d.regs := rfl
@[simp] theorem modLan_bar4 (n : Fin 8) (f : Lan → Lan) (d : Dev) : (d.modLan n f).bar4 = d.bar4 := rfl
@[simp] theorem modLan_bar4Gen (n : Fin 8) (f : Lan → Lan) (d : Dev) : (d.modLan n f).bar4Gen = d.bar4Gen := rfl
@[simp] theorem modLan_draws (n : Fin 8) (f : Lan → Lan) (d : Dev) : (d.modLan n f).draws = d.draws := rfl
@[simp] theorem modLan_top (n : Fin 8) (f : Lan → Lan) (d : Dev) : (d.modLan n f).top = d.top := rfl
@[simp] theorem modLan_chk (n : Fin 8) (f : Lan → Lan) (d : Dev) : (d.modLan n f).chk = d.chk := rfl
@[simp] theorem modLan_host (n : Fin 8) (f : Lan → Lan) (d : Dev) : (d.modLan n f).host = d.host := rfl
@[simp] theorem modLan_clk (n : Fin 8) (f : Lan → Lan) (d : Dev) : (d.modLan n f).clk = d.clk := rfl
@[simp] theorem modLan_pwr (n : Fin 8) (f : Lan → Lan) (d : Dev) : (d.modLan n f).pwr = d.pwr := rfl
@[simp] theorem modLan_watch (n : Fin 8) (f : Lan → Lan) (d : Dev) : (d.modLan n f).watch = d.watch := rfl
@[simp] theorem modLan_keeper (n : Fin 8) (f : Lan → Lan) (d : Dev) : (d.modLan n f).keeper = d.keeper := rfl
@[simp] theorem modLan_fw (n : Fin 8) (f : Lan → Lan) (d : Dev) : (d.modLan n f).fw = d.fw := rfl
@[simp] theorem modLan_otp (n : Fin 8) (f : Lan → Lan) (d : Dev) : (d.modLan n f).otp = d.otp := rfl
@[simp] theorem modLan_chart (n : Fin 8) (f : Lan → Lan) (d : Dev) : (d.modLan n f).chart = d.chart := rfl
@[simp] theorem modLan_buoys (n : Fin 8) (f : Lan → Lan) (d : Dev) : (d.modLan n f).buoys = d.buoys := rfl
@[simp] theorem modLan_pairs (n : Fin 8) (f : Lan → Lan) (d : Dev) : (d.modLan n f).pairs = d.pairs := rfl
@[simp] theorem modLan_cycle (n : Fin 8) (f : Lan → Lan) (d : Dev) : (d.modLan n f).cycle = d.cycle := rfl
@[simp] theorem modLan_chans (n : Fin 8) (f : Lan → Lan) (d : Dev) : (d.modLan n f).chans = d.chans := rfl
@[simp] theorem modLan_lans (n : Fin 8) (f : Lan → Lan) (d : Dev) : (d.modLan n f).lans = d.lans.set n (f (d.lans.get n)) := rfl
@[simp] theorem modLan_outs (n : Fin 8) (f : Lan → Lan) (d : Dev) : (d.modLan n f).outs = d.outs := rfl
@[simp] theorem modLan_vouts (n : Fin 8) (f : Lan → Lan) (d : Dev) : (d.modLan n f).vouts = d.vouts := rfl
@[simp] theorem modLan_ts (n : Fin 8) (f : Lan → Lan) (d : Dev) : (d.modLan n f).ts = d.ts := rfl
@[simp] theorem modLan_ports (n : Fin 8) (f : Lan → Lan) (d : Dev) : (d.modLan n f).ports = d.ports := rfl
@[simp] theorem modLan_txts (n : Fin 8) (f : Lan → Lan) (d : Dev) : (d.modLan n f).txts = d.txts := rfl
@[simp] theorem modLan_clients (n : Fin 8) (f : Lan → Lan) (d : Dev) : (d.modLan n f).clients = d.clients := rfl
@[simp] theorem modLan_pilot (n : Fin 8) (f : Lan → Lan) (d : Dev) : (d.modLan n f).pilot = d.pilot := rfl
@[simp] theorem modLan_tide (n : Fin 8) (f : Lan → Lan) (d : Dev) : (d.modLan n f).tide = d.tide := rfl

@[simp] theorem modOut_regs (n : Fin 48) (f : Out → Out) (d : Dev) : (d.modOut n f).regs = d.regs := rfl
@[simp] theorem modOut_bar4 (n : Fin 48) (f : Out → Out) (d : Dev) : (d.modOut n f).bar4 = d.bar4 := rfl
@[simp] theorem modOut_bar4Gen (n : Fin 48) (f : Out → Out) (d : Dev) : (d.modOut n f).bar4Gen = d.bar4Gen := rfl
@[simp] theorem modOut_draws (n : Fin 48) (f : Out → Out) (d : Dev) : (d.modOut n f).draws = d.draws := rfl
@[simp] theorem modOut_top (n : Fin 48) (f : Out → Out) (d : Dev) : (d.modOut n f).top = d.top := rfl
@[simp] theorem modOut_chk (n : Fin 48) (f : Out → Out) (d : Dev) : (d.modOut n f).chk = d.chk := rfl
@[simp] theorem modOut_host (n : Fin 48) (f : Out → Out) (d : Dev) : (d.modOut n f).host = d.host := rfl
@[simp] theorem modOut_clk (n : Fin 48) (f : Out → Out) (d : Dev) : (d.modOut n f).clk = d.clk := rfl
@[simp] theorem modOut_pwr (n : Fin 48) (f : Out → Out) (d : Dev) : (d.modOut n f).pwr = d.pwr := rfl
@[simp] theorem modOut_watch (n : Fin 48) (f : Out → Out) (d : Dev) : (d.modOut n f).watch = d.watch := rfl
@[simp] theorem modOut_keeper (n : Fin 48) (f : Out → Out) (d : Dev) : (d.modOut n f).keeper = d.keeper := rfl
@[simp] theorem modOut_fw (n : Fin 48) (f : Out → Out) (d : Dev) : (d.modOut n f).fw = d.fw := rfl
@[simp] theorem modOut_otp (n : Fin 48) (f : Out → Out) (d : Dev) : (d.modOut n f).otp = d.otp := rfl
@[simp] theorem modOut_chart (n : Fin 48) (f : Out → Out) (d : Dev) : (d.modOut n f).chart = d.chart := rfl
@[simp] theorem modOut_buoys (n : Fin 48) (f : Out → Out) (d : Dev) : (d.modOut n f).buoys = d.buoys := rfl
@[simp] theorem modOut_pairs (n : Fin 48) (f : Out → Out) (d : Dev) : (d.modOut n f).pairs = d.pairs := rfl
@[simp] theorem modOut_cycle (n : Fin 48) (f : Out → Out) (d : Dev) : (d.modOut n f).cycle = d.cycle := rfl
@[simp] theorem modOut_chans (n : Fin 48) (f : Out → Out) (d : Dev) : (d.modOut n f).chans = d.chans := rfl
@[simp] theorem modOut_lans (n : Fin 48) (f : Out → Out) (d : Dev) : (d.modOut n f).lans = d.lans := rfl
@[simp] theorem modOut_outs (n : Fin 48) (f : Out → Out) (d : Dev) : (d.modOut n f).outs = d.outs.set n (f (d.outs.get n)) := rfl
@[simp] theorem modOut_vouts (n : Fin 48) (f : Out → Out) (d : Dev) : (d.modOut n f).vouts = d.vouts := rfl
@[simp] theorem modOut_ts (n : Fin 48) (f : Out → Out) (d : Dev) : (d.modOut n f).ts = d.ts := rfl
@[simp] theorem modOut_ports (n : Fin 48) (f : Out → Out) (d : Dev) : (d.modOut n f).ports = d.ports := rfl
@[simp] theorem modOut_txts (n : Fin 48) (f : Out → Out) (d : Dev) : (d.modOut n f).txts = d.txts := rfl
@[simp] theorem modOut_clients (n : Fin 48) (f : Out → Out) (d : Dev) : (d.modOut n f).clients = d.clients := rfl
@[simp] theorem modOut_pilot (n : Fin 48) (f : Out → Out) (d : Dev) : (d.modOut n f).pilot = d.pilot := rfl
@[simp] theorem modOut_tide (n : Fin 48) (f : Out → Out) (d : Dev) : (d.modOut n f).tide = d.tide := rfl

@[simp] theorem modVout_regs (n : Fin 8) (f : Vout → Vout) (d : Dev) : (d.modVout n f).regs = d.regs := rfl
@[simp] theorem modVout_bar4 (n : Fin 8) (f : Vout → Vout) (d : Dev) : (d.modVout n f).bar4 = d.bar4 := rfl
@[simp] theorem modVout_bar4Gen (n : Fin 8) (f : Vout → Vout) (d : Dev) : (d.modVout n f).bar4Gen = d.bar4Gen := rfl
@[simp] theorem modVout_draws (n : Fin 8) (f : Vout → Vout) (d : Dev) : (d.modVout n f).draws = d.draws := rfl
@[simp] theorem modVout_top (n : Fin 8) (f : Vout → Vout) (d : Dev) : (d.modVout n f).top = d.top := rfl
@[simp] theorem modVout_chk (n : Fin 8) (f : Vout → Vout) (d : Dev) : (d.modVout n f).chk = d.chk := rfl
@[simp] theorem modVout_host (n : Fin 8) (f : Vout → Vout) (d : Dev) : (d.modVout n f).host = d.host := rfl
@[simp] theorem modVout_clk (n : Fin 8) (f : Vout → Vout) (d : Dev) : (d.modVout n f).clk = d.clk := rfl
@[simp] theorem modVout_pwr (n : Fin 8) (f : Vout → Vout) (d : Dev) : (d.modVout n f).pwr = d.pwr := rfl
@[simp] theorem modVout_watch (n : Fin 8) (f : Vout → Vout) (d : Dev) : (d.modVout n f).watch = d.watch := rfl
@[simp] theorem modVout_keeper (n : Fin 8) (f : Vout → Vout) (d : Dev) : (d.modVout n f).keeper = d.keeper := rfl
@[simp] theorem modVout_fw (n : Fin 8) (f : Vout → Vout) (d : Dev) : (d.modVout n f).fw = d.fw := rfl
@[simp] theorem modVout_otp (n : Fin 8) (f : Vout → Vout) (d : Dev) : (d.modVout n f).otp = d.otp := rfl
@[simp] theorem modVout_chart (n : Fin 8) (f : Vout → Vout) (d : Dev) : (d.modVout n f).chart = d.chart := rfl
@[simp] theorem modVout_buoys (n : Fin 8) (f : Vout → Vout) (d : Dev) : (d.modVout n f).buoys = d.buoys := rfl
@[simp] theorem modVout_pairs (n : Fin 8) (f : Vout → Vout) (d : Dev) : (d.modVout n f).pairs = d.pairs := rfl
@[simp] theorem modVout_cycle (n : Fin 8) (f : Vout → Vout) (d : Dev) : (d.modVout n f).cycle = d.cycle := rfl
@[simp] theorem modVout_chans (n : Fin 8) (f : Vout → Vout) (d : Dev) : (d.modVout n f).chans = d.chans := rfl
@[simp] theorem modVout_lans (n : Fin 8) (f : Vout → Vout) (d : Dev) : (d.modVout n f).lans = d.lans := rfl
@[simp] theorem modVout_outs (n : Fin 8) (f : Vout → Vout) (d : Dev) : (d.modVout n f).outs = d.outs := rfl
@[simp] theorem modVout_vouts (n : Fin 8) (f : Vout → Vout) (d : Dev) : (d.modVout n f).vouts = d.vouts.set n (f (d.vouts.get n)) := rfl
@[simp] theorem modVout_ts (n : Fin 8) (f : Vout → Vout) (d : Dev) : (d.modVout n f).ts = d.ts := rfl
@[simp] theorem modVout_ports (n : Fin 8) (f : Vout → Vout) (d : Dev) : (d.modVout n f).ports = d.ports := rfl
@[simp] theorem modVout_txts (n : Fin 8) (f : Vout → Vout) (d : Dev) : (d.modVout n f).txts = d.txts := rfl
@[simp] theorem modVout_clients (n : Fin 8) (f : Vout → Vout) (d : Dev) : (d.modVout n f).clients = d.clients := rfl
@[simp] theorem modVout_pilot (n : Fin 8) (f : Vout → Vout) (d : Dev) : (d.modVout n f).pilot = d.pilot := rfl
@[simp] theorem modVout_tide (n : Fin 8) (f : Vout → Vout) (d : Dev) : (d.modVout n f).tide = d.tide := rfl

@[simp] theorem modTs_regs (n : Fin 4) (f : TimeScale → TimeScale) (d : Dev) : (d.modTs n f).regs = d.regs := rfl
@[simp] theorem modTs_bar4 (n : Fin 4) (f : TimeScale → TimeScale) (d : Dev) : (d.modTs n f).bar4 = d.bar4 := rfl
@[simp] theorem modTs_bar4Gen (n : Fin 4) (f : TimeScale → TimeScale) (d : Dev) : (d.modTs n f).bar4Gen = d.bar4Gen := rfl
@[simp] theorem modTs_draws (n : Fin 4) (f : TimeScale → TimeScale) (d : Dev) : (d.modTs n f).draws = d.draws := rfl
@[simp] theorem modTs_top (n : Fin 4) (f : TimeScale → TimeScale) (d : Dev) : (d.modTs n f).top = d.top := rfl
@[simp] theorem modTs_chk (n : Fin 4) (f : TimeScale → TimeScale) (d : Dev) : (d.modTs n f).chk = d.chk := rfl
@[simp] theorem modTs_host (n : Fin 4) (f : TimeScale → TimeScale) (d : Dev) : (d.modTs n f).host = d.host := rfl
@[simp] theorem modTs_clk (n : Fin 4) (f : TimeScale → TimeScale) (d : Dev) : (d.modTs n f).clk = d.clk := rfl
@[simp] theorem modTs_pwr (n : Fin 4) (f : TimeScale → TimeScale) (d : Dev) : (d.modTs n f).pwr = d.pwr := rfl
@[simp] theorem modTs_watch (n : Fin 4) (f : TimeScale → TimeScale) (d : Dev) : (d.modTs n f).watch = d.watch := rfl
@[simp] theorem modTs_keeper (n : Fin 4) (f : TimeScale → TimeScale) (d : Dev) : (d.modTs n f).keeper = d.keeper := rfl
@[simp] theorem modTs_fw (n : Fin 4) (f : TimeScale → TimeScale) (d : Dev) : (d.modTs n f).fw = d.fw := rfl
@[simp] theorem modTs_otp (n : Fin 4) (f : TimeScale → TimeScale) (d : Dev) : (d.modTs n f).otp = d.otp := rfl
@[simp] theorem modTs_chart (n : Fin 4) (f : TimeScale → TimeScale) (d : Dev) : (d.modTs n f).chart = d.chart := rfl
@[simp] theorem modTs_buoys (n : Fin 4) (f : TimeScale → TimeScale) (d : Dev) : (d.modTs n f).buoys = d.buoys := rfl
@[simp] theorem modTs_pairs (n : Fin 4) (f : TimeScale → TimeScale) (d : Dev) : (d.modTs n f).pairs = d.pairs := rfl
@[simp] theorem modTs_cycle (n : Fin 4) (f : TimeScale → TimeScale) (d : Dev) : (d.modTs n f).cycle = d.cycle := rfl
@[simp] theorem modTs_chans (n : Fin 4) (f : TimeScale → TimeScale) (d : Dev) : (d.modTs n f).chans = d.chans := rfl
@[simp] theorem modTs_lans (n : Fin 4) (f : TimeScale → TimeScale) (d : Dev) : (d.modTs n f).lans = d.lans := rfl
@[simp] theorem modTs_outs (n : Fin 4) (f : TimeScale → TimeScale) (d : Dev) : (d.modTs n f).outs = d.outs := rfl
@[simp] theorem modTs_vouts (n : Fin 4) (f : TimeScale → TimeScale) (d : Dev) : (d.modTs n f).vouts = d.vouts := rfl
@[simp] theorem modTs_ts (n : Fin 4) (f : TimeScale → TimeScale) (d : Dev) : (d.modTs n f).ts = d.ts.set n (f (d.ts.get n)) := rfl
@[simp] theorem modTs_ports (n : Fin 4) (f : TimeScale → TimeScale) (d : Dev) : (d.modTs n f).ports = d.ports := rfl
@[simp] theorem modTs_txts (n : Fin 4) (f : TimeScale → TimeScale) (d : Dev) : (d.modTs n f).txts = d.txts := rfl
@[simp] theorem modTs_clients (n : Fin 4) (f : TimeScale → TimeScale) (d : Dev) : (d.modTs n f).clients = d.clients := rfl
@[simp] theorem modTs_pilot (n : Fin 4) (f : TimeScale → TimeScale) (d : Dev) : (d.modTs n f).pilot = d.pilot := rfl
@[simp] theorem modTs_tide (n : Fin 4) (f : TimeScale → TimeScale) (d : Dev) : (d.modTs n f).tide = d.tide := rfl

@[simp] theorem modPort_regs (n : Fin 8) (f : Port → Port) (d : Dev) : (d.modPort n f).regs = d.regs := rfl
@[simp] theorem modPort_bar4 (n : Fin 8) (f : Port → Port) (d : Dev) : (d.modPort n f).bar4 = d.bar4 := rfl
@[simp] theorem modPort_bar4Gen (n : Fin 8) (f : Port → Port) (d : Dev) : (d.modPort n f).bar4Gen = d.bar4Gen := rfl
@[simp] theorem modPort_draws (n : Fin 8) (f : Port → Port) (d : Dev) : (d.modPort n f).draws = d.draws := rfl
@[simp] theorem modPort_top (n : Fin 8) (f : Port → Port) (d : Dev) : (d.modPort n f).top = d.top := rfl
@[simp] theorem modPort_chk (n : Fin 8) (f : Port → Port) (d : Dev) : (d.modPort n f).chk = d.chk := rfl
@[simp] theorem modPort_host (n : Fin 8) (f : Port → Port) (d : Dev) : (d.modPort n f).host = d.host := rfl
@[simp] theorem modPort_clk (n : Fin 8) (f : Port → Port) (d : Dev) : (d.modPort n f).clk = d.clk := rfl
@[simp] theorem modPort_pwr (n : Fin 8) (f : Port → Port) (d : Dev) : (d.modPort n f).pwr = d.pwr := rfl
@[simp] theorem modPort_watch (n : Fin 8) (f : Port → Port) (d : Dev) : (d.modPort n f).watch = d.watch := rfl
@[simp] theorem modPort_keeper (n : Fin 8) (f : Port → Port) (d : Dev) : (d.modPort n f).keeper = d.keeper := rfl
@[simp] theorem modPort_fw (n : Fin 8) (f : Port → Port) (d : Dev) : (d.modPort n f).fw = d.fw := rfl
@[simp] theorem modPort_otp (n : Fin 8) (f : Port → Port) (d : Dev) : (d.modPort n f).otp = d.otp := rfl
@[simp] theorem modPort_chart (n : Fin 8) (f : Port → Port) (d : Dev) : (d.modPort n f).chart = d.chart := rfl
@[simp] theorem modPort_buoys (n : Fin 8) (f : Port → Port) (d : Dev) : (d.modPort n f).buoys = d.buoys := rfl
@[simp] theorem modPort_pairs (n : Fin 8) (f : Port → Port) (d : Dev) : (d.modPort n f).pairs = d.pairs := rfl
@[simp] theorem modPort_cycle (n : Fin 8) (f : Port → Port) (d : Dev) : (d.modPort n f).cycle = d.cycle := rfl
@[simp] theorem modPort_chans (n : Fin 8) (f : Port → Port) (d : Dev) : (d.modPort n f).chans = d.chans := rfl
@[simp] theorem modPort_lans (n : Fin 8) (f : Port → Port) (d : Dev) : (d.modPort n f).lans = d.lans := rfl
@[simp] theorem modPort_outs (n : Fin 8) (f : Port → Port) (d : Dev) : (d.modPort n f).outs = d.outs := rfl
@[simp] theorem modPort_vouts (n : Fin 8) (f : Port → Port) (d : Dev) : (d.modPort n f).vouts = d.vouts := rfl
@[simp] theorem modPort_ts (n : Fin 8) (f : Port → Port) (d : Dev) : (d.modPort n f).ts = d.ts := rfl
@[simp] theorem modPort_ports (n : Fin 8) (f : Port → Port) (d : Dev) : (d.modPort n f).ports = d.ports.set n (f (d.ports.get n)) := rfl
@[simp] theorem modPort_txts (n : Fin 8) (f : Port → Port) (d : Dev) : (d.modPort n f).txts = d.txts := rfl
@[simp] theorem modPort_clients (n : Fin 8) (f : Port → Port) (d : Dev) : (d.modPort n f).clients = d.clients := rfl
@[simp] theorem modPort_pilot (n : Fin 8) (f : Port → Port) (d : Dev) : (d.modPort n f).pilot = d.pilot := rfl
@[simp] theorem modPort_tide (n : Fin 8) (f : Port → Port) (d : Dev) : (d.modPort n f).tide = d.tide := rfl

@[simp] theorem modClient_regs (n : Fin 16) (f : Client → Client) (d : Dev) : (d.modClient n f).regs = d.regs := rfl
@[simp] theorem modClient_bar4 (n : Fin 16) (f : Client → Client) (d : Dev) : (d.modClient n f).bar4 = d.bar4 := rfl
@[simp] theorem modClient_bar4Gen (n : Fin 16) (f : Client → Client) (d : Dev) : (d.modClient n f).bar4Gen = d.bar4Gen := rfl
@[simp] theorem modClient_draws (n : Fin 16) (f : Client → Client) (d : Dev) : (d.modClient n f).draws = d.draws := rfl
@[simp] theorem modClient_top (n : Fin 16) (f : Client → Client) (d : Dev) : (d.modClient n f).top = d.top := rfl
@[simp] theorem modClient_chk (n : Fin 16) (f : Client → Client) (d : Dev) : (d.modClient n f).chk = d.chk := rfl
@[simp] theorem modClient_host (n : Fin 16) (f : Client → Client) (d : Dev) : (d.modClient n f).host = d.host := rfl
@[simp] theorem modClient_clk (n : Fin 16) (f : Client → Client) (d : Dev) : (d.modClient n f).clk = d.clk := rfl
@[simp] theorem modClient_pwr (n : Fin 16) (f : Client → Client) (d : Dev) : (d.modClient n f).pwr = d.pwr := rfl
@[simp] theorem modClient_watch (n : Fin 16) (f : Client → Client) (d : Dev) : (d.modClient n f).watch = d.watch := rfl
@[simp] theorem modClient_keeper (n : Fin 16) (f : Client → Client) (d : Dev) : (d.modClient n f).keeper = d.keeper := rfl
@[simp] theorem modClient_fw (n : Fin 16) (f : Client → Client) (d : Dev) : (d.modClient n f).fw = d.fw := rfl
@[simp] theorem modClient_otp (n : Fin 16) (f : Client → Client) (d : Dev) : (d.modClient n f).otp = d.otp := rfl
@[simp] theorem modClient_chart (n : Fin 16) (f : Client → Client) (d : Dev) : (d.modClient n f).chart = d.chart := rfl
@[simp] theorem modClient_buoys (n : Fin 16) (f : Client → Client) (d : Dev) : (d.modClient n f).buoys = d.buoys := rfl
@[simp] theorem modClient_pairs (n : Fin 16) (f : Client → Client) (d : Dev) : (d.modClient n f).pairs = d.pairs := rfl
@[simp] theorem modClient_cycle (n : Fin 16) (f : Client → Client) (d : Dev) : (d.modClient n f).cycle = d.cycle := rfl
@[simp] theorem modClient_chans (n : Fin 16) (f : Client → Client) (d : Dev) : (d.modClient n f).chans = d.chans := rfl
@[simp] theorem modClient_lans (n : Fin 16) (f : Client → Client) (d : Dev) : (d.modClient n f).lans = d.lans := rfl
@[simp] theorem modClient_outs (n : Fin 16) (f : Client → Client) (d : Dev) : (d.modClient n f).outs = d.outs := rfl
@[simp] theorem modClient_vouts (n : Fin 16) (f : Client → Client) (d : Dev) : (d.modClient n f).vouts = d.vouts := rfl
@[simp] theorem modClient_ts (n : Fin 16) (f : Client → Client) (d : Dev) : (d.modClient n f).ts = d.ts := rfl
@[simp] theorem modClient_ports (n : Fin 16) (f : Client → Client) (d : Dev) : (d.modClient n f).ports = d.ports := rfl
@[simp] theorem modClient_txts (n : Fin 16) (f : Client → Client) (d : Dev) : (d.modClient n f).txts = d.txts := rfl
@[simp] theorem modClient_clients (n : Fin 16) (f : Client → Client) (d : Dev) : (d.modClient n f).clients = d.clients.set n (f (d.clients.get n)) := rfl
@[simp] theorem modClient_pilot (n : Fin 16) (f : Client → Client) (d : Dev) : (d.modClient n f).pilot = d.pilot := rfl
@[simp] theorem modClient_tide (n : Fin 16) (f : Client → Client) (d : Dev) : (d.modClient n f).tide = d.tide := rfl

@[simp] theorem modTide_regs (f : Tide → Tide) (d : Dev) : (d.modTide f).regs = d.regs := rfl
@[simp] theorem modTide_bar4 (f : Tide → Tide) (d : Dev) : (d.modTide f).bar4 = d.bar4 := rfl
@[simp] theorem modTide_bar4Gen (f : Tide → Tide) (d : Dev) : (d.modTide f).bar4Gen = d.bar4Gen := rfl
@[simp] theorem modTide_draws (f : Tide → Tide) (d : Dev) : (d.modTide f).draws = d.draws := rfl
@[simp] theorem modTide_top (f : Tide → Tide) (d : Dev) : (d.modTide f).top = d.top := rfl
@[simp] theorem modTide_chk (f : Tide → Tide) (d : Dev) : (d.modTide f).chk = d.chk := rfl
@[simp] theorem modTide_host (f : Tide → Tide) (d : Dev) : (d.modTide f).host = d.host := rfl
@[simp] theorem modTide_clk (f : Tide → Tide) (d : Dev) : (d.modTide f).clk = d.clk := rfl
@[simp] theorem modTide_pwr (f : Tide → Tide) (d : Dev) : (d.modTide f).pwr = d.pwr := rfl
@[simp] theorem modTide_watch (f : Tide → Tide) (d : Dev) : (d.modTide f).watch = d.watch := rfl
@[simp] theorem modTide_keeper (f : Tide → Tide) (d : Dev) : (d.modTide f).keeper = d.keeper := rfl
@[simp] theorem modTide_fw (f : Tide → Tide) (d : Dev) : (d.modTide f).fw = d.fw := rfl
@[simp] theorem modTide_otp (f : Tide → Tide) (d : Dev) : (d.modTide f).otp = d.otp := rfl
@[simp] theorem modTide_chart (f : Tide → Tide) (d : Dev) : (d.modTide f).chart = d.chart := rfl
@[simp] theorem modTide_buoys (f : Tide → Tide) (d : Dev) : (d.modTide f).buoys = d.buoys := rfl
@[simp] theorem modTide_pairs (f : Tide → Tide) (d : Dev) : (d.modTide f).pairs = d.pairs := rfl
@[simp] theorem modTide_cycle (f : Tide → Tide) (d : Dev) : (d.modTide f).cycle = d.cycle := rfl
@[simp] theorem modTide_chans (f : Tide → Tide) (d : Dev) : (d.modTide f).chans = d.chans := rfl
@[simp] theorem modTide_lans (f : Tide → Tide) (d : Dev) : (d.modTide f).lans = d.lans := rfl
@[simp] theorem modTide_outs (f : Tide → Tide) (d : Dev) : (d.modTide f).outs = d.outs := rfl
@[simp] theorem modTide_vouts (f : Tide → Tide) (d : Dev) : (d.modTide f).vouts = d.vouts := rfl
@[simp] theorem modTide_ts (f : Tide → Tide) (d : Dev) : (d.modTide f).ts = d.ts := rfl
@[simp] theorem modTide_ports (f : Tide → Tide) (d : Dev) : (d.modTide f).ports = d.ports := rfl
@[simp] theorem modTide_txts (f : Tide → Tide) (d : Dev) : (d.modTide f).txts = d.txts := rfl
@[simp] theorem modTide_clients (f : Tide → Tide) (d : Dev) : (d.modTide f).clients = d.clients := rfl
@[simp] theorem modTide_pilot (f : Tide → Tide) (d : Dev) : (d.modTide f).pilot = d.pilot := rfl
@[simp] theorem modTide_tide (f : Tide → Tide) (d : Dev) : (d.modTide f).tide = f d.tide := rfl

@[simp] theorem modLink_regs (n : Fin 5) (f : Link → Link) (d : Dev) : (d.modLink n f).regs = d.regs := rfl
@[simp] theorem modLink_bar4 (n : Fin 5) (f : Link → Link) (d : Dev) : (d.modLink n f).bar4 = d.bar4 := rfl
@[simp] theorem modLink_bar4Gen (n : Fin 5) (f : Link → Link) (d : Dev) : (d.modLink n f).bar4Gen = d.bar4Gen := rfl
@[simp] theorem modLink_draws (n : Fin 5) (f : Link → Link) (d : Dev) : (d.modLink n f).draws = d.draws := rfl
@[simp] theorem modLink_top (n : Fin 5) (f : Link → Link) (d : Dev) : (d.modLink n f).top = d.top := rfl
@[simp] theorem modLink_chk (n : Fin 5) (f : Link → Link) (d : Dev) : (d.modLink n f).chk = d.chk := rfl
@[simp] theorem modLink_host (n : Fin 5) (f : Link → Link) (d : Dev) : (d.modLink n f).host = d.host := rfl
@[simp] theorem modLink_clk (n : Fin 5) (f : Link → Link) (d : Dev) : (d.modLink n f).clk = d.clk := rfl
@[simp] theorem modLink_pwr (n : Fin 5) (f : Link → Link) (d : Dev) : (d.modLink n f).pwr = d.pwr := rfl
@[simp] theorem modLink_watch (n : Fin 5) (f : Link → Link) (d : Dev) : (d.modLink n f).watch = d.watch := rfl
@[simp] theorem modLink_keeper (n : Fin 5) (f : Link → Link) (d : Dev) : (d.modLink n f).keeper = d.keeper := rfl
@[simp] theorem modLink_fw (n : Fin 5) (f : Link → Link) (d : Dev) : (d.modLink n f).fw = d.fw := rfl
@[simp] theorem modLink_otp (n : Fin 5) (f : Link → Link) (d : Dev) : (d.modLink n f).otp = d.otp := rfl
@[simp] theorem modLink_chart (n : Fin 5) (f : Link → Link) (d : Dev) : (d.modLink n f).chart = d.chart := rfl
@[simp] theorem modLink_buoys (n : Fin 5) (f : Link → Link) (d : Dev) : (d.modLink n f).buoys = d.buoys := rfl
@[simp] theorem modLink_pairs (n : Fin 5) (f : Link → Link) (d : Dev) : (d.modLink n f).pairs = d.pairs := rfl
@[simp] theorem modLink_cycle (n : Fin 5) (f : Link → Link) (d : Dev) : (d.modLink n f).cycle = d.cycle := rfl
@[simp] theorem modLink_chans (n : Fin 5) (f : Link → Link) (d : Dev) : (d.modLink n f).chans = d.chans := rfl
@[simp] theorem modLink_lans (n : Fin 5) (f : Link → Link) (d : Dev) : (d.modLink n f).lans = d.lans := rfl
@[simp] theorem modLink_outs (n : Fin 5) (f : Link → Link) (d : Dev) : (d.modLink n f).outs = d.outs := rfl
@[simp] theorem modLink_vouts (n : Fin 5) (f : Link → Link) (d : Dev) : (d.modLink n f).vouts = d.vouts := rfl
@[simp] theorem modLink_ts (n : Fin 5) (f : Link → Link) (d : Dev) : (d.modLink n f).ts = d.ts := rfl
@[simp] theorem modLink_ports (n : Fin 5) (f : Link → Link) (d : Dev) : (d.modLink n f).ports = d.ports := rfl
@[simp] theorem modLink_txts (n : Fin 5) (f : Link → Link) (d : Dev) : (d.modLink n f).txts = d.txts := rfl
@[simp] theorem modLink_clients (n : Fin 5) (f : Link → Link) (d : Dev) : (d.modLink n f).clients = d.clients := rfl
@[simp] theorem modLink_pilot (n : Fin 5) (f : Link → Link) (d : Dev) : (d.modLink n f).pilot = d.pilot := rfl
@[simp] theorem modLink_tide (n : Fin 5) (f : Link → Link) (d : Dev) : (d.modLink n f).tide = { d.tide with links := d.tide.links.set n (f (d.tide.links.get n)) } := rfl

@[simp] theorem modHost_regs (f : HostIf → HostIf) (d : Dev) : (d.modHost f).regs = d.regs := rfl
@[simp] theorem modHost_bar4 (f : HostIf → HostIf) (d : Dev) : (d.modHost f).bar4 = d.bar4 := rfl
@[simp] theorem modHost_bar4Gen (f : HostIf → HostIf) (d : Dev) : (d.modHost f).bar4Gen = d.bar4Gen := rfl
@[simp] theorem modHost_draws (f : HostIf → HostIf) (d : Dev) : (d.modHost f).draws = d.draws := rfl
@[simp] theorem modHost_top (f : HostIf → HostIf) (d : Dev) : (d.modHost f).top = d.top := rfl
@[simp] theorem modHost_chk (f : HostIf → HostIf) (d : Dev) : (d.modHost f).chk = d.chk := rfl
@[simp] theorem modHost_host (f : HostIf → HostIf) (d : Dev) : (d.modHost f).host = f d.host := rfl
@[simp] theorem modHost_clk (f : HostIf → HostIf) (d : Dev) : (d.modHost f).clk = d.clk := rfl
@[simp] theorem modHost_pwr (f : HostIf → HostIf) (d : Dev) : (d.modHost f).pwr = d.pwr := rfl
@[simp] theorem modHost_watch (f : HostIf → HostIf) (d : Dev) : (d.modHost f).watch = d.watch := rfl
@[simp] theorem modHost_keeper (f : HostIf → HostIf) (d : Dev) : (d.modHost f).keeper = d.keeper := rfl
@[simp] theorem modHost_fw (f : HostIf → HostIf) (d : Dev) : (d.modHost f).fw = d.fw := rfl
@[simp] theorem modHost_otp (f : HostIf → HostIf) (d : Dev) : (d.modHost f).otp = d.otp := rfl
@[simp] theorem modHost_chart (f : HostIf → HostIf) (d : Dev) : (d.modHost f).chart = d.chart := rfl
@[simp] theorem modHost_buoys (f : HostIf → HostIf) (d : Dev) : (d.modHost f).buoys = d.buoys := rfl
@[simp] theorem modHost_pairs (f : HostIf → HostIf) (d : Dev) : (d.modHost f).pairs = d.pairs := rfl
@[simp] theorem modHost_cycle (f : HostIf → HostIf) (d : Dev) : (d.modHost f).cycle = d.cycle := rfl
@[simp] theorem modHost_chans (f : HostIf → HostIf) (d : Dev) : (d.modHost f).chans = d.chans := rfl
@[simp] theorem modHost_lans (f : HostIf → HostIf) (d : Dev) : (d.modHost f).lans = d.lans := rfl
@[simp] theorem modHost_outs (f : HostIf → HostIf) (d : Dev) : (d.modHost f).outs = d.outs := rfl
@[simp] theorem modHost_vouts (f : HostIf → HostIf) (d : Dev) : (d.modHost f).vouts = d.vouts := rfl
@[simp] theorem modHost_ts (f : HostIf → HostIf) (d : Dev) : (d.modHost f).ts = d.ts := rfl
@[simp] theorem modHost_ports (f : HostIf → HostIf) (d : Dev) : (d.modHost f).ports = d.ports := rfl
@[simp] theorem modHost_txts (f : HostIf → HostIf) (d : Dev) : (d.modHost f).txts = d.txts := rfl
@[simp] theorem modHost_clients (f : HostIf → HostIf) (d : Dev) : (d.modHost f).clients = d.clients := rfl
@[simp] theorem modHost_pilot (f : HostIf → HostIf) (d : Dev) : (d.modHost f).pilot = d.pilot := rfl
@[simp] theorem modHost_tide (f : HostIf → HostIf) (d : Dev) : (d.modHost f).tide = d.tide := rfl

@[simp] theorem modRing_regs (r : Fin 26) (f : Ring → Ring) (d : Dev) : (d.modRing r f).regs = d.regs := rfl
@[simp] theorem modRing_bar4 (r : Fin 26) (f : Ring → Ring) (d : Dev) : (d.modRing r f).bar4 = d.bar4 := rfl
@[simp] theorem modRing_bar4Gen (r : Fin 26) (f : Ring → Ring) (d : Dev) : (d.modRing r f).bar4Gen = d.bar4Gen := rfl
@[simp] theorem modRing_draws (r : Fin 26) (f : Ring → Ring) (d : Dev) : (d.modRing r f).draws = d.draws := rfl
@[simp] theorem modRing_top (r : Fin 26) (f : Ring → Ring) (d : Dev) : (d.modRing r f).top = d.top := rfl
@[simp] theorem modRing_chk (r : Fin 26) (f : Ring → Ring) (d : Dev) : (d.modRing r f).chk = d.chk := rfl
@[simp] theorem modRing_host (r : Fin 26) (f : Ring → Ring) (d : Dev) : (d.modRing r f).host = { d.host with rings := d.host.rings.set r (f (d.host.rings.get r)) } := rfl
@[simp] theorem modRing_clk (r : Fin 26) (f : Ring → Ring) (d : Dev) : (d.modRing r f).clk = d.clk := rfl
@[simp] theorem modRing_pwr (r : Fin 26) (f : Ring → Ring) (d : Dev) : (d.modRing r f).pwr = d.pwr := rfl
@[simp] theorem modRing_watch (r : Fin 26) (f : Ring → Ring) (d : Dev) : (d.modRing r f).watch = d.watch := rfl
@[simp] theorem modRing_keeper (r : Fin 26) (f : Ring → Ring) (d : Dev) : (d.modRing r f).keeper = d.keeper := rfl
@[simp] theorem modRing_fw (r : Fin 26) (f : Ring → Ring) (d : Dev) : (d.modRing r f).fw = d.fw := rfl
@[simp] theorem modRing_otp (r : Fin 26) (f : Ring → Ring) (d : Dev) : (d.modRing r f).otp = d.otp := rfl
@[simp] theorem modRing_chart (r : Fin 26) (f : Ring → Ring) (d : Dev) : (d.modRing r f).chart = d.chart := rfl
@[simp] theorem modRing_buoys (r : Fin 26) (f : Ring → Ring) (d : Dev) : (d.modRing r f).buoys = d.buoys := rfl
@[simp] theorem modRing_pairs (r : Fin 26) (f : Ring → Ring) (d : Dev) : (d.modRing r f).pairs = d.pairs := rfl
@[simp] theorem modRing_cycle (r : Fin 26) (f : Ring → Ring) (d : Dev) : (d.modRing r f).cycle = d.cycle := rfl
@[simp] theorem modRing_chans (r : Fin 26) (f : Ring → Ring) (d : Dev) : (d.modRing r f).chans = d.chans := rfl
@[simp] theorem modRing_lans (r : Fin 26) (f : Ring → Ring) (d : Dev) : (d.modRing r f).lans = d.lans := rfl
@[simp] theorem modRing_outs (r : Fin 26) (f : Ring → Ring) (d : Dev) : (d.modRing r f).outs = d.outs := rfl
@[simp] theorem modRing_vouts (r : Fin 26) (f : Ring → Ring) (d : Dev) : (d.modRing r f).vouts = d.vouts := rfl
@[simp] theorem modRing_ts (r : Fin 26) (f : Ring → Ring) (d : Dev) : (d.modRing r f).ts = d.ts := rfl
@[simp] theorem modRing_ports (r : Fin 26) (f : Ring → Ring) (d : Dev) : (d.modRing r f).ports = d.ports := rfl
@[simp] theorem modRing_txts (r : Fin 26) (f : Ring → Ring) (d : Dev) : (d.modRing r f).txts = d.txts := rfl
@[simp] theorem modRing_clients (r : Fin 26) (f : Ring → Ring) (d : Dev) : (d.modRing r f).clients = d.clients := rfl
@[simp] theorem modRing_pilot (r : Fin 26) (f : Ring → Ring) (d : Dev) : (d.modRing r f).pilot = d.pilot := rfl
@[simp] theorem modRing_tide (r : Fin 26) (f : Ring → Ring) (d : Dev) : (d.modRing r f).tide = d.tide := rfl

@[simp] theorem modWatch_regs (f : Watch → Watch) (d : Dev) : (d.modWatch f).regs = d.regs := rfl
@[simp] theorem modWatch_bar4 (f : Watch → Watch) (d : Dev) : (d.modWatch f).bar4 = d.bar4 := rfl
@[simp] theorem modWatch_bar4Gen (f : Watch → Watch) (d : Dev) : (d.modWatch f).bar4Gen = d.bar4Gen := rfl
@[simp] theorem modWatch_draws (f : Watch → Watch) (d : Dev) : (d.modWatch f).draws = d.draws := rfl
@[simp] theorem modWatch_top (f : Watch → Watch) (d : Dev) : (d.modWatch f).top = d.top := rfl
@[simp] theorem modWatch_chk (f : Watch → Watch) (d : Dev) : (d.modWatch f).chk = d.chk := rfl
@[simp] theorem modWatch_host (f : Watch → Watch) (d : Dev) : (d.modWatch f).host = d.host := rfl
@[simp] theorem modWatch_clk (f : Watch → Watch) (d : Dev) : (d.modWatch f).clk = d.clk := rfl
@[simp] theorem modWatch_pwr (f : Watch → Watch) (d : Dev) : (d.modWatch f).pwr = d.pwr := rfl
@[simp] theorem modWatch_watch (f : Watch → Watch) (d : Dev) : (d.modWatch f).watch = f d.watch := rfl
@[simp] theorem modWatch_keeper (f : Watch → Watch) (d : Dev) : (d.modWatch f).keeper = d.keeper := rfl
@[simp] theorem modWatch_fw (f : Watch → Watch) (d : Dev) : (d.modWatch f).fw = d.fw := rfl
@[simp] theorem modWatch_otp (f : Watch → Watch) (d : Dev) : (d.modWatch f).otp = d.otp := rfl
@[simp] theorem modWatch_chart (f : Watch → Watch) (d : Dev) : (d.modWatch f).chart = d.chart := rfl
@[simp] theorem modWatch_buoys (f : Watch → Watch) (d : Dev) : (d.modWatch f).buoys = d.buoys := rfl
@[simp] theorem modWatch_pairs (f : Watch → Watch) (d : Dev) : (d.modWatch f).pairs = d.pairs := rfl
@[simp] theorem modWatch_cycle (f : Watch → Watch) (d : Dev) : (d.modWatch f).cycle = d.cycle := rfl
@[simp] theorem modWatch_chans (f : Watch → Watch) (d : Dev) : (d.modWatch f).chans = d.chans := rfl
@[simp] theorem modWatch_lans (f : Watch → Watch) (d : Dev) : (d.modWatch f).lans = d.lans := rfl
@[simp] theorem modWatch_outs (f : Watch → Watch) (d : Dev) : (d.modWatch f).outs = d.outs := rfl
@[simp] theorem modWatch_vouts (f : Watch → Watch) (d : Dev) : (d.modWatch f).vouts = d.vouts := rfl
@[simp] theorem modWatch_ts (f : Watch → Watch) (d : Dev) : (d.modWatch f).ts = d.ts := rfl
@[simp] theorem modWatch_ports (f : Watch → Watch) (d : Dev) : (d.modWatch f).ports = d.ports := rfl
@[simp] theorem modWatch_txts (f : Watch → Watch) (d : Dev) : (d.modWatch f).txts = d.txts := rfl
@[simp] theorem modWatch_clients (f : Watch → Watch) (d : Dev) : (d.modWatch f).clients = d.clients := rfl
@[simp] theorem modWatch_pilot (f : Watch → Watch) (d : Dev) : (d.modWatch f).pilot = d.pilot := rfl
@[simp] theorem modWatch_tide (f : Watch → Watch) (d : Dev) : (d.modWatch f).tide = d.tide := rfl

@[simp] theorem modSource_regs (n : Fin 192) (f : Source → Source) (d : Dev) : (d.modSource n f).regs = d.regs := rfl
@[simp] theorem modSource_bar4 (n : Fin 192) (f : Source → Source) (d : Dev) : (d.modSource n f).bar4 = d.bar4 := rfl
@[simp] theorem modSource_bar4Gen (n : Fin 192) (f : Source → Source) (d : Dev) : (d.modSource n f).bar4Gen = d.bar4Gen := rfl
@[simp] theorem modSource_draws (n : Fin 192) (f : Source → Source) (d : Dev) : (d.modSource n f).draws = d.draws := rfl
@[simp] theorem modSource_top (n : Fin 192) (f : Source → Source) (d : Dev) : (d.modSource n f).top = d.top := rfl
@[simp] theorem modSource_chk (n : Fin 192) (f : Source → Source) (d : Dev) : (d.modSource n f).chk = d.chk := rfl
@[simp] theorem modSource_host (n : Fin 192) (f : Source → Source) (d : Dev) : (d.modSource n f).host = d.host := rfl
@[simp] theorem modSource_clk (n : Fin 192) (f : Source → Source) (d : Dev) : (d.modSource n f).clk = d.clk := rfl
@[simp] theorem modSource_pwr (n : Fin 192) (f : Source → Source) (d : Dev) : (d.modSource n f).pwr = d.pwr := rfl
@[simp] theorem modSource_watch (n : Fin 192) (f : Source → Source) (d : Dev) : (d.modSource n f).watch = { d.watch with srcs := d.watch.srcs.set n (f (d.watch.srcs.get n)) } := rfl
@[simp] theorem modSource_keeper (n : Fin 192) (f : Source → Source) (d : Dev) : (d.modSource n f).keeper = d.keeper := rfl
@[simp] theorem modSource_fw (n : Fin 192) (f : Source → Source) (d : Dev) : (d.modSource n f).fw = d.fw := rfl
@[simp] theorem modSource_otp (n : Fin 192) (f : Source → Source) (d : Dev) : (d.modSource n f).otp = d.otp := rfl
@[simp] theorem modSource_chart (n : Fin 192) (f : Source → Source) (d : Dev) : (d.modSource n f).chart = d.chart := rfl
@[simp] theorem modSource_buoys (n : Fin 192) (f : Source → Source) (d : Dev) : (d.modSource n f).buoys = d.buoys := rfl
@[simp] theorem modSource_pairs (n : Fin 192) (f : Source → Source) (d : Dev) : (d.modSource n f).pairs = d.pairs := rfl
@[simp] theorem modSource_cycle (n : Fin 192) (f : Source → Source) (d : Dev) : (d.modSource n f).cycle = d.cycle := rfl
@[simp] theorem modSource_chans (n : Fin 192) (f : Source → Source) (d : Dev) : (d.modSource n f).chans = d.chans := rfl
@[simp] theorem modSource_lans (n : Fin 192) (f : Source → Source) (d : Dev) : (d.modSource n f).lans = d.lans := rfl
@[simp] theorem modSource_outs (n : Fin 192) (f : Source → Source) (d : Dev) : (d.modSource n f).outs = d.outs := rfl
@[simp] theorem modSource_vouts (n : Fin 192) (f : Source → Source) (d : Dev) : (d.modSource n f).vouts = d.vouts := rfl
@[simp] theorem modSource_ts (n : Fin 192) (f : Source → Source) (d : Dev) : (d.modSource n f).ts = d.ts := rfl
@[simp] theorem modSource_ports (n : Fin 192) (f : Source → Source) (d : Dev) : (d.modSource n f).ports = d.ports := rfl
@[simp] theorem modSource_txts (n : Fin 192) (f : Source → Source) (d : Dev) : (d.modSource n f).txts = d.txts := rfl
@[simp] theorem modSource_clients (n : Fin 192) (f : Source → Source) (d : Dev) : (d.modSource n f).clients = d.clients := rfl
@[simp] theorem modSource_pilot (n : Fin 192) (f : Source → Source) (d : Dev) : (d.modSource n f).pilot = d.pilot := rfl
@[simp] theorem modSource_tide (n : Fin 192) (f : Source → Source) (d : Dev) : (d.modSource n f).tide = d.tide := rfl

@[simp] theorem modClk_regs (f : Clk → Clk) (d : Dev) : (d.modClk f).regs = d.regs := rfl
@[simp] theorem modClk_bar4 (f : Clk → Clk) (d : Dev) : (d.modClk f).bar4 = d.bar4 := rfl
@[simp] theorem modClk_bar4Gen (f : Clk → Clk) (d : Dev) : (d.modClk f).bar4Gen = d.bar4Gen := rfl
@[simp] theorem modClk_draws (f : Clk → Clk) (d : Dev) : (d.modClk f).draws = d.draws := rfl
@[simp] theorem modClk_top (f : Clk → Clk) (d : Dev) : (d.modClk f).top = d.top := rfl
@[simp] theorem modClk_chk (f : Clk → Clk) (d : Dev) : (d.modClk f).chk = d.chk := rfl
@[simp] theorem modClk_host (f : Clk → Clk) (d : Dev) : (d.modClk f).host = d.host := rfl
@[simp] theorem modClk_clk (f : Clk → Clk) (d : Dev) : (d.modClk f).clk = f d.clk := rfl
@[simp] theorem modClk_pwr (f : Clk → Clk) (d : Dev) : (d.modClk f).pwr = d.pwr := rfl
@[simp] theorem modClk_watch (f : Clk → Clk) (d : Dev) : (d.modClk f).watch = d.watch := rfl
@[simp] theorem modClk_keeper (f : Clk → Clk) (d : Dev) : (d.modClk f).keeper = d.keeper := rfl
@[simp] theorem modClk_fw (f : Clk → Clk) (d : Dev) : (d.modClk f).fw = d.fw := rfl
@[simp] theorem modClk_otp (f : Clk → Clk) (d : Dev) : (d.modClk f).otp = d.otp := rfl
@[simp] theorem modClk_chart (f : Clk → Clk) (d : Dev) : (d.modClk f).chart = d.chart := rfl
@[simp] theorem modClk_buoys (f : Clk → Clk) (d : Dev) : (d.modClk f).buoys = d.buoys := rfl
@[simp] theorem modClk_pairs (f : Clk → Clk) (d : Dev) : (d.modClk f).pairs = d.pairs := rfl
@[simp] theorem modClk_cycle (f : Clk → Clk) (d : Dev) : (d.modClk f).cycle = d.cycle := rfl
@[simp] theorem modClk_chans (f : Clk → Clk) (d : Dev) : (d.modClk f).chans = d.chans := rfl
@[simp] theorem modClk_lans (f : Clk → Clk) (d : Dev) : (d.modClk f).lans = d.lans := rfl
@[simp] theorem modClk_outs (f : Clk → Clk) (d : Dev) : (d.modClk f).outs = d.outs := rfl
@[simp] theorem modClk_vouts (f : Clk → Clk) (d : Dev) : (d.modClk f).vouts = d.vouts := rfl
@[simp] theorem modClk_ts (f : Clk → Clk) (d : Dev) : (d.modClk f).ts = d.ts := rfl
@[simp] theorem modClk_ports (f : Clk → Clk) (d : Dev) : (d.modClk f).ports = d.ports := rfl
@[simp] theorem modClk_txts (f : Clk → Clk) (d : Dev) : (d.modClk f).txts = d.txts := rfl
@[simp] theorem modClk_clients (f : Clk → Clk) (d : Dev) : (d.modClk f).clients = d.clients := rfl
@[simp] theorem modClk_pilot (f : Clk → Clk) (d : Dev) : (d.modClk f).pilot = d.pilot := rfl
@[simp] theorem modClk_tide (f : Clk → Clk) (d : Dev) : (d.modClk f).tide = d.tide := rfl

@[simp] theorem modPwr_regs (f : Pwr → Pwr) (d : Dev) : (d.modPwr f).regs = d.regs := rfl
@[simp] theorem modPwr_bar4 (f : Pwr → Pwr) (d : Dev) : (d.modPwr f).bar4 = d.bar4 := rfl
@[simp] theorem modPwr_bar4Gen (f : Pwr → Pwr) (d : Dev) : (d.modPwr f).bar4Gen = d.bar4Gen := rfl
@[simp] theorem modPwr_draws (f : Pwr → Pwr) (d : Dev) : (d.modPwr f).draws = d.draws := rfl
@[simp] theorem modPwr_top (f : Pwr → Pwr) (d : Dev) : (d.modPwr f).top = d.top := rfl
@[simp] theorem modPwr_chk (f : Pwr → Pwr) (d : Dev) : (d.modPwr f).chk = d.chk := rfl
@[simp] theorem modPwr_host (f : Pwr → Pwr) (d : Dev) : (d.modPwr f).host = d.host := rfl
@[simp] theorem modPwr_clk (f : Pwr → Pwr) (d : Dev) : (d.modPwr f).clk = d.clk := rfl
@[simp] theorem modPwr_pwr (f : Pwr → Pwr) (d : Dev) : (d.modPwr f).pwr = f d.pwr := rfl
@[simp] theorem modPwr_watch (f : Pwr → Pwr) (d : Dev) : (d.modPwr f).watch = d.watch := rfl
@[simp] theorem modPwr_keeper (f : Pwr → Pwr) (d : Dev) : (d.modPwr f).keeper = d.keeper := rfl
@[simp] theorem modPwr_fw (f : Pwr → Pwr) (d : Dev) : (d.modPwr f).fw = d.fw := rfl
@[simp] theorem modPwr_otp (f : Pwr → Pwr) (d : Dev) : (d.modPwr f).otp = d.otp := rfl
@[simp] theorem modPwr_chart (f : Pwr → Pwr) (d : Dev) : (d.modPwr f).chart = d.chart := rfl
@[simp] theorem modPwr_buoys (f : Pwr → Pwr) (d : Dev) : (d.modPwr f).buoys = d.buoys := rfl
@[simp] theorem modPwr_pairs (f : Pwr → Pwr) (d : Dev) : (d.modPwr f).pairs = d.pairs := rfl
@[simp] theorem modPwr_cycle (f : Pwr → Pwr) (d : Dev) : (d.modPwr f).cycle = d.cycle := rfl
@[simp] theorem modPwr_chans (f : Pwr → Pwr) (d : Dev) : (d.modPwr f).chans = d.chans := rfl
@[simp] theorem modPwr_lans (f : Pwr → Pwr) (d : Dev) : (d.modPwr f).lans = d.lans := rfl
@[simp] theorem modPwr_outs (f : Pwr → Pwr) (d : Dev) : (d.modPwr f).outs = d.outs := rfl
@[simp] theorem modPwr_vouts (f : Pwr → Pwr) (d : Dev) : (d.modPwr f).vouts = d.vouts := rfl
@[simp] theorem modPwr_ts (f : Pwr → Pwr) (d : Dev) : (d.modPwr f).ts = d.ts := rfl
@[simp] theorem modPwr_ports (f : Pwr → Pwr) (d : Dev) : (d.modPwr f).ports = d.ports := rfl
@[simp] theorem modPwr_txts (f : Pwr → Pwr) (d : Dev) : (d.modPwr f).txts = d.txts := rfl
@[simp] theorem modPwr_clients (f : Pwr → Pwr) (d : Dev) : (d.modPwr f).clients = d.clients := rfl
@[simp] theorem modPwr_pilot (f : Pwr → Pwr) (d : Dev) : (d.modPwr f).pilot = d.pilot := rfl
@[simp] theorem modPwr_tide (f : Pwr → Pwr) (d : Dev) : (d.modPwr f).tide = d.tide := rfl

@[simp] theorem modTop_regs (f : Top → Top) (d : Dev) : (d.modTop f).regs = d.regs := rfl
@[simp] theorem modTop_bar4 (f : Top → Top) (d : Dev) : (d.modTop f).bar4 = d.bar4 := rfl
@[simp] theorem modTop_bar4Gen (f : Top → Top) (d : Dev) : (d.modTop f).bar4Gen = d.bar4Gen := rfl
@[simp] theorem modTop_draws (f : Top → Top) (d : Dev) : (d.modTop f).draws = d.draws := rfl
@[simp] theorem modTop_top (f : Top → Top) (d : Dev) : (d.modTop f).top = f d.top := rfl
@[simp] theorem modTop_chk (f : Top → Top) (d : Dev) : (d.modTop f).chk = d.chk := rfl
@[simp] theorem modTop_host (f : Top → Top) (d : Dev) : (d.modTop f).host = d.host := rfl
@[simp] theorem modTop_clk (f : Top → Top) (d : Dev) : (d.modTop f).clk = d.clk := rfl
@[simp] theorem modTop_pwr (f : Top → Top) (d : Dev) : (d.modTop f).pwr = d.pwr := rfl
@[simp] theorem modTop_watch (f : Top → Top) (d : Dev) : (d.modTop f).watch = d.watch := rfl
@[simp] theorem modTop_keeper (f : Top → Top) (d : Dev) : (d.modTop f).keeper = d.keeper := rfl
@[simp] theorem modTop_fw (f : Top → Top) (d : Dev) : (d.modTop f).fw = d.fw := rfl
@[simp] theorem modTop_otp (f : Top → Top) (d : Dev) : (d.modTop f).otp = d.otp := rfl
@[simp] theorem modTop_chart (f : Top → Top) (d : Dev) : (d.modTop f).chart = d.chart := rfl
@[simp] theorem modTop_buoys (f : Top → Top) (d : Dev) : (d.modTop f).buoys = d.buoys := rfl
@[simp] theorem modTop_pairs (f : Top → Top) (d : Dev) : (d.modTop f).pairs = d.pairs := rfl
@[simp] theorem modTop_cycle (f : Top → Top) (d : Dev) : (d.modTop f).cycle = d.cycle := rfl
@[simp] theorem modTop_chans (f : Top → Top) (d : Dev) : (d.modTop f).chans = d.chans := rfl
@[simp] theorem modTop_lans (f : Top → Top) (d : Dev) : (d.modTop f).lans = d.lans := rfl
@[simp] theorem modTop_outs (f : Top → Top) (d : Dev) : (d.modTop f).outs = d.outs := rfl
@[simp] theorem modTop_vouts (f : Top → Top) (d : Dev) : (d.modTop f).vouts = d.vouts := rfl
@[simp] theorem modTop_ts (f : Top → Top) (d : Dev) : (d.modTop f).ts = d.ts := rfl
@[simp] theorem modTop_ports (f : Top → Top) (d : Dev) : (d.modTop f).ports = d.ports := rfl
@[simp] theorem modTop_txts (f : Top → Top) (d : Dev) : (d.modTop f).txts = d.txts := rfl
@[simp] theorem modTop_clients (f : Top → Top) (d : Dev) : (d.modTop f).clients = d.clients := rfl
@[simp] theorem modTop_pilot (f : Top → Top) (d : Dev) : (d.modTop f).pilot = d.pilot := rfl
@[simp] theorem modTop_tide (f : Top → Top) (d : Dev) : (d.modTop f).tide = d.tide := rfl

@[simp] theorem modKeeper_regs (f : Keeper → Keeper) (d : Dev) : (d.modKeeper f).regs = d.regs := rfl
@[simp] theorem modKeeper_bar4 (f : Keeper → Keeper) (d : Dev) : (d.modKeeper f).bar4 = d.bar4 := rfl
@[simp] theorem modKeeper_bar4Gen (f : Keeper → Keeper) (d : Dev) : (d.modKeeper f).bar4Gen = d.bar4Gen := rfl
@[simp] theorem modKeeper_draws (f : Keeper → Keeper) (d : Dev) : (d.modKeeper f).draws = d.draws := rfl
@[simp] theorem modKeeper_top (f : Keeper → Keeper) (d : Dev) : (d.modKeeper f).top = d.top := rfl
@[simp] theorem modKeeper_chk (f : Keeper → Keeper) (d : Dev) : (d.modKeeper f).chk = d.chk := rfl
@[simp] theorem modKeeper_host (f : Keeper → Keeper) (d : Dev) : (d.modKeeper f).host = d.host := rfl
@[simp] theorem modKeeper_clk (f : Keeper → Keeper) (d : Dev) : (d.modKeeper f).clk = d.clk := rfl
@[simp] theorem modKeeper_pwr (f : Keeper → Keeper) (d : Dev) : (d.modKeeper f).pwr = d.pwr := rfl
@[simp] theorem modKeeper_watch (f : Keeper → Keeper) (d : Dev) : (d.modKeeper f).watch = d.watch := rfl
@[simp] theorem modKeeper_keeper (f : Keeper → Keeper) (d : Dev) : (d.modKeeper f).keeper = f d.keeper := rfl
@[simp] theorem modKeeper_fw (f : Keeper → Keeper) (d : Dev) : (d.modKeeper f).fw = d.fw := rfl
@[simp] theorem modKeeper_otp (f : Keeper → Keeper) (d : Dev) : (d.modKeeper f).otp = d.otp := rfl
@[simp] theorem modKeeper_chart (f : Keeper → Keeper) (d : Dev) : (d.modKeeper f).chart = d.chart := rfl
@[simp] theorem modKeeper_buoys (f : Keeper → Keeper) (d : Dev) : (d.modKeeper f).buoys = d.buoys := rfl
@[simp] theorem modKeeper_pairs (f : Keeper → Keeper) (d : Dev) : (d.modKeeper f).pairs = d.pairs := rfl
@[simp] theorem modKeeper_cycle (f : Keeper → Keeper) (d : Dev) : (d.modKeeper f).cycle = d.cycle := rfl
@[simp] theorem modKeeper_chans (f : Keeper → Keeper) (d : Dev) : (d.modKeeper f).chans = d.chans := rfl
@[simp] theorem modKeeper_lans (f : Keeper → Keeper) (d : Dev) : (d.modKeeper f).lans = d.lans := rfl
@[simp] theorem modKeeper_outs (f : Keeper → Keeper) (d : Dev) : (d.modKeeper f).outs = d.outs := rfl
@[simp] theorem modKeeper_vouts (f : Keeper → Keeper) (d : Dev) : (d.modKeeper f).vouts = d.vouts := rfl
@[simp] theorem modKeeper_ts (f : Keeper → Keeper) (d : Dev) : (d.modKeeper f).ts = d.ts := rfl
@[simp] theorem modKeeper_ports (f : Keeper → Keeper) (d : Dev) : (d.modKeeper f).ports = d.ports := rfl
@[simp] theorem modKeeper_txts (f : Keeper → Keeper) (d : Dev) : (d.modKeeper f).txts = d.txts := rfl
@[simp] theorem modKeeper_clients (f : Keeper → Keeper) (d : Dev) : (d.modKeeper f).clients = d.clients := rfl
@[simp] theorem modKeeper_pilot (f : Keeper → Keeper) (d : Dev) : (d.modKeeper f).pilot = d.pilot := rfl
@[simp] theorem modKeeper_tide (f : Keeper → Keeper) (d : Dev) : (d.modKeeper f).tide = d.tide := rfl

@[simp] theorem modSup_regs (f : Supervision → Supervision) (d : Dev) : (d.modSup f).regs = d.regs := rfl
@[simp] theorem modSup_bar4 (f : Supervision → Supervision) (d : Dev) : (d.modSup f).bar4 = d.bar4 := rfl
@[simp] theorem modSup_bar4Gen (f : Supervision → Supervision) (d : Dev) : (d.modSup f).bar4Gen = d.bar4Gen := rfl
@[simp] theorem modSup_draws (f : Supervision → Supervision) (d : Dev) : (d.modSup f).draws = d.draws := rfl
@[simp] theorem modSup_top (f : Supervision → Supervision) (d : Dev) : (d.modSup f).top = d.top := rfl
@[simp] theorem modSup_chk (f : Supervision → Supervision) (d : Dev) : (d.modSup f).chk = d.chk := rfl
@[simp] theorem modSup_host (f : Supervision → Supervision) (d : Dev) : (d.modSup f).host = d.host := rfl
@[simp] theorem modSup_clk (f : Supervision → Supervision) (d : Dev) : (d.modSup f).clk = d.clk := rfl
@[simp] theorem modSup_pwr (f : Supervision → Supervision) (d : Dev) : (d.modSup f).pwr = d.pwr := rfl
@[simp] theorem modSup_watch (f : Supervision → Supervision) (d : Dev) : (d.modSup f).watch = d.watch := rfl
@[simp] theorem modSup_keeper (f : Supervision → Supervision) (d : Dev) : (d.modSup f).keeper = { d.keeper with sup := f d.keeper.sup } := rfl
@[simp] theorem modSup_fw (f : Supervision → Supervision) (d : Dev) : (d.modSup f).fw = d.fw := rfl
@[simp] theorem modSup_otp (f : Supervision → Supervision) (d : Dev) : (d.modSup f).otp = d.otp := rfl
@[simp] theorem modSup_chart (f : Supervision → Supervision) (d : Dev) : (d.modSup f).chart = d.chart := rfl
@[simp] theorem modSup_buoys (f : Supervision → Supervision) (d : Dev) : (d.modSup f).buoys = d.buoys := rfl
@[simp] theorem modSup_pairs (f : Supervision → Supervision) (d : Dev) : (d.modSup f).pairs = d.pairs := rfl
@[simp] theorem modSup_cycle (f : Supervision → Supervision) (d : Dev) : (d.modSup f).cycle = d.cycle := rfl
@[simp] theorem modSup_chans (f : Supervision → Supervision) (d : Dev) : (d.modSup f).chans = d.chans := rfl
@[simp] theorem modSup_lans (f : Supervision → Supervision) (d : Dev) : (d.modSup f).lans = d.lans := rfl
@[simp] theorem modSup_outs (f : Supervision → Supervision) (d : Dev) : (d.modSup f).outs = d.outs := rfl
@[simp] theorem modSup_vouts (f : Supervision → Supervision) (d : Dev) : (d.modSup f).vouts = d.vouts := rfl
@[simp] theorem modSup_ts (f : Supervision → Supervision) (d : Dev) : (d.modSup f).ts = d.ts := rfl
@[simp] theorem modSup_ports (f : Supervision → Supervision) (d : Dev) : (d.modSup f).ports = d.ports := rfl
@[simp] theorem modSup_txts (f : Supervision → Supervision) (d : Dev) : (d.modSup f).txts = d.txts := rfl
@[simp] theorem modSup_clients (f : Supervision → Supervision) (d : Dev) : (d.modSup f).clients = d.clients := rfl
@[simp] theorem modSup_pilot (f : Supervision → Supervision) (d : Dev) : (d.modSup f).pilot = d.pilot := rfl
@[simp] theorem modSup_tide (f : Supervision → Supervision) (d : Dev) : (d.modSup f).tide = d.tide := rfl

@[simp] theorem modFw_regs (f : Fw → Fw) (d : Dev) : (d.modFw f).regs = d.regs := rfl
@[simp] theorem modFw_bar4 (f : Fw → Fw) (d : Dev) : (d.modFw f).bar4 = d.bar4 := rfl
@[simp] theorem modFw_bar4Gen (f : Fw → Fw) (d : Dev) : (d.modFw f).bar4Gen = d.bar4Gen := rfl
@[simp] theorem modFw_draws (f : Fw → Fw) (d : Dev) : (d.modFw f).draws = d.draws := rfl
@[simp] theorem modFw_top (f : Fw → Fw) (d : Dev) : (d.modFw f).top = d.top := rfl
@[simp] theorem modFw_chk (f : Fw → Fw) (d : Dev) : (d.modFw f).chk = d.chk := rfl
@[simp] theorem modFw_host (f : Fw → Fw) (d : Dev) : (d.modFw f).host = d.host := rfl
@[simp] theorem modFw_clk (f : Fw → Fw) (d : Dev) : (d.modFw f).clk = d.clk := rfl
@[simp] theorem modFw_pwr (f : Fw → Fw) (d : Dev) : (d.modFw f).pwr = d.pwr := rfl
@[simp] theorem modFw_watch (f : Fw → Fw) (d : Dev) : (d.modFw f).watch = d.watch := rfl
@[simp] theorem modFw_keeper (f : Fw → Fw) (d : Dev) : (d.modFw f).keeper = d.keeper := rfl
@[simp] theorem modFw_fw (f : Fw → Fw) (d : Dev) : (d.modFw f).fw = f d.fw := rfl
@[simp] theorem modFw_otp (f : Fw → Fw) (d : Dev) : (d.modFw f).otp = d.otp := rfl
@[simp] theorem modFw_chart (f : Fw → Fw) (d : Dev) : (d.modFw f).chart = d.chart := rfl
@[simp] theorem modFw_buoys (f : Fw → Fw) (d : Dev) : (d.modFw f).buoys = d.buoys := rfl
@[simp] theorem modFw_pairs (f : Fw → Fw) (d : Dev) : (d.modFw f).pairs = d.pairs := rfl
@[simp] theorem modFw_cycle (f : Fw → Fw) (d : Dev) : (d.modFw f).cycle = d.cycle := rfl
@[simp] theorem modFw_chans (f : Fw → Fw) (d : Dev) : (d.modFw f).chans = d.chans := rfl
@[simp] theorem modFw_lans (f : Fw → Fw) (d : Dev) : (d.modFw f).lans = d.lans := rfl
@[simp] theorem modFw_outs (f : Fw → Fw) (d : Dev) : (d.modFw f).outs = d.outs := rfl
@[simp] theorem modFw_vouts (f : Fw → Fw) (d : Dev) : (d.modFw f).vouts = d.vouts := rfl
@[simp] theorem modFw_ts (f : Fw → Fw) (d : Dev) : (d.modFw f).ts = d.ts := rfl
@[simp] theorem modFw_ports (f : Fw → Fw) (d : Dev) : (d.modFw f).ports = d.ports := rfl
@[simp] theorem modFw_txts (f : Fw → Fw) (d : Dev) : (d.modFw f).txts = d.txts := rfl
@[simp] theorem modFw_clients (f : Fw → Fw) (d : Dev) : (d.modFw f).clients = d.clients := rfl
@[simp] theorem modFw_pilot (f : Fw → Fw) (d : Dev) : (d.modFw f).pilot = d.pilot := rfl
@[simp] theorem modFw_tide (f : Fw → Fw) (d : Dev) : (d.modFw f).tide = d.tide := rfl

@[simp] theorem modOtp_regs (f : Otp → Otp) (d : Dev) : (d.modOtp f).regs = d.regs := rfl
@[simp] theorem modOtp_bar4 (f : Otp → Otp) (d : Dev) : (d.modOtp f).bar4 = d.bar4 := rfl
@[simp] theorem modOtp_bar4Gen (f : Otp → Otp) (d : Dev) : (d.modOtp f).bar4Gen = d.bar4Gen := rfl
@[simp] theorem modOtp_draws (f : Otp → Otp) (d : Dev) : (d.modOtp f).draws = d.draws := rfl
@[simp] theorem modOtp_top (f : Otp → Otp) (d : Dev) : (d.modOtp f).top = d.top := rfl
@[simp] theorem modOtp_chk (f : Otp → Otp) (d : Dev) : (d.modOtp f).chk = d.chk := rfl
@[simp] theorem modOtp_host (f : Otp → Otp) (d : Dev) : (d.modOtp f).host = d.host := rfl
@[simp] theorem modOtp_clk (f : Otp → Otp) (d : Dev) : (d.modOtp f).clk = d.clk := rfl
@[simp] theorem modOtp_pwr (f : Otp → Otp) (d : Dev) : (d.modOtp f).pwr = d.pwr := rfl
@[simp] theorem modOtp_watch (f : Otp → Otp) (d : Dev) : (d.modOtp f).watch = d.watch := rfl
@[simp] theorem modOtp_keeper (f : Otp → Otp) (d : Dev) : (d.modOtp f).keeper = d.keeper := rfl
@[simp] theorem modOtp_fw (f : Otp → Otp) (d : Dev) : (d.modOtp f).fw = d.fw := rfl
@[simp] theorem modOtp_otp (f : Otp → Otp) (d : Dev) : (d.modOtp f).otp = f d.otp := rfl
@[simp] theorem modOtp_chart (f : Otp → Otp) (d : Dev) : (d.modOtp f).chart = d.chart := rfl
@[simp] theorem modOtp_buoys (f : Otp → Otp) (d : Dev) : (d.modOtp f).buoys = d.buoys := rfl
@[simp] theorem modOtp_pairs (f : Otp → Otp) (d : Dev) : (d.modOtp f).pairs = d.pairs := rfl
@[simp] theorem modOtp_cycle (f : Otp → Otp) (d : Dev) : (d.modOtp f).cycle = d.cycle := rfl
@[simp] theorem modOtp_chans (f : Otp → Otp) (d : Dev) : (d.modOtp f).chans = d.chans := rfl
@[simp] theorem modOtp_lans (f : Otp → Otp) (d : Dev) : (d.modOtp f).lans = d.lans := rfl
@[simp] theorem modOtp_outs (f : Otp → Otp) (d : Dev) : (d.modOtp f).outs = d.outs := rfl
@[simp] theorem modOtp_vouts (f : Otp → Otp) (d : Dev) : (d.modOtp f).vouts = d.vouts := rfl
@[simp] theorem modOtp_ts (f : Otp → Otp) (d : Dev) : (d.modOtp f).ts = d.ts := rfl
@[simp] theorem modOtp_ports (f : Otp → Otp) (d : Dev) : (d.modOtp f).ports = d.ports := rfl
@[simp] theorem modOtp_txts (f : Otp → Otp) (d : Dev) : (d.modOtp f).txts = d.txts := rfl
@[simp] theorem modOtp_clients (f : Otp → Otp) (d : Dev) : (d.modOtp f).clients = d.clients := rfl
@[simp] theorem modOtp_pilot (f : Otp → Otp) (d : Dev) : (d.modOtp f).pilot = d.pilot := rfl
@[simp] theorem modOtp_tide (f : Otp → Otp) (d : Dev) : (d.modOtp f).tide = d.tide := rfl

@[simp] theorem modChart_regs (f : Chart → Chart) (d : Dev) : (d.modChart f).regs = d.regs := rfl
@[simp] theorem modChart_bar4 (f : Chart → Chart) (d : Dev) : (d.modChart f).bar4 = d.bar4 := rfl
@[simp] theorem modChart_bar4Gen (f : Chart → Chart) (d : Dev) : (d.modChart f).bar4Gen = d.bar4Gen := rfl
@[simp] theorem modChart_draws (f : Chart → Chart) (d : Dev) : (d.modChart f).draws = d.draws := rfl
@[simp] theorem modChart_top (f : Chart → Chart) (d : Dev) : (d.modChart f).top = d.top := rfl
@[simp] theorem modChart_chk (f : Chart → Chart) (d : Dev) : (d.modChart f).chk = d.chk := rfl
@[simp] theorem modChart_host (f : Chart → Chart) (d : Dev) : (d.modChart f).host = d.host := rfl
@[simp] theorem modChart_clk (f : Chart → Chart) (d : Dev) : (d.modChart f).clk = d.clk := rfl
@[simp] theorem modChart_pwr (f : Chart → Chart) (d : Dev) : (d.modChart f).pwr = d.pwr := rfl
@[simp] theorem modChart_watch (f : Chart → Chart) (d : Dev) : (d.modChart f).watch = d.watch := rfl
@[simp] theorem modChart_keeper (f : Chart → Chart) (d : Dev) : (d.modChart f).keeper = d.keeper := rfl
@[simp] theorem modChart_fw (f : Chart → Chart) (d : Dev) : (d.modChart f).fw = d.fw := rfl
@[simp] theorem modChart_otp (f : Chart → Chart) (d : Dev) : (d.modChart f).otp = d.otp := rfl
@[simp] theorem modChart_chart (f : Chart → Chart) (d : Dev) : (d.modChart f).chart = f d.chart := rfl
@[simp] theorem modChart_buoys (f : Chart → Chart) (d : Dev) : (d.modChart f).buoys = d.buoys := rfl
@[simp] theorem modChart_pairs (f : Chart → Chart) (d : Dev) : (d.modChart f).pairs = d.pairs := rfl
@[simp] theorem modChart_cycle (f : Chart → Chart) (d : Dev) : (d.modChart f).cycle = d.cycle := rfl
@[simp] theorem modChart_chans (f : Chart → Chart) (d : Dev) : (d.modChart f).chans = d.chans := rfl
@[simp] theorem modChart_lans (f : Chart → Chart) (d : Dev) : (d.modChart f).lans = d.lans := rfl
@[simp] theorem modChart_outs (f : Chart → Chart) (d : Dev) : (d.modChart f).outs = d.outs := rfl
@[simp] theorem modChart_vouts (f : Chart → Chart) (d : Dev) : (d.modChart f).vouts = d.vouts := rfl
@[simp] theorem modChart_ts (f : Chart → Chart) (d : Dev) : (d.modChart f).ts = d.ts := rfl
@[simp] theorem modChart_ports (f : Chart → Chart) (d : Dev) : (d.modChart f).ports = d.ports := rfl
@[simp] theorem modChart_txts (f : Chart → Chart) (d : Dev) : (d.modChart f).txts = d.txts := rfl
@[simp] theorem modChart_clients (f : Chart → Chart) (d : Dev) : (d.modChart f).clients = d.clients := rfl
@[simp] theorem modChart_pilot (f : Chart → Chart) (d : Dev) : (d.modChart f).pilot = d.pilot := rfl
@[simp] theorem modChart_tide (f : Chart → Chart) (d : Dev) : (d.modChart f).tide = d.tide := rfl

@[simp] theorem modPilot_regs (f : Pilot → Pilot) (d : Dev) : (d.modPilot f).regs = d.regs := rfl
@[simp] theorem modPilot_bar4 (f : Pilot → Pilot) (d : Dev) : (d.modPilot f).bar4 = d.bar4 := rfl
@[simp] theorem modPilot_bar4Gen (f : Pilot → Pilot) (d : Dev) : (d.modPilot f).bar4Gen = d.bar4Gen := rfl
@[simp] theorem modPilot_draws (f : Pilot → Pilot) (d : Dev) : (d.modPilot f).draws = d.draws := rfl
@[simp] theorem modPilot_top (f : Pilot → Pilot) (d : Dev) : (d.modPilot f).top = d.top := rfl
@[simp] theorem modPilot_chk (f : Pilot → Pilot) (d : Dev) : (d.modPilot f).chk = d.chk := rfl
@[simp] theorem modPilot_host (f : Pilot → Pilot) (d : Dev) : (d.modPilot f).host = d.host := rfl
@[simp] theorem modPilot_clk (f : Pilot → Pilot) (d : Dev) : (d.modPilot f).clk = d.clk := rfl
@[simp] theorem modPilot_pwr (f : Pilot → Pilot) (d : Dev) : (d.modPilot f).pwr = d.pwr := rfl
@[simp] theorem modPilot_watch (f : Pilot → Pilot) (d : Dev) : (d.modPilot f).watch = d.watch := rfl
@[simp] theorem modPilot_keeper (f : Pilot → Pilot) (d : Dev) : (d.modPilot f).keeper = d.keeper := rfl
@[simp] theorem modPilot_fw (f : Pilot → Pilot) (d : Dev) : (d.modPilot f).fw = d.fw := rfl
@[simp] theorem modPilot_otp (f : Pilot → Pilot) (d : Dev) : (d.modPilot f).otp = d.otp := rfl
@[simp] theorem modPilot_chart (f : Pilot → Pilot) (d : Dev) : (d.modPilot f).chart = d.chart := rfl
@[simp] theorem modPilot_buoys (f : Pilot → Pilot) (d : Dev) : (d.modPilot f).buoys = d.buoys := rfl
@[simp] theorem modPilot_pairs (f : Pilot → Pilot) (d : Dev) : (d.modPilot f).pairs = d.pairs := rfl
@[simp] theorem modPilot_cycle (f : Pilot → Pilot) (d : Dev) : (d.modPilot f).cycle = d.cycle := rfl
@[simp] theorem modPilot_chans (f : Pilot → Pilot) (d : Dev) : (d.modPilot f).chans = d.chans := rfl
@[simp] theorem modPilot_lans (f : Pilot → Pilot) (d : Dev) : (d.modPilot f).lans = d.lans := rfl
@[simp] theorem modPilot_outs (f : Pilot → Pilot) (d : Dev) : (d.modPilot f).outs = d.outs := rfl
@[simp] theorem modPilot_vouts (f : Pilot → Pilot) (d : Dev) : (d.modPilot f).vouts = d.vouts := rfl
@[simp] theorem modPilot_ts (f : Pilot → Pilot) (d : Dev) : (d.modPilot f).ts = d.ts := rfl
@[simp] theorem modPilot_ports (f : Pilot → Pilot) (d : Dev) : (d.modPilot f).ports = d.ports := rfl
@[simp] theorem modPilot_txts (f : Pilot → Pilot) (d : Dev) : (d.modPilot f).txts = d.txts := rfl
@[simp] theorem modPilot_clients (f : Pilot → Pilot) (d : Dev) : (d.modPilot f).clients = d.clients := rfl
@[simp] theorem modPilot_pilot (f : Pilot → Pilot) (d : Dev) : (d.modPilot f).pilot = f d.pilot := rfl
@[simp] theorem modPilot_tide (f : Pilot → Pilot) (d : Dev) : (d.modPilot f).tide = d.tide := rfl

@[simp] theorem modTxts_regs (f : Txts → Txts) (d : Dev) : (d.modTxts f).regs = d.regs := rfl
@[simp] theorem modTxts_bar4 (f : Txts → Txts) (d : Dev) : (d.modTxts f).bar4 = d.bar4 := rfl
@[simp] theorem modTxts_bar4Gen (f : Txts → Txts) (d : Dev) : (d.modTxts f).bar4Gen = d.bar4Gen := rfl
@[simp] theorem modTxts_draws (f : Txts → Txts) (d : Dev) : (d.modTxts f).draws = d.draws := rfl
@[simp] theorem modTxts_top (f : Txts → Txts) (d : Dev) : (d.modTxts f).top = d.top := rfl
@[simp] theorem modTxts_chk (f : Txts → Txts) (d : Dev) : (d.modTxts f).chk = d.chk := rfl
@[simp] theorem modTxts_host (f : Txts → Txts) (d : Dev) : (d.modTxts f).host = d.host := rfl
@[simp] theorem modTxts_clk (f : Txts → Txts) (d : Dev) : (d.modTxts f).clk = d.clk := rfl
@[simp] theorem modTxts_pwr (f : Txts → Txts) (d : Dev) : (d.modTxts f).pwr = d.pwr := rfl
@[simp] theorem modTxts_watch (f : Txts → Txts) (d : Dev) : (d.modTxts f).watch = d.watch := rfl
@[simp] theorem modTxts_keeper (f : Txts → Txts) (d : Dev) : (d.modTxts f).keeper = d.keeper := rfl
@[simp] theorem modTxts_fw (f : Txts → Txts) (d : Dev) : (d.modTxts f).fw = d.fw := rfl
@[simp] theorem modTxts_otp (f : Txts → Txts) (d : Dev) : (d.modTxts f).otp = d.otp := rfl
@[simp] theorem modTxts_chart (f : Txts → Txts) (d : Dev) : (d.modTxts f).chart = d.chart := rfl
@[simp] theorem modTxts_buoys (f : Txts → Txts) (d : Dev) : (d.modTxts f).buoys = d.buoys := rfl
@[simp] theorem modTxts_pairs (f : Txts → Txts) (d : Dev) : (d.modTxts f).pairs = d.pairs := rfl
@[simp] theorem modTxts_cycle (f : Txts → Txts) (d : Dev) : (d.modTxts f).cycle = d.cycle := rfl
@[simp] theorem modTxts_chans (f : Txts → Txts) (d : Dev) : (d.modTxts f).chans = d.chans := rfl
@[simp] theorem modTxts_lans (f : Txts → Txts) (d : Dev) : (d.modTxts f).lans = d.lans := rfl
@[simp] theorem modTxts_outs (f : Txts → Txts) (d : Dev) : (d.modTxts f).outs = d.outs := rfl
@[simp] theorem modTxts_vouts (f : Txts → Txts) (d : Dev) : (d.modTxts f).vouts = d.vouts := rfl
@[simp] theorem modTxts_ts (f : Txts → Txts) (d : Dev) : (d.modTxts f).ts = d.ts := rfl
@[simp] theorem modTxts_ports (f : Txts → Txts) (d : Dev) : (d.modTxts f).ports = d.ports := rfl
@[simp] theorem modTxts_txts (f : Txts → Txts) (d : Dev) : (d.modTxts f).txts = f d.txts := rfl
@[simp] theorem modTxts_clients (f : Txts → Txts) (d : Dev) : (d.modTxts f).clients = d.clients := rfl
@[simp] theorem modTxts_pilot (f : Txts → Txts) (d : Dev) : (d.modTxts f).pilot = d.pilot := rfl
@[simp] theorem modTxts_tide (f : Txts → Txts) (d : Dev) : (d.modTxts f).tide = d.tide := rfl

@[simp] theorem modChk_regs (f : Chk → Chk) (d : Dev) : (d.modChk f).regs = d.regs := rfl
@[simp] theorem modChk_bar4 (f : Chk → Chk) (d : Dev) : (d.modChk f).bar4 = d.bar4 := rfl
@[simp] theorem modChk_bar4Gen (f : Chk → Chk) (d : Dev) : (d.modChk f).bar4Gen = d.bar4Gen := rfl
@[simp] theorem modChk_draws (f : Chk → Chk) (d : Dev) : (d.modChk f).draws = d.draws := rfl
@[simp] theorem modChk_top (f : Chk → Chk) (d : Dev) : (d.modChk f).top = d.top := rfl
@[simp] theorem modChk_chk (f : Chk → Chk) (d : Dev) : (d.modChk f).chk = f d.chk := rfl
@[simp] theorem modChk_host (f : Chk → Chk) (d : Dev) : (d.modChk f).host = d.host := rfl
@[simp] theorem modChk_clk (f : Chk → Chk) (d : Dev) : (d.modChk f).clk = d.clk := rfl
@[simp] theorem modChk_pwr (f : Chk → Chk) (d : Dev) : (d.modChk f).pwr = d.pwr := rfl
@[simp] theorem modChk_watch (f : Chk → Chk) (d : Dev) : (d.modChk f).watch = d.watch := rfl
@[simp] theorem modChk_keeper (f : Chk → Chk) (d : Dev) : (d.modChk f).keeper = d.keeper := rfl
@[simp] theorem modChk_fw (f : Chk → Chk) (d : Dev) : (d.modChk f).fw = d.fw := rfl
@[simp] theorem modChk_otp (f : Chk → Chk) (d : Dev) : (d.modChk f).otp = d.otp := rfl
@[simp] theorem modChk_chart (f : Chk → Chk) (d : Dev) : (d.modChk f).chart = d.chart := rfl
@[simp] theorem modChk_buoys (f : Chk → Chk) (d : Dev) : (d.modChk f).buoys = d.buoys := rfl
@[simp] theorem modChk_pairs (f : Chk → Chk) (d : Dev) : (d.modChk f).pairs = d.pairs := rfl
@[simp] theorem modChk_cycle (f : Chk → Chk) (d : Dev) : (d.modChk f).cycle = d.cycle := rfl
@[simp] theorem modChk_chans (f : Chk → Chk) (d : Dev) : (d.modChk f).chans = d.chans := rfl
@[simp] theorem modChk_lans (f : Chk → Chk) (d : Dev) : (d.modChk f).lans = d.lans := rfl
@[simp] theorem modChk_outs (f : Chk → Chk) (d : Dev) : (d.modChk f).outs = d.outs := rfl
@[simp] theorem modChk_vouts (f : Chk → Chk) (d : Dev) : (d.modChk f).vouts = d.vouts := rfl
@[simp] theorem modChk_ts (f : Chk → Chk) (d : Dev) : (d.modChk f).ts = d.ts := rfl
@[simp] theorem modChk_ports (f : Chk → Chk) (d : Dev) : (d.modChk f).ports = d.ports := rfl
@[simp] theorem modChk_txts (f : Chk → Chk) (d : Dev) : (d.modChk f).txts = d.txts := rfl
@[simp] theorem modChk_clients (f : Chk → Chk) (d : Dev) : (d.modChk f).clients = d.clients := rfl
@[simp] theorem modChk_pilot (f : Chk → Chk) (d : Dev) : (d.modChk f).pilot = d.pilot := rfl
@[simp] theorem modChk_tide (f : Chk → Chk) (d : Dev) : (d.modChk f).tide = d.tide := rfl

@[simp] theorem wr_regs (off : Nat) (w : Word) (d : Dev) : (d.wr off w).regs = Tab.put resetWord d.regs off w := rfl
@[simp] theorem wr_bar4 (off : Nat) (w : Word) (d : Dev) : (d.wr off w).bar4 = d.bar4 := rfl
@[simp] theorem wr_bar4Gen (off : Nat) (w : Word) (d : Dev) : (d.wr off w).bar4Gen = d.bar4Gen := rfl
@[simp] theorem wr_draws (off : Nat) (w : Word) (d : Dev) : (d.wr off w).draws = d.draws := rfl
@[simp] theorem wr_top (off : Nat) (w : Word) (d : Dev) : (d.wr off w).top = d.top := rfl
@[simp] theorem wr_chk (off : Nat) (w : Word) (d : Dev) : (d.wr off w).chk = d.chk := rfl
@[simp] theorem wr_host (off : Nat) (w : Word) (d : Dev) : (d.wr off w).host = d.host := rfl
@[simp] theorem wr_clk (off : Nat) (w : Word) (d : Dev) : (d.wr off w).clk = d.clk := rfl
@[simp] theorem wr_pwr (off : Nat) (w : Word) (d : Dev) : (d.wr off w).pwr = d.pwr := rfl
@[simp] theorem wr_watch (off : Nat) (w : Word) (d : Dev) : (d.wr off w).watch = d.watch := rfl
@[simp] theorem wr_keeper (off : Nat) (w : Word) (d : Dev) : (d.wr off w).keeper = d.keeper := rfl
@[simp] theorem wr_fw (off : Nat) (w : Word) (d : Dev) : (d.wr off w).fw = d.fw := rfl
@[simp] theorem wr_otp (off : Nat) (w : Word) (d : Dev) : (d.wr off w).otp = d.otp := rfl
@[simp] theorem wr_chart (off : Nat) (w : Word) (d : Dev) : (d.wr off w).chart = d.chart := rfl
@[simp] theorem wr_buoys (off : Nat) (w : Word) (d : Dev) : (d.wr off w).buoys = d.buoys := rfl
@[simp] theorem wr_pairs (off : Nat) (w : Word) (d : Dev) : (d.wr off w).pairs = d.pairs := rfl
@[simp] theorem wr_cycle (off : Nat) (w : Word) (d : Dev) : (d.wr off w).cycle = d.cycle := rfl
@[simp] theorem wr_chans (off : Nat) (w : Word) (d : Dev) : (d.wr off w).chans = d.chans := rfl
@[simp] theorem wr_lans (off : Nat) (w : Word) (d : Dev) : (d.wr off w).lans = d.lans := rfl
@[simp] theorem wr_outs (off : Nat) (w : Word) (d : Dev) : (d.wr off w).outs = d.outs := rfl
@[simp] theorem wr_vouts (off : Nat) (w : Word) (d : Dev) : (d.wr off w).vouts = d.vouts := rfl
@[simp] theorem wr_ts (off : Nat) (w : Word) (d : Dev) : (d.wr off w).ts = d.ts := rfl
@[simp] theorem wr_ports (off : Nat) (w : Word) (d : Dev) : (d.wr off w).ports = d.ports := rfl
@[simp] theorem wr_txts (off : Nat) (w : Word) (d : Dev) : (d.wr off w).txts = d.txts := rfl
@[simp] theorem wr_clients (off : Nat) (w : Word) (d : Dev) : (d.wr off w).clients = d.clients := rfl
@[simp] theorem wr_pilot (off : Nat) (w : Word) (d : Dev) : (d.wr off w).pilot = d.pilot := rfl
@[simp] theorem wr_tide (off : Nat) (w : Word) (d : Dev) : (d.wr off w).tide = d.tide := rfl

end Sys2Proof.Machine
end

