-- ==== Sys2Proof/Laws/Ops.lean ====
section
/-! SUPPORT. What the shared operations leave alone. A register write changes `regs`; an event, a log entry, a ring entry or a completion changes only the rings, the Keeper's queues, the words behind them and BAR4 (`OnlyIo`); an occurrence changes only the Watch. -/

namespace Sys2Proof.Machine

set_option Elab.async false

/-- Nothing but registers, BAR4, the host interface and the Keeper's queues differs. -/
def OnlyIo (d d' : Dev) : Prop := d' = { d with regs := d'.regs, bar4 := d'.bar4, host := d'.host, keeper := d'.keeper }

theorem OnlyIo.eq {d d' : Dev} (h : OnlyIo d d') :
    d' = { d with regs := d'.regs, bar4 := d'.bar4, host := d'.host, keeper := d'.keeper } := h

theorem OnlyIo.refl (d : Dev) : OnlyIo d d := rfl

theorem OnlyIo.trans {d d₁ d₂ : Dev} (h₁ : OnlyIo d d₁) (h₂ : OnlyIo d₁ d₂) : OnlyIo d d₂ := by
  unfold OnlyIo at h₁ h₂ ⊢
  rw [h₁] at h₂
  exact h₂

theorem OnlyIo.bar4Gen {d d' : Dev} (h : OnlyIo d d') : d'.bar4Gen = d.bar4Gen := (congrArg Dev.bar4Gen h.eq).trans rfl
theorem OnlyIo.draws {d d' : Dev} (h : OnlyIo d d') : d'.draws = d.draws := (congrArg Dev.draws h.eq).trans rfl
theorem OnlyIo.top {d d' : Dev} (h : OnlyIo d d') : d'.top = d.top := (congrArg Dev.top h.eq).trans rfl
theorem OnlyIo.chk {d d' : Dev} (h : OnlyIo d d') : d'.chk = d.chk := (congrArg Dev.chk h.eq).trans rfl
theorem OnlyIo.clk {d d' : Dev} (h : OnlyIo d d') : d'.clk = d.clk := (congrArg Dev.clk h.eq).trans rfl
theorem OnlyIo.pwr {d d' : Dev} (h : OnlyIo d d') : d'.pwr = d.pwr := (congrArg Dev.pwr h.eq).trans rfl
theorem OnlyIo.watch {d d' : Dev} (h : OnlyIo d d') : d'.watch = d.watch := (congrArg Dev.watch h.eq).trans rfl
theorem OnlyIo.fw {d d' : Dev} (h : OnlyIo d d') : d'.fw = d.fw := (congrArg Dev.fw h.eq).trans rfl
theorem OnlyIo.otp {d d' : Dev} (h : OnlyIo d d') : d'.otp = d.otp := (congrArg Dev.otp h.eq).trans rfl
theorem OnlyIo.chart {d d' : Dev} (h : OnlyIo d d') : d'.chart = d.chart := (congrArg Dev.chart h.eq).trans rfl
theorem OnlyIo.buoys {d d' : Dev} (h : OnlyIo d d') : d'.buoys = d.buoys := (congrArg Dev.buoys h.eq).trans rfl
theorem OnlyIo.pairs {d d' : Dev} (h : OnlyIo d d') : d'.pairs = d.pairs := (congrArg Dev.pairs h.eq).trans rfl
theorem OnlyIo.cycle {d d' : Dev} (h : OnlyIo d d') : d'.cycle = d.cycle := (congrArg Dev.cycle h.eq).trans rfl
theorem OnlyIo.chans {d d' : Dev} (h : OnlyIo d d') : d'.chans = d.chans := (congrArg Dev.chans h.eq).trans rfl
theorem OnlyIo.lans {d d' : Dev} (h : OnlyIo d d') : d'.lans = d.lans := (congrArg Dev.lans h.eq).trans rfl
theorem OnlyIo.outs {d d' : Dev} (h : OnlyIo d d') : d'.outs = d.outs := (congrArg Dev.outs h.eq).trans rfl
theorem OnlyIo.vouts {d d' : Dev} (h : OnlyIo d d') : d'.vouts = d.vouts := (congrArg Dev.vouts h.eq).trans rfl
theorem OnlyIo.ts {d d' : Dev} (h : OnlyIo d d') : d'.ts = d.ts := (congrArg Dev.ts h.eq).trans rfl
theorem OnlyIo.ports {d d' : Dev} (h : OnlyIo d d') : d'.ports = d.ports := (congrArg Dev.ports h.eq).trans rfl
theorem OnlyIo.txts {d d' : Dev} (h : OnlyIo d d') : d'.txts = d.txts := (congrArg Dev.txts h.eq).trans rfl
theorem OnlyIo.clients {d d' : Dev} (h : OnlyIo d d') : d'.clients = d.clients := (congrArg Dev.clients h.eq).trans rfl
theorem OnlyIo.pilot {d d' : Dev} (h : OnlyIo d d') : d'.pilot = d.pilot := (congrArg Dev.pilot h.eq).trans rfl
theorem OnlyIo.tide {d d' : Dev} (h : OnlyIo d d') : d'.tide = d.tide := (congrArg Dev.tide h.eq).trans rfl

@[simp] theorem wrF_bar4 (off lo width v : Nat) (d : Dev) : (d.wrF off lo width v).bar4 = d.bar4 := rfl
@[simp] theorem wrF_bar4Gen (off lo width v : Nat) (d : Dev) : (d.wrF off lo width v).bar4Gen = d.bar4Gen := rfl
@[simp] theorem wrF_draws (off lo width v : Nat) (d : Dev) : (d.wrF off lo width v).draws = d.draws := rfl
@[simp] theorem wrF_top (off lo width v : Nat) (d : Dev) : (d.wrF off lo width v).top = d.top := rfl
@[simp] theorem wrF_chk (off lo width v : Nat) (d : Dev) : (d.wrF off lo width v).chk = d.chk := rfl
@[simp] theorem wrF_host (off lo width v : Nat) (d : Dev) : (d.wrF off lo width v).host = d.host := rfl
@[simp] theorem wrF_clk (off lo width v : Nat) (d : Dev) : (d.wrF off lo width v).clk = d.clk := rfl
@[simp] theorem wrF_pwr (off lo width v : Nat) (d : Dev) : (d.wrF off lo width v).pwr = d.pwr := rfl
@[simp] theorem wrF_watch (off lo width v : Nat) (d : Dev) : (d.wrF off lo width v).watch = d.watch := rfl
@[simp] theorem wrF_keeper (off lo width v : Nat) (d : Dev) : (d.wrF off lo width v).keeper = d.keeper := rfl
@[simp] theorem wrF_fw (off lo width v : Nat) (d : Dev) : (d.wrF off lo width v).fw = d.fw := rfl
@[simp] theorem wrF_otp (off lo width v : Nat) (d : Dev) : (d.wrF off lo width v).otp = d.otp := rfl
@[simp] theorem wrF_chart (off lo width v : Nat) (d : Dev) : (d.wrF off lo width v).chart = d.chart := rfl
@[simp] theorem wrF_buoys (off lo width v : Nat) (d : Dev) : (d.wrF off lo width v).buoys = d.buoys := rfl
@[simp] theorem wrF_pairs (off lo width v : Nat) (d : Dev) : (d.wrF off lo width v).pairs = d.pairs := rfl
@[simp] theorem wrF_cycle (off lo width v : Nat) (d : Dev) : (d.wrF off lo width v).cycle = d.cycle := rfl
@[simp] theorem wrF_chans (off lo width v : Nat) (d : Dev) : (d.wrF off lo width v).chans = d.chans := rfl
@[simp] theorem wrF_lans (off lo width v : Nat) (d : Dev) : (d.wrF off lo width v).lans = d.lans := rfl
@[simp] theorem wrF_outs (off lo width v : Nat) (d : Dev) : (d.wrF off lo width v).outs = d.outs := rfl
@[simp] theorem wrF_vouts (off lo width v : Nat) (d : Dev) : (d.wrF off lo width v).vouts = d.vouts := rfl
@[simp] theorem wrF_ts (off lo width v : Nat) (d : Dev) : (d.wrF off lo width v).ts = d.ts := rfl
@[simp] theorem wrF_ports (off lo width v : Nat) (d : Dev) : (d.wrF off lo width v).ports = d.ports := rfl
@[simp] theorem wrF_txts (off lo width v : Nat) (d : Dev) : (d.wrF off lo width v).txts = d.txts := rfl
@[simp] theorem wrF_clients (off lo width v : Nat) (d : Dev) : (d.wrF off lo width v).clients = d.clients := rfl
@[simp] theorem wrF_pilot (off lo width v : Nat) (d : Dev) : (d.wrF off lo width v).pilot = d.pilot := rfl
@[simp] theorem wrF_tide (off lo width v : Nat) (d : Dev) : (d.wrF off lo width v).tide = d.tide := rfl

@[simp] theorem bumpBy_bar4 (k off lo width : Nat) (d : Dev) : (d.bumpBy k off lo width).bar4 = d.bar4 := rfl
@[simp] theorem bumpBy_bar4Gen (k off lo width : Nat) (d : Dev) : (d.bumpBy k off lo width).bar4Gen = d.bar4Gen := rfl
@[simp] theorem bumpBy_draws (k off lo width : Nat) (d : Dev) : (d.bumpBy k off lo width).draws = d.draws := rfl
@[simp] theorem bumpBy_top (k off lo width : Nat) (d : Dev) : (d.bumpBy k off lo width).top = d.top := rfl
@[simp] theorem bumpBy_chk (k off lo width : Nat) (d : Dev) : (d.bumpBy k off lo width).chk = d.chk := rfl
@[simp] theorem bumpBy_host (k off lo width : Nat) (d : Dev) : (d.bumpBy k off lo width).host = d.host := rfl
@[simp] theorem bumpBy_clk (k off lo width : Nat) (d : Dev) : (d.bumpBy k off lo width).clk = d.clk := rfl
@[simp] theorem bumpBy_pwr (k off lo width : Nat) (d : Dev) : (d.bumpBy k off lo width).pwr = d.pwr := rfl
@[simp] theorem bumpBy_watch (k off lo width : Nat) (d : Dev) : (d.bumpBy k off lo width).watch = d.watch := rfl
@[simp] theorem bumpBy_keeper (k off lo width : Nat) (d : Dev) : (d.bumpBy k off lo width).keeper = d.keeper := rfl
@[simp] theorem bumpBy_fw (k off lo width : Nat) (d : Dev) : (d.bumpBy k off lo width).fw = d.fw := rfl
@[simp] theorem bumpBy_otp (k off lo width : Nat) (d : Dev) : (d.bumpBy k off lo width).otp = d.otp := rfl
@[simp] theorem bumpBy_chart (k off lo width : Nat) (d : Dev) : (d.bumpBy k off lo width).chart = d.chart := rfl
@[simp] theorem bumpBy_buoys (k off lo width : Nat) (d : Dev) : (d.bumpBy k off lo width).buoys = d.buoys := rfl
@[simp] theorem bumpBy_pairs (k off lo width : Nat) (d : Dev) : (d.bumpBy k off lo width).pairs = d.pairs := rfl
@[simp] theorem bumpBy_cycle (k off lo width : Nat) (d : Dev) : (d.bumpBy k off lo width).cycle = d.cycle := rfl
@[simp] theorem bumpBy_chans (k off lo width : Nat) (d : Dev) : (d.bumpBy k off lo width).chans = d.chans := rfl
@[simp] theorem bumpBy_lans (k off lo width : Nat) (d : Dev) : (d.bumpBy k off lo width).lans = d.lans := rfl
@[simp] theorem bumpBy_outs (k off lo width : Nat) (d : Dev) : (d.bumpBy k off lo width).outs = d.outs := rfl
@[simp] theorem bumpBy_vouts (k off lo width : Nat) (d : Dev) : (d.bumpBy k off lo width).vouts = d.vouts := rfl
@[simp] theorem bumpBy_ts (k off lo width : Nat) (d : Dev) : (d.bumpBy k off lo width).ts = d.ts := rfl
@[simp] theorem bumpBy_ports (k off lo width : Nat) (d : Dev) : (d.bumpBy k off lo width).ports = d.ports := rfl
@[simp] theorem bumpBy_txts (k off lo width : Nat) (d : Dev) : (d.bumpBy k off lo width).txts = d.txts := rfl
@[simp] theorem bumpBy_clients (k off lo width : Nat) (d : Dev) : (d.bumpBy k off lo width).clients = d.clients := rfl
@[simp] theorem bumpBy_pilot (k off lo width : Nat) (d : Dev) : (d.bumpBy k off lo width).pilot = d.pilot := rfl
@[simp] theorem bumpBy_tide (k off lo width : Nat) (d : Dev) : (d.bumpBy k off lo width).tide = d.tide := rfl

@[simp] theorem bump_bar4 (off lo width : Nat) (d : Dev) : (d.bump off lo width).bar4 = d.bar4 := rfl
@[simp] theorem bump_bar4Gen (off lo width : Nat) (d : Dev) : (d.bump off lo width).bar4Gen = d.bar4Gen := rfl
@[simp] theorem bump_draws (off lo width : Nat) (d : Dev) : (d.bump off lo width).draws = d.draws := rfl
@[simp] theorem bump_top (off lo width : Nat) (d : Dev) : (d.bump off lo width).top = d.top := rfl
@[simp] theorem bump_chk (off lo width : Nat) (d : Dev) : (d.bump off lo width).chk = d.chk := rfl
@[simp] theorem bump_host (off lo width : Nat) (d : Dev) : (d.bump off lo width).host = d.host := rfl
@[simp] theorem bump_clk (off lo width : Nat) (d : Dev) : (d.bump off lo width).clk = d.clk := rfl
@[simp] theorem bump_pwr (off lo width : Nat) (d : Dev) : (d.bump off lo width).pwr = d.pwr := rfl
@[simp] theorem bump_watch (off lo width : Nat) (d : Dev) : (d.bump off lo width).watch = d.watch := rfl
@[simp] theorem bump_keeper (off lo width : Nat) (d : Dev) : (d.bump off lo width).keeper = d.keeper := rfl
@[simp] theorem bump_fw (off lo width : Nat) (d : Dev) : (d.bump off lo width).fw = d.fw := rfl
@[simp] theorem bump_otp (off lo width : Nat) (d : Dev) : (d.bump off lo width).otp = d.otp := rfl
@[simp] theorem bump_chart (off lo width : Nat) (d : Dev) : (d.bump off lo width).chart = d.chart := rfl
@[simp] theorem bump_buoys (off lo width : Nat) (d : Dev) : (d.bump off lo width).buoys = d.buoys := rfl
@[simp] theorem bump_pairs (off lo width : Nat) (d : Dev) : (d.bump off lo width).pairs = d.pairs := rfl
@[simp] theorem bump_cycle (off lo width : Nat) (d : Dev) : (d.bump off lo width).cycle = d.cycle := rfl
@[simp] theorem bump_chans (off lo width : Nat) (d : Dev) : (d.bump off lo width).chans = d.chans := rfl
@[simp] theorem bump_lans (off lo width : Nat) (d : Dev) : (d.bump off lo width).lans = d.lans := rfl
@[simp] theorem bump_outs (off lo width : Nat) (d : Dev) : (d.bump off lo width).outs = d.outs := rfl
@[simp] theorem bump_vouts (off lo width : Nat) (d : Dev) : (d.bump off lo width).vouts = d.vouts := rfl
@[simp] theorem bump_ts (off lo width : Nat) (d : Dev) : (d.bump off lo width).ts = d.ts := rfl
@[simp] theorem bump_ports (off lo width : Nat) (d : Dev) : (d.bump off lo width).ports = d.ports := rfl
@[simp] theorem bump_txts (off lo width : Nat) (d : Dev) : (d.bump off lo width).txts = d.txts := rfl
@[simp] theorem bump_clients (off lo width : Nat) (d : Dev) : (d.bump off lo width).clients = d.clients := rfl
@[simp] theorem bump_pilot (off lo width : Nat) (d : Dev) : (d.bump off lo width).pilot = d.pilot := rfl
@[simp] theorem bump_tide (off lo width : Nat) (d : Dev) : (d.bump off lo width).tide = d.tide := rfl

@[simp] theorem pubStat_bar4 (off extra : Nat) (d : Dev) : (d.pubStat off extra).bar4 = d.bar4 := wr_bar4 _ _ d
@[simp] theorem pubStat_bar4Gen (off extra : Nat) (d : Dev) : (d.pubStat off extra).bar4Gen = d.bar4Gen := wr_bar4Gen _ _ d
@[simp] theorem pubStat_draws (off extra : Nat) (d : Dev) : (d.pubStat off extra).draws = d.draws := wr_draws _ _ d
@[simp] theorem pubStat_top (off extra : Nat) (d : Dev) : (d.pubStat off extra).top = d.top := wr_top _ _ d
@[simp] theorem pubStat_chk (off extra : Nat) (d : Dev) : (d.pubStat off extra).chk = d.chk := wr_chk _ _ d
@[simp] theorem pubStat_host (off extra : Nat) (d : Dev) : (d.pubStat off extra).host = d.host := wr_host _ _ d
@[simp] theorem pubStat_clk (off extra : Nat) (d : Dev) : (d.pubStat off extra).clk = d.clk := wr_clk _ _ d
@[simp] theorem pubStat_pwr (off extra : Nat) (d : Dev) : (d.pubStat off extra).pwr = d.pwr := wr_pwr _ _ d
@[simp] theorem pubStat_watch (off extra : Nat) (d : Dev) : (d.pubStat off extra).watch = d.watch := wr_watch _ _ d
@[simp] theorem pubStat_keeper (off extra : Nat) (d : Dev) : (d.pubStat off extra).keeper = d.keeper := wr_keeper _ _ d
@[simp] theorem pubStat_fw (off extra : Nat) (d : Dev) : (d.pubStat off extra).fw = d.fw := wr_fw _ _ d
@[simp] theorem pubStat_otp (off extra : Nat) (d : Dev) : (d.pubStat off extra).otp = d.otp := wr_otp _ _ d
@[simp] theorem pubStat_chart (off extra : Nat) (d : Dev) : (d.pubStat off extra).chart = d.chart := wr_chart _ _ d
@[simp] theorem pubStat_buoys (off extra : Nat) (d : Dev) : (d.pubStat off extra).buoys = d.buoys := wr_buoys _ _ d
@[simp] theorem pubStat_pairs (off extra : Nat) (d : Dev) : (d.pubStat off extra).pairs = d.pairs := wr_pairs _ _ d
@[simp] theorem pubStat_cycle (off extra : Nat) (d : Dev) : (d.pubStat off extra).cycle = d.cycle := wr_cycle _ _ d
@[simp] theorem pubStat_chans (off extra : Nat) (d : Dev) : (d.pubStat off extra).chans = d.chans := wr_chans _ _ d
@[simp] theorem pubStat_lans (off extra : Nat) (d : Dev) : (d.pubStat off extra).lans = d.lans := wr_lans _ _ d
@[simp] theorem pubStat_outs (off extra : Nat) (d : Dev) : (d.pubStat off extra).outs = d.outs := wr_outs _ _ d
@[simp] theorem pubStat_vouts (off extra : Nat) (d : Dev) : (d.pubStat off extra).vouts = d.vouts := wr_vouts _ _ d
@[simp] theorem pubStat_ts (off extra : Nat) (d : Dev) : (d.pubStat off extra).ts = d.ts := wr_ts _ _ d
@[simp] theorem pubStat_ports (off extra : Nat) (d : Dev) : (d.pubStat off extra).ports = d.ports := wr_ports _ _ d
@[simp] theorem pubStat_txts (off extra : Nat) (d : Dev) : (d.pubStat off extra).txts = d.txts := wr_txts _ _ d
@[simp] theorem pubStat_clients (off extra : Nat) (d : Dev) : (d.pubStat off extra).clients = d.clients := wr_clients _ _ d
@[simp] theorem pubStat_pilot (off extra : Nat) (d : Dev) : (d.pubStat off extra).pilot = d.pilot := wr_pilot _ _ d
@[simp] theorem pubStat_tide (off extra : Nat) (d : Dev) : (d.pubStat off extra).tide = d.tide := wr_tide _ _ d

theorem wr_io (off : Nat) (w : Word) (d : Dev) : OnlyIo d (d.wr off w) := rfl

theorem pub40_io (base : Nat) (v : Int) (d : Dev) : OnlyIo d (d.pub40 base v) := by
  simp only [Dev.pub40]
  split
  · rfl
  · exact (wr_io _ _ d).trans (wr_io _ _ _)
@[simp] theorem pub40_bar4Gen (base : Nat) (v : Int) (d : Dev) : (d.pub40 base v).bar4Gen = d.bar4Gen := (pub40_io base v d).bar4Gen
@[simp] theorem pub40_draws (base : Nat) (v : Int) (d : Dev) : (d.pub40 base v).draws = d.draws := (pub40_io base v d).draws
@[simp] theorem pub40_top (base : Nat) (v : Int) (d : Dev) : (d.pub40 base v).top = d.top := (pub40_io base v d).top
@[simp] theorem pub40_chk (base : Nat) (v : Int) (d : Dev) : (d.pub40 base v).chk = d.chk := (pub40_io base v d).chk
@[simp] theorem pub40_clk (base : Nat) (v : Int) (d : Dev) : (d.pub40 base v).clk = d.clk := (pub40_io base v d).clk
@[simp] theorem pub40_pwr (base : Nat) (v : Int) (d : Dev) : (d.pub40 base v).pwr = d.pwr := (pub40_io base v d).pwr
@[simp] theorem pub40_watch (base : Nat) (v : Int) (d : Dev) : (d.pub40 base v).watch = d.watch := (pub40_io base v d).watch
@[simp] theorem pub40_fw (base : Nat) (v : Int) (d : Dev) : (d.pub40 base v).fw = d.fw := (pub40_io base v d).fw
@[simp] theorem pub40_otp (base : Nat) (v : Int) (d : Dev) : (d.pub40 base v).otp = d.otp := (pub40_io base v d).otp
@[simp] theorem pub40_chart (base : Nat) (v : Int) (d : Dev) : (d.pub40 base v).chart = d.chart := (pub40_io base v d).chart
@[simp] theorem pub40_buoys (base : Nat) (v : Int) (d : Dev) : (d.pub40 base v).buoys = d.buoys := (pub40_io base v d).buoys
@[simp] theorem pub40_pairs (base : Nat) (v : Int) (d : Dev) : (d.pub40 base v).pairs = d.pairs := (pub40_io base v d).pairs
@[simp] theorem pub40_cycle (base : Nat) (v : Int) (d : Dev) : (d.pub40 base v).cycle = d.cycle := (pub40_io base v d).cycle
@[simp] theorem pub40_chans (base : Nat) (v : Int) (d : Dev) : (d.pub40 base v).chans = d.chans := (pub40_io base v d).chans
@[simp] theorem pub40_lans (base : Nat) (v : Int) (d : Dev) : (d.pub40 base v).lans = d.lans := (pub40_io base v d).lans
@[simp] theorem pub40_outs (base : Nat) (v : Int) (d : Dev) : (d.pub40 base v).outs = d.outs := (pub40_io base v d).outs
@[simp] theorem pub40_vouts (base : Nat) (v : Int) (d : Dev) : (d.pub40 base v).vouts = d.vouts := (pub40_io base v d).vouts
@[simp] theorem pub40_ts (base : Nat) (v : Int) (d : Dev) : (d.pub40 base v).ts = d.ts := (pub40_io base v d).ts
@[simp] theorem pub40_ports (base : Nat) (v : Int) (d : Dev) : (d.pub40 base v).ports = d.ports := (pub40_io base v d).ports
@[simp] theorem pub40_txts (base : Nat) (v : Int) (d : Dev) : (d.pub40 base v).txts = d.txts := (pub40_io base v d).txts
@[simp] theorem pub40_clients (base : Nat) (v : Int) (d : Dev) : (d.pub40 base v).clients = d.clients := (pub40_io base v d).clients
@[simp] theorem pub40_pilot (base : Nat) (v : Int) (d : Dev) : (d.pub40 base v).pilot = d.pilot := (pub40_io base v d).pilot
@[simp] theorem pub40_tide (base : Nat) (v : Int) (d : Dev) : (d.pub40 base v).tide = d.tide := (pub40_io base v d).tide

theorem wrWords_io (off : Nat) (ws : List Word) (d : Dev) : OnlyIo d (d.wrWords off ws) := by
  induction ws generalizing off d with
  | nil => rfl
  | cons w ws ih => exact OnlyIo.trans (d₁ := d.wr off w) rfl (ih _ _)

theorem bar4Put_io (a : Nat) (b : Byte) (d : Dev) : OnlyIo d (d.bar4Put a b) := by
  simp only [Dev.bar4Put]
  split <;> rfl

theorem bar4Write_io (a : Nat) (bs : List Byte) (d : Dev) : OnlyIo d (d.bar4Write a bs) := by
  induction bs generalizing a d with
  | nil => rfl
  | cons b bs ih => exact (bar4Put_io a b d).trans (ih _ _)
@[simp] theorem bar4Write_bar4Gen (a : Nat) (bs : List Byte) (d : Dev) : (d.bar4Write a bs).bar4Gen = d.bar4Gen := (bar4Write_io a bs d).bar4Gen
@[simp] theorem bar4Write_draws (a : Nat) (bs : List Byte) (d : Dev) : (d.bar4Write a bs).draws = d.draws := (bar4Write_io a bs d).draws
@[simp] theorem bar4Write_top (a : Nat) (bs : List Byte) (d : Dev) : (d.bar4Write a bs).top = d.top := (bar4Write_io a bs d).top
@[simp] theorem bar4Write_chk (a : Nat) (bs : List Byte) (d : Dev) : (d.bar4Write a bs).chk = d.chk := (bar4Write_io a bs d).chk
@[simp] theorem bar4Write_clk (a : Nat) (bs : List Byte) (d : Dev) : (d.bar4Write a bs).clk = d.clk := (bar4Write_io a bs d).clk
@[simp] theorem bar4Write_pwr (a : Nat) (bs : List Byte) (d : Dev) : (d.bar4Write a bs).pwr = d.pwr := (bar4Write_io a bs d).pwr
@[simp] theorem bar4Write_watch (a : Nat) (bs : List Byte) (d : Dev) : (d.bar4Write a bs).watch = d.watch := (bar4Write_io a bs d).watch
@[simp] theorem bar4Write_fw (a : Nat) (bs : List Byte) (d : Dev) : (d.bar4Write a bs).fw = d.fw := (bar4Write_io a bs d).fw
@[simp] theorem bar4Write_otp (a : Nat) (bs : List Byte) (d : Dev) : (d.bar4Write a bs).otp = d.otp := (bar4Write_io a bs d).otp
@[simp] theorem bar4Write_chart (a : Nat) (bs : List Byte) (d : Dev) : (d.bar4Write a bs).chart = d.chart := (bar4Write_io a bs d).chart
@[simp] theorem bar4Write_buoys (a : Nat) (bs : List Byte) (d : Dev) : (d.bar4Write a bs).buoys = d.buoys := (bar4Write_io a bs d).buoys
@[simp] theorem bar4Write_pairs (a : Nat) (bs : List Byte) (d : Dev) : (d.bar4Write a bs).pairs = d.pairs := (bar4Write_io a bs d).pairs
@[simp] theorem bar4Write_cycle (a : Nat) (bs : List Byte) (d : Dev) : (d.bar4Write a bs).cycle = d.cycle := (bar4Write_io a bs d).cycle
@[simp] theorem bar4Write_chans (a : Nat) (bs : List Byte) (d : Dev) : (d.bar4Write a bs).chans = d.chans := (bar4Write_io a bs d).chans
@[simp] theorem bar4Write_lans (a : Nat) (bs : List Byte) (d : Dev) : (d.bar4Write a bs).lans = d.lans := (bar4Write_io a bs d).lans
@[simp] theorem bar4Write_outs (a : Nat) (bs : List Byte) (d : Dev) : (d.bar4Write a bs).outs = d.outs := (bar4Write_io a bs d).outs
@[simp] theorem bar4Write_vouts (a : Nat) (bs : List Byte) (d : Dev) : (d.bar4Write a bs).vouts = d.vouts := (bar4Write_io a bs d).vouts
@[simp] theorem bar4Write_ts (a : Nat) (bs : List Byte) (d : Dev) : (d.bar4Write a bs).ts = d.ts := (bar4Write_io a bs d).ts
@[simp] theorem bar4Write_ports (a : Nat) (bs : List Byte) (d : Dev) : (d.bar4Write a bs).ports = d.ports := (bar4Write_io a bs d).ports
@[simp] theorem bar4Write_txts (a : Nat) (bs : List Byte) (d : Dev) : (d.bar4Write a bs).txts = d.txts := (bar4Write_io a bs d).txts
@[simp] theorem bar4Write_clients (a : Nat) (bs : List Byte) (d : Dev) : (d.bar4Write a bs).clients = d.clients := (bar4Write_io a bs d).clients
@[simp] theorem bar4Write_pilot (a : Nat) (bs : List Byte) (d : Dev) : (d.bar4Write a bs).pilot = d.pilot := (bar4Write_io a bs d).pilot
@[simp] theorem bar4Write_tide (a : Nat) (bs : List Byte) (d : Dev) : (d.bar4Write a bs).tide = d.tide := (bar4Write_io a bs d).tide

theorem post_io (a : Nat) (bs : List Byte) (d : Dev) : OnlyIo d (d.post a bs) := by
  simp only [Dev.post]
  split <;> rfl

theorem memWrite_io (b : Bool) (a : Nat) (bs : List Byte) (d : Dev) : OnlyIo d (d.memWrite b a bs) := by
  cases b
  · exact post_io a bs d
  · exact bar4Write_io a bs d

theorem vectorSignal_io (v : Nat) (d : Dev) : OnlyIo d (d.vectorSignal v) := by
  simp only [Dev.vectorSignal]
  split <;> rfl

theorem signal_io (r : Fin 26) (d : Dev) : OnlyIo d (d.signal r) := 
  (vectorSignal_io _ d).trans rfl

theorem notice_io (r : Fin 26) (was new : Bool) (d : Dev) : OnlyIo d (d.notice r was new) := by
  simp only [Dev.notice]
  (repeat' split) <;> first | rfl | exact signal_io r d

theorem ringStore_io (r : Fin 26) (e : List Byte) (d : Dev) : OnlyIo d (d.ringStore r e) := 
  ((memWrite_io _ _ _ d).trans (memWrite_io _ _ _ _)).trans rfl

theorem ringPut_io (r : Fin 26) (e : List Byte) (d : Dev) : OnlyIo d (d.ringPut r e) := 
  (ringStore_io r e d).trans (notice_io _ _ _ _)

theorem ringEntry_io (r : Fin 26) (mk : Word → List Byte) (d : Dev) : OnlyIo d (d.ringEntry r mk) := by
  simp only [Dev.ringEntry]
  split
  · exact OnlyIo.trans (d₁ := d.modRing r _) rfl (ringPut_io _ _ _)
  · rfl

theorem keeperEvent_io (e : List Byte) (d : Dev) : OnlyIo d (d.keeperEvent e) := by
  simp only [Dev.keeperEvent]
  split
  · exact (wrWords_io _ _ d).trans rfl
  · rfl

theorem evtEntry_io (mk : Word → List Byte) (d : Dev) : OnlyIo d (d.evtEntry mk) := 
  (keeperEvent_io _ d).trans (ringEntry_io _ _ _)

theorem event_io (kind obj blk : Nat) (data : List Byte) (d : Dev) : OnlyIo d (d.event kind obj blk data) := evtEntry_io _ d
@[simp] theorem event_bar4Gen (kind obj blk : Nat) (data : List Byte) (d : Dev) : (d.event kind obj blk data).bar4Gen = d.bar4Gen := (event_io kind obj blk data d).bar4Gen
@[simp] theorem event_draws (kind obj blk : Nat) (data : List Byte) (d : Dev) : (d.event kind obj blk data).draws = d.draws := (event_io kind obj blk data d).draws
@[simp] theorem event_top (kind obj blk : Nat) (data : List Byte) (d : Dev) : (d.event kind obj blk data).top = d.top := (event_io kind obj blk data d).top
@[simp] theorem event_chk (kind obj blk : Nat) (data : List Byte) (d : Dev) : (d.event kind obj blk data).chk = d.chk := (event_io kind obj blk data d).chk
@[simp] theorem event_clk (kind obj blk : Nat) (data : List Byte) (d : Dev) : (d.event kind obj blk data).clk = d.clk := (event_io kind obj blk data d).clk
@[simp] theorem event_pwr (kind obj blk : Nat) (data : List Byte) (d : Dev) : (d.event kind obj blk data).pwr = d.pwr := (event_io kind obj blk data d).pwr
@[simp] theorem event_watch (kind obj blk : Nat) (data : List Byte) (d : Dev) : (d.event kind obj blk data).watch = d.watch := (event_io kind obj blk data d).watch
@[simp] theorem event_fw (kind obj blk : Nat) (data : List Byte) (d : Dev) : (d.event kind obj blk data).fw = d.fw := (event_io kind obj blk data d).fw
@[simp] theorem event_otp (kind obj blk : Nat) (data : List Byte) (d : Dev) : (d.event kind obj blk data).otp = d.otp := (event_io kind obj blk data d).otp
@[simp] theorem event_chart (kind obj blk : Nat) (data : List Byte) (d : Dev) : (d.event kind obj blk data).chart = d.chart := (event_io kind obj blk data d).chart
@[simp] theorem event_buoys (kind obj blk : Nat) (data : List Byte) (d : Dev) : (d.event kind obj blk data).buoys = d.buoys := (event_io kind obj blk data d).buoys
@[simp] theorem event_pairs (kind obj blk : Nat) (data : List Byte) (d : Dev) : (d.event kind obj blk data).pairs = d.pairs := (event_io kind obj blk data d).pairs
@[simp] theorem event_cycle (kind obj blk : Nat) (data : List Byte) (d : Dev) : (d.event kind obj blk data).cycle = d.cycle := (event_io kind obj blk data d).cycle
@[simp] theorem event_chans (kind obj blk : Nat) (data : List Byte) (d : Dev) : (d.event kind obj blk data).chans = d.chans := (event_io kind obj blk data d).chans
@[simp] theorem event_lans (kind obj blk : Nat) (data : List Byte) (d : Dev) : (d.event kind obj blk data).lans = d.lans := (event_io kind obj blk data d).lans
@[simp] theorem event_outs (kind obj blk : Nat) (data : List Byte) (d : Dev) : (d.event kind obj blk data).outs = d.outs := (event_io kind obj blk data d).outs
@[simp] theorem event_vouts (kind obj blk : Nat) (data : List Byte) (d : Dev) : (d.event kind obj blk data).vouts = d.vouts := (event_io kind obj blk data d).vouts
@[simp] theorem event_ts (kind obj blk : Nat) (data : List Byte) (d : Dev) : (d.event kind obj blk data).ts = d.ts := (event_io kind obj blk data d).ts
@[simp] theorem event_ports (kind obj blk : Nat) (data : List Byte) (d : Dev) : (d.event kind obj blk data).ports = d.ports := (event_io kind obj blk data d).ports
@[simp] theorem event_txts (kind obj blk : Nat) (data : List Byte) (d : Dev) : (d.event kind obj blk data).txts = d.txts := (event_io kind obj blk data d).txts
@[simp] theorem event_clients (kind obj blk : Nat) (data : List Byte) (d : Dev) : (d.event kind obj blk data).clients = d.clients := (event_io kind obj blk data d).clients
@[simp] theorem event_pilot (kind obj blk : Nat) (data : List Byte) (d : Dev) : (d.event kind obj blk data).pilot = d.pilot := (event_io kind obj blk data d).pilot
@[simp] theorem event_tide (kind obj blk : Nat) (data : List Byte) (d : Dev) : (d.event kind obj blk data).tide = d.tide := (event_io kind obj blk data d).tide

theorem stateEv_io (blk machine obj old new row related : Nat) (d : Dev) : OnlyIo d (d.stateEv blk machine obj old new row related) := by
  simp only [Dev.stateEv]
  split
  · rfl
  · exact event_io _ _ _ _ d
@[simp] theorem stateEv_bar4Gen (blk machine obj old new row related : Nat) (d : Dev) : (d.stateEv blk machine obj old new row related).bar4Gen = d.bar4Gen := (stateEv_io blk machine obj old new row related d).bar4Gen
@[simp] theorem stateEv_draws (blk machine obj old new row related : Nat) (d : Dev) : (d.stateEv blk machine obj old new row related).draws = d.draws := (stateEv_io blk machine obj old new row related d).draws
@[simp] theorem stateEv_top (blk machine obj old new row related : Nat) (d : Dev) : (d.stateEv blk machine obj old new row related).top = d.top := (stateEv_io blk machine obj old new row related d).top
@[simp] theorem stateEv_chk (blk machine obj old new row related : Nat) (d : Dev) : (d.stateEv blk machine obj old new row related).chk = d.chk := (stateEv_io blk machine obj old new row related d).chk
@[simp] theorem stateEv_clk (blk machine obj old new row related : Nat) (d : Dev) : (d.stateEv blk machine obj old new row related).clk = d.clk := (stateEv_io blk machine obj old new row related d).clk
@[simp] theorem stateEv_pwr (blk machine obj old new row related : Nat) (d : Dev) : (d.stateEv blk machine obj old new row related).pwr = d.pwr := (stateEv_io blk machine obj old new row related d).pwr
@[simp] theorem stateEv_watch (blk machine obj old new row related : Nat) (d : Dev) : (d.stateEv blk machine obj old new row related).watch = d.watch := (stateEv_io blk machine obj old new row related d).watch
@[simp] theorem stateEv_fw (blk machine obj old new row related : Nat) (d : Dev) : (d.stateEv blk machine obj old new row related).fw = d.fw := (stateEv_io blk machine obj old new row related d).fw
@[simp] theorem stateEv_otp (blk machine obj old new row related : Nat) (d : Dev) : (d.stateEv blk machine obj old new row related).otp = d.otp := (stateEv_io blk machine obj old new row related d).otp
@[simp] theorem stateEv_chart (blk machine obj old new row related : Nat) (d : Dev) : (d.stateEv blk machine obj old new row related).chart = d.chart := (stateEv_io blk machine obj old new row related d).chart
@[simp] theorem stateEv_buoys (blk machine obj old new row related : Nat) (d : Dev) : (d.stateEv blk machine obj old new row related).buoys = d.buoys := (stateEv_io blk machine obj old new row related d).buoys
@[simp] theorem stateEv_pairs (blk machine obj old new row related : Nat) (d : Dev) : (d.stateEv blk machine obj old new row related).pairs = d.pairs := (stateEv_io blk machine obj old new row related d).pairs
@[simp] theorem stateEv_cycle (blk machine obj old new row related : Nat) (d : Dev) : (d.stateEv blk machine obj old new row related).cycle = d.cycle := (stateEv_io blk machine obj old new row related d).cycle
@[simp] theorem stateEv_chans (blk machine obj old new row related : Nat) (d : Dev) : (d.stateEv blk machine obj old new row related).chans = d.chans := (stateEv_io blk machine obj old new row related d).chans
@[simp] theorem stateEv_lans (blk machine obj old new row related : Nat) (d : Dev) : (d.stateEv blk machine obj old new row related).lans = d.lans := (stateEv_io blk machine obj old new row related d).lans
@[simp] theorem stateEv_outs (blk machine obj old new row related : Nat) (d : Dev) : (d.stateEv blk machine obj old new row related).outs = d.outs := (stateEv_io blk machine obj old new row related d).outs
@[simp] theorem stateEv_vouts (blk machine obj old new row related : Nat) (d : Dev) : (d.stateEv blk machine obj old new row related).vouts = d.vouts := (stateEv_io blk machine obj old new row related d).vouts
@[simp] theorem stateEv_ts (blk machine obj old new row related : Nat) (d : Dev) : (d.stateEv blk machine obj old new row related).ts = d.ts := (stateEv_io blk machine obj old new row related d).ts
@[simp] theorem stateEv_ports (blk machine obj old new row related : Nat) (d : Dev) : (d.stateEv blk machine obj old new row related).ports = d.ports := (stateEv_io blk machine obj old new row related d).ports
@[simp] theorem stateEv_txts (blk machine obj old new row related : Nat) (d : Dev) : (d.stateEv blk machine obj old new row related).txts = d.txts := (stateEv_io blk machine obj old new row related d).txts
@[simp] theorem stateEv_clients (blk machine obj old new row related : Nat) (d : Dev) : (d.stateEv blk machine obj old new row related).clients = d.clients := (stateEv_io blk machine obj old new row related d).clients
@[simp] theorem stateEv_pilot (blk machine obj old new row related : Nat) (d : Dev) : (d.stateEv blk machine obj old new row related).pilot = d.pilot := (stateEv_io blk machine obj old new row related d).pilot
@[simp] theorem stateEv_tide (blk machine obj old new row related : Nat) (d : Dev) : (d.stateEv blk machine obj old new row related).tide = d.tide := (stateEv_io blk machine obj old new row related d).tide

theorem logEnt_io (kind obj blk : Nat) (data : List Byte) (d : Dev) : OnlyIo d (d.logEnt kind obj blk data) := ringEntry_io _ _ d
@[simp] theorem logEnt_bar4Gen (kind obj blk : Nat) (data : List Byte) (d : Dev) : (d.logEnt kind obj blk data).bar4Gen = d.bar4Gen := (logEnt_io kind obj blk data d).bar4Gen
@[simp] theorem logEnt_draws (kind obj blk : Nat) (data : List Byte) (d : Dev) : (d.logEnt kind obj blk data).draws = d.draws := (logEnt_io kind obj blk data d).draws
@[simp] theorem logEnt_top (kind obj blk : Nat) (data : List Byte) (d : Dev) : (d.logEnt kind obj blk data).top = d.top := (logEnt_io kind obj blk data d).top
@[simp] theorem logEnt_chk (kind obj blk : Nat) (data : List Byte) (d : Dev) : (d.logEnt kind obj blk data).chk = d.chk := (logEnt_io kind obj blk data d).chk
@[simp] theorem logEnt_clk (kind obj blk : Nat) (data : List Byte) (d : Dev) : (d.logEnt kind obj blk data).clk = d.clk := (logEnt_io kind obj blk data d).clk
@[simp] theorem logEnt_pwr (kind obj blk : Nat) (data : List Byte) (d : Dev) : (d.logEnt kind obj blk data).pwr = d.pwr := (logEnt_io kind obj blk data d).pwr
@[simp] theorem logEnt_watch (kind obj blk : Nat) (data : List Byte) (d : Dev) : (d.logEnt kind obj blk data).watch = d.watch := (logEnt_io kind obj blk data d).watch
@[simp] theorem logEnt_fw (kind obj blk : Nat) (data : List Byte) (d : Dev) : (d.logEnt kind obj blk data).fw = d.fw := (logEnt_io kind obj blk data d).fw
@[simp] theorem logEnt_otp (kind obj blk : Nat) (data : List Byte) (d : Dev) : (d.logEnt kind obj blk data).otp = d.otp := (logEnt_io kind obj blk data d).otp
@[simp] theorem logEnt_chart (kind obj blk : Nat) (data : List Byte) (d : Dev) : (d.logEnt kind obj blk data).chart = d.chart := (logEnt_io kind obj blk data d).chart
@[simp] theorem logEnt_buoys (kind obj blk : Nat) (data : List Byte) (d : Dev) : (d.logEnt kind obj blk data).buoys = d.buoys := (logEnt_io kind obj blk data d).buoys
@[simp] theorem logEnt_pairs (kind obj blk : Nat) (data : List Byte) (d : Dev) : (d.logEnt kind obj blk data).pairs = d.pairs := (logEnt_io kind obj blk data d).pairs
@[simp] theorem logEnt_cycle (kind obj blk : Nat) (data : List Byte) (d : Dev) : (d.logEnt kind obj blk data).cycle = d.cycle := (logEnt_io kind obj blk data d).cycle
@[simp] theorem logEnt_chans (kind obj blk : Nat) (data : List Byte) (d : Dev) : (d.logEnt kind obj blk data).chans = d.chans := (logEnt_io kind obj blk data d).chans
@[simp] theorem logEnt_lans (kind obj blk : Nat) (data : List Byte) (d : Dev) : (d.logEnt kind obj blk data).lans = d.lans := (logEnt_io kind obj blk data d).lans
@[simp] theorem logEnt_outs (kind obj blk : Nat) (data : List Byte) (d : Dev) : (d.logEnt kind obj blk data).outs = d.outs := (logEnt_io kind obj blk data d).outs
@[simp] theorem logEnt_vouts (kind obj blk : Nat) (data : List Byte) (d : Dev) : (d.logEnt kind obj blk data).vouts = d.vouts := (logEnt_io kind obj blk data d).vouts
@[simp] theorem logEnt_ts (kind obj blk : Nat) (data : List Byte) (d : Dev) : (d.logEnt kind obj blk data).ts = d.ts := (logEnt_io kind obj blk data d).ts
@[simp] theorem logEnt_ports (kind obj blk : Nat) (data : List Byte) (d : Dev) : (d.logEnt kind obj blk data).ports = d.ports := (logEnt_io kind obj blk data d).ports
@[simp] theorem logEnt_txts (kind obj blk : Nat) (data : List Byte) (d : Dev) : (d.logEnt kind obj blk data).txts = d.txts := (logEnt_io kind obj blk data d).txts
@[simp] theorem logEnt_clients (kind obj blk : Nat) (data : List Byte) (d : Dev) : (d.logEnt kind obj blk data).clients = d.clients := (logEnt_io kind obj blk data d).clients
@[simp] theorem logEnt_pilot (kind obj blk : Nat) (data : List Byte) (d : Dev) : (d.logEnt kind obj blk data).pilot = d.pilot := (logEnt_io kind obj blk data d).pilot
@[simp] theorem logEnt_tide (kind obj blk : Nat) (data : List Byte) (d : Dev) : (d.logEnt kind obj blk data).tide = d.tide := (logEnt_io kind obj blk data d).tide

theorem overflow_io (r : Fin 26) (d : Dev) : OnlyIo d (d.overflow r) := by
  simp only [Dev.overflow]
  split
  · rfl
  · split
    · exact evtEntry_io _ d
    · exact ringEntry_io _ _ d

theorem takeFetched_io (src : CmdSrc) (d : Dev) : OnlyIo d (d.takeFetched src) := by cases src <;> rfl

theorem recordIp_io (q : Fin 4) (p : InProg) (o : CmdOut) (d : Dev) : OnlyIo d (d.recordIp q p o) := rfl

theorem cqRetire_io (q : Fin 4) (p : InProg) (d : Dev) : OnlyIo d (d.cqRetire q p) := rfl

theorem completeOne_io (src : CmdSrc) (p : InProg) (o : CmdOut) (d : Dev) : OnlyIo d (d.completeOne src p o) := by
  cases src with
  | cq q =>
    simp only [Dev.completeOne]
    have h : OnlyIo d (onlyIf d.host.resetCause.isSome (Dev.recordIp q p o) d) := by
      unfold onlyIf
      split <;> rfl
    split
    · exact (h.trans (cqRetire_io q p _)).trans (ringPut_io _ _ _)
    · split
      · exact h.trans (cqRetire_io q p _)
      · exact h.trans rfl
  | keeper =>
    simp only [Dev.completeOne]
    refine OnlyIo.trans (OnlyIo.trans ?_ (wrWords_io _ _ _)) rfl
    rfl

theorem retireHead_io (src : CmdSrc) (e : Nat × List Word) (o : CmdOut) (d : Dev) : OnlyIo d (d.retireHead src e o) := 
  (takeFetched_io src d).trans (completeOne_io _ _ _ _)

theorem retireBad_io (n : Nat) (src : CmdSrc) (d : Dev) : OnlyIo d (d.retireBad n src) := by
  induction n generalizing d with
  | zero => rfl
  | succ n ih =>
    simp only [Dev.retireBad]
    (repeat' split) <;> first | rfl | exact (retireHead_io _ _ _ d).trans (ih _)

theorem complete_io (src : CmdSrc) (p : InProg) (o : CmdOut) (d : Dev) : OnlyIo d (d.complete src p o) := 
  (completeOne_io src p o d).trans (retireBad_io _ _ _)
@[simp] theorem complete_bar4Gen (src : CmdSrc) (p : InProg) (o : CmdOut) (d : Dev) : (d.complete src p o).bar4Gen = d.bar4Gen := (complete_io src p o d).bar4Gen
@[simp] theorem complete_draws (src : CmdSrc) (p : InProg) (o : CmdOut) (d : Dev) : (d.complete src p o).draws = d.draws := (complete_io src p o d).draws
@[simp] theorem complete_top (src : CmdSrc) (p : InProg) (o : CmdOut) (d : Dev) : (d.complete src p o).top = d.top := (complete_io src p o d).top
@[simp] theorem complete_chk (src : CmdSrc) (p : InProg) (o : CmdOut) (d : Dev) : (d.complete src p o).chk = d.chk := (complete_io src p o d).chk
@[simp] theorem complete_clk (src : CmdSrc) (p : InProg) (o : CmdOut) (d : Dev) : (d.complete src p o).clk = d.clk := (complete_io src p o d).clk
@[simp] theorem complete_pwr (src : CmdSrc) (p : InProg) (o : CmdOut) (d : Dev) : (d.complete src p o).pwr = d.pwr := (complete_io src p o d).pwr
@[simp] theorem complete_watch (src : CmdSrc) (p : InProg) (o : CmdOut) (d : Dev) : (d.complete src p o).watch = d.watch := (complete_io src p o d).watch
@[simp] theorem complete_fw (src : CmdSrc) (p : InProg) (o : CmdOut) (d : Dev) : (d.complete src p o).fw = d.fw := (complete_io src p o d).fw
@[simp] theorem complete_otp (src : CmdSrc) (p : InProg) (o : CmdOut) (d : Dev) : (d.complete src p o).otp = d.otp := (complete_io src p o d).otp
@[simp] theorem complete_chart (src : CmdSrc) (p : InProg) (o : CmdOut) (d : Dev) : (d.complete src p o).chart = d.chart := (complete_io src p o d).chart
@[simp] theorem complete_buoys (src : CmdSrc) (p : InProg) (o : CmdOut) (d : Dev) : (d.complete src p o).buoys = d.buoys := (complete_io src p o d).buoys
@[simp] theorem complete_pairs (src : CmdSrc) (p : InProg) (o : CmdOut) (d : Dev) : (d.complete src p o).pairs = d.pairs := (complete_io src p o d).pairs
@[simp] theorem complete_cycle (src : CmdSrc) (p : InProg) (o : CmdOut) (d : Dev) : (d.complete src p o).cycle = d.cycle := (complete_io src p o d).cycle
@[simp] theorem complete_chans (src : CmdSrc) (p : InProg) (o : CmdOut) (d : Dev) : (d.complete src p o).chans = d.chans := (complete_io src p o d).chans
@[simp] theorem complete_lans (src : CmdSrc) (p : InProg) (o : CmdOut) (d : Dev) : (d.complete src p o).lans = d.lans := (complete_io src p o d).lans
@[simp] theorem complete_outs (src : CmdSrc) (p : InProg) (o : CmdOut) (d : Dev) : (d.complete src p o).outs = d.outs := (complete_io src p o d).outs
@[simp] theorem complete_vouts (src : CmdSrc) (p : InProg) (o : CmdOut) (d : Dev) : (d.complete src p o).vouts = d.vouts := (complete_io src p o d).vouts
@[simp] theorem complete_ts (src : CmdSrc) (p : InProg) (o : CmdOut) (d : Dev) : (d.complete src p o).ts = d.ts := (complete_io src p o d).ts
@[simp] theorem complete_ports (src : CmdSrc) (p : InProg) (o : CmdOut) (d : Dev) : (d.complete src p o).ports = d.ports := (complete_io src p o d).ports
@[simp] theorem complete_txts (src : CmdSrc) (p : InProg) (o : CmdOut) (d : Dev) : (d.complete src p o).txts = d.txts := (complete_io src p o d).txts
@[simp] theorem complete_clients (src : CmdSrc) (p : InProg) (o : CmdOut) (d : Dev) : (d.complete src p o).clients = d.clients := (complete_io src p o d).clients
@[simp] theorem complete_pilot (src : CmdSrc) (p : InProg) (o : CmdOut) (d : Dev) : (d.complete src p o).pilot = d.pilot := (complete_io src p o d).pilot
@[simp] theorem complete_tide (src : CmdSrc) (p : InProg) (o : CmdOut) (d : Dev) : (d.complete src p o).tide = d.tide := (complete_io src p o d).tide

@[simp] theorem reach_regs (o : Occ) (b : Bool) (d : Dev) : (d.reach o b).regs = d.regs := rfl
@[simp] theorem reach_bar4 (o : Occ) (b : Bool) (d : Dev) : (d.reach o b).bar4 = d.bar4 := rfl
@[simp] theorem reach_bar4Gen (o : Occ) (b : Bool) (d : Dev) : (d.reach o b).bar4Gen = d.bar4Gen := rfl
@[simp] theorem reach_draws (o : Occ) (b : Bool) (d : Dev) : (d.reach o b).draws = d.draws := rfl
@[simp] theorem reach_top (o : Occ) (b : Bool) (d : Dev) : (d.reach o b).top = d.top := rfl
@[simp] theorem reach_chk (o : Occ) (b : Bool) (d : Dev) : (d.reach o b).chk = d.chk := rfl
@[simp] theorem reach_host (o : Occ) (b : Bool) (d : Dev) : (d.reach o b).host = d.host := rfl
@[simp] theorem reach_clk (o : Occ) (b : Bool) (d : Dev) : (d.reach o b).clk = d.clk := rfl
@[simp] theorem reach_pwr (o : Occ) (b : Bool) (d : Dev) : (d.reach o b).pwr = d.pwr := rfl
@[simp] theorem reach_keeper (o : Occ) (b : Bool) (d : Dev) : (d.reach o b).keeper = d.keeper := rfl
@[simp] theorem reach_fw (o : Occ) (b : Bool) (d : Dev) : (d.reach o b).fw = d.fw := rfl
@[simp] theorem reach_otp (o : Occ) (b : Bool) (d : Dev) : (d.reach o b).otp = d.otp := rfl
@[simp] theorem reach_chart (o : Occ) (b : Bool) (d : Dev) : (d.reach o b).chart = d.chart := rfl
@[simp] theorem reach_buoys (o : Occ) (b : Bool) (d : Dev) : (d.reach o b).buoys = d.buoys := rfl
@[simp] theorem reach_pairs (o : Occ) (b : Bool) (d : Dev) : (d.reach o b).pairs = d.pairs := rfl
@[simp] theorem reach_cycle (o : Occ) (b : Bool) (d : Dev) : (d.reach o b).cycle = d.cycle := rfl
@[simp] theorem reach_chans (o : Occ) (b : Bool) (d : Dev) : (d.reach o b).chans = d.chans := rfl
@[simp] theorem reach_lans (o : Occ) (b : Bool) (d : Dev) : (d.reach o b).lans = d.lans := rfl
@[simp] theorem reach_outs (o : Occ) (b : Bool) (d : Dev) : (d.reach o b).outs = d.outs := rfl
@[simp] theorem reach_vouts (o : Occ) (b : Bool) (d : Dev) : (d.reach o b).vouts = d.vouts := rfl
@[simp] theorem reach_ts (o : Occ) (b : Bool) (d : Dev) : (d.reach o b).ts = d.ts := rfl
@[simp] theorem reach_ports (o : Occ) (b : Bool) (d : Dev) : (d.reach o b).ports = d.ports := rfl
@[simp] theorem reach_txts (o : Occ) (b : Bool) (d : Dev) : (d.reach o b).txts = d.txts := rfl
@[simp] theorem reach_clients (o : Occ) (b : Bool) (d : Dev) : (d.reach o b).clients = d.clients := rfl
@[simp] theorem reach_pilot (o : Occ) (b : Bool) (d : Dev) : (d.reach o b).pilot = d.pilot := rfl
@[simp] theorem reach_tide (o : Occ) (b : Bool) (d : Dev) : (d.reach o b).tide = d.tide := rfl

@[simp] theorem occur_regs (src : Fin 192) (obj : Nat) (d : Dev) : (d.occur src obj).regs = d.regs := rfl
@[simp] theorem occur_bar4 (src : Fin 192) (obj : Nat) (d : Dev) : (d.occur src obj).bar4 = d.bar4 := rfl
@[simp] theorem occur_bar4Gen (src : Fin 192) (obj : Nat) (d : Dev) : (d.occur src obj).bar4Gen = d.bar4Gen := rfl
@[simp] theorem occur_draws (src : Fin 192) (obj : Nat) (d : Dev) : (d.occur src obj).draws = d.draws := rfl
@[simp] theorem occur_top (src : Fin 192) (obj : Nat) (d : Dev) : (d.occur src obj).top = d.top := rfl
@[simp] theorem occur_chk (src : Fin 192) (obj : Nat) (d : Dev) : (d.occur src obj).chk = d.chk := rfl
@[simp] theorem occur_host (src : Fin 192) (obj : Nat) (d : Dev) : (d.occur src obj).host = d.host := rfl
@[simp] theorem occur_clk (src : Fin 192) (obj : Nat) (d : Dev) : (d.occur src obj).clk = d.clk := rfl
@[simp] theorem occur_pwr (src : Fin 192) (obj : Nat) (d : Dev) : (d.occur src obj).pwr = d.pwr := rfl
@[simp] theorem occur_keeper (src : Fin 192) (obj : Nat) (d : Dev) : (d.occur src obj).keeper = d.keeper := rfl
@[simp] theorem occur_fw (src : Fin 192) (obj : Nat) (d : Dev) : (d.occur src obj).fw = d.fw := rfl
@[simp] theorem occur_otp (src : Fin 192) (obj : Nat) (d : Dev) : (d.occur src obj).otp = d.otp := rfl
@[simp] theorem occur_chart (src : Fin 192) (obj : Nat) (d : Dev) : (d.occur src obj).chart = d.chart := rfl
@[simp] theorem occur_buoys (src : Fin 192) (obj : Nat) (d : Dev) : (d.occur src obj).buoys = d.buoys := rfl
@[simp] theorem occur_pairs (src : Fin 192) (obj : Nat) (d : Dev) : (d.occur src obj).pairs = d.pairs := rfl
@[simp] theorem occur_cycle (src : Fin 192) (obj : Nat) (d : Dev) : (d.occur src obj).cycle = d.cycle := rfl
@[simp] theorem occur_chans (src : Fin 192) (obj : Nat) (d : Dev) : (d.occur src obj).chans = d.chans := rfl
@[simp] theorem occur_lans (src : Fin 192) (obj : Nat) (d : Dev) : (d.occur src obj).lans = d.lans := rfl
@[simp] theorem occur_outs (src : Fin 192) (obj : Nat) (d : Dev) : (d.occur src obj).outs = d.outs := rfl
@[simp] theorem occur_vouts (src : Fin 192) (obj : Nat) (d : Dev) : (d.occur src obj).vouts = d.vouts := rfl
@[simp] theorem occur_ts (src : Fin 192) (obj : Nat) (d : Dev) : (d.occur src obj).ts = d.ts := rfl
@[simp] theorem occur_ports (src : Fin 192) (obj : Nat) (d : Dev) : (d.occur src obj).ports = d.ports := rfl
@[simp] theorem occur_txts (src : Fin 192) (obj : Nat) (d : Dev) : (d.occur src obj).txts = d.txts := rfl
@[simp] theorem occur_clients (src : Fin 192) (obj : Nat) (d : Dev) : (d.occur src obj).clients = d.clients := rfl
@[simp] theorem occur_pilot (src : Fin 192) (obj : Nat) (d : Dev) : (d.occur src obj).pilot = d.pilot := rfl
@[simp] theorem occur_tide (src : Fin 192) (obj : Nat) (d : Dev) : (d.occur src obj).tide = d.tide := rfl

theorem setCond_only (src : Fin 192) (obj : Nat) (c : Bool) (d : Dev) : ∃ w, d.setCond src obj c = { d with watch := w } := by
  simp only [Dev.setCond]
  (repeat' split) <;> exact ⟨_, rfl⟩
@[simp] theorem setCond_regs (src : Fin 192) (obj : Nat) (c : Bool) (d : Dev) : (d.setCond src obj c).regs = d.regs := (setCond_only src obj c d).elim fun _ h => (congrArg Dev.regs h).trans rfl
@[simp] theorem setCond_bar4 (src : Fin 192) (obj : Nat) (c : Bool) (d : Dev) : (d.setCond src obj c).bar4 = d.bar4 := (setCond_only src obj c d).elim fun _ h => (congrArg Dev.bar4 h).trans rfl
@[simp] theorem setCond_bar4Gen (src : Fin 192) (obj : Nat) (c : Bool) (d : Dev) : (d.setCond src obj c).bar4Gen = d.bar4Gen := (setCond_only src obj c d).elim fun _ h => (congrArg Dev.bar4Gen h).trans rfl
@[simp] theorem setCond_draws (src : Fin 192) (obj : Nat) (c : Bool) (d : Dev) : (d.setCond src obj c).draws = d.draws := (setCond_only src obj c d).elim fun _ h => (congrArg Dev.draws h).trans rfl
@[simp] theorem setCond_top (src : Fin 192) (obj : Nat) (c : Bool) (d : Dev) : (d.setCond src obj c).top = d.top := (setCond_only src obj c d).elim fun _ h => (congrArg Dev.top h).trans rfl
@[simp] theorem setCond_chk (src : Fin 192) (obj : Nat) (c : Bool) (d : Dev) : (d.setCond src obj c).chk = d.chk := (setCond_only src obj c d).elim fun _ h => (congrArg Dev.chk h).trans rfl
@[simp] theorem setCond_host (src : Fin 192) (obj : Nat) (c : Bool) (d : Dev) : (d.setCond src obj c).host = d.host := (setCond_only src obj c d).elim fun _ h => (congrArg Dev.host h).trans rfl
@[simp] theorem setCond_clk (src : Fin 192) (obj : Nat) (c : Bool) (d : Dev) : (d.setCond src obj c).clk = d.clk := (setCond_only src obj c d).elim fun _ h => (congrArg Dev.clk h).trans rfl
@[simp] theorem setCond_pwr (src : Fin 192) (obj : Nat) (c : Bool) (d : Dev) : (d.setCond src obj c).pwr = d.pwr := (setCond_only src obj c d).elim fun _ h => (congrArg Dev.pwr h).trans rfl
@[simp] theorem setCond_keeper (src : Fin 192) (obj : Nat) (c : Bool) (d : Dev) : (d.setCond src obj c).keeper = d.keeper := (setCond_only src obj c d).elim fun _ h => (congrArg Dev.keeper h).trans rfl
@[simp] theorem setCond_fw (src : Fin 192) (obj : Nat) (c : Bool) (d : Dev) : (d.setCond src obj c).fw = d.fw := (setCond_only src obj c d).elim fun _ h => (congrArg Dev.fw h).trans rfl
@[simp] theorem setCond_otp (src : Fin 192) (obj : Nat) (c : Bool) (d : Dev) : (d.setCond src obj c).otp = d.otp := (setCond_only src obj c d).elim fun _ h => (congrArg Dev.otp h).trans rfl
@[simp] theorem setCond_chart (src : Fin 192) (obj : Nat) (c : Bool) (d : Dev) : (d.setCond src obj c).chart = d.chart := (setCond_only src obj c d).elim fun _ h => (congrArg Dev.chart h).trans rfl
@[simp] theorem setCond_buoys (src : Fin 192) (obj : Nat) (c : Bool) (d : Dev) : (d.setCond src obj c).buoys = d.buoys := (setCond_only src obj c d).elim fun _ h => (congrArg Dev.buoys h).trans rfl
@[simp] theorem setCond_pairs (src : Fin 192) (obj : Nat) (c : Bool) (d : Dev) : (d.setCond src obj c).pairs = d.pairs := (setCond_only src obj c d).elim fun _ h => (congrArg Dev.pairs h).trans rfl
@[simp] theorem setCond_cycle (src : Fin 192) (obj : Nat) (c : Bool) (d : Dev) : (d.setCond src obj c).cycle = d.cycle := (setCond_only src obj c d).elim fun _ h => (congrArg Dev.cycle h).trans rfl
@[simp] theorem setCond_chans (src : Fin 192) (obj : Nat) (c : Bool) (d : Dev) : (d.setCond src obj c).chans = d.chans := (setCond_only src obj c d).elim fun _ h => (congrArg Dev.chans h).trans rfl
@[simp] theorem setCond_lans (src : Fin 192) (obj : Nat) (c : Bool) (d : Dev) : (d.setCond src obj c).lans = d.lans := (setCond_only src obj c d).elim fun _ h => (congrArg Dev.lans h).trans rfl
@[simp] theorem setCond_outs (src : Fin 192) (obj : Nat) (c : Bool) (d : Dev) : (d.setCond src obj c).outs = d.outs := (setCond_only src obj c d).elim fun _ h => (congrArg Dev.outs h).trans rfl
@[simp] theorem setCond_vouts (src : Fin 192) (obj : Nat) (c : Bool) (d : Dev) : (d.setCond src obj c).vouts = d.vouts := (setCond_only src obj c d).elim fun _ h => (congrArg Dev.vouts h).trans rfl
@[simp] theorem setCond_ts (src : Fin 192) (obj : Nat) (c : Bool) (d : Dev) : (d.setCond src obj c).ts = d.ts := (setCond_only src obj c d).elim fun _ h => (congrArg Dev.ts h).trans rfl
@[simp] theorem setCond_ports (src : Fin 192) (obj : Nat) (c : Bool) (d : Dev) : (d.setCond src obj c).ports = d.ports := (setCond_only src obj c d).elim fun _ h => (congrArg Dev.ports h).trans rfl
@[simp] theorem setCond_txts (src : Fin 192) (obj : Nat) (c : Bool) (d : Dev) : (d.setCond src obj c).txts = d.txts := (setCond_only src obj c d).elim fun _ h => (congrArg Dev.txts h).trans rfl
@[simp] theorem setCond_clients (src : Fin 192) (obj : Nat) (c : Bool) (d : Dev) : (d.setCond src obj c).clients = d.clients := (setCond_only src obj c d).elim fun _ h => (congrArg Dev.clients h).trans rfl
@[simp] theorem setCond_pilot (src : Fin 192) (obj : Nat) (c : Bool) (d : Dev) : (d.setCond src obj c).pilot = d.pilot := (setCond_only src obj c d).elim fun _ h => (congrArg Dev.pilot h).trans rfl
@[simp] theorem setCond_tide (src : Fin 192) (obj : Nat) (c : Bool) (d : Dev) : (d.setCond src obj c).tide = d.tide := (setCond_only src obj c d).elim fun _ h => (congrArg Dev.tide h).trans rfl


end Sys2Proof.Machine
end

