-- ==== Sys2Proof/Tests/Slice0.lean ====
section
/-! SUPPORT. Tests: ill-formed operands for each check, a witness of the hypotheses of each statement, and steps on small states. -/

namespace Sys2Proof.Machine

set_option Elab.async false

/-! ### States for the tests -/

/-- The device after its boot, every block ready, nothing configured. -/
def readyDev : Dev :=
  { Dev.reset with
    top := { Top.reset with ready := true, run := true, stage := 7, blk := BitVec.allOnes 17 },
    clk := { Clk.reset with sup := .run, bcn := true, bpll := true, xo := true, aondiv := true, cpll := true, freqFinal := true },
    pilot := { Pilot.reset with microcode := true } }

/-- The ready device after a change. -/
def withDev (f : Dev → Dev) : State := { State.reset with dev := f readyDev }

/-- A command of the Keeper queue, with the words of its parameter block. -/
def kcmd (ws : List Word) : Cmd := ⟨.keeper, 1, 0, false, ws ++ List.replicate (12 - ws.length) 0⟩

/-- The device with a command as the one descriptor fetched of its source, and with its external block if it has one. -/
def offer (op : Nat) (c : Cmd) (d : Dev) : Dev :=
  let w := [word (op + bitAt 8 c.ext + 65536 * c.seq.toNat), word (if c.ext then 4 * c.words.length else 0), 0, 0] ++
    (if c.ext then List.replicate 12 0 else c.words)
  let d := match c.src with
    | .keeper => d.modKeeper fun k => { k with cqFetched := [(c.index.toNat, w)] }
    | .cq q => d.modRing (cqRing q) fun g => { g with fetched := [(c.index.toNat, w)] }
  if c.ext then d.modHost fun h => { h with ext := h.ext.set (srcIdx c.src) (some c.words) } else d

/-- Whether the arbiter takes the command and its parameters pass, on the device that `f` makes of the one it is offered to. -/
def servedOn (op : Nat) (c : Cmd) (used : List (Nat × Nat × Nat)) (bad : Dev → List Nat) (d : Dev) (f : Dev → Bool) : Bool :=
  let e := offer op c d
  e.takes op c && paramFail c used (bad e) = none && f e

/-- Whether a plain full write passes, as a Bool. -/
def admitsB (d : Dev) (i : Iface) (a : Nat) (v : Word) : Bool :=
  decide (a % 4 = 0) && (d.guardOf i).isNone && (d.steps123 i a true).isNone && (privKind a).isNone &&
    (match regDesc a with
     | some r => decide (r.kind = .plain) && (d.steps45 i a r v).isNone && !d.ignores a && !d.step7 a r v
     | none => false)

theorem admits_of {d : Dev} {i : Iface} {a : Nat} {v : Word} (h : admitsB d i a v = true) : d.admits i a v := by
  unfold admitsB at h
  cases hr : regDesc a with
  | none => simp [hr] at h
  | some r =>
    simp only [hr, Bool.and_eq_true, decide_eq_true_eq, Option.isNone_iff_eq_none, Bool.not_eq_true'] at h
    exact ⟨h.1.1.1.1, h.1.1.1.2, h.1.1.2, h.1.2, r, hr, h.2.1.1.1, h.2.1.1.2, h.2.1.2, h.2.2⟩

/-- The same for a guarded write. -/
def guardedB (d : Dev) (i : Iface) (a : Nat) (v : Word) : Bool :=
  decide (a % 4 = 0) && (d.guardOf i).isNone && (d.steps123 i a true).isNone && (d.steps123 i (a + 4) true).isNone &&
    (privKind a).isNone && (privKind (a + 4)).isNone &&
    (match regDesc (a + 4) with | some c => decide (c.kind = .complement) | none => false) &&
    (match regDesc a with
     | some r => decide (r.kind = .guard) && (d.steps45 i a r v).isNone && d.step6 a v && !d.step7 a r v
     | none => false)

theorem guarded_of {d : Dev} {i : Iface} {a : Nat} {v : Word} (h : guardedB d i a v = true) : d.admitsGuarded i a v := by
  unfold guardedB at h
  cases hr : regDesc a with
  | none => simp [hr] at h
  | some r =>
    cases hc : regDesc (a + 4) with
    | none => simp [hr, hc] at h
    | some c =>
      simp only [hr, hc, Bool.and_eq_true, decide_eq_true_eq, Option.isNone_iff_eq_none, Bool.not_eq_true'] at h
      exact ⟨h.1.1.1.1.1.1.1, h.1.1.1.1.1.1.2, h.1.1.1.1.1.2, h.1.1.1.1.2, h.1.1.1.2, h.1.1.2, ⟨c, hc, h.1.2⟩, r, hr, h.2.1.1.1,
        h.2.1.1.2, h.2.1.2, h.2.2⟩

/-! ### Ill-formed operands -/

theorem test_wf_triple : Triple.wf ⟨2 ^ 48, 0, 0⟩ = false ∧ Triple.wf ⟨0, 1000000000, 0⟩ = false ∧ Triple.wf ⟨0, 0, 65536⟩ = false ∧
    Triple.wf ⟨2 ^ 48 - 1, 999999999, 65535⟩ = true := by decide

theorem test_wf_cmd : Instr.wf (.nop ⟨.keeper, 0, 0, false, []⟩) = false ∧ Instr.wf (.nop ⟨.keeper, 0, 0, true, []⟩) = false ∧
    Instr.wf (.nop ⟨.keeper, 0, 0, true, List.replicate 1025 0⟩) = false ∧ Instr.wf (.nop (kcmd [])) = true := by decide +kernel

theorem test_wf_fwChunk : Instr.wf (.fwChunk (kcmd []) ⟨[], none⟩) = false ∧
    Instr.wf (.fwChunk { kcmd [] with src := .cq 0 } ⟨List.replicate 4097 0, none⟩) = false ∧
    Instr.wf (.fwChunk { kcmd [] with src := .cq 0 } ⟨[], none⟩) = true ∧ Instr.wf (.nvRawPage (kcmd []) ⟨List.replicate 257 0, none⟩) = false := by
  decide +kernel

theorem test_wf_spi : Instr.wf (.spiRegWrite 0 []) = false ∧ Instr.wf (.spiRegWrite 0 (List.replicate 257 0)) = false ∧
    Instr.wf (.spiMemWrite 0 []) = false ∧ Instr.wf (.spiMemWrite 0 (List.replicate 257 0)) = false ∧
    Instr.wf (.spiTimeout (.regRead 0 257)) = false ∧ Instr.wf (.spiTimeout (.regWrite 0 (List.replicate 257 0))) = false ∧
    Instr.wf (.spiCsRelease (.memRead 0 257)) = false ∧ Instr.wf (.spiCsRelease (.memWrite 0 (List.replicate 257 0))) = false := by
  decide +kernel

theorem test_wf_operands : Instr.wf (.timingEvent 31 ⟨0, 0, some ⟨0, 0, 0, 0, false, false, false⟩⟩) = false ∧
    Instr.wf (.aesBlock 0 ⟨192, 0, true, 0, []⟩) = false ∧ Instr.wf (.sensorSample ⟨[], List.replicate 12 none, none⟩) = false ∧
    Instr.wf (.sensorSample ⟨List.replicate 8 none, [], none⟩) = false ∧ Instr.wf (.descriptorFetch 0 (.data [[]])) = false ∧
    Instr.wf (.extBlockFetch .keeper (.data [])) = false ∧ Instr.wf (.debugUnlock [] (List.replicate 96 0)) = false ∧
    Instr.wf (.debugUnlock (List.replicate 96 0) []) = false := by decide +kernel

theorem test_wf_bus : Instr.wf (.registerWrite .spi 0 (.wide 0) 255) = false ∧ Instr.wf (.registerWrite .pcie 0 (.bytes []) 0) = false ∧
    Instr.wf (.registerWrite .pcie 0x3FFFF (.bytes [0, 0]) 0) = false ∧ Instr.wf (.registerWrite .keeper 0 (.bytes [0]) 0) = false ∧
    Instr.wf (.registerRead .jtag .bar2 0 15) = false ∧ Instr.wf (.registerRead .pcie (.bar4 65) 0 0) = false ∧
    Instr.wf (.spiRegRead (.unknown 0x0B) 0) = false ∧ Instr.wf (.spiRegRead (.unknown 0x03) 0) = true := by decide +kernel

/-- A tide frame of this device's neighbour. -/
def tideFrame : TideFrame :=
  ⟨1, true, false, false, false, false, 1, 100, 7, 0, 7, [7, 0, 0, 0, 0, 0, 0, 0], ⟨0, 0, 0⟩, 0, 0, 0, 0, List.replicate 16 0, 0, 0, 0,
    0, 0, 0, [], 0⟩

theorem test_wf_tideFrame : tideFrame.wf = true ∧ { tideFrame with path := List.replicate 9 0 }.wf = false ∧
    { tideFrame with chStates := [] }.wf = false ∧ { tideFrame with msg := List.replicate 65 0 }.wf = false ∧
    { tideFrame with label := ⟨0, 1000000000, 0⟩ }.wf = false := by decide +kernel

/-! ### Witnesses: states and operands that meet the hypotheses of the statements -/

/-- The state with a command in front. -/
def withFront (c : Instr) (f : Dev → Dev) : State := { withDev f with pending := [c] }

theorem test_witness_StepRunsFrontCommand : (withFront .alarmPulseEnd id).pending = .alarmPulseEnd :: [] ∧ (withDev id).pending = [] :=
  ⟨rfl, rfl⟩

theorem test_witness_CommandsProceed : (∀ a n, Instr.alarmPulseEnd ≠ .spiMemRead a n) ∧ (∀ a bs, Instr.alarmPulseEnd ≠ .spiMemWrite a bs) ∧
    (∀ p, Instr.alarmPulseEnd ≠ .spiTimeout p) ∧ (∀ p, Instr.alarmPulseEnd ≠ .spiCsRelease p) ∧
    step (withFront .alarmPulseEnd id) = .next (withDev fun d => { d with watch := { d.watch with pulseTo := none } }) :=
  ⟨nofun, nofun, nofun, nofun, rfl⟩

theorem test_witness_StepKeepsMemoryCanonical : (withFront .alarmPulseEnd id).wf = true ∧
    step (withFront .alarmPulseEnd id) = .next (withDev id) := ⟨by decide +kernel, rfl⟩

theorem test_witness_IdleLetsTimePass : (withDev id).pending = [] ∧ (withDev id).dev.watch.reached = [] := ⟨rfl, rfl⟩

/-- Lantern 0 in a state. -/
def lanIn (st : LanState) : State := withDev fun d => d.modLan 0 fun x => { x with st := st }

theorem test_witness_LanternTransitions : ((lanIn .calibrating).dev.lan 0).st = .calibrating ∧
    ((lanIn .acquiring).dev.lan 0).st = .acquiring ∧ bit ((lanIn .acquiring).dev.lanCfg 0) 23 = true ∧
    bit (((lanIn .acquiring).dev.wrF (lanOff 0) 23 1 0).lanCfg 0) 23 = false ∧ ((lanIn .locked).dev.lan 0).st = .locked ∧
    ((lanIn .unlocked).dev.lan 0).st = .unlocked := by decide +kernel

/-- Output 47 with a pin state, enabled at Lantern 0, which is LOCKED and steered. -/
def outIn (pin : PinState) : State := withDev fun d =>
  (((d.wr (outOff 47) (word (2147483648 + 33554432))).wrF (lanOff 0) 27 1 1).modLan 0 fun x => { x with st := .locked }).modOut 47 fun x =>
    { x with pin := pin, mLan := false, coarse := 5, fine := 1 }

theorem test_witness_OutputStartStopAndPhase : ((outIn .starting).dev.out 47).pin = .starting ∧
    (outIn .starting).dev.outWants 47 = true ∧ ((outIn (.stopping true)).dev.out 47).pin = .stopping true ∧
    ((outIn (.stopping false)).dev.out 47).pin = .stopping false ∧ ((outIn .running).dev.out 47).pin = .running ∧
    ((outIn .running).dev.out 47).coarse = 5 ∧ (outIn .running).dev.rdF (outOff 47 + 0x14) 8 24 = 0 := by decide +kernel

/-- Video output 7 with a pin state, enabled with format 1 on a Lantern whose rate is exact. -/
def voutIn (pin : PinState) (tr : Bool) : State := withDev fun d =>
  d.modVout 7 fun x => { x with pin := pin, mLan := false, transition := tr }

theorem test_witness_VideoOutputs : ((voutIn .starting false).dev.vout 7).pin = .starting ∧
    ((voutIn (.stopping true) false).dev.vout 7).pin = .stopping true ∧ ((voutIn .running true).dev.vout 7).pin.on = true ∧
    ((voutIn .running true).dev.vout 7).transition = true := by decide +kernel

/-- A snapshot of retention RAM. -/
def snap : Snapshot := readyDev.snapshotNow 125000

theorem test_witness_BootStages : State.reset.dev.clk.sup = .hold ∧
    ({ Dev.reset with pwr := { Pwr.reset with snapshot := some snap } } : Dev).pwr.snapshot.isSome = true ∧
    ({ Dev.reset with clk := { Clk.reset with sup := .boot } } : Dev).clk.sup ≠ .hold ∧
    ({ Dev.reset with clk := { Clk.reset with sup := .boot } } : Dev).clk.bpll = false ∧
    ({ Dev.reset with top := { Top.reset with stage := 2 } } : Dev).top.stage = 2 ∧
    ({ Dev.reset with top := { Top.reset with stage := 3 }, chart := { Chart.reset with scanning := true } } : Dev).chart.scanning = true ∧
    (let d := readyDev.modChart fun c => { c with scanning := true }
     d.chart.scanning = true ∧ d.top.stage ≠ 3 ∧ d.top.ready = true) := by
  decide +kernel

/-- With both slots blank the preferred slot fails its first check; that a slot passes rests on the free values of log entry 4. -/
theorem test_witness_ImageCheckEndsBoot : ∀ b : Bool,
    let d : Dev := { Dev.reset with top := { Top.reset with stage := 4, slotB := b } }
    d.top.stage = 4 ∧ d.top.slotB = b ∧ d.imageChecks b = 0 ∧ d.fw.prefB = false := by decide +kernel

theorem test_witness_DeviceResets : (readyDev.pwr.inAnchor = false ∧ readyDev.autoAnchor = false ∧ readyDev.clk.sup ≠ .hold ∧
    readyDev.clk.xo = true) ∧ ({ readyDev with pwr := { readyDev.pwr with inAnchor := true } } : Dev).pwr.inAnchor = true ∧
    (let d := (readyDev.modPwr fun p => { p with pf := .held, vbakOk := true, snapshot := some snap }).wrF 0x020020 31 1 1
     d.pwr.inAnchor = false ∧ d.autoAnchor = true ∧ d.pwr.snapshot.isSome = true) ∧
    (let d := (readyDev.modPwr fun p => { p with pf := .held, vbakOk := true }).wrF 0x020020 31 1 1
     d.pwr.inAnchor = false ∧ d.autoAnchor = true ∧ d.pwr.snapshot = none) ∧
    (Dev.reset.clk.sup = .hold ∧ Dev.reset.clk.bstop = false) ∧
    (let d := Dev.reset.modClk fun c => { c with bstop := true }
     d.clk.sup = .hold ∧ d.clk.bstop = true) ∧
    (let d : Dev := { readyDev with clk := { readyDev.clk with xo := false } }
     d.clk.sup ≠ .hold ∧ d.clk.xo = false) ∧
    (readyDev.modWatch fun w => { w with resetPending := some 26 }).watch.resetPending = some 26 := by decide +kernel

/-- A good window at the frequency that FREQ names. -/
def goodWindow : XoWindow := ⟨500, false, readyDev.fXo, 8000⟩
/-- XO not qualified, `n` good windows behind. -/
def xoWait (n : Nat) : Dev := { readyDev with clk := { readyDev.clk with sup := .boot, xo := false, xoTimer := true, windows := List.replicate n goodWindow } }

theorem test_witness_Clocks : ((xoWait 15).clk.sup ≠ .hold ∧ (xoWait 15).clk.xo = false ∧ (xoWait 15).clk.freqFinal = true ∧
    (xoWait 15).windowOk goodWindow = true ∧ windowsAgree ((goodWindow :: (xoWait 15).clk.windows).take 16) = true) ∧
    ((xoWait 14).windowOk goodWindow = true ∧ windowsAgree ((goodWindow :: (xoWait 14).clk.windows).take 16) = false) ∧
    (xoWait 0).windowOk { goodWindow with ampMv := 399 } = false ∧
    (let d := (xoWait 0).modClk fun c => { c with freqFinal := false }
     d.clk.sup ≠ .hold ∧ d.clk.xo = false ∧ d.clk.freqFinal = false) ∧
    (readyDev.clk.xo = true ∧ true = decide ((29439 : Nat) < 29440 ∨ 34560 < 29439) ∧ (readyDev.source 9).cond = false ∧
      false = decide ((29440 : Nat) < 29440 ∨ 34560 < 29440)) ∧
    ((xoWait 0).clk.xoTimer = true ∧ (xoWait 0).clk.sup = .boot ∧ (xoWait 0).clk.xo = false) ∧
    (readyDev.modClk fun c => { c with fastSw := some true }).switchOf .fast = some true := by decide +kernel

/-- The power manager after a change. -/
def pwrWith (f : Pwr → Pwr) : Dev := readyDev.modPwr f

theorem test_witness_OperatingPoints : (pwrWith fun p => { p with avs := .upAck 3 }).pwr.avs = .upAck 3 ∧
    (let d := pwrWith fun p => { p with avs := .downAck, inForce := 0 }
     d.pwr.avs = .downAck ∧ d.oppWanted = d.pwr.inForce.toNat ∧ d.pwr.oppCmd = none) ∧
    (let d := pwrWith fun p => { p with avs := .initAck, inForce := 0, oppCmd := some (.keeper, ⟨0x90, 1, 0, 0, none, false⟩) }
     d.pwr.avs = .initAck ∧ d.oppWanted = d.pwr.inForce.toNat ∧ d.pwr.oppCmd = some (.keeper, ⟨0x90, 1, 0, 0, none, false⟩)) ∧
    (let d := (pwrWith fun p => { p with avs := .downAck, inForce := 0 }).wr 0x020000 3
     d.pwr.avs = .downAck ∧ d.pwr.inForce.toNat < d.oppWanted) ∧
    (let d := (pwrWith fun p => { p with avs := .downAck, inForce := 3 }).wr 0x020000 2
     d.pwr.avs = .downAck ∧ d.oppWanted < d.pwr.inForce.toNat) ∧
    (let d := (pwrWith fun p => { p with avs := .upSettle 3 }).wr 0x020000 3
     d.pwr.avs = .upSettle 3 ∧ d.oppWanted = (3 : BitVec 2).toNat ∧ d.pwr.oppCmd = none) ∧
    (let d := (pwrWith fun p => { p with avs := .upSettle 1 }).wr 0x020000 3
     (1 : BitVec 2).toNat < d.oppWanted) ∧
    (let d := (pwrWith fun p => { p with avs := .upSettle 1 }).wr 0x020000 0
     d.oppWanted < (1 : BitVec 2).toNat) ∧
    (pwrWith fun p => { p with avs := .upAck 1 }).pwr.avs.waits = true ∧
    (let d := pwrWith fun p => { p with tjMax := 6721, hot := false }
     6720 < d.pwr.tjMax ∧ d.pwr.hot = false ∧ d.pwr.cap ≠ 0) ∧
    (let d := pwrWith fun p => { p with tjMax := 6721, hot := true, cap := 0 }
     6720 < d.pwr.tjMax ∧ d.pwr.hot = true ∧ d.pwr.cap = 0) ∧
    (let d := pwrWith fun p => { p with tjMax := 6721, hot := false, cap := 0 }
     6720 < d.pwr.tjMax ∧ d.pwr.hot = false ∧ d.pwr.cap = 0) ∧
    (pwrWith fun p => { p with tjMax := 6720 }).pwr.tjMax ≤ 6720 ∧
    (let d := pwrWith fun p => { p with hot := true, cap := 1 }
     d.pwr.hot = true ∧ d.pwr.cap ≠ 0) ∧
    (let d := pwrWith fun p => { p with cool := true, cap := 2 }
     d.pwr.cool = true ∧ d.pwr.cap ≠ 3) := by decide +kernel

/-- The store after a change. -/
def chartWith (f : Chart → Chart) : Dev := readyDev.modChart f

theorem test_witness_PowerFailure : (readyDev.clk.sup ≠ .hold ∧ readyDev.pwr.pf = .normal) ∧
    (pwrWith fun p => { p with pf := .resuming }).pwr.pf = .resuming ∧ (pwrWith fun p => { p with pf := .shedding }).pwr.pf = .shedding ∧
    (pwrWith fun p => { p with pf := .held }).pwr.pf = .held ∧
    (let d := chartWith fun c => { c with commit := some .timer, appendAt := some 1, nextSeq := 1 }
     d.chart.commit = some .timer ∧ d.unscanned = false ∧ d.chart.scanFault = false ∧ d.commitPlan.2 = true ∧
       d.commitHard = false ∧ d.lineHeld = false) ∧
    (let d := (chartWith fun c => { c with
       commit := some .timer, tallyWait := some (.keeper, ⟨0x74, 1, 0, 0, none, false⟩, 31, 65535) })
     d.lineHeld = true ∧ d.commitHard = false ∧ d.chart.commit ≠ none) ∧
    (let d := (chartWith fun c => { c with commit := some .powerFail, nextSeq := 1 }).modPwr fun p => { p with pf := .shedding }
     d.chart.commit = some .powerFail ∧ d.unscanned = false ∧ d.commitHard = true ∧ d.pwr.pf = .shedding) ∧
    (let d := (chartWith fun c => { c with commit := some .anchor, nextSeq := 1 }).modPwr fun p =>
       { p with anchorCmd := some (.keeper, ⟨0x91, 1, 0, 0, none, false⟩, true) }
     d.commitHard = true ∧ d.pwr.anchorCmd.isSome = true) ∧
    (let d := chartWith fun c => { c with
       commit := some (.command (.cq 0) ⟨0x72, 1, 0, 0, none, false⟩), appendAt := some 1, nextSeq := 1 }
     d.chart.commit = some (.command (.cq 0) ⟨0x72, 1, 0, 0, none, false⟩) ∧ d.commitPlan.2 = true) ∧
    (let d := chartWith fun c => { c with
       commit := some (.full (.cq 0) ⟨0x70, 1, 0, 0, none, false⟩ ⟨0x0100, 0, true, false, false, []⟩), appendAt := some 1, nextSeq := 1 }
     d.chart.commit = some (.full (.cq 0) ⟨0x70, 1, 0, 0, none, false⟩ ⟨0x0100, 0, true, false, false, []⟩) ∧ d.commitPlan.2 = true) ∧
    (let d := chartWith fun c => { c with commit := some .powerFail, scanFault := true }
     d.chart.commit = some .powerFail ∧ d.chart.scanning = false ∧ d.chart.scanFault = true) := by decide +kernel

theorem test_witness_AnchorMode : (let d := pwrWith fun p => { p with snapWait := true }
     d.pwr.snapWait = true ∧ d.clk.xo = true ∧ d.pwr.anchorCmd = none) ∧
    (let d := pwrWith fun p => { p with snapWait := true, anchorCmd := some (.keeper, ⟨0x91, 1, 0, 0, none, false⟩, true) }
     d.pwr.snapWait = true ∧ d.clk.xo = true ∧ d.pwr.anchorCmd = some (.keeper, ⟨0x91, 1, 0, 0, none, false⟩, true)) ∧
    (let d := (pwrWith fun p => { p with pf := .held, vbakOk := true, snapshot := some snap }).wrF 0x020020 31 1 1
     d.autoAnchor = true ∧ d.pwr.snapshot.isSome = true) ∧
    (let d := (pwrWith fun p => { p with pf := .held, vbakOk := true }).wrF 0x020020 31 1 1
     d.autoAnchor = true ∧ d.pwr.snapshot = none) ∧
    (let d := pwrWith fun p => { p with inAnchor := true, xoCounted := true }
     d.pwr.inAnchor = true ∧ d.pwr.xoCounted = true) ∧
    (let d := pwrWith fun p => { p with snapshot := some snap }
     d.clk.sup ≠ .hold ∧ d.pwr.snapshot = some snap) ∧
    (let d := pwrWith fun p => { p with restoreFrom := some { snap with ts := snap.ts.set 0 { snap.ts.get 0 with wasSet := true } },
                                        restored := true, restoreTodo := 1 }
     d.pwr.restoreFrom.isSome = true ∧ d.clk.xo = true ∧ d.pwr.restored = true ∧
       d.pwr.restoreTodo.getLsbD 0 = true ∧ d.tsChan 0 = 0 ∧ (d.tsc 0).started = false ∧
       (d.pwr.restoreFrom.map fun x => (x.ts.get 0).wasSet) = some true) := by decide +kernel

/-- The device in set-up. -/
def setUp : Dev := { readyDev with top := { readyDev.top with run := false, stage := 6 } }

/-- The reset words of two neighbouring registers as one 64-bit value. -/
def wideVal : Nat := (resetWord (fltOff 48)).toNat + 4294967296 * (resetWord (fltOff 48 + 4)).toNat

theorem test_witness_RegisterWriteTakesEffect : setUp.admits .pcie (chanOff 15) (resetWord (chanOff 15)) ∧
    (∃ r q, regDesc (fltOff 48) = some r ∧ regDesc (fltOff 48 + 4) = some q ∧
      setUp.admits .pcie (fltOff 48) (word (wideVal % 4294967296)) ∧
      (setUp.take (fltOff 48) r 0 (word (wideVal % 4294967296))).admits .pcie (fltOff 48 + 4) (word (wideVal / 4294967296))) ∧
    (262143 + [(1 : Byte)].length ≤ 262144) ∧
    (let d := readyDev.setGuard .pcie (some ⟨0x010010, 3⟩)
     d.guardOf .pcie = some ⟨0x010010, 3⟩ ∧ ¬ ((15 : BitVec 4) = 15 ∧ (0x01001C : Nat) = 0x010010 + 4 ∧ (0x01001C : Nat) % 4 = 0) ∧
       (d.guardBreak .pcie).rd (0x01001C / 4 * 4) = d.rd (0x01001C / 4 * 4)) ∧
    ((0x3083FC : Nat) % 4 = 0 ∧ privKind 0x3083FC = some .memory ∧ readyDev.admitsKeeper 0x3083FC) := by
  refine ⟨admits_of (by decide +kernel), ?_, by decide, by decide +kernel, by decide, by decide +kernel, ?_⟩
  · have h : ((regDesc (fltOff 48)).bind fun r => (regDesc (fltOff 48 + 4)).map fun _ =>
        admitsB setUp .pcie (fltOff 48) (word (wideVal % 4294967296)) &&
          admitsB (setUp.take (fltOff 48) r 0 (word (wideVal % 4294967296))) .pcie (fltOff 48 + 4) (word (wideVal / 4294967296))) = some true := by
      decide +kernel
    cases hr : regDesc (fltOff 48) with
    | none => simp [hr] at h
    | some r =>
      cases hq : regDesc (fltOff 48 + 4) with
      | none => simp [hr, hq] at h
      | some q =>
        simp only [hr, hq, Option.bind_some, Option.map_some, Option.some.injEq, Bool.and_eq_true] at h
        exact ⟨r, q, rfl, rfl, admits_of h.1, admits_of h.2⟩
  · unfold Dev.admitsKeeper
    decide +kernel

/-- Whether a plain register's full write is discarded at step 1 to 3, at 4 or 5, or at 7, as Bools. -/
def discards (d : Dev) (i : Iface) (a : Nat) (v : Word) : Bool × Bool × Bool :=
  match regDesc a with
  | some r => (r.kind = .plain && !d.ignores a && (d.steps123 i a true).isSome, r.kind = .plain && (d.steps45 i a r v).isSome, d.step7 a r v)
  | none => (false, false, false)

theorem test_witness_RegisterWriteIsDiscarded : (chanOff 0) % 4 = 0 ∧ readyDev.guardOf .pcie = none ∧ privKind (chanOff 0) = none ∧
    (discards { readyDev with top := { readyDev.top with blk := 0 } } .pcie (chanOff 0) 0).1 = true ∧
    (discards readyDev .pcie 0x000000 0).2.1 = true ∧ (discards setUp .pcie (chanOff 0) (BitVec.allOnes 32)).2.2 = true ∧
    bit (readyDev.rd 0x050004) 31 = false ∧ bit ((readyDev.wrF 0x050004 31 1 1).rd 0x050004) 31 = true ∧
    ((7 : BitVec 4) ≠ 15 ∧ readyDev.guardOf .pcie = none ∧ readyDev.steps123 .pcie (chanOff 0 / 4 * 4) true = none) := by decide +kernel

theorem test_witness_GuardArmsAndDisarms : (0x300120 : Nat) % 4 = 0 ∧ readyDev.guardOf .jtag = none ∧
    readyDev.steps123 .jtag 0x300120 true = none ∧ privKind 0x300120 = none ∧ ((regDesc 0x300120).map (·.kind)) = some .guard ∧
    ((regDesc 0x300120).bind fun r => setUp.steps45 .jtag 0x300120 r 3) = none ∧
    (setUp.setGuard .jtag (some ⟨0x300120, 3⟩)).guardOf .jtag = some ⟨0x300120, 3⟩ := by decide +kernel

theorem test_witness_ComplementAccesses : (0x300124 : Nat) % 4 = 0 ∧ ((regDesc 0x300124).map (·.kind)) = some .complement ∧
    privKind 0x300124 = none ∧ readyDev.steps123 .pcie 0x300124 true = none ∧ readyDev.guardOf .pcie = none ∧
    readyDev.steps123 .pcie 0x300124 false = none ∧ bit (readyDev.rd 0x050004) 31 = false ∧
    (readyDev.setGuard .pcie (some ⟨0x010010, 3⟩)).steps123 .pcie 0x300124 true = none := by decide +kernel

/-- A Keeper in AUTOPILOT that has restarted its watchdog. -/
def autoDev : Dev := setUp.modSup fun x => { x with ap := .autopilot, running := true, kicked := true }

theorem test_witness_GuardedCommandsOfTheBlocks : readyDev.admitsGuarded .pcie 0x010010 3 ∧
    (readyDev.modWatch fun w => { w with safe := true }).admitsGuarded .pcie 0x030010 1 ∧
    readyDev.admitsGuarded .pcie 0x030018 (word (256 + 191)) ∧
    (chartWith fun c => { c with tokens := 64 }).admitsGuarded .pcie 0x040030 54 ∧
    readyDev.admitsGuarded .pcie (chanOff 15 + 0xC10) (word (128 + 63)) ∧ readyDev.admitsGuarded .pcie (chanOff 0 + 0xC10) 0 ∧
    bit (word (256 + 191)) 8 = true ∧ fld (word (256 + 191)) 0 8 < 192 :=
  ⟨guarded_of (by decide +kernel), guarded_of (by decide +kernel), guarded_of (by decide +kernel), guarded_of (by decide +kernel),
    guarded_of (by decide +kernel), guarded_of (by decide +kernel), by decide +kernel, by decide +kernel⟩

theorem test_witness_GuardedCommandsOfTheKeeper : autoDev.admitsGuarded .pcie 0x300108 1 ∧
    (setUp.modSup fun x => { x with ap := .halted }).admitsGuarded .pcie 0x300108 2 ∧ setUp.keeper.noImage = false ∧
    setUp.admitsGuarded .pcie 0x300120 (word ((1 : BitVec 2).toNat * 16 + 1)) ∧
    ({ setUp with otp := { setUp.otp with keys := Vector.replicate 3 (.active, []) } } : Dev).admitsGuarded .pcie 0x300120
      (word ((2 : BitVec 2).toNat * 16 + 2)) ∧ setUp.admitsGuarded .pcie 0x300120 3 :=
  ⟨guarded_of (by decide +kernel), guarded_of (by decide +kernel), rfl, guarded_of (by decide +kernel), guarded_of (by decide +kernel),
    guarded_of (by decide +kernel)⟩

theorem test_witness_RegisterCommands : (autoDev.admits .keeper 0x300100 0x4B45 ∧ autoDev.keeper.sup.running = true ∧
    autoDev.fw.state ≠ .trial) ∧ (readyDev.wrF 0x050004 31 1 1).admits .spi 0x05000C 1 ∧ setUp.admits .pcie 0x000008 1 ∧
    (readyDev.admits .pcie 0x2C0000 1 ∧ readyDev.host.resetCause = none) ∧ setUp.admits .pcie 0x010030 0 ∧
    readyDev.admits .pcie 0x020028 1 ∧ (readyDev.admits .pcie (tsOff 3 + 0x20) 0x100 ∧ bit 0x100 8 = true) ∧
    ((readyDev.modBuoy 61 fun b => { b with hsPhase := true, hsFfo := true }).wr (buoyOff 61) (word (11 * 268435456))).admits .pcie
      (buoyOff (61 + (0 : Fin 3).val) + 0x114) 1 ∧
    (readyDev.ringEn 25 = false ∧ readyDev.admits .pcie (ringOff 25 + 8) (setFld (readyDev.rd (ringOff 25 + 8)) 31 1 1)) ∧
    readyDev.admits .pcie (ringOff 0 + 8) (setFld (readyDev.rd (ringOff 0 + 8)) 31 1 0) :=
  ⟨⟨admits_of (by decide +kernel), rfl, by decide⟩, admits_of (by decide +kernel), admits_of (by decide +kernel),
    ⟨admits_of (by decide +kernel), rfl⟩, admits_of (by decide +kernel), admits_of (by decide +kernel),
    ⟨admits_of (by decide +kernel), by decide⟩, admits_of (by decide +kernel), ⟨by decide +kernel, admits_of (by decide +kernel)⟩,
    admits_of (by decide +kernel)⟩

theorem test_witness_FaultRaise : readyDev.top.ready = true ∧ readyDev.blockReady 3 = true ∧ fld 0x1B0 9 23 = 0 ∧ bit 0x1B0 8 = true ∧
    176 ≤ fld 0x1B0 0 8 ∧ fld 0x1BF 0 8 < 192 ∧ readyDev.guardOf .keeper = none ∧ fld 0x1AF 0 8 < 176 ∧ 192 ≤ fld 0x1C0 0 8 ∧
    bit (readyDev.rd 0x050004) 31 = false := by decide +kernel

theorem test_witness_ViolationLogLimit : (readyDev.modChk fun c => { c with logged := 1000 }).chk.logSecond = readyDev.clk.aonUs / 1000000 ∧
    (readyDev.modChk fun c => { c with logged := 999 }).chk.logged < 1000 := by decide +kernel

theorem test_witness_KeeperQueueCommands : (readyDev.admitsKeeper 0x308800 ∧ (15 : Word).toNat < 16) ∧
    (readyDev.admitsKeeper 0x308810 ∧ ciOk readyDev.keeper.evq 256 0 = true ∧ ciOk readyDev.keeper.evq 256 256 = false) ∧
    (readyDev.admitsKeeper 0x308814 ∧ ciOk readyDev.keeper.anq 64 0 = true) ∧
    (readyDev.admitsKeeper 0x308818 ∧ ciOk readyDev.keeper.flq 64 0 = true) ∧
    ((readyDev.wr 0x30E000 0xC0).admitsKeeper 0x30E01C ∧ 0xC0 ≤ (readyDev.wr 0x30E000 0xC0).rdF 0x30E000 0 8) := by
  unfold Dev.admitsKeeper
  decide +kernel

theorem test_witness_Reads : (0x000000 : Nat) % 4 = 0 ∧ readyDev.steps123 .jtag 0 false = none ∧ readyDev.steps123 .spi 0x208000 false = none ∧
    (readyDev.modTxts fun x => { x with queue := [⟨0, 7, [1, 2, 3, 4]⟩] }).txts.queue = ⟨0, 7, [1, 2, 3, 4]⟩ :: [] ∧
    (readyDev.steps123 .pcie (chanOff 15) false = none ∧ readyDev.steps123 .pcie (chanOff 15 + 4) false = none) ∧ 262143 + 1 ≤ 262144 ∧
    readyDev.txts.queue = [] ∧ readyDev.steps123 .jtag (0x208004 + 4 * (3 : Fin 4).val) false = none ∧
    (200 : BitVec 22).toNat = 8 * (25 : Fin 26).val := by decide +kernel

theorem test_witness_SpiInterface : (∃ e, SpiBurst (chanOff 15) [resetWord (chanOff 15)] setUp e) ∧
    ((partSpan (.memRead 0x03FFFF 1)).1 + (partSpan (.memRead 0x03FFFF 1)).2 ≤ 262144 ∧
      262144 < (partSpan (.memWrite 0x03FFFF [1, 2])).1 + (partSpan (.memWrite 0x03FFFF [1, 2])).2) ∧ (0x03FF00 : BitVec 24).toNat + (255 : BitVec 8).toNat + 1 ≤ 262144 ∧
    262144 < (0x03FF01 : BitVec 24).toNat + (255 : BitVec 8).toNat + 1 ∧ (0x03FFFF : BitVec 24).toNat + [(1 : Byte)].length ≤ 262144 ∧
    262144 < (0x040000 : BitVec 24).toNat + [(1 : Byte)].length ∧
    (∀ k, k ≤ (1 : BitVec 8).toNat → (0 : BitVec 24).toNat + 4 * k ≠ 0x208000 ∧
      readyDev.steps123 .spi ((0 : BitVec 24).toNat + 4 * k) false = none) ∧
    (200 : BitVec 24).toNat = 8 * (25 : Fin 26).val ∧ readyDev.host.resetCause = none ∧ doorbellOk 25 (25 * 65536) = true ∧
    readyDev.ringEn 25 = false := by
  refine ⟨?_, by decide, by decide, by decide, by decide, by decide, fun k hk => ?_, by decide +kernel⟩
  · have h : setUp.admits .spi (chanOff 15) (resetWord (chanOff 15)) := admits_of (by decide +kernel)
    obtain ⟨_, _, _, _, r, hr, _⟩ := id h
    exact ⟨_, h, r, hr, rfl⟩
  have : k ≤ 1 := hk
  have h : ∀ k, k < 2 → (0 : BitVec 24).toNat + 4 * k ≠ 0x208000 ∧ readyDev.steps123 .spi ((0 : BitVec 24).toNat + 4 * k) false = none := by
    decide +kernel
  exact h k (by omega)

/-- Ring `r` enabled, of 16 entries, in host memory unless `bar4`. -/
def ringDev (r : Fin 26) (bar4 : Bool) : Dev :=
  (readyDev.wr (ringOff r + 8) (word (2147483648 + bitAt 30 bar4 + 4 * 65536))).modHost fun h => { h with busMaster := true, pcieUp := true }

theorem test_witness_DoorbellsAndFetches :
    ((200 : BitVec 12).toNat = 8 * (25 : Fin 26).val ∧ readyDev.host.resetCause = none ∧ doorbellOk 25 (25 * 65536) = true ∧ readyDev.ringEn 25 = false) ∧
    (doorbellOk 0 15 = true ∧ (ringDev 0 false).ringEn 0 = true ∧ ((ringDev 0 false).ring 0).err = false ∧
      (ringDev 0 false).top.ready = true ∧ (ringDev 0 false).blockReady 14 = true ∧ deviceFilled 0 = false ∧
      15 % 65536 < (ringDev 0 false).ringSize 0 ∧ (ringDev 0 false).ringSize 0 ≤ 16 % 65536 ∧ doorbellOk 0 16 = true) ∧
    doorbellOk 0 65536 = false ∧
    (let d := (ringDev 0 false).modRing 0 fun g => { g with use := 2 }
     d.fetchOpen 0 = true ∧ d.fetchable 0 ≠ 0 ∧ d.ringBar4 0 = false ∧ [List.replicate 16 (0 : Word)] ≠ [] ∧
       min (d.fetchable 0) [List.replicate 16 (0 : Word)].length ≠ 0) ∧
    (let d := (ringDev 0 true).modRing 0 fun g => { g with use := 2 }
     d.fetchOpen 0 = true ∧ d.ringBar4 0 = true ∧ d.fetchable 0 ≠ 0) ∧
    (let d := ((ringDev 17 false).modRing 17 fun g => { g with use := 2 }).modPort 7 fun x => { x with st := .up }
     d.fetchOpen 17 = true ∧ min (d.fetchable 17) [List.replicate 16 (0 : Word)].length ≠ 0) := by decide +kernel

theorem test_witness_ExternalBlocksAndTimeouts :
    (let w : List Word := [0x00010101, 0x00000008, 0, 0] ++ List.replicate 12 0
     let d := (readyDev.modKeeper fun k => { k with cqFetched := [(0, w)] }).modHost fun h => { h with busMaster := true, pcieUp := true }
     d.extHead .keeper = some (0, w) ∧ bit (wordAt w 2) 0 = false ∧ d.dmaOpen = true) ∧
    (let w : List Word := [0x00010101, 0x00000008, 0, 0] ++ List.replicate 12 0
     let d := readyDev.modKeeper fun k => { k with cqFetched := [(0, w)] }
     d.extHead .keeper = some (0, w) ∧ bit (wordAt w 2) 0 = false ∧ d.dmaOpen = false) ∧
    (let w : List Word := [0x00010101, 0x00000008, 0x0003FFF9, 0] ++ List.replicate 12 0
     let d := readyDev.modKeeper fun k => { k with cqFetched := [(0, w)] }
     d.extHead .keeper = some (0, w) ∧ bit (wordAt w 2) 0 = true ∧
       (wordAt w 2).toNat / 8 * 8 + (wordAt w 3).toNat * 4294967296 + descExtLen w ≤ 262144) ∧
    (let d := readyDev.modHost fun h => { h with busy := h.busy.set 4 (some ⟨0x70, 1, 0, 0, none, false⟩) }
     d.host.busy.get (srcIdx .keeper) = some ⟨0x70, 1, 0, 0, none, false⟩ ∧ noSafePoint (0x70 : Byte).toNat = false) := by decide +kernel

theorem test_witness_RingEntriesAndCompletions : (ringDev 4 true).ringBar4 4 = true ∧
    (ringDev 4 true).entryAddr 4 ((ringDev 4 true).ring 4).devIdx + 16 ≤ 262144 ∧ (ringDev 4 true).ringOpen (crRing 0) = true ∧
    readyDev.ringBar4 4 = false ∧ readyDev.ringOpen (crRing 0) = false ∧ readyDev.host.resetCause = none ∧
    (readyDev.modHost fun h => { h with resetCause := some (1, readyDev.stamp) }).host.resetCause.isSome = true := by decide +kernel

theorem test_witness_InterruptsAndHostReset :
    (let d := ((ringDev 8 true).modRing 8 fun g => { g with itrWait := true, devIdx := 1 }).modHost fun h => { h with msixOn := true, msix := [(3, 0)] }
     (d.ring 8).itrWait = true ∧ d.irqBit 8 = true ∧ d.vectorOpen (d.rdF (ringOff 8 + 8) 8 6) = true) ∧
    (let d := (ringDev 8 true).modRing 8 fun g => { g with itrWait := true, devIdx := 1 }
     (d.ring 8).itrWait = true ∧ d.irqBit 8 = true ∧ d.vectorOpen (d.rdF (ringOff 8 + 8) 8 6) = false) ∧
    (let d := (ringDev 8 true).modRing 8 fun g => { g with itrWait := true }
     (d.ring 8).itrWait = true ∧ d.irqBit 8 = false) ∧
    (let d := readyDev.modHost fun h => { h with busy := h.busy.set (srcIdx (.cq 3)) (some ⟨0x70, 1, 0, 0, none, false⟩) }
     d.host.resetCause = none ∧ d.top.ready = true ∧ d.host.busy.get (srcIdx (.cq 3)) = some ⟨0x70, 1, 0, 0, none, false⟩ ∧
       noSafePoint (0x70 : Byte).toNat = false ∧ d.host.busy.get (srcIdx (.cq 0)) = none) ∧
    (let d := readyDev.modHost fun h => { h with resetCause := some (1, readyDev.stamp) }
     d.host.resetCause = some (1, readyDev.stamp) ∧ ∀ q : Fin 4, d.host.busy.get (srcIdx (.cq q)) = none) ∧
    (let d := readyDev.modHost fun h => { h with pcieUp := true, busMaster := true, msixOn := true, msix := [(3, 0)], pending := 1 }
     d.top.ready = true ∧ d.host.pcieUp = true ∧ d.host.pending.getLsbD (0 : Fin 64) = true ∧ d.vectorOpen (0 : Fin 64) = true) ∧
    (let d := Dev.reset.modHost fun h => { h with pcieUp := true }
     d.host.pcieUp = true ∧ d.top.ready = false) ∧
    (readyDev.modHost fun h => { h with training := true }).host.training = true := by decide +kernel

/-- An occurrence of source 48 that waits. -/
def occ48 (blanked : Bool) : Reached := ⟨⟨48, 0, false, false⟩, readyDev.stamp, false, blanked⟩
/-- Source 48 with a set-up word, and its occurrence. -/
def watchIn (cfg : Word) (blanked : Bool) : Dev := (readyDev.wr (fltOff 48) cfg).modWatch fun w => { w with reached := [occ48 blanked] }

theorem test_witness_WatchCountsOneOccurrence : (watchIn 0 true).watch.reached = [occ48 true] ∧ (occ48 true).blanked = true ∧
    (watchIn 0 false).watch.reached = [occ48 false] ∧ (occ48 false).blanked = false ∧ (watchIn 0 false).rdF (fltOff 48) 31 1 = 0 ∧
    (watchIn 0x80000000 false).rdF (fltOff 48) 31 1 = 1 ∧ (watchIn 0x80000000 false).rdF (fltOff 48) 22 9 = 0 ∧
    (watchIn 0x80000000 false).rdF (fltOff 48) 13 9 = 0 ∧ (watchIn 0x80000000 false).rdF (fltOff 48) 26 4 = 0 ∧
    (watchIn 0x80000000 false).rdF (fltOff 48) 17 4 = 0 ∧
    (let d := watchIn (word (2147483648 + 1073741824 + 33554432 + 2097152 + 65536)) false
     d.rdF (fltOff 48) 26 4 = 0 ∧ d.rdF (fltOff 48) 17 4 = 0 ∧ d.rdF (fltOff 48) 25 1 = 1 ∧ d.rdF (fltOff 48) 30 1 = 1 ∧
       d.rdF (fltOff 48) 16 1 = 1 ∧ d.rdF (fltOff 48) 21 1 = 1) := by decide +kernel

theorem test_witness_WatchTimers : ((readyDev.modSource 191 fun x => { x with count := 1 }).source 191).count ≠ 0 ∧
    ((readyDev.modSource 146 fun x => { x with blankTo := some 1, cond := true, rose := true }).source 146).blankTo.isSome = true ∧
    isLevel 146 = true ∧
    (isLevel 48 && ((readyDev.modSource 48 fun x => { x with blankTo := some 1 }).source 48).cond) = false ∧
    (let d : Dev := { readyDev with top := { readyDev.top with blk := 0 } }
     d.top.ready = true ∧ d.blockReady (6 : Fin 17) = false ∧ d.blockReady (8 : Fin 17) = false ∧ d.blockReady (12 : Fin 17) = false) := by
  decide +kernel

theorem test_witness_KeeperSupervision :
    (let d := readyDev.modSup fun x => { x with running := true, ap := .normal }
     d.keeper.sup.running = true ∧ d.keeper.sup.ap = .normal ∧ d.fw.state ≠ .trial) ∧
    (let d := readyDev.modSup fun x => { x with running := true, ap := .autopilot, stallRun := 2 }
     d.keeper.sup.running = true ∧ d.keeper.sup.ap ≠ .normal ∧ d.keeper.sup.stallRun = 2) ∧
    (readyDev.modSup fun x => { x with running := true, ap := .autopilot, stallRun := 3 }).keeper.sup.stallRun ≠ 2 ∧
    (readyDev.modFw fun f => { f with state := .trial }).fw.state = .trial := by decide +kernel

theorem test_witness_SensorsOtpAndDebug : (List.replicate 8 (some (-2560 : Int))).getD (7 : Fin 8) none = some (-2560) ∧
    (readyDev.modOtp fun o => { o with busy := some (.enroll 2 []) }).otp.busy = some (.enroll 2 []) ∧
    (readyDev.modOtp fun o => { o with busy := some (.revoke 1) }).otp.busy = some (.revoke 1) ∧
    (readyDev.modOtp fun o => { o with busy := some .lockUp }).otp.busy = some .lockUp ∧
    (readyDev.modOtp fun o => { o with readOut := true, debugLevel := 1 }).otp.debugLevel = 1 ∧
    (readyDev.modOtp fun o => { o with challenge := some 0 }).otp.challenge = some 0 := by decide +kernel

/-- The ready device with headers in sectors 0 and 1, a record of key 0x0100 in sector 0, and sector 1 the one appended to. -/
def logDev : Dev :=
  ((((readyDev.nvProgram 0 (sectorHeader 0 1 1)).nvProgram 512 (sectorHeader 1 1 2)).nvProgram 1
    (Rec.bytes ⟨0x0100, 5, false, false, false, [1, 2, 3]⟩))).modChart fun c => { c with appendAt := some 513, nextSeq := 6 }

/-- What reclamation of sector 0 writes. -/
def logCopies : List Rec × Dev := logDev.number ((logDev.liveIn 0).map fun r => { r with copy := true })

theorem test_witness_CommitsAndReclamation :
    ((chartWith fun c => { c with timerOn := true }).chart.timerOn = true ∧ readyDev.chartShut = false ∧ readyDev.chart.commit = none) ∧
    (chartWith fun c => { c with tallyWait := some (.keeper, ⟨0x74, 1, 0, 0, none, false⟩, 31, 65535) }).chart.tallyWait.isSome = true ∧
    (let d := chartWith fun c => { c with
       buf := [⟨0x0100, 1, false, false, false, []⟩], commit := some (.command .keeper ⟨0x72, 1, 0, 0, none, false⟩) }
     d.chart.tallyWait = none ∧ d.commitWaits = true) ∧
    (let d := chartWith fun c => { c with
       buf := [⟨0x0101, 1, false, false, false, []⟩],
       commit := some (.full .keeper ⟨0x70, 1, 0, 0, none, false⟩ ⟨0x0100, 1, false, false, false, []⟩) }
     d.chart.tallyWait = none ∧ d.commitWaits = true) ∧
    (let d := chartWith fun c => { c with scheduled := [63] }
     d.chartShut = false ∧ d.pwr.pf = .normal ∧ d.chart.scheduled.find? d.eraseOk = some 63) ∧
    logDev.chartShut = false ∧ logDev.pwr.pf = .normal ∧ logDev.erasedLog.length < 2 ∧
    logDev.chart.scheduled.find? logDev.eraseOk = none ∧ logDev.erasedLog = [1] ∧ logDev.reclaimPick = some 0 ∧
    logCopies.1 = [⟨0x0100, 6, false, true, false, [1, 2, 3]⟩] ∧ (logCopies.2.appendAll false logCopies.1).2.1 = true ∧
    logDev.chart.nextSeq < 4294967296 := by decide +kernel

theorem test_witness_ErasesTokensAndScrub :
    (let d := logDev.modChart fun c => { c with erasing := some (63, .schedule) }
     d.chart.erasing = some (63, .schedule) ∧ d.chart.tallyWait = none ∧ Tab.get (fun _ => 0) d.chart.fails 63 < 2) ∧
    logDev.chartShut = false ∧ (logDev.modChart fun c => { c with bad := [32767] }).lineBad (32767 : BitVec 15).toNat = true ∧
    logDev.lineBad (28671 : BitVec 15).toNat = false ∧ (28671 : BitVec 15).toNat / 512 < 56 ∧ 54 ≤ (28671 : BitVec 15).toNat / 512 ∧
    (27647 : BitVec 15).toNat / 512 < 54 := by decide +kernel

/-- A base record of tally 31 in a device: COUNT 0, GEN 7, page 255. -/
def tallyDev : Dev := readyDev.modChart fun c => { c with
  buf := [⟨0x005F, 1, false, false, false, leBytes 8 0 ++ leBytes 4 7 ++ leBytes 2 255 ++ [0, 0]⟩] }

theorem test_witness_StoreWrites :
    (let c := kcmd [word (0x0100 + 65536 * 3), 0x00030201]
     let used := [(0, 0, 16), (0, 16, 12)] ++ wholes 1 (3 / 4) ++ (if 3 % 4 = 0 then [] else [(1 + 3 / 4, 0, 8 * (3 % 4))])
     let d := offer 0x70 c readyDev
     d.takes 0x70 c = true ∧ d.chartShut = false ∧ d.pwr.pf = .normal ∧
     pf c 0 0 16 = 0x0100 ∧ pf c 0 16 12 = 3 ∧ unusedFail c.words used = [] ∧ shortFail c.words used = [] ∧
       keyWritable c.src 0x0100 = true ∧ d.chart.nextSeq < 4294967295 ∧
       (let r := Rec.mk 0x0100 d.chart.nextSeq false false false (valueOf c.words 3)
        liveLines (Tab.ins 0x0100 (none, { r with seq := 0 }) d.newest) ≤ 12288 ∧ liveKeys d.newest < 4096 ∧
          bufBytes (d.chart.buf ++ [{ r with seq := 0 }]) ≤ 4096)) ∧
    (let c := kcmd [0x0100, 1, 0, 2]
     servedOn 0x71 c [(0, 0, 16), whole 1, whole 2, (3, 0, 12)] (fun _ => []) logDev (fun d => !d.chartShut &&
       d.record (pf c 0 0 16) = some (some 1, ⟨0x0100, 5, false, false, false, [1, 2, 3]⟩)) = true ∧ pf c 3 0 12 = 2 ∧ pf c 1 0 1 = 1 ∧
     servedOn 0x71 c [(0, 0, 16), whole 1, whole 2, (3, 0, 12)] (fun _ => []) readyDev (fun d => !d.chartShut &&
       d.record (pf c 0 0 16) = none) = true ∧
     servedOn 0x71 c [(0, 0, 16), whole 1, whole 2, (3, 0, 12)] (fun _ => [])
       (chartWith fun x => { x with buf := [⟨0x0100, 5, false, false, false, [1, 2, 3]⟩] }) (fun d => !d.chartShut &&
       d.record (pf c 0 0 16) = some (none, ⟨0x0100, 5, false, false, false, [1, 2, 3]⟩)) = true) ∧
    servedOn 0x72 (kcmd []) [] (fun _ => []) readyDev (fun d => !d.chartShut && d.pwr.pf = .normal && d.chart.buf.isEmpty) = true ∧
    servedOn 0x72 (kcmd []) [] (fun _ => []) tallyDev (fun d => !d.chartShut && d.pwr.pf = .normal && !d.chart.buf.isEmpty) = true := by
  decide +kernel

theorem test_witness_StoreCommands :
    (let c := kcmd [word (1791 + 65536 * 240 + 16777216), 1, 0, 16]
     (offer 0x73 c readyDev).takes 0x73 c = true ∧ pf c 1 0 1 = 1 ∧
     pf c 0 0 11 = 1791 ∧ pf c 0 16 8 = 240 ∧ pf c 3 0 9 = 16 ∧ pf c 0 24 1 = 1 ∧
       unusedFail c.words [(0, 0, 11), (0, 16, 8), (0, 24, 1), whole 1, whole 2, (3, 0, 9)] = [] ∧ 4 ≤ c.words.length ∧
       rawAddr 1791 240 0 / 16 % 512 ≠ 0 ∧ (offer 0x73 c readyDev).lineErased (rawAddr 1791 240 0 / 16) = true ∧
       16 * 0 < pf c 3 0 9) ∧
    (let c := kcmd [word (1791 + 65536 * 255), 1, 0, 256]
     (offer 0x73 c readyDev).takes 0x73 c = true ∧ pf c 0 24 1 = 0 ∧ pf c 3 0 9 = 256 ∧
       unusedFail c.words [(0, 0, 11), (0, 16, 8), (0, 24, 1), whole 1, whole 2, (3, 0, 9)] = [] ∧
       rawStop (pf c 0 16 8) (pf c 3 0 9) (some 16) < pf c 3 0 9 ∧
       ∀ k : Fin 256, readyDev.lineBad (rawAddr (pf c 0 0 11) (pf c 0 16 8) k / 16) = false) ∧
    (let c := kcmd [31, 1]
     servedOn 0x74 c [(0, 0, 5), (1, 0, 16)] (fun _ => failIf (pf c 1 0 16 = 0) 32) tallyDev (fun d =>
       !d.chartShut && d.pwr.pf = .normal && ((d.begun c 0x74).tallyAdd (pf c 0 0 5) (pf c 1 0 16)).isSome &&
         d.tallyBase (pf c 0 0 5) = some (⟨0, 7, 255⟩, 1) && (d.tallyNext 255).isSome) = true) := by decide +kernel

/-- Port 7 in a state. -/
def portIn (st : PortState) : Dev := readyDev.modPort 7 fun x => { x with st := st }

theorem test_witness_PortStates : ((portIn .down).port 7).st = .down ∧ readyDev.clk.xo = true ∧ readyDev.shed = false ∧
    readyDev.blockReady 12 = true ∧ ((portIn .cal).port 7).st = .cal ∧ ((portIn .up).port 7).st = .up ∧
    ((portIn .cal).buoy (syncSlot 7)).act.st ≠ .up ∧
    (let d := (portIn .up).modClient 15 fun x => { x with st := .tracking }
     (d.client 15).st ≠ .disabled ∧ d.clientPort 15 = 0) ∧
    (let d := ((portIn .up).wrF (prOff 15) 28 3 7).modClient 15 fun x => { x with st := .tracking }
     d.clientPort 15 = 7) := by decide +kernel

/-- A frame to the port, of a transmitter that Breakwater has not seen. -/
def frame (dst : BitVec 48) (body : FrameBody) : Frame :=
  ⟨true, 64, dst, 0x020000000001, false, [], .mac, body, 1000000, 0, [1, 2, 3], (0, 0)⟩

/-- A PTP message of domain 0 over L2. -/
def ptpMsg (body : PtpBody) : PtpMsg := ⟨true, true, true, true, true, true, 0, .l2, 9, 0x01020304050607080001, body⟩

/-- Port 7 UP with MAC 0x020000000099, an IPv4 and an IPv6 address, and a server with multicast on a RUNNING time scale. -/
def servePort : Dev :=
  (([(portOff 7 + 4, 0x00000099), (portOff 7 + 8, 0x0200), (portOff 7 + 0xC, 0x80000000), (portOff 7 + 0x10, 0xC0000201),
     (portOff 7 + 0x60, 0x11), (psrvOff 7, 0xA0000000), (psrvOff 7 + 0xC, 0xFFFFFFFF), (portOff 7 + 0x2C, 1)] : List (Nat × Word)).foldl
    (fun d e => d.wr e.1 e.2) (portIn .up)).modTs 0 fun x => { x with st := .running }

def hostFrame : TxFrame := ⟨none, some (.keeper, ⟨0x54, 1, 0, 0, none, false⟩), true, 65535, true, 0, 14⟩

theorem test_witness_EsmcAndHostFrames : ((portIn .down).port 7).st ≠ .off ∧ ((portIn .down).port 7).esmcTimeout = false ∧
    (portIn .up).esmcMay 7 = true ∧ ((portIn .up).port 7).ssmSent = 0xF ∧
    (portIn .up).ssmNow 7 ≠ 0 ∧
    (let d := (portIn .up).modPort 7 fun x => { x with ssmSent := 0 }
     d.esmcMay 7 = true ∧ (d.port 7).ssmSent ≠ d.ssmNow 7) ∧
    (let d := (portIn .up).modPort 7 fun x => { x with txq := [hostFrame] }
     (d.port 7).txq = hostFrame :: [] ∧ hostFrame.tsReq = true ∧ d.txts.queue.length < 64) ∧ hostFrame.slot = none ∧
    hostFrame.cmd = some (.keeper, ⟨0x54, 1, 0, 0, none, false⟩) ∧ ({ hostFrame with slot := some ⟨0, false, 0⟩, cmd := none } : TxFrame).slot = some ⟨0, false, 0⟩ ∧
    readyDev.ringEn (txRing 7) = false ∧
    (let d := ((portIn .up).modPort 7 fun x => { x with txq := [hostFrame] }).modTxts fun x =>
       { x with queue := List.replicate 64 ⟨0, 0, [0, 0, 0, 0]⟩ }
     (d.port 7).txq = hostFrame :: [] ∧ 64 ≤ d.txts.queue.length) ∧
    (ringDev 17 false).ringEn (txRing 7) = true := by decide +kernel

theorem test_witness_ReceivedFrames : ((portIn .off).port 7).st = .off ∧ ((portIn .down).port 7).st = .down ∧
    ((portIn .cal).port 7).st = .cal ∧ ({ frame 0 .other with len := 63 } : Frame).len < 64 ∧
    2000 < ({ frame 0 .other with len := 2001 } : Frame).len ∧
    (let f := frame 0x010000000000 .other
     f.dst.toNat ≠ servePort.portMac 7 ∧ f.dst.toNat ≠ 2 ^ 48 - 1 ∧ f.svcMulticast = false) ∧
    servePort.vlanOk 7 [(7, 4095)] = false ∧
    (let f := frame 0x020000000099 .other
     f.dst.toNat = servePort.portMac 7 ∧ servePort.vlanOk 7 f.tags = true ∧ (servePort.police 7 f).1 = true) ∧
    ((servePort.wrF (psrvOff 7 + 0xC) 16 16 0).police 7 (frame 0x020000000099 .other)).1 = false ∧
    servePort.hasIp4 7 0xC0000201 = true ∧ servePort.hasIp6 7 1 = true ∧ servePort.pilotsOn = true ∧
    servePort.ptpBad 7 { ptpMsg .delayReq with versionOk := false } = true ∧ servePort.ptpBad 7 (ptpMsg .delayReq) = false ∧
    servePort.serverTakes 7 (frame 0x011B19000000 (.ptp (ptpMsg .delayReq))) (ptpMsg .delayReq) = true ∧
    (servePort.modTs 0 fun x => { x with st := .unset }).serving 7 = false ∧ servePort.hasIp4 7 0xC0000202 = false ∧
    servePort.hasIp6 7 2 = false ∧ servePort.serving 7 = true ∧ servePort.ringOpen (excRing 7) = false ∧
    ((servePort.wr (ringOff 25 + 8) (word (2147483648 + 4 * 65536))).ringOpen (excRing 7)) = true ∧
    (let x : EsmcPdu := ⟨0x8809, 0x0A, 0x0019A7, 1, 1, [⟨1, 4, [15]⟩]⟩
     esmcHeader x 0x0180C2000002 = true ∧ esmcTlvOk x = true ∧ (esmcTlv x 1).isSome = true ∧
       esmcTlvOk { x with tlvs := [⟨1, 5, [15]⟩] } = false ∧ esmcHeader { x with ituSubtype := 2 } 0x0180C2000002 = false) := by decide +kernel

/-- A client of the server of port 7, its Sync due in the present slot. -/
def entry : Entry :=
  ⟨some ⟨0, 100⟩, none, none, 7, .l2, [], true, 0, 0, 65535, 0, 0, 0x020000000001, 0x01020304050607080001, 0, true⟩

/-- A client table of 2^12 entries in BAR4 with that client in entry 0. -/
def tableDev : Dev := { servePort with pilot := { servePort.pilot with attached := some (true, 0, 12), entries := [(0, entry)] } }

theorem test_witness_ServerAndCalendar : servePort.mcOn 7 = true ∧ tableDev.entryAt (0 : BitVec 21).toNat = some entry ∧
    (entry.get .sync).isSome = true ∧ tableDev.pilot.attached.isSome = true ∧ tableDev.pilotsOn = true ∧
    (tableDev.dueRound.filter fun x => tableDev.slotOf x.1 = tableDev.pilot.slot) = [(0, .sync, 7)] ∧
    tableDev.overload = false ∧ tableDev.pilot.missing = [] ∧ tableDev.pilot.late = [] ∧ tableDev.serving entry.port = true ∧
    entry.dirty = true ∧ tableDev.pilot.cache.contains 0 = false ∧
    ({ tableDev with pilot := { tableDev.pilot with cache := [0] } } : Dev).pilot.cache.contains 0 = true ∧
    ({ tableDev with pilot := { tableDev.pilot with writing := [0] } } : Dev).pilot.writing.contains (0 : BitVec 21).toNat = true ∧
    ({ tableDev with pilot := { tableDev.pilot with late := [(0, .sync)] } } : Dev).pilot.late.filter (·.1 = (0 : BitVec 21).toNat) =
      [((0 : BitVec 21).toNat, .sync)] ∧
    (let d : Dev := { tableDev with pilot := { tableDev.pilot with slot := 4095 } }
     (d.dueRound.filter fun x => d.slotOf x.1 = d.pilot.slot) = []) := by decide +kernel

/-- Client 15 of port 7 in a state. -/
def clientIn (st : ClState) (f : Client → Client) : Dev := ((servePort.wrF (prOff 15) 28 3 7)).modClient 15 fun x => f { x with st := st }

theorem test_witness_ClientInstances : ((clientIn .requesting id).client 15).st = .requesting ∧
    ((clientIn .tracking id).client 15).st = .tracking ∧
    (let d := clientIn .listening fun x => { x with seen := [⟨1, 7, 0, [0], 0⟩], held := [(.announce, 7)], denied := [(.delayResp, 8)] }
     (d.client 15).st ≠ .disabled ∧ (d.client 15).seen ≠ [] ∧ d.keeper.anq.wr < 64 ∧ d.keeper.anq.ci < 64 ∧
       d.keeper.anq.held 64 + (d.client 15).seen.length ≤ 63 ∧ (d.client 15).held.contains (.announce, 7) = true ∧
       (d.client 15).denied.contains (.delayResp, 8) = true) ∧
    ((clientIn .tracking id).port ((clientIn .tracking id).clientPort 15)).st = .up ∧ (clientIn .tracking id).pilotsOn = true ∧
    (clientIn .tracking id).prP2P 15 = false ∧ (((clientIn .tracking id).client 15).subs.head?).getD [] = [] ∧
    ((((clientIn .tracking id).client 15).ests[2]?).join = none) ∧
    (let d := (clientIn .listening id).wrF (prOff 15) 21 1 1
     (d.client 15).st ≠ .disabled ∧ (d.port (d.clientPort 15)).st = .up ∧ d.pilotsOn = true ∧ d.prP2P 15 = true) := by decide +kernel

/-! ### The cascade -/

/-- The ready device with ID 100 in the ID register of the cascade and link 0 in a state. -/
def linkIn (l : Fin 5) (st : LinkState) (f : Link → Link) : Dev :=
  (readyDev.modTide fun x => { x with id := 100 }).modLink l fun x => f { x with st := st }

theorem test_witness_TideFrames : (linkIn 0 .sync id).tideOn = true ∧ ({ tideFrame with version := 0 } : TideFrame).version ≠ 1 ∧
    (linkIn 0 .up id).upLink 0 = true ∧ tideFrame.version = 1 ∧
    ({ tideFrame with dir := !(linkIn 0 .up id).upLink 0 } : TideFrame).dir ≠ (linkIn 0 .up id).upLink 0 ∧
    (let d := (linkIn 0 .up id).modTide fun x => { x with active := some 0, role := .slave }
     d.tide.active = some 0 ∧ d.tide.role = .slave ∧ (d.link 0).st = .up ∧ tideFrame.hops.toNat ≤ 8 ∧
       (framePath tideFrame).contains d.tide.id = false ∧ tideFrame.senderId ≠ d.tide.id) ∧
    ((linkIn 4 .up fun x => { x with missed := 2 }).link 4).missed < 3 ∧ (linkIn 4 .up id).tide.active ≠ some 4 ∧
    ((linkIn 4 .up fun x => { x with missed := 3 }).link 4).missed = 3 ∧
    (let d := (linkIn 0 .up fun x => { x with missed := 1 }).modTide fun x => { x with active := some 0, role := .slave }
     (d.link 0).missed = 1 ∧ d.tide.active = some 0 ∧ (d.link 0).st ≠ .off ∧ d.tideOn = true) ∧
    (readyDev.modTide fun x => { x with events := [⟨1, 0⟩] }).tide.events = ⟨1, 0⟩ :: [] ∧ readyDev.buoysOn = true := by decide +kernel

theorem test_witness_TideLinksAndRanging : ((linkIn 4 .ranging id).link 4).exchange ((linkIn 4 .ranging id).upLink 4) = none ∧
    ((linkIn 4 .cal id).link 4).st = .cal ∧ ((linkIn 4 .ranging id).link 4).st = .ranging ∧
    ((linkIn 4 .ranging id).link 4).delays = [] ∧
    (let d := linkIn 4 .up fun x => { x with delays := [1000000], df := 1000000, outliers := 15 }
     let d := d.modLink 4 fun x => { x with own := some ⟨9, 0x100000⟩, heard := some ⟨9, 0x100000⟩, taken := some 8 }
     let one := truncDiv ((0x100000 : Int) - 0x100000 + (if d.upLink 4 then sfld (d.rd (linkOff 4)) 0 32 else 0)) 2
     (d.link 4).exchange (d.upLink 4) = some (9, 0x100000, 0x100000) ∧ (d.link 4).delays ≠ [] ∧ 65536 < (one - (d.link 4).df).natAbs ∧ (d.link 4).outliers = 15) ∧
    ((linkIn 4 .sync id).link 4).st = .sync ∧ ((linkIn 4 .up id).link 4).st = .up := by decide +kernel

/-- The cascade's time scale RUNNING on a channel in HOLDOVER, the priority 200. -/
def claimDev (role : Role) (mPrio : Byte) (lost : Bool) : Dev :=
  let d := ((linkIn 0 .up fun x => { x with last := some tideFrame }).wrF 0x280000 24 8 200).modTide fun x =>
    { x with role := role, mPrio := mPrio, masterLost := lost }
  (d.modTs d.cascTs fun x => { x with st := .running }).modChan (d.tsChan d.cascTs) fun x => { x with st := .holdover }

theorem test_witness_TideRoles : (claimDev .slave 201 false).claimPossible = true ∧ (claimDev .slave 201 false).claimReady = true ∧
    (claimDev .slave 1 true).candidate = true ∧ (claimDev .slave 1 true).tide.masterLost = true ∧
    (readyDev.wrF 0x280000 24 8 254).candidate = true ∧ readyDev.tide.role = .orphan ∧ readyDev.firstEligible = none ∧
    (claimDev .master 200 false).tide.strapped = false ∧ (claimDev .master 200 false).betterLink = some 0 ∧
    ((claimDev .master 200 false).link 0).last = some tideFrame ∧
    (let d := readyDev.modTide fun x => { x with lofs := -499999 }
     d.tide.lofs ≠ 0 ∧ d.tide.lofs.natAbs < 500000 ∧ d.tide.labelErr = false) := by decide +kernel

/-! ### Buoys and channels -/

/-- Slot `n` with a decoder and 1 PPS set up (rate 1, divisor 1), its Buoy changed, port 7 UP. -/
def buoyDev (n : Fin 64) (dec : Nat) (f : Buoy → Buoy) : Dev :=
  (((((portIn .up).wrF (buoyOff n) 28 4 dec).wr (buoyOff n + 4) 1).wr (buoyOff n + 8) 0).wr (buoyOff n + 0xC) 1).modBuoy n f

/-- An UP Buoy whose last event was at 0. -/
def upBuoy (b : Buoy) : Buoy := { b with act := { b.act with st := .up, last := some 0 } }

theorem test_witness_TimingEvents : readyDev.clockFed 43 = false ∧ (buoyDev 43 9 id).clockFed 43 = true ∧ readyDev.decoder 0 = 0 ∧
    readyDev.buoysOn = true ∧ (31 : Fin 64) = (31 : Fin 32).castLE (by omega) ∧
    (buoyDev 31 1 id).decoder 31 ≠ 0 ∧ (43 : Fin 64).val < 44 ∧ (buoyDev 43 2 id).decoder 43 = 2 ∧ (buoyDev 43 3 id).decoder 43 = 3 ∧
    ({ t := 0, widthNs := 99, video := none } : TimingEv).widthNs < 100 ∧
    900000000 < ({ t := 0, widthNs := 900000001, video := none } : TimingEv).widthNs ∧
    ((buoyDev 43 9 id).decoder 43 = 9 ∧ ((buoyDev 43 9 id).buoy 43).act.st = .down) ∧
    (let d := buoyDev 43 1 upBuoy
     d.buoysOn = true ∧ (d.buoy 43).act.st = .up ∧ d.clockFed 43 = true ∧ d.stray 43 grPerSec = false ∧ d.stray 43 1 = true ∧ (d.buoy 43).qual.st = .idle ∧ (d.buoy 43).act.pre = 0 ∧
       (d.slotTev 43).1 ≠ 0 ∧ (d.slotTev 43).2 ≠ 0) ∧
    (let d := (buoyDev 43 1 upBuoy).modChan 15 fun x => { x with st := .locked, sel := { x.sel with cur := some 43 } }
     (d.chan 15).sel.cur = some 43 ∧ engaged (d.chan 15) = true ∧ (d.chan 0).sel.cur ≠ some 43) ∧
    ((readyDev.modBuoy 61 fun b => { b with hs := [⟨1, 1, 0, 0⟩] }).buoy 61).hs = ⟨1, 1, 0, 0⟩ :: [] ∧
    ((buoyDev 63 12 fun b => { b with act := { b.act with st := .returning } }).buoy 63).act.st = .returning := by decide +kernel

/-- A time-of-day message: the leap second of 31 December 2016. -/
def todMsg : TodMsg := ⟨true, true, false, 2016, 12, 31, 23, 59, 60, 0, 900000⟩

theorem test_witness_Decoders : (31 : Fin 64) = (31 : Fin 32).castLE (by omega) ∧ (buoyDev 31 3 id).decoder 31 = 3 ∧
    (buoyDev 31 3 id).buoysOn = true ∧ todMsg.listed = true ∧ todMsg.ptp = (fld ((buoyDev 31 3 id).rd (buoyOff 31)) 18 2 == 1) ∧
    todInWindow false { todMsg with endUs := 900001 } = false ∧ bit ((buoyDev 31 3 id).rd (buoyOff 31)) 17 = false ∧
    todInWindow false todMsg = true ∧ todMsg.checksOk = true ∧ utcInRange { todMsg with minute := 58 } = false ∧
    utcInRange todMsg = true ∧ ((buoyDev 31 3 id).buoy 31).dec.todSec = none ∧
    (let d := ((buoyDev 31 4 id).wr (buoyOff 31 + 4) 25)
     d.decoder 31 = 4 ∧ bcd 0x23 = some 23 ∧ bcd 0x59 = some 59 ∧ bcd 0x24 = some 24 ∧ 24 < (d.ltcRate 31 false).2 ∧
       (d.buoy 31).dec.ltc = none) ∧
    ltcNext 30 true (0, 0, 59, 29) = (0, 1, 0, 2) ∧ bcd 0x0A = none ∧ (buoyDev 31 5 id).decoder 31 = 5 ∧
    ((buoyDev 31 5 id).buoy 31).qual.st = .idle ∧ (35 : Fin 64).val = 32 + (3 : Fin 4).val ∧
    (readyDev.buoy 35).dec.format ≠ 0x22 ∧ (readyDev.buoy 35).act.st = .down := by decide +kernel

/-- An UP slot after a gate over two intervals whose last event came at `t`. -/
def gateDev (t : Int) : Dev := buoyDev 43 1 fun b => { upBuoy b with
  mon := { b.mon with gateFrom := some 0, gateTo := t, gateN := 1, gateClean := true } }

theorem test_witness_Monitors :
    (let d := gateDev grPerSec
     d.buoysOn = true ∧ (d.buoy 43).mon.gateClean = true ∧ d.isUp 43 = true ∧ d.gateY 43 = some 0 ∧ (d.buoy 43).qual.st = .idle) ∧
    (((gateDev (grPerSec * 100 / 98)).gateY 43).any fun y => decide (281474976710656 < y.natAbs * 100)) = true ∧
    (buoyDev 43 1 id).isUp 43 = false ∧ (buoyDev 43 1 upBuoy).isUp 43 = true ∧
    ((buoyDev 43 1 fun b => { b with mon := { b.mon with tie := [0, 5] } }).buoy 43).mon.tie ≠ [] ∧ mtieOf (2 ^ 0) [0, 5] = some 5 := by
  decide +kernel

/-- Slot 43 in a state of qualification. -/
def qualDev (st : QState) (f : Buoy → Buoy) : Dev := buoyDev 43 1 fun b => f { b with qual := { b.qual with st := st } }

theorem test_witness_MatrixAndQualification : readyDev.buoysOn = true ∧ ((qualDev .first id).buoy 43).qual.st = .first ∧
    (qualDev .first fun b => { upBuoy b with mon := { b.mon with freqValid := true, y := 2 ^ 39 - 1 } }).rejects 43 = true ∧
    (qualDev .wtr fun b => { upBuoy b with mon := { b.mon with freqValid := true } }).rejects 43 = false ∧
    (qualDev .wtr fun b => { upBuoy b with mon := { b.mon with freqValid := true } }).accepted 43 = true ∧
    (qualDev .wtr upBuoy).rejects 43 = false ∧ (qualDev .wtr upBuoy).accepted 43 = false ∧ readyDev.apActive = false ∧
    ((readyDev.modChan 15 fun x => { x with sel := { x.sel with armed := some 63 } }).chan 15).sel.armed.isSome = true := by
  decide +kernel

/-- Channel 15 after a change. -/
def chanIn (f : Chan → Chan) : Dev := readyDev.modChan 15 f

theorem test_witness_ChannelUpdates : (let d := (buoyDev 43 1 upBuoy).modChan 15 fun x => { x with
       st := .locked, sel := { x.sel with cur := some 43 }, sw := { x.sw with due := true }, track := { x.track with phValid := true } }
     (d.chan 15).sw.due = true ∧ engaged (d.chan 15) = true ∧ (d.chan 15).track.phValid = true ∧ tracking (d.chan 15) = true) ∧
    (chanIn fun x => { x with mode := .dco }).chan 15 = { readyDev.chan 15 with mode := .dco } ∧
    readyDev.clk.xo = true ∧ readyDev.blockReady 8 = true ∧ (readyDev.chan 15).st = .freeRun ∧
    (readyDev.chan 15).mode ≠ .dco ∧ (readyDev.chan 15).sw.due = false ∧
    ((readyDev.chan 15).loop.b.natAbs : Int) ≤ readyDev.pull24 15 ∧
    (∀ e : Fin 2,
      let d := chanIn fun x => { x with
        st := .acquiring, loop := { x.loop with e := if e = 0 then 0 else 2 ^ 60 },
        track := { x.track with winE := some 0, fpull := true, phValid := true } }
      let f24 := ((d.chan 15).loop.e - 0) * two24 * two48 * (pullWindow (d.tu 15)).2 / (pullWindow (d.tu 15)).1
      (d.chan 15).track.winE = some 0 ∧ (d.chan 15).st = .acquiring ∧ (d.chan 15).track.fpull = true ∧
        (d.chan 15).track.phValid = true ∧ (d.chan 15).loop.b.natAbs < d.pull24 15 ∧
        (if e = 0 then 4 * f24.natAbs ≤ d.slopeS 15 * two24 else d.slopeS 15 * two24 < 4 * f24.natAbs)) ∧
    (readyDev.modeFor 15 true).1 = .pass ∧ ((readyDev.wrF (chanOff 15 + 0x200) 31 1 1).modeFor 15 true).1 = .jump ∧
    (let d := chanIn fun x => { x with st := .acquiring, track := { x.track with lockRun := true } }
     (d.chan 15).st = .acquiring ∧ (d.chan 15).track.lockRun = true) := by decide +kernel

theorem test_witness_HistoryAndPrediction : readyDev.clk.xo = true ∧
    (let x := ((chanIn fun x => { x with st := .locked, ho := { x.ho with run := true, whole := true, n := 1 } }).chan 15)
     x.ho.run = true ∧ x.ho.whole = true ∧ tracking x = true ∧ x.ho.n ≠ 0) ∧ (readyDev.chan 15).ho.run = false ∧
    (∀ lim : Fin 2,
      let d := ((chanIn fun x => { x with st := .holdover }).wr (chanOff 15 + 0x404) (if lim = 0 then 0 else 0x7FFFFF)).wr
        (chanOff 15 + 0x408) 0x00010001
      let x := d.chan 15
      let u := uncertainty (d.rdF (chanOff 15 + 0x408) 16 16) (d.rdF (chanOff 15 + 0x408) 0 16) (x.ho.tau + 1) (x.ho.base - x.ho.bFrz).natAbs
      x.st = .holdover ∧ (if lim = 0 then d.rdF (chanOff 15 + 0x404) 0 23 * u.2 < u.1
        else u.1 ≤ d.rdF (chanOff 15 + 0x404) 0 23 * u.2)) ∧
    (readyDev.chan 15).st ≠ .holdover ∧ (readyDev.wrF (chanOff 0 + 0x400) 15 4 7).rdF (chanOff 0 + 0x400) 15 4 < 8 ∧
    (let d := (readyDev.wrF (chanOff 15 + 0x400) 15 4 8).modChan 15 fun x => { x with ho := { x.ho with extAt := some 0 } }
     d.rdF (chanOff 15 + 0x400) 15 4 = 8 ∧ (d.chan 15).ho.extAt = some 0 ∧ d.clk.aonUs < 0 + 10000000 ∧
       0 + 10000000 ≤ (d.modClk fun k => { k with aonUs := 10000000 }).clk.aonUs) ∧
    (readyDev.chan 15).ho.extAt = none ∧ (readyDev.modClk fun k => { k with xo := false }).clk.xo = false ∧
    8 < (readyDev.wrF (chanOff 15 + 0x400) 15 4 15).rdF (chanOff 15 + 0x400) 15 4 := by decide +kernel

/-- Time scale 3 RUNNING and started, after a change. -/
def tsIn (f : TimeScale → TimeScale) : Dev := readyDev.modTs 3 fun x => f { x with st := .running, started := true }

theorem test_witness_PpsEdges : (readyDev.tsc 3).started = false ∧ (readyDev.modClk fun k => { k with xo := false }).clk.xo = false ∧
    (let d := tsIn id
     (d.tsc 3).started = true ∧ d.clk.xo = true ∧ (d.tsc 3).armed = false ∧ (d.tsc 3).utc = none ∧ (d.tsc 3).localOfs = none ∧ (d.tsc 3).st ≠ .todHold ∧
       d.srcValid 3 = false ∧ (d.tsc 3).step = none ∧ (d.tsc 3).set = none ∧ (d.tsc 3).leap = none ∧ (d.tsc 3).hiSec = none ∧
       d.edgeSec 3 = 0) ∧
    ((tsIn fun x => { x with hiSec := some 0 }).tsc 3).hiSec = some ((tsIn fun x => { x with hiSec := some 0 }).edgeSec 3) ∧
    (let d := tsIn fun x => { x with step := some ⟨0, 1, 0, 0, false⟩ }
     (d.tsc 3).step = some ⟨0, 1, 0, 0, false⟩ ∧ (0 : Int) ≤ d.edgeSec 3) ∧
    (let d := tsIn fun x => { x with ofs := 2 ^ 24 * grPerSec * 200000, leap := some (true, 1) }
     (leapEdge (d.utcOffset 3) true 1 : Int) ≤ d.edgeSec 3) ∧
    ((tsIn fun x => { x with set := some (.triple 1) }).tsc 3).set = some (.triple 1) := by decide +kernel

/-! ### Commands of the rings -/

/-- A command with an external block, of the Keeper queue. -/
def ecmd (ws : List Word) (n : Nat) : Cmd := ⟨.keeper, 1, 0, true, ws ++ List.replicate (n - ws.length) 0⟩
/-- The reset values of `n` registers from `off` on. -/
def imgAt (off n : Nat) : List Word := (List.range n).map fun k => resetWord (off + 4 * k)
/-- A command of CQ0. -/
def qcmd (ws : List Word) : Cmd := { kcmd ws with src := .cq 0 }

theorem test_witness_CommandsThatWait :
    (readyDev.modHost fun h => { h with busy := h.busy.set 4 (some ⟨0x70, 1, 0, 0, none, false⟩) }).accepts .keeper = false ∧
    readyDev.headCmd .keeper ≠ some (0x01, kcmd []) ∧
    (let d := offer 0x70 (kcmd []) (chartWith fun c => { c with commit := some .timer })
     d.objectHeld 0x70 (kcmd []) = true ∧ d.takes 0x70 (kcmd []) = false ∧ d.chartHeld = true) ∧
    (readyDev.modFw fun f => { f with activate := some (.keeper, ⟨0x81, 1, 0, 0, none, false⟩) }).fw.activate.isSome = true ∧
    (readyDev.modPort 7 fun x => { x with txq := [hostFrame] }).portHeld (Fin.ofNat 8 (pf (kcmd [7]) 0 0 3)) = true ∧
    (pwrWith fun p => { p with oppCmd := some (.keeper, ⟨0x90, 1, 0, 0, none, false⟩) }).pwr.oppCmd.isSome = true ∧
    (pwrWith fun p => { p with anchorCmd := some (.keeper, ⟨0x91, 1, 0, 0, none, false⟩, false) }).pwr.anchorCmd.isSome = true ∧
    (let d := offer 0x01 (kcmd []) readyDev
     d.accepts .keeper = true ∧ d.headCmd .keeper = some (0x01, kcmd []) ∧ d.objectHeld 0x01 (kcmd []) = false ∧
       d.host.passed.get (srcIdx .keeper) < 256 ∧ (∀ x ∈ cmdSources, d.host.passed.get (srcIdx x) < 256) ∧
       (∀ x ∈ sourcesBefore .keeper, d.canTake x = false)) ∧
    (let d := (offer 0x01 (kcmd []) (offer 0x01 (qcmd []) (ringDev 4 true))).modHost fun h => { h with passed := h.passed.set 4 256 }
     256 ≤ d.host.passed.get (srcIdx .keeper) ∧ (∀ x ∈ sourcesBefore .keeper, d.canTake x = true ∧ d.host.passed.get (srcIdx x) < 256) ∧
       d.takes 0x01 (kcmd []) = true) ∧
    servedOn 0x01 (kcmd []) [] (fun _ => []) readyDev (fun _ => true) = true ∧ paramFail (kcmd [1]) [] [] = some 0 ∧
    (queryWindow 15).isNone = true ∧
    ((queryWindow 0).any fun w => servedOn 0x02 (kcmd [0, 1, 0, word w.2.1]) ([(0, 0, 4), (0, 16, 6)] ++ wholes 1 3)
      (fun _ => failIf (w.2.2 ≤ 0 || pf (kcmd [0, 1, 0, word w.2.1]) 3 0 32 < w.2.1) 0) readyDev fun _ => true) = true := by decide +kernel

def refCmd : Cmd := ecmd ([31] ++ imgAt (buoyOff 31) 8) 12
def qualCmd : Cmd := ecmd ([63] ++ imgAt (buoyOff 63 + 0x180) 3 ++ imgAt (buoyOff 63 + 0x190) 4) 12

theorem test_witness_SlotCommands :
    servedOn 0x10 refCmd ((0, 0, 6) :: wholes 1 8) (fun d => refConfigBad refCmd (d.begun refCmd 0x10)) readyDev
      (fun d => !d.followed 31 && (d.buoy 31).act.st ≠ .up) = true ∧
    servedOn 0x10 refCmd ((0, 0, 6) :: wholes 1 8) (fun d => refConfigBad refCmd (d.begun refCmd 0x10))
      (chanIn fun x => { x with sel := { x.sel with cur := some 31 } }) (fun d => d.followed 31) = true ∧
    rateFixed (pf refCmd 1 28 4) = false ∧
    servedOn 0x11 qualCmd ((0, 0, 6) :: wholes 1 7) (fun _ => refQualBad qualCmd) readyDev (fun _ => true) = true ∧
    (∀ op : Fin 3, let c := kcmd [word (43 + 256 * op.val)]
      servedOn 0x12 c [(0, 0, 6), (0, 8, 2)] (fun _ => failIf (pf c 0 8 2 = 3) 8) readyDev (fun d => pf c 0 8 2 = op.val &&
        (d.buoy 43).qual.st ≠ .first && (d.buoy 43).qual.st ≠ .wtr) = true) ∧
    (let c := kcmd [43 + 256 * 2]
     servedOn 0x12 c [(0, 0, 6), (0, 8, 2)] (fun _ => failIf (pf c 0 8 2 = 3) 8)
       (qualDev .wtr fun b => { upBuoy b with mon := { b.mon with freqValid := true } })
       (fun d => (d.buoy 43).qual.st = .wtr && d.accepted 43) = true ∧
     servedOn 0x12 c [(0, 0, 6), (0, 8, 2)] (fun _ => failIf (pf c 0 8 2 = 3) 8) (qualDev .first upBuoy)
       (fun d => (d.buoy 43).qual.st = .first && !d.accepted 43) = true) ∧
    paramFail (kcmd [43 + 256 * 3]) [(0, 0, 6), (0, 8, 2)] (failIf (pf (kcmd [43 + 256 * 3]) 0 8 2 = 3) 8) = some 8 ∧
    (∀ rr : Bool, let q := ((readyDev.modBuoy 43 fun b => { b with qual := { b.qual with st := .held, hostHold := true, reroute := rr } }).buoy 43).qual
     q.st = .held ∧ q.reroute = rr) := by decide +kernel

def chanCmd : Cmd := ecmd ([15] ++ imgAt (chanOff 15) 4 ++ ((List.range 6).flatMap fun k => imgAt (chanOff 15 + 0x100 + 0x10 * k) 3)) 23
def modelCmd : Cmd := ecmd ([15] ++ imgAt (chanOff 15 + 0x200) 1 ++ imgAt (chanOff 15 + 0x400) 4) 12
def tableCmd : Cmd := ecmd [word (15 + 0x10 + 32 * 256 + 65536), 5] 12

theorem test_witness_ChannelCommands :
    servedOn 0x20 chanCmd ((0, 0, 4) :: wholes 1 22) (fun _ => chanConfigBad chanCmd) readyDev (fun _ => true) = true ∧
    (∀ (act : Fin 3) (sw : Bool),
      let c := if act = 2 then ecmd (word (15 + 16 * 2) :: imgAt (chanOff 15 + 0xC40) 8) 12 else kcmd [word (15 + 16 * act.val)]
      pf c 0 4 2 = act.val ∧ servedOn 0x21 c (chanSelectUsed c) (fun _ => failIf (pf c 0 4 2 = 3) 4)
        (chanIn fun x => { x with sw := { x.sw with switching := sw } }) (fun d => (d.chan 15).sw.switching == sw) = true) ∧
    (let c := kcmd [word (15 + 63 * 256 + 65536)]
     let armed : Dev → Dev := fun d => d.modChan 15 fun x => { x with sel := { x.sel with armed := some 63 } }
     let ok : Dev → (Dev → Bool) → Bool := servedOn 0x21 c (chanSelectUsed c) (fun _ => failIf (pf c 0 4 2 = 3) 4)
     pf c 0 16 1 = 1 ∧ pf c 0 8 6 = 63 ∧ ok readyDev (fun d => (d.chan 15).sel.armed = none) = true ∧
       ok (armed readyDev) (fun d => (d.chan 15).sel.armed = some (63 : Fin 64) && !d.isUp 63) = true ∧
       ok (armed (buoyDev 63 12 upBuoy)) (fun d => (d.chan 15).sel.armed = some (63 : Fin 64) && d.isUp 63) = true) ∧
    (let c := kcmd [word (15 + 63 * 256)]
     let ok : Dev → (Dev → Bool) → Bool := servedOn 0x21 c (chanSelectUsed c) (fun _ => failIf (pf c 0 4 2 = 3) 4)
     pf c 0 16 1 = 0 ∧ pf c 0 8 6 = 63 ∧ ok readyDev (fun d => !d.isUp 63) = true ∧
       ok (buoyDev 63 12 upBuoy) (fun d => d.isUp 63 && !d.isQual 63) = true ∧
       ok (buoyDev 63 12 fun b => { upBuoy b with qual := { b.qual with st := .qualified } }) (fun d => d.isUp 63 && d.isQual 63) = true) ∧
    (∀ m : Fin 3, let c := kcmd [word (15 + 16 * m.val)]
      servedOn 0x22 c [(0, 0, 4), (0, 4, 2)] (fun _ => failIf (pf c 0 4 2 = 3) 4) readyDev (fun _ => pf c 0 4 2 = m.val) = true) ∧
    servedOn 0x23 modelCmd (holdoverUsed modelCmd) (fun _ => holdoverBad modelCmd) readyDev (fun _ => pf modelCmd 0 4 2 = 0) = true ∧
    servedOn 0x23 tableCmd (holdoverUsed tableCmd) (fun _ => holdoverBad tableCmd) readyDev (fun _ => pf tableCmd 0 4 2 = 1) = true := by
  decide +kernel

def outCmd : Cmd := ecmd ([47] ++ imgAt (outOff 47) 3 ++ [0, 0] ++ imgAt (outOff 47 + 0x14) 1) 12
def lanCmd : Cmd := ecmd ([7] ++ imgAt (lanOff 7) 3) 12
def voutCmd : Cmd := ecmd ([7 + 256] ++ imgAt (voutOff 7) 7) 12

theorem test_witness_OutputCommands :
    (let ok : Dev → (Dev → Bool) → Bool := servedOn 0x30 outCmd ((0, 0, 6) :: wholes 1 6) (fun d => outConfigBad outCmd (d.begun outCmd 0x30))
     pf outCmd 0 0 6 = 47 ∧ ok readyDev (fun d => !bit (d.rd (outOff 47)) 31) = true ∧
       ok ((readyDev.wrF (outOff 47) 31 1 1).wr (outOff 47 + 4) (~~~ resetWord (outOff 47 + 4)))
         (fun d => bit (d.rd (outOff 47)) 31 && d.rd (outOff 47 + 4) ≠ wordAt outCmd.words 2) = true) ∧
    (∀ a : Fin 3, let c := kcmd [0x80000000, word (0x8000 + 65536 * a.val)]
      servedOn 0x31 c [whole 0, (1, 0, 16), (1, 16, 2)] (fun _ => failIf (pf c 1 16 2 = 3) 48) readyDev
        (fun _ => pf c 1 16 2 = a.val) = true) ∧
    maskOuts 0x80000000 0x8000 = [31, 47] ∧
    (let ok : Dev → (Dev → Bool) → Bool :=
       servedOn 0x32 lanCmd ((0, 0, 3) :: wholes 1 3) (fun d => lanternConfigBad lanCmd (d.begun lanCmd 0x32))
     ok readyDev (fun d => ((List.finRange 48).filter fun (m : Fin 48) => d.outLan m = 7 && (d.out m).pin.on).length = 0) = true ∧
       ok (((outIn .running).dev.wrF (outOff 47) 28 3 7).wr (lanOff 7 + 4) 1) (fun d =>
         ((List.finRange 48).filter fun (m : Fin 48) => d.outLan m = 7 && (d.out m).pin.on).length ≠ 0 &&
           d.rd (lanOff 7 + 4) ≠ wordAt lanCmd.words 2) = true) ∧
    (let ok : Dev → (Dev → Bool) → Bool := servedOn 0x33 voutCmd ([(0, 0, 3), (0, 8, 1)] ++ wholes 1 7) (fun _ => voutConfigBad voutCmd)
     pf voutCmd 0 8 1 = 1 ∧ ok readyDev (fun d => d.rdF (voutOff 7) 31 1 = 0) = true ∧
       ok ((readyDev.wrF (voutOff 7) 31 1 1).wrF (voutOff 7) 16 8 (1 - readyDev.rdF (voutOff 7) 16 1))
         (fun d => d.rdF (voutOff 7) 31 1 = 1 && d.rdF (voutOff 7) 16 8 ≠ pf voutCmd 1 16 8) = true) := by decide +kernel

def tsCmd (act : Nat) (ws : List Word) : Cmd := kcmd (word (3 + 256 * act) :: ws)

/-- Whether the parameters of a TS_SET pass. -/
def tsSetOk (c : Cmd) : Bool :=
  servedOn 0x40 c ([(0, 0, 2), (0, 8, 4)] ++ tsSetUsed (pf c 0 8 4)) (fun d => tsSetBad c (d.begun c 0x40)) readyDev fun _ => true

theorem test_witness_TimeScaleCommands :
    tsSetOk (tsCmd 0 [15]) = true ∧ tsSetOk (tsCmd 1 [0xFFFFFFFF, 0xFFFF, 999999999, 0xFFFF]) = true ∧ tsSetOk (tsCmd 2 []) = true ∧
    tsSetOk (tsCmd 3 []) = true ∧ tsSetOk (tsCmd 4 []) = true ∧ tsSetOk (tsCmd 5 [37]) = true ∧ tsSetOk (tsCmd 6 [0]) = true ∧
    tsSetOk (tsCmd 7 [47, resetWord (sigOff 47)]) = true ∧ tsSetOk (tsCmd 8 [60 * 256]) = true ∧ tsSetOk (tsCmd 9 []) = false ∧
    (let d := (tsIn id).wrF (tsOff 3) 25 1 1
     d.todEn 3 = true ∧ d.srcValid 3 = false) ∧
    ((readyDev.modTs 3 fun x => { x with st := .todHold }).tsc 3).st = .todHold ∧ readyDev.cascSlave 3 = false ∧
    (readyDev.modTide fun x => { x with role := .slave }).cascSlave (readyDev.cascTs) = true ∧ readyDev.outEn 47 = false ∧
    (outIn .stopped).dev.outEn 47 = true ∧
    (let c := kcmd [3, 2, 0, 0, word (2 ^ 32 - 999999999), 0]
     let ok : Dev → (Dev → Bool) → Bool := servedOn 0x41 c [(0, 0, 2), whole 1, (2, 0, 16), whole 3, whole 4, (5, 0, 16)]
       fun _ => failIf (1000000000 ≤ (signed 32 (pf c 4 0 32)).natAbs) 128
     ok (tsIn id) (fun d => !d.cascSlave 3 && !((2 : Int) < d.presentSec 3 + 2) && (d.tsc 3).step.isNone) = true ∧
       ok (tsIn fun x => { x with step := some ⟨1, 1, 0, 0, false⟩ }) (fun d => (1 : Int) < d.presentSec 3 + 2) = true) ∧
    (∀ op : Fin 3, let c := kcmd [word (3 + 256 * op.val), 1]
      servedOn 0x42 c [(0, 0, 2), (0, 8, 2), (1, 0, 20)] (fun _ => failIf (pf c 0 8 2 = 3) 8) (tsIn id)
        (fun d => pf c 0 8 2 = op.val && !d.cascSlave 3) = true) := by decide +kernel

def portCmd (en : Bool) : Cmd := ecmd ([7, setFld (resetWord (portOff 7)) 31 1 (if en then 1 else 0)] ++
  (portWords.drop 1).map fun a => resetWord (portOff 7 + a)) 28
def sendCmd : Cmd := kcmd [word (7 + 512), 0, 0, 1996]
def clientCmd : Cmd := ecmd ([15] ++ imgAt (prOff 15) 4 ++ [15]) 25
def serverCmd : Cmd := ecmd ([23] ++ (psrvWords 7).map resetWord) 12
def pilotCmd : Cmd := ecmd ([24] ++ [resetWord 0x210010] ++ imgAt 0x210040 5) 12

theorem test_witness_PortAndPilotCommands : (7 : Fin 8) = Fin.ofNat 8 (pf (portCmd true) 0 0 3) ∧
    (∀ en : Bool,
      let ok : Dev → (Dev → Bool) → Bool := servedOn 0x50 (portCmd en) ((0, 0, 3) :: wholes 1 27) fun _ => portConfigBad (portCmd en)
      pf (portCmd en) 1 31 1 = (if en then 1 else 0) ∧ ok readyDev (fun d => (d.port 7).st = .off) = true ∧
        ok ((portIn .up).wr (portOff 7) (setFld (~~~ resetWord (portOff 7)) 31 1 0)) (fun d =>
          (d.port 7).st = .up && !bit (d.portCfg 7) 31 && linkFields (d.portCfg 7) ≠ linkFields (wordAt (portCmd true).words 1)) = true ∧
        ok ((portIn .up).wr (portOff 7) (wordAt (portCmd true).words 1))
          (fun d => linkFields (d.portCfg 7) = linkFields (wordAt (portCmd true).words 1)) = true ∧
        ok ((readyDev.wrF (portOff 7) 31 1 1).wrF (portOff 7) 25 2 3)
          (fun d => bit (d.portCfg 7) 31 && fld (d.portCfg 7) 25 2 ≠ pf (portCmd true) 1 25 2) = true) ∧
    (let ok : Dev → (Dev → Bool) → Bool :=
       servedOn 0x54 sendCmd [(0, 0, 3), (0, 8, 1), (0, 9, 1), (0, 16, 16), whole 1, whole 2, (3, 0, 11)]
         fun _ => failIf (pf sendCmd 3 0 11 < 14 || 1996 < pf sendCmd 3 0 11) 96
     ok (portIn .cal) (fun d => (d.port 7).st = .cal) = true ∧ ok (portIn .up) (fun d => (d.port 7).st = .up) = true) := by
  decide +kernel

theorem test_witness_InstanceConfigs :
    (let ok : Dev → (Dev → Bool) → Bool := servedOn 0x51 clientCmd (instUsed (pf clientCmd 0 0 5)) fun _ => ptpConfigBad clientCmd
     pf clientCmd 5 0 4 = 15 ∧ pf clientCmd 0 0 5 = (15 : Fin 16).val ∧ ok readyDev (fun d => (d.client 15).st = .disabled) = true ∧
       ok ((clientIn .listening id).wrF (prOff 15) 13 8 255)
         (fun d => (d.client 15).st ≠ .disabled && fld (d.pr 15) 13 8 ≠ pf clientCmd 1 13 8) = true) ∧
    (let ok : Dev → (Dev → Bool) → Bool := servedOn 0x51 serverCmd (instUsed (pf serverCmd 0 0 5)) fun _ => ptpConfigBad serverCmd
     pf serverCmd 0 0 5 = 16 + (7 : Fin 8).val ∧ ok readyDev (fun d => d.portClients 7 = 0) = true ∧
       ok (tableDev.wrF (psrvOff 7) 14 8 (255 - pf serverCmd 1 14 8))
         (fun d => d.portClients 7 ≠ 0 && fld (d.psrv 7) 14 8 ≠ pf serverCmd 1 14 8) = true) ∧
    servedOn 0x51 pilotCmd (instUsed (pf pilotCmd 0 0 5)) (fun _ => ptpConfigBad pilotCmd) readyDev (fun _ => pf pilotCmd 0 0 5 = 24) = true ∧
    (∀ op : Fin 2, let c := kcmd [if op = 0 then 2 + 8 * 256 else 1]
      let ok : Dev → (Dev → Bool) → Bool := servedOn 0x52 c (tableAttachUsed c) fun _ => tableAttachBad c
      pf c 0 0 1 = op.val ∧ ok readyDev (fun d => d.pilot.attached = none) = true ∧
        ok tableDev (fun d => d.pilot.attached.isSome) = true) ∧
    (∀ op : Fin 3, let c := kcmd [word (op.val + if op = 2 then 7 * 256 else 0)]
      servedOn 0x53 c (clientUpdateUsed c) (fun _ => failIf (pf c 0 0 2 = 3) 0) tableDev (fun d => pf c 0 0 2 = op.val &&
        d.entryAt 0 = some entry && d.pilot.entries.filter (fun e => e.2.dirty) = [(0, entry)] &&
        d.pilot.entries.filter (fun e => e.2.port = Fin.ofNat 8 7) = [(0, entry)]) = true) ∧
    tableDev.entryAt 1 = none := by decide +kernel

def cascCmd : Cmd := ecmd ([resetWord 0x280000, resetWord 0x280004] ++ (List.range 5).map fun i => resetWord (linkOff i)) 12

theorem test_witness_CascadeCommands :
    (let ok : Dev → (Dev → Bool) → Bool := servedOn 0x60 cascCmd (wholes 0 7) fun d => tlConfigBad cascCmd (d.begun cascCmd 0x60)
     ok readyDev (fun _ => true) = true ∧ ok ((linkIn 4 .sync id).wrF 0x280000 21 3 (7 - pf cascCmd 0 21 3))
       (fun d => fld d.tlCfg 21 3 ≠ pf cascCmd 0 21 3 && (d.link 4).st ≠ .off) = true) ∧
    (let c := kcmd [255 * 256]
     let ok : Dev → (Dev → Bool) → Bool := servedOn 0x61 c (tlElectUsed c) fun _ => tlElectBad c
     pf c 0 0 2 = 0 ∧ pf c 0 8 8 = 255 ∧ ok (readyDev.modTide fun x => { x with strapped := true }) (fun d => d.tide.strapped) = true ∧
       ok (claimDev .master 200 false) (fun d => !d.tide.strapped && d.tide.role = .master) = true ∧
       ok readyDev (fun d => !d.tide.strapped && d.tide.role ≠ .master) = true) ∧
    (let c := kcmd [10 * 256]
     pf c 0 8 8 ≠ 255 ∧ servedOn 0x61 c (tlElectUsed c) (fun _ => tlElectBad c) (claimDev .master 200 false)
       (fun d => d.tide.role = .master) = true) ∧
    (let c := kcmd [1]
     let ok : Dev → (Dev → Bool) → Bool := servedOn 0x61 c (tlElectUsed c) fun _ => tlElectBad c
     let on : Option (Fin 5) → Dev := fun a => (claimDev .slave 100 false).modTide fun x => { x with mId := 7, active := a }
     let same : Dev → Bool := fun d => d.eligible 0 && (d.link 0).last = some tideFrame && tideFrame.mId = d.tide.mId
     pf c 0 0 2 = 1 ∧ Fin.ofNat 5 (pf c 0 16 3) = 0 ∧ ok readyDev (fun d => !d.eligible 0) = true ∧
       ok (on (some 0)) (fun d => same d && d.tide.active = some (0 : Fin 5)) = true ∧
       ok (on (some 4)) (fun d => same d && d.tide.active = some (4 : Fin 5)) = true ∧
       ok (on none) (fun d => same d && d.tide.active = none) = true) := by decide +kernel

theorem test_witness_FirmwareCommands :
    (kcmd []).src = .keeper ∧ descOp [0x80, 0, 0, 0] = 0x80 ∧
    (let c := qcmd [word (4194304 - 512), 1, 0, 512]
     let off := (wordAt c.words 0).toNat
     let len := (wordAt c.words 3).toNat
     let bad := failIf (off % 256 ≠ 0 || 4194304 < off + len) 0 ++ failIf (len < 256 || 4096 < len || len % 256 ≠ 0) 96
     let ok : Dev → (Dev → Bool) → Bool := servedOn 0x80 c (wholes 0 4) fun _ => bad
     c.src ≠ .keeper ∧ pf c 1 0 1 = 1 ∧ min (len / 256) (((ringDev 4 true).stopPoint c none).getD (len / 256)) = len / 256 ∧
       min (len / 256) (((ringDev 4 true).stopPoint c (some 1)).getD (len / 256)) < len / 256 ∧
       ok (ringDev 4 true) (fun d => d.fw.state ≠ .trial && !d.fw.session) = true ∧
       ok ((ringDev 4 true).modFw fun f => { f with state := .trial }) (fun d => d.fw.state = .trial) = true ∧
       ok ((ringDev 4 true).modFw fun f => { f with session := true, programmed := [off / 256] })
         (fun d => d.fw.session && d.fw.programmed = [off / 256]) = true) ∧
    (∀ op : Fin 3, let c := kcmd [word op.val]
      let ok : Dev → (Dev → Bool) → Bool := servedOn 0x81 c [(0, 0, 2)] fun _ => failIf (pf c 0 0 2 = 3) 0
      pf c 0 0 2 = op.val ∧ ok readyDev (fun d => d.fw.state = .idle) = true ∧
        ok (readyDev.modFw fun f => { f with state := .writing }) (fun d => d.fw.state = .writing) = true ∧
        ok (readyDev.modFw fun f => { f with state := .verified }) (fun d => d.fw.state = .verified) = true ∧
        ok (readyDev.modFw fun f => { f with state := .trial }) (fun d => d.fw.state = .trial) = true) := by decide +kernel

theorem test_witness_FirmwarePowerAndFaultCommands :
    (∀ w : Fin 2, let c := kcmd [if w = 0 then 0 else 3]
      let ok : Dev → (Dev → Bool) → Bool := servedOn 0x90 c [(0, 0, 2)] fun _ => []
      ok (pwrWith fun p => { p with pf := .held }) (fun d => d.pwr.pf ≠ .normal) = true ∧
        ok (pwrWith fun p => { p with avs := .initAck }) (fun d => d.pwr.pf = .normal && d.pwr.avs ≠ .rest) = true ∧
        ok (pwrWith fun p => { p with avs := .rest, inForce := if w = 0 then 0 else 3 }) (fun d =>
          d.pwr.pf = .normal && d.pwr.avs = .rest && min (pf c 0 0 2) d.pwr.cap.toNat = d.pwr.inForce.toNat) = true ∧
        ok (pwrWith fun p => { p with avs := .rest, inForce := if w = 0 then 3 else 0 }) (fun d =>
          if w = 0 then min (pf c 0 0 2) d.pwr.cap.toNat < d.pwr.inForce.toNat
          else d.pwr.inForce.toNat < min (pf c 0 0 2) d.pwr.cap.toNat) = true) ∧
    (let c := kcmd [1]
     let ok : Dev → (Dev → Bool) → Bool := servedOn 0x91 c [(0, 0, 1)] fun _ => []
     ok readyDev (fun d => !d.pwr.vbakOk) = true ∧
       ok (pwrWith fun p => { p with vbakOk := true, pf := .held }) (fun d => d.pwr.vbakOk && d.pwr.pf ≠ .normal) = true ∧
       ok (pwrWith fun p => { p with vbakOk := true }) (fun d => d.pwr.vbakOk && d.pwr.pf = .normal) = true) ∧
    (let c := ecmd ([191] ++ imgAt (fltOff 191) 4) 12
     pf c 0 0 8 = (191 : Fin 192).val ∧ servedOn 0xA0 c ((0, 0, 8) :: wholes 1 4)
       (fun _ => failIf (192 ≤ pf c 0 0 8) 0 ++ imagesBad c 1 (fltOff 0) 4 ++
         failIf (pf c 0 0 8 < 192 && setsBad (pf c 0 0 8) (wordAt c.words 1)) 0 ++ failIf (thrBad (wordAt c.words 2)) 64) readyDev
       (fun _ => true) = true) := by decide +kernel

/-! ### Steps -/

/-- Whether a step answers a next state with no command waiting whose device passes a check. -/
def after (c : Instr) (d : Dev) (f : Dev → Bool) : Bool :=
  match step ⟨d, [c]⟩ with
  | .next t => t.pending.isEmpty && f t.dev
  | _ => false

/-- The state after a step, for a test that takes a second one. -/
def next (c : Instr) (d : Dev) : Dev :=
  match step ⟨d, [c]⟩ with
  | .next t => t.dev
  | _ => d

/-- A driver writes TOP_RUN again over PCIe (the example of chapter 2): the capture of a LOCKED violation. -/
theorem test_topRun_locked : after (.topRunWrite .pcie 1) readyDev (fun d =>
    d.rd 0x050000 = 0x00000008 && d.rd 0x050004 = 0x81080000 && d.rd 0x050008 = 0x00000001 && d.rd 0x050010 = 1) = true := by
  decide +kernel

/-- The read of 0x06_0000 that follows it returns 0 and raises MORE. -/
theorem test_read_unimplemented : after (.registerRead .pcie .word 0x060000 15) (next (.topRunWrite .pcie 1) readyDev) (fun d =>
    decide ((d.chk.ports.get 0).resp.data = [0, 0, 0, 0]) && d.rd 0x050000 = 8 && d.rd 0x050004 = 0x81080001 && d.rd 0x050010 = 2) = true := by
  decide +kernel

/-- The release of the autopilot in two writes (Table 2-5). -/
theorem test_apRelease : after (.apRelease .pcie) autoDev (fun d => d.keeper.sup.ap = .normal) = true := by decide +kernel

/-- The matrix entries of the examples of chapters 3 and 4. -/
theorem test_pairIdx : pairIdx 1 32 = 93 ∧ pairIdx 0 1 = 0 ∧ pairIdx 37 38 = 1665 := by decide +kernel

/-- The reject level of the example of chapter 4 and its accept level, in FU. -/
theorem test_xoBand : xoBand 1200 = 3377699724 ∧ xoBand 1000 = 2814749770 := by decide +kernel

/-- The default slope limit is 14,073,749 FU, with a quarter of 3,518,437 FU (the examples of chapter 5). -/
theorem test_slope : readyDev.slopeS 1 = 14073749 ∧ readyDev.slopeS 5 / 4 = 3518437 := by decide +kernel

/-- CH1 with BW 3 Hz, ζ 5 and T_u 1 µs (the example of chapter 5): KP = 80.157 and KI = 1.49596 × 10^-5 to the digits given. -/
theorem test_coefs :
    (let k := binary32 (exactKP (30000, 1) 80)
     k.2 = -17 ∧ 801565 * 2 ^ 17 ≤ k.1 * 10 ^ 4 ∧ k.1 * 10 ^ 4 < 801575 * 2 ^ 17) ∧
    (let k := binary32 (exactKI (30000, 1) 80 (65536000, 1))
     k.2 = -40 ∧ 1495955 * 2 ^ 40 ≤ k.1 * 10 ^ 11 ∧ k.1 * 10 ^ 11 < 1495965 * 2 ^ 40) := by decide +kernel

/-- −1 ppb reads 0xFF and 0xFFFB_B47D (the example of R28). -/
theorem test_ffo : (readyDev.pub40 (chanOff 2 + 0x40) (-281475)).rd (chanOff 2 + 0x40) = 0xFFFBB47D ∧
    fld ((readyDev.pub40 (chanOff 2 + 0x40) (-281475)).rd (chanOff 2 + 0x44)) 0 8 = 0xFF := by decide +kernel

/-- LAN0 at NINT 125, LDIV 8 and OD 10 gives 156.25 MHz (the example of chapter 7). -/
theorem test_fOut :
    (let d := ((readyDev.wr (lanOff 0) (word (125 + 4 * 16777216))).wr (lanOff 0 + 4) 0).wr (lanOff 0 + 8) 1
     let f := d.fOut 0 (outRatio 9 0 0 1)
     (d.lanVco 0).1 = 12500000000 * (d.lanVco 0).2 ∧ f.1 = 156250000 * f.2) := by decide +kernel

/-- The leap second of 2027-06-30 (the example of chapter 8): UTC_OFFSET 37 changes at 1,814,400,038. -/
theorem test_leapEdge : leapEdge 37 false 20999 = 1814400038 := by decide +kernel

/-- The same leap second: UTC 2027-06-30 23:59:60 at TS0 = 1,814,400,037 s, and the LTC count repeats 23:59:59 (Table 8-5). -/
theorem test_insertedSecond :
    (let d := (readyDev.wrF (tsOff 3 + 4) 0 10 37).modTs 3 fun x => { x with leap := some (false, 20999) }
     d.utcAt 3 (1814400037 * grPerSec) = ⟨20999, 86400, 0⟩ ∧ d.utcAt 3 (1814400036 * grPerSec) = ⟨20999, 86399, 0⟩ ∧
       d.utcCount 3 (1814400037 * grPerSec) = d.utcCount 3 (1814400036 * grPerSec)) := by decide +kernel

/-- After TS0 = 1,814,400,000 s the next ten-field sequence begins at 79,333,333 ns 21,845 gr, and with PIXELS = 27 its 0H lies at
79,335,333 ns 21,845 gr (the examples of chapter 8). -/
theorem test_nextStart : nextStart (voutPeriod 0x01) (1814400000 * grPerSec) = tripleGr ⟨1814400000, 79333333, 21845⟩ ∧
    voutZeroAt 0x01 0x0000001B 0 10875524476 = tripleGr ⟨1814400000, 79335333, 21845⟩ := by decide +kernel

/-- The PTP second of a UTC date: 2017-01-01 00:00:00, which the message names as 23:59:60, is day 17,167. -/
theorem test_todSecond : todSecond todMsg = 17167 * 86400 := by decide +kernel

/-- TL0 with 10 m of cable (the example of chapter 11): TL0_DELAY_LO reads 0x0032_0083. -/
theorem test_ranging : after (.rangingExchange 0 1)
    ((linkIn 0 .ranging fun x => { x with own := some ⟨1, 2000 * 65536⟩, heard := some ⟨1, 2100 * 65536⟩ }).wr (linkOff 0) 262) (fun d =>
    (d.link 0).delays = [3276931] && d.rd (linkOff 0 + 0x18) = 0x00320083) = true := by decide +kernel

/-- 12 h with 50 ppb is 2,160 µs, and with 2,000 ppm 86.4 s. -/
theorem test_anchorUnc : anchorUnc (word (50 + 2000 * 65536)) 43200000000 0 = 2160 ∧
    anchorUnc (word (50 + 2000 * 65536)) 0 43200000000 = 86400000 := by decide +kernel

/-- The leak period at the reset values is 15,000 ms (the example of chapter 17). -/
theorem test_leakPeriod : readyDev.fltPeriod 0 = 15000000 := by decide +kernel

/-- The check value of CRC-32C (Castagnoli). -/
theorem test_crc32c : crc32c [0x31, 0x32, 0x33, 0x34, 0x35, 0x36, 0x37, 0x38, 0x39] = 0xE3069283 := by decide +kernel
end Sys2Proof.Machine
end

section
/-! Fields of a word: what a field reads after a write to the same field and to one below it. -/

namespace Sys2Proof.Machine

/-- A written field stands between the bits above it and the bits below it, both as they were. -/
theorem toNat_setFld (w : Word) {lo width : Nat} (v : Nat) (h : lo + width ≤ 32) :
    (setFld w lo width v).toNat =
      w.toNat % 2 ^ lo + 2 ^ lo * (v % 2 ^ width + 2 ^ width * (w.toNat / 2 ^ (lo + width))) := by
  have hv : v % 2 ^ width < 2 ^ width := Nat.mod_lt _ (Nat.two_pow_pos _)
  have hr : w.toNat % 2 ^ lo < 2 ^ lo := Nat.mod_lt _ (Nat.two_pow_pos _)
  have hw : w.toNat = w.toNat % 2 ^ lo + 2 ^ lo * (fld w lo width + 2 ^ width * (w.toNat / 2 ^ (lo + width))) := by
    rw [fld, pow_add, ← Nat.div_div_eq_div_mul, Nat.mod_add_div, Nat.mod_add_div]
  have hq : w.toNat / 2 ^ (lo + width) < 2 ^ (32 - (lo + width)) := by
    rw [Nat.div_lt_iff_lt_mul (Nat.two_pow_pos _), ← pow_add, Nat.sub_add_cancel h]
    exact w.isLt
  have hsum : w.toNat - fld w lo width * 2 ^ lo + v % 2 ^ width * 2 ^ lo =
      w.toNat % 2 ^ lo + 2 ^ lo * (v % 2 ^ width + 2 ^ width * (w.toNat / 2 ^ (lo + width))) := by
    rw [Nat.mul_add] at hw ⊢
    rw [Nat.mul_comm _ (2 ^ lo), Nat.mul_comm _ (2 ^ lo)]
    omega
  have hlt : w.toNat % 2 ^ lo + 2 ^ lo * (v % 2 ^ width + 2 ^ width * (w.toNat / 2 ^ (lo + width))) < 2 ^ 32 := by
    calc _ < 2 ^ lo * (v % 2 ^ width + 2 ^ width * (w.toNat / 2 ^ (lo + width)) + 1) := by rw [Nat.mul_add_one]; omega
      _ ≤ 2 ^ lo * (2 ^ width * (w.toNat / 2 ^ (lo + width) + 1)) := Nat.mul_le_mul_left _ (by rw [Nat.mul_add_one]; omega)
      _ ≤ 2 ^ lo * (2 ^ width * 2 ^ (32 - (lo + width))) := Nat.mul_le_mul_left _ (Nat.mul_le_mul_left _ hq)
      _ = 2 ^ 32 := by rw [← pow_add, ← pow_add, ← Nat.add_assoc, Nat.add_sub_cancel' h]
  rw [setFld, BitVec.toNat_ofNat, hsum, Nat.mod_eq_of_lt hlt]

theorem fld_setFld_same (w : Word) {lo width : Nat} (v : Nat) (h : lo + width ≤ 32) :
    fld (setFld w lo width v) lo width = v % 2 ^ width := by
  rw [fld, toNat_setFld w v h, Nat.add_mul_div_left _ _ (Nat.two_pow_pos _),
    Nat.div_eq_of_lt (Nat.mod_lt _ (Nat.two_pow_pos _)), Nat.zero_add, Nat.add_mul_mod_self_left, Nat.mod_mod]

/-- A field above a written one reads as before. -/
theorem fld_setFld_above (w : Word) {lo width lo' width' : Nat} (v : Nat) (h : lo + width ≤ 32) (h' : lo + width ≤ lo') :
    fld (setFld w lo width v) lo' width' = fld w lo' width' := by
  obtain ⟨k, rfl⟩ := Nat.exists_eq_add_of_le h'
  have hhi : (setFld w lo width v).toNat / 2 ^ (lo + width) = w.toNat / 2 ^ (lo + width) := by
    rw [toNat_setFld w v h, pow_add, ← Nat.div_div_eq_div_mul, Nat.add_mul_div_left _ _ (Nat.two_pow_pos _),
      Nat.div_eq_of_lt (Nat.mod_lt _ (Nat.two_pow_pos _)), Nat.zero_add, Nat.add_mul_div_left _ _ (Nat.two_pow_pos _),
      Nat.div_eq_of_lt (Nat.mod_lt _ (Nat.two_pow_pos _)), Nat.zero_add]
  rw [fld, fld, pow_add 2 (lo + width), ← Nat.div_div_eq_div_mul, hhi, Nat.div_div_eq_div_mul]

theorem satN_eq_min (width n : Nat) : satN width n = min n (2 ^ width - 1) := by
  unfold satN
  split <;> omega

theorem satN_lt (width n : Nat) : satN width n < 2 ^ width := by
  have := Nat.two_pow_pos width
  rw [satN_eq_min]
  omega

/-- Two steps of a saturating counter are one step of 2. -/
theorem satN_succ (width n : Nat) : satN width (satN width (n + 1) + 1) = satN width (n + 2) := by
  simp only [satN_eq_min]
  omega

theorem rd_of_regs {d d' : Dev} (h : d'.regs = d.regs) (a : Nat) : d'.rd a = d.rd a := by rw [Dev.rd, h, Dev.rd]

/-! ### Counters -/

theorem rd_bump_ne {off a : Nat} (lo width : Nat) (d : Dev) (h : off ≠ a) : (d.bump off lo width).rd a = d.rd a :=
  rd_wr_ne _ d h

theorem rdF_bump_same (off : Nat) {lo width : Nat} (d : Dev) (h : lo + width ≤ 32) :
    (d.bump off lo width).rdF off lo width = satN width (d.rdF off lo width + 1) := by
  rw [Dev.rdF, Dev.bump, Dev.bumpBy, Dev.wrF, rd_wr_same, fld_setFld_same _ _ h, Nat.mod_eq_of_lt (satN_lt _ _)]

theorem rdF_bump_above (off : Nat) {lo width lo' width' : Nat} (d : Dev) (h : lo + width ≤ 32) (h' : lo + width ≤ lo') :
    (d.bump off lo width).rdF off lo' width' = d.rdF off lo' width' := by
  rw [Dev.rdF, Dev.bump, Dev.bumpBy, Dev.wrF, rd_wr_same, fld_setFld_above _ _ h h', Dev.rdF]

/-! ### What a statement says of the registers that stay -/

theorem KeepsRegs.trans {l : List Nat} {d d₁ d₂ : Dev} (h₁ : KeepsRegs l d d₁) (h₂ : KeepsRegs l d₁ d₂) : KeepsRegs l d d₂ :=
  fun a ha he => (h₂ a ha he).trans (h₁ a ha he)

theorem KeepsRegs.mono {l l' : List Nat} {d d' : Dev} (h : KeepsRegs l d d') (hl : l ⊆ l') : KeepsRegs l' d d' :=
  fun a ha he => h a (fun hm => ha (hl hm)) he

/-! ### Entries of a ring: the words they leave alone -/

theorem bar4Put_regs (a : Nat) (b : Byte) (d : Dev) : (d.bar4Put a b).regs = d.regs := by
  unfold Dev.bar4Put
  split <;> rfl

theorem bar4Write_regs (bs : List Byte) : ∀ (a : Nat) (d : Dev), (d.bar4Write a bs).regs = d.regs := by
  induction bs with
  | nil => intro a d; rfl
  | cons b bs ih => intro a d; exact (ih (a + 1) (d.bar4Put a b)).trans (bar4Put_regs a b d)

theorem memWrite_regs (b : Bool) (a : Nat) (bs : List Byte) (d : Dev) : (d.memWrite b a bs).regs = d.regs := by
  cases b
  · show (d.post a bs).regs = d.regs
    unfold Dev.post
    split <;> rfl
  · exact bar4Write_regs bs a d

theorem signal_regs (r : Fin 26) (d : Dev) : (d.signal r).regs = d.regs := by
  show (d.vectorSignal _).regs = d.regs
  unfold Dev.vectorSignal
  split <;> rfl

theorem notice_regs (r : Fin 26) (was new : Bool) (d : Dev) : (d.notice r was new).regs = d.regs := by
  have hs := signal_regs r d
  unfold Dev.notice
  split
  · rfl
  split
  · exact hs
  split
  · rfl
  cases (d.ring r).signalled with
  | none => exact hs
  | some t =>
    dsimp only
    split
    · exact hs
    · rfl

theorem ringPut_regs (r : Fin 26) (e : List Byte) (d : Dev) : (d.ringPut r e).regs = d.regs := by
  refine (notice_regs r _ true _).trans ?_
  exact (memWrite_regs _ _ _ _).trans (memWrite_regs _ _ _ d)

/-- A numbered entry writes no register but the drop counter of its ring. -/
theorem rd_ringEntry {r : Fin 26} {a : Nat} (mk : Word → List Byte) (d : Dev) (h : ringOff r + 0x10 ≠ a) :
    (d.ringEntry r mk).rd a = d.rd a := by
  simp only [Dev.ringEntry]
  split
  · exact rd_of_regs (ringPut_regs r _ _) a
  · exact rd_bump_ne 16 16 _ h

theorem rd_logEnt {a : Nat} (kind obj blk : Nat) (data : List Byte) (d : Dev) (h : ringOff 9 + 0x10 ≠ a) :
    (d.logEnt kind obj blk data).rd a = d.rd a := rd_ringEntry _ d h

end Sys2Proof.Machine
end

section
/-! Violations (R70 to R73): the record of one, said once for every access that is discarded. -/

namespace Sys2Proof.Machine

/-- REG_VIOL_ADDR of a violation. -/
def violAddr (space off : Nat) : Word := word (off % 4194304 + space * 16777216)

theorem violAddr_bar0 (off : Nat) : violAddr 0 off = word (off % 4194304) := by rw [violAddr, Nat.zero_mul, Nat.add_zero]

/-- REG_VIOL_INFO of a violation, its bits VALID and MORE left 0. -/
def violInfo (i : Iface) (why : Reason) (write : Bool) : Nat :=
  why.code * 16777216 + (ifaceIdx i).val * 1048576 + bitAt 19 write

/-- The capture of a violation, or its count in MORE while an earlier one stands (R70). -/
def Dev.violCapture (addr : Word) (info : Nat) (data : Word) (d : Dev) : Dev :=
  if bit (d.rd 0x050004) 31 then d.bump 0x050004 0 16
  else ((d.wr 0x050000 addr).wr 0x050004 (word (2147483648 + info))).wr 0x050008 data

/-- The violations of the running second so far. -/
def Dev.violsNow (d : Dev) : Nat := if d.chk.logSecond = d.clk.aonUs / 1000000 then d.chk.logged else 0

/-- One violation more in the running second. -/
def Dev.violTick (d : Dev) : Dev :=
  d.modChk fun c => { c with logSecond := d.clk.aonUs / 1000000, logged := d.violsNow + 1 }

/-- The log entry of a violation, at most 1,000 in a second (R71). -/
def Dev.violLog (addr : Word) (info : Nat) (data : Word) (d : Dev) : Dev :=
  if d.violsNow < 1000 then d.violTick.logEnt 0x81 0 5 (wordBytes addr ++ wordBytes (word info) ++ wordBytes data) else d.violTick

/-- A violation is counted, reported, captured and logged, in this order. -/
theorem violate_eq (i : Iface) (space off : Nat) (why : Reason) (write : Bool) (data : Word) (d : Dev) :
    d.violate i space off why write data =
      ((((d.bump 0x050010 0 32).occur 0 0).violCapture (violAddr space off) (violInfo i why write) data).violLog
        (violAddr space off) (violInfo i why write) data) := rfl

/-! ### The capture and the log entry -/

theorem violInfo_lt (i : Iface) (why : Reason) (write : Bool) : violInfo i why write < 2 ^ 27 := by
  have hc : why.code ≤ 6 := by cases why <;> decide
  have hb : bitAt 19 write ≤ 524288 := by cases write <;> decide
  have := (ifaceIdx i).isLt
  unfold violInfo
  omega

theorem violInfo_valid (i : Iface) (why : Reason) (write : Bool) : bit (word (2147483648 + violInfo i why write)) 31 = true := by
  have := violInfo_lt i why write
  simp only [bit, fld, word, BitVec.toNat_ofNat, beq_iff_eq]
  omega

theorem violInfo_reason (i : Iface) (why : Reason) (write : Bool) :
    fld (word (2147483648 + violInfo i why write)) 24 3 = why.code := by
  have hc : why.code ≤ 6 := by cases why <;> decide
  have hb : bitAt 19 write ≤ 524288 := by cases write <;> decide
  have := (ifaceIdx i).isLt
  simp only [fld, word, BitVec.toNat_ofNat, violInfo]
  omega

theorem violInfo_more (i : Iface) (why : Reason) (write : Bool) :
    fld (word (2147483648 + violInfo i why write)) 0 16 = 0 := by
  have hb : bitAt 19 write = 0 ∨ bitAt 19 write = 524288 := by cases write <;> decide
  simp only [fld, word, BitVec.toNat_ofNat, violInfo]
  omega

theorem violCapture_only (addr : Word) (info : Nat) (data : Word) (d : Dev) :
    d.violCapture addr info data = { d with regs := (d.violCapture addr info data).regs } := by
  unfold Dev.violCapture
  split <;> rfl

theorem rd_violCapture {a : Nat} (addr : Word) (info : Nat) (data : Word) (d : Dev) (h0 : 0x050000 ≠ a) (h4 : 0x050004 ≠ a)
    (h8 : 0x050008 ≠ a) : (d.violCapture addr info data).rd a = d.rd a := by
  unfold Dev.violCapture
  split
  · exact rd_bump_ne 0 16 d h4
  · rw [rd_wr_ne _ _ h8, rd_wr_ne _ _ h4, rd_wr_ne _ _ h0]

theorem violLog_io (addr : Word) (info : Nat) (data : Word) (d : Dev) : OnlyIo d.violTick (d.violLog addr info data) := by
  unfold Dev.violLog
  split
  · exact logEnt_io _ _ _ _ _
  · exact OnlyIo.refl _

theorem rd_violLog {a : Nat} (addr : Word) (info : Nat) (data : Word) (d : Dev) (h : ringOff 9 + 0x10 ≠ a) :
    (d.violLog addr info data).rd a = d.rd a := by
  unfold Dev.violLog
  split
  · exact rd_logEnt _ _ _ _ _ h
  · rfl

/-! ### A violation -/

section
variable (i : Iface) (space off : Nat) (why : Reason) (write : Bool) (data : Word) (d : Dev)

/-- A violation leaves every interface's guard and pending words. -/
theorem violate_ports : (d.violate i space off why write data).chk.ports = d.chk.ports := by
  rw [violate_eq, (violLog_io _ _ _ _).chk, violCapture_only]
  rfl

theorem violate_top : (d.violate i space off why write data).top = d.top := by
  rw [violate_eq, (violLog_io _ _ _ _).top, violCapture_only]
  rfl

theorem violate_watch : (d.violate i space off why write data).watch = ((d.bump 0x050010 0 32).occur 0 0).watch := by
  rw [violate_eq, (violLog_io _ _ _ _).watch, violCapture_only]
  rfl

theorem violate_reports : Reports 0 0 d (d.violate i space off why write data) :=
  ⟨_, violate_watch i space off why write data d, rfl⟩

theorem violate_counts : Counts 0x050010 0 32 d (d.violate i space off why write data) := by
  unfold Counts
  rw [violate_eq, Dev.rdF, rd_violLog _ _ _ _ (by decide), rd_violCapture _ _ _ _ (by decide) (by decide) (by decide)]
  exact rdF_bump_same 0x050010 d (by decide)

theorem violate_keepsRegs : KeepsRegs [0x050000, 0x050004, 0x050008, 0x050010] d (d.violate i space off why write data) := by
  intro a ha he
  simp only [List.mem_cons, List.not_mem_nil, or_false, not_or] at ha
  obtain ⟨h0, h4, h8, h10⟩ := ha
  have hdrop : ringOff 9 + 0x10 ≠ a := fun h => he (Or.inr (Or.inl h.symm))
  rw [violate_eq, rd_violLog _ _ _ _ hdrop, rd_violCapture _ _ _ _ (Ne.symm h0) (Ne.symm h4) (Ne.symm h8)]
  exact rd_bump_ne 0 32 d (Ne.symm h10)

/-- The words of a capture, where none stood. -/
theorem violate_captures (h : bit (d.rd 0x050004) 31 = false) :
    (d.violate i space off why write data).rd 0x050000 = violAddr space off ∧
      (d.violate i space off why write data).rd 0x050004 = word (2147483648 + violInfo i why write) := by
  have hfree : bit (((d.bump 0x050010 0 32).occur 0 0).rd 0x050004) 31 = false := by
    rw [show ((d.bump 0x050010 0 32).occur 0 0).rd 0x050004 = d.rd 0x050004 from rd_bump_ne 0 32 d (by decide), h]
  constructor
  · rw [violate_eq, rd_violLog _ _ _ _ (by decide), Dev.violCapture, if_neg (by simp [hfree]), rd_wr_ne _ _ (by decide),
      rd_wr_ne _ _ (by decide), rd_wr_same]
  · rw [violate_eq, rd_violLog _ _ _ _ (by decide), Dev.violCapture, if_neg (by simp [hfree]), rd_wr_ne _ _ (by decide), rd_wr_same]

/-- A capture that stands keeps its words, and MORE counts. -/
theorem violate_counts_more (h : bit (d.rd 0x050004) 31 = true) :
    (d.violate i space off why write data).rd 0x050000 = d.rd 0x050000 ∧
      (d.violate i space off why write data).rdF 0x050004 24 3 = d.rdF 0x050004 24 3 ∧
      Counts 0x050004 0 16 d (d.violate i space off why write data) := by
  have hinfo : ((d.bump 0x050010 0 32).occur 0 0).rd 0x050004 = d.rd 0x050004 := rd_bump_ne 0 32 d (by decide)
  have hrd : ∀ a, ringOff 9 + 0x10 ≠ a → (d.violate i space off why write data).rd a =
      (((d.bump 0x050010 0 32).occur 0 0).bump 0x050004 0 16).rd a := fun a ha => by
    rw [violate_eq, rd_violLog _ _ _ _ ha, Dev.violCapture, if_pos (by rw [hinfo, h])]
  refine ⟨?_, ?_, ?_⟩
  · rw [hrd _ (by decide), rd_bump_ne 0 16 _ (by decide)]
    exact rd_bump_ne 0 32 d (by decide)
  · rw [Dev.rdF, hrd _ (by decide)]
    exact (rdF_bump_above 0x050004 _ (by decide) (by decide)).trans (congrArg (fld · 24 3) hinfo)
  · unfold Counts
    rw [Dev.rdF, hrd _ (by decide)]
    exact (rdF_bump_same 0x050004 _ (by decide)).trans (congrArg (fun w => satN 16 (fld w 0 16 + 1)) hinfo)

end

end Sys2Proof.Machine
end

section
/-! The access port of an interface: its guard, its answer, and steps 1 to 3 of the checks. -/

namespace Sys2Proof.Machine

theorem guardOf_of_ports {d d' : Dev} (i : Iface) (h : d'.chk.ports = d.chk.ports) : d'.guardOf i = d.guardOf i := by
  rw [Dev.guardOf, h, Dev.guardOf]

@[simp] theorem guardOf_setGuard_same (i : Iface) (g : Option Guard) (d : Dev) : (d.setGuard i g).guardOf i = g := by
  simp [Dev.guardOf, Dev.setGuard, Vector.get_eq_getElem]

/-- Steps 1 to 3 ask the device only what TOP holds. -/
theorem steps123_of_top {d d' : Dev} (h : d'.top = d.top) (i : Iface) (a : Nat) (write : Bool) :
    d'.steps123 i a write = d.steps123 i a write := by
  have hearly : d'.early a write = d.early a write := by
    unfold Dev.early Dev.blockReady
    rw [h]
  unfold Dev.steps123
  rw [hearly]

/-! ### The answer -/

@[simp] theorem guardOf_answer (i j : Iface) (r : Resp) (d : Dev) : (d.answer (ifaceIdx j) r).guardOf i = d.guardOf i := by
  by_cases h : ifaceIdx j = ifaceIdx i
  · simp [Dev.guardOf, Dev.answer, Vector.get_eq_getElem, h]
  · simp [Dev.guardOf, Dev.answer, Vector.get_eq_getElem, Fin.val_ne_of_ne h]

section
variable (i : Iface) (why : Option Reason) (data : List Byte) (d : Dev)

@[simp] theorem guardOf_respond (j : Iface) : (d.respond i why data).guardOf j = d.guardOf j := by
  simp only [Dev.respond, guardOf_answer]
  split <;> rfl

@[simp] theorem respond_watch : (d.respond i why data).watch = d.watch := by
  simp only [Dev.respond, Dev.answer, modChk_watch]
  split <;> rfl

theorem rd_respond {a : Nat} (h : 0x2C0018 ≠ a) : (d.respond i why data).rd a = d.rd a := by
  show (if _ then d.bump 0x2C0018 0 16 else d).rd a = _
  split
  · exact rd_bump_ne 0 16 d h
  · rfl

theorem respond_keepsRegs : KeepsRegs [0x2C0018] d (d.respond i why data) := fun _ ha _ =>
  rd_respond i why data d fun h => ha (h ▸ List.mem_singleton_self _)

end

/-! ### A discarded write: its record, then the answer to the transaction -/

/-- A BAR0 write of `v` at `off` discarded with reason `why`: recorded, then answered (Tables 2-6 and 2-7). -/
def Dev.discard (i : Iface) (off : Nat) (why : Reason) (v : Word) (d : Dev) : Dev :=
  (d.violate i 0 off why true v).respond i (some why) []

/-- A register write whose checks fail is the discard of that write. -/
theorem regWrite_of_fail {i : Iface} {off a be : Nat} {v hw : Word} {why : Reason} {d e : Dev}
    (h : d.busWrite i off v be hw = e.fail i a why v) : regWrite i off v be hw d = e.discard i a why v := by
  rw [regWrite, h]
  rfl

/-- The registers that a discarded write may change: the record and the SPI error count. -/
def discardRegs : List Nat := [0x050000, 0x050004, 0x050008, 0x050010, 0x2C0018]

section
variable (i : Iface) (off : Nat) (why : Reason) (v : Word) (d : Dev)

theorem rd_discard {a : Nat} (h : 0x2C0018 ≠ a) : (d.discard i off why v).rd a = (d.violate i 0 off why true v).rd a :=
  rd_respond _ _ _ _ h

@[simp] theorem guardOf_discard : (d.discard i off why v).guardOf i = d.guardOf i :=
  (guardOf_respond _ _ _ _ _).trans (guardOf_of_ports i (violate_ports ..))

theorem discard_reports : Reports 0 0 d (d.discard i off why v) := by
  obtain ⟨r, hr, ho⟩ := violate_reports i 0 off why true v d
  exact ⟨r, (respond_watch ..).trans hr, ho⟩

theorem discard_counts : Counts 0x050010 0 32 d (d.discard i off why v) := by
  rw [Counts, Dev.rdF, rd_discard _ _ _ _ _ (by decide)]
  exact violate_counts ..

theorem discard_keepsRegs : KeepsRegs discardRegs d (d.discard i off why v) :=
  ((violate_keepsRegs i 0 off why true v d).mono (by simp [discardRegs])).trans
    ((respond_keepsRegs i (some why) [] _).mono (by simp [discardRegs]))

/-- Where no capture stood, the discarded write is captured. -/
theorem discard_captures (h : bit (d.rd 0x050004) 31 = false) :
    (d.discard i off why v).rd 0x050000 = word (off % 4194304) ∧ (d.discard i off why v).rdF 0x050004 24 3 = why.code := by
  obtain ⟨haddr, hinfo⟩ := violate_captures i 0 off why true v d h
  refine ⟨(rd_discard _ _ _ _ _ (by decide)).trans (haddr.trans (violAddr_bar0 off)), ?_⟩
  rw [Dev.rdF, rd_discard _ _ _ _ _ (by decide), hinfo, violInfo_reason]

/-- Where a capture stood, it stays and MORE counts. -/
theorem discard_counts_more (h : bit (d.rd 0x050004) 31 = true) :
    (d.discard i off why v).rd 0x050000 = d.rd 0x050000 ∧ (d.discard i off why v).rdF 0x050004 24 3 = d.rdF 0x050004 24 3 ∧
      Counts 0x050004 0 16 d (d.discard i off why v) := by
  obtain ⟨haddr, hwhy, hmore⟩ := violate_counts_more i 0 off why true v d h
  refine ⟨(rd_discard _ _ _ _ _ (by decide)).trans haddr, ?_, ?_⟩
  · rwa [Dev.rdF, rd_discard _ _ _ _ _ (by decide)]
  · rwa [Counts, Dev.rdF, rd_discard _ _ _ _ _ (by decide)]

end

/-! ### A guard that breaks (R55) -/

theorem guardBreak_unarmed {i : Iface} {d : Dev} (h : d.guardOf i = none) : d.guardBreak i = d := by
  rw [Dev.guardBreak, h]

theorem guardBreak_armed {i : Iface} {d : Dev} {g : Guard} (h : d.guardOf i = some g) :
    d.guardBreak i = (d.setGuard i none).violate i 0 g.off .guard true g.val := by
  rw [Dev.guardBreak, h]

@[simp] theorem guardOf_guardBreak (i : Iface) (d : Dev) : (d.guardBreak i).guardOf i = none := by
  cases h : d.guardOf i with
  | none => rw [guardBreak_unarmed h, h]
  | some g => rw [guardBreak_armed h, guardOf_of_ports i (violate_ports ..), guardOf_setGuard_same]

@[simp] theorem guardBreak_top (i : Iface) (d : Dev) : (d.guardBreak i).top = d.top := by
  cases h : d.guardOf i with
  | none => rw [guardBreak_unarmed h]
  | some g => exact (congrArg Dev.top (guardBreak_armed h)).trans (violate_top ..)

end Sys2Proof.Machine
end

section
/-! Accesses to complement addresses (R56). -/

namespace Sys2Proof.Machine

section
variable {i : Iface} {a : Nat} {r : RegDesc} {d : Dev}

theorem writeReg_complement_unarmed (lo : Option Word) (hw v : Word) (hk : r.kind = .complement) (hg : d.guardOf i = none) :
    d.writeReg i a r lo hw v = d.fail i a .guard v := by
  simp only [Dev.writeReg, hk, Dev.complement, hg]

/-- A full write to a complement address that no armed guard awaits breaks the guard it finds and is discarded. -/
theorem busWrite_complement_unguarded (v hw : Word) (ha : a % 4 = 0) (hr : regDesc a = some r) (hk : r.kind = .complement)
    (hp : privKind a = none) (hs : d.steps123 i a true = none) (hg : ∀ g, d.guardOf i = some g → g.off + 4 ≠ a) :
    d.busWrite i a v 15 hw = (d.guardBreak i).fail i a .guard v := by
  have hword : a / 4 * 4 = a := by omega
  have hunarmed := guardOf_guardBreak i d
  have hs' : (d.guardBreak i).steps123 i a true = none := (steps123_of_top (guardBreak_top i d) i a true).trans hs
  cases h : d.guardOf i with
  | none => simp [Dev.busWrite, hword, h, hr, hk, hp, hs, writeReg_complement_unarmed _ _ _ hk h, guardBreak_unarmed h]
  | some g =>
    have hother : a ≠ g.off + 4 := Ne.symm (hg g h)
    simp [Dev.busWrite, hword, h, hother, hr, hk, hp, hs', writeReg_complement_unarmed _ _ _ hk hunarmed]

/-- A read of a complement address answers 0 and records nothing. -/
theorem busRead_complement (ha : a % 4 = 0) (hr : regDesc a = some r) (hk : r.kind = .complement)
    (hs : d.steps123 i a false = none) : d.busRead i a = (none, 0, d) := by
  have hword : a / 4 * 4 = a := by omega
  have hpop : a ≠ 0x208000 := by
    rintro rfl
    have : (regDesc 0x208000).map (·.kind) ≠ some .complement := by decide +kernel
    exact this (by rw [hr, Option.map_some, hk])
  simp [Dev.busRead, hword, hs, hpop, Dev.regView, hr, hk]

theorem exec_write_complement_unguarded {off : BitVec 22} {s : State} (v hw : Word) (ha : off.toNat % 4 = 0)
    (hr : regDesc off.toNat = some r) (hk : r.kind = .complement) (hp : privKind off.toNat = none)
    (hs : s.dev.steps123 i off.toNat true = none) (hg : ∀ g, s.dev.guardOf i = some g → g.off + 4 ≠ off.toNat) :
    exec (.registerWrite i off (.word v hw) 15) s =
      .next { s with dev := (s.dev.guardBreak i).discard i off.toNat .guard v } := by
  show run (regWrite i off.toNat v 15 hw) s = _
  rw [run_eq, regWrite_of_fail (busWrite_complement_unguarded v hw ha hr hk hp hs hg)]

theorem exec_read_complement {off : BitVec 22} {s : State} (ha : off.toNat % 4 = 0) (hr : regDesc off.toNat = some r)
    (hk : r.kind = .complement) (hs : s.dev.steps123 i off.toNat false = none) :
    exec (.registerRead i .word off 15) s = .next { s with dev := s.dev.respond i none (wordBytes 0) } := by
  have hlanes : laneBytes 0 15 = wordBytes 0 := by decide
  show run (regRead i off.toNat 15) s = _
  rw [run_eq, regRead, busRead_complement ha hr hk hs, hlanes]
  simp

end

/-! ### The two records of a discarded write that breaks a guard -/

section
variable {i : Iface} {d : Dev} {g : Guard} (off : Nat) (why : Reason) (v : Word) (hg : d.guardOf i = some g)
include hg

/-- The broken guard and the write behind it are both counted. -/
theorem guardBreak_discard_counts :
    ((d.guardBreak i).discard i off why v).rdF 0x050010 0 32 = satN 32 (d.rdF 0x050010 0 32 + 2) := by
  have hbreak : Counts 0x050010 0 32 (d.setGuard i none) (d.guardBreak i) := guardBreak_armed hg ▸ violate_counts ..
  have hset : (d.setGuard i none).rdF 0x050010 0 32 = d.rdF 0x050010 0 32 := rfl
  calc _ = satN 32 ((d.guardBreak i).rdF 0x050010 0 32 + 1) := discard_counts ..
    _ = satN 32 (satN 32 (d.rdF 0x050010 0 32 + 1) + 1) := by rw [hbreak, hset]
    _ = _ := satN_succ ..

/-- Both reach the Watch. -/
theorem guardBreak_discard_reached :
    ((d.guardBreak i).discard i off why v).watch.reached.length = d.watch.reached.length + 2 := by
  obtain ⟨r₁, h₁, -⟩ := violate_reports i 0 g.off .guard true g.val (d.setGuard i none)
  obtain ⟨r₂, h₂, -⟩ := discard_reports i off why v (d.guardBreak i)
  rw [h₂, guardBreak_armed hg, h₁]
  simp [Dev.setGuard]

theorem guardBreak_keepsRegs : KeepsRegs discardRegs d (d.guardBreak i) :=
  guardBreak_armed hg ▸ (violate_keepsRegs i 0 g.off .guard true g.val (d.setGuard i none)).mono (by simp [discardRegs])

/-- The broken guard, recorded first, is captured, and the write behind it counts in MORE. -/
theorem guardBreak_discard_captures (hfree : bit (d.rd 0x050004) 31 = false) :
    ((d.guardBreak i).discard i off why v).rd 0x050000 = word (g.off % 4194304) ∧
      ((d.guardBreak i).discard i off why v).rdF 0x050004 24 3 = Reason.guard.code ∧
      ((d.guardBreak i).discard i off why v).rdF 0x050004 0 16 = 1 := by
  obtain ⟨haddr, hinfo⟩ := violate_captures i 0 g.off .guard true g.val (d.setGuard i none) hfree
  rw [← guardBreak_armed hg] at haddr hinfo
  obtain ⟨haddr', hwhy, hmore⟩ := discard_counts_more i off why v (d.guardBreak i) (by rw [hinfo, violInfo_valid])
  refine ⟨?_, ?_, ?_⟩
  · rw [haddr', haddr, violAddr_bar0]
  · rw [hwhy, Dev.rdF, hinfo, violInfo_reason]
  · rw [hmore, Dev.rdF, hinfo, violInfo_more]
    decide

end

/-- Settles O19: a write that no armed guard awaits is a discard behind the guard it breaks, if any (R56). -/
theorem complementAccesses : Obligations.ComplementAccesses := by
  unfold Obligations.ComplementAccesses
  intro i off r s ha hr hk hp
  refine ⟨fun v hw hs hg => ?unarmed, fun v hw g hs hg hne => ?otherGuard, fun hs => exec_read_complement ha hr hk hs⟩
  case unarmed =>
    refine ⟨_, exec_write_complement_unguarded v hw ha hr hk hp hs (by simp [hg]), ?_⟩
    rw [guardBreak_unarmed hg]
    refine ⟨(guardOf_discard ..).trans hg, discard_counts .., discard_reports .., fun hfree => ?_, discard_keepsRegs _ _ _ _ _⟩
    obtain ⟨haddr, hwhy⟩ := discard_captures i off.toNat .guard v s.dev hfree
    exact ⟨haddr.trans (by rw [Nat.mod_eq_of_lt off.isLt]), hwhy⟩
  case otherGuard =>
    refine ⟨_, exec_write_complement_unguarded v hw ha hr hk hp hs (by simpa [hg] using hne), ?_⟩
    exact ⟨(guardOf_discard ..).trans (guardOf_guardBreak ..), guardBreak_discard_counts _ _ _ hg, guardBreak_discard_reached _ _ _ hg,
      guardBreak_discard_captures _ _ _ hg, (guardBreak_keepsRegs hg).trans (discard_keepsRegs _ _ _ _ _)⟩

end Sys2Proof.Machine
end

section
/-! Reads: the answer of an access that records nothing, the pop of TXTS and its holding sets (R36, R38, R40, R256, R257). -/

namespace Sys2Proof.Machine

/-! ### The answer -/

/-- A read with every byte enabled answers the whole word (R36). -/
theorem laneBytes_full (w : Word) : laneBytes w 15 = wordBytes w := by
  simp [laneBytes, wordBytes, leBytes, Nat.testBit]

/-- An answer without a reason changes the port of its interface alone. -/
theorem respond_ok (i : Iface) (data : List Byte) (d : Dev) :
    d.respond i none data = d.answer (ifaceIdx i) ⟨data, if i = .spi then d.spiStatus none else 0, false, false⟩ := by
  simp [Dev.respond]

@[simp] theorem answer_resp (i : Fin 4) (r : Resp) (d : Dev) : ((d.answer i r).chk.ports.get i).resp = r := by
  simp [Dev.answer, Vector.get_eq_getElem]

theorem respond_ok_data (i : Iface) (data : List Byte) (d : Dev) :
    ((d.respond i none data).chk.ports.get (ifaceIdx i)).resp.data = data := by
  rw [respond_ok, answer_resp]

theorem respond_ok_only (i : Iface) (data : List Byte) (d : Dev) :
    d.respond i none data = { d with chk := (d.respond i none data).chk } := by
  rw [respond_ok]
  rfl

/-! ### Words of BAR0 -/

section
variable {i : Iface} {off : Nat} {d : Dev}

/-- A word that passes steps 1 to 3 answers its view and changes nothing, but for TXTS_HEAD. -/
theorem busRead_view (ha : off % 4 = 0) (hpop : off ≠ 0x208000) (hs : d.steps123 i off false = none) :
    d.busRead i off = (none, d.regView (ifaceIdx i) off, d) := by
  have hword : off / 4 * 4 = off := by omega
  simp only [Dev.busRead, hword, hs, if_neg hpop]

theorem busRead_txtsHead (hs : d.steps123 i 0x208000 false = none) :
    d.busRead i 0x208000 = (none, (d.txtsPop (ifaceIdx i)).1, (d.txtsPop (ifaceIdx i)).2) := by
  simp [Dev.busRead, hs]

theorem regRead_of_ok {w : Word} {e : Dev} (be : Nat) (h : d.busRead i off = (none, w, e)) :
    regRead i off be d = e.respond i none (laneBytes w be) := by
  simp [regRead, h]

/-- Two words read over PCIe that record nothing: the lower address first (R36). -/
theorem wideRead_of_ok {w₁ w₂ : Word} {e₁ e₂ : Dev} (be : Nat) (h₁ : d.busRead .pcie off = (none, w₁, e₁))
    (h₂ : e₁.busRead .pcie (off + 4) = (none, w₂, e₂)) :
    wideRead off be d = e₂.respond .pcie none (laneBytes w₁ (be % 16) ++ laneBytes w₂ (be / 16)) := by
  simp [wideRead, h₁, h₂, firstWhy]

end

section
variable {i : Iface} {off : BitVec 22} {s : State}

theorem exec_read_word (be : BitVec 8) (ha : off.toNat % 4 = 0) (hpop : off.toNat ≠ 0x208000)
    (hs : s.dev.steps123 i off.toNat false = none) :
    exec (.registerRead i .word off be) s =
      .next { s with dev := s.dev.respond i none (laneBytes (s.dev.regView (ifaceIdx i) off.toNat) (be.toNat % 16)) } := by
  show run (regRead i off.toNat (be.toNat % 16)) s = _
  rw [run_eq, regRead_of_ok _ (busRead_view ha hpop hs)]

theorem exec_read_wide (be : BitVec 8) (ha : off.toNat % 4 = 0) (hpop : off.toNat ≠ 0x208000) (hpop' : off.toNat + 4 ≠ 0x208000)
    (hs : s.dev.steps123 .pcie off.toNat false = none) (hs' : s.dev.steps123 .pcie (off.toNat + 4) false = none) :
    exec (.registerRead .pcie .wide off be) s = .next (s.withDev (s.dev.respond .pcie none
      (laneBytes (s.dev.regView 0 off.toNat) (be.toNat % 16) ++ laneBytes (s.dev.regView 0 (off.toNat + 4)) (be.toNat / 16)))) := by
  show run (wideRead off.toNat be.toNat) s = _
  rw [run_eq, wideRead_of_ok _ (busRead_view ha hpop hs) (busRead_view (by omega) hpop' hs')]
  rfl

/-! ### BAR4 and BAR2 -/

/-- A read within the 256 KiB of BAR4 answers its bytes (R38). -/
theorem exec_read_bar4 (be : BitVec 8) {n : Nat} (h : off.toNat + n ≤ 262144) :
    exec (.registerRead .pcie (.bar4 n) off be) s =
      .next { s with dev := s.dev.respond .pcie none (s.dev.bar4Read off.toNat n) } := by
  have hin : inBar4 off.toNat n = true := decide_eq_true h
  show run (onlyIf (inBar4 off.toNat n) fun d => d.respond .pcie none (d.bar4Read off.toNat n)) s = _
  rw [hin]
  rfl

theorem bar2Word_doorbell (r : Fin 26) (d : Dev) : d.bar2Word (8 * r.val) = some (d.ring r).db := by
  have hlt : 8 * r.val < 0xD0 := by omega
  simp [Dev.bar2Word, hlt]

/-- A doorbell offset answers the last accepted value of its ring (R40). -/
theorem exec_read_doorbell {r : Fin 26} (h : off.toNat = 8 * r.val) :
    exec (.registerRead .pcie .bar2 off 15) s = .next { s with dev := s.dev.respond .pcie none (wordBytes (s.dev.ring r).db) } := by
  have hoff : off.toNat % 4096 / 4 * 4 = 8 * r.val := by omega
  have hread : bar2Read .pcie (off.toNat % 4096) 15 s.dev = s.dev.respond .pcie none (wordBytes (s.dev.ring r).db) := by
    simp [bar2Read, hoff, bar2Word_doorbell, laneBytes_full]
  show run (bar2Read .pcie (off.toNat % 4096) 15) s = _
  rw [run_eq, hread]

end

/-! ### TXTS -/

section
variable {d : Dev} {i : Fin 4}

/-- The oldest entry leaves the queue for the holding set of the reader (R256). -/
theorem txtsPop_of_cons {e : TxtsEntry} {q : List TxtsEntry} (h : d.txts.queue = e :: q) :
    d.txtsPop i = (wordAt e.words 0, d.modTxts fun t => { t with queue := q, hold := t.hold.set i e.words }) := by
  simp only [Dev.txtsPop, h]

/-- A pop of an empty queue is counted and leaves a set of zeros (R257). -/
theorem txtsPop_of_nil (h : d.txts.queue = []) :
    d.txtsPop i = (0, (d.modTxts fun t => { t with hold := t.hold.set i [0, 0, 0, 0] }).bump 0x208024 0 16) := by
  simp only [Dev.txtsPop, h]

theorem hold_get_set_same (v : Vector (List Word) 4) (ws : List Word) : (v.set i ws).get i = ws :=
  Vector.getElem_set_self ..

theorem hold_get_set_ne (v : Vector (List Word) 4) (ws : List Word) {j : Fin 4} (h : j ≠ i) : (v.set i ws).get j = v.get j :=
  Vector.getElem_set_ne _ _ (Fin.val_ne_of_ne h.symm)

/-- The region of TXTS. -/
theorem computed_txts {o : Nat} (ho : o < 0x8000) : d.computed i (0x208000 + o) = txtsView i o d := by
  have hhi : 0x208000 + o < 0x210000 := by omega
  have hlo : ∀ b, b ≤ 0x208000 → ¬ 0x208000 + o < b := by omega
  simp [Dev.computed, hhi, hlo]

/-- TXTS_HOLDk reads word k of the holding set of the reader (R256). -/
theorem regView_txtsHold (k : Fin 4) : d.regView i (0x208004 + 4 * k.val) = wordAt (d.txts.hold.get i) k := by
  have hplain : (regDesc (0x208004 + 4 * k.val)).any (·.kind = .complement) = false := by
    revert k
    decide +kernel
  have hview : txtsView i (4 + 4 * k.val) d = some (wordAt (d.txts.hold.get i) k) := by
    have hrange : 0x4 ≤ 4 + 4 * k.val ∧ 4 + 4 * k.val ≤ 0x10 := by omega
    have hidx : (4 + 4 * k.val) / 4 - 1 = k.val := by omega
    rw [txtsView, if_pos (by simpa using hrange), hidx]
  rw [Dev.regView, hplain, show 0x208004 + 4 * k.val = 0x208000 + (4 + 4 * k.val) by omega, computed_txts (by omega), hview]
  rfl

end

section
variable {i : Iface} {s : State}

theorem exec_txtsPop (hs : s.dev.steps123 i 0x208000 false = none) :
    exec (.txtsPop i) s = .next { s with
      dev := (s.dev.txtsPop (ifaceIdx i)).2.respond i none (wordBytes (s.dev.txtsPop (ifaceIdx i)).1) } := by
  show run (regRead i 0x208000 15) s = _
  rw [run_eq, regRead_of_ok 15 (busRead_txtsHead hs), laneBytes_full]

theorem exec_read_txtsHold (k : Fin 4) (hs : s.dev.steps123 i (0x208004 + 4 * k.val) false = none) :
    exec (.registerRead i .word (BitVec.ofNat 22 (0x208004 + 4 * k.val)) 15) s =
      .next { s with dev := s.dev.respond i none (wordBytes (wordAt (s.dev.txts.hold.get (ifaceIdx i)) k)) } := by
  have hoff : (BitVec.ofNat 22 (0x208004 + 4 * k.val)).toNat = 0x208004 + 4 * k.val := by
    rw [BitVec.toNat_ofNat]
    omega
  have hbe : (15 : BitVec 8).toNat % 16 = 15 := rfl
  rw [exec_read_word 15 (by omega) (by omega) (by rwa [hoff]), hoff, regView_txtsHold, hbe, laneBytes_full]

end

/-- Settles O26: each read is its equation, and the two pops are the two equations of the queue (R36, R38, R40, R256, R257). -/
theorem reads : Obligations.Reads := by
  unfold Obligations.Reads
  refine ⟨fun i off s ha hpop hs be => exec_read_word be ha hpop hs,
    fun off be s ha hpop hpop' hs hs' => exec_read_wide be ha hpop hpop' hs hs', fun a n be s h => exec_read_bar4 be h,
    fun i e q s hs hq => ?entry, fun i s hs hq => ?empty, fun i k s hs => exec_read_txtsHold k hs,
    fun r off s h => exec_read_doorbell h⟩
  case entry =>
    refine ⟨_, exec_txtsPop hs, ?_⟩
    rw [txtsPop_of_cons hq, respond_ok_only]
    exact ⟨rfl, hold_get_set_same _ _, fun j hj => hold_get_set_ne _ _ hj, respond_ok_data _ _ _, rfl, rfl⟩
  case empty =>
    refine ⟨_, exec_txtsPop hs, ?_⟩
    rw [txtsPop_of_nil hq, respond_ok_only]
    exact ⟨rfl, hq, hold_get_set_same _ _, fun j hj => hold_get_set_ne _ _ hj, respond_ok_data _ _ _,
      rdF_bump_same 0x208024 _ (by decide), fun a ha _ => rd_bump_ne 0 16 _ (by simpa [eq_comm] using ha), rfl⟩

end Sys2Proof.Machine
end

section
/-! Full writes of plain registers, and the write of FLT_RAISE (R408). -/

namespace Sys2Proof.Machine

/-! ### A full write of a plain register: from the access port to the checks of the register -/

section
variable {i : Iface} {a : Nat} {r : RegDesc} {d : Dev}

/-- With no guard armed, a full write that passes steps 1 to 3 goes to the checks of its register, and the device is as it was. -/
theorem busWrite_plain (v hw : Word) (ha : a % 4 = 0) (hg : d.guardOf i = none) (hs : d.steps123 i a true = none)
    (hp : privKind a = none) (hr : regDesc a = some r) (hk : r.kind = .plain) :
    d.busWrite i a v 15 hw = d.writeReg i a r none (sameCycle r.fields hw (d.rd a) (d.rd a)) v := by
  have hword : a / 4 * 4 = a := by omega
  simp [Dev.busWrite, hword, hg, hs, hp, hr, hk]

section
variable {why : Reason} {v : Word} (lo : Option Word) (hw : Word) (hk : r.kind = .plain)
include hk

theorem writeReg_plain_of_steps45 (h45 : d.steps45 i a r v = some why) : d.writeReg i a r lo hw v = d.fail i a why v := by
  simp only [Dev.writeReg, hk, h45]

theorem writeReg_plain_of_step7 (h45 : d.steps45 i a r v = none) (hi : d.ignores a = false) (h7 : d.step7 a r v = true) :
    d.writeReg i a r lo hw v = d.fail i a .range v := by
  simp [Dev.writeReg, hk, h45, hi, h7]

theorem writeReg_plain_accepted (h45 : d.steps45 i a r v = none) (hi : d.ignores a = false) (h7 : d.step7 a r v = false) :
    d.writeReg i a r lo hw v = (none, d.take a r hw v) := by
  simp [Dev.writeReg, hk, h45, hi, h7]

end

end

/-! ### A write that no hardware update meets -/

theorem hwFields_zero (fs : List RegField) : hwFields fs 0 = [] := by simp [hwFields, fld]

theorem meets_zero (fs : List RegField) (now v : Word) (d : Dev) : d.meets fs 0 now v = (v, d) := by
  rw [Dev.meets, hwFields_zero]

/-- The fields are stored and the follow-up acts; the Breakwater registers alone settle their buckets first. -/
theorem take_zero {a : Nat} (r : RegDesc) (v : Word) (d : Dev) (hload : ¬ (0x211000 ≤ a ∧ a < 0x211800)) :
    d.take a r 0 v = (d.wr a (takeFields r.fields 0 v (d.rd a))).took a (d.rd a) v := by
  rw [Dev.take, if_neg (by simp), if_neg (by simpa using hload)]
  simp only [meets_zero]

/-! ### FLT_RAISE: its descriptor and what each check asks of it -/

/-- FLT_RAISE: the trigger RAISE, and SRC with its range of policy sources. -/
def fltRaiseDesc : RegDesc := rt 0x20 0 [.t 8 1, .r 0 8 176 191]

theorem regDesc_fltRaise : regDesc 0x030020 = some fltRaiseDesc := by decide +kernel

section
variable {i : Iface} {v : Word} {d : Dev}

theorem steps123_fltRaise (hready : d.top.ready = true) (hblock : d.blockReady 3 = true) :
    d.steps123 i 0x030020 true = none := by
  have hearly : d.early 0x030020 true = false := by simp [Dev.early, blockOf, hready, hblock]
  have hknown : unimplemented 0x030020 = false := by simp [unimplemented, regDesc_fltRaise]
  have hopen : isPrivate 0x030020 = false := by decide
  simp [Dev.steps123, hearly, hknown, hopen]

/-- No field of FLT_RAISE is kept from change (R54) and it is no set-up register: who writes it decides. -/
theorem steps45_fltRaise : d.steps45 i 0x030020 fltRaiseDesc v = if i = .keeper then none else some .ro := by
  have hkr : d.krBad i 0x030020 fltRaiseDesc v = false := by simp [Dev.krBad, fltRaiseDesc, rt, RegField.t, RegField.r]
  have hfields : fltRaiseDesc.fields.any (fun f => f.acc ≠ .zero) = true := by decide
  have hsetup : fltRaiseDesc.setup = false := rfl
  simp only [Dev.steps45, hkr, hfields, hsetup]
  by_cases h : i = .keeper <;> simp [keeperOnly, h]

theorem ignores_fltRaise : d.ignores 0x030020 = false := by simp [Dev.ignores]

/-- Step 7 judges SRC alone. -/
theorem step7_fltRaise : d.step7 0x030020 fltRaiseDesc v = true ↔ fld v 0 8 < 176 ∨ 192 ≤ fld v 0 8 := by
  have hcross : d.crossBad 0x030020 v = false := by simp [Dev.crossBad]
  simp only [Dev.step7, hcross, fltRaiseDesc, rt, RegField.t, RegField.r, List.any_cons, List.any_nil, fieldBad, Bool.or_false,
    Bool.false_or, Bool.false_eq_true, if_false, decide_eq_true_eq, Bool.or_eq_true]
  omega

/-! ### FLT_RAISE taken: the trigger gives one raised occurrence -/

/-- The word that an accepted write of FLT_RAISE leaves: SRC is stored, RAISE is not. -/
def fltRaiseWord (v old : Word) : Word := setFld old 0 8 (fld v 0 8)

/-- The occurrence that a write of FLT_RAISE raises. -/
def raisedOcc (src : Fin 192) : Occ := ⟨src, BitVec.ofNat 8 ((ownObject src).getD 255), false, true⟩

theorem faultGiven_raised (src : Fin 192) (d : Dev) : d.faultGiven src false = d.reach (raisedOcc src) false :=
  dif_pos src.isLt

theorem took_fltRaise (old : Word) (hraise : bit v 8 = true) :
    d.took 0x030020 old v = d.faultGiven (fld v 0 8) false := by
  simp [Dev.took, hraise]

theorem take_fltRaise (src : Fin 192) (hsrc : fld v 0 8 = src) (hraise : bit v 8 = true) :
    d.take 0x030020 fltRaiseDesc 0 v = (d.wr 0x030020 (fltRaiseWord v (d.rd 0x030020))).reach (raisedOcc src) false := by
  have hstored : takeFields fltRaiseDesc.fields 0 v (d.rd 0x030020) = fltRaiseWord v (d.rd 0x030020) := rfl
  rw [take_zero _ _ _ (by decide), hstored, took_fltRaise _ hraise, hsrc, faultGiven_raised]

theorem busWrite_fltRaise (hready : d.top.ready = true) (hblock : d.blockReady 3 = true) (hg : d.guardOf i = none) :
    d.busWrite i 0x030020 v 15 0 = d.writeReg i 0x030020 fltRaiseDesc none 0 v :=
  busWrite_plain v 0 (by decide) hg (steps123_fltRaise hready hblock) rfl regDesc_fltRaise rfl

end

/-! ### The command: taken or discarded -/

section
variable {i : Iface} {v : Word} {s : State} (hready : s.dev.top.ready = true) (hblock : s.dev.blockReady 3 = true)
include hready hblock

theorem exec_faultRaise_accepted (hg : s.dev.guardOf .keeper = none) (src : Fin 192) (hsrc : fld v 0 8 = src)
    (hpolicy : 176 ≤ fld v 0 8) (hraise : bit v 8 = true) :
    exec (.faultRaise .keeper v) s = .next { s with
      dev := ((s.dev.wr 0x030020 (fltRaiseWord v (s.dev.rd 0x030020))).reach (raisedOcc src) false).respond .keeper none [] } := by
  have h7 : s.dev.step7 0x030020 fltRaiseDesc v = false := by
    rw [Bool.eq_false_iff, ne_eq, step7_fltRaise]
    omega
  show run (regWrite .keeper 0x030020 v 15 0) s = _
  rw [run_eq, regWrite, busWrite_fltRaise hready hblock hg,
    writeReg_plain_accepted none 0 rfl (steps45_fltRaise.trans (if_pos rfl)) ignores_fltRaise h7, take_fltRaise src hsrc hraise]

/-- A write that one of the steps 4 to 7 stops is a discard and nothing else. -/
theorem exec_faultRaise_discarded {why : Reason} (hg : s.dev.guardOf i = none)
    (hw : s.dev.writeReg i 0x030020 fltRaiseDesc none 0 v = s.dev.fail i 0x030020 why v) :
    exec (.faultRaise i v) s = .next { s with dev := s.dev.discard i 0x030020 why v } := by
  show run (regWrite i 0x030020 v 15 0) s = _
  rw [run_eq, regWrite_of_fail ((busWrite_fltRaise hready hblock hg).trans hw)]

end

/-- A discarded write of FLT_RAISE leaves the register, and its violation is reported and captured with its reason. -/
theorem discard_fltRaise (i : Iface) (why : Reason) (v : Word) {d : Dev} (hfree : bit (d.rd 0x050004) 31 = false) :
    (d.discard i 0x030020 why v).rd 0x030020 = d.rd 0x030020 ∧ Reports 0 0 d (d.discard i 0x030020 why v) ∧
      (d.discard i 0x030020 why v).rdF 0x050004 24 3 = why.code :=
  ⟨discard_keepsRegs _ _ _ _ _ 0x030020 (by decide) (by unfold EventWord; decide), discard_reports ..,
    (discard_captures _ _ _ _ _ hfree).2⟩

/-- Settles O23: the Keeper's write of a policy source is taken and raises one occurrence; step 7 stops any other source, and
step 4 any other interface (R408). -/
theorem faultRaise : Obligations.FaultRaise := by
  unfold Obligations.FaultRaise
  intro v s hready hblock _
  refine ⟨fun hraise hlo hhi hg => ?raised, fun hsrc hg hfree => ?range, fun i hi hg hfree => ?readOnly⟩
  case raised =>
    refine ⟨_, exec_faultRaise_accepted hready hblock hg ⟨fld v 0 8, hhi⟩ rfl hlo hraise, rfl, ?_⟩
    rw [respond_ok_only]
    refine ⟨⟨_, rfl, rfl, rfl, rfl⟩, rfl, fun a ha _ => ?_⟩
    exact rd_wr_ne _ _ (by simpa [eq_comm] using ha)
  case range =>
    refine ⟨_, exec_faultRaise_discarded hready hblock hg ?_, discard_fltRaise .keeper .range v hfree⟩
    exact writeReg_plain_of_step7 none 0 rfl (steps45_fltRaise.trans (if_pos rfl)) ignores_fltRaise (step7_fltRaise.mpr hsrc)
  case readOnly =>
    refine ⟨_, exec_faultRaise_discarded hready hblock hg ?_, discard_fltRaise i .ro v hfree⟩
    exact writeReg_plain_of_steps45 none 0 rfl (steps45_fltRaise.trans (if_neg hi))

end Sys2Proof.Machine
end

section
/-! The canonical form of the memories (R38, R365): what every shared operation keeps. One lemma per operation, in the order of the
operations' definitions; a lemma about an operation is the chain of the lemmas about what it is made of. -/

namespace Sys2Proof.Machine

set_option Elab.async false

/-- The memories of a device are in their canonical form. -/
def Dev.Canon (d : Dev) : Prop := d.memoryWf = true

variable {d : Dev}

theorem Dev.Canon.ite {c : Prop} [Decidable c] {a b : Dev} (ha : a.Canon) (hb : b.Canon) : (if c then a else b).Canon := by
  split
  · exact ha
  · exact hb

theorem Dev.Canon.dite {c : Prop} [Decidable c] {a : c → Dev} {b : ¬ c → Dev} (ha : ∀ h, (a h).Canon) (hb : ∀ h, (b h).Canon) :
    (if h : c then a h else b h).Canon := by
  split
  · exact ha _
  · exact hb _

/-- The second part of a pair that a condition picks. -/
theorem Dev.Canon.ite2 {α : Type} {c : Prop} [Decidable c] {a b : α × Dev} (ha : a.2.Canon) (hb : b.2.Canon) :
    (if c then a else b).2.Canon := by
  split
  · exact ha
  · exact hb

theorem Dev.Canon.foldl {α : Type} {f : Dev → α → Dev} {l : List α} (h : d.Canon) (hf : ∀ d x, d.Canon → (f d x).Canon) :
    (l.foldl f d).Canon := by
  induction l generalizing d with
  | nil => exact h
  | cons x l ih => exact ih (hf d x h)

/-- A fold that carries something beside the device. -/
theorem Dev.Canon.foldl2 {α β : Type} {f : β × Dev → α → β × Dev} {l : List α} {x : β × Dev} (h : x.2.Canon)
    (hf : ∀ y a, y.2.Canon → (f y a).2.Canon) : (l.foldl f x).2.Canon := by
  induction l generalizing x with
  | nil => exact h
  | cons a l ih => exact ih (hf x a h)

theorem Dev.Canon.forFin {n : Nat} {f : Fin n → Dev → Dev} (h : d.Canon) (hf : ∀ i d, d.Canon → (f i d).Canon) :
    (forFin n f d).Canon :=
  h.foldl fun d i h1 => hf i d h1

theorem Dev.Canon.onlyIf {b : Bool} {f : Dev → Dev} (h : d.Canon) (hf : ∀ d, d.Canon → (f d).Canon) : (onlyIf b f d).Canon :=
  .ite (hf d h) h

theorem Dev.Canon.wr {off : Nat} {w : Word} (h : d.Canon) : (Dev.wr off w d).Canon := memoryWf_wr off w h

theorem Dev.Canon.wrF {off lo width v : Nat} (h : d.Canon) : (Dev.wrF off lo width v d).Canon := h.wr

theorem Dev.Canon.bumpBy {k off lo width : Nat} (h : d.Canon) : (Dev.bumpBy k off lo width d).Canon := h.wrF

theorem Dev.Canon.bump {off lo width : Nat} (h : d.Canon) : (Dev.bump off lo width d).Canon := h.bumpBy

theorem Dev.Canon.pub40 {base : Nat} {v : Int} (h : d.Canon) : (Dev.pub40 base v d).Canon := .ite h h.wr.wr

theorem Dev.Canon.pubStat {off extra : Nat} (h : d.Canon) : (Dev.pubStat off extra d).Canon := h.wr

theorem Dev.Canon.wrWords {off : Nat} {ws : List Word} (h : d.Canon) : (Dev.wrWords off ws d).Canon := memoryWf_wrWords ws off h

theorem Dev.Canon.modBuoy {n : Fin 64} {f : Buoy → Buoy} (h : d.Canon) : (Dev.modBuoy n f d).Canon := h

theorem Dev.Canon.modChan {n : Fin 16} {f : Chan → Chan} (h : d.Canon) : (Dev.modChan n f d).Canon := h

theorem Dev.Canon.modLan {n : Fin 8} {f : Lan → Lan} (h : d.Canon) : (Dev.modLan n f d).Canon := h

theorem Dev.Canon.modOut {n : Fin 48} {f : Out → Out} (h : d.Canon) : (Dev.modOut n f d).Canon := h

theorem Dev.Canon.modVout {n : Fin 8} {f : Vout → Vout} (h : d.Canon) : (Dev.modVout n f d).Canon := h

theorem Dev.Canon.modTs {n : Fin 4} {f : TimeScale → TimeScale} (h : d.Canon) : (Dev.modTs n f d).Canon := h

theorem Dev.Canon.modPort {n : Fin 8} {f : Port → Port} (h : d.Canon) : (Dev.modPort n f d).Canon := h

theorem Dev.Canon.modClient {n : Fin 16} {f : Client → Client} (h : d.Canon) : (Dev.modClient n f d).Canon := h

theorem Dev.Canon.modTide {f : Tide → Tide} (h : d.Canon) : (Dev.modTide f d).Canon := h

theorem Dev.Canon.modLink {n : Fin 5} {f : Link → Link} (h : d.Canon) : (Dev.modLink n f d).Canon := h.modTide

theorem Dev.Canon.modHost {f : HostIf → HostIf} (h : d.Canon) : (Dev.modHost f d).Canon := h

theorem Dev.Canon.modRing {r : Fin 26} {f : Ring → Ring} (h : d.Canon) : (Dev.modRing r f d).Canon := h.modHost

theorem Dev.Canon.modWatch {f : Watch → Watch} (h : d.Canon) : (Dev.modWatch f d).Canon := h

theorem Dev.Canon.modSource {n : Fin 192} {f : Source → Source} (h : d.Canon) : (Dev.modSource n f d).Canon := h.modWatch

theorem Dev.Canon.modClk {f : Clk → Clk} (h : d.Canon) : (Dev.modClk f d).Canon := h

theorem Dev.Canon.modPwr {f : Pwr → Pwr} (h : d.Canon) : (Dev.modPwr f d).Canon := h

theorem Dev.Canon.modTop {f : Top → Top} (h : d.Canon) : (Dev.modTop f d).Canon := h

theorem Dev.Canon.modKeeper {f : Keeper → Keeper} (h : d.Canon) : (Dev.modKeeper f d).Canon := h

theorem Dev.Canon.modSup {f : Supervision → Supervision} (h : d.Canon) : (Dev.modSup f d).Canon := h.modKeeper

/-- A change of the update engine that leaves the code flash. -/
theorem Dev.Canon.modFw {f : Fw → Fw} (h : d.Canon) (hf : (f d.fw).flash = d.fw.flash := by rfl) : (Dev.modFw f d).Canon :=
  (memoryWf_congr (d := d) (d' := d.modFw f) rfl rfl rfl hf).trans h

theorem Dev.Canon.modOtp {f : Otp → Otp} (h : d.Canon) : (Dev.modOtp f d).Canon := h

/-- A change of the store that leaves its flash. -/
theorem Dev.Canon.modChart {f : Chart → Chart} (h : d.Canon) (hf : (f d.chart).flash = d.chart.flash := by rfl) :
    (Dev.modChart f d).Canon :=
  (memoryWf_congr (d := d) (d' := d.modChart f) rfl rfl hf rfl).trans h

theorem Dev.Canon.modPilot {f : Pilot → Pilot} (h : d.Canon) : (Dev.modPilot f d).Canon := h

theorem Dev.Canon.modTxts {f : Txts → Txts} (h : d.Canon) : (Dev.modTxts f d).Canon := h

theorem Dev.Canon.modChk {f : Chk → Chk} (h : d.Canon) : (Dev.modChk f d).Canon := h

theorem Dev.Canon.draw (h : d.Canon) : (Dev.draw d).2.Canon := h

theorem Dev.Canon.bar4Put {a : Nat} {b : Byte} (h : d.Canon) : (Dev.bar4Put a b d).Canon := memoryWf_bar4Put a b h

theorem Dev.Canon.bar4Write {a : Nat} {bs : List Byte} (h : d.Canon) : (Dev.bar4Write a bs d).Canon := memoryWf_bar4Write bs a h

theorem Dev.Canon.post {a : Nat} {bs : List Byte} (h : d.Canon) : (Dev.post a bs d).Canon := .ite h.modHost h.modHost

theorem Dev.Canon.memWrite {bar4 : Bool} {a : Nat} {bs : List Byte} (h : d.Canon) : (Dev.memWrite bar4 a bs d).Canon :=
  .ite h.bar4Write h.post

theorem Dev.Canon.vectorSignal {v : Nat} (h : d.Canon) : (Dev.vectorSignal v d).Canon := .ite h.modHost h.modHost

theorem Dev.Canon.msixFlush (h : d.Canon) : (Dev.msixFlush d).Canon :=
  h.foldl fun _ _ h1 => h1.onlyIf (fun _ h2 => h2.modHost.vectorSignal)

theorem Dev.Canon.signal {r : Fin 26} (h : d.Canon) : (Dev.signal r d).Canon := h.vectorSignal.modRing

theorem Dev.Canon.notice {r : Fin 26} {was new : Bool} (h : d.Canon) : (Dev.notice r was new d).Canon := by
  simp only [Dev.notice]
  split
  · exact h.modRing
  · split
    · exact h.signal
    · split
      · exact h
      · split
        · exact .ite h.signal h.modRing
        · exact h.signal

theorem Dev.Canon.ringStore {r : Fin 26} {e : List Byte} (h : d.Canon) : (Dev.ringStore r e d).Canon := h.memWrite.memWrite.modRing

theorem Dev.Canon.ringPut {r : Fin 26} {e : List Byte} (h : d.Canon) : (Dev.ringPut r e d).Canon := h.ringStore.notice

theorem Dev.Canon.ringEntry {r : Fin 26} {mk : Word → List Byte} (h : d.Canon) : (Dev.ringEntry r mk d).Canon :=
  .ite h.modRing.ringPut h.modRing.bump

theorem Dev.Canon.keeperEvent {e : List Byte} (h : d.Canon) : (Dev.keeperEvent e d).Canon := .ite h.wrWords.modKeeper h.bump

theorem Dev.Canon.evtEntry {mk : Word → List Byte} (h : d.Canon) : (Dev.evtEntry mk d).Canon := h.keeperEvent.ringEntry

theorem Dev.Canon.event {kind obj blk : Nat} {data : List Byte} (h : d.Canon) : (Dev.event kind obj blk data d).Canon := h.evtEntry

theorem Dev.Canon.stateEv {blk machine obj old new row related : Nat} (h : d.Canon) :
    (Dev.stateEv blk machine obj old new row related d).Canon :=
  .ite h h.event

theorem Dev.Canon.logEnt {kind obj blk : Nat} {data : List Byte} (h : d.Canon) : (Dev.logEnt kind obj blk data d).Canon := h.ringEntry

theorem Dev.Canon.overflow {r : Fin 26} (h : d.Canon) : (Dev.overflow r d).Canon := .ite h (.ite h.evtEntry h.ringEntry)

theorem Dev.Canon.reach {o : Occ} {blankEnd : Bool} (h : d.Canon) : (Dev.reach o blankEnd d).Canon := h.modWatch

theorem Dev.Canon.occur {src : Fin 192} {obj : Nat} (h : d.Canon) : (Dev.occur src obj d).Canon := h.reach

theorem Dev.Canon.setCond {src : Fin 192} {obj : Nat} {c : Bool} (h : d.Canon) : (Dev.setCond src obj c d).Canon :=
  .ite h (.ite h.modSource.occur h.modSource)

theorem Dev.Canon.recordIp {q : Fin 4} {p : InProg} {o : CmdOut} (h : d.Canon) : (Dev.recordIp q p o d).Canon := h.modHost

theorem Dev.Canon.cqRetire {q : Fin 4} {p : InProg} (h : d.Canon) : (Dev.cqRetire q p d).Canon := h.modHost.modRing

theorem Dev.Canon.completeOne {src : CmdSrc} {p : InProg} {o : CmdOut} (h : d.Canon) : (Dev.completeOne src p o d).Canon := by
  unfold Dev.completeOne
  split
  · have h1 : ∀ q p, (Machine.onlyIf d.host.resetCause.isSome (Dev.recordIp q p o) d).Canon := fun q p =>
      h.onlyIf fun _ h => h.recordIp
    exact .ite (h1 _ _).cqRetire.ringPut (.ite (h1 _ _).cqRetire (h1 _ _).modHost)
  · exact h.modHost.wrWords.modKeeper

theorem Dev.Canon.takeFetched {src : CmdSrc} (h : d.Canon) : (Dev.takeFetched src d).Canon := by
  simp only [Dev.takeFetched]
  split
  · exact h.modHost.modRing
  · exact h.modHost.modKeeper

theorem Dev.Canon.retireHead {src : CmdSrc} {e : Nat × List Word} {o : CmdOut} (h : d.Canon) : (Dev.retireHead src e o d).Canon :=
  h.takeFetched.completeOne

theorem Dev.Canon.retireBad {n : Nat} {src : CmdSrc} (h : d.Canon) : (Dev.retireBad n src d).Canon := by
  induction n generalizing d with
  | zero => exact h
  | succ n ih =>
    unfold Dev.retireBad
    split
    · split
      · exact .ite (ih h.retireHead) h
      · exact h
    · exact h

theorem Dev.Canon.complete {src : CmdSrc} {p : InProg} {o : CmdOut} (h : d.Canon) : (Dev.complete src p o d).Canon :=
  h.completeOne.retireBad

theorem Dev.Canon.passOver {src : CmdSrc} (h : d.Canon) : (Dev.passOver src d).Canon := h.modHost

theorem Dev.Canon.stay {src : CmdSrc} {n : Nat} {rawWrite : Bool} (h : d.Canon) : (Dev.stay src n rawWrite d).Canon := h.modHost

theorem Dev.Canon.endWhere {f : InProg → Bool} {o : Nat → CmdOut} (h : d.Canon) : (Dev.endWhere f o d).Canon :=
  h.foldl fun _ _ h1 => by
    split
    · exact .ite h1.complete h1
    · exact h1

theorem Dev.Canon.abortOps {op : Nat} (h : d.Canon) : (Dev.abortOps op d).Canon := h.endWhere

theorem Dev.Canon.begun {c : Cmd} {op : Nat} (h : d.Canon) : (Dev.begun c op d).Canon := h.passOver.takeFetched.modHost

/-- A command of the rings, where its effect keeps the canonical form. -/
theorem Dev.Canon.command {op : Nat} {c : Cmd} {f : Dev → Option CmdOut × Dev} (h : d.Canon) (hf : ∀ d, d.Canon → (f d).2.Canon) :
    (command op c f d).Canon := by
  simp only [Machine.command]
  split
  · split
    · exact (hf _ h.begun).complete
    · exact hf _ h.begun
  · exact h

end Sys2Proof.Machine
end

section
/-! The canonical form: the cascade's upstream, Lanterns and outputs, signals, time scales, channels, qualification, Buoys. -/

namespace Sys2Proof.Machine

set_option Elab.async false

variable {d : Dev}

theorem Dev.Canon.labelCheck (h : d.Canon) : (Dev.labelCheck d).Canon := .ite h h.modTide.setCond

theorem Dev.Canon.setLofs {v : Int} (h : d.Canon) : (Dev.setLofs v d).Canon := h.modTide.labelCheck

theorem Dev.Canon.roleTo {r : Role} {row : Nat} (h : d.Canon) : (Dev.roleTo r row d).Canon := h.modTide.stateEv

theorem Dev.Canon.adopt {f : TideFrame} (h : d.Canon) : (Dev.adopt f d).Canon := h.modTide

theorem Dev.Canon.msgsAfresh (h : d.Canon) : (Dev.msgsAfresh d).Canon := h.modTide

theorem Dev.Canon.activate {l : Fin 5} (h : d.Canon) : (Dev.activate l d).Canon := by
  simp only [Dev.activate]
  split
  · exact (h.modTide.onlyIf (fun _ h1 => h1.msgsAfresh)).modTide.setLofs.adopt
  · exact h.modTide

theorem Dev.Canon.orphanJoin (h : d.Canon) : (Dev.orphanJoin d).Canon := by
  simp only [Dev.orphanJoin]
  split
  · split
    · exact h.activate.roleTo
    · exact h
  · exact h

theorem Dev.Canon.outRefresh {m : Fin 48} (h : d.Canon) : (Dev.outRefresh m d).Canon := h.modOut.modOut

theorem Dev.Canon.voutRefresh {k : Fin 8} (h : d.Canon) : (Dev.voutRefresh k d).Canon := h.modVout.modVout

theorem Dev.Canon.routedRefresh {n : Fin 8} (h : d.Canon) : (Dev.routedRefresh n d).Canon :=
  (h.forFin (fun _ _ h1 => h1.onlyIf (fun _ h2 => h2.outRefresh))).forFin fun _ _ h1 => h1.onlyIf (fun _ h2 => h2.voutRefresh)

theorem Dev.Canon.lanTo {n : Fin 8} {st : LanState} {row : Nat} (h : d.Canon) : (Dev.lanTo n st row d).Canon :=
  h.modLan.stateEv.routedRefresh

theorem Dev.Canon.lanLevel {n : Fin 8} (h : d.Canon) : (Dev.lanLevel n d).Canon := .ite h.lanTo (.ite h.lanTo h.routedRefresh)

theorem Dev.Canon.lanChanged {n : Fin 8} {ratio : Bool} (h : d.Canon) : (Dev.lanChanged n ratio d).Canon := .ite h.lanTo h.lanLevel

theorem Dev.Canon.lanBandFound {l : Fin 8} {band : BitVec 8} (h : d.Canon) : (lanBandFound l band d).Canon := .ite h.modLan.lanTo h

theorem Dev.Canon.lanCalTimeout {l : Fin 8} (h : d.Canon) : (lanCalTimeout l d).Canon := .ite h.bump.occur.lanTo h

theorem Dev.Canon.lanLock {l : Fin 8} {skew : BitVec 16} (h : d.Canon) : (lanLock l skew d).Canon :=
  .ite (Dev.Canon.ite h.bump.modLan.wr h.bump).lanTo h

theorem Dev.Canon.lanAcqTimeout {l : Fin 8} (h : d.Canon) : (lanAcqTimeout l d).Canon := .ite h.occur.lanTo h

theorem Dev.Canon.lanUnlock {l : Fin 8} {ampLow : Bool} (h : d.Canon) : (lanUnlock l ampLow d).Canon :=
  .ite h.modLan.bump.occur.lanTo h

theorem Dev.Canon.lanRecal {l : Fin 8} (h : d.Canon) : (lanRecal l d).Canon := .ite h.lanTo h

theorem Dev.Canon.lanternsXo (h : d.Canon) : (Dev.lanternsXo d).Canon := h.forFin fun _ _ h1 => h1.lanLevel

theorem Dev.Canon.chanOutputs {c : Fin 16} (h : d.Canon) : (Dev.chanOutputs c d).Canon :=
  h.forFin fun _ _ h1 => h1.onlyIf (fun _ h2 => h2.outRefresh)

theorem Dev.Canon.realign {c : Fin 16} {jump : Int} (h : d.Canon) : (Dev.realign c jump d).Canon :=
  h.forFin fun _ _ h1 => by
    split
    · dsimp only
      split
      · exact h1.modLan
      · exact (h1.modLan.foldl fun _ _ h2 => h2.modOut.outRefresh).bump.event
    · exact h1

theorem Dev.Canon.outStart {m : Fin 48} (h : d.Canon) : (outStart m d).Canon := .ite h.modOut h

theorem Dev.Canon.outHalt {m : Fin 48} {mute : Bool} (h : d.Canon) : (Dev.outHalt m mute d).Canon :=
  (Dev.Canon.ite h.modOut.bump.occur h.modOut).outRefresh

theorem Dev.Canon.outStop {m : Fin 48} (h : d.Canon) : (outStop m d).Canon := by
  simp only [Machine.outStop]
  split
  · exact h.outHalt
  · exact h

theorem Dev.Canon.outForcedStop {m : Fin 48} (h : d.Canon) : (outForcedStop m d).Canon := by
  simp only [Machine.outForcedStop]
  split
  · exact h.bump.logEnt.outHalt
  · exact h

theorem Dev.Canon.phaseStep {m : Fin 48} (h : d.Canon) : (phaseStep m d).Canon := h.modOut

theorem Dev.Canon.voutBegin {k : Fin 8} (h : d.Canon) : (voutBegin k d).Canon := .ite h.modVout h

theorem Dev.Canon.voutEnd {k : Fin 8} (h : d.Canon) : (voutEnd k d).Canon := by
  simp only [Machine.voutEnd]
  split
  · exact h.modVout.bumpBy.voutRefresh
  · exact h

theorem Dev.Canon.voutForce {k : Fin 8} (h : d.Canon) : (voutForce k d).Canon := .ite h.modVout.bump.voutRefresh h

theorem Dev.Canon.voutNewGrid {k : Fin 8} (h : d.Canon) : (voutNewGrid k d).Canon := .ite h.modVout.bump h

theorem Dev.Canon.bucketsSync {p : Fin 8} (h : d.Canon) : (Dev.bucketsSync p d).Canon := h.modPort

theorem Dev.Canon.loadRefresh (h : d.Canon) : (Dev.loadRefresh d).Canon := h.setCond

theorem Dev.Canon.noticeJudge {n : Fin 4} {gr : Int} (h : d.Canon) : (Dev.noticeJudge n gr d).Canon := h.modTs

theorem Dev.Canon.sigStep {n : Fin 4} {g0 g1 : Int} (h : d.Canon) : (Dev.sigStep n g0 g1 d).Canon :=
  h.forFin fun _ _ h1 => .ite h1.modOut h1

theorem Dev.Canon.voutHold {k : Fin 8} {d0 g0 g1 : Int} (h : d.Canon) : (Dev.voutHold k d0 g0 g1 d).Canon := .ite h.modVout h

theorem Dev.Canon.voutStep {n : Fin 4} {g0 g1 : Int} (h : d.Canon) : (Dev.voutStep n g0 g1 d).Canon :=
  h.forFin fun _ _ h1 => h1.onlyIf (fun _ h2 => h2.voutHold)

theorem Dev.Canon.tsShift {n : Fin 4} {delta at_ : Int} (h : d.Canon) : (Dev.tsShift n delta at_ d).Canon := h.modTs

theorem Dev.Canon.tsStepped {n : Fin 4} {cause : Nat} {p : Int × Int × Nat} {g0 g1 : Int} (h : d.Canon) :
    (Dev.tsStepped n cause p g0 g1 d).Canon :=
  h.bump.event.noticeJudge.sigStep.voutStep

theorem Dev.Canon.tsClearHold {n : Fin 4} (h : d.Canon) : (Dev.tsClearHold n d).Canon := h.modTs

theorem Dev.Canon.tsTo {n : Fin 4} {st : TsState} {row : Nat} (h : d.Canon) : (Dev.tsTo n st row d).Canon :=
  h.modTs.stateEv.loadRefresh

theorem Dev.Canon.tsCompare {n : Fin 4} {k : Int} (h : d.Canon) : (Dev.tsCompare n k d).Canon := by
  simp only [Dev.tsCompare]
  split
  · exact h
  · exact .ite h h.modTs.bump.occur.tsTo
  · exact .ite h.tsClearHold.tsTo (.ite h.modTs h.modTs)

theorem Dev.Canon.tsLabel {n : Fin 4} {sec at_ : Int} (h : d.Canon) : (Dev.tsLabel n sec at_ d).Canon := h.modTs.tsCompare

theorem Dev.Canon.tsCapture {n : Fin 4} {gr : Int} (h : d.Canon) : (Dev.tsCapture n gr d).Canon := h.wr.wr.wr.wr.wr.modTs

theorem Dev.Canon.qerr {m : Fin 48} {n : Fin 4} {sec : Int} (h : d.Canon) : (Dev.qerr m n sec d).Canon := .ite h.wrF h

theorem Dev.Canon.ppsEmit {n : Fin 4} {sec : Int} (h : d.Canon) : (Dev.ppsEmit n sec d).Canon := by
  simp only [Dev.ppsEmit]
  split
  · exact .ite h.modTs h.bump
  · exact h.modTs

theorem Dev.Canon.hiAfter {n : Fin 4} {gr : Int} (h : d.Canon) : (Dev.hiAfter n gr d).Canon := .ite h.modTs h

theorem Dev.Canon.edgeStep {n : Fin 4} {cause : Nat} {gr : Int} {p : Int × Int × Nat} (h : d.Canon) :
    (Dev.edgeStep n cause gr p d).Canon :=
  h.tsShift.tsStepped.hiAfter

theorem Dev.Canon.edgeSched {n : Fin 4} {gr : Int} (h : d.Canon) : (Dev.edgeSched n gr d).2.2.Canon := by
  simp only [Dev.edgeSched]
  split
  · split
    · exact h.modTs.edgeStep
    · exact h
  · exact h

theorem Dev.Canon.edgeLeap {n : Fin 4} {gr : Int} (h : d.Canon) : (Dev.edgeLeap n gr d).Canon := by
  simp only [Dev.edgeLeap]
  split
  · exact .ite h.wrF.modTs.bump.event h
  · exact h

theorem Dev.Canon.edgeUtc {n : Fin 4} {gr : Int} (h : d.Canon) : (Dev.edgeUtc n gr d).Canon := by
  simp only [Dev.edgeUtc]
  split
  · refine Dev.Canon.modTs ?_
    refine Dev.Canon.wr ?_
    split
    · exact h.wr.modTs.noticeJudge
    · exact h
  · split
    · exact h.wr.modTs.noticeJudge
    · exact h

theorem Dev.Canon.edgeAccept {n : Fin 4} {gr : Int} {other : Bool} (h : d.Canon) : (Dev.edgeAccept n gr other d).2.Canon :=
  .ite2 (.ite2 h.modTs h.edgeStep.tsClearHold.tsTo) h

theorem Dev.Canon.edgeSet {n : Fin 4} {gr : Int} (h : d.Canon) : (Dev.edgeSet n gr d).2.Canon := by
  simp only [Dev.edgeSet]
  split
  · exact (Dev.Canon.ite h.modTs.setLofs h.modTs).edgeStep.tsClearHold.tsTo
  · exact h

theorem Dev.Canon.edgeCompare {n : Fin 4} {gr : Int} (h : d.Canon) : (Dev.edgeCompare n gr d).Canon := by
  simp only [Dev.edgeCompare]
  split
  · split
    · exact h
    · split
      · exact h.tsCompare
      · exact h
  · exact .ite h.modTs h

theorem Dev.Canon.ppsEdgeActs {n : Fin 4} (h : d.Canon) : (ppsEdgeActs n d).Canon := by
  unfold Machine.ppsEdgeActs
  extract_lets sec gr d1 d2 d3 d4 d5 d6
  have h1 : d1.Canon := h.ppsEmit.forFin fun _ _ h1 => h1.qerr
  have h2 : d2.2.2.Canon := h1.edgeSched
  have h3 : d3.Canon := h2.edgeUtc.edgeLeap
  have h4 : d4.2.Canon := h3.edgeAccept
  have h5 : d5.2.Canon := h4.edgeSet
  have h6 : d6.Canon := h5.edgeCompare
  exact .ite (.ite h6.tsCapture h6) h

theorem Dev.Canon.leapNoticeBegin {n : Fin 4} (h : d.Canon) : (leapNoticeBegin n d).Canon := h.modTs

theorem Dev.Canon.tsJump {c : Fin 16} {jump24 : Int} (h : d.Canon) : (Dev.tsJump c jump24 d).Canon :=
  h.forFin fun _ _ h1 => .ite (.ite h1.modTs.tsStepped h1.modTs) h1

theorem Dev.Canon.modLoop {c : Fin 16} {f : Loop → Loop} (h : d.Canon) : (Dev.modLoop c f d).Canon := h.modChan

theorem Dev.Canon.modTrack {c : Fin 16} {f : Track → Track} (h : d.Canon) : (Dev.modTrack c f d).Canon := h.modChan

theorem Dev.Canon.modSw {c : Fin 16} {f : Switching → Switching} (h : d.Canon) : (Dev.modSw c f d).Canon := h.modChan

theorem Dev.Canon.modHo {c : Fin 16} {f : Holdover → Holdover} (h : d.Canon) : (Dev.modHo c f d).Canon := h.modChan

theorem Dev.Canon.modSel {c : Fin 16} {f : Select → Select} (h : d.Canon) : (Dev.modSel c f d).Canon := h.modChan

theorem Dev.Canon.coefs {c : Fin 16} (h : d.Canon) : (Dev.coefs c d).Canon := h.wr.wr.wr.modChan

theorem Dev.Canon.chanReconf {c : Fin 16} (h : d.Canon) : (Dev.chanReconf c d).Canon :=
  .ite (Dev.Canon.ite h h.modLoop).coefs (.ite h h.modLoop)

theorem Dev.Canon.anchorClear {c : Fin 16} (h : d.Canon) : (Dev.anchorClear c d).Canon := by
  unfold Dev.anchorClear
  exact (h.forFin (fun _ _ h1 => h1.onlyIf (fun _ h2 => h2.modOut.outRefresh))).forFin
    fun _ _ h1 => h1.onlyIf (fun _ h2 => h2.modVout.voutRefresh)

theorem Dev.Canon.chanTo {c : Fin 16} {st : ChState} {row : Nat} (h : d.Canon) : (Dev.chanTo c st row d).Canon := by
  unfold Dev.chanTo
  extract_lets old d1 d2 d3 d4 d5 d6 d7
  have h1 : d1.Canon := h.modChan
  have h2 : d2.Canon := h1.stateEv
  have h3 : d3.Canon := h2.setCond.setCond
  have h4 : d4.Canon := .ite h3 h3.occur
  have h5 : d5.Canon := .ite h4.bump h4
  have h6 : d6.Canon := .ite h5.bump.anchorClear h5
  have h7 : d7.Canon := .ite h6.bump h6
  exact .ite h (.ite h7.chanOutputs h7)

theorem Dev.Canon.histClear {c : Fin 16} (h : d.Canon) : (Dev.histClear c d).Canon := h.modHo

theorem Dev.Canon.pubPhisw {c : Fin 16} (h : d.Canon) : (Dev.pubPhisw c d).Canon := h.pub40

theorem Dev.Canon.pubY {c : Fin 16} (h : d.Canon) : (Dev.pubY c d).Canon :=
  h.modLoop.pub40.pub40.forFin fun _ _ h1 => h1.onlyIf (fun _ h2 => h2.modLan)

theorem Dev.Canon.switchDone {c : Fin 16} (h : d.Canon) : (Dev.switchDone c d).Canon := h.modSw.event

theorem Dev.Canon.jump {c : Fin 16} {dGr : Int} (h : d.Canon) : (Dev.jump c dGr d).Canon := h.modLoop.modTrack.bump.realign.tsJump

theorem Dev.Canon.takeD {c : Fin 16} {dGr : Int} {pullEnded : Bool} (h : d.Canon) : (Dev.takeD c dGr pullEnded d).Canon := by
  simp only [Dev.takeD]
  split
  · exact (Dev.Canon.ite h.pub40.modSw.bump.event h.pub40.modSw).modLoop.modSw.pubPhisw
  · exact (Dev.Canon.ite h.pub40.modSw.bump.event h.pub40.modSw).modLoop.pubPhisw.switchDone
  · exact (Dev.Canon.ite h.pub40.modSw.bump.event h.pub40.modSw).jump.pubPhisw.switchDone

theorem Dev.Canon.switchAbort {c : Fin 16} (h : d.Canon) : (Dev.switchAbort c d).Canon := (Dev.Canon.ite h.pub40.bump h).modSw

theorem Dev.Canon.partnerClear {c : Fin 16} (h : d.Canon) : (Dev.partnerClear c d).Canon := by
  simp only [Dev.partnerClear]
  split
  · exact h.modSel.event
  · exact h

theorem Dev.Canon.stopTracking {c : Fin 16} {keep : Bool} (h : d.Canon) : (Dev.stopTracking c keep d).Canon :=
  h.switchAbort.modTrack.modLoop.pubPhisw

theorem Dev.Canon.freezeAt {c : Fin 16} {frz : Int} {base : Int × BitVec 2 × Nat × Option Int} (h : d.Canon) :
    (Dev.freezeAt c frz base d).Canon :=
  h.stopTracking.modLoop.modHo.pub40.bump.pubY

theorem Dev.Canon.lossRows {c : Fin 16} {frz : Int} {base : Int × BitVec 2 × Nat × Option Int} (h : d.Canon) :
    (Dev.lossRows c frz base d).Canon :=
  .ite h.stopTracking.modHo.histClear.pubY.chanTo (.ite h.freezeAt.chanTo h.freezeAt.histClear.chanTo)

theorem Dev.Canon.leaveSlot {c : Fin 16} {orphan : Bool} (h : d.Canon) : (Dev.leaveSlot c orphan d).Canon :=
  .ite h.partnerClear.modSel.lossRows h.partnerClear.modSel

theorem Dev.Canon.chanHold {c : Fin 16} (h : d.Canon) : (Dev.chanHold c d).Canon :=
  .ite h.modTrack.partnerClear.modSel.switchAbort.modLoop.pubPhisw.modHo h

theorem Dev.Canon.chanBack {c : Fin 16} (h : d.Canon) : (Dev.chanBack c d).Canon := .ite h.lossRows h

theorem Dev.Canon.toFreeRun {c : Fin 16} {m : ChMode} (h : d.Canon) : (Dev.toFreeRun c m d).Canon := by
  unfold Dev.toFreeRun
  extract_lets y d1 d2 d3 d4 d5
  have h1 : d1.Canon := h.partnerClear.modSel
  have h2 : d2.Canon := h1.stopTracking.modChan
  have h3 : d3.Canon := .ite h2.pub40 h2
  have h4 : d4.Canon := h3.modHo
  have h5 : d5.Canon := .ite h4 h4.histClear
  exact h5.pubY.chanTo

theorem Dev.Canon.startPull {c : Fin 16} (h : d.Canon) : (Dev.startPull c d).Canon := h.modTrack.modLoop.histClear

theorem Dev.Canon.follow {c : Fin 16} {n : Fin 64} {src : SelSrc} (h : d.Canon) : (Dev.follow c n src d).Canon := by
  simp only [Dev.follow]
  split
  · exact (Dev.Canon.ite h.partnerClear.modSel.modChan.modTrack.coefs h.partnerClear.modSel.modChan.modTrack).modSw.chanTo
  · exact (Dev.Canon.ite h.partnerClear.modSel.modChan.modTrack.coefs h.partnerClear.modSel.modChan.modTrack).modSw
  · exact (Dev.Canon.ite h.partnerClear.modSel.modChan.modTrack.coefs h.partnerClear.modSel.modChan.modTrack).modSw.modHo.chanTo
  · exact (Dev.Canon.ite h.partnerClear.modSel.modChan.modTrack.coefs h.partnerClear.modSel.modChan.modTrack).modSw.startPull.chanTo
  · exact (Dev.Canon.ite h.partnerClear.modSel.modChan.modTrack.coefs h.partnerClear.modSel.modChan.modTrack).modSw.startPull.chanTo

theorem Dev.Canon.chanPhase {c : Fin 16} {ph : Int} (h : d.Canon) : (Dev.chanPhase c ph d).Canon := .ite h.modTrack.modSw h.modTrack

theorem Dev.Canon.chanEdge {n : Fin 64} {t : Int} (h : d.Canon) : (Dev.chanEdge n t d).Canon :=
  h.forFin fun _ _ h1 => .ite h1.modTrack.chanPhase h1

theorem Dev.Canon.chanGiven {n : Fin 64} {e : Int} (h : d.Canon) : (Dev.chanGiven n e d).Canon :=
  h.forFin fun _ _ h1 => .ite h1.chanPhase h1

theorem Dev.Canon.chanEstimate {n : Fin 64} (h : d.Canon) : (Dev.chanEstimate n d).Canon :=
  h.forFin fun _ _ h1 => .ite (.ite h1.modTrack.modSw h1.modTrack) h1

theorem Dev.Canon.limFlags {c : Fin 16} {slope frate : Bool} (h : d.Canon) : (Dev.limFlags c slope frate d).Canon :=
  (Dev.Canon.ite (Dev.Canon.ite h.bump h).bump (.ite h.bump h)).modTrack

theorem Dev.Canon.lockLogic {c : Fin 16} {er16 : Int} {slope : Bool} (h : d.Canon) : (Dev.lockLogic c er16 slope d).Canon :=
  .ite h.modTrack.modTrack (.ite (.ite h.modTrack.pub40.modTrack.chanTo h.modTrack.pub40) h.modTrack.pub40.modTrack)

theorem Dev.Canon.trackUpdate {c : Fin 16} {e : Int} {ramp : Bool} (h : d.Canon) : (Dev.trackUpdate c e ramp d).Canon := by
  unfold Dev.trackUpdate
  extract_lets x tu s24 fr pull er16 j raw aim b cut step phi sg pass vSw phi' want p slope ended d1 d2 d3 d4
  have h1 : d1.Canon := h.modLoop
  have h2 : d2.Canon := h1.limFlags
  have h3 : d3.Canon := .ite h2.pubPhisw.modSw h2
  have h4 : d4.Canon := .ite h3.switchDone h3
  exact .ite h4.lockLogic h4

theorem Dev.Canon.driftUpdate {c : Fin 16} {e : Int} (h : d.Canon) : (Dev.driftUpdate c e d).Canon := h.modLoop.limFlags

theorem Dev.Canon.tsZero {c : Fin 16} (h : d.Canon) : (Dev.tsZero c d).Canon := .ite h (h.forFin (fun _ _ h1 => .ite h1.modTs h1))

theorem Dev.Canon.chanUpdateStep {c : Fin 16} (h : d.Canon) : (chanUpdateStep c d).Canon := by
  unfold Machine.chanUpdateStep
  extract_lets x tu e live sat d1 d2 d3 d4 sec d5 d6 dt d7
  have h1 : d1.Canon := .ite h.pub40.modTrack h
  have h2 : d2.Canon := h1.takeD
  have h3 : d3.Canon := .ite (.ite h2.trackUpdate.modLoop h1.trackUpdate) h1.driftUpdate
  have h4 : d4.Canon := h3.pubY
  have h5 : d5.Canon := .ite h4.modHo h4
  have h6 : d6.Canon := h5.modChan
  have h7 : d7.Canon := h6.modLoop
  exact .ite h7.tsZero h

theorem Dev.Canon.pullWindowEnd {c : Fin 16} (h : d.Canon) : (pullWindowEnd c d).Canon := by
  simp only [Machine.pullWindowEnd]
  split
  · exact .ite (.ite h.modTrack.modHo.modSw.takeD h.modLoop.modTrack) h
  · exact h

theorem Dev.Canon.lockTimeEnd {c : Fin 16} (h : d.Canon) : (lockTimeEnd c d).Canon :=
  .ite (Dev.Canon.ite h.modChan h.modChan.modHo).modTrack.chanTo h

theorem Dev.Canon.historySnap (h : d.Canon) : (historySnap d).Canon := .ite (h.forFin (fun _ _ h1 => h1.modHo)) h

theorem Dev.Canon.historySecond {c : Fin 16} (h : d.Canon) : (historySecond c d).Canon := by
  simp only [Machine.historySecond]
  split
  · exact h
  · split
    · refine Dev.Canon.pub40 ?_
      split
      · exact (Dev.Canon.ite h.modHo h).modHo.pub40
      · exact (Dev.Canon.ite h.modHo h).modHo
    · split
      · exact (Dev.Canon.ite h.modHo h).modHo.pub40
      · exact (Dev.Canon.ite h.modHo h).modHo

theorem Dev.Canon.holdoverSec {c : Fin 16} (h : d.Canon) : (holdoverSec c d).Canon :=
  .ite (.ite h.modHo.modLoop.pub40.wr.wr.modLoop.bump.histClear.chanTo h.modHo.modLoop.pub40.wr.wr) h

theorem Dev.Canon.predictionSec {c : Fin 16} (h : d.Canon) : (predictionSec c d).Canon := .ite h h.pub40

theorem Dev.Canon.tempRead {c : Fin 16} (h : d.Canon) : (tempRead c d).Canon := by
  simp only [Machine.tempRead]
  split
  · exact h.modHo
  · split
    · split
      · exact .ite h.modHo h.modHo
      · exact h.modHo
    · exact h.modHo

/-- A command of checked parameters, where its effect keeps the canonical form. -/
theorem Dev.Canon.checked {c : Cmd} {used : List Param} {bad : List Nat} {f : Dev → CmdOut × Dev} (h : d.Canon)
    (hf : ∀ d, d.Canon → (f d).2.Canon) : (checked c used bad f d).2.Canon := by
  simp only [Machine.checked]
  split
  · exact h
  · exact hf d h

theorem Dev.Canon.checkedLong {c : Cmd} {used : List Param} {bad : List Nat} {f : Dev → Option CmdOut × Dev} (h : d.Canon)
    (hf : ∀ d, d.Canon → (f d).2.Canon) : (checkedLong c used bad f d).2.Canon := by
  simp only [Machine.checkedLong]
  split
  · exact h
  · exact hf d h

theorem Dev.Canon.modQual {n : Fin 64} {f : Qual → Qual} (h : d.Canon) : (Dev.modQual n f d).Canon := h.modBuoy

theorem Dev.Canon.modMon {n : Fin 64} {f : Monitor → Monitor} (h : d.Canon) : (Dev.modMon n f d).Canon := h.modBuoy

theorem Dev.Canon.partnerKeep {c : Fin 16} {was : Fin 64 → Nat} (h : d.Canon) : (Dev.partnerKeep c was d).Canon := by
  simp only [Dev.partnerKeep]
  split
  · exact .ite h h.partnerClear
  · exact h

theorem Dev.Canon.disarm {c : Fin 16} (h : d.Canon) : (Dev.disarm c d).Canon := h.modSel.wrF

theorem Dev.Canon.selectSlot {c : Fin 16} {n : Fin 64} {force auto : Bool} (h : d.Canon) :
    (Dev.selectSlot c n force auto d).2.Canon := by
  unfold Dev.selectSlot
  extract_lets x src d1 d2
  have h1 : d1.Canon := .ite h.modSel h.follow
  have h2 : d2.Canon := h1.bump
  exact .ite2 h.disarm (.ite2 h.disarm (.ite2 h (.ite2 h (.ite h2.disarm.occur.logEnt h2))))

theorem Dev.Canon.autopilot {c : Fin 16} (h : d.Canon) : (Dev.autopilot c d).Canon := by
  simp only [Dev.autopilot]
  split
  · split
    · split
      · exact h.selectSlot.logEnt
      · exact h.selectSlot
    · exact h
  · exact h

theorem Dev.Canon.autopilotFor {l : List (Fin 16)} (h : d.Canon) : (Dev.autopilotFor l d).Canon := h.foldl fun _ _ h1 => h1.autopilot

theorem Dev.Canon.autopilotAll (h : d.Canon) : (Dev.autopilotAll d).Canon := h.forFin fun _ _ h1 => h1.autopilot

theorem Dev.Canon.qualTo {n : Fin 64} {st : QState} {row : Nat} (h : d.Canon) : (Dev.qualTo n st row d).Canon := h.modQual.stateEv

theorem Dev.Canon.marksEnd {n : Fin 64} (h : d.Canon) : (Dev.marksEnd n d).Canon := h.forFin fun _ _ h1 => h1.modSel

theorem Dev.Canon.leftQual {n : Fin 64} (h : d.Canon) : (Dev.leftQual n d).Canon :=
  (h.bump.forFin (fun _ _ h1 => .ite h1.partnerClear h1)).marksEnd

theorem Dev.Canon.dropSlot {n : Fin 64} (h : d.Canon) : (Dev.dropSlot n d).Canon := (h.foldl (fun _ _ h1 => h1.leaveSlot)).autopilotFor

theorem Dev.Canon.qualLeave {n : Fin 64} {st : QState} {row : Nat} (h : d.Canon) : (Dev.qualLeave n st row d).Canon :=
  .ite h.qualTo.leftQual.dropSlot h.qualTo

theorem Dev.Canon.holdOut {n : Fin 64} {f : Qual → Qual} (h : d.Canon) : (Dev.holdOut n f d).Canon :=
  .ite h.modQual h.modQual.qualLeave

theorem Dev.Canon.qualDown {n : Fin 64} (h : d.Canon) : (Dev.qualDown n d).Canon := by
  simp only [Dev.qualDown]
  split
  · exact h
  · exact h
  · exact h.qualTo.leftQual
  · exact h.qualTo
  · exact h.qualTo
  · exact h.qualTo

theorem Dev.Canon.qualify {n : Fin 64} (h : d.Canon) : (Dev.qualify n d).Canon := h.modQual.bump.qualTo.autopilotAll

theorem Dev.Canon.qualEval {n : Fin 64} (h : d.Canon) : (Dev.qualEval n d).Canon := by
  simp only [Dev.qualEval]
  split
  · exact .ite h.qualTo (.ite h.qualify h)
  · exact .ite h.qualTo (.ite h.qualify h)
  · exact .ite h.qualLeave h
  · exact .ite h (.ite h.qualTo h.qualTo)
  · exact h
  · exact h

theorem Dev.Canon.holdExit {n : Fin 64} (h : d.Canon) : (Dev.holdExit n d).Canon :=
  .ite (.ite h.qualTo (.ite h.qualTo.qualEval h.qualTo.qualEval)) h

theorem Dev.Canon.qualUp {n : Fin 64} (h : d.Canon) : (Dev.qualUp n d).Canon := .ite (Dev.Canon.ite h.qualTo h.qualTo).qualEval h

theorem Dev.Canon.qualTimer {n : Fin 64} (h : d.Canon) : (qualTimer n d).Canon := .ite (.ite h.modQual.qualify h.modQual) h

theorem Dev.Canon.setPair {k : Nat} {p : Pair} (h : d.Canon) : (Dev.setPair k p d).Canon := h

theorem Dev.Canon.equalTest {c : Fin 16} (h : d.Canon) : (Dev.equalTest c d).Canon := by
  unfold Dev.equalTest
  extract_lets sel d1 d2
  have h1 : d1.Canon := by
    unfold d1
    split
    · exact .ite h h.partnerClear
    · exact h
  have h2 : d2.Canon := h1.modSel
  split
  · exact h2
  · extract_lets r
    split
    · exact h2
    · extract_lets d3
      have h3 : d3.Canon := h2.modSel
      split
      · exact h3.modSel
      · exact .ite h3 h3.modSel.occur.event

theorem Dev.Canon.forceArmEnd {c : Fin 16} (h : d.Canon) : (forceArmEnd c d).Canon := .ite h.disarm h

theorem Dev.Canon.forceWrite {c : Fin 16} {w : Word} (h : d.Canon) : (Dev.forceWrite c w d).Canon := .ite h.wr.modSel h.wr.disarm

theorem Dev.Canon.chanSelectBody {c : Cmd} (h : d.Canon) : (chanSelectBody c d).2.Canon :=
  h.checked fun _ h1 => by
    refine .ite2 h1.wrWords.wr.partnerKeep (.ite2 h1 (.ite2 h1.leaveSlot ?_))
    dsimp only
    split
    · exact h1.selectSlot
    · exact h1.selectSlot.bump.autopilot

theorem Dev.Canon.refQualParamsBody {c : Cmd} (h : d.Canon) : (refQualParamsBody c d).2.Canon :=
  h.checked fun _ h1 => h1.wrWords.wrWords

theorem Dev.Canon.refForceStateBody {c : Cmd} (h : d.Canon) : (refForceStateBody c d).2.Canon :=
  h.checked fun _ h1 => .ite2 (.ite2 h1.qualTimer h1) (.ite h1.holdOut h1.modQual.holdExit)

theorem Dev.Canon.modAct {n : Fin 64} {f : Activity → Activity} (h : d.Canon) : (Dev.modAct n f d).Canon := h.modBuoy

theorem Dev.Canon.modDec {n : Fin 64} {f : Decoder → Decoder} (h : d.Canon) : (Dev.modDec n f d).Canon := h.modBuoy

theorem Dev.Canon.rangeFail {n : Fin 64} (h : d.Canon) : (Dev.rangeFail n d).Canon := h.modDec.bump.occur

theorem Dev.Canon.decErr {n : Fin 64} (h : d.Canon) : (Dev.decErr n d).Canon := h.modDec.bump.occur

theorem Dev.Canon.pubDec {n : Fin 64} {ws : List Word} (h : d.Canon) : (Dev.pubDec n ws d).Canon := h.wrWords.pubStat

theorem Dev.Canon.setRate {n : Fin 64} {num den pre : Nat} (h : d.Canon) : (Dev.setRate n num den pre d).Canon := h.pub40.wr

theorem Dev.Canon.slotClear {n : Fin 64} (h : d.Canon) : (Dev.slotClear n d).Canon := by
  unfold Dev.slotClear
  extract_lets was d1 d2
  have h1 : d1.Canon := h.modBuoy
  have h2 : d2.Canon := h1.foldl fun _ _ h => .ite h h.setPair
  exact (h2.forFin fun _ _ h => .ite h.partnerClear h).marksEnd

theorem Dev.Canon.signalLoss {n : Fin 64} (h : d.Canon) : (Dev.signalLoss n d).Canon :=
  h.forFin fun _ _ h1 => h1.onlyIf (fun _ h2 => h2.leaveSlot)

theorem Dev.Canon.slotDown {n : Fin 64} {row : Nat} (h : d.Canon) : (Dev.slotDown n row d).Canon := by
  unfold Dev.slotDown
  extract_lets l old d1 d2
  have h1 : d1.Canon := h.slotClear.modAct
  have h2 : d2.Canon := .ite h1.bump.occur h1
  exact .ite (h2.stateEv.signalLoss.qualDown.autopilotFor.onlyIf (fun _ h3 => h3.orphanJoin)) h1

theorem Dev.Canon.slotLoss {n : Fin 64} (h : d.Canon) : (slotLoss n d).Canon := by
  simp only [Machine.slotLoss]
  split
  · exact h.slotDown
  · exact h.slotDown
  · exact h.modDec

theorem Dev.Canon.slotRestart {n : Fin 64} (h : d.Canon) : (Dev.slotRestart n d).Canon := h.slotDown.modBuoy.wrF

theorem Dev.Canon.slotUp {n : Fin 64} {t : Int} (h : d.Canon) : (Dev.slotUp n t d).Canon := h.modBuoy.stateEv.qualUp

theorem Dev.Canon.actEvent {n : Fin 64} {t : Int} {good frame : Bool} (h : d.Canon) : (Dev.actEvent n t good frame d).Canon := by
  simp only [Dev.actEvent]
  split
  · exact h.modAct
  · exact h.modAct
  · exact .ite h.modAct (.ite h.slotUp h.modAct)

theorem Dev.Canon.gateEvent {n : Fin 64} {t ph : Int} (h : d.Canon) : (Dev.gateEvent n t ph d).Canon := h.modMon

theorem Dev.Canon.edgeEvent {n : Fin 64} {t : Int} (h : d.Canon) : (Dev.edgeEvent n t d).Canon := .ite h h.modMon.gateEvent

theorem Dev.Canon.gateStart {n : Fin 64} (h : d.Canon) : (Dev.gateStart n d).Canon := h.modMon

/-- The publication of a gate, as a function: applied to a device, its equation would have the kernel evaluate the channel
compared with. -/
theorem gatePublish_eq (n : Fin 64) (y : Int) : Dev.gatePublish n y = fun d =>
    let means := (List.finRange 16).map fun c => ffoMean (d.chan c) ((d.buoy n).mon.gateChans.getD c.val (0, 0))
    let d := (d.pub40 (buoyOff n + 0x30) (sat40 y)).modMon n fun m => { m with freqValid := true, y := sat40 y, gateFfo := means }
    match d.cmpChan n with
    | some c =>
      let r := sat40 (ffoRatio y (means.getD c.val 0))
      (d.pub40 (buoyOff n + 0x38) r).modMon n fun m => { m with chValid := true, chOf := some c, yCh := r }
    | none => d.modMon n fun m => { m with chValid := false } := rfl

theorem Dev.Canon.gatePublish {n : Fin 64} {y : Int} (h : d.Canon) : (Dev.gatePublish n y d).Canon := by
  rw [gatePublish_eq]
  beta_reduce
  extract_lets means d1
  have h1 : d1.Canon := h.pub40.modMon
  split
  · exact h1.pub40.modMon
  · exact h1.modMon

theorem Dev.Canon.gateEnd {n : Fin 64} (h : d.Canon) : (gateEnd n d).Canon := by
  simp only [Machine.gateEnd]
  split
  · split
    · exact .ite h.gatePublish.modAct.slotDown.gateStart h.gatePublish.qualEval.gateStart
    · exact h.modMon.gateStart
  · exact h

theorem Dev.Canon.tieTake {n : Fin 64} (h : d.Canon) : (tieTake n d).Canon := .ite (Dev.Canon.ite h.wrF h).pub40.modMon h

theorem Dev.Canon.mtieResults {n : Fin 64} (h : d.Canon) : (Dev.mtieResults n d).2.Canon :=
  Dev.Canon.foldl2 h fun _ _ h1 => by
    split
    · exact h1
    · exact h1.draw

theorem Dev.Canon.mtieEnd {n : Fin 64} (h : d.Canon) : (mtieEnd n d).Canon := .ite h.mtieResults.wrWords.pubStat.modMon.qualEval h

theorem Dev.Canon.todToTs {n : Fin 64} {ptp sixty before : Bool} {sec : Nat} (h : d.Canon) :
    (Dev.todToTs n ptp sixty before sec d).Canon :=
  h.forFin fun _ _ h1 => by
    split
    · split
      · exact h1.modTs
      · split
        · exact h1.tsLabel
        · exact h1
    · exact h1

theorem Dev.Canon.todDrop {n : Fin 64} (h : d.Canon) : (Dev.todDrop n d).Canon := h.modDec

theorem Dev.Canon.todTake {n : Fin 64} {m : TodMsg} (h : d.Canon) : (todTake n m d).Canon :=
  .ite h (.ite h.todDrop.decErr (.ite h.todDrop.rangeFail h.modDec.pubDec.todToTs))

theorem Dev.Canon.todEdge {n : Fin 64} {t : Int} (h : d.Canon) : (Dev.todEdge n t d).Canon :=
  (Dev.Canon.ite h.modDec (h.modDec.forFin fun _ _ h1 => .ite h1.modTs h1)).forFin fun _ _ h1 => by
    split
    · dsimp only
      split
      · exact .ite h1.modTs.modTs.tsLabel h1.modTs
      · exact h1.modTs
    · exact h1

theorem Dev.Canon.ltcTake {n : Fin 64} {f : LtcFrame} (h : d.Canon) : (ltcTake n f d).Canon := by
  simp only [Machine.ltcTake]
  split
  · split
    · exact h.modDec.rangeFail.qualEval
    · exact h.modDec.pubDec.qualEval
  · exact h

theorem Dev.Canon.aesTake {n : Fin 64} {b : AesBlock} (h : d.Canon) : (aesTake n b d).Canon := by
  unfold Machine.aesTake
  extract_lets whole d1 d2 clean up down d3 d4
  have h1 : d1.Canon := h.foldl fun _ _ h1 => h1.decErr
  have h2 : d2.Canon := .ite h1.modDec h1.rangeFail
  have h3 : d3.Canon := h2.modDec
  have h4 : d4.Canon := .ite h3.pubDec h3
  exact .ite h4.qualEval h

theorem Dev.Canon.videoLine {n : Fin 64} {v : VideoInfo} (h : d.Canon) : (Dev.videoLine n v d).2.Canon :=
  .ite2 (.ite (Dev.Canon.ite h.rangeFail h).rangeFail (.ite h.rangeFail h)) (Dev.Canon.ite h.modDec.qualEval h.modDec).pubDec

theorem Dev.Canon.videoFormat {vin : Fin 4} {fmt : Byte} (h : d.Canon) : (videoFormat vin fmt d).Canon :=
  .ite (Dev.Canon.ite h h.slotLoss.event).modDec.setRate h

theorem Dev.Canon.glitch {n : Fin 64} (h : d.Canon) : (glitch n d).Canon := .ite h.bump h

theorem Dev.Canon.slotCapture {n : Fin 64} {t : Int} (h : d.Canon) : (Dev.slotCapture n t d).Canon :=
  h.forFin fun _ _ h1 => .ite h1.tsCapture h1

theorem Dev.Canon.tdcEdge {n : Fin 64} (h : d.Canon) : (Dev.tdcEdge n d).2.Canon := h.modAct

theorem Dev.Canon.edgeIn {n : Fin 64} {t : Int} {frame : Bool} (h : d.Canon) : (Dev.edgeIn n t frame d).Canon := by
  unfold Dev.edgeIn
  extract_lets d1 d2 d3 d4
  have h1 : d1.Canon := h.actEvent
  have h2 : d2.2.Canon := h1.tdcEdge
  have h3 : d3.Canon := .ite (.ite h2.edgeEvent.chanEdge h2) h1
  have h4 : d4.Canon := .ite h3.todEdge h3
  exact h4.slotCapture

theorem Dev.Canon.edgeCheck {n : Fin 64} {ev : TimingEv} (h : d.Canon) : (Dev.edgeCheck n ev d).Canon := by
  unfold Dev.edgeCheck
  extract_lets k d1 d2 d3
  have h1 : d1.Canon := .ite h.modDec h
  have h2 : d2.Canon := .ite h1.pubDec h1
  have h3 : d3.Canon := .ite h2 h2.modDec
  refine .ite h.rangeFail ?_
  refine .ite h ?_
  refine .ite h.rangeFail.qualEval ?_
  split
  · extract_lets d4
    have h4 : d4.2.Canon := h3.videoLine
    exact .ite h4.edgeIn h4
  · exact h3.edgeIn

theorem Dev.Canon.estEvent {n : Fin 64} {k : Fin 4} {ph ffo at_ : Int} (h : d.Canon) : (Dev.estEvent n k ph ffo at_ d).Canon :=
  (Dev.Canon.ite h.modBuoy.actEvent.gateEvent.chanEstimate h.modBuoy.actEvent).slotCapture

theorem Dev.Canon.packetEstimate {n : Fin 64} {k : Fin 4} {ph ffo at_ : Int} {reroute : Bool} (h : d.Canon) :
    (Dev.packetEstimate n k ph ffo at_ reroute d).Canon :=
  .ite h (.ite h.rangeFail (.ite h.estEvent.pubDec.holdOut (.ite h.estEvent.pubDec.modQual.holdExit h.estEvent.pubDec)))

theorem Dev.Canon.hsTake {n : Fin 64} (h : d.Canon) : (Dev.hsTake n d).Canon := by
  simp only [Dev.hsTake]
  split
  · exact h
  · exact h.modBuoy.estEvent

theorem Dev.Canon.hsQueue {n : Fin 64} {e : Dev} (h : d.Canon) (he : Dev.hsQueue n d = some e) : e.Canon := by
  simp only [Dev.hsQueue] at he
  split at he
  · contradiction
  · cases he
    exact h.modBuoy

theorem Dev.Canon.cascadeEvent {t e : Int} (h : d.Canon) : (Dev.cascadeEvent t e d).Canon :=
  .ite h (Dev.Canon.ite h.actEvent.edgeEvent.chanGiven h.actEvent).slotCapture

theorem Dev.Canon.slotEvent {n : Fin 64} {ev : TimingEv} (h : d.Canon) : (slotEvent n ev d).Canon :=
  .ite h (.ite h.hsTake (.ite h.edgeCheck h))

theorem Dev.Canon.buoyLossBody {n : Fin 64} (h : d.Canon) : (buoyLossBody n d).Canon := .ite h.slotLoss h

end Sys2Proof.Machine
end

section
/-! The canonical form: the matrix, the commands of channels, outputs and time scales, the Keeper, ports. -/

namespace Sys2Proof.Machine

set_option Elab.async false

variable {d : Dev}

theorem Dev.Canon.cycleOf {n : Fin 64} (h : d.Canon) : (Dev.cycleOf n d).2.Canon := by
  simp only [Dev.cycleOf]
  split
  · split
    · exact h
    · exact .ite2 h h.draw.draw
  · exact h

theorem Dev.Canon.cycleAll (h : d.Canon) : (Dev.cycleAll d).2.Canon := Dev.Canon.foldl2 h fun _ _ h1 => h1.cycleOf

theorem Dev.Canon.pairsStep {res : List (Option (Int × Int))} (h : d.Canon) : (Dev.pairsStep res d).Canon := by
  unfold Dev.pairsStep
  refine h.foldl fun _ _ h1 => ?_
  dsimp only
  split
  · exact h1.setPair
  · exact h1.setPair

theorem Dev.Canon.pubEntries (h : d.Canon) : (Dev.pubEntries d).Canon := h.foldl fun _ _ h1 => h1.pub40.wr.wr

theorem Dev.Canon.pubWitness {i : Fin 64} (h : d.Canon) : (Dev.pubWitness i d).Canon := h.wr.modQual

theorem Dev.Canon.cycleStart {i : Fin 64} (h : d.Canon) : (Dev.cycleStart i d).Canon := h.modMon

theorem Dev.Canon.nextCycle (h : d.Canon) : ({ d with cycle := d.cycle + 1 } : Dev).Canon := h

theorem Dev.Canon.matrixEnd (h : d.Canon) : (matrixEnd d).Canon := by
  unfold Machine.matrixEnd
  split
  · extract_lets r d1 d2
    have h1 : d1.Canon := h.cycleAll.pairsStep.pubEntries.pubStat
    clear_value d1
    have h2 : d2.Canon := (h1.nextCycle.forFin fun _ _ h => h.pubWitness).forFin fun _ _ h => h.cycleStart
    exact (h2.forFin fun _ _ h => h.qualEval).forFin fun _ _ h => h.equalTest
  · exact h

theorem Dev.Canon.takeRate {n : Fin 64} (h : d.Canon) : (Dev.takeRate n d).Canon := .ite h.setRate h

theorem Dev.Canon.refConfigBody {c : Cmd} (h : d.Canon) : (refConfigBody c d).2.Canon :=
  h.checked fun _ h1 => .ite2 h1 (Dev.Canon.ite h1.wr.takeRate h1.wr.pub40.wr).wrWords.modQual.slotRestart

theorem Dev.Canon.chanConfigBody {c : Cmd} (h : d.Canon) : (chanConfigBody c d).2.Canon :=
  h.checked (fun _ h1 => (h1.wr.wr.pub40.foldl (fun _ _ h2 => h2.wrWords)).chanReconf.chanOutputs)

theorem Dev.Canon.chanModeBody {c : Cmd} (h : d.Canon) : (chanModeBody c d).2.Canon :=
  h.checked fun _ h1 => by
    refine .ite2 h1 ?_
    dsimp only
    split
    · exact h1.modChan
    · exact h1.toFreeRun
    · exact h1.toFreeRun

theorem Dev.Canon.holdoverModelBody {c : Cmd} (h : d.Canon) : (holdoverModelBody c d).2.Canon :=
  h.checked fun _ h1 => .ite2 h1.wr.wrWords h1.wrWords

theorem Dev.Canon.outConfigBody {c : Cmd} (h : d.Canon) : (outConfigBody c d).2.Canon :=
  h.checked fun _ h1 => .ite2 h1 (Dev.Canon.ite h1.wr.wrWords.wrWords h1.wr.wrWords).wr.outRefresh

theorem Dev.Canon.outEnableBody {c : Cmd} (h : d.Canon) : (outEnableBody c d).2.Canon :=
  h.checked (fun _ h1 => h1.foldl (fun _ _ h2 => (Dev.Canon.ite h2.modOut h2.wrF).outRefresh))

theorem Dev.Canon.lanternConfigBody {c : Cmd} (h : d.Canon) : (lanternConfigBody c d).2.Canon :=
  h.checked fun _ h1 => .ite2 h1 h1.wrWords.lanChanged

theorem Dev.Canon.voutConfigBody {c : Cmd} (h : d.Canon) : (voutConfigBody c d).2.Canon :=
  h.checked (fun _ h1 => .ite2 h1 (h1.wrWords.modVout.onlyIf (fun _ h2 => h2.voutHold)).voutRefresh)

theorem Dev.Canon.tsBind {n : Fin 4} {ch : Fin 16} (h : d.Canon) : (Dev.tsBind n ch d).Canon := h.wrF.modTs

theorem Dev.Canon.todOff {n : Fin 4} (h : d.Canon) : (Dev.todOff n d).Canon := .ite h.wrF.tsClearHold.tsTo h.wrF

theorem Dev.Canon.todConfig {n : Fin 4} {en auto : Bool} {slot : Nat} {follow : Bool} (h : d.Canon) :
    (Dev.todConfig n en auto slot follow d).Canon :=
  .ite (Dev.Canon.ite h h.modTs).wrF.wrF.wrF.wrF (Dev.Canon.ite h h.modTs).wrF.wrF.wrF.todOff

theorem Dev.Canon.tsSetBody {c : Cmd} (h : d.Canon) : (tsSetBody c d).2.Canon :=
  h.checked fun _ h1 => by
    split
    · exact h1.tsBind
    · exact h1.modTs
    · exact .ite2 h1.modTs h1
    · exact .ite2 h1.modTs h1
    · exact .ite2 h1.todOff h1
    · exact .ite2 h1 (.ite2 h1 h1.modTs)
    · exact h1.modTs
    · exact .ite2 h1 h1.wr.outRefresh
    · exact h1.todConfig

theorem Dev.Canon.tsStepBody {c : Cmd} (h : d.Canon) : (tsStepBody c d).2.Canon :=
  h.checked (fun _ h1 => .ite2 h1 (.ite2 h1 (.ite2 h1 h1.modTs)))

theorem Dev.Canon.setLeap {n : Fin 4} {l : Option (Bool × Nat)} (h : d.Canon) : (Dev.setLeap n l d).Canon := h.modTs.noticeJudge

theorem Dev.Canon.tsLeapBody {c : Cmd} (h : d.Canon) : (tsLeapBody c d).2.Canon :=
  h.checked (fun _ h1 => .ite2 h1 (.ite2 h1.setLeap (.ite2 h1 h1.setLeap)))

theorem Dev.Canon.captureArm {n : Fin 4} (h : d.Canon) : (Dev.captureArm n d).Canon := .ite (.ite h.tsCapture h.tsCapture) h.modTs

theorem Dev.Canon.keeperDiscard (h : d.Canon) : (Dev.keeperDiscard d).Canon := h.modKeeper.modHost

theorem Dev.Canon.updateEntry (h : d.Canon) : (Dev.updateEntry d).Canon := h.ringEntry

theorem Dev.Canon.keeperRelease (h : d.Canon) : (Dev.keeperRelease d).Canon := .ite h.modSup.updateEntry.modFw h.modSup

theorem Dev.Canon.apTo {st : ApState} {row : Nat} (h : d.Canon) : (Dev.apTo st row d).Canon := h.modSup.setCond.stateEv

theorem Dev.Canon.fwRevert (h : d.Canon) : (Dev.fwRevert d).Canon := by
  simp only [Dev.fwRevert]
  split
  · refine Dev.Canon.bump ?_
    refine Dev.Canon.modTop ?_
    refine Dev.Canon.modFw ?_
    split
    · exact h.complete
    · exact h
  · exact h

theorem Dev.Canon.wdtExpire (h : d.Canon) : (wdtExpire d).Canon := by
  unfold Machine.wdtExpire
  extract_lets halt d1 d2
  have h1 : d1.Canon := h.keeperDiscard.bump.modSup.occur
  have h2 : d2.Canon := h1.fwRevert
  exact .ite (.ite h2.modSup.apTo h2.keeperRelease.apTo.autopilotAll) h

theorem Dev.Canon.wdtRestart (h : d.Canon) : (Dev.wdtRestart d).Canon := by
  simp only [Dev.wdtRestart]
  split
  · split
    · split
      · exact (Dev.Canon.ite h.modSup.modFw h.modSup).modFw.complete
      · exact .ite h.modSup.modFw h.modSup
    · exact h.modSup
  · exact h

theorem Dev.Canon.apReleased (h : d.Canon) : (Dev.apReleased d).Canon := h.modSup.apTo

theorem Dev.Canon.apRestarted (h : d.Canon) : (Dev.apRestarted d).Canon :=
  .ite (.ite h.modKeeper.modTop.keeperRelease.apTo h) h.keeperRelease.apTo

theorem Dev.Canon.keeperAnnounce {inst port : Nat} {msg : List Byte} (h : d.Canon) : (Dev.keeperAnnounce inst port msg d).Canon :=
  .ite h.wrWords.modKeeper h.bump

theorem Dev.Canon.keeperOffer {j : Nat} (h : d.Canon) : (Dev.keeperOffer j d).Canon := h.modKeeper.retireBad

theorem Dev.Canon.logbook {w7 : Word} (h : d.Canon) : (Dev.logbook w7 d).Canon := by
  unfold Dev.logbook
  exact h.ringEntry

theorem Dev.Canon.sensor {off : Nat} {v : Option Nat} (h : d.Canon) : (Dev.sensor off v d).Canon := by
  simp only [Dev.sensor]
  split
  · exact h.wr
  · exact h.wrF

theorem Dev.Canon.sensorSample {r : SensorReadings} (h : d.Canon) : (sensorSample r d).Canon := by
  unfold Machine.sensorSample
  extract_lets d1 d2 d3
  have h1 : d1.Canon := by
    unfold d1
    exact h.foldl fun _ _ h => h.sensor
  clear_value d1
  have h2 : d2.Canon := by
    unfold d2
    exact h1.foldl fun _ _ h => h.sensor
  clear_value d2
  have h3 : d3.Canon := h2.sensor
  clear_value d3
  split
  · exact h3
  · exact h3.modPwr

theorem Dev.Canon.otpStart {action slot : Nat} (h : d.Canon) : (Dev.otpStart action slot d).Canon := h.modOtp

theorem Dev.Canon.otpDone (h : d.Canon) : (otpDone d).Canon := by
  simp only [Machine.otpDone]
  split
  · exact h.modOtp
  · exact h.modOtp
  · exact h.modOtp
  · exact h

theorem Dev.Canon.answer {i : Fin 4} {r : Resp} (h : d.Canon) : (Dev.answer i r d).Canon := h.modChk

theorem Dev.Canon.debugChallenge (h : d.Canon) : (debugChallenge d).Canon := .ite h.modOtp.answer h

theorem Dev.Canon.debugUnlock {key sig : List Byte} (h : d.Canon) : (debugUnlock key sig d).Canon := by
  simp only [Machine.debugUnlock]
  split
  · exact h.modOtp
  · exact h

theorem Dev.Canon.fwErase {k : Nat} (h : d.Canon) : (Dev.fwErase k d).Canon := memoryWf_fwErase k h

theorem Dev.Canon.fwProgram {page : Nat} {bs : List Byte} (h : d.Canon) : (Dev.fwProgram page bs d).Canon := memoryWf_fwProgram page bs h

theorem Dev.Canon.fwPages {n page : Nat} {bs : List Byte} (h : d.Canon) : (Dev.fwPages n page bs d).2.Canon :=
  memoryWf_fwPages n page bs h

theorem Dev.Canon.fwChunkBody {data : List Byte} {stop : Option Nat} {c : Cmd} (h : d.Canon) : (fwChunkBody data stop c d).2.Canon := by
  unfold Machine.fwChunkBody
  extract_lets off len n
  refine h.checkedLong fun d h => .ite2 h ?_
  extract_lets k bs d1 r d2
  have h1 : d1.Canon := .ite h h.modFw.fwErase
  have hr : r.2.Canon := h1.fwPages
  have h2 : d2.Canon := .ite hr hr.modFw
  exact .ite2 h2 (.ite2 h2.stay h2)

theorem Dev.Canon.fwTrial {c : Cmd} (h : d.Canon) : (Dev.fwTrial c d).Canon :=
  h.keeperDiscard.modFw.modTop.modKeeper.keeperRelease.apTo.autopilotAll

theorem Dev.Canon.fwActivateBody {c : Cmd} (h : d.Canon) : (fwActivateBody c d).2.Canon :=
  h.checkedLong (fun _ h1 => .ite2 (.ite2 h1.modFw h1) (.ite2 (.ite2 h1.fwTrial h1) (.ite2 h1.modFw.modOtp h1)))

theorem Dev.Canon.trialEnd (h : d.Canon) : (trialEnd d).Canon := .ite h.fwRevert.keeperRelease h

theorem Dev.Canon.txtsPush {p : Fin 8} {at_ : Int} {e : List Word} (h : d.Canon) : (Dev.txtsPush p at_ e d).Canon :=
  .ite h.modTxts h.bump.wr.occur.logEnt

theorem Dev.Canon.txtsPop {i : Fin 4} (h : d.Canon) : (Dev.txtsPop i d).2.Canon := by
  simp only [Dev.txtsPop]
  split
  · exact h.modTxts
  · exact h.modTxts.bump

theorem Dev.Canon.txDone {p : Fin 8} {slot : TxSlot} {status : Nat} (h : d.Canon) : (Dev.txDone p slot status d).Canon :=
  .ite h.memWrite.modRing.notice h.memWrite

theorem Dev.Canon.txEnded {p : Fin 8} {f : TxFrame} {sent : Bool} (h : d.Canon) : (Dev.txEnded p f sent d).Canon := by
  simp only [Dev.txEnded]
  split
  · refine Dev.Canon.complete ?_
    split
    · exact h.txDone
    · exact h
  · split
    · exact h.txDone
    · exact h

theorem Dev.Canon.txLost {p : Fin 8} {f : TxFrame} (h : d.Canon) : (Dev.txLost p f d).Canon := (Dev.Canon.ite h.txtsPush h).txEnded

theorem Dev.Canon.txDrain {p : Fin 8} (h : d.Canon) : (Dev.txDrain p d).Canon := h.modPort.foldl fun _ _ h1 => h1.txLost

theorem Dev.Canon.txCommit {p : Fin 8} (h : d.Canon) : (Dev.txCommit p d).Canon :=
  .ite (h.modRing.foldl (fun _ _ h1 => by
    split
    · exact h1.modPort
    · exact h1.txDone)) h

theorem Dev.Canon.packetDone {p : Fin 8} {e : TxEnd} (h : d.Canon) : (packetDone p e d).Canon := by
  simp only [Machine.packetDone]
  split
  · exact h
  · split
    · exact (Dev.Canon.ite h.modPort.modPort.txtsPush h.modPort.modPort).txEnded
    · exact h.modPort.txLost

theorem Dev.Canon.packetSendBody {c : Cmd} (h : d.Canon) : (packetSendBody c d).2.Canon :=
  h.checkedLong fun _ h1 => .ite2 h1.modPort h1

theorem Dev.Canon.portTo {p : Fin 8} {st : PortState} {row : Nat} (h : d.Canon) : (Dev.portTo p st row d).Canon :=
  h.modPort.stateEv.loadRefresh

theorem Dev.Canon.clientTo {k : Fin 16} {st : ClState} {row : Nat} (h : d.Canon) : (Dev.clientTo k st row d).Canon :=
  h.modClient.stateEv

theorem Dev.Canon.clientPortDown {k : Fin 16} (h : d.Canon) : (Dev.clientPortDown k d).Canon := .ite h h.modClient.clientTo

theorem Dev.Canon.portLeave {p : Fin 8} {st : PortState} {row : Nat} (h : d.Canon) : (Dev.portLeave p st row d).Canon := by
  unfold Dev.portLeave
  extract_lets old d1 d2 d3
  have h1 : d1.Canon := h.portTo
  have h2 : d2.Canon := .ite h1.slotLoss h1
  have h3 : d3.Canon := h2.bump.bucketsSync.modPort.txDrain
  exact .ite (h3.forFin (fun _ _ h4 => h4.onlyIf (fun _ h5 => h5.clientPortDown))) h2

theorem Dev.Canon.portLoss {p : Fin 8} (h : d.Canon) : (Dev.portLoss p d).Canon := .ite h.portLeave.setCond h

theorem Dev.Canon.portLinkLoss {p : Fin 8} {cdr pcs fec hiBer : Bool} (h : d.Canon) : (portLinkLoss p cdr pcs fec hiBer d).Canon :=
  .ite h h.modPort.portLoss

theorem Dev.Canon.syncRate {p : Fin 8} (h : d.Canon) : (Dev.syncRate p d).Canon := .ite h.setRate h.setRate

theorem Dev.Canon.portLinkUp {p : Fin 8} (h : d.Canon) : (portLinkUp p d).Canon := .ite h.modPort.syncRate.portTo h

theorem Dev.Canon.portDelays {p : Fin 8} {tx rx : Word} (h : d.Canon) : (Dev.portDelays p tx rx d).Canon := h.wr.wr

theorem Dev.Canon.portCalDone {p : Fin 8} {tx rx : Word} (h : d.Canon) : (portCalDone p tx rx d).Canon :=
  .ite h.portDelays.modPort.portTo.setCond.txCommit h

theorem Dev.Canon.portCalTimeout {p : Fin 8} (h : d.Canon) : (portCalTimeout p d).Canon := .ite h.portLeave.bump h

theorem Dev.Canon.portRecal {p : Fin 8} {tx rx : Word} (h : d.Canon) : (portRecal p tx rx d).Canon := .ite h.portDelays h

theorem Dev.Canon.portChanged {p : Fin 8} {old : Word} (h : d.Canon) : (Dev.portChanged p old d).2.Canon :=
  .ite2 h.portLeave.modPort (.ite2 h.portLeave.modPort (.ite2 h.portTo h))

theorem Dev.Canon.esmcSend {p : Fin 8} {event : Bool} (h : d.Canon) : (Dev.esmcSend p event d).Canon := h.modPort

theorem Dev.Canon.esmcInfo {p : Fin 8} (h : d.Canon) : (esmcInfo p d).Canon := .ite h.esmcSend h

theorem Dev.Canon.esmcEvent {p : Fin 8} (h : d.Canon) : (esmcEvent p d).Canon := .ite h.esmcSend.modPort h

theorem Dev.Canon.esmcLate {p : Fin 8} (h : d.Canon) : (esmcLate p d).Canon := .ite h.modPort.bump.event h

theorem Dev.Canon.esmcTake {p : Fin 8} {x : EsmcPdu} (h : d.Canon) : (Dev.esmcTake p x d).Canon := .ite h.wr.modPort h.bump

theorem Dev.Canon.portConfigBody {c : Cmd} (h : d.Canon) : (portConfigBody c d).2.Canon :=
  h.checked (fun _ h1 => .ite2 h1 (h1.foldl (fun _ _ h2 => h2.wr)).portChanged)

theorem Dev.Canon.portsReset (h : d.Canon) : (Dev.portsReset d).Canon :=
  (h.forFin (fun _ _ h1 => h1.portLoss)).modTxts.foldl fun _ _ h1 => h1.wr

end Sys2Proof.Machine
end

section
/-! The canonical form: the Pilot time service and the cascade. -/

namespace Sys2Proof.Machine

set_option Elab.async false

variable {d : Dev}

theorem Dev.Canon.police {p : Fin 8} {f : Frame} (h : d.Canon) : (Dev.police p f d).2.Canon := .ite2 h.modPort h

theorem Dev.Canon.txOrder {old : Dev} (h : d.Canon) : (Dev.txOrder old d).Canon := h.forFin fun _ _ h1 => h1.modPort

theorem Dev.Canon.send {p : Fin 8} {m : TxMsg} (h : d.Canon) : (Dev.send p m d).Canon := h.modPort

theorem Dev.Canon.sendSync {p : Fin 8} {dom seq : Nat} {two v6 : Bool} {dst : Dest} {t : Int} {k : Nat} (h : d.Canon) :
    (Dev.sendSync p dom seq two v6 dst t k d).Canon :=
  .ite h.send.send h.send

theorem Dev.Canon.mcSync {p : Fin 8} {t : Int} {k : Nat} (h : d.Canon) : (mcSync p t k d).Canon := .ite h.sendSync.modPort h

theorem Dev.Canon.mcAnnounce {p : Fin 8} (h : d.Canon) : (mcAnnounce p d).Canon := .ite h.send.modPort h

theorem Dev.Canon.entryWrite {i : Nat} (h : d.Canon) : (Dev.entryWrite i d).Canon := by
  simp only [Dev.entryWrite]
  split
  · exact h.memWrite
  · exact h

theorem Dev.Canon.uncache {i : Nat} (h : d.Canon) : (Dev.uncache i d).Canon := h.modPilot

theorem Dev.Canon.entryPut {i : Nat} {e : Entry} (h : d.Canon) : (Dev.entryPut i e d).Canon :=
  .ite h.modPilot.entryWrite.uncache h.modPilot

theorem Dev.Canon.writeBack {i : Nat} (h : d.Canon) : (Dev.writeBack i d).Canon := by
  simp only [Dev.writeBack]
  split
  · exact .ite h.modPilot.entryWrite.modPilot.uncache h.modPilot
  · exact h.modPilot

theorem Dev.Canon.tableErr (h : d.Canon) : (Dev.tableErr d).Canon := h.bump.occur

theorem Dev.Canon.fetched {i : Nat} {ok : Bool} (h : d.Canon) : (Dev.fetched i ok d).Canon := h.modPilot

theorem Dev.Canon.deny {p : Fin 8} {k : GrantKind} {l : Int} (h : d.Canon) : (Dev.deny p k l d).2.Canon := h.bump

theorem Dev.Canon.grantTo {p : Fin 8} {i : Nat} {e : Entry} {k : GrantKind} {l : Int} {dur : Nat} {new : Bool} (h : d.Canon) :
    (Dev.grantTo p i e k l dur new d).2.Canon :=
  (Dev.Canon.ite h.entryPut.bump.modPort h.entryPut.bump).loadRefresh

theorem Dev.Canon.request {p : Fin 8} {f : Frame} {m : PtpMsg} {k : GrantKind} {l : Int} {dur : Nat} (h : d.Canon) :
    (Dev.request p f m k l dur d).2.Canon := by
  simp only [Dev.request]
  split
  · exact h.deny
  · split
    · exact h.deny
    · split
      · split
        · exact h.grantTo
        · exact h.deny
      · split
        · exact h.deny
        · split
          · exact h.bump
          · split
            · exact h.deny
            · exact .ite2 h.deny h.modPilot.grantTo

theorem Dev.Canon.tlv {p : Fin 8} {f : Frame} {m : PtpMsg} {x4 : UcTlv} (h : d.Canon) : (Dev.tlv p f m d x4).2.Canon := by
  simp only [Dev.tlv]
  split
  · exact h.request
  · split
    · exact h.entryPut.loadRefresh
    · exact h
  · exact h
  · exact h
  · exact h

theorem Dev.Canon.negotiate {p : Fin 8} {f : Frame} {m : PtpMsg} {tlvs : List UcTlv} (h : d.Canon) :
    (Dev.negotiate p f m tlvs d).Canon := by
  unfold Dev.negotiate
  extract_lets r
  have hr : r.2.Canon := Dev.Canon.foldl2 h fun _ _ h1 => h1.tlv
  exact .ite hr hr.send

theorem Dev.Canon.grantEnd {i : Nat} {k : GrantKind} (h : d.Canon) : (grantEnd i k d).Canon := by
  simp only [Machine.grantEnd]
  split
  · exact .ite h.bump.entryPut.loadRefresh h
  · exact h

theorem Dev.Canon.cancelEntry {tell : Bool} {i : Nat} {e : Entry} (h : d.Canon) : (Dev.cancelEntry tell i e d).2.Canon :=
  (Dev.Canon.ite h.send h).entryPut.loadRefresh

theorem Dev.Canon.calendarSend {i : Nat} {k : GrantKind} {t : Int × Nat} (h : d.Canon) : (Dev.calendarSend i k t d).Canon := by
  simp only [Dev.calendarSend]
  split
  · exact h
  · split
    · exact h
    · split
      · exact h.sendSync.modPilot
      · exact h.send.modPilot

theorem Dev.Canon.slotStart {at_ : Int} (h : d.Canon) : (Dev.slotStart at_ d).2.Canon := h.draw.draw

theorem Dev.Canon.calendarSendAll {l : List (Nat × GrantKind)} (h : d.Canon) : (Dev.calendarSendAll l d).Canon := by
  unfold Dev.calendarSendAll
  refine Dev.Canon.foldl2 h fun _ _ h1 => ?_
  dsimp only
  split
  · exact h1.slotStart.calendarSend
  · exact h1.calendarSend

theorem Dev.Canon.calendarSkip {i : Nat} (h : d.Canon) : (Dev.calendarSkip i d).Canon := h.onlyIf fun _ h1 => h1.bump

theorem Dev.Canon.calendarFetch (h : d.Canon) : (Dev.calendarFetch d).Canon := h.foldl fun _ _ h1 => .ite h1.modPilot h1

theorem Dev.Canon.calendarRetire (h : d.Canon) : (Dev.calendarRetire d).Canon :=
  h.foldl fun _ _ h1 => .ite (.ite h1.modPilot h1.uncache) h1

theorem Dev.Canon.calendarSlot (h : d.Canon) : (calendarSlot d).Canon := by
  unfold Machine.calendarSlot
  extract_lets d1 d2 d3 mine skip no go here wait d4 d5 d6
  have h1 : d1.Canon := h
  have h2 : d2.Canon := h.modPilot.foldl fun _ _ h2 => h2.calendarSkip
  have h3 : d3.Canon := h2.calendarFetch
  have h4 : d4.Canon := h3.foldl fun _ _ h4 => h4.calendarSkip
  have h5 : d5.Canon := h4.calendarSendAll.modPilot.txOrder
  have h6 : d6.Canon := h5.calendarRetire
  exact .ite h (.ite h6.modPilot h6.modPilot)

theorem Dev.Canon.tableDma {write : Bool} {i : Nat} {ok : Bool} (h : d.Canon) : (tableDma write i ok d).Canon := by
  unfold Machine.tableDma
  extract_lets d1 d2 wait
  have h1 : d1.Canon := .ite h h.tableErr
  have h2 : d2.Canon := h1.fetched
  exact .ite h (.ite (.ite h1 (.ite h1.writeBack h1.modPilot)) (.ite h2 h2.calendarSendAll.modPilot.txOrder))

theorem Dev.Canon.clientSend {k : Fin 16} {tlvs : List UcTlv} {dst : Dest} (h : d.Canon) : (Dev.clientSend k tlvs dst d).Canon :=
  .ite h h.send

theorem Dev.Canon.clientAsk {k : Fin 16} {grants : List (GrantKind × BitVec 128)} (h : d.Canon) : (Dev.clientAsk k grants d).Canon :=
  h.foldl fun _ _ h1 => h1.clientSend.modClient

theorem Dev.Canon.clientTrack {k : Fin 16} (h : d.Canon) : (Dev.clientTrack k d).Canon := h.modClient.clientTo.pub40

theorem Dev.Canon.clientGranted {k : Fin 16} (h : d.Canon) : (Dev.clientGranted k d).Canon := .ite h.clientTrack h

theorem Dev.Canon.clientRequest {k : Fin 16} {row : Nat} (h : d.Canon) : (Dev.clientRequest k row d).Canon :=
  .ite h.modClient.clientTo.clientAsk h.modClient.clientTo

theorem Dev.Canon.clientLost {k : Fin 16} {announce : Bool} (h : d.Canon) : (Dev.clientLost k announce d).Canon :=
  .ite (Dev.Canon.ite h.bump h).modClient.clientTo h

theorem Dev.Canon.clientGrant {k : Fin 16} {g : GrantKind × BitVec 128} {dur : Nat} (h : d.Canon) :
    (Dev.clientGrant k g dur d).Canon :=
  .ite h (.ite h.modClient.modClient.clientLost h.modClient.modClient.clientGranted)

theorem Dev.Canon.clientRenew {k : Fin 16} {g : GrantKind × BitVec 128} (h : d.Canon) : (clientRenew k g d).Canon := .ite h.clientAsk h

theorem Dev.Canon.clientRetry {k : Fin 16} {g : GrantKind × BitVec 128} (h : d.Canon) : (clientRetry k g d).Canon := .ite h.clientAsk h

theorem Dev.Canon.clientExpiry {k : Fin 16} {g : GrantKind × BitVec 128} (h : d.Canon) : (clientExpiry k g d).Canon :=
  .ite h.modClient.clientLost h

theorem Dev.Canon.announceLate {k : Fin 16} (h : d.Canon) : (announceLate k d).Canon := h.clientLost

theorem Dev.Canon.clientAnnounce {k : Fin 16} {sender : BitVec 80} {addr : BitVec 128} {parent : Bool} {a : AnnounceMsg} (h : d.Canon) :
    (Dev.clientAnnounce k sender addr parent a d).Canon :=
  .ite h.modClient h.modClient.keeperAnnounce

theorem Dev.Canon.clientClass {k : Fin 16} (h : d.Canon) : (Dev.clientClass k d).Canon := by
  simp only [Dev.clientClass]
  split
  · exact h.modClient
  · exact h

theorem Dev.Canon.announcePost {k : Fin 16} (h : d.Canon) : (announcePost k d).Canon :=
  .ite h (h.modClient.foldl (fun _ _ h1 => h1.keeperAnnounce))

theorem Dev.Canon.exchange {k : Fin 16} {f r t2 tb : Int} (h : d.Canon) : (Dev.exchange k f r t2 tb d).Canon := h.modClient

theorem Dev.Canon.forward {k : Fin 16} {f t2 tb : Int} (h : d.Canon) : (Dev.forward k f t2 tb d).Canon := by
  simp only [Dev.forward]
  split
  · exact .ite h.modClient.exchange h.modClient
  · exact h.modClient

theorem Dev.Canon.clientSync {k : Fin 16} {seq : BitVec 16} {origin : Triple} {corr : Int} {two : Bool} {t2 tb : Int} (h : d.Canon) :
    (Dev.clientSync k seq origin corr two t2 tb d).Canon :=
  .ite (.ite h.clientTrack h) (.ite (Dev.Canon.ite h.clientTrack h).modClient (Dev.Canon.ite h.clientTrack h).forward)

theorem Dev.Canon.clientFollow {k : Fin 16} {seq : BitVec 16} {origin : Triple} {corr : Int} (h : d.Canon) :
    (Dev.clientFollow k seq origin corr d).Canon := by
  simp only [Dev.clientFollow]
  split
  · exact .ite h.forward h
  · exact h

theorem Dev.Canon.clientResp {k : Fin 16} {seq : BitVec 16} {t4 : Triple} {corr : Int} (h : d.Canon) :
    (Dev.clientResp k seq t4 corr d).Canon := by
  simp only [Dev.clientResp]
  split
  · exact .ite h.modClient.exchange h
  · exact h

theorem Dev.Canon.clientPdelay {k : Fin 16} {seq : BitVec 16} {t2 : Triple} {corr : Int} {two : Bool} {t4 : Int} (h : d.Canon) :
    (Dev.clientPdelay k seq t2 corr two t4 d).Canon := by
  simp only [Dev.clientPdelay]
  split
  · exact .ite (.ite h.modClient h.modClient) h
  · exact h

theorem Dev.Canon.clientPdelayFollow {k : Fin 16} {seq : BitVec 16} {t3 : Triple} {corr : Int} (h : d.Canon) :
    (Dev.clientPdelayFollow k seq t3 corr d).Canon := by
  simp only [Dev.clientPdelayFollow]
  split
  · exact .ite h.modClient h
  · exact h

theorem Dev.Canon.delayReq {k : Fin 16} {tPcs : Int} {pos : Nat} (h : d.Canon) : (delayReq k tPcs pos d).Canon :=
  .ite h (.ite (.ite h.send.modClient h) (.ite h.send.modClient h))

theorem Dev.Canon.windowEst {k : Fin 16} {j : Nat} (h : d.Canon) : (Dev.windowEst k j d).2.Canon := by
  simp only [Dev.windowEst]
  split
  · exact h
  · split
    · exact h
    · exact h.draw

theorem Dev.Canon.windowEsts {k : Fin 16} {j : Nat} (h : d.Canon) : (Dev.windowEsts k j d).2.Canon := by
  induction j generalizing d with
  | zero => exact h
  | succ j ih => exact ih h.windowEst

theorem Dev.Canon.releaseEst {k : Fin 16} {reroute : Bool} (h : d.Canon) : (Dev.releaseEst k reroute d).Canon := by
  simp only [Dev.releaseEst]
  split
  · exact h
  · split
    · exact h.modClient
    · exact h.modClient.pub40.pub40.packetEstimate

theorem Dev.Canon.reroute {k : Fin 16} {dR dO : Int} (h : d.Canon) : (Dev.reroute k dR dO d).Canon :=
  (Dev.Canon.ite h.modClient.windowEsts.modClient h.modClient).pub40.bump.event

theorem Dev.Canon.subintervalEnd {k : Fin 16} (h : d.Canon) : (subintervalEnd k d).Canon := by
  simp only [Machine.subintervalEnd]
  split
  · exact h
  · refine Dev.Canon.modClient ?_
    refine Dev.Canon.releaseEst ?_
    split
    · exact h.modClient.windowEst.modClient
    · exact h.modClient.windowEst.modClient.bump
    · exact h.modClient.windowEst.modClient.reroute

theorem Dev.Canon.rerouteEnd {k : Fin 16} (h : d.Canon) : (rerouteEnd k d).Canon := h.modClient

theorem Dev.Canon.exception {p : Fin 8} {f : Frame} (h : d.Canon) : (Dev.exception p f d).Canon := by
  unfold Dev.exception
  extract_lets r t d1
  have h1 : d1.Canon := .ite h h.bump.occur
  clear_value d1
  exact h1.ringEntry

theorem Dev.Canon.foreignAnnounce {p : Fin 8} {m : PtpMsg} {a : AnnounceMsg} (h : d.Canon) : (Dev.foreignAnnounce p m a d).Canon :=
  .ite h (.ite h.bump h.bump.modPort.keeperAnnounce)

theorem Dev.Canon.toClients {l : List (Fin 16)} {f : Frame} {m : PtpMsg} {g : Fin 16 → Dev → Dev} (h : d.Canon)
    (hg : ∀ k d, d.Canon → (g k d).Canon) : (Dev.toClients l f m g d).Canon :=
  h.foldl fun d k h1 => .ite (hg k d h1) h1

theorem Dev.Canon.ptpServe {p : Fin 8} {f : Frame} {m : PtpMsg} (h : d.Canon) : (Dev.ptpServe p f m d).Canon := by
  unfold Dev.ptpServe
  extract_lets srv cl tb t dst v6
  clear_value srv cl tb t dst v6
  split
  · exact h.exception
  · exact h.exception
  · exact .ite h.exception (.ite h.send h)
  · exact .ite h.exception (.ite (.ite h.send.send h.send) h)
  · refine .ite h.exception ?_
    exact (Dev.Canon.ite h.foreignAnnounce h).foldl fun _ _ h1 => .ite h1 h1.clientAnnounce
  · refine .ite h.exception ?_
    refine (Dev.Canon.ite h.negotiate h).foldl fun _ _ h1 => .ite (h1.foldl fun _ _ h2 => ?_) h1
    split
    · exact h2.clientGrant
    · exact h2.clientExpiry.clientSend
    · exact h2
  · exact .ite h.exception (h.toClients fun _ _ h1 => h1.clientSync)
  · exact .ite h.exception (h.toClients fun _ _ h1 => h1.clientFollow)
  · exact .ite h.exception (h.toClients fun _ _ h1 => .ite h1.clientResp h1)
  · exact .ite h.exception (h.foldl fun _ _ h1 => .ite h1.clientPdelay h1)
  · exact .ite h.exception (h.foldl fun _ _ h1 => .ite h1.clientPdelayFollow h1)

theorem Dev.Canon.classify {p : Fin 8} {f : Frame} (h : d.Canon) : (Dev.classify p f d).Canon := by
  simp only [Dev.classify]
  split
  · exact .ite h.esmcTake h.exception
  · exact .ite (h.onlyIf (fun _ h1 => h1.send)) h.exception
  · exact .ite (h.onlyIf (fun _ h1 => h1.send)) h.exception
  · exact .ite h.exception (.ite h.bump h.ptpServe)
  · exact h.exception

theorem Dev.Canon.frameRx {p : Fin 8} {f : Frame} (h : d.Canon) : (frameRx p f d).Canon :=
  .ite h (.ite h.bump (.ite h.bump (.ite h.bump (.ite h.police.classify h.police.bump.occur))))

theorem Dev.Canon.settleEnd {p : Fin 8} (h : d.Canon) : (settleEnd p d).Canon := h.bucketsSync.modPort

theorem Dev.Canon.clientDisable {k : Fin 16} (h : d.Canon) : (Dev.clientDisable k d).Canon :=
  .ite h (h.foldl (fun _ _ h1 => h1.clientSend)).modClient.clientTo

theorem Dev.Canon.clientEnable {k : Fin 16} (h : d.Canon) : (Dev.clientEnable k d).Canon :=
  .ite h.clientDisable (.ite (.ite h.clientTo.clientAsk h.clientTo) h)

theorem Dev.Canon.clientParent {k : Fin 16} {changed : Bool} (h : d.Canon) : (Dev.clientParent k changed d).Canon := by
  simp only [Dev.clientParent]
  split
  · exact h
  · split
    · exact h.clientRequest
    · exact .ite h.clientRequest h
    · exact .ite h.clientRequest h
    · exact h

theorem Dev.Canon.clientConfig {k : Fin 16} {c : Cmd} (h : d.Canon) : (clientConfig k c d).2.Canon :=
  .ite2 h (Dev.Canon.ite h h.clientDisable).wrWords.modClient.pub40.clientEnable.clientParent.clientClass

theorem Dev.Canon.serverConfig {p : Fin 8} {c : Cmd} (h : d.Canon) : (serverConfig p c d).2.Canon :=
  .ite2 h (h.bucketsSync.foldl (fun _ _ h1 => h1.wr)).loadRefresh

theorem Dev.Canon.ptpConfigBody {c : Cmd} (h : d.Canon) : (ptpConfigBody c d).2.Canon :=
  h.checked fun _ h1 => .ite2 h1.clientConfig (.ite2 h1.serverConfig h1.wr.wrWords)

theorem Dev.Canon.tableAttachBody {c : Cmd} (h : d.Canon) : (tableAttachBody c d).2.Canon :=
  h.checked fun _ h1 => .ite2 h1.modPilot.loadRefresh (.ite2 h1 h1.modPilot)

theorem Dev.Canon.updateWalk {c : Cmd} {l : List (Nat × Entry)} {stop : Option Nat} {f : Nat × Entry → Dev → Nat × Dev}
    (h : d.Canon)
    (hf : ∀ e d, d.Canon → (f e d).2.Canon) : (Dev.updateWalk c l stop f d).2.Canon := by
  unfold Dev.updateWalk
  extract_lets k r
  have hr : r.2.Canon := Dev.Canon.foldl2 h fun acc e h1 => hf e acc.2 h1
  exact .ite2 hr hr.stay

theorem Dev.Canon.clientUpdateBody {stop : Option Nat} {c : Cmd} (h : d.Canon) : (clientUpdateBody stop c d).2.Canon :=
  h.checkedLong fun _ h1 => by
    refine .ite2 ?_ (.ite2 (h1.updateWalk fun _ _ h => h.writeBack) (h1.updateWalk fun _ _ h => h.cancelEntry))
    dsimp only
    split
    · exact h1.updateWalk fun _ _ h => h.cancelEntry
    · exact h1

theorem Dev.Canon.portPilotReset (h : d.Canon) : (Dev.portPilotReset d).Canon := h.abortOps.portsReset.foldl fun _ _ h1 => h1.wr

theorem Dev.Canon.linkTo {l : Fin 5} {st : LinkState} {row : Nat} (h : d.Canon) : (Dev.linkTo l st row d).Canon := h.modLink.stateEv

theorem Dev.Canon.tideFlags (h : d.Canon) : (Dev.tideFlags d).Canon := h.modTide.setCond.setCond.setCond

theorem Dev.Canon.labelErrEnd (h : d.Canon) : (labelErrEnd d).Canon := .ite h.modTide.setCond.event h

theorem Dev.Canon.lofsTrack {l : Fin 5} {f : TideFrame} (h : d.Canon) : (Dev.lofsTrack l f d).Canon := .ite h.modTide.setLofs h.modTide

theorem Dev.Canon.masterEvent (h : d.Canon) : (Dev.masterEvent d).Canon := h.event

theorem Dev.Canon.swap {a b : Fin 5} (h : d.Canon) : (Dev.swap a b d).Canon := h.bump.event.activate

theorem Dev.Canon.trySwap (h : d.Canon) : (Dev.trySwap d).Canon := by
  simp only [Dev.trySwap]
  split
  · exact .ite h.swap h
  · exact h

theorem Dev.Canon.toOrphan {row : Nat} (h : d.Canon) : (Dev.toOrphan row d).Canon := h.modTide.roleTo

theorem Dev.Canon.activeLost {l : Fin 5} (h : d.Canon) : (Dev.activeLost l d).Canon :=
  .ite (.ite h.trySwap.toOrphan.masterEvent h.trySwap) h

theorem Dev.Canon.toMaster {row : Nat} (h : d.Canon) : (Dev.toMaster row d).Canon := h.modTide.setLofs.bump.roleTo.masterEvent

theorem Dev.Canon.masterClaim (h : d.Canon) : (masterClaim d).Canon := .ite h.toMaster h

theorem Dev.Canon.takeoverEnd (h : d.Canon) : (takeoverEnd d).Canon := .ite h (.ite h.toMaster (.ite h.toMaster h))

theorem Dev.Canon.masterYield (h : d.Canon) : (masterYield d).Canon := by
  simp only [Machine.masterYield]
  split
  · split
    · exact h.activate.bump.roleTo.masterEvent
    · exact h
  · exact h

theorem Dev.Canon.linkDrop {l : Fin 5} {st : LinkState} {row : Nat} (h : d.Canon) : (Dev.linkDrop l st row d).Canon :=
  h.linkTo.modLink.activeLost.tideFlags

theorem Dev.Canon.linkLoss {l : Fin 5} (h : d.Canon) : (Dev.linkLoss l d).Canon := by
  simp only [Dev.linkLoss]
  split
  · exact h.bump.occur.linkDrop
  · exact h.linkDrop
  · exact h.linkDrop
  · exact h
  · exact h

theorem Dev.Canon.missingFrame {l : Fin 5} {c : MissCause} (h : d.Canon) : (missingFrame l c d).Canon := by
  unfold Machine.missingFrame
  refine .ite h ?_
  extract_lets d1 d2 d3
  have h1 : d1.Canon := h.bump.modLink
  have h2 : d2.Canon := by
    unfold d2
    split
    · exact h1
    · exact h1.bump
    · exact h1.bump
  have h3 : d3.Canon := .ite h2.trySwap h2
  exact .ite h3.linkLoss h3

theorem Dev.Canon.codeGroupLoss {l : Fin 5} (h : d.Canon) : (codeGroupLoss l d).Canon := h.linkLoss

theorem Dev.Canon.trainTimeout {l : Fin 5} (h : d.Canon) : (trainTimeout l d).Canon := by
  simp only [Machine.trainTimeout]
  split
  · exact h.bump.linkDrop
  · exact h.bump.linkDrop
  · exact h.bump.linkDrop
  · exact h
  · exact h

theorem Dev.Canon.linkCalDone {l : Fin 5} (h : d.Canon) : (linkCalDone l d).Canon := .ite h.modLink.linkTo h

theorem Dev.Canon.rangingWith {l : Fin 5} {outer inner : Int} (h : d.Canon) : (Dev.rangingWith l outer inner d).Canon :=
  .ite (.ite h.bump.modLink.modLink.event h.bump.modLink) (.ite h.modLink.pub40.linkTo.tideFlags.orphanJoin h.modLink.pub40)

theorem Dev.Canon.rangingTake {l : Fin 5} {num : BitVec 16} (h : d.Canon) : (rangingTake l num d).Canon := by
  simp only [Machine.rangingTake]
  split
  · exact .ite h.modLink.rangingWith h
  · exact h

theorem Dev.Canon.queueFault {e : BitVec 64} (h : d.Canon) : (Dev.queueFault e d).Canon := .ite h.modTide h.bump.occur

theorem Dev.Canon.ownFault {src : Nat} (h : d.Canon) : (Dev.ownFault src d).Canon := h.queueFault

theorem Dev.Canon.relayFault {l : Fin 5} {e : BitVec 64} (h : d.Canon) : (Dev.relayFault l e d).Canon :=
  .ite (.ite (Dev.Canon.ite h.event h).queueFault (.ite h.event h)) h

theorem Dev.Canon.ownMsg {type : Nat} (h : d.Canon) : (Dev.ownMsg type d).2.Canon := h.modTide

theorem Dev.Canon.install {f : TideFrame} (h : d.Canon) : (Dev.install f d).Canon :=
  .ite (.ite h.modTide.modTs (.ite h.modTide h.modTide.modTs)) (.ite h.modTide.setLeap (.ite h.modTide.modTs h))

theorem Dev.Canon.thetaTake {l : Fin 5} {e : Int} (h : d.Canon) : (Dev.thetaTake l e d).Canon := .ite h.modLink h.modLink.pub40

theorem Dev.Canon.activeFrame {l : Fin 5} {f : TideFrame} (h : d.Canon) : (Dev.activeFrame l f d).Canon := by
  unfold Dev.activeFrame
  extract_lets other d1 d2 d3
  have h1 : d1.Canon := h.lofsTrack.adopt
  have h2 : d2.Canon := .ite h1.msgsAfresh.bump.masterEvent h1
  have h3 : d3.Canon := .ite h2.modTide.install h2
  exact h3.modTide

theorem Dev.Canon.tideRx {l : Fin 5} {f : TideFrame} (h : d.Canon) : (tideRx l f d).Canon := by
  unfold Machine.tideRx
  extract_lets d1 d2 d3 d4 d5 d6
  have h1 : d1.Canon := h.modLink
  have h2 : d2.Canon := .ite h1.linkTo h1
  have h3 : d3.Canon := h2.tideFlags
  have h4 : d4.Canon := .ite h3.thetaTake h3
  have h5 : d5.Canon := h4.activeFrame
  have h6 : d6.Canon := .ite (.ite h5 h5.trySwap) h4
  exact .ite h (.ite h.missingFrame (.ite h6.orphanJoin h3.relayFault))

theorem Dev.Canon.cascDeliver (h : d.Canon) : (cascDeliver d).Canon := by
  simp only [Machine.cascDeliver]
  split
  · exact h.modTide.cascadeEvent
  · exact h

theorem Dev.Canon.tideTx (h : d.Canon) : (tideTx d).Canon :=
  .ite h ((Dev.Canon.ite2 h.modTide h.ownMsg).forFin (fun _ _ h1 => .ite h1 h1.modLink.modLink)).modTide

theorem Dev.Canon.linkEnables (h : d.Canon) : (Dev.linkEnables d).Canon :=
  h.forFin fun _ _ h1 => .ite h1.linkDrop (.ite h1.linkTo h1)

theorem Dev.Canon.tlConfigBody {c : Cmd} (h : d.Canon) : (tlConfigBody c d).2.Canon :=
  h.checked (fun _ h1 => .ite2 h1 (h1.wr.wr.foldl (fun _ _ h2 => h2.wr)).linkEnables)

theorem Dev.Canon.setPrio {v : Nat} (h : d.Canon) : (Dev.setPrio v d).Canon := .ite (.ite h.wrF.toOrphan h.wrF.modTide) h.wrF

theorem Dev.Canon.tlElectBody {c : Cmd} (h : d.Canon) : (tlElectBody c d).2.Canon :=
  h.checked fun _ h1 => by
    refine .ite2 (.ite2 h1 h1.setPrio) (.ite2 h1 ?_)
    split
    · exact .ite2 h1 (.ite2 h1.swap h1.modTide.slotLoss.activate)
    · exact h1.activate.roleTo.slotLoss

end Sys2Proof.Machine
end

section
/-! The canonical form: the Chart store, the host interface and the Watch. -/

namespace Sys2Proof.Machine

set_option Elab.async false

variable {d : Dev}

theorem Dev.Canon.nvProgram {l : Nat} {bs : List Byte} (h : d.Canon) : (Dev.nvProgram l bs d).Canon := memoryWf_nvProgram l bs h

theorem Dev.Canon.eccUncorr {l : Nat} (h : d.Canon) : (Dev.eccUncorr l d).Canon := h.bump.occur

theorem Dev.Canon.eccCorr {l n : Nat} (h : d.Canon) : (Dev.eccCorr l n d).Canon := h.bumpBy

theorem Dev.Canon.append {reserve : Bool} {r : Rec} {x : Nat × Dev} (h : d.Canon) (hx : d.append reserve r = some x) : x.2.Canon := by
  obtain ⟨l, -, rfl⟩ := Option.map_eq_some_iff.mp hx
  exact h.nvProgram.modChart

theorem Dev.Canon.appendAll {reserve : Bool} {rs : List Rec} (h : d.Canon) : (Dev.appendAll reserve rs d).2.2.Canon := by
  induction rs generalizing d with
  | nil => exact h
  | cons r rs ih =>
    unfold Dev.appendAll
    split
    · exact ih (h.append ‹_›)
    · exact h

theorem Dev.Canon.takeSeq (h : d.Canon) : (Dev.takeSeq d).2.Canon := h.modChart

theorem Dev.Canon.number {rs : List Rec} (h : d.Canon) : (Dev.number rs d).2.Canon := by
  induction rs generalizing d with
  | nil => exact h
  | cons r rs ih => exact ih h.takeSeq

theorem Dev.Canon.commitRecs (h : d.Canon) : (Dev.commitRecs d).2.Canon := h.number

theorem Dev.Canon.commitStart {k : CommitKind} (h : d.Canon) : (Dev.commitStart k d).Canon := h.modChart

theorem Dev.Canon.bufPut {r : Rec} (h : d.Canon) : (Dev.bufPut r d).Canon := h.takeSeq.modChart

theorem Dev.Canon.commitEnd {k : CommitKind} {bytes : Nat} (h : d.Canon) : (Dev.commitEnd k bytes d).Canon := by
  simp only [Dev.commitEnd]
  split
  · exact h.complete
  · exact h.bufPut.complete
  · exact h

theorem Dev.Canon.commitFinish (h : d.Canon) : (Dev.commitFinish d).Canon := by
  simp only [Dev.commitFinish]
  split
  · exact h
  · exact .ite h (.ite h.modChart.commitEnd (.ite h.commitRecs.appendAll.modChart.bump.commitEnd h))

theorem Dev.Canon.tearLine {how : Fin 3} {e : Nat × List Byte} (h : d.Canon) : (Dev.tearLine how e d).Canon := by
  simp only [Dev.tearLine]
  split
  · exact h.modChart
  · exact h.nvProgram
  · exact h.nvProgram

theorem Dev.Canon.commitCut {n : Nat} {torn : Option (Fin 3)} (h : d.Canon) : (Dev.commitCut n torn d).Canon := by
  simp only [Dev.commitCut]
  split
  · exact (h.foldl (fun _ _ h1 => h1.nvProgram)).tearLine
  · exact h.foldl fun _ _ h1 => h1.nvProgram

theorem Dev.Canon.rawTear (h : d.Canon) : (Dev.rawTear d).Canon := by
  simp only [Dev.rawTear]
  split
  · exact .ite h.draw.tearLine h
  · exact h

theorem Dev.Canon.commitStop {power : Bool} (h : d.Canon) : (Dev.commitStop power d).Canon := .ite h.draw.draw.commitCut h

theorem Dev.Canon.eraseStart {s : Nat} {p : ErasePurpose} (h : d.Canon) : (Dev.eraseStart s p d).Canon := .ite h.modChart h

theorem Dev.Canon.tornSector {s : Nat} (h : d.Canon) : (Dev.tornSector s d).Canon := memoryWf_tornSector s h

theorem Dev.Canon.reclaimStart (h : d.Canon) : (reclaimStart d).Canon := by
  simp only [Machine.reclaimStart]
  split
  · exact h
  · split
    · exact h.eraseStart
    · split
      · exact h
      · split
        · exact h
        · exact .ite h.number.appendAll.modChart.eraseStart h

theorem Dev.Canon.carry {t : Nat} {not : Option Nat} {x : Dev} (h : d.Canon) (hx : d.carry t not = some x) : x.Canon := by
  unfold Dev.carry at hx
  split at hx
  · contradiction
  · obtain ⟨y, hy, rfl⟩ := Option.map_eq_some_iff.mp hx
    exact (h.takeSeq.append hy).bump

theorem Dev.Canon.carryOut {s : Nat} (h : d.Canon) : (Dev.carryOut s d).2.Canon :=
  Dev.Canon.foldl2 h fun _ _ h1 => by
    split
    · split
      · exact h1.carry ‹_›
      · exact h1
    · exact h1

theorem Dev.Canon.ringAhead (h : d.Canon) : (Dev.ringAhead d).Canon := by
  simp only [Dev.ringAhead]
  split
  · exact h
  · exact .ite h (.ite h.carryOut.eraseStart h)

/-- A tally's next line on its page, programmed in place or after a carry. -/
theorem Dev.Canon.tallyAdd {t amount : Nat} {x : Dev} (h : d.Canon) (hx : d.tallyAdd t amount = some x) : x.Canon := by
  unfold Dev.tallyAdd at hx
  extract_lets put at hx
  have hput : ∀ {e y : Dev}, e.Canon → put e = some y → y.Canon := by
    intro e y he hy
    unfold put at hy
    split at hy
    · obtain ⟨l, -, rfl⟩ := Option.map_eq_some_iff.mp hy
      exact he.nvProgram
    · contradiction
  split at hx
  · cases hx
    exact hput h ‹_›
  · obtain ⟨y, hy, rfl⟩ := Option.map_eq_some_iff.mp hx
    obtain ⟨e, he, hy⟩ := Option.bind_eq_some_iff.mp hy
    exact (hput (h.carry he) hy).ringAhead

theorem Dev.Canon.tallyRetry (h : d.Canon) : (Dev.tallyRetry d).Canon := by
  unfold Dev.tallyRetry
  split
  · exact h
  · split
    · exact (h.tallyAdd ‹_›).modChart.complete
    · exact h.ringAhead

theorem Dev.Canon.nvRefuse {reason : Nat} (h : d.Canon) : (Dev.nvRefuse reason d).2.Canon := h.modChart.bump

theorem Dev.Canon.nvReady {f : Dev → Option CmdOut × Dev} (h : d.Canon) (hf : ∀ d, d.Canon → (f d).2.Canon) :
    (Dev.nvReady f d).2.Canon :=
  .ite2 h.nvRefuse (.ite2 h.nvRefuse (hf d h))

theorem Dev.Canon.nvWriteBody {c : Cmd} (h : d.Canon) : (nvWriteBody c d).2.Canon := by
  unfold Machine.nvWriteBody
  extract_lets key len used
  exact h.checkedLong (fun _ h1 => .ite2 h1.nvRefuse (.ite2 h1.nvRefuse (.ite2 h1.nvRefuse (.ite2 h1.nvRefuse (.ite2 h1.nvRefuse
    (.ite2 h1.nvRefuse (.ite2 h1.bufPut h1.commitStart)))))))

theorem Dev.Canon.nvReadBody {c : Cmd} (h : d.Canon) : (nvReadBody c d).2.Canon :=
  h.checked fun _ h1 => by
    refine .ite2 h1.nvRefuse ?_
    dsimp only
    split
    · exact h1
    · refine Dev.Canon.memWrite ?_
      split
      · exact h1.eccCorr.modChart
      · exact h1

theorem Dev.Canon.nvCommitBody {c : Cmd} (h : d.Canon) : (nvCommitBody c d).2.Canon :=
  h.checkedLong fun _ h1 => h1.nvReady (fun _ h2 => .ite2 h2 h2.commitStart)

theorem Dev.Canon.rawRead {c : Cmd} {page off len stop : Nat} (h : d.Canon) : (Dev.rawRead c page off len stop d).2.Canon := by
  unfold Dev.rawRead
  extract_lets n bs d1 d2 d3
  have h1 : d1.Canon := by
    unfold d1
    exact h.foldl fun _ _ h => h.eccCorr
  have h2 : d2.Canon := .ite h1.eccUncorr h1
  have h3 : d3.Canon := h2.memWrite
  exact .ite2 h3 (.ite2 h3 h3.stay)

theorem Dev.Canon.rawWrite {c : Cmd} {page off stop : Nat} {bs : List Byte} (h : d.Canon) :
    (Dev.rawWrite c page off stop bs d).2.Canon :=
  .ite2 h.nvRefuse (.ite2 (h.foldl (fun _ _ h1 => h1.nvProgram)) (h.foldl (fun _ _ h1 => h1.nvProgram)).modChart.stay)

theorem Dev.Canon.nvRawBody {data : List Byte} {stop : Option Nat} {c : Cmd} (h : d.Canon) : (nvRawBody data stop c d).2.Canon :=
  h.checkedLong fun _ h1 => .ite2 h1.nvRefuse (.ite2 h1.rawWrite h1.rawRead)

theorem Dev.Canon.nvTallyBody {c : Cmd} (h : d.Canon) : (nvTallyBody c d).2.Canon :=
  h.checkedLong fun _ h1 => h1.nvReady fun _ h2 => by
    split
    · exact h2.tallyAdd ‹_›
    · exact h2.modChart.ringAhead

theorem Dev.Canon.commitTimer (h : d.Canon) : (commitTimer d).Canon := .ite h.modChart h

theorem Dev.Canon.nvWaitTimeout (h : d.Canon) : (nvWaitTimeout d).Canon := by
  simp only [Machine.nvWaitTimeout]
  split
  · exact h.modChart.complete
  · exact .ite h.modChart.complete h
  · exact .ite h.modChart.complete h
  · exact h

/-- The end of an erase: the sector's lines leave the flash and its header is programmed, or the sector is left torn. -/
theorem Dev.Canon.eraseDone {ok : Bool} (h : d.Canon) : (eraseDone ok d).Canon := by
  unfold Machine.eraseDone
  split
  · exact h
  · extract_lets n d1 q f d2
    have h1 : d1.Canon := h.modChart.bump
    clear_value d1
    refine .ite (Dev.Canon.nvProgram ?_).tallyRetry ?_
    · exact memoryWf_flash h1 rfl rfl (Tab.wf_filter _ _ _ (memoryWf_chartFlash h1)) rfl
    · have h2 : d2.Canon := h1.tornSector.modChart
      exact .ite h2.modChart.tallyRetry h2.tallyRetry

theorem Dev.Canon.eraseToken (h : d.Canon) : (eraseToken d).Canon := h.modChart.tallyRetry

theorem Dev.Canon.refreshMark {s : Nat} (h : d.Canon) : (Dev.refreshMark s d).Canon :=
  .ite h.modChart.occur (.ite h.modChart.carryOut h.modChart)

theorem Dev.Canon.scrubLine {l : Nat} {corrected margin : Bool} (h : d.Canon) : (scrubLine l corrected margin d).Canon :=
  .ite h (.ite (Dev.Canon.ite h.eccUncorr (.ite h.bump.modChart h)).refreshMark (.ite h.eccUncorr (.ite h.bump.modChart h)))

theorem Dev.Canon.rawErase {s : Nat} (h : d.Canon) : (Dev.rawErase s d).Canon := h.eraseStart

theorem Dev.Canon.loadRun (h : d.Canon) : (Dev.loadRun d).Canon := by
  simp only [Dev.loadRun]
  split
  · exact h.modChart
  · exact h

theorem Dev.Canon.loadWear (h : d.Canon) : (Dev.loadWear d).Canon := h.modChart

theorem Dev.Canon.chartScan (h : d.Canon) : (Dev.chartScan d).Canon :=
  (h.bumpBy.foldl (fun _ _ h1 => h1.eccUncorr)).modChart.loadWear.loadRun.number.modChart

theorem Dev.Canon.nvAbort (h : d.Canon) : (Dev.nvAbort d).Canon := by
  simp only [Dev.nvAbort]
  split
  · refine Dev.Canon.complete ?_
    refine Dev.Canon.modChart ?_
    split
    · exact h.abortOps.modChart.complete
    · exact h.abortOps
  · refine Dev.Canon.complete ?_
    refine Dev.Canon.modChart ?_
    split
    · exact h.abortOps.modChart.complete
    · exact h.abortOps
  · refine Dev.Canon.modChart ?_
    split
    · exact h.abortOps.modChart.complete
    · exact h.abortOps
  · split
    · exact h.abortOps.modChart.complete
    · exact h.abortOps

theorem Dev.Canon.chartReset (h : d.Canon) : (Dev.chartReset d).Canon := h.commitStop.modChart.nvAbort

theorem Dev.Canon.eraseSuspend (h : d.Canon) : (Dev.eraseSuspend d).Canon := by
  simp only [Dev.eraseSuspend]
  split
  · exact h.tornSector.modChart.draw
  · exact h

theorem Dev.Canon.chartPowerFail {anchor : Bool} (h : d.Canon) : (Dev.chartPowerFail anchor d).Canon := by
  simp only [Dev.chartPowerFail]
  refine Dev.Canon.modChart ?_
  split
  · exact h.eraseSuspend.endWhere.modChart.nvRefuse.complete
  · exact h.eraseSuspend.endWhere

theorem Dev.Canon.aonLost (h : d.Canon) : (Dev.aonLost d).Canon := h.modChart

theorem Dev.Canon.chartDeviceReset {power : Bool} (h : d.Canon) : (Dev.chartDeviceReset power d).Canon :=
  (h.commitStop.onlyIf (fun _ h1 => h1.rawTear)).eraseSuspend.modChart

theorem Dev.Canon.violate {i : Iface} {space off : Nat} {why : Reason} {write : Bool} {data : Word} (h : d.Canon) :
    (Dev.violate i space off why write data d).Canon := by
  unfold Dev.violate
  extract_lets addr info d1 d2 sec n d3
  have h1 : d1.Canon := h.bump.occur
  have h2 : d2.Canon := .ite h1.bump h1.wr.wr.wr
  have h3 : d3.Canon := h2.modChk
  exact .ite h3.logEnt h3

theorem Dev.Canon.ringError {r : Fin 26} {code index : Nat} (h : d.Canon) : (Dev.ringError r code index d).Canon :=
  (Dev.Canon.ite h.modRing.bump.occur.ringEntry h.modRing.bump.occur.event).notice

theorem Dev.Canon.doorbell {r : Fin 26} {i : Nat} (h : d.Canon) : (Dev.doorbell r i d).Canon := by
  unfold Dev.doorbell
  extract_lets g size was d1
  have h1 : d1.Canon := h.modRing.notice
  exact .ite h (.ite h.ringError (.ite (.ite h.ringError (.ite h1.overflow
    (.dite (fun _ => h1.retireBad) (fun _ => h1)))) h.modRing.notice))

theorem Dev.Canon.doorbellAt {i : Iface} {r : Fin 26} {v : Nat} (h : d.Canon) : (Dev.doorbellAt i r v d).2.Canon :=
  .ite2 h.violate (.ite2 h.violate (.ite h.modRing.doorbell h.modRing))

theorem Dev.Canon.msixWrite {k : Nat} {v : Word} (h : d.Canon) : (Dev.msixWrite k v d).Canon := h.modHost.msixFlush

theorem Dev.Canon.doorbellWrite {off : Nat} {wide : Bool} {v : Nat} (h : d.Canon) : (doorbellWrite off wide v d).Canon :=
  .dite (fun _ => .ite h.doorbellAt h.violate) (fun _ => .ite (.ite h.msixWrite.msixWrite h.msixWrite) (.ite h h.violate))

theorem Dev.Canon.ringCfgDone {r : Fin 26} {old new : Word} (h : d.Canon) : (Dev.ringCfgDone r old new d).Canon :=
  .ite (.ite h.modRing.overflow h.modRing) h

theorem Dev.Canon.itrExpiry {r : Fin 26} (h : d.Canon) : (itrExpiry r d).Canon := .ite (.ite h.signal h.modRing) h

theorem Dev.Canon.descriptorFetch {r : Fin 26} {res : Fetch (List (List Word))} (h : d.Canon) : (descriptorFetch r res d).Canon := by
  unfold Machine.descriptorFetch
  extract_lets n g
  refine .ite h ?_
  split
  · exact h.ringError
  · extract_lets l es d1
    refine .ite h ?_
    have h1 : d1.Canon := h.modRing
    clear_value d1
    exact .dite (fun _ => h1.retireBad) fun _ => .dite (fun _ => h1.txCommit) fun _ => h1

theorem Dev.Canon.extBlockFetch {src : CmdSrc} {res : Fetch (List Word)} (h : d.Canon) : (extBlockFetch src res d).Canon := by
  simp only [Machine.extBlockFetch]
  split
  · exact h
  · split
    · exact h
    · split
      · exact h.modHost
      · exact h.retireHead.retireBad

theorem Dev.Canon.extBlockTimeout {src : CmdSrc} (h : d.Canon) : (extBlockTimeout src d).Canon := by
  simp only [Machine.extBlockTimeout]
  split
  · exact h.retireHead.retireBad
  · exact h

theorem Dev.Canon.unhold {src : CmdSrc} (h : d.Canon) : (Dev.unhold src d).Canon := by
  unfold Dev.unhold
  extract_lets mine d1 d2
  have h1 : d1.Canon := by
    unfold d1
    refine h.forFin fun p d h => ?_
    dsimp only
    exact h.modPort.foldl fun _ _ h => .ite h.txtsPush h
  clear_value d1
  have h2 : d2.Canon := h1.modChart
  clear_value d2
  exact h2.modFw

theorem Dev.Canon.commandTimeout {src : CmdSrc} (h : d.Canon) : (commandTimeout src d).Canon := by
  simp only [Machine.commandTimeout]
  split
  · exact .ite h h.unhold.complete
  · exact h

theorem Dev.Canon.abortCq {q : Fin 4} (h : d.Canon) : (Dev.abortCq q d).Canon := by
  simp only [Dev.abortCq]
  split
  · split
    · exact h.recordIp.cqRetire
    · exact .ite h h.unhold.recordIp.modHost
  · exact h

theorem Dev.Canon.hostReset {cause : Nat} (h : d.Canon) : (Dev.hostReset cause d).Canon :=
  .ite h (h.modHost.modTop.bump.forFin (fun _ _ h1 => h1.abortCq))

theorem Dev.Canon.recoverCq {cause : Byte} {t : Stamp} {q : Fin 4} (h : d.Canon) : (Dev.recoverCq cause t q d).Canon :=
  .ite h.wrWords.memWrite h.wrWords

theorem Dev.Canon.recoveryRecord (h : d.Canon) : (recoveryRecord d).Canon := by
  unfold Machine.recoveryRecord
  split
  · exact h
  · extract_lets d1 ring0 d2 d3
    have h1 : d1.Canon := h.forFin fun _ _ h1 => h1.recoverCq
    have h2 : d2.Canon := h1.forFin fun _ _ h2 => h2.wrF.modRing
    have h3 : d3.Canon := h2.forFin fun _ _ h3 => h3.modPort
    exact .ite h h3.modHost.modTop

theorem Dev.Canon.pcieClear {flr : Bool} (h : d.Canon) : (Dev.pcieClear flr d).Canon := h.modHost

theorem Dev.Canon.pcieReset {flr : Bool} (h : d.Canon) : (pcieReset flr d).Canon := h.pcieClear.hostReset

theorem Dev.Canon.cfgWrite {r : CfgReg} (h : d.Canon) : (Dev.cfgWrite r d).Canon := by
  simp only [Dev.cfgWrite]
  split
  · exact h
  · exact h
  · exact h.modHost
  · exact h.modHost
  · exact h.modHost
  · exact h.modHost

theorem Dev.Canon.dmaFlush (h : d.Canon) : (Dev.dmaFlush d).Canon := (h.onlyIf (fun _ h1 => h1.modHost)).msixFlush

theorem Dev.Canon.pcieConfig {write : Bool} {r : CfgReg} (h : d.Canon) : (pcieConfig write r d).Canon :=
  .ite h (.ite h.answer (.ite h.cfgWrite.dmaFlush.answer h.answer))

theorem Dev.Canon.pcieLinkUp (h : d.Canon) : (pcieLinkUp d).Canon := .ite h.modHost h

theorem Dev.Canon.nopBody {c : Cmd} (h : d.Canon) : (nopBody c d).2.Canon := h.checked fun _ h1 => h1

theorem Dev.Canon.countOne {x : Reached} (h : d.Canon) : (Dev.countOne x d).2.Canon :=
  .ite2 h.bump (.ite2 h.bump.wr.modWatch (.ite h.bump.wr.modWatch.modSource.bump h.bump.wr.modWatch.modSource))

theorem Dev.Canon.countAll {l : List Reached} (h : d.Canon) : (Dev.countAll l d).2.Canon := by
  induction l generalizing d with
  | nil => exact h
  | cons x l ih => exact ih h.countOne

theorem Dev.Canon.blank {a b : Nat} (h : d.Canon) : (Dev.blank a b d).Canon := h.modWatch

theorem Dev.Canon.faultLog {a : Counted} (h : d.Canon) : (Dev.faultLog a d).Canon := .ite h.wrWords.modKeeper h.bump

theorem Dev.Canon.eventNow {mk : Word → List Byte} (h : d.Canon) : (Dev.eventNow mk d).Canon := .ite h.evtEntry.signal h.evtEntry

theorem Dev.Canon.faultEvent {a : Counted} (h : d.Canon) : (Dev.faultEvent a d).Canon := .ite h.eventNow h.evtEntry

theorem Dev.Canon.alarmPulse (h : d.Canon) : (Dev.alarmPulse d).Canon := h.modWatch

theorem Dev.Canon.watchRelease {c : Fin 16} (h : d.Canon) : (Dev.watchRelease c d).Canon := .ite h.blank.blank.blank.leaveSlot h

theorem Dev.Canon.watchMute {lo hi : Word} {vouts : Nat} (h : d.Canon) : (Dev.watchMute lo hi vouts d).Canon :=
  (h.blank.foldl (fun _ _ h1 => h1.modOut.outRefresh)).forFin fun _ _ h1 => h1.onlyIf (fun _ h2 => h2.modVout.voutRefresh)

theorem Dev.Canon.clearCts {lo hi : Nat} (h : d.Canon) : (Dev.clearCts lo hi d).Canon :=
  h.foldl fun _ _ h1 => by
    split
    · split
      · exact h1.foldl (fun _ _ h2 => h2.wrF)
      · exact h1
    · exact h1

theorem Dev.Canon.setReady {b : Nat} {v : Bool} (h : d.Canon) : (Dev.setReady b v d).Canon := h.modTop

theorem Dev.Canon.blockReset {b : Nat} (h : d.Canon) : (Dev.blockReset b d).Canon := by
  simp only [Dev.blockReset]
  split
  · exact (h.bump.blank.setReady.forFin (fun _ _ h1 => h1.slotRestart)).clearCts
  · exact (h.bump.blank.setReady.forFin (fun _ _ h1 => h1.chanHold)).clearCts
  · exact h.bump.blank.blank.blank.setReady.portPilotReset
  · exact h.bump.blank.hostReset
  · exact h.bump.blank.setReady.chartReset
  · exact h.bump

theorem Dev.Canon.react {l : List Counted} (h : d.Canon) : (Dev.react l d).Canon := by
  unfold Dev.react
  extract_lets some_ orOf d1 d2 d3 d4 chs d5 d6 d7 blocks d8
  have h1 : d1.Canon := h.foldl fun _ _ h1 => h1.onlyIf (fun _ h2 => h2.faultLog)
  have h2 : d2.Canon := h1.foldl fun _ _ h2 => h2.onlyIf (fun _ h3 => h3.faultEvent)
  have h3 : d3.Canon := h2.onlyIf fun _ h3 => h3.alarmPulse
  have h4 : d4.Canon := h3.foldl fun _ _ h4 => h4.onlyIf (fun _ h5 => h5.ownFault)
  have h5 : d5.Canon := h4.forFin fun _ _ h5 => h5.onlyIf (fun _ h6 => h6.watchRelease)
  have h6 : d6.Canon := h5.onlyIf fun _ h6 => h6.watchMute
  have h7 : d7.Canon := h6.onlyIf fun _ h7 => h7.modWatch.forFin (fun _ _ h8 => h8.watchRelease)
  have h8 : d8.Canon := h7.foldl fun _ _ h8 => h8.blockReset
  split
  · exact h8.modWatch
  · exact h8

theorem Dev.Canon.faultOccurrence {extra : List Occ} (h : d.Canon) : (faultOccurrence extra d).Canon := h.modWatch.countAll.react

theorem Dev.Canon.leakExpiry {n : Fin 192} (h : d.Canon) : (leakExpiry n d).Canon := .ite h h.modSource

theorem Dev.Canon.alarmPulseEnd (h : d.Canon) : (alarmPulseEnd d).Canon := h.modWatch

theorem Dev.Canon.blankingEnd {n : Fin 192} (h : d.Canon) : (blankingEnd n d).Canon := .ite (.ite h.modSource.reach h.modSource) h

theorem Dev.Canon.blockBack {b : Fin 17} (h : d.Canon) : (blockBack b d).Canon := by
  simp only [Machine.blockBack]
  split
  · split
    · exact h.setReady
    · exact (h.setReady.forFin (fun _ _ h1 => h1.chanBack)).autopilotFor
    · exact h.setReady.loadRefresh
    · exact h
  · exact h

theorem Dev.Canon.safeClear (h : d.Canon) : (Dev.safeClear d).Canon := h.modWatch.autopilotAll

theorem Dev.Canon.faultGiven {src : Nat} {forced : Bool} (h : d.Canon) : (Dev.faultGiven src forced d).Canon :=
  .dite (fun _ => h.reach) (fun _ => h)

theorem Dev.Canon.countClamp {n : Fin 192} (h : d.Canon) : (Dev.countClamp n d).Canon := h.modSource

theorem Dev.Canon.faultConfigBody {c : Cmd} (h : d.Canon) : (faultConfigBody c d).2.Canon :=
  h.checked fun _ h1 => h1.wrWords.countClamp

end Sys2Proof.Machine
end

section
/-! The canonical form: supplies, start-up, clocks and power, register accesses, SPI, time. -/

namespace Sys2Proof.Machine

set_option Elab.async false

variable {d : Dev}

/-- A device reset: the registers are empty, and BAR4 and the flashes are those of the store as it stops. -/
theorem Dev.Canon.fresh {power : Bool} {cause : BitVec 3} (h : d.Canon) : (Dev.fresh power cause d).Canon := by
  have h1 : (d.chartDeviceReset power).Canon := h.chartDeviceReset
  simp only [Dev.Canon, Dev.memoryWf, Bool.and_eq_true] at h1 ⊢
  obtain ⟨⟨⟨⟨-, hbar4⟩, hin⟩, hchart⟩, hcode⟩ := h1
  exact ⟨⟨⟨⟨rfl, hbar4⟩, hin⟩, hchart⟩, hcode⟩

theorem Dev.Canon.bar4Lost (h : d.Canon) : (Dev.bar4Lost d).Canon := memoryWf_bar4Lost h

theorem Dev.Canon.powerLost (h : d.Canon) : (Dev.powerLost d).Canon := h.fresh.aonLost.bar4Lost.modClk.modPwr

theorem Dev.Canon.anchorDown {byPf xoCount : Bool} (h : d.Canon) : (Dev.anchorDown byPf xoCount d).Canon :=
  h.fresh.bar4Lost.modClk.modPwr

theorem Dev.Canon.anchorAuto (h : d.Canon) : (anchorAuto d).Canon := .ite (.ite h.modChart.anchorDown h.powerLost) h

theorem Dev.Canon.supplyFail {all : Bool} (h : d.Canon) : (supplyFail all d).Canon :=
  .ite h.powerLost.modClk.modPwr.modWatch (.ite h (.ite h.anchorAuto h.powerLost))

theorem Dev.Canon.resetN (h : d.Canon) : (resetN d).Canon := .ite (.ite h.modClk.modWatch.modTop h) h.fresh.modClk

theorem Dev.Canon.beaconLoss (h : d.Canon) : (beaconLoss d).Canon := .ite h (.ite h.modClk h.fresh.modClk.modWatch)

theorem Dev.Canon.anchorMute (h : d.Canon) : (Dev.anchorMute d).Canon :=
  (h.forFin (fun _ _ h1 => h1.modOut.outRefresh)).forFin fun _ _ h1 => h1.modVout.voutRefresh

theorem Dev.Canon.anchorStart (h : d.Canon) : (Dev.anchorStart d).Canon := .ite h.bar4Lost.modTop.anchorMute h

theorem Dev.Canon.release (h : d.Canon) : (Dev.release d).Canon :=
  (Dev.Canon.ite h.modClk.modWatch.modTop.modTide.modTide h.modClk.modWatch.modTop.modTide).modPwr.anchorStart

theorem Dev.Canon.holdRelease {master : Bool} {id : BitVec 9} {vbakOk : Bool} (h : d.Canon) : (holdRelease master id vbakOk d).Canon :=
  .ite h.modTide.modPwr.release h

theorem Dev.Canon.deviceReset (h : d.Canon) : (deviceReset d).Canon := by
  simp only [Machine.deviceReset]
  split
  · exact h.modWatch.fresh.release
  · exact h

theorem Dev.Canon.bootError {e : Nat} (h : d.Canon) : (Dev.bootError e d).Canon := h.modTop.setCond

theorem Dev.Canon.stage {n : Nat} (h : d.Canon) : (Dev.stage n d).Canon := h.modTop

theorem Dev.Canon.bpllLock (h : d.Canon) : (bpllLock d).Canon := .ite (.ite h.modClk.stage h.modClk) h

theorem Dev.Canon.otpReadDone {ok : Bool} (h : d.Canon) : (otpReadDone ok d).Canon :=
  .ite (.ite h.modOtp.stage.modChart h.modOtp.stage.modChart.bootError) h

theorem Dev.Canon.loadFreq (h : d.Canon) : (Dev.loadFreq d).Canon := by
  simp only [Dev.loadFreq]
  split
  · exact .ite h.wr h
  · exact h

theorem Dev.Canon.loadId (h : d.Canon) : (Dev.loadId d).Canon := by
  simp only [Dev.loadId]
  split
  · exact h.modTide
  · exact h

theorem Dev.Canon.scanStage (h : d.Canon) : (Dev.scanStage d).Canon := h.modClk.stage.modTop

theorem Dev.Canon.chartScanDone {ok : Bool} (h : d.Canon) : (chartScanDone ok d).Canon := by
  unfold Machine.chartScanDone
  extract_lets d1 d2
  have h1 : d1.Canon := h.chartScan
  have h2 : d2.Canon := .ite h1.modChart h1
  exact .ite h (.ite (.ite h2.loadFreq.loadId.scanStage h.modChart.bootError.scanStage)
    (.ite (Dev.Canon.ite h.chartScan h.modChart.bootError).setReady h))

theorem Dev.Canon.linksStart (h : d.Canon) : (Dev.linksStart d).Canon := h.forFin fun _ _ h1 => h1.onlyIf (fun _ h2 => h2.linkTo)

theorem Dev.Canon.bootReady (h : d.Canon) : (Dev.bootReady d).Canon := h.linksStart.modTop.loadRefresh.lanternsXo

theorem Dev.Canon.loadMicrocode {b : Bool} (h : d.Canon) : (Dev.loadMicrocode b d).Canon := .ite (.ite h.modPilot h.bootError) h

theorem Dev.Canon.imageCheckDone {slotB : Bool} (h : d.Canon) : (imageCheckDone slotB d).Canon := by
  unfold Machine.imageCheckDone
  extract_lets n d1 d2
  have h1 : d1.Canon := h.bootError
  have h2 : d2.Canon := h1.modTop.stage
  exact .ite (.ite h.loadMicrocode.stage.bootReady.keeperRelease (.ite h1.modTop h2.modKeeper.bootReady.setCond)) h

theorem Dev.Canon.xoGap (h : d.Canon) : (Dev.xoGap d).Canon := h.draw.wr

theorem Dev.Canon.xoQualify (h : d.Canon) : (Dev.xoQualify d).Canon := (Dev.Canon.ite h.xoGap h).modClk.modHost.lanternsXo

theorem Dev.Canon.xoWindowEnd {w : XoWindow} (h : d.Canon) : (xoWindowEnd w d).Canon :=
  .ite h (.ite h.wrF.modClk.wrF.modClk.setCond (.ite (.ite h.wrF.modClk.modClk.xoQualify h.wrF.modClk.modClk) h.wrF.modClk))

theorem Dev.Canon.xoAbsentTimeout (h : d.Canon) : (xoAbsentTimeout d).Canon := .ite h.modClk.occur h

theorem Dev.Canon.xoFail {cause : Fin 3} (h : d.Canon) : (xoFail cause d).Canon := by
  unfold Machine.xoFail
  extract_lets w d1 d2 d3 d4
  have h1 : d1.Canon := h.modClk
  have h2 : d2.Canon := h1.wrF.bump.occur
  have h3 : d3.Canon := (h2.forFin (fun _ _ h3 => h3.slotLoss)).lanternsXo
  have h4 : d4.Canon := (h3.forFin (fun _ _ h4 => h4.portLoss)).forFin fun _ _ h4 => h4.linkLoss
  exact .ite h4.pcieReset.modHost h

theorem Dev.Canon.cpllLock (h : d.Canon) : (cpllLock d).Canon := .ite h.modClk h

theorem Dev.Canon.cpllUnlock (h : d.Canon) : (cpllUnlock d).Canon := h.modClk

theorem Dev.Canon.domainTo {x : Domain} {to_ : Bool} (h : d.Canon) : (Dev.domainTo x to_ d).Canon := by
  simp only [Dev.domainTo]
  split
  · exact h.modClk
  · exact h.modClk.wrF
  · exact h.modClk.wrF

theorem Dev.Canon.clockSwitchDone {x : Domain} (h : d.Canon) : (Machine.switchDone x d).Canon := by
  simp only [Machine.switchDone]
  split
  · exact h.domainTo
  · exact h

theorem Dev.Canon.forcedSwitch {x : Domain} (h : d.Canon) : (forcedSwitch x d).Canon := by
  simp only [Machine.forcedSwitch]
  split
  · exact h.domainTo.bump.occur.logEnt
  · exact h

theorem Dev.Canon.srcSel {v : Word} (h : d.Canon) : (Dev.srcSel v d).Canon := h.modClk

theorem Dev.Canon.oppDone {o : Nat → CmdOut} (h : d.Canon) : (Dev.oppDone o d).Canon := by
  simp only [Dev.oppDone]
  split
  · exact h.modPwr.complete
  · exact h

theorem Dev.Canon.oppKick (h : d.Canon) : (Dev.oppKick d).Canon := .ite h (.ite h.modPwr (.ite h.modPwr.loadRefresh h.oppDone))

theorem Dev.Canon.avsAck (h : d.Canon) : (avsAck d).Canon := by
  simp only [Machine.avsAck]
  split
  · exact h.modPwr
  · exact h.modPwr.oppKick
  · exact h.modPwr.oppKick
  · exact h

theorem Dev.Canon.avsSettle (h : d.Canon) : (avsSettle d).Canon := by
  simp only [Machine.avsSettle]
  split
  · exact h.modPwr.loadRefresh.oppKick
  · exact h

theorem Dev.Canon.avsTimeout (h : d.Canon) : (avsTimeout d).Canon := .ite h.modPwr.bump.occur.oppDone h

theorem Dev.Canon.pwrOppBody {c : Cmd} (h : d.Canon) : (pwrOppBody c d).2.Canon :=
  h.checkedLong fun _ h1 => .ite2 h1 h1.wrF.loadRefresh.modPwr.oppKick

theorem Dev.Canon.capDrop (h : d.Canon) : (Dev.capDrop d).Canon := .ite h h.modPwr.bump.occur.oppKick

theorem Dev.Canon.thermalSample (h : d.Canon) : (thermalSample d).Canon := .ite (.ite h h.modPwr.capDrop) h.modPwr

theorem Dev.Canon.throttleDrop (h : d.Canon) : (throttleDrop d).Canon := .ite h.capDrop h

theorem Dev.Canon.throttleRise (h : d.Canon) : (throttleRise d).Canon := .ite h.modPwr.oppKick h

theorem Dev.Canon.shedLoads {anchor : Bool} (h : d.Canon) : (Dev.shedLoads anchor d).Canon :=
  (h.forFin (fun _ _ h1 => h1.portLoss)).lanternsXo.oppKick.chartPowerFail

theorem Dev.Canon.pwrfailTrigger {monitor : Bool} (h : d.Canon) : (pwrfailTrigger monitor d).Canon :=
  .ite h (.ite h.modPwr.modPwr.bump.occur.shedLoads h.modPwr)

theorem Dev.Canon.commitDone (h : d.Canon) : (commitDone d).Canon :=
  .ite (.ite (Dev.Canon.ite h.commitFinish.modPwr h.commitFinish).modPwr (.ite h.commitFinish.modPwr h.commitFinish)) h.commitFinish

theorem Dev.Canon.pfResume (h : d.Canon) : (pfResume d).Canon := .ite h.modPwr.lanternsXo h

theorem Dev.Canon.pfResumed (h : d.Canon) : (pfResumed d).Canon := .ite h.modPwr.loadRefresh.oppKick h

theorem Dev.Canon.anchorSnapshot {beaconPs : Nat} (h : d.Canon) : (anchorSnapshot beaconPs d).Canon := by
  simp only [Machine.anchorSnapshot]
  split
  · split
    · exact h.modPwr.complete.anchorDown
    · exact h.modPwr
  · exact h

theorem Dev.Canon.anchorEnterBody {c : Cmd} (h : d.Canon) : (anchorEnterBody c d).2.Canon := by
  refine h.checkedLong fun d h1 => .ite2 h1 (.ite2 h1 ?_)
  dsimp only
  exact h1.modPwr.modChart.shedLoads

theorem Dev.Canon.anchorTempLog {tj : BitVec 16} (h : d.Canon) : (anchorTempLog tj d).Canon := .ite h.modPwr h

theorem Dev.Canon.anchorXoStop (h : d.Canon) : (anchorXoStop d).Canon := .ite h.modPwr h

theorem Dev.Canon.vbakLoss (h : d.Canon) : (vbakLoss d).Canon := .ite h.aonLost.modPwr h.modPwr

theorem Dev.Canon.anchorWake {crcOk : Bool} (h : d.Canon) : (anchorWake crcOk d).Canon := by
  simp only [Machine.anchorWake]
  split
  · exact h
  · split
    · exact h.modTop.anchorMute.modPwr
    · exact h

theorem Dev.Canon.anchorFree (h : d.Canon) : (Dev.anchorFree d).Canon :=
  (h.forFin (fun _ _ h1 => h1.modOut.outRefresh)).forFin fun _ _ h1 => h1.modVout.voutRefresh

theorem Dev.Canon.tsRestore {n : Fin 4} {s : SnapTs} {eGr : Int} (h : d.Canon) : (Dev.tsRestore n s eGr d).Canon :=
  h.wr.wr.modTs.noticeJudge.edgeLeap

theorem Dev.Canon.wakeEvent {eMs uUs : Nat} {steps : BitVec 4} (h : d.Canon) : (Dev.wakeEvent eMs uUs steps d).Canon := h.event

theorem Dev.Canon.chanRestore {c : Fin 16} {s : SnapChan} (h : d.Canon) : (Dev.chanRestore c s d).Canon :=
  h.pub40.wr.wr.wrWords.chanReconf

theorem Dev.Canon.timeRestore {c : Fin 16} {cycles ticks : Nat} (h : d.Canon) : (timeRestore c cycles ticks d).Canon := by
  unfold Machine.timeRestore
  split
  · extract_lets e eMs u first d1 d2 d3 d4 d5 d6
    have h1 : d1.Canon := h.pub40.wr
    have h2 : d2.Canon := h1.forFin fun _ _ h2 => .ite h2.tsRestore h2
    have h3 : d3.Canon := h2.modPwr
    have h4 : d4.Canon := h3.tsZero
    have h5 : d5.Canon := .ite h4.chanRestore h4
    have h6 : d6.Canon := .ite h5.wakeEvent h5
    exact .ite (.ite h6.anchorFree h6) h
  · exact h

theorem Dev.Canon.setGuard {i : Iface} {g : Option Guard} (h : d.Canon) : (Dev.setGuard i g d).Canon := h.modChk

theorem Dev.Canon.setLo {i : Iface} {base : Nat} {v : Option Word} (h : d.Canon) : (Dev.setLo i base v d).Canon := h.modChk

theorem Dev.Canon.guardBreak {i : Iface} (h : d.Canon) : (Dev.guardBreak i d).Canon := by
  simp only [Dev.guardBreak]
  split
  · exact h.setGuard.violate
  · exact h

theorem Dev.Canon.meets {fs : List RegField} {hw now v : Word} (h : d.Canon) : (Dev.meets fs hw now v d).2.Canon := by
  simp only [Dev.meets]
  split
  · exact h
  · exact h.bump

theorem Dev.Canon.windowKeep {n : Fin 64} (h : d.Canon) : (Dev.windowKeep n d).Canon := .ite h.wr h

theorem Dev.Canon.buoyTook {n : Fin 64} {o : Nat} {old v : Word} (h : d.Canon) : (Dev.buoyTook n o old v d).Canon := by
  refine .ite (Dev.Canon.ite h h.wr.takeRate).slotRestart (.ite h.windowKeep (.ite (.ite ?_ h) h))
  cases hq : d.hsQueue n with
  | none => exact h
  | some e => exact h.hsQueue hq

theorem Dev.Canon.chanTook {c : Fin 16} {o : Nat} {old : Word} (h : d.Canon) : (Dev.chanTook c o old d).Canon :=
  .ite h.chanReconf (.ite h.chanReconf.chanOutputs (.ite h.modHo (.ite h.partnerKeep h)))

theorem Dev.Canon.lanTook {n : Fin 8} {o : Nat} {old v : Word} (h : d.Canon) : (Dev.lanTook n o old v d).Canon := h.lanChanged

theorem Dev.Canon.voutTook {k : Fin 8} {o : Nat} {old v : Word} (h : d.Canon) : (Dev.voutTook k o old v d).Canon :=
  (h.onlyIf (fun _ h1 => h1.voutHold)).voutRefresh

theorem Dev.Canon.tsTook {n : Fin 4} {o : Nat} {old v : Word} (h : d.Canon) : (Dev.tsTook n o old v d).Canon :=
  .ite (Dev.Canon.ite h.wr h.wr.tsBind).todConfig (.ite h.noticeJudge (.ite (.ite h.captureArm h) h))

theorem Dev.Canon.tideTook {o : Nat} {old v : Word} (h : d.Canon) : (Dev.tideTook o old v d).Canon :=
  .ite (.ite h.linkEnables h.linkEnables.setPrio) h

theorem Dev.Canon.took {a : Nat} {old v : Word} (h : d.Canon) : (Dev.took a old v d).Canon := by
  unfold Dev.took
  exact .ite h.modTop (.ite (.ite h h.modClk) (.ite h.loadRefresh.oppKick (.ite (.ite h.anchorFree h) (.ite (.ite h.faultGiven h)
    (.ite (.ite h.countClamp h) (.ite (.ite h.wr h) (.ite h.buoyTook (.ite h.chanTook (.ite (.ite h.lanTook h) (.ite h.outRefresh
    (.ite h.voutTook (.ite h.tsTook (.ite h.outRefresh (.ite (.ite h.portChanged h) (.ite h.loadRefresh (.ite
    (.ite h.clientEnable h) (.ite h.tideTook (.ite (.ite h.hostReset h) (.ite (.ite h.ringCfgDone h)
    (.ite h.wdtRestart h))))))))))))))))))))

theorem Dev.Canon.take {a : Nat} {r : RegDesc} {hw v : Word} (h : d.Canon) : (Dev.take a r hw v d).Canon :=
  .ite h (Dev.Canon.ite h.bucketsSync h).meets.wr.took

theorem Dev.Canon.takeGuarded {a : Nat} {v : Word} (h : d.Canon) : (Dev.takeGuarded a v d).Canon := by
  unfold Dev.takeGuarded
  extract_lets d1
  have h1 : d1.Canon := h.wr
  exact .ite h.srcSel (.ite (.ite h.safeClear h) (.ite (.ite h1.faultGiven h1) (.ite h.rawErase (.ite (.ite h.apReleased
    (.ite h.apRestarted h)) (.ite h.wr.otpStart (.ite h.forceWrite h))))))

theorem Dev.Canon.fail {i : Iface} {off : Nat} {why : Reason} {v : Word} (h : d.Canon) : (Dev.fail i off why v d).2.Canon := h.violate

theorem Dev.Canon.guardWrite {i : Iface} {a : Nat} {hw v : Word} (h : d.Canon) : (Dev.guardWrite i a hw v d).2.Canon :=
  .ite2 h.fail (.ite2 h.fail h.meets.takeGuarded)

theorem Dev.Canon.complement {i : Iface} {a : Nat} {hw v : Word} (h : d.Canon) : (Dev.complement i a hw v d).2.Canon := by
  simp only [Dev.complement]
  split
  · exact .ite2 (.ite2 h.setGuard.guardWrite h.setGuard.fail) h.fail
  · exact h.fail

theorem Dev.Canon.took40 {base : Nat} (h : d.Canon) : (Dev.took40 base d).Canon :=
  .ite (.ite h.windowKeep (.ite h.modBuoy h.modBuoy)) h

theorem Dev.Canon.write40 {i : Iface} {a : Nat} {r : RegDesc} {lo : Option Word} {hw v : Word} (h : d.Canon) :
    (Dev.write40 i a r lo hw v d).2.Canon :=
  .ite2 h (.ite2 h.fail (.ite2 h.meets h.pub40.took40))

theorem Dev.Canon.privWrite {i : Iface} {a : Nat} {k : PrivKind} {v : Word} (h : d.Canon) : (Dev.privWrite i a k v d).2.Canon := by
  simp only [Dev.privWrite]
  split
  · exact h.wr
  · exact h.fail
  · exact .ite2 h.wr (.ite2 h.fail h.logbook)
  · exact .ite2 (.ite2 h.keeperOffer h.fail) (.ite2 (.ite2 h.modKeeper h.fail) (.ite2 (.ite2 h.modKeeper h.fail)
    (.ite2 h.modKeeper h.fail)))

theorem Dev.Canon.writeReg {i : Iface} {a : Nat} {r : RegDesc} {lo : Option Word} {hw v : Word} (h : d.Canon) :
    (Dev.writeReg i a r lo hw v d).2.Canon := by
  simp only [Dev.writeReg]
  split
  · exact h.complement
  · split
    · exact h.fail
    · split
      · exact h.setGuard
      · exact .ite h h.setLo
      · exact h.write40
      · exact .ite2 h (.ite2 h.fail h.take)

theorem Dev.Canon.busWrite {i : Iface} {off : Nat} {v : Word} {be : Nat} {hw : Word} (h : d.Canon) :
    (Dev.busWrite i off v be hw d).2.Canon := by
  simp only [Dev.busWrite]
  split
  · refine Dev.Canon.fail ?_
    refine Dev.Canon.setGuard ?_
    split
    · refine Dev.Canon.setLo ?_
      split
      · exact .ite h h.guardBreak
      · exact h
    · split
      · exact .ite h h.guardBreak
      · exact h
  · split
    · refine Dev.Canon.fail ?_
      split
      · refine Dev.Canon.setLo ?_
        split
        · exact .ite h h.guardBreak
        · exact h
      · split
        · exact .ite h h.guardBreak
        · exact h
    · split
      · refine Dev.Canon.privWrite ?_
        split
        · refine Dev.Canon.setLo ?_
          split
          · exact .ite h h.guardBreak
          · exact h
        · split
          · exact .ite h h.guardBreak
          · exact h
      · refine Dev.Canon.writeReg ?_
        split
        · refine Dev.Canon.setLo ?_
          split
          · exact .ite h h.guardBreak
          · exact h
        · split
          · exact .ite h h.guardBreak
          · exact h
      · refine Dev.Canon.fail ?_
        split
        · refine Dev.Canon.setLo ?_
          split
          · exact .ite h h.guardBreak
          · exact h
        · split
          · exact .ite h h.guardBreak
          · exact h

theorem Dev.Canon.busRead {i : Iface} {off : Nat} (h : d.Canon) : (Dev.busRead i off d).2.2.Canon := by
  simp only [Dev.busRead]
  split
  · exact h.violate
  · split
    · exact h.txtsPop
    · exact h

theorem Dev.Canon.respond {i : Iface} {why : Option Reason} {data : List Byte} (h : d.Canon) : (Dev.respond i why data d).Canon :=
  (Dev.Canon.ite h.bump h).answer

theorem Dev.Canon.regWrite {i : Iface} {off : Nat} {v : Word} {be : Nat} {hw : Word} (h : d.Canon) :
    (regWrite i off v be hw d).Canon :=
  h.busWrite.respond

theorem Dev.Canon.wideWrite {off v be : Nat} (h : d.Canon) : (wideWrite off v be d).Canon := h.busWrite.busWrite.respond

theorem Dev.Canon.regRead {i : Iface} {off be : Nat} (h : d.Canon) : (regRead i off be d).Canon :=
  .ite h.busRead.answer h.busRead.respond

theorem Dev.Canon.wideRead {off be : Nat} (h : d.Canon) : (wideRead off be d).Canon :=
  .ite h.busRead.busRead.answer h.busRead.busRead.respond

theorem Dev.Canon.bar2Read {i : Iface} {off be : Nat} (h : d.Canon) : (bar2Read i off be d).Canon := by
  simp only [Machine.bar2Read]
  split
  · exact h
  · split
    · exact h.respond
    · exact h.violate.respond

theorem Dev.Canon.guardedWrite {i : Iface} {off : Nat} {v : Word} (h : d.Canon) : (guardedWrite i off v d).Canon := h.regWrite.regWrite

theorem Dev.Canon.guardEnd {i : Iface} (h : d.Canon) : (guardEnd i d).Canon := h.guardBreak

theorem Dev.Canon.ringSwitch {i : Iface} {r : Fin 26} {en : Nat} (h : d.Canon) : (ringSwitch i r en d).Canon := h.regWrite

theorem Dev.Canon.queryBody {c : Cmd} (h : d.Canon) : (queryBody c d).2.Canon :=
  h.checked fun _ h1 => by
    split
    · exact h1.memWrite
    · exact h1

theorem Dev.Canon.spiReads {addr n : Nat} (h : d.Canon) : (Dev.spiReads addr n d).2.2.Canon := by
  induction n generalizing addr d with
  | zero => exact h
  | succ n ih => exact ih h.busRead

theorem Dev.Canon.spiWrites {addr : Nat} {vs : List Word} (h : d.Canon) : (Dev.spiWrites addr vs d).2.Canon := by
  induction vs generalizing addr d with
  | nil => exact h
  | cons v vs ih => exact ih h.busWrite

theorem Dev.Canon.spiBell {addr : Nat} {v : Word} (h : d.Canon) : (Dev.spiBell addr v d).2.Canon := by
  unfold Dev.spiBell
  split
  · exact .ite2 h.doorbellAt (.ite2 h.violate h.violate)
  · exact h.violate

theorem Dev.Canon.spiRegRead {addr count : Nat} (h : d.Canon) : (spiRegRead addr count d).Canon := h.spiReads.respond

theorem Dev.Canon.spiRegWrite {addr : Nat} {words : List Word} (h : d.Canon) : (spiRegWrite addr words d).Canon := h.spiWrites.respond

theorem Dev.Canon.spiDoorbell {addr : Nat} {v : Word} (h : d.Canon) : (spiDoorbell addr v d).Canon := h.spiBell.respond

theorem Dev.Canon.spiPart {p : SpiPart} (h : d.Canon) : (Dev.spiPart p d).2.Canon := by
  simp only [Dev.spiPart]
  split
  · exact h.spiReads
  · exact h.spiWrites
  · exact h
  · exact h.bar4Write
  · exact h.spiBell
  · exact h
  · exact h

theorem Dev.Canon.spiEnd {p : SpiPart} (h : d.Canon) : (spiEnd p d).Canon := h.spiPart.bump.occur.answer

theorem Dev.Canon.tick (h : d.Canon) : (tick d).Canon := .ite h.modClk.modChart h.modClk

theorem Dev.Canon.idleDev (h : d.Canon) : (idleDev d).Canon := .ite h.tick h.faultOccurrence

end Sys2Proof.Machine
end

section
/-! Every command: it runs an operation of the device that keeps the canonical form; only the accesses of SPI to BAR4 can stop. -/

namespace Sys2Proof.Machine

set_option Elab.async false

/-- An access of SPI to BAR4, or a transaction that may have been one: beyond the 256 KiB it stops. -/
def spiMemory : Instr → Bool
  | .spiMemRead .. | .spiMemWrite .. | .spiTimeout _ | .spiCsRelease _ => true
  | _ => false

/-- `f` is an operation of the device that keeps the canonical form of its memories. -/
def Keeps (f : Dev → Dev) : Prop := ∀ d, d.Canon → (f d).Canon

/-- Every command but those accesses runs an operation that keeps the canonical form. -/
theorem exec_runs (c : Instr) (hc : spiMemory c = false) : ∃ f, (∀ s, exec c s = run f s) ∧ Keeps f := by
  cases c with
  | watchdogKick => exact ⟨_, fun _ => rfl, fun _ h => h.regWrite⟩
  | watchdogExpiry => exact ⟨_, fun _ => rfl, fun _ h => h.wdtExpire⟩
  | apRelease => exact ⟨_, fun _ => rfl, fun _ h => h.guardedWrite⟩
  | apRestart => exact ⟨_, fun _ => rfl, fun _ h => h.guardedWrite⟩
  | guardArm => exact ⟨_, fun _ => rfl, fun _ h => h.regWrite⟩
  | guardWindowEnd => exact ⟨_, fun _ => rfl, fun _ h => h.guardEnd⟩
  | registerWrite i off w be =>
    cases w with
    | word => exact ⟨_, fun _ => rfl, fun _ h => h.regWrite⟩
    | wide => exact ⟨_, fun _ => rfl, fun _ h => h.onlyIf fun _ h => h.wideWrite⟩
    | bytes => exact ⟨_, fun _ => rfl, fun _ h => h.onlyIf fun _ h => h.bar4Write.respond⟩
  | regViolAck => exact ⟨_, fun _ => rfl, fun _ h => h.regWrite⟩
  | topRunWrite => exact ⟨_, fun _ => rfl, fun _ h => h.regWrite⟩
  | doorbellWrite => exact ⟨_, fun _ => rfl, fun _ h => h.doorbellWrite⟩
  | glitchFiltered => exact ⟨_, fun _ => rfl, fun _ h => h.glitch⟩
  | timingEvent => exact ⟨_, fun _ => rfl, fun _ h => h.slotEvent⟩
  | todMessage => exact ⟨_, fun _ => rfl, fun _ h => h.todTake⟩
  | ltcFrame => exact ⟨_, fun _ => rfl, fun _ h => h.ltcTake⟩
  | aesBlock => exact ⟨_, fun _ => rfl, fun _ h => h.aesTake⟩
  | videoFormatChange => exact ⟨_, fun _ => rfl, fun _ h => h.videoFormat⟩
  | hsPush => exact ⟨_, fun _ => rfl, fun _ h => h.regWrite⟩
  | buoyLoss => exact ⟨_, fun _ => rfl, fun _ h => h.buoyLossBody⟩
  | freqGateEnd => exact ⟨_, fun _ => rfl, fun _ h => h.gateEnd⟩
  | tieSample => exact ⟨_, fun _ => rfl, fun _ h => h.tieTake⟩
  | mtiePeriodEnd => exact ⟨_, fun _ => rfl, fun _ h => h.mtieEnd⟩
  | matrixCycleEnd => exact ⟨_, fun _ => rfl, fun _ h => h.matrixEnd⟩
  | qualTimerExpiry => exact ⟨_, fun _ => rfl, fun _ h => h.qualTimer⟩
  | forceArm => exact ⟨_, fun _ => rfl, fun _ h => h.guardedWrite⟩
  | forceDisarm => exact ⟨_, fun _ => rfl, fun _ h => h.guardedWrite⟩
  | forceArmExpiry => exact ⟨_, fun _ => rfl, fun _ h => h.forceArmEnd⟩
  | chanUpdate => exact ⟨_, fun _ => rfl, fun _ h => h.chanUpdateStep⟩
  | pullinWindowEnd => exact ⟨_, fun _ => rfl, fun _ h => h.pullWindowEnd⟩
  | lockTimeExpiry => exact ⟨_, fun _ => rfl, fun _ h => h.lockTimeEnd⟩
  | historySnapshot => exact ⟨_, fun _ => rfl, fun _ h => h.historySnap⟩
  | historySample => exact ⟨_, fun _ => rfl, fun _ h => h.historySecond⟩
  | holdoverSecond => exact ⟨_, fun _ => rfl, fun _ h => h.holdoverSec⟩
  | hoPredictionSecond => exact ⟨_, fun _ => rfl, fun _ h => h.predictionSec⟩
  | tempSample => exact ⟨_, fun _ => rfl, fun _ h => h.tempRead⟩
  | lanternBandFound => exact ⟨_, fun _ => rfl, fun _ h => h.lanBandFound⟩
  | lanternCalTimeout => exact ⟨_, fun _ => rfl, fun _ h => h.lanCalTimeout⟩
  | lanternLock => exact ⟨_, fun _ => rfl, fun _ h => h.lanLock⟩
  | lanternAcqTimeout => exact ⟨_, fun _ => rfl, fun _ h => h.lanAcqTimeout⟩
  | lanternUnlock => exact ⟨_, fun _ => rfl, fun _ h => h.lanUnlock⟩
  | lanternRecal => exact ⟨_, fun _ => rfl, fun _ h => h.lanRecal⟩
  | outputStart => exact ⟨_, fun _ => rfl, fun _ h => h.outStart⟩
  | outputStop => exact ⟨_, fun _ => rfl, fun _ h => h.outStop⟩
  | outputForcedStop => exact ⟨_, fun _ => rfl, fun _ h => h.outForcedStop⟩
  | phaseAdjustStep => exact ⟨_, fun _ => rfl, fun _ h => h.phaseStep⟩
  | ppsEdge => exact ⟨_, fun _ => rfl, fun _ h => h.ppsEdgeActs⟩
  | tsCaptureArm => exact ⟨_, fun _ => rfl, fun _ h => h.regWrite⟩
  | leapNoticeStart => exact ⟨_, fun _ => rfl, fun _ h => h.leapNoticeBegin⟩
  | voutStart => exact ⟨_, fun _ => rfl, fun _ h => h.voutBegin⟩
  | voutStop => exact ⟨_, fun _ => rfl, fun _ h => h.voutEnd⟩
  | voutClockLoss => exact ⟨_, fun _ => rfl, fun _ h => h.voutForce⟩
  | voutRealign => exact ⟨_, fun _ => rfl, fun _ h => h.voutNewGrid⟩
  | portLinkUp => exact ⟨_, fun _ => rfl, fun _ h => h.portLinkUp⟩
  | portCalDone => exact ⟨_, fun _ => rfl, fun _ h => h.portCalDone⟩
  | portCalTimeout => exact ⟨_, fun _ => rfl, fun _ h => h.portCalTimeout⟩
  | portLinkLoss => exact ⟨_, fun _ => rfl, fun _ h => h.portLinkLoss⟩
  | portRecalibrate => exact ⟨_, fun _ => rfl, fun _ h => h.portRecal⟩
  | frameReceived => exact ⟨_, fun _ => rfl, fun _ h => h.frameRx⟩
  | esmcTimeout => exact ⟨_, fun _ => rfl, fun _ h => h.esmcLate⟩
  | esmcInfoTx => exact ⟨_, fun _ => rfl, fun _ h => h.esmcInfo⟩
  | esmcEventTx => exact ⟨_, fun _ => rfl, fun _ h => h.esmcEvent⟩
  | packetTxDone => exact ⟨_, fun _ => rfl, fun _ h => h.packetDone⟩
  | txtsPop => exact ⟨_, fun _ => rfl, fun _ h => h.regRead⟩
  | announceTimeout => exact ⟨_, fun _ => rfl, fun _ h => h.announceLate⟩
  | announcePost => exact ⟨_, fun _ => rfl, fun _ h => h.announcePost⟩
  | clientGrantRenew => exact ⟨_, fun _ => rfl, fun _ h => h.clientRenew⟩
  | clientGrantRetry => exact ⟨_, fun _ => rfl, fun _ h => h.clientRetry⟩
  | grantExpiry => exact ⟨_, fun _ => rfl, fun _ h => h.grantEnd⟩
  | delayReqTx => exact ⟨_, fun _ => rfl, fun _ h => h.delayReq⟩
  | subintervalEnd => exact ⟨_, fun _ => rfl, fun _ h => h.subintervalEnd⟩
  | rerouteHoldExpiry => exact ⟨_, fun _ => rfl, fun _ h => h.rerouteEnd⟩
  | multicastSyncTx => exact ⟨_, fun _ => rfl, fun _ h => h.mcSync⟩
  | multicastAnnounceTx => exact ⟨_, fun _ => rfl, fun _ h => h.mcAnnounce⟩
  | calendarSlot => exact ⟨_, fun _ => rfl, fun _ h => h.calendarSlot⟩
  | clientTableDma => exact ⟨_, fun _ => rfl, fun _ h => h.tableDma⟩
  | settleEnd => exact ⟨_, fun _ => rfl, fun _ h => h.settleEnd⟩
  | tideFrameTx => exact ⟨_, fun _ => rfl, fun _ h => h.tideTx⟩
  | tideFrameRx => exact ⟨_, fun _ => rfl, fun _ h => h.tideRx⟩
  | frameMissing => exact ⟨_, fun _ => rfl, fun _ h => h.missingFrame⟩
  | cascadeEventDelivery => exact ⟨_, fun _ => rfl, fun _ h => h.cascDeliver⟩
  | tlCalDone => exact ⟨_, fun _ => rfl, fun _ h => h.linkCalDone⟩
  | rangingExchange => exact ⟨_, fun _ => rfl, fun _ h => h.rangingTake⟩
  | tlTrainTimeout => exact ⟨_, fun _ => rfl, fun _ h => h.trainTimeout⟩
  | masterClaim => exact ⟨_, fun _ => rfl, fun _ h => h.masterClaim⟩
  | takeoverExpiry => exact ⟨_, fun _ => rfl, fun _ h => h.takeoverEnd⟩
  | masterYield => exact ⟨_, fun _ => rfl, fun _ h => h.masterYield⟩
  | labelErrTimeout => exact ⟨_, fun _ => rfl, fun _ h => h.labelErrEnd⟩
  | spiRegRead r count =>
    cases r with
    | regs => exact ⟨_, fun _ => rfl, fun _ h => h.spiRegRead⟩
    | unknown => exact ⟨_, fun _ => rfl, fun _ h => h.respond⟩
  | spiRegWrite => exact ⟨_, fun _ => rfl, fun _ h => h.spiRegWrite⟩
  | spiMemRead => contradiction
  | spiMemWrite => contradiction
  | spiDoorbell => exact ⟨_, fun _ => rfl, fun _ h => h.spiDoorbell⟩
  | spiTimeout => contradiction
  | spiCsRelease => contradiction
  | descriptorFetch => exact ⟨_, fun _ => rfl, fun _ h => h.descriptorFetch⟩
  | extBlockFetch => exact ⟨_, fun _ => rfl, fun _ h => h.extBlockFetch⟩
  | extBlockTimeout => exact ⟨_, fun _ => rfl, fun _ h => h.extBlockTimeout⟩
  | commandTimeout => exact ⟨_, fun _ => rfl, fun _ h => h.commandTimeout⟩
  | ringEnable => exact ⟨_, fun _ => rfl, fun _ h => h.ringSwitch⟩
  | ringDisable => exact ⟨_, fun _ => rfl, fun _ h => h.ringSwitch⟩
  | itrExpiry => exact ⟨_, fun _ => rfl, fun _ h => h.itrExpiry⟩
  | hostifCtrlReset => exact ⟨_, fun _ => rfl, fun _ h => h.regWrite⟩
  | pcieReset => exact ⟨_, fun _ => rfl, fun _ h => h.pcieReset⟩
  | recoveryRecord => exact ⟨_, fun _ => rfl, fun _ h => h.recoveryRecord⟩
  | pcieConfigRequest => exact ⟨_, fun _ => rfl, fun _ h => h.pcieConfig⟩
  | nop => exact ⟨_, fun _ => rfl, fun _ h => h.command fun _ h => h.nopBody⟩
  | queryState => exact ⟨_, fun _ => rfl, fun _ h => h.command fun _ h => h.queryBody⟩
  | refConfig => exact ⟨_, fun _ => rfl, fun _ h => h.command fun _ h => h.refConfigBody⟩
  | refQualParams => exact ⟨_, fun _ => rfl, fun _ h => h.command fun _ h => h.refQualParamsBody⟩
  | refForceState => exact ⟨_, fun _ => rfl, fun _ h => h.command fun _ h => h.refForceStateBody⟩
  | chanConfig => exact ⟨_, fun _ => rfl, fun _ h => h.command fun _ h => h.chanConfigBody⟩
  | chanSelect => exact ⟨_, fun _ => rfl, fun _ h => h.command fun _ h => h.chanSelectBody⟩
  | chanMode => exact ⟨_, fun _ => rfl, fun _ h => h.command fun _ h => h.chanModeBody⟩
  | chanHoldoverModel => exact ⟨_, fun _ => rfl, fun _ h => h.command fun _ h => h.holdoverModelBody⟩
  | outConfig => exact ⟨_, fun _ => rfl, fun _ h => h.command fun _ h => h.outConfigBody⟩
  | outEnable => exact ⟨_, fun _ => rfl, fun _ h => h.command fun _ h => h.outEnableBody⟩
  | lanternConfig => exact ⟨_, fun _ => rfl, fun _ h => h.command fun _ h => h.lanternConfigBody⟩
  | voutConfig => exact ⟨_, fun _ => rfl, fun _ h => h.command fun _ h => h.voutConfigBody⟩
  | tsSet => exact ⟨_, fun _ => rfl, fun _ h => h.command fun _ h => h.tsSetBody⟩
  | tsStepSchedule => exact ⟨_, fun _ => rfl, fun _ h => h.command fun _ h => h.tsStepBody⟩
  | tsLeapSchedule => exact ⟨_, fun _ => rfl, fun _ h => h.command fun _ h => h.tsLeapBody⟩
  | portConfig => exact ⟨_, fun _ => rfl, fun _ h => h.command fun _ h => h.portConfigBody⟩
  | ptpInstanceConfig => exact ⟨_, fun _ => rfl, fun _ h => h.command fun _ h => h.ptpConfigBody⟩
  | clientTableAttach => exact ⟨_, fun _ => rfl, fun _ h => h.command fun _ h => h.tableAttachBody⟩
  | clientUpdate => exact ⟨_, fun _ => rfl, fun _ h => h.command fun _ h => h.clientUpdateBody⟩
  | packetSend => exact ⟨_, fun _ => rfl, fun _ h => h.command fun _ h => h.packetSendBody⟩
  | tlConfig => exact ⟨_, fun _ => rfl, fun _ h => h.command fun _ h => h.tlConfigBody⟩
  | tlElect => exact ⟨_, fun _ => rfl, fun _ h => h.command fun _ h => h.tlElectBody⟩
  | nvWrite => exact ⟨_, fun _ => rfl, fun _ h => h.command fun _ h => h.nvWriteBody⟩
  | nvRead => exact ⟨_, fun _ => rfl, fun _ h => h.command fun _ h => h.nvReadBody⟩
  | nvCommit => exact ⟨_, fun _ => rfl, fun _ h => h.command fun _ h => h.nvCommitBody⟩
  | nvRawPage => exact ⟨_, fun _ => rfl, fun _ h => h.command fun _ h => h.nvRawBody⟩
  | nvTallyAdd => exact ⟨_, fun _ => rfl, fun _ h => h.command fun _ h => h.nvTallyBody⟩
  | fwChunk => exact ⟨_, fun _ => rfl, fun _ h => h.command fun _ h => h.fwChunkBody⟩
  | fwActivate => exact ⟨_, fun _ => rfl, fun _ h => h.command fun _ h => h.fwActivateBody⟩
  | pwrOpp => exact ⟨_, fun _ => rfl, fun _ h => h.command fun _ h => h.pwrOppBody⟩
  | anchorEnter => exact ⟨_, fun _ => rfl, fun _ h => h.command fun _ h => h.anchorEnterBody⟩
  | faultConfig => exact ⟨_, fun _ => rfl, fun _ h => h.command fun _ h => h.faultConfigBody⟩
  | supplyFail => exact ⟨_, fun _ => rfl, fun _ h => h.supplyFail⟩
  | resetNAssert => exact ⟨_, fun _ => rfl, fun _ h => h.resetN⟩
  | beaconLoss => exact ⟨_, fun _ => rfl, fun _ h => h.beaconLoss⟩
  | holdRelease => exact ⟨_, fun _ => rfl, fun _ h => h.holdRelease⟩
  | otpReadDone => exact ⟨_, fun _ => rfl, fun _ h => h.otpReadDone⟩
  | chartScanDone => exact ⟨_, fun _ => rfl, fun _ h => h.chartScanDone⟩
  | imageCheckDone => exact ⟨_, fun _ => rfl, fun _ h => h.imageCheckDone⟩
  | xoWindowEnd => exact ⟨_, fun _ => rfl, fun _ h => h.xoWindowEnd⟩
  | xoAbsentTimeout => exact ⟨_, fun _ => rfl, fun _ h => h.xoAbsentTimeout⟩
  | xoFail => exact ⟨_, fun _ => rfl, fun _ h => h.xoFail⟩
  | cpllLock => exact ⟨_, fun _ => rfl, fun _ h => h.cpllLock⟩
  | clkSrcSelWrite => exact ⟨_, fun _ => rfl, fun _ h => h.guardedWrite⟩
  | clockSwitchDone => exact ⟨_, fun _ => rfl, fun _ h => h.clockSwitchDone⟩
  | forcedSwitch => exact ⟨_, fun _ => rfl, fun _ h => h.forcedSwitch⟩
  | clkmonCfgWrite => exact ⟨_, fun _ => rfl, fun _ h => h.regWrite⟩
  | avsAck => exact ⟨_, fun _ => rfl, fun _ h => h.avsAck⟩
  | avsSettleExpiry => exact ⟨_, fun _ => rfl, fun _ h => h.avsSettle⟩
  | avsTimeout => exact ⟨_, fun _ => rfl, fun _ h => h.avsTimeout⟩
  | thermalSample => exact ⟨_, fun _ => rfl, fun _ h => h.thermalSample⟩
  | throttleDrop => exact ⟨_, fun _ => rfl, fun _ h => h.throttleDrop⟩
  | throttleRise => exact ⟨_, fun _ => rfl, fun _ h => h.throttleRise⟩
  | sensorSample => exact ⟨_, fun _ => rfl, fun _ h => h.sensorSample⟩
  | pwrfailTrigger => exact ⟨_, fun _ => rfl, fun _ h => h.pwrfailTrigger⟩
  | commitDone => exact ⟨_, fun _ => rfl, fun _ h => h.commitDone⟩
  | pfResumeExpiry => exact ⟨_, fun _ => rfl, fun _ h => h.pfResume⟩
  | pfResumed => exact ⟨_, fun _ => rfl, fun _ h => h.pfResumed⟩
  | anchorSnapshot => exact ⟨_, fun _ => rfl, fun _ h => h.anchorSnapshot⟩
  | anchorAutoEntry => exact ⟨_, fun _ => rfl, fun _ h => h.anchorAuto⟩
  | anchorTempLog => exact ⟨_, fun _ => rfl, fun _ h => h.anchorTempLog⟩
  | anchorXoStop => exact ⟨_, fun _ => rfl, fun _ h => h.anchorXoStop⟩
  | anchorWake => exact ⟨_, fun _ => rfl, fun _ h => h.anchorWake⟩
  | timeRestore => exact ⟨_, fun _ => rfl, fun _ h => h.timeRestore⟩
  | anchorRelease => exact ⟨_, fun _ => rfl, fun _ h => h.regWrite⟩
  | commitTimerExpiry => exact ⟨_, fun _ => rfl, fun _ h => h.commitTimer⟩
  | nvWaitTimeout => exact ⟨_, fun _ => rfl, fun _ h => h.nvWaitTimeout⟩
  | reclaimStart => exact ⟨_, fun _ => rfl, fun _ h => h.reclaimStart⟩
  | eraseDone => exact ⟨_, fun _ => rfl, fun _ h => h.eraseDone⟩
  | eraseTokenGain => exact ⟨_, fun _ => rfl, fun _ h => h.eraseToken⟩
  | scrub => exact ⟨_, fun _ => rfl, fun _ h => h.scrubLine⟩
  | chartRawErase => exact ⟨_, fun _ => rfl, fun _ h => h.guardedWrite⟩
  | faultOccurrence => exact ⟨_, fun _ => rfl, fun _ h => h.faultOccurrence⟩
  | deviceReset => exact ⟨_, fun _ => rfl, fun _ h => h.deviceReset⟩
  | blockReadyReturn => exact ⟨_, fun _ => rfl, fun _ h => h.blockBack⟩
  | leakExpiry => exact ⟨_, fun _ => rfl, fun _ h => h.leakExpiry⟩
  | alarmPulseEnd => exact ⟨_, fun _ => rfl, fun _ h => h.alarmPulseEnd⟩
  | blankingEnd => exact ⟨_, fun _ => rfl, fun _ h => h.blankingEnd⟩
  | safeClear => exact ⟨_, fun _ => rfl, fun _ h => h.guardedWrite⟩
  | faultForce => exact ⟨_, fun _ => rfl, fun _ h => h.guardedWrite⟩
  | faultRaise => exact ⟨_, fun _ => rfl, fun _ h => h.regWrite⟩
  | keeperCqDb => exact ⟨_, fun _ => rfl, fun _ h => h.regWrite⟩
  | keeperEvqCi => exact ⟨_, fun _ => rfl, fun _ h => h.regWrite⟩
  | keeperAnqCi => exact ⟨_, fun _ => rfl, fun _ h => h.regWrite⟩
  | keeperFlqCi => exact ⟨_, fun _ => rfl, fun _ h => h.regWrite⟩
  | keeperLogbook => exact ⟨_, fun _ => rfl, fun _ h => h.regWrite⟩
  | enroll => exact ⟨_, fun _ => rfl, fun _ h => h.guardedWrite⟩
  | revoke => exact ⟨_, fun _ => rfl, fun _ h => h.guardedWrite⟩
  | lockUp => exact ⟨_, fun _ => rfl, fun _ h => h.guardedWrite⟩
  | otpProgramDone => exact ⟨_, fun _ => rfl, fun _ h => h.otpDone⟩
  | debugChallengeRead => exact ⟨_, fun _ => rfl, fun _ h => h.debugChallenge⟩
  | debugUnlock => exact ⟨_, fun _ => rfl, fun _ h => h.debugUnlock⟩
  | trialTimeout => exact ⟨_, fun _ => rfl, fun _ h => h.trialEnd⟩
  | registerRead i r off be =>
    cases r with
    | word => exact ⟨_, fun _ => rfl, fun _ h => h.regRead⟩
    | wide => exact ⟨_, fun _ => rfl, fun _ h => h.onlyIf fun _ h => h.wideRead⟩
    | bar2 => exact ⟨_, fun _ => rfl, fun _ h => h.bar2Read⟩
    | bar4 => exact ⟨_, fun _ => rfl, fun _ h => h.onlyIf fun _ h => h.respond⟩
  | bpllLock => exact ⟨_, fun _ => rfl, fun _ h => h.bpllLock⟩
  | cpllUnlock => exact ⟨_, fun _ => rfl, fun _ h => h.cpllUnlock⟩
  | pcieLinkUp => exact ⟨_, fun _ => rfl, fun _ h => h.pcieLinkUp⟩
  | codeGroupSyncLoss => exact ⟨_, fun _ => rfl, fun _ h => h.codeGroupLoss⟩
  | clientGrantExpiry => exact ⟨_, fun _ => rfl, fun _ h => h.clientExpiry⟩
  | vbakLoss => exact ⟨_, fun _ => rfl, fun _ h => h.vbakLoss⟩

/-- Such an access runs its operation within BAR4. -/
theorem exec_spiMemory (c : Instr) (hc : spiMemory c = true) : ∃ f a n, (∀ s, exec c s = inMemory a n (run f s)) ∧ Keeps f := by
  unfold spiMemory at hc
  split at hc
  · exact ⟨_, _, _, fun _ => rfl, fun _ h => h.respond⟩
  · exact ⟨_, _, _, fun _ => rfl, fun _ h => h.bar4Write.respond⟩
  · exact ⟨_, _, _, fun _ => rfl, fun _ h => h.spiEnd⟩
  · exact ⟨_, _, _, fun _ => rfl, fun _ h => h.spiEnd⟩
  · contradiction

theorem inMemory_next {a n : Nat} {o : Host.Outcome State Fault Refusal} {t : State} (h : inMemory a n o = .next t) : o = .next t := by
  unfold inMemory at h
  split at h
  · exact h
  · contradiction

/-- A command that answers a next state changes the device alone, by an operation that keeps the canonical form. -/
theorem exec_next {c : Instr} {s t : State} (h : exec c s = .next t) : ∃ f, t = { s with dev := f s.dev } ∧ Keeps f := by
  cases hc : spiMemory c with
  | false =>
    obtain ⟨f, hf, hk⟩ := exec_runs c hc
    rw [hf s] at h
    exact ⟨f, (Host.Outcome.next.inj h).symm, hk⟩
  | true =>
    obtain ⟨f, a, n, hf, hk⟩ := exec_spiMemory c hc
    rw [hf s] at h
    exact ⟨f, (Host.Outcome.next.inj (inMemory_next h)).symm, hk⟩

/-- A step takes at most the front command, and its device changes by an operation that keeps the canonical form. -/
theorem step_next {s t : State} (h : step s = .next t) : t.pending = s.pending.tail ∧ ∃ f, t.dev = f s.dev ∧ Keeps f := by
  unfold step at h
  split at h
  · rename_i hp
    obtain ⟨f, rfl, hk⟩ := exec_next h
    exact ⟨by rw [hp]; rfl, f, rfl, hk⟩
  · rename_i hp
    cases h
    exact ⟨by rw [hp]; rfl, idleDev, rfl, fun _ h => h.idleDev⟩

/-- Settles O2: every command but the accesses of SPI to BAR4 runs an operation of the device, and so keeps the queue. -/
theorem commandsProceed : Obligations.CommandsProceed := by
  unfold Obligations.CommandsProceed
  refine ⟨fun c s hr hw ht he => ?_, fun s t h => (step_next h).1⟩
  have hc : spiMemory c = false := by
    unfold spiMemory
    split
    · exact absurd rfl (hr _ _)
    · exact absurd rfl (hw _ _)
    · exact absurd rfl (ht _)
    · exact absurd rfl (he _)
    · rfl
  obtain ⟨f, hf, -⟩ := exec_runs c hc
  exact ⟨_, hf s, rfl⟩

/-- Settles O3: a step changes the device by an operation that keeps the canonical form, and the queue only loses its front. -/
theorem stepKeepsMemoryCanonical : Obligations.StepKeepsMemoryCanonical := by
  unfold Obligations.StepKeepsMemoryCanonical
  intro s t hwf hstep
  obtain ⟨hpend, f, hdev, hk⟩ := step_next hstep
  rw [State.wf, Bool.and_eq_true, List.all_eq_true] at hwf ⊢
  obtain ⟨hmem, hall⟩ := hwf
  refine ⟨?_, fun c hc => hall c ?_⟩
  · rw [hdev]
    exact hk s.dev hmem
  · exact List.mem_of_mem_tail (hpend ▸ hc)

end Sys2Proof.Machine
end

section
/-! The block as a whole: its step, its state after reset and its idle step. -/

namespace Sys2Proof.Machine

set_option Elab.async false

/-- Settles O1: the two clauses are the two branches of `step`. -/
theorem stepRunsFrontCommand : Obligations.StepRunsFrontCommand := by
  refine ⟨fun c rest s h => ?_, fun s h => ?_⟩
  · simp only [step, h]
  · simp only [step, h]

/-- Settles O4: every field is read off the reset state; each family of objects is one value repeated. -/
theorem resetState : Obligations.ResetState := by
  refine ⟨⟨rfl, rfl⟩, rfl, rfl, rfl, rfl, rfl, rfl, rfl, rfl, ?_, ?_, ?_, ?_, ?_, ?_, ?_, ?_, fun a => rfl⟩
  · exact fun c => congrArg Chan.st (Vector.get_replicate 16 Chan.reset c)
  · exact fun l => congrArg Lan.st (Vector.get_replicate 8 Lan.reset l)
  · exact fun m => congrArg Out.pin (Vector.get_replicate 48 Out.reset m)
  · exact fun k => congrArg Vout.pin (Vector.get_replicate 8 Vout.reset k)
  · exact fun p => congrArg Port.st (Vector.get_replicate 8 Port.reset p)
  · exact fun l => congrArg Link.st (Vector.get_replicate 5 Link.reset l)
  · exact fun n => congrArg TimeScale.st (Vector.get_replicate 4 TimeScale.reset n)
  · exact fun n => congrArg (fun b : Buoy => b.act.st) (Vector.get_replicate 64 Buoy.reset n)

/-- Settles O5: with nothing waiting for the Watch the idle step is `tick`, which moves the two clocks and, at most, the count of
running hours. -/
theorem idleLetsTimePass : Obligations.IdleLetsTimePass := by
  intro s hp hr
  refine ⟨{ s with dev := tick s.dev }, ?_, hp, ?_⟩
  · simp only [step, hp, idle, run_next, idleDev, hr, List.isEmpty_nil, if_true]
  · simp only [tick]
    split
    · exact ⟨rfl, rfl, rfl, rfl⟩
    · exact ⟨rfl, rfl, rfl, rfl⟩

end Sys2Proof.Machine
end

section
/-! What an operation leaves alone: its frame. A scope names the parts of the device that may change, the registers that may, and
whether the rings may change beyond entries of the event ring and the log ring; `Within S d d'` says that nothing else differs. Each
operation keeps within every scope that names what it touches, so the frame of a chain of operations is the chain of their lemmas. -/

namespace Sys2Proof.Machine

set_option Elab.async false

@[simp] theorem get_set_same {α : Type} {n : Nat} (v : Vector α n) (i : Fin n) (x : α) : (v.set i x).get i = x := by
  simp [Vector.get_eq_getElem]

theorem get_set_ne {α : Type} {n : Nat} (v : Vector α n) {i j : Fin n} (x : α) (h : j ≠ i) : (v.set i x).get j = v.get j := by
  have h : i.val ≠ j.val := fun e => h (Fin.ext e.symm)
  simp [Vector.get_eq_getElem, h]

/-! ### Parts of the device -/

/-- The fields of the device. -/
inductive Part where
  | regs | bar4 | bar4Gen | draws | top | chk | host | clk | pwr | watch | keeper | fw | otp | chart | buoys | pairs | cycle | chans
  | lans | outs | vouts | ts | ports | txts | clients | pilot | tide
deriving DecidableEq

/-- A part of the device is the same. -/
def Dev.Same : Part → Dev → Dev → Prop
  | .regs, d, d' => d'.regs = d.regs
  | .bar4, d, d' => d'.bar4 = d.bar4
  | .bar4Gen, d, d' => d'.bar4Gen = d.bar4Gen
  | .draws, d, d' => d'.draws = d.draws
  | .top, d, d' => d'.top = d.top
  | .chk, d, d' => d'.chk = d.chk
  | .host, d, d' => d'.host = d.host
  | .clk, d, d' => d'.clk = d.clk
  | .pwr, d, d' => d'.pwr = d.pwr
  | .watch, d, d' => d'.watch = d.watch
  | .keeper, d, d' => d'.keeper = d.keeper
  | .fw, d, d' => d'.fw = d.fw
  | .otp, d, d' => d'.otp = d.otp
  | .chart, d, d' => d'.chart = d.chart
  | .buoys, d, d' => d'.buoys = d.buoys
  | .pairs, d, d' => d'.pairs = d.pairs
  | .cycle, d, d' => d'.cycle = d.cycle
  | .chans, d, d' => d'.chans = d.chans
  | .lans, d, d' => d'.lans = d.lans
  | .outs, d, d' => d'.outs = d.outs
  | .vouts, d, d' => d'.vouts = d.vouts
  | .ts, d, d' => d'.ts = d.ts
  | .ports, d, d' => d'.ports = d.ports
  | .txts, d, d' => d'.txts = d.txts
  | .clients, d, d' => d'.clients = d.clients
  | .pilot, d, d' => d'.pilot = d.pilot
  | .tide, d, d' => d'.tide = d.tide

theorem Dev.Same.rfl {p : Part} {d : Dev} : Dev.Same p d d := by cases p <;> exact Eq.refl _

theorem Dev.Same.trans {p : Part} {d d₁ d₂ : Dev} (h₁ : Dev.Same p d d₁) (h₂ : Dev.Same p d₁ d₂) : Dev.Same p d d₂ := by
  cases p <;> exact Eq.trans h₂ h₁

/-- `d` with the parts of `l` taken from `d'`. -/
def Dev.mix (l : List Part) (d d' : Dev) : Dev :=
  { regs := bif l.elem .regs then d'.regs else d.regs
    bar4 := bif l.elem .bar4 then d'.bar4 else d.bar4
    bar4Gen := bif l.elem .bar4Gen then d'.bar4Gen else d.bar4Gen
    draws := bif l.elem .draws then d'.draws else d.draws
    top := bif l.elem .top then d'.top else d.top
    chk := bif l.elem .chk then d'.chk else d.chk
    host := bif l.elem .host then d'.host else d.host
    clk := bif l.elem .clk then d'.clk else d.clk
    pwr := bif l.elem .pwr then d'.pwr else d.pwr
    watch := bif l.elem .watch then d'.watch else d.watch
    keeper := bif l.elem .keeper then d'.keeper else d.keeper
    fw := bif l.elem .fw then d'.fw else d.fw
    otp := bif l.elem .otp then d'.otp else d.otp
    chart := bif l.elem .chart then d'.chart else d.chart
    buoys := bif l.elem .buoys then d'.buoys else d.buoys
    pairs := bif l.elem .pairs then d'.pairs else d.pairs
    cycle := bif l.elem .cycle then d'.cycle else d.cycle
    chans := bif l.elem .chans then d'.chans else d.chans
    lans := bif l.elem .lans then d'.lans else d.lans
    outs := bif l.elem .outs then d'.outs else d.outs
    vouts := bif l.elem .vouts then d'.vouts else d.vouts
    ts := bif l.elem .ts then d'.ts else d.ts
    ports := bif l.elem .ports then d'.ports else d.ports
    txts := bif l.elem .txts then d'.txts else d.txts
    clients := bif l.elem .clients then d'.clients else d.clients
    pilot := bif l.elem .pilot then d'.pilot else d.pilot
    tide := bif l.elem .tide then d'.tide else d.tide }

theorem cond_eq_of_same {α : Type} {b : Bool} {x y : α} (h : b = false → x = y) : x = bif b then x else y := by
  cases b
  · exact h rfl
  · rfl

theorem Dev.eq_mix {l : List Part} {d d' : Dev} (h : ∀ p, l.elem p = false → Dev.Same p d d') : d' = d.mix l d' := by
  cases d'
  simp only [Dev.mix, Dev.mk.injEq]
  exact ⟨cond_eq_of_same (h .regs), cond_eq_of_same (h .bar4), cond_eq_of_same (h .bar4Gen), cond_eq_of_same (h .draws),
    cond_eq_of_same (h .top), cond_eq_of_same (h .chk), cond_eq_of_same (h .host), cond_eq_of_same (h .clk),
    cond_eq_of_same (h .pwr), cond_eq_of_same (h .watch), cond_eq_of_same (h .keeper), cond_eq_of_same (h .fw),
    cond_eq_of_same (h .otp), cond_eq_of_same (h .chart), cond_eq_of_same (h .buoys), cond_eq_of_same (h .pairs),
    cond_eq_of_same (h .cycle), cond_eq_of_same (h .chans), cond_eq_of_same (h .lans), cond_eq_of_same (h .outs),
    cond_eq_of_same (h .vouts), cond_eq_of_same (h .ts), cond_eq_of_same (h .ports), cond_eq_of_same (h .txts),
    cond_eq_of_same (h .clients), cond_eq_of_same (h .pilot), cond_eq_of_same (h .tide)⟩

/-! ### Entries of the event ring and the log ring -/

/-- The words that say where the entries of the event ring and the log ring lie. -/
def CfgWord (a : Nat) : Prop := ∃ r, (r = 8 ∨ r = 9) ∧ (a = ringOff r ∨ a = ringOff r + 4 ∨ a = ringOff r + 8)

theorem not_cfgWord_of_eventWord {a : Nat} (h : EventWord a) : ¬ CfgWord a := by
  rintro ⟨r, rfl | rfl, hr⟩ <;> simp only [EventWord, ringOff] at h hr <;> omega

/-- Of the rings, BAR4, the host interface and the Keeper, only what entries of the event ring and the log ring change. -/
structure IoStep (d d' : Dev) : Prop where
  bar4 : KeepsBar4 [8, 9] d d'
  cfg : ∀ a, CfgWord a → d'.rd a = d.rd a
  idx : ∀ r : Fin 26, r = 8 ∨ r = 9 → (d'.ring r).devIdx = (d.ring r).devIdx ∨ (d'.ring r).devIdx < d.ringSize r
  rings : ∀ r : Fin 26, r ≠ 8 → r ≠ 9 → d'.ring r = d.ring r
  host : d'.host = { d.host with rings := d'.host.rings, pending := d'.host.pending, signals := d'.host.signals, posted := d'.host.posted, stalled := d'.host.stalled }
  keeper : d'.keeper = { d.keeper with evq := d'.keeper.evq }

/-- The place and the size of the event ring and the log ring rest on their set-up words alone. -/
theorem ring_place_of_cfg {d d' : Dev} (h : ∀ a, CfgWord a → d'.rd a = d.rd a) {r : Fin 26} (hr : r = 8 ∨ r = 9) :
    d'.ringBar4 r = d.ringBar4 r ∧ d'.ringSize r = d.ringSize r ∧ d'.ringBase r = d.ringBase r := by
  have h0 := h (ringOff r) ⟨r.val, hr.imp (congrArg Fin.val) (congrArg Fin.val), .inl rfl⟩
  have h4 := h (ringOff r + 4) ⟨r.val, hr.imp (congrArg Fin.val) (congrArg Fin.val), .inr (.inl rfl)⟩
  have h8 := h (ringOff r + 8) ⟨r.val, hr.imp (congrArg Fin.val) (congrArg Fin.val), .inr (.inr rfl)⟩
  exact ⟨by rw [Dev.ringBar4, h8, Dev.ringBar4], by rw [Dev.ringSize, Dev.rdF, h8, Dev.ringSize, Dev.rdF],
    by rw [Dev.ringBase, h0, h4, Dev.ringBase]⟩

theorem IoStep.inRing {d d' : Dev} (h : IoStep d d') {r : Fin 26} (hr : r = 8 ∨ r = 9) {a : Nat} (ha : d'.inRing r a) : d.inRing r a := by
  obtain ⟨hb, i, hi, hlo, hhi⟩ := ha
  obtain ⟨eb, es, eo⟩ := ring_place_of_cfg h.cfg hr
  have ea : ∀ i, d'.entryAddr r i = d.entryAddr r i := fun i => by rw [Dev.entryAddr, eo, Dev.entryAddr]
  rw [ea] at hlo hhi
  refine ⟨eb ▸ hb, i, ?_, hlo, hhi⟩
  rw [es] at hi
  rcases hi with rfl | hi
  · exact (h.idx r hr).imp id id
  · exact .inr hi

theorem IoStep.refl (d : Dev) : IoStep d d :=
  ⟨fun _ _ => rfl, fun _ _ => rfl, fun _ _ => .inl rfl, fun _ _ _ => rfl, rfl, rfl⟩

theorem IoStep.trans {d d₁ d₂ : Dev} (h₁ : IoStep d d₁) (h₂ : IoStep d₁ d₂) : IoStep d d₂ where
  bar4 a ha := by
    refine (h₂.bar4 a fun r hr hin => ha r hr (h₁.inRing ?_ hin)).trans (h₁.bar4 a ha)
    simpa using hr
  cfg a ha := (h₂.cfg a ha).trans (h₁.cfg a ha)
  idx r hr := by
    have hs := (ring_place_of_cfg h₁.cfg hr).2.1
    have h1 := h₁.idx r hr
    have h2 := h₂.idx r hr
    omega
  rings r h8 h9 := (h₂.rings r h8 h9).trans (h₁.rings r h8 h9)
  host := by
    have h := h₂.host
    rw [h₁.host] at h
    exact h
  keeper := by
    have h := h₂.keeper
    rw [h₁.keeper] at h
    exact h

/-- What rests on other parts of the device alone. -/
theorem IoStep.congr {d d₁ d₂ : Dev} (h : IoStep d d₁) (hr : d₂.regs = d₁.regs) (hb : d₂.bar4 = d₁.bar4) (hg : d₂.bar4Gen = d₁.bar4Gen)
    (hh : d₂.host = d₁.host) (hk : d₂.keeper = d₁.keeper) : IoStep d d₂ := by
  have hring : ∀ r, d₂.ring r = d₁.ring r := fun r => by rw [Dev.ring, hh, Dev.ring]
  constructor
  · intro a ha
    rw [Dev.bar4Get, hb, hg]
    exact h.bar4 a ha
  · intro a ha
    rw [rd_of_regs hr]
    exact h.cfg a ha
  · intro r hr
    rw [hring]
    exact h.idx r hr
  · intro r h8 h9
    rw [hring]
    exact h.rings r h8 h9
  · rw [hh]
    exact h.host
  · rw [hk]
    exact h.keeper

theorem IoStep.wr {off : Nat} (w : Word) (d : Dev) (h : ¬ CfgWord off) : IoStep d (d.wr off w) :=
  { IoStep.refl d with cfg := fun _ ha => rd_wr_ne w d fun e => h (e ▸ ha) }

theorem IoStep.wrWords (ws : List Word) : ∀ (off : Nat) (d : Dev), (∀ i, i < ws.length → ¬ CfgWord (off + 4 * i)) →
    IoStep d (d.wrWords off ws) := by
  induction ws with
  | nil => exact fun off d _ => .refl d
  | cons w ws ih =>
    intro off d h
    refine (IoStep.wr w d (h 0 (Nat.succ_pos _))).trans (ih _ _ fun i hi => ?_)
    have := h (i + 1) (Nat.succ_lt_succ hi)
    rwa [show off + 4 + 4 * i = off + 4 * (i + 1) by omega]

/-- A change of the event ring or the log ring that keeps its device index within the ring. -/
theorem IoStep.modRing {r : Fin 26} (hr : r = 8 ∨ r = 9) (f : Ring → Ring) (d : Dev)
    (hf : (f (d.ring r)).devIdx = (d.ring r).devIdx ∨ (f (d.ring r)).devIdx < d.ringSize r) : IoStep d (d.modRing r f) where
  bar4 _ _ := rfl
  cfg _ _ := rfl
  idx q hq := by
    by_cases e : q = r
    · subst e
      exact (congrArg (fun g : Ring => g.devIdx = _ ∨ g.devIdx < _) (get_set_same d.host.rings q _)).mpr hf
    · exact .inl (congrArg Ring.devIdx (get_set_ne d.host.rings _ e))
  rings q h8 h9 := by
    refine get_set_ne d.host.rings _ ?_
    rintro rfl
    exact hr.elim h8 h9
  host := rfl
  keeper := rfl

/-- What leaves over PCIe: messages, and writes to host memory. -/
theorem IoStep.modHost (f : HostIf → HostIf) (d : Dev) (hr : (f d.host).rings = d.host.rings)
    (hf : f d.host = { d.host with rings := (f d.host).rings, pending := (f d.host).pending, signals := (f d.host).signals,
                                   posted := (f d.host).posted, stalled := (f d.host).stalled }) : IoStep d (d.modHost f) :=
  have h : ∀ r, (d.modHost f).ring r = d.ring r := fun r => congrArg (fun v : Vector Ring 26 => v.get r) hr
  ⟨fun _ _ => rfl, fun _ _ => rfl, fun r _ => .inl (congrArg Ring.devIdx (h r)), fun r _ _ => h r, hf, rfl⟩

theorem IoStep.vectorSignal (v : Nat) (d : Dev) : IoStep d (d.vectorSignal v) := by
  unfold Dev.vectorSignal
  split
  · exact .modHost _ d rfl rfl
  · exact .modHost _ d rfl rfl

theorem IoStep.signal {r : Fin 26} (hr : r = 8 ∨ r = 9) (d : Dev) : IoStep d (d.signal r) :=
  (IoStep.vectorSignal _ d).trans (.modRing hr _ _ (.inl rfl))

theorem IoStep.notice {r : Fin 26} (hr : r = 8 ∨ r = 9) (was new : Bool) (d : Dev) : IoStep d (d.notice r was new) := by
  unfold Dev.notice
  split
  · exact .modRing hr _ d (.inl rfl)
  split
  · exact .signal hr d
  split
  · exact .refl d
  cases (d.ring r).signalled with
  | none => exact .signal hr d
  | some t =>
    dsimp only
    split
    · exact .signal hr d
    · exact .modRing hr _ d (.inl rfl)

theorem bar4Put_host (a : Nat) (b : Byte) (d : Dev) : (d.bar4Put a b).host = d.host := by
  unfold Dev.bar4Put
  split <;> rfl

theorem bar4Put_keeper (a : Nat) (b : Byte) (d : Dev) : (d.bar4Put a b).keeper = d.keeper := by
  unfold Dev.bar4Put
  split <;> rfl

theorem bar4Write_host (bs : List Byte) : ∀ (a : Nat) (d : Dev), (d.bar4Write a bs).host = d.host := by
  induction bs with
  | nil => exact fun _ _ => rfl
  | cons b bs ih => exact fun a d => (ih _ _).trans (bar4Put_host a b d)

theorem bar4Write_keeper (bs : List Byte) : ∀ (a : Nat) (d : Dev), (d.bar4Write a bs).keeper = d.keeper := by
  induction bs with
  | nil => exact fun _ _ => rfl
  | cons b bs ih => exact fun a d => (ih _ _).trans (bar4Put_keeper a b d)

theorem memWrite_rings (b : Bool) (a : Nat) (bs : List Byte) (d : Dev) : (d.memWrite b a bs).host.rings = d.host.rings := by
  cases b with
  | false =>
    show (d.post a bs).host.rings = d.host.rings
    unfold Dev.post
    split <;> rfl
  | true => exact congrArg HostIf.rings (bar4Write_host bs a d)

@[simp] theorem memWrite_ring (b : Bool) (a : Nat) (bs : List Byte) (d : Dev) (r : Fin 26) : (d.memWrite b a bs).ring r = d.ring r := by
  rw [Dev.ring, memWrite_rings, Dev.ring]

/-- Bytes of the entry at the device index of the event ring or the log ring. -/
theorem IoStep.memWrite {r : Fin 26} (hr : r = 8 ∨ r = 9) {b : Bool} {a : Nat} {bs : List Byte} (d : Dev) (hb : b = d.ringBar4 r)
    (h0 : d.entryAddr r (d.ring r).devIdx ≤ a) (h1 : a + bs.length ≤ d.entryAddr r (d.ring r).devIdx + entrySize r) :
    IoStep d (d.memWrite b a bs) := by
  cases b with
  | false =>
    show IoStep d (d.post a bs)
    unfold Dev.post
    split
    · exact .modHost _ d rfl rfl
    · exact .modHost _ d rfl rfl
  | true =>
    have hring : ∀ q, (d.bar4Write a bs).ring q = d.ring q := memWrite_ring true a bs d
    show IoStep d (d.bar4Write a bs)
    refine ⟨fun x hx => bar4Get_write_out bs a x d ?_, fun x _ => rd_of_regs (bar4Write_regs bs a d) x,
      fun q _ => .inl (congrArg Ring.devIdx (hring q)), fun q _ _ => hring q, ?_, ?_⟩
    · by_contra hn
      refine hx r (by rcases hr with rfl | rfl <;> simp) ⟨hb.symm, _, .inl rfl, ?_, ?_⟩ <;> omega
    · rw [bar4Write_host]
    · rw [bar4Write_keeper]

theorem withPhase_length (p : Bool) (e : List Byte) : (withPhase p e).length = e.length := by
  cases p <;> simp [withPhase]

theorem IoStep.ringStore {r : Fin 26} (hr : r = 8 ∨ r = 9) {e : List Byte} (d : Dev) (he : e.length ≤ 32) : IoStep d (d.ringStore r e) := by
  have hsize : entrySize r = 32 := by rcases hr with rfl | rfl <;> rfl
  have hregs := memWrite_regs (d.ringBar4 r) (d.entryAddr r (d.ring r).devIdx + 4) ((withPhase (d.ring r).phase e).drop 4) d
  have h1 : IoStep d (d.memWrite (d.ringBar4 r) (d.entryAddr r (d.ring r).devIdx + 4) ((withPhase (d.ring r).phase e).drop 4)) := by
    refine .memWrite hr d rfl (Nat.le_add_right _ _) ?_
    rw [List.length_drop, withPhase_length]
    omega
  have hring := memWrite_ring (d.ringBar4 r) (d.entryAddr r (d.ring r).devIdx + 4) ((withPhase (d.ring r).phase e).drop 4) d r
  obtain ⟨hb, hs, ho⟩ := ring_place_of_cfg h1.cfg hr
  unfold Dev.ringStore
  extract_lets g a e' d1 i
  have h2 : IoStep d d1 := by
    refine h1.trans (.memWrite hr _ hb.symm ?_ ?_)
    · rw [Dev.entryAddr, ho, hring]
      exact Nat.le_refl _
    · rw [Dev.entryAddr, ho, hring, List.length_take, withPhase_length]
      show d.entryAddr r (d.ring r).devIdx + _ ≤ d.entryAddr r (d.ring r).devIdx + _
      omega
  exact h2.trans (.modRing hr _ _ (.inr (Nat.mod_lt _ (Nat.two_pow_pos _))))

theorem IoStep.ringPut {r : Fin 26} (hr : r = 8 ∨ r = 9) {e : List Byte} (d : Dev) (he : e.length ≤ 32) : IoStep d (d.ringPut r e) :=
  (IoStep.ringStore hr d he).trans (.notice hr _ _ _)

theorem IoStep.ringEntry {r : Fin 26} (hr : r = 8 ∨ r = 9) {mk : Word → List Byte} (d : Dev) (he : ∀ w, (mk w).length ≤ 32) :
    IoStep d (d.ringEntry r mk) := by
  unfold Dev.ringEntry
  extract_lets e
  split
  · exact (IoStep.modRing hr _ d (.inl rfl)).trans (.ringPut hr _ (he _))
  · refine (IoStep.modRing hr _ d (.inl rfl)).trans (.wr _ _ (not_cfgWord_of_eventWord ?_))
    rcases hr with rfl | rfl
    · exact .inl rfl
    · exact .inr (.inl rfl)

theorem length_leBytes (n : Nat) : ∀ v, (leBytes n v).length = n := by
  induction n with
  | zero => exact fun _ => rfl
  | succ n ih => exact fun v => congrArg (· + 1) (ih _)

theorem length_entryBytes (kind obj blk : Nat) (keeper : Bool) (s : Stamp) (data : List Byte) (seq : Word) :
    (entryBytes kind obj blk keeper s data seq).length = 32 := by
  simp only [entryBytes, wordBytes, tripleBytes, List.length_append, List.length_cons, List.length_nil, length_leBytes,
    List.length_take, List.length_replicate]
  omega

theorem IoStep.keeperEvent (e : List Byte) (d : Dev) : IoStep d (d.keeperEvent e) := by
  unfold Dev.keeperEvent
  extract_lets q
  split
  · refine (IoStep.wrWords _ _ d fun i _ => not_cfgWord_of_eventWord ?_).trans ⟨fun _ _ => rfl, fun _ _ => rfl, fun _ _ => .inl rfl,
      fun _ _ _ => rfl, rfl, rfl⟩
    exact .inr (.inr (.inr (by omega)))
  · exact .wr _ d (not_cfgWord_of_eventWord (.inr (.inr (.inl rfl))))

theorem IoStep.evtEntry {mk : Word → List Byte} (d : Dev) (he : ∀ w, (mk w).length ≤ 32) : IoStep d (d.evtEntry mk) :=
  (IoStep.keeperEvent _ d).trans (.ringEntry (.inl rfl) _ he)

/-! ### The registers an entry writes -/

theorem rd_keeperEvent {a : Nat} (e : List Byte) (d : Dev) (h : ¬ EventWord a) : (d.keeperEvent e).rd a = d.rd a := by
  unfold Dev.keeperEvent
  extract_lets q
  split
  · refine rd_wrWords_out _ _ _ d fun i _ he => h (.inr (.inr (.inr ?_)))
    omega
  · exact rd_bump_ne 16 16 d fun e => h (.inr (.inr (.inl e.symm)))

theorem rd_evtEntry {a : Nat} (mk : Word → List Byte) (d : Dev) (h : ¬ EventWord a) : (d.evtEntry mk).rd a = d.rd a :=
  (rd_ringEntry mk _ fun e => h (.inl e.symm)).trans (rd_keeperEvent _ d h)

end Sys2Proof.Machine
end

section
/-! The frame of a chain of operations: one lemma per operation, for every scope that names what it touches. -/

namespace Sys2Proof.Machine

set_option Elab.async false

/-- What may change: the parts, and of the registers those of `reg` and what events write. Where `free` is false, BAR4, the rings, the
host interface and the Keeper change only by entries of the event ring and the log ring. Where `calm` is true, the Watch changes only in
its sources and by what reaches it. -/
structure Scope where
  parts : List Part
  reg : Nat → Prop
  free : Bool
  calm : Bool
  load : Bool
  safe : free = false → ∀ a, reg a → ¬ CfgWord a

/-- The scope lets part `p` change. -/
def Scope.Has (S : Scope) (p : Part) : Prop := S.parts.elem p = true

/-- The scope lets an entry of the log ring be written. -/
def Scope.Logs (S : Scope) : Prop := S.Has .regs ∧ S.Has .bar4 ∧ S.Has .host

/-- The scope lets an entry of the event ring be written, with its copy for the Keeper. -/
def Scope.Events (S : Scope) : Prop := S.Logs ∧ S.Has .keeper

/-- The Watch as it was, but for its sources and what has reached it since. -/
def WatchStep (d d' : Dev) : Prop :=
  d'.watch = { d.watch with srcs := d'.watch.srcs, reached := d'.watch.reached } ∧ ∃ l, d'.watch.reached = d.watch.reached ++ l

theorem WatchStep.of_eq {d d' : Dev} (h : d'.watch = d.watch) : WatchStep d d' := by
  rw [WatchStep, h]
  exact ⟨rfl, [], (List.append_nil _).symm⟩

theorem WatchStep.trans {d₀ d d' : Dev} (h : WatchStep d₀ d) (h' : WatchStep d d') : WatchStep d₀ d' := by
  obtain ⟨hw, l, hl⟩ := h
  obtain ⟨hw', l', hl'⟩ := h'
  refine ⟨hw'.trans ?_, l ++ l', by rw [hl', hl, List.append_assoc]⟩
  rw [hw]

/-- Nothing differs but what the scope lets change. -/
structure Within (S : Scope) (d d' : Dev) : Prop where
  same : ∀ p, S.parts.elem p = false → Dev.Same p d d'
  regs : ∀ a, ¬ S.reg a → ¬ EventWord a → d'.rd a = d.rd a
  io : S.free = false → IoStep d d'
  noted : S.calm = true → WatchStep d d'
  load : S.load = false → (d'.source 146).cond = (d.source 146).cond

variable {S : Scope} {d d₀ d' : Dev}

theorem Within.refl (S : Scope) (d : Dev) : Within S d d := ⟨fun _ _ => .rfl, fun _ _ _ => rfl, fun _ => .refl d, fun _ => .of_eq rfl, fun _ => rfl⟩

theorem Within.trans (h : Within S d₀ d) (h' : Within S d d') : Within S d₀ d' :=
  ⟨fun p hp => (h.same p hp).trans (h'.same p hp), fun a ha he => (h'.regs a ha he).trans (h.regs a ha he),
    fun hf => (h.io hf).trans (h'.io hf), fun hc => (h.noted hc).trans (h'.noted hc), fun hl => (h'.load hl).trans (h.load hl)⟩

/-- The device as the one before with the parts of the scope. -/
theorem Within.eq (h : Within S d d') : d' = d.mix S.parts d' := Dev.eq_mix h.same

theorem Within.keepsRegs (h : Within S d d') {l : List Nat} (hl : ∀ a, S.reg a → a ∈ l) : KeepsRegs l d d' :=
  fun a ha he => h.regs a (fun hr => ha (hl a hr)) he

theorem Within.eventFrame (h : Within S d d') (hf : S.free = false) {l : List Nat} (hl : ∀ a, S.reg a → a ∈ l) : EventFrame l d d' :=
  have hio := h.io hf
  ⟨h.keepsRegs hl, hio.bar4, hio.rings, hio.host, hio.keeper⟩

/-! ### A part that the scope keeps -/

theorem Within.bar4 (h : Within S d d') (hS : S.parts.elem .bar4 = false := by rfl) : d'.bar4 = d.bar4 := h.same .bar4 hS
theorem Within.bar4Gen (h : Within S d d') (hS : S.parts.elem .bar4Gen = false := by rfl) : d'.bar4Gen = d.bar4Gen := h.same .bar4Gen hS
theorem Within.draws (h : Within S d d') (hS : S.parts.elem .draws = false := by rfl) : d'.draws = d.draws := h.same .draws hS
theorem Within.top (h : Within S d d') (hS : S.parts.elem .top = false := by rfl) : d'.top = d.top := h.same .top hS
theorem Within.chk (h : Within S d d') (hS : S.parts.elem .chk = false := by rfl) : d'.chk = d.chk := h.same .chk hS
theorem Within.host (h : Within S d d') (hS : S.parts.elem .host = false := by rfl) : d'.host = d.host := h.same .host hS
theorem Within.clk (h : Within S d d') (hS : S.parts.elem .clk = false := by rfl) : d'.clk = d.clk := h.same .clk hS
theorem Within.pwr (h : Within S d d') (hS : S.parts.elem .pwr = false := by rfl) : d'.pwr = d.pwr := h.same .pwr hS
theorem Within.watch (h : Within S d d') (hS : S.parts.elem .watch = false := by rfl) : d'.watch = d.watch := h.same .watch hS
theorem Within.keeper (h : Within S d d') (hS : S.parts.elem .keeper = false := by rfl) : d'.keeper = d.keeper := h.same .keeper hS
theorem Within.fw (h : Within S d d') (hS : S.parts.elem .fw = false := by rfl) : d'.fw = d.fw := h.same .fw hS
theorem Within.otp (h : Within S d d') (hS : S.parts.elem .otp = false := by rfl) : d'.otp = d.otp := h.same .otp hS
theorem Within.chart (h : Within S d d') (hS : S.parts.elem .chart = false := by rfl) : d'.chart = d.chart := h.same .chart hS
theorem Within.buoys (h : Within S d d') (hS : S.parts.elem .buoys = false := by rfl) : d'.buoys = d.buoys := h.same .buoys hS
theorem Within.pairs (h : Within S d d') (hS : S.parts.elem .pairs = false := by rfl) : d'.pairs = d.pairs := h.same .pairs hS
theorem Within.cycle (h : Within S d d') (hS : S.parts.elem .cycle = false := by rfl) : d'.cycle = d.cycle := h.same .cycle hS
theorem Within.chans (h : Within S d d') (hS : S.parts.elem .chans = false := by rfl) : d'.chans = d.chans := h.same .chans hS
theorem Within.lans (h : Within S d d') (hS : S.parts.elem .lans = false := by rfl) : d'.lans = d.lans := h.same .lans hS
theorem Within.outs (h : Within S d d') (hS : S.parts.elem .outs = false := by rfl) : d'.outs = d.outs := h.same .outs hS
theorem Within.vouts (h : Within S d d') (hS : S.parts.elem .vouts = false := by rfl) : d'.vouts = d.vouts := h.same .vouts hS
theorem Within.ts (h : Within S d d') (hS : S.parts.elem .ts = false := by rfl) : d'.ts = d.ts := h.same .ts hS
theorem Within.ports (h : Within S d d') (hS : S.parts.elem .ports = false := by rfl) : d'.ports = d.ports := h.same .ports hS
theorem Within.txts (h : Within S d d') (hS : S.parts.elem .txts = false := by rfl) : d'.txts = d.txts := h.same .txts hS
theorem Within.clients (h : Within S d d') (hS : S.parts.elem .clients = false := by rfl) : d'.clients = d.clients := h.same .clients hS
theorem Within.pilot (h : Within S d d') (hS : S.parts.elem .pilot = false := by rfl) : d'.pilot = d.pilot := h.same .pilot hS
theorem Within.tide (h : Within S d d') (hS : S.parts.elem .tide = false := by rfl) : d'.tide = d.tide := h.same .tide hS

/-! ### Branches and loops -/

theorem Within.ite {c : Prop} [Decidable c] {a b : Dev} (ha : c → Within S d a) (hb : ¬ c → Within S d b) :
    Within S d (if c then a else b) := by
  split
  · exact ha ‹_›
  · exact hb ‹_›

theorem Within.foldl {α : Type} {f : Dev → α → Dev} (h : Within S d₀ d) (hf : ∀ a d, Within S d₀ d → Within S d₀ (f d a)) (l : List α) :
    Within S d₀ (l.foldl f d) := by
  induction l generalizing d with
  | nil => exact h
  | cons a l ih => exact ih (hf a d h)

theorem Within.forFin {n : Nat} {f : Fin n → Dev → Dev} (h : Within S d₀ d) (hf : ∀ i d, Within S d₀ d → Within S d₀ (f i d)) :
    Within S d₀ (forFin n f d) := h.foldl (fun i d => hf i d) _

theorem Within.onlyIf {b : Bool} {f : Dev → Dev} (h : Within S d₀ d) (hf : ∀ d, Within S d₀ d → Within S d₀ (f d)) :
    Within S d₀ (onlyIf b f d) := by
  unfold Machine.onlyIf
  split
  · exact hf d h
  · exact h

/-! ### Parts behind no register, ring or queue -/

/-- The part is not one of those that entries and completions write. -/
def Part.inner : Part → Bool
  | .regs | .bar4 | .bar4Gen | .host | .keeper => false
  | _ => true

theorem source_of_watch (h : d'.watch = d.watch) (n : Fin 192) : d'.source n = d.source n := congrArg (fun w : Watch => w.srcs.get n) h

/-- A change of one inner part; of the Watch, one that the scope takes. -/
theorem Within.part {q : Part} (hq : q.inner = true) (hS : S.Has q) (hs : ∀ p, p ≠ q → Dev.Same p d d')
    (hc : q = .watch → S.calm = true → WatchStep d d' := by exact fun h => absurd h (by decide))
    (hl : q = .watch → S.load = false → (d'.source 146).cond = (d.source 146).cond := by exact fun h => absurd h (by decide)) : Within S d d' := by
  have hp : ∀ p, S.parts.elem p = false → p ≠ q := fun p hp e => by rw [e, hS] at hp; exact absurd hp (by decide)
  have hio : ∀ p, p.inner = false → Dev.Same p d d' := fun p hp => hs p fun e => by rw [e, hq] at hp; exact absurd hp (by decide)
  refine ⟨fun p h => hs p (hp p h), fun a _ _ => rd_of_regs (hio .regs rfl) a,
    fun _ => (IoStep.refl d).congr (hio .regs rfl) (hio .bar4 rfl) (hio .bar4Gen rfl) (hio .host rfl) (hio .keeper rfl), fun h => ?_,
    fun h => ?_⟩
  · by_cases e : q = .watch
    · exact hc e h
    · exact .of_eq (hs .watch fun e' => e e'.symm)
  · by_cases e : q = .watch
    · exact hl e h
    · exact congrArg Source.cond (source_of_watch (hs .watch fun e' => e e'.symm) 146)

theorem Within.modBuoy (h : Within S d₀ d) {n : Fin 64} {f : Buoy → Buoy} (hS : S.Has .buoys := by trivial) : Within S d₀ (d.modBuoy n f) :=
  h.trans (.part (q := .buoys) rfl hS fun p hp => by cases p <;> first | rfl | exact absurd rfl hp)

theorem Within.modChan (h : Within S d₀ d) {n : Fin 16} {f : Chan → Chan} (hS : S.Has .chans := by trivial) : Within S d₀ (d.modChan n f) :=
  h.trans (.part (q := .chans) rfl hS fun p hp => by cases p <;> first | rfl | exact absurd rfl hp)

theorem Within.modLan (h : Within S d₀ d) {n : Fin 8} {f : Lan → Lan} (hS : S.Has .lans := by trivial) : Within S d₀ (d.modLan n f) :=
  h.trans (.part (q := .lans) rfl hS fun p hp => by cases p <;> first | rfl | exact absurd rfl hp)

theorem Within.modOut (h : Within S d₀ d) {n : Fin 48} {f : Out → Out} (hS : S.Has .outs := by trivial) : Within S d₀ (d.modOut n f) :=
  h.trans (.part (q := .outs) rfl hS fun p hp => by cases p <;> first | rfl | exact absurd rfl hp)

theorem Within.modVout (h : Within S d₀ d) {n : Fin 8} {f : Vout → Vout} (hS : S.Has .vouts := by trivial) : Within S d₀ (d.modVout n f) :=
  h.trans (.part (q := .vouts) rfl hS fun p hp => by cases p <;> first | rfl | exact absurd rfl hp)

theorem Within.modTs (h : Within S d₀ d) {n : Fin 4} {f : TimeScale → TimeScale} (hS : S.Has .ts := by trivial) : Within S d₀ (d.modTs n f) :=
  h.trans (.part (q := .ts) rfl hS fun p hp => by cases p <;> first | rfl | exact absurd rfl hp)

theorem Within.modPort (h : Within S d₀ d) {n : Fin 8} {f : Port → Port} (hS : S.Has .ports := by trivial) : Within S d₀ (d.modPort n f) :=
  h.trans (.part (q := .ports) rfl hS fun p hp => by cases p <;> first | rfl | exact absurd rfl hp)

theorem Within.modClient (h : Within S d₀ d) {n : Fin 16} {f : Client → Client} (hS : S.Has .clients := by trivial) : Within S d₀ (d.modClient n f) :=
  h.trans (.part (q := .clients) rfl hS fun p hp => by cases p <;> first | rfl | exact absurd rfl hp)

theorem Within.modLink (h : Within S d₀ d) {n : Fin 5} {f : Link → Link} (hS : S.Has .tide := by trivial) : Within S d₀ (d.modLink n f) :=
  h.trans (.part (q := .tide) rfl hS fun p hp => by cases p <;> first | rfl | exact absurd rfl hp)

theorem Within.modTide (h : Within S d₀ d) {f : Tide → Tide} (hS : S.Has .tide := by trivial) : Within S d₀ (d.modTide f) :=
  h.trans (.part (q := .tide) rfl hS fun p hp => by cases p <;> first | rfl | exact absurd rfl hp)

/-- A change of the Watch, in a scope that takes it. -/
theorem Within.watchBy (h : Within S d₀ d) {f : Watch → Watch} (hS : S.Has .watch) (hc : S.calm = true → WatchStep d (d.modWatch f))
    (hl : S.load = false → ((f d.watch).srcs.get 146).cond = (d.source 146).cond) : Within S d₀ (d.modWatch f) :=
  h.trans (.part (q := .watch) rfl hS (fun p hp => by cases p <;> first | rfl | exact absurd rfl hp) (fun _ => hc) fun _ => hl)

theorem Within.modWatch (h : Within S d₀ d) {f : Watch → Watch} (hS : S.Has .watch := by trivial) (hc : S.calm = false := by trivial)
    (hf : (f d.watch).srcs = d.watch.srcs := by rfl) : Within S d₀ (d.modWatch f) :=
  h.watchBy hS (fun e => absurd (hc.symm.trans e) (by decide)) fun _ => congrArg (fun v : Vector Source 192 => (v.get 146).cond) hf

/-- A change of a source: of the Pilot-overload source, one that the scope takes. -/
theorem Within.modSource (h : Within S d₀ d) {n : Fin 192} {f : Source → Source} (hS : S.Has .watch)
    (hl : n = 146 → S.load = false → (f (d.source n)).cond = (d.source n).cond) : Within S d₀ (d.modSource n f) := by
  refine h.watchBy hS (fun _ => ⟨rfl, [], (List.append_nil _).symm⟩) fun hS => ?_
  by_cases e : n = 146
  · subst e
    exact (congrArg Source.cond (get_set_same ..)).trans (hl rfl hS)
  · exact congrArg Source.cond (get_set_ne _ _ fun e' => e e'.symm)

theorem Within.modClk (h : Within S d₀ d) {f : Clk → Clk} (hS : S.Has .clk := by trivial) : Within S d₀ (d.modClk f) :=
  h.trans (.part (q := .clk) rfl hS fun p hp => by cases p <;> first | rfl | exact absurd rfl hp)

theorem Within.modPwr (h : Within S d₀ d) {f : Pwr → Pwr} (hS : S.Has .pwr := by trivial) : Within S d₀ (d.modPwr f) :=
  h.trans (.part (q := .pwr) rfl hS fun p hp => by cases p <;> first | rfl | exact absurd rfl hp)

theorem Within.modTop (h : Within S d₀ d) {f : Top → Top} (hS : S.Has .top := by trivial) : Within S d₀ (d.modTop f) :=
  h.trans (.part (q := .top) rfl hS fun p hp => by cases p <;> first | rfl | exact absurd rfl hp)

theorem Within.modFw (h : Within S d₀ d) {f : Fw → Fw} (hS : S.Has .fw := by trivial) : Within S d₀ (d.modFw f) :=
  h.trans (.part (q := .fw) rfl hS fun p hp => by cases p <;> first | rfl | exact absurd rfl hp)

theorem Within.modOtp (h : Within S d₀ d) {f : Otp → Otp} (hS : S.Has .otp := by trivial) : Within S d₀ (d.modOtp f) :=
  h.trans (.part (q := .otp) rfl hS fun p hp => by cases p <;> first | rfl | exact absurd rfl hp)

theorem Within.modChart (h : Within S d₀ d) {f : Chart → Chart} (hS : S.Has .chart := by trivial) : Within S d₀ (d.modChart f) :=
  h.trans (.part (q := .chart) rfl hS fun p hp => by cases p <;> first | rfl | exact absurd rfl hp)

theorem Within.modPilot (h : Within S d₀ d) {f : Pilot → Pilot} (hS : S.Has .pilot := by trivial) : Within S d₀ (d.modPilot f) :=
  h.trans (.part (q := .pilot) rfl hS fun p hp => by cases p <;> first | rfl | exact absurd rfl hp)

theorem Within.modTxts (h : Within S d₀ d) {f : Txts → Txts} (hS : S.Has .txts := by trivial) : Within S d₀ (d.modTxts f) :=
  h.trans (.part (q := .txts) rfl hS fun p hp => by cases p <;> first | rfl | exact absurd rfl hp)

theorem Within.modChk (h : Within S d₀ d) {f : Chk → Chk} (hS : S.Has .chk := by trivial) : Within S d₀ (d.modChk f) :=
  h.trans (.part (q := .chk) rfl hS fun p hp => by cases p <;> first | rfl | exact absurd rfl hp)

theorem Within.draw (h : Within S d₀ d) (hS : S.Has .draws := by trivial) : Within S d₀ d.draw.2 :=
  h.trans (.part (q := .draws) rfl hS fun p hp => by cases p <;> first | rfl | exact absurd rfl hp)

theorem Within.reach (h : Within S d₀ d) {o : Occ} {b : Bool} (hS : S.Has .watch := by trivial) : Within S d₀ (d.reach o b) :=
  h.watchBy hS (fun _ => ⟨rfl, _, rfl⟩) fun _ => rfl

theorem Within.occur (h : Within S d₀ d) {src : Fin 192} {obj : Nat} (hS : S.Has .watch := by trivial) : Within S d₀ (d.occur src obj) :=
  h.reach

theorem Within.setCond (h : Within S d₀ d) {src : Fin 192} {obj : Nat} {c : Bool} (hS : S.Has .watch := by trivial)
    (hl : src ≠ 146 ∨ S.load = true := by first | exact .inl (by decide) | exact .inr (by trivial)) : Within S d₀ (d.setCond src obj c) :=
  have hn (e : src = 146) (hf : S.load = false) : False := hl.elim (fun hne => hne e) fun ht => absurd (ht.symm.trans hf) (by decide)
  .ite (fun _ => h) fun _ => .ite (fun _ => (h.modSource hS fun e hf => (hn e hf).elim).occur) fun _ => h.modSource hS fun e hf => (hn e hf).elim

/-! ### Registers -/

/-- A device with other registers, of which those that differ are in the scope. -/
theorem Within.ofRegs (hS : S.Has .regs) (hs : ∀ p, p ≠ .regs → Dev.Same p d d') (hr : ∀ a, ¬ S.reg a → d'.rd a = d.rd a) :
    Within S d d' := by
  have hp : ∀ p, S.parts.elem p = false → p ≠ .regs := fun p hp e => by rw [e, hS] at hp; exact absurd hp (by decide)
  refine ⟨fun p h => hs p (hp p h), fun a ha _ => hr a ha, fun hf => ?_, fun _ => .of_eq (hs .watch (by decide)),
    fun _ => congrArg Source.cond (source_of_watch (hs .watch (by decide)) 146)⟩
  refine ⟨fun a _ => ?_, fun a ha => hr a fun h => S.safe hf a h ha, fun r _ => .inl ?_, fun r _ _ => ?_, ?_, ?_⟩
  · rw [Dev.bar4Get, hs .bar4 (by decide), hs .bar4Gen (by decide)]; rfl
  · rw [Dev.ring, hs .host (by decide)]; rfl
  · rw [Dev.ring, hs .host (by decide)]; rfl
  · rw [hs .host (by decide)]
  · rw [hs .keeper (by decide)]

theorem Within.wr (h : Within S d₀ d) {off : Nat} {w : Word} (ho : S.reg off := by trivial) (hS : S.Has .regs := by trivial) :
    Within S d₀ (d.wr off w) :=
  h.trans (.ofRegs hS (fun p hp => by cases p <;> first | rfl | exact absurd rfl hp) fun _ ha => rd_wr_ne w d fun e => ha (e ▸ ho))

theorem Within.wrF (h : Within S d₀ d) {off lo width v : Nat} (ho : S.reg off := by trivial) (hS : S.Has .regs := by trivial) :
    Within S d₀ (d.wrF off lo width v) := h.wr

theorem Within.bumpBy (h : Within S d₀ d) {k off lo width : Nat} (ho : S.reg off := by trivial) (hS : S.Has .regs := by trivial) :
    Within S d₀ (d.bumpBy k off lo width) := h.wrF

theorem Within.bump (h : Within S d₀ d) {off lo width : Nat} (ho : S.reg off := by trivial) (hS : S.Has .regs := by trivial) :
    Within S d₀ (d.bump off lo width) := h.bumpBy

theorem Within.pubStat (h : Within S d₀ d) {off extra : Nat} (ho : S.reg off := by trivial) (hS : S.Has .regs := by trivial) :
    Within S d₀ (d.pubStat off extra) := h.wr

theorem Within.pub40 (h : Within S d₀ d) {base : Nat} {v : Int} (h0 : S.reg base := by trivial) (h4 : S.reg (base + 4) := by trivial)
    (hS : S.Has .regs := by trivial) : Within S d₀ (d.pub40 base v) := by
  unfold Dev.pub40
  extract_lets n
  exact .ite (fun _ => h) fun _ => h.wr.wr

theorem Within.wrWords {ws : List Word} : ∀ {d : Dev} {off : Nat}, Within S d₀ d → (∀ i, i < ws.length → S.reg (off + 4 * i)) → S.Has .regs →
    Within S d₀ (d.wrWords off ws) := by
  induction ws with
  | nil => exact fun h _ _ => h
  | cons w ws ih =>
    intro d off h ho hS
    refine ih (h.wr (ho 0 (Nat.succ_pos _))) (fun i hi => ?_) hS
    have := ho (i + 1) (Nat.succ_lt_succ hi)
    rwa [show off + 4 + 4 * i = off + 4 * (i + 1) by omega]

/-! ### Entries -/

/-- A change of registers, BAR4, the host interface and the Keeper's queues. -/
theorem Within.ofIo (hio : OnlyIo d d') (hS : ∀ p, p.inner = true ∨ p = .bar4Gen ∨ S.Has p ∨ Dev.Same p d d')
    (hr : ∀ a, ¬ S.reg a → ¬ EventWord a → d'.rd a = d.rd a) (hf : S.free = false → IoStep d d') : Within S d d' := by
  refine ⟨fun p hp => ?_, hr, hf, fun _ => .of_eq hio.watch, fun _ => congrArg Source.cond (source_of_watch hio.watch 146)⟩
  rcases hS p with h | rfl | h | h
  · cases p <;> first | exact absurd h (by decide) | (unfold OnlyIo at hio; rw [hio]; rfl)
  · exact hio.bar4Gen
  · rw [h] at hp
    exact absurd hp (by decide)
  · exact h

theorem Scope.Logs.has (h : S.Logs) {p : Part} (hp : p = .regs ∨ p = .bar4 ∨ p = .host) : S.Has p := by
  obtain ⟨hr, hb, hh⟩ := h
  rcases hp with rfl | rfl | rfl <;> assumption

theorem memWrite_keeper (b : Bool) (a : Nat) (bs : List Byte) (d : Dev) : (d.memWrite b a bs).keeper = d.keeper := by
  cases b with
  | false =>
    show (d.post a bs).keeper = d.keeper
    unfold Dev.post
    split <;> rfl
  | true => exact bar4Write_keeper bs a d

theorem signal_keeper (r : Fin 26) (d : Dev) : (d.signal r).keeper = d.keeper := by
  show (d.vectorSignal _).keeper = d.keeper
  unfold Dev.vectorSignal
  split <;> rfl

theorem notice_keeper (r : Fin 26) (was new : Bool) (d : Dev) : (d.notice r was new).keeper = d.keeper := by
  have hs := signal_keeper r d
  unfold Dev.notice
  split
  · rfl
  split
  · exact hs
  split
  · rfl
  cases (d.ring r).signalled with
  | none => exact hs
  | some t =>
    dsimp only
    split
    · exact hs
    · rfl

theorem ringPut_keeper (r : Fin 26) (e : List Byte) (d : Dev) : (d.ringPut r e).keeper = d.keeper :=
  (notice_keeper r _ true _).trans ((memWrite_keeper _ _ _ _).trans (memWrite_keeper _ _ _ d))

theorem ringEntry_keeper (r : Fin 26) (mk : Word → List Byte) (d : Dev) : (d.ringEntry r mk).keeper = d.keeper := by
  simp only [Dev.ringEntry]
  split
  · exact ringPut_keeper r _ _
  · rfl

theorem Within.ringEntry (h : Within S d₀ d) {r : Fin 26} (hr : r = 8 ∨ r = 9) {mk : Word → List Byte} (hm : ∀ w, (mk w).length ≤ 32)
    (hS : S.Logs := by trivial) : Within S d₀ (d.ringEntry r mk) := by
  refine h.trans (.ofIo (ringEntry_io r mk d) (fun p => ?_) (fun a _ he => rd_ringEntry mk d fun e => he ?_) fun _ => .ringEntry hr d hm)
  · cases p <;> first | exact .inl rfl | exact .inr (.inl rfl) | exact .inr (.inr (.inl (hS.has (by decide)))) | exact .inr (.inr (.inr (ringEntry_keeper r mk d)))
  · rcases hr with rfl | rfl
    · exact .inl e.symm
    · exact .inr (.inl e.symm)

theorem Within.logEnt (h : Within S d₀ d) {kind obj blk : Nat} {data : List Byte} (hS : S.Logs := by trivial) :
    Within S d₀ (d.logEnt kind obj blk data) := h.ringEntry (.inr rfl) fun _ => (length_entryBytes ..).le

theorem Scope.Events.has (h : S.Events) {p : Part} (hp : p.inner = false) (hg : p ≠ .bar4Gen) : S.Has p := by
  obtain ⟨⟨hr, hb, hh⟩, hk⟩ := h
  cases p <;> first | assumption | contradiction

theorem Within.evtEntry (h : Within S d₀ d) {mk : Word → List Byte} (hm : ∀ w, (mk w).length ≤ 32)
    (hS : S.Events := by trivial) : Within S d₀ (d.evtEntry mk) := by
  refine h.trans (.ofIo (evtEntry_io mk d) (fun p => ?_) (fun a _ he => rd_evtEntry mk d he) fun _ => .evtEntry d hm)
  by_cases hi : p.inner = false
  · by_cases hg : p = .bar4Gen
    · exact .inr (.inl hg)
    · exact .inr (.inr (.inl (hS.has hi hg)))
  · exact .inl (by simpa using hi)

theorem Within.event (h : Within S d₀ d) {kind obj blk : Nat} {data : List Byte} (hS : S.Events := by trivial) :
    Within S d₀ (d.event kind obj blk data) := h.evtEntry fun _ => (length_entryBytes ..).le

theorem Within.stateEv (h : Within S d₀ d) {blk machine obj old new row related : Nat} (hS : S.Events := by trivial) :
    Within S d₀ (d.stateEv blk machine obj old new row related) := .ite (fun _ => h) fun _ => h.event

end Sys2Proof.Machine
end

section
/-! Scopes by their parts and registers, and what a statement says of a count, an occurrence and an entry across operations that leave
them alone. -/

namespace Sys2Proof.Machine

set_option Elab.async false

/-- The scope of some parts with any register, and any ring. -/
def partScope (l : List Part) : Scope := ⟨l, fun _ => True, true, false, true, fun h => absurd h (by decide)⟩

/-- The scope of some parts with the registers of a list and any ring. -/
def looseScope (l : List Part) (offs : List Nat) : Scope := ⟨l, (· ∈ offs), true, false, true, fun h => absurd h (by decide)⟩

/-- The scope of some parts with the registers of a list and, of the rings, entries of the event ring and the log ring. -/
def eventScope (l : List Part) (offs : List Nat) (h : ∀ a ∈ offs, ¬ CfgWord a) : Scope := ⟨l, (· ∈ offs), false, false, true, fun _ => h⟩

variable {d d₁ d₂ : Dev}

theorem exec_run {x : Instr} {s : State} {f : Dev → Dev} {d : Dev} (hx : exec x s = run f s) (h : f s.dev = d) :
    exec x s = .next { s with dev := d } := by
  rw [hx, run_eq, h]

/-! ### An object after a change of one object of its family -/

@[simp] theorem modBuoy_buoy_same (n : Fin 64) (f : Buoy → Buoy) (d : Dev) : (d.modBuoy n f).buoy n = f (d.buoy n) := get_set_same d.buoys n _
theorem modBuoy_buoy_ne {n k : Fin 64} (f : Buoy → Buoy) (d : Dev) (h : k ≠ n) : (d.modBuoy n f).buoy k = d.buoy k := get_set_ne d.buoys _ h

@[simp] theorem modChan_chan_same (n : Fin 16) (f : Chan → Chan) (d : Dev) : (d.modChan n f).chan n = f (d.chan n) := get_set_same d.chans n _
theorem modChan_chan_ne {n k : Fin 16} (f : Chan → Chan) (d : Dev) (h : k ≠ n) : (d.modChan n f).chan k = d.chan k := get_set_ne d.chans _ h

@[simp] theorem modLan_lan_same (n : Fin 8) (f : Lan → Lan) (d : Dev) : (d.modLan n f).lan n = f (d.lan n) := get_set_same d.lans n _
theorem modLan_lan_ne {n k : Fin 8} (f : Lan → Lan) (d : Dev) (h : k ≠ n) : (d.modLan n f).lan k = d.lan k := get_set_ne d.lans _ h

@[simp] theorem modOut_out_same (n : Fin 48) (f : Out → Out) (d : Dev) : (d.modOut n f).out n = f (d.out n) := get_set_same d.outs n _
theorem modOut_out_ne {n k : Fin 48} (f : Out → Out) (d : Dev) (h : k ≠ n) : (d.modOut n f).out k = d.out k := get_set_ne d.outs _ h

@[simp] theorem modVout_vout_same (n : Fin 8) (f : Vout → Vout) (d : Dev) : (d.modVout n f).vout n = f (d.vout n) := get_set_same d.vouts n _
theorem modVout_vout_ne {n k : Fin 8} (f : Vout → Vout) (d : Dev) (h : k ≠ n) : (d.modVout n f).vout k = d.vout k := get_set_ne d.vouts _ h

@[simp] theorem modTs_tsc_same (n : Fin 4) (f : TimeScale → TimeScale) (d : Dev) : (d.modTs n f).tsc n = f (d.tsc n) := get_set_same d.ts n _
theorem modTs_tsc_ne {n k : Fin 4} (f : TimeScale → TimeScale) (d : Dev) (h : k ≠ n) : (d.modTs n f).tsc k = d.tsc k := get_set_ne d.ts _ h

@[simp] theorem modPort_port_same (n : Fin 8) (f : Port → Port) (d : Dev) : (d.modPort n f).port n = f (d.port n) := get_set_same d.ports n _
theorem modPort_port_ne {n k : Fin 8} (f : Port → Port) (d : Dev) (h : k ≠ n) : (d.modPort n f).port k = d.port k := get_set_ne d.ports _ h

@[simp] theorem modClient_client_same (n : Fin 16) (f : Client → Client) (d : Dev) : (d.modClient n f).client n = f (d.client n) := get_set_same d.clients n _
theorem modClient_client_ne {n k : Fin 16} (f : Client → Client) (d : Dev) (h : k ≠ n) : (d.modClient n f).client k = d.client k := get_set_ne d.clients _ h

@[simp] theorem modLink_link_same (n : Fin 5) (f : Link → Link) (d : Dev) : (d.modLink n f).link n = f (d.link n) := get_set_same d.tide.links n _
theorem modLink_link_ne {n k : Fin 5} (f : Link → Link) (d : Dev) (h : k ≠ n) : (d.modLink n f).link k = d.link k := get_set_ne d.tide.links _ h

@[simp] theorem modSource_source_same (n : Fin 192) (f : Source → Source) (d : Dev) : (d.modSource n f).source n = f (d.source n) := get_set_same d.watch.srcs n _
theorem modSource_source_ne {n k : Fin 192} (f : Source → Source) (d : Dev) (h : k ≠ n) : (d.modSource n f).source k = d.source k := get_set_ne d.watch.srcs _ h

@[simp] theorem modRing_ring_same (n : Fin 26) (f : Ring → Ring) (d : Dev) : (d.modRing n f).ring n = f (d.ring n) := get_set_same d.host.rings n _
theorem modRing_ring_ne {n k : Fin 26} (f : Ring → Ring) (d : Dev) (h : k ≠ n) : (d.modRing n f).ring k = d.ring k := get_set_ne d.host.rings _ h

/-! ### Addresses below the rings -/

theorem not_eventWord_of_lt {a : Nat} (h : a < 0x2C1200) : ¬ EventWord a := by
  simp only [EventWord, ringOff]
  omega

theorem not_cfgWord_of_lt {a : Nat} (h : a < 0x2C1200) : ¬ CfgWord a := by
  rintro ⟨r, rfl | rfl, hr⟩ <;> simp only [ringOff] at hr <;> omega

/-! ### Sequence numbers of the rings -/

theorem vectorSignal_ring (v : Nat) (d : Dev) (q : Fin 26) : (d.vectorSignal v).ring q = d.ring q := by
  unfold Dev.vectorSignal
  split <;> rfl

theorem modRing_seq (r q : Fin 26) (f : Ring → Ring) (d : Dev) (hf : ∀ g, (f g).seq = g.seq) :
    ((d.modRing r f).ring q).seq = (d.ring q).seq := by
  by_cases e : q = r
  · rw [e, modRing_ring_same, hf]
  · rw [modRing_ring_ne _ _ e]

theorem signal_seq (r q : Fin 26) (d : Dev) : ((d.signal r).ring q).seq = (d.ring q).seq := by
  rw [Dev.signal, modRing_seq, vectorSignal_ring]
  exact fun _ => rfl

theorem notice_seq (r q : Fin 26) (was new : Bool) (d : Dev) : ((d.notice r was new).ring q).seq = (d.ring q).seq := by
  unfold Dev.notice
  split
  · exact modRing_seq r q _ d fun _ => rfl
  split
  · exact signal_seq r q d
  split
  · rfl
  cases (d.ring r).signalled with
  | none => exact signal_seq r q d
  | some t =>
    dsimp only
    split
    · exact signal_seq r q d
    · exact modRing_seq r q _ d fun _ => rfl

theorem ringPut_seq (r q : Fin 26) (e : List Byte) (d : Dev) : ((d.ringPut r e).ring q).seq = (d.ring q).seq := by
  simp only [Dev.ringPut, notice_seq, Dev.ringStore]
  rw [modRing_seq, memWrite_ring, memWrite_ring]
  exact fun _ => rfl

/-- A numbered entry moves the sequence number on, written or dropped. -/
theorem ringEntry_seq (r : Fin 26) (mk : Word → List Byte) (d : Dev) : ((d.ringEntry r mk).ring r).seq = (d.ring r).seq + 1 := by
  simp only [Dev.ringEntry]
  split
  · rw [ringPut_seq, modRing_ring_same]
  · simp [Dev.ring]

theorem logEnt_seq (kind obj blk : Nat) (data : List Byte) (d : Dev) : ((d.logEnt kind obj blk data).ring 9).seq = (d.ring 9).seq + 1 :=
  ringEntry_seq 9 _ d

theorem keeperEvent_host (e : List Byte) (d : Dev) : (d.keeperEvent e).host = d.host := by
  have hw : ∀ (ws : List Word) (off : Nat) (d : Dev), (d.wrWords off ws).host = d.host := by
    intro ws
    induction ws with
    | nil => exact fun _ _ => rfl
    | cons w ws ih => exact fun off d => ih _ _
  unfold Dev.keeperEvent
  extract_lets q
  split
  · exact hw _ _ d
  · rfl

theorem evtEntry_seq (mk : Word → List Byte) (d : Dev) : ((d.evtEntry mk).ring 8).seq = (d.ring 8).seq + 1 := by
  rw [Dev.evtEntry, ringEntry_seq, Dev.ring, keeperEvent_host, Dev.ring]

theorem event_seq (kind obj blk : Nat) (data : List Byte) (d : Dev) : ((d.event kind obj blk data).ring 8).seq = (d.ring 8).seq + 1 :=
  evtEntry_seq _ d

/-! ### Counts -/

/-- A field below a written one reads as before. -/
theorem fld_setFld_below (w : Word) {lo width lo' width' : Nat} (v : Nat) (h : lo + width ≤ 32) (h' : lo' + width' ≤ lo) :
    fld (setFld w lo width v) lo' width' = fld w lo' width' := by
  have e : ∀ x : Word, fld x lo' width' = x.toNat % 2 ^ lo / 2 ^ lo' % 2 ^ width' := by
    intro x
    obtain ⟨k, rfl⟩ := Nat.exists_eq_add_of_le h'
    rw [fld, Nat.pow_add, Nat.pow_add, Nat.mul_assoc, Nat.mod_mul_right_div_self, Nat.mod_mul_right_mod]
  rw [e, e, toNat_setFld w v h, Nat.add_mul_mod_self_left, Nat.mod_mod]

theorem rdF_bump_below (off : Nat) {lo width lo' width' : Nat} (d : Dev) (h : lo + width ≤ 32) (h' : lo' + width' ≤ lo) :
    (d.bump off lo width).rdF off lo' width' = d.rdF off lo' width' := by
  rw [Dev.rdF, Dev.bump, Dev.bumpBy, Dev.wrF, rd_wr_same, fld_setFld_below _ _ h h', Dev.rdF]


theorem bump_counts (off : Nat) {lo width : Nat} (d : Dev) (h : lo + width ≤ 32) : Counts off lo width d (d.bump off lo width) :=
  rdF_bump_same off d h

theorem Counts.before {off lo width : Nat} (h : Counts off lo width d₁ d₂) (e : d₁.rd off = d.rd off) : Counts off lo width d d₂ := by
  have h : d₂.rdF off lo width = satN width (d₁.rdF off lo width + 1) := h
  rwa [Dev.rdF, Dev.rdF, e] at h

theorem Counts.after {off lo width : Nat} (h : Counts off lo width d d₁) (e : d₂.rd off = d₁.rd off) : Counts off lo width d d₂ := by
  rw [Counts, Dev.rdF, e]
  exact h

/-! ### Occurrences -/

theorem occur_reports (src : Fin 192) (obj : Nat) (d : Dev) : Reports src obj d (d.occur src obj) := ⟨_, rfl, rfl⟩

/-- The occurrence of an operation in the middle of a chain that otherwise leaves the Watch alone. -/
theorem reports_occur {src : Fin 192} {obj : Nat} (h₂ : d₂.watch = (d₁.occur src obj).watch) (h₁ : d₁.watch = d.watch) :
    Reports src obj d d₂ := by
  refine ⟨d₁.reaches ⟨src, BitVec.ofNat 8 obj, false, false⟩ false, ?_, rfl⟩
  rw [h₂, ← h₁]
  rfl

theorem Reports.before {src : Fin 192} {obj : Nat} (h : Reports src obj d₁ d₂) (e : d₁.watch = d.watch) : Reports src obj d d₂ := by
  unfold Reports
  rw [← e]
  exact h

theorem Reports.after {src : Fin 192} {obj : Nat} (h : Reports src obj d d₁) (e : d₂.watch = d₁.watch) : Reports src obj d d₂ := by
  unfold Reports
  rw [e]
  exact h

theorem Within.reports {S : Scope} {src : Fin 192} {obj : Nat} (h : Reports src obj d d₁) (hw : Within S d₁ d₂)
    (hS : S.parts.elem .watch = false := by rfl) : Reports src obj d d₂ := h.after (hw.same .watch hS)

end Sys2Proof.Machine
end

section
/-! Lanterns and outputs (chapters 7 and 8): the frames of their operations, and what each transition leaves. -/

namespace Sys2Proof.Machine

set_option Elab.async false

variable {S : Scope} {d d₀ : Dev}

/-! ### The frames -/

theorem Within.outRefresh (h : Within S d₀ d) {m : Fin 48} (hS : S.Has .outs := by trivial) : Within S d₀ (d.outRefresh m) := by
  unfold Dev.outRefresh
  extract_lets d1 w mute ph
  have h1 : Within S d₀ d1 := h.modOut
  exact h1.modOut

theorem Within.voutRefresh (h : Within S d₀ d) {k : Fin 8} (hS : S.Has .vouts := by trivial) : Within S d₀ (d.voutRefresh k) := by
  unfold Dev.voutRefresh
  extract_lets n d1 w mute
  have h1 : Within S d₀ d1 := h.modVout
  exact h1.modVout

theorem Within.routedRefresh (h : Within S d₀ d) {n : Fin 8} (ho : S.Has .outs := by trivial) (hv : S.Has .vouts := by trivial) :
    Within S d₀ (d.routedRefresh n) :=
  (h.forFin fun _ _ h => h.onlyIf fun _ h => h.outRefresh).forFin fun _ _ h => h.onlyIf fun _ h => h.voutRefresh

theorem Within.lanTo (h : Within S d₀ d) {n : Fin 8} {st : LanState} {row : Nat} (hl : S.Has .lans := by trivial)
    (hE : S.Events := by trivial) (ho : S.Has .outs := by trivial) (hv : S.Has .vouts := by trivial) : Within S d₀ (d.lanTo n st row) :=
  h.modLan.stateEv.routedRefresh

theorem Within.outHalt (h : Within S d₀ d) {m : Fin 48} {mute : Bool} (hc : S.reg (outOff m + 0x24)) (hr : S.Has .regs := by trivial)
    (hw : S.Has .watch := by trivial) (ho : S.Has .outs := by trivial) : Within S d₀ (d.outHalt m mute) := by
  unfold Dev.outHalt
  extract_lets d1 d2
  have h1 : Within S d₀ d1 := h.modOut
  have h2 : Within S d₀ d2 := .ite (fun _ => (h1.bump hc).occur) fun _ => h1
  exact h2.outRefresh

/-! ### Lanterns -/

/-- What a Lantern's transition may change, with the registers it writes. -/
def lanScope (offs : List Nat) (h : ∀ a ∈ offs, ¬ CfgWord a) : Scope :=
  eventScope [.regs, .bar4, .host, .keeper, .watch, .lans, .outs, .vouts] offs h

theorem lanTo_lans (n : Fin 8) (st : LanState) (row : Nat) (d : Dev) :
    (d.lanTo n st row).lans = d.lans.set n { d.lan n with st := st } :=
  ((Within.refl (partScope [.regs, .bar4, .host, .keeper, .outs, .vouts]) (d.modLan n fun l => { l with st := st })).stateEv.routedRefresh).same
    .lans rfl

theorem lanTo_lan_same (n : Fin 8) (st : LanState) (row : Nat) (d : Dev) : (d.lanTo n st row).lan n = { d.lan n with st := st } := by
  rw [Dev.lan, lanTo_lans, get_set_same]

theorem lanTo_lan_ne {n k : Fin 8} (st : LanState) (row : Nat) (d : Dev) (h : k ≠ n) : (d.lanTo n st row).lan k = d.lan k := by
  rw [Dev.lan, lanTo_lans, get_set_ne _ _ h, Dev.lan]

theorem lanTo_watch (n : Fin 8) (st : LanState) (row : Nat) (d : Dev) : (d.lanTo n st row).watch = d.watch :=
  (Within.refl (partScope [.regs, .bar4, .host, .keeper, .lans, .outs, .vouts]) d).lanTo.same .watch rfl

theorem rd_lanTo {n : Fin 8} {st : LanState} {row a : Nat} (d : Dev) (ha : ¬ EventWord a) : (d.lanTo n st row).rd a = d.rd a :=
  (Within.refl (looseScope [.regs, .bar4, .host, .keeper, .lans, .outs, .vouts] []) d).lanTo.regs a (by simp [looseScope]) ha

theorem lanOff_lt (l : Fin 8) {k : Nat} (hk : k < 0x100) : lanOff l + k < 0x2C1200 := by
  simp only [lanOff]
  omega

theorem lanOffs_plain (l : Fin 8) {ks : List Nat} (hk : ∀ k ∈ ks, k < 0x100) : ∀ a ∈ ks.map (lanOff l + ·), ¬ CfgWord a := by
  intro a ha
  obtain ⟨k, hm, rfl⟩ := List.mem_map.mp ha
  exact not_cfgWord_of_lt (lanOff_lt l (hk k hm))

/-- A transition's frame, from the scope of what led to it and the Lanterns it leaves. -/
theorem lanFrame_of_within {l : Fin 8} {s : State} {e : Dev} {offs : List Nat} {h : ∀ a ∈ offs, ¬ CfgWord a}
    (hw : Within (lanScope offs h) s.dev e) (hl : ∀ k, k ≠ l → e.lan k = s.dev.lan k) : LanFrame l offs s { s with dev := e } :=
  ⟨rfl, hl, hw.eq, hw.eventFrame rfl fun _ ha => ha⟩

/-- The alignment of R202 with its skew correction, as LANTERN_LOCK makes it. -/
def Dev.lanAlign (l : Fin 8) (skew : BitVec 16) (d : Dev) : Dev :=
  if bit (d.lanCfg l) 23 then (d.modLan l fun x => { x with grid := 0 }).wr (lanOff l + 0x18) (word skew.toNat) else d

theorem lanLock_eq {l : Fin 8} {skew : BitVec 16} {d : Dev} (h : (d.lan l).st = .acquiring) :
    lanLock l skew d = ((d.bump (lanOff l + 0x14) 0 8).lanAlign l skew).lanTo l .locked 6 := if_pos h

theorem Within.lanAlign (h : Within S d₀ d) {l : Fin 8} {skew : BitVec 16} (ho : S.reg (lanOff l + 0x18))
    (hl : S.Has .lans := by trivial) (hr : S.Has .regs := by trivial) : Within S d₀ (d.lanAlign l skew) :=
  .ite (fun _ => h.modLan.wr ho) fun _ => h

theorem lanAlign_lan_ne {l k : Fin 8} (skew : BitVec 16) (d : Dev) (h : k ≠ l) : (d.lanAlign l skew).lan k = d.lan k := by
  unfold Dev.lanAlign
  split
  · simp [Dev.lan, get_set_ne _ _ h]
  · rfl

theorem rd_lanAlign {l : Fin 8} {skew : BitVec 16} {a : Nat} (d : Dev) (h : lanOff l + 0x18 ≠ a) : (d.lanAlign l skew).rd a = d.rd a := by
  unfold Dev.lanAlign
  split
  · exact rd_wr_ne _ _ h
  · rfl

/-- Settles O6: each row enters its state by `lanTo`, behind the counter and the occurrence of the row. -/
theorem lanternTransitions : Obligations.LanternTransitions := by
  intro l s
  have hc : ∀ a ∈ [lanOff l + 0x14], ¬ CfgWord a := lanOffs_plain l (ks := [0x14]) (by decide)
  have hc2 : ∀ a ∈ [lanOff l + 0x14, lanOff l + 0x18], ¬ CfgWord a := lanOffs_plain l (ks := [0x14, 0x18]) (by decide)
  have hn : ¬ EventWord (lanOff l + 0x14) := not_eventWord_of_lt (lanOff_lt l (by decide))
  have hn2 : ¬ EventWord (lanOff l + 0x18) := not_eventWord_of_lt (lanOff_lt l (by decide))
  refine ⟨fun band hst => ?_, fun hst => ?_, fun skew hst => ?_, fun hst => ?_, fun low hst => ?_, fun hst => ?_⟩
  · refine ⟨_, exec_run rfl (if_pos hst), lanFrame_of_within (h := by simp) (Within.refl _ s.dev).modLan.lanTo fun k hk => ?_, ?_, ?_⟩
    · rw [lanTo_lan_ne _ _ _ hk, modLan_lan_ne _ _ hk]
    · rw [lanTo_lan_same, modLan_lan_same]
    · exact lanTo_watch ..
  · refine ⟨_, exec_run rfl (if_pos hst), lanFrame_of_within (h := hc) ((Within.refl _ s.dev).bump (by exact .head _)).occur.lanTo
      fun k hk => lanTo_lan_ne _ _ _ hk, lanTo_lan_same .., ?_, reports_occur (lanTo_watch ..) rfl⟩
    exact (bump_counts _ _ (by decide)).after (rd_lanTo _ hn)
  · have hcfg : (s.dev.bump (lanOff l + 0x14) 0 8).lanCfg l = s.dev.lanCfg l := rd_bump_ne 0 8 s.dev (by omega)
    refine ⟨_, exec_run rfl (lanLock_eq hst), lanFrame_of_within (h := hc2)
      (((Within.refl _ s.dev).bump (by exact .head _)).lanAlign (by exact .tail _ (.head _))).lanTo fun k hk => ?_,
      congrArg Lan.st (lanTo_lan_same ..), ?_, ?_, fun hb => ?_, fun hb => ?_⟩
    · rw [lanTo_lan_ne _ _ _ hk]
      exact lanAlign_lan_ne skew _ hk
    · exact ((bump_counts _ _ (by decide)).after (rd_lanAlign _ (by omega))).after (rd_lanTo _ hn)
    · exact (lanTo_watch ..).trans ((Within.refl (partScope [.regs, .lans]) _).lanAlign trivial).watch
    · have he : (s.dev.bump (lanOff l + 0x14) 0 8).lanAlign l skew = _ := if_pos (hcfg ▸ hb)
      rw [he, lanTo_lan_same, rd_lanTo _ hn2, rd_wr_same]
      exact ⟨by simp [Dev.lan], rfl⟩
    · have he : (s.dev.bump (lanOff l + 0x14) 0 8).lanAlign l skew = _ := if_neg (by rw [hcfg, hb]; decide)
      rw [he, lanTo_lan_same, rd_lanTo _ hn2]
      exact ⟨rfl, rd_bump_ne 0 8 s.dev (by omega)⟩
  · exact ⟨_, exec_run rfl (if_pos hst), lanFrame_of_within (h := by simp) (Within.refl _ s.dev).occur.lanTo
      fun k hk => lanTo_lan_ne _ _ _ hk, lanTo_lan_same .., reports_occur (lanTo_watch ..) rfl⟩
  · refine ⟨_, exec_run rfl (if_pos hst), lanFrame_of_within (h := hc)
      ((Within.refl _ s.dev).modLan.bump (by exact .head _)).occur.lanTo fun k hk => ?_, ?_, ?_, reports_occur (lanTo_watch ..) rfl⟩
    · rw [lanTo_lan_ne _ _ _ hk]
      simp [Dev.lan, get_set_ne _ _ hk]
    · rw [lanTo_lan_same]
      simp [Dev.lan]
    · exact (bump_counts _ _ (by decide)).after (rd_lanTo _ hn)
  · exact ⟨_, exec_run rfl (if_pos hst), lanFrame_of_within (h := by simp) (Within.refl _ s.dev).lanTo
      fun k hk => lanTo_lan_ne _ _ _ hk, lanTo_lan_same .., lanTo_watch ..⟩

end Sys2Proof.Machine
end

section
/-! Clock outputs and video outputs (chapters 7 and 8): what their pins do at each edge. -/

namespace Sys2Proof.Machine

set_option Elab.async false

variable {d : Dev}

/-! ### Clock outputs -/

/-- What `Dev.outRefresh` makes of an output: `wants` its start condition, `mute` whether a mute cause asks for a stop, `ph` its PHASE. -/
def outSettle (wants mute : Bool) (ph : Word) (o : Out) : Out :=
  let o1 := { o with pin := pinNext (wants && !o.mRealign) mute o.pin }
  let o2 := if o1.mRealign && o1.pin = .stopped then
      (if wants then { o1 with pin := .starting } else { o1 with mRealign := false }) else o1
  let o3 := if o2.mRealign && o2.pin = .starting && !wants then { o2 with pin := .stopped, mRealign := false } else o2
  outPhaseTake ph o3

/-- The device of `Dev.outRefresh` once M_LANLOCK has taken in the Lantern. -/
def Dev.outLatched (m : Fin 48) (d : Dev) : Dev := d.modOut m fun o => { o with mLan := d.lanLatch (d.outLan m) o.mLan }

theorem outRefresh_out_same (m : Fin 48) (d : Dev) : (d.outRefresh m).out m =
    outSettle ((d.outLatched m).outWants m)
      ((d.outLatched m).outMuted m || (d.out m).mRealign || (d.lan (d.outLan m)).st ≠ .locked) (d.rd (outOff m + 0x14))
      { d.out m with mLan := d.lanLatch (d.outLan m) (d.out m).mLan } := by
  have h : (d.outLatched m).out m = { d.out m with mLan := d.lanLatch (d.outLan m) (d.out m).mLan } := modOut_out_same ..
  have hs : (d.outRefresh m).out m = outSettle ((d.outLatched m).outWants m)
      ((d.outLatched m).outMuted m || ((d.outLatched m).out m).mRealign || (d.lan (d.outLan m)).st ≠ .locked)
      (d.rd (outOff m + 0x14)) ((d.outLatched m).out m) := by
    rw [Dev.outRefresh, modOut_out_same]
    rfl
  rw [hs, h]

theorem outRefresh_out_ne {m k : Fin 48} (d : Dev) (h : k ≠ m) : (d.outRefresh m).out k = d.out k := by
  simp only [Dev.outRefresh, modOut_out_ne _ _ h]

theorem outPhaseTake_pin (ph : Word) (o : Out) : (outPhaseTake ph o).pin = o.pin := by
  unfold outPhaseTake
  split <;> rfl

theorem pinNext_stopped_off (w mute : Bool) : (pinNext w mute .stopped).on = false := by
  cases w <;> rfl

/-- A stopped pin does not drive after its start condition has been taken in. -/
theorem outSettle_off {wants mute : Bool} {ph : Word} {o : Out} (h : o.pin = .stopped) : (outSettle wants mute ph o).pin.on = false := by
  unfold outSettle
  extract_lets o1 o2 o3
  have h1 : o1.pin.on = false := by
    show (pinNext _ mute o.pin).on = false
    rw [h]
    exact pinNext_stopped_off _ _
  have h2 : o2.pin.on = false := by
    unfold o2
    split
    · split
      · rfl
      · exact h1
    · exact h1
  rw [outPhaseTake_pin]
  unfold o3
  split
  · rfl
  · exact h2

theorem outRefresh_off {m : Fin 48} (h : (d.out m).pin = .stopped) : ((d.outRefresh m).out m).pin.on = false := by
  rw [outRefresh_out_same]
  exact outSettle_off h

theorem outHalt_out_ne {m k : Fin 48} (mute : Bool) (d : Dev) (h : k ≠ m) : (d.outHalt m mute).out k = d.out k := by
  unfold Dev.outHalt
  extract_lets d1 d2
  rw [outRefresh_out_ne _ h]
  have h1 : d1.out k = d.out k := modOut_out_ne _ d h
  unfold d2
  split
  · exact h1
  · exact h1

theorem outHalt_off (m : Fin 48) (mute : Bool) (d : Dev) : ((d.outHalt m mute).out m).pin.on = false := by
  unfold Dev.outHalt
  extract_lets d1 d2
  have h1 : (d1.out m).pin = .stopped := congrArg Out.pin (modOut_out_same m _ d)
  refine outRefresh_off ?_
  unfold d2
  split
  · exact h1
  · exact h1

theorem outHalt_host (m : Fin 48) (mute : Bool) (d : Dev) : (d.outHalt m mute).host = d.host := by
  cases mute <;> rfl

/-- A stop that a mute cause asked for counts in the upper half of the output's counters (R210). -/
theorem outHalt_muted_rd (m : Fin 48) (a : Nat) (d : Dev) : (d.outHalt m true).rd a = (d.bump (outOff m + 0x24) 16 16).rd a := rfl

theorem outHalt_unmuted_regs (m : Fin 48) (d : Dev) : (d.outHalt m false).regs = d.regs := rfl

theorem outHalt_unmuted_watch (m : Fin 48) (d : Dev) : (d.outHalt m false).watch = d.watch := rfl

theorem outHalt_muted_reports (m : Fin 48) (d : Dev) : Reports 120 m d (d.outHalt m true) := reports_occur rfl rfl

theorem outHalt_forcedCount (m : Fin 48) (mute : Bool) (d : Dev) :
    (d.outHalt m mute).rdF (outOff m + 0x24) 0 16 = d.rdF (outOff m + 0x24) 0 16 := by
  cases mute with
  | false => exact congrArg (fun w => fld w 0 16) (rd_of_regs (outHalt_unmuted_regs m d) _)
  | true =>
    rw [Dev.rdF, outHalt_muted_rd]
    exact rdF_bump_below _ d (by decide) (by decide)

theorem outStop_eq {m : Fin 48} {mute : Bool} (h : (d.out m).pin = .stopping mute) : outStop m d = d.outHalt m mute := by
  simp only [outStop, h]

theorem outForcedStop_eq {m : Fin 48} {mute : Bool} (h : (d.out m).pin = .stopping mute) :
    outForcedStop m d = ((d.bump (outOff m + 0x24) 0 16).logEnt 0x82 m 9 [b8 m]).outHalt m mute := by
  simp only [outForcedStop, h]

theorem outOff_lt (m : Fin 48) {k : Nat} (hk : k < 0x40) : outOff m + k < 0x2C1200 := by
  simp only [outOff]
  omega

/-- What a stop may change. -/
theorem outHalt_keepsRegs (m : Fin 48) (mute : Bool) (d : Dev) : KeepsRegs [outOff m + 0x24] d (d.outHalt m mute) :=
  ((Within.refl (looseScope [.regs, .watch, .outs] [outOff m + 0x24]) d).outHalt (.head _)).keepsRegs fun _ h => h

/-- A forced stop (R208): its count and its log entry, then the stop. -/
theorem outForcedStop_clause {m : Fin 48} {mute : Bool} {s : State} (hp : (s.dev.out m).pin = .stopping mute) :
    ∃ t, exec (.outputForcedStop m) s = .next t ∧ t.pending = s.pending ∧ (t.dev.out m).pin.on = false ∧
      (∀ k, k ≠ m → t.dev.out k = s.dev.out k) ∧ Counts (outOff m + 0x24) 0 16 s.dev t.dev ∧
      t.dev = { s.dev with regs := t.dev.regs, bar4 := t.dev.bar4, host := t.dev.host, watch := t.dev.watch, outs := t.dev.outs } ∧
      EventFrame [outOff m + 0x24] s.dev t.dev ∧ (t.dev.ring 9).seq = (s.dev.ring 9).seq + 1 ∧
      (mute = true → Reports 120 m s.dev t.dev) ∧ (mute = false → t.dev.watch = s.dev.watch) := by
  have hlt : outOff m + 0x24 < 0x2C1200 := outOff_lt m (by decide)
  have hc : ∀ a ∈ [outOff m + 0x24], ¬ CfgWord a := fun a ha => List.mem_singleton.mp ha ▸ not_cfgWord_of_lt hlt
  have hw : Within (eventScope [.regs, .bar4, .host, .watch, .outs] [outOff m + 0x24] hc) s.dev
      (((s.dev.bump (outOff m + 0x24) 0 16).logEnt 0x82 m 9 [b8 m]).outHalt m mute) :=
    ((Within.refl _ s.dev).bump (by exact .head _)).logEnt.outHalt (.head _)
  have hrd : ((s.dev.bump (outOff m + 0x24) 0 16).logEnt 0x82 m 9 [b8 m]).rd (outOff m + 0x24) =
      (s.dev.bump (outOff m + 0x24) 0 16).rd (outOff m + 0x24) :=
    rd_logEnt _ _ _ _ _ fun h => not_eventWord_of_lt hlt (.inr (.inl h.symm))
  have hcount := (bump_counts (outOff m + 0x24) s.dev (lo := 0) (width := 16) (by decide)).after hrd
  have hwatch : ((s.dev.bump (outOff m + 0x24) 0 16).logEnt 0x82 m 9 [b8 m]).watch = s.dev.watch := logEnt_watch ..
  have hseq := logEnt_seq 0x82 m 9 [b8 m] (s.dev.bump (outOff m + 0x24) 0 16)
  have houts : ((s.dev.bump (outOff m + 0x24) 0 16).logEnt 0x82 m 9 [b8 m]).outs = s.dev.outs := logEnt_outs ..
  have hexec := exec_run (x := .outputForcedStop m) rfl (outForcedStop_eq hp)
  generalize (s.dev.bump (outOff m + 0x24) 0 16).logEnt 0x82 m 9 [b8 m] = e at *
  refine ⟨_, hexec, rfl, outHalt_off m mute e, fun k hk => ?_, ?_, hw.eq, hw.eventFrame rfl fun _ h => h, ?_, ?_, ?_⟩
  · rw [outHalt_out_ne mute e hk, Dev.out, houts, Dev.out]
  · exact (outHalt_forcedCount m mute e).trans hcount
  · rw [Dev.ring, outHalt_host]
    exact hseq
  · rintro rfl
    exact (outHalt_muted_reports m e).before hwatch
  · rintro rfl
    exact hwatch

/-- Settles O7: a start and a phase step are one change of the output; a stop is `Dev.outHalt`, behind the count and the log entry of a
forced one. -/
theorem outputStartStopAndPhase : Obligations.OutputStartStopAndPhase := by
  intro m s
  refine ⟨fun hp hw => ?_, fun mute hp => ⟨?_, outForcedStop_clause hp⟩, fun hp => ?_⟩
  · exact ⟨_, exec_run rfl (if_pos (by simp [hp, hw])), rfl, rfl⟩
  · refine ⟨_, exec_run rfl (outStop_eq hp), rfl, outHalt_off m mute _, fun k hk => outHalt_out_ne mute _ hk,
      ((Within.refl (partScope [.regs, .watch, .outs]) s.dev).outHalt trivial).eq, ?_, ?_⟩
    · rintro rfl
      exact ⟨bump_counts _ _ (by decide), outHalt_muted_reports m _, outHalt_keepsRegs m true _⟩
    · rintro rfl
      exact ⟨rfl, rfl⟩
  · have hout : (phaseStep m s.dev).out m = _ := modOut_out_same m _ s.dev
    refine ⟨_, exec_run rfl rfl, rfl, ?_, fun h => ?_, fun h => ?_, fun h => ?_⟩
    · show phaseStep m s.dev = { s.dev with outs := s.dev.outs.set m ((phaseStep m s.dev).out m) }
      rw [hout]
      rfl
    · exact hout.trans ((if_pos hp).trans (if_pos h))
    · exact hout.trans ((if_pos hp).trans ((if_neg (Nat.not_lt.mpr h.le)).trans (if_pos h)))
    · exact hout.trans ((if_pos hp).trans ((if_neg (Nat.not_lt.mpr h.ge)).trans (if_neg (Nat.not_lt.mpr h.le))))

/-! ### Video outputs -/

theorem voutRefresh_vout_ne {k j : Fin 8} (d : Dev) (h : j ≠ k) : (d.voutRefresh k).vout j = d.vout j := by
  simp only [Dev.voutRefresh, modVout_vout_ne _ _ h]

/-- A stopped video output does not drive after its start condition has been taken in, and no transition of it runs. -/
theorem voutRefresh_off {k : Fin 8} (h : (d.vout k).pin = .stopped) :
    ((d.voutRefresh k).vout k).pin.on = false ∧ ((d.voutRefresh k).vout k).transition = false := by
  simp only [Dev.voutRefresh, modVout_vout_same, h]
  refine ⟨pinNext_stopped_off _ _, ?_⟩
  generalize Dev.voutWants _ _ = w
  cases w <;> simp [pinNext]

theorem Within.voutStopped {S : Scope} {d₀ : Dev} (h : Within S d₀ d) {k : Fin 8} {f : Vout → Vout} {n : Nat}
    (ho : S.reg (voutOff k + 0x24)) (hr : S.Has .regs := by trivial) (hv : S.Has .vouts := by trivial) :
    Within S d₀ (((d.modVout k f).bumpBy n (voutOff k + 0x24) 16 16).voutRefresh k) := (h.modVout.bumpBy ho).voutRefresh

theorem voutStopped_vout_ne {k j : Fin 8} (f : Vout → Vout) (n : Nat) (d : Dev) (h : j ≠ k) :
    (((d.modVout k f).bumpBy n (voutOff k + 0x24) 16 16).voutRefresh k).vout j = d.vout j :=
  (voutRefresh_vout_ne _ h).trans (modVout_vout_ne f d h)

theorem voutStopped_off {k : Fin 8} {f : Vout → Vout} (n : Nat) (hf : (f (d.vout k)).pin = .stopped) :
    ((((d.modVout k f).bumpBy n (voutOff k + 0x24) 16 16).voutRefresh k).vout k).pin.on = false ∧
      ((((d.modVout k f).bumpBy n (voutOff k + 0x24) 16 16).voutRefresh k).vout k).transition = false :=
  voutRefresh_off ((congrArg Vout.pin (modVout_vout_same k f d)).trans hf)

/-- What the end of a drive of a video output may change. -/
def voutScope (k : Fin 8) : Scope := looseScope [.regs, .vouts] [voutOff k + 0x24]

theorem voutEnd_eq {k : Fin 8} {mute : Bool} (h : (d.vout k).pin = .stopping mute) : voutEnd k d =
    ((d.modVout k fun o => { o with pin := .stopped }).bumpBy (if mute then 1 else 0) (voutOff k + 0x24) 16 16).voutRefresh k := by
  simp only [voutEnd, h]

/-- Settles O8: a start and a restart are one change of the video output; a stop and a forced stop leave it stopped, with their count,
before its start condition is taken in again. -/
theorem videoOutputs : Obligations.VideoOutputs := by
  intro k s
  refine ⟨fun hp hw => ?_, fun mute hp => ?_, fun hp => ?_, fun ht => ?_⟩
  · exact ⟨_, exec_run rfl (if_pos (by simp [hp, hw])), rfl, rfl⟩
  · have hw := (Within.refl (voutScope k) s.dev).voutStopped (f := fun o => { o with pin := .stopped }) (n := if mute then 1 else 0) (.head _)
    refine ⟨_, exec_run rfl (voutEnd_eq hp), rfl, (voutStopped_off _ rfl).1, fun j hj => voutStopped_vout_ne _ _ _ hj, hw.eq,
      hw.keepsRegs fun _ h => h, ?_⟩
    rintro rfl
    exact bump_counts _ _ (by decide)
  · have hw := (Within.refl (voutScope k) s.dev).voutStopped (f := fun o => { o with pin := .stopped, transition := false }) (n := 1) (.head _)
    exact ⟨_, exec_run rfl (if_pos hp), rfl, (voutStopped_off 1 rfl).1, (voutStopped_off 1 rfl).2,
      fun j hj => voutStopped_vout_ne _ _ _ hj, hw.eq, bump_counts _ _ (by decide), hw.keepsRegs fun _ h => h⟩
  · exact ⟨_, exec_run rfl (if_pos ht), rfl, rfl, bump_counts _ _ (by decide), fun a ha _ =>
      rd_bump_ne _ _ _ fun e => ha (List.mem_singleton.mpr e.symm)⟩

end Sys2Proof.Machine
end

section
/-! The frames of operations on the rings, the host interface and the Keeper, for scopes that let any ring change. -/

namespace Sys2Proof.Machine

set_option Elab.async false

variable {S : Scope} {d d₀ d' : Dev}

/-- The scope lets BAR4, the host interface and the rings change freely. -/
def Scope.Io (S : Scope) : Prop := S.free = true ∧ S.Has .bar4 ∧ S.Has .host

theorem Within.ofFree (hf : S.free = true) (hS : ∀ p, S.Has p ∨ Dev.Same p d d') (hr : ∀ a, ¬ S.reg a → ¬ EventWord a → d'.rd a = d.rd a)
    (hw : d'.watch = d.watch := by rfl) : Within S d d' := by
  refine ⟨fun p hp => (hS p).resolve_left fun h => ?_, hr, fun h => ?_, fun _ => .of_eq hw, fun _ => congrArg Source.cond (source_of_watch hw 146)⟩
  · rw [Scope.Has, hp] at h
    exact absurd h (by decide)
  · rw [hf] at h
    exact absurd h (by decide)

theorem Within.modKeeper (h : Within S d₀ d) {f : Keeper → Keeper} (hS : S.Has .keeper := by trivial) (hf : S.free = true := by trivial) :
    Within S d₀ (d.modKeeper f) :=
  h.trans (.ofFree hf (fun p => by cases p <;> first | exact .inr rfl | exact .inl hS) fun _ _ _ => rfl)

theorem Within.modSup (h : Within S d₀ d) {f : Supervision → Supervision} (hS : S.Has .keeper := by trivial) (hf : S.free = true := by trivial) :
    Within S d₀ (d.modSup f) := h.modKeeper

theorem Within.modHost (h : Within S d₀ d) {f : HostIf → HostIf} (hS : S.Has .host := by trivial) (hf : S.free = true := by trivial) :
    Within S d₀ (d.modHost f) :=
  h.trans (.ofFree hf (fun p => by cases p <;> first | exact .inr rfl | exact .inl hS) fun _ _ _ => rfl)

theorem Within.modRing (h : Within S d₀ d) {r : Fin 26} {f : Ring → Ring} (hS : S.Has .host := by trivial) (hf : S.free = true := by trivial) :
    Within S d₀ (d.modRing r f) := h.modHost

theorem Within.vectorSignal (h : Within S d₀ d) {v : Nat} (hS : S.Has .host := by trivial) (hf : S.free = true := by trivial) :
    Within S d₀ (d.vectorSignal v) := .ite (fun _ => h.modHost) fun _ => h.modHost

theorem Within.signal (h : Within S d₀ d) {r : Fin 26} (hS : S.Has .host := by trivial) (hf : S.free = true := by trivial) :
    Within S d₀ (d.signal r) := h.vectorSignal.modRing

theorem Within.notice (h : Within S d₀ d) {r : Fin 26} {was new : Bool} (hS : S.Has .host := by trivial) (hf : S.free = true := by trivial) :
    Within S d₀ (d.notice r was new) := by
  unfold Dev.notice
  refine .ite (fun _ => h.modRing) fun _ => .ite (fun _ => h.signal) fun _ => .ite (fun _ => h) fun _ => ?_
  cases (d.ring r).signalled with
  | none => exact h.signal
  | some t => exact .ite (fun _ => h.signal) fun _ => h.modRing

theorem Within.bar4Put (h : Within S d₀ d) {a : Nat} {b : Byte} (hS : S.Io := by trivial) : Within S d₀ (d.bar4Put a b) := by
  obtain ⟨hf, hb, -⟩ := hS
  exact .ite (fun _ => h.trans (.ofFree hf (fun p => by cases p <;> first | exact .inr rfl | exact .inl hb) fun _ _ _ => rfl)) fun _ => h

theorem Within.bar4Write {bs : List Byte} : ∀ {d : Dev} {a : Nat}, Within S d₀ d → S.Io → Within S d₀ (d.bar4Write a bs) := by
  induction bs with
  | nil => exact fun h _ => h
  | cons b bs ih => exact fun h hS => ih (h.bar4Put) hS

theorem Within.memWrite (h : Within S d₀ d) {b : Bool} {a : Nat} {bs : List Byte} (hS : S.Io := by trivial) :
    Within S d₀ (d.memWrite b a bs) := by
  have ⟨hf, _, hh⟩ := hS
  cases b with
  | false =>
    show Within S d₀ (d.post a bs)
    exact .ite (fun _ => h.modHost) fun _ => h.modHost
  | true => exact h.bar4Write hS

theorem Within.ringPut (h : Within S d₀ d) {r : Fin 26} {e : List Byte} (hS : S.Io := by trivial) : Within S d₀ (d.ringPut r e) :=
  have ⟨_, _, _⟩ := hS
  h.memWrite.memWrite.modRing.notice

/-- Words of the Keeper's queues, which events may write too. -/
theorem Within.wrQueue {ws : List Word} : ∀ {d : Dev} {off : Nat}, Within S d₀ d → 0x308400 ≤ off → S.Has .regs → S.free = true →
    Within S d₀ (d.wrWords off ws) := by
  induction ws with
  | nil => exact fun h _ _ _ => h
  | cons w ws ih =>
    intro d off h ho hS hf
    refine ih (h.trans (.ofFree hf (fun p => by cases p <;> first | exact .inr rfl | exact .inl hS) fun a _ he => rd_wr_ne w d ?_)) (by omega) hS hf
    rintro rfl
    exact he (.inr (.inr (.inr ho)))

/-- A completion may be written: its ring, or the Keeper's completions. -/
def Scope.Completes (S : Scope) : Prop := S.Io ∧ S.Has .regs ∧ S.Has .keeper

theorem Within.recordIp (h : Within S d₀ d) {q : Fin 4} {p : InProg} {o : CmdOut} (hS : S.Has .host := by trivial)
    (hf : S.free = true := by trivial) : Within S d₀ (d.recordIp q p o) := h.modHost

theorem Within.cqRetire (h : Within S d₀ d) {q : Fin 4} {p : InProg} (hS : S.Has .host := by trivial)
    (hf : S.free = true := by trivial) : Within S d₀ (d.cqRetire q p) := h.modHost.modRing

theorem Within.completeOne (h : Within S d₀ d) {src : CmdSrc} {p : InProg} {o : CmdOut} (hS : S.Completes := by trivial) :
    Within S d₀ (d.completeOne src p o) := by
  obtain ⟨⟨hf, hb, hh⟩, hr, hk⟩ := hS
  have hio : S.Io := ⟨hf, hb, hh⟩
  unfold Dev.completeOne
  cases src with
  | cq q =>
    have h1 := h.onlyIf (b := d.host.resetCause.isSome) fun _ h => h.recordIp (q := q) (p := p) (o := o)
    exact .ite (fun _ => h1.cqRetire.ringPut) fun _ => .ite (fun _ => h1.cqRetire) fun _ => h1.modHost
  | keeper =>
    have h1 : Within S d₀ (d.modHost fun h => { h with busy := h.busy.set (srcIdx .keeper) none }) := h.modHost
    exact (h1.wrQueue (Nat.le_add_right _ _) hr hf).modKeeper

theorem Within.takeFetched (h : Within S d₀ d) {src : CmdSrc} (hh : S.Has .host := by trivial) (hk : S.Has .keeper := by trivial)
    (hf : S.free = true := by trivial) : Within S d₀ (d.takeFetched src) := by
  have h1 : Within S d₀ (d.modHost fun h => { h with ext := h.ext.set (srcIdx src) none }) := h.modHost
  unfold Dev.takeFetched
  cases src with
  | cq q => exact h1.modRing
  | keeper => exact h1.modKeeper

theorem Within.retireBad (n : Nat) {src : CmdSrc} : ∀ {d : Dev}, Within S d₀ d → S.Completes → Within S d₀ (d.retireBad n src) := by
  induction n with
  | zero => exact fun h _ => h
  | succ n ih =>
    intro d h hS
    have ⟨⟨hf, _, hh⟩, _, hk⟩ := hS
    unfold Dev.retireBad
    cases d.fetchedOf src with
    | nil => exact h
    | cons e _ =>
      dsimp only
      cases headerFail (src = .keeper) e.2 with
      | none => exact h
      | some i =>
        have h1 : Within S d₀ (d.retireHead src e (.invalid i)) := h.takeFetched.completeOne
        exact .ite (fun _ => ih h1 hS) fun _ => h

theorem Within.complete (h : Within S d₀ d) {src : CmdSrc} {p : InProg} {o : CmdOut} (hS : S.Completes := by trivial) :
    Within S d₀ (d.complete src p o) := h.completeOne.retireBad 16 hS

theorem Within.begun (h : Within S d₀ d) {c : Cmd} {op : Nat} (hh : S.Has .host := by trivial) (hk : S.Has .keeper := by trivial)
    (hf : S.free = true := by trivial) : Within S d₀ (d.begun c op) := by
  have h1 : Within S d₀ (d.passOver c.src) := h.modHost
  exact h1.takeFetched.modHost

theorem Within.endWhere (h : Within S d₀ d) {f : InProg → Bool} {o : Nat → CmdOut} (hS : S.Completes := by trivial) :
    Within S d₀ (d.endWhere f o) := by
  refine h.foldl (fun s d h => ?_) cmdSources
  cases d.host.busy.get (srcIdx s) with
  | none => exact h
  | some p => exact .ite (fun _ => h.complete) fun _ => h

end Sys2Proof.Machine
end

section
/-! The Watch (chapter 15): counting one occurrence, what its mild reactions leave, and the timers. -/

namespace Sys2Proof.Machine

set_option Elab.async false

variable {S : Scope} {d d₀ : Dev}

/-! ### Bits of a field -/

theorem bit_eq_testBit (w : Word) (i : Nat) : bit w i = w.toNat.testBit i := by
  simp only [bit, fld, Nat.testBit, Nat.shiftRight_eq_div_pow, Nat.one_and_eq_mod_two, pow_one]
  have : w.toNat / 2 ^ i % 2 < 2 := Nat.mod_lt _ (by decide)
  generalize w.toNat / 2 ^ i % 2 = x at *
  interval_cases x <;> rfl

theorem testBit_fld (w : Word) (lo width b : Nat) : (fld w lo width).testBit b = (decide (b < width) && bit w (lo + b)) := by
  rw [fld, Nat.testBit_mod_two_pow, Nat.testBit_div_two_pow, bit_eq_testBit, Nat.add_comm lo b]

theorem bit_of_fld_one {w : Word} {i : Nat} (h : fld w i 1 = 1) : bit w i = true := beq_iff_eq.mpr h

theorem bit_of_fld_zero {w : Word} {i : Nat} (h : fld w i 1 = 0) : bit w i = false := by simp [bit, h]

theorem bit_of_field_zero {w : Word} {lo width b : Nat} (h : fld w lo width = 0) (hb : b < width) : bit w (lo + b) = false := by
  have := testBit_fld w lo width b
  simpa [h, hb] using this.symm

/-! ### Counting -/

/-- The occurrence of an unblanked source, as OCCUR and LAST_SRC show it. -/
def Dev.occurred (x : Reached) (d : Dev) : Dev :=
  ((d.bump (fltOff x.occ.src + 0x14) 0 32).wr (fltOff x.occ.src + 0x1C) (word (d.tbMs % 4294967296))).modWatch fun w =>
    { w with last := b8 x.occ.src }

/-- COUNT after an occurrence of an enabled source; the occurrence is severe where it is N. -/
def Dev.nextCount (d : Dev) (n : Fin 192) : Nat := min ((d.source n).count + 1) (d.fltN n)

/-- The source once its occurrence is counted. -/
def Dev.sourceAfter (n : Fin 192) (e : Dev) (s : Source) : Source :=
  { s with count := e.nextCount n, severe := s.severe || e.nextCount n = e.fltN n,
           leakAt := if s.count = 0 then e.clk.aonUs + e.fltPeriod n else s.leakAt }

/-- The device once the occurrence of an enabled source is counted. -/
def Dev.counted (x : Reached) (d : Dev) : Dev :=
  let e := d.occurred x
  let d := e.modSource x.occ.src (e.sourceAfter x.occ.src)
  if e.nextCount x.occ.src = e.fltN x.occ.src then d.bump (fltOff x.occ.src + 0x18) 16 16 else d

/-- The occurrence as its reactions see it. -/
def Dev.countedAs (x : Reached) (d : Dev) : Counted :=
  let n := x.occ.src
  let e := d.occurred x
  let sev := e.nextCount n = e.fltN n
  let d := d.counted x
  ⟨x, sev, e.nextCount n, (d.rd (fltOff n + 0x14)).toNat, d.rdF (fltOff n) (if sev then 22 else 13) 9, d.rd (fltOff n), d.rd (fltOff n + 8),
    d.rd (fltOff n + 12), sev && !(e.source n).severe⟩

theorem countOne_blanked {x : Reached} (h : x.blanked = true) : d.countOne x = (none, d.bump (fltOff x.occ.src + 0x18) 0 16) := if_pos h

theorem rd_occurred {x : Reached} (d : Dev) {k : Nat} (hk : k < 0x14) :
    (d.occurred x).rd (fltOff x.occ.src + k) = d.rd (fltOff x.occ.src + k) :=
  (rd_wr_ne _ _ (by omega)).trans (rd_bump_ne 0 32 d (by omega))

theorem countOne_disabled {x : Reached} (hb : x.blanked = false) (he : d.rdF (fltOff x.occ.src) 31 1 = 0) :
    d.countOne x = (none, d.occurred x) := by
  have h31 : bit ((d.occurred x).rd (fltOff x.occ.src)) 31 = false := (congrArg (bit · 31) (rd_occurred d (k := 0) (by decide))).trans (bit_of_fld_zero he)
  exact (if_neg (by rw [hb]; decide)).trans (if_pos (congrArg Bool.not h31))

theorem countOne_enabled {x : Reached} (hb : x.blanked = false) (he : d.rdF (fltOff x.occ.src) 31 1 = 1) :
    d.countOne x = (some (d.countedAs x), d.counted x) := by
  have h31 : bit ((d.occurred x).rd (fltOff x.occ.src)) 31 = true := (congrArg (bit · 31) (rd_occurred d (k := 0) (by decide))).trans (bit_of_fld_one he)
  refine (if_neg (by rw [hb]; decide)).trans ((if_neg ?_).trans rfl)
  exact fun h => absurd ((congrArg Bool.not h31).symm.trans h) (by decide)

theorem occurred_fltN (x : Reached) (d : Dev) : (d.occurred x).fltN x.occ.src = d.fltN x.occ.src :=
  congrArg (fld · 24 8) (rd_occurred d (k := 4) (by decide))

theorem occurred_nextCount (x : Reached) (d : Dev) : (d.occurred x).nextCount x.occ.src = d.nextCount x.occ.src := by
  rw [Dev.nextCount, occurred_fltN]
  rfl

/-- What counting may change. -/
def countScope (n : Fin 192) : Scope := looseScope [.regs, .watch] [fltOff n + 0x14, fltOff n + 0x1C, fltOff n + 0x18]

theorem Within.occurred (h : Within S d₀ d) {x : Reached} (h1 : S.reg (fltOff x.occ.src + 0x14)) (h2 : S.reg (fltOff x.occ.src + 0x1C))
    (hr : S.Has .regs := by trivial) (hw : S.Has .watch := by trivial) (hc : S.calm = false := by trivial) : Within S d₀ (d.occurred x) := ((h.bump h1).wr h2).modWatch

theorem Within.counted (h : Within S d₀ d) {x : Reached} (h1 : S.reg (fltOff x.occ.src + 0x14)) (h2 : S.reg (fltOff x.occ.src + 0x1C))
    (h3 : S.reg (fltOff x.occ.src + 0x18)) (hr : S.Has .regs := by trivial) (hw : S.Has .watch := by trivial)
    (hc : S.calm = false := by trivial) : Within S d₀ (d.counted x) := by
  unfold Dev.counted
  extract_lets e d1
  have h1 : Within S d₀ d1 := (h.occurred h1 h2).modSource hw fun _ _ => rfl
  exact .ite (fun _ => h1.bump h3) fun _ => h1

theorem counted_watch (x : Reached) (d : Dev) : (d.counted x).watch =
    { d.watch with srcs := d.watch.srcs.set x.occ.src ((d.occurred x).sourceAfter x.occ.src (d.source x.occ.src)), last := b8 x.occ.src } := by
  unfold Dev.counted
  extract_lets e d1
  split
  · rfl
  · rfl

theorem counted_counts (x : Reached) (d : Dev) : Counts (fltOff x.occ.src + 0x14) 0 32 d (d.counted x) := by
  have h : (d.counted x).rd (fltOff x.occ.src + 0x14) = (d.bump (fltOff x.occ.src + 0x14) 0 32).rd (fltOff x.occ.src + 0x14) := by
    unfold Dev.counted
    extract_lets e d1
    have h1 : d1.rd (fltOff x.occ.src + 0x14) = _ := rd_wr_ne _ _ (by omega)
    split
    · exact (rd_bump_ne _ _ _ (by omega)).trans h1
    · exact h1
  exact (bump_counts _ _ (by decide)).after h

theorem counted_severe_counts {x : Reached} (h : d.nextCount x.occ.src = d.fltN x.occ.src) :
    Counts (fltOff x.occ.src + 0x18) 16 16 d (d.counted x) := by
  have hs : (d.occurred x).nextCount x.occ.src = (d.occurred x).fltN x.occ.src := by rw [occurred_nextCount, occurred_fltN, h]
  have hc : d.counted x = _ := if_pos hs
  rw [hc]
  refine (bump_counts _ _ (by decide)).before ?_
  exact (rd_wr_ne _ _ (by omega)).trans (rd_bump_ne 0 32 d (by omega))

theorem countedAs_set (x : Reached) (d : Dev) :
    (d.countedAs x).set = d.rdF (fltOff x.occ.src) (if d.nextCount x.occ.src = d.fltN x.occ.src then 22 else 13) 9 := by
  have h : (d.counted x).rd (fltOff x.occ.src) = d.rd (fltOff x.occ.src) :=
    ((Within.refl (looseScope [.regs, .watch] [fltOff x.occ.src + 0x14, fltOff x.occ.src + 0x1C, fltOff x.occ.src + 0x18]) d).counted
      (.head _) (.tail _ (.head _)) (.tail _ (.tail _ (.head _)))).regs _ (by simp [looseScope]) (not_eventWord_of_lt (by simp only [fltOff]; omega))
  rw [← occurred_nextCount, ← occurred_fltN, Dev.rdF, ← h]
  rfl

/-! ### The occurrences of one cycle -/

theorem flatMap_range_single {α : Type} (x : α) (k : Nat) : ∀ n, (List.range n).flatMap (fun i => if k = i then [x] else []) = if k < n then [x] else []
  | 0 => rfl
  | n + 1 => by
    rw [List.range_succ, List.flatMap_append, flatMap_range_single x k n, List.flatMap_singleton]
    by_cases h : k < n
    · rw [if_pos h, if_neg (Nat.ne_of_lt h), if_pos (Nat.lt_succ_of_lt h), List.append_nil]
    · rw [if_neg h, List.nil_append]
      exact if_congr (by omega) rfl rfl

theorem bySource_single (x : Reached) : bySource [x] = [x] := by
  refine Eq.trans (congrArg (fun f => List.flatMap f (List.range 192)) (funext fun n => ?_))
    ((flatMap_range_single x x.occ.src.val 192).trans (if_pos x.occ.src.isLt))
  rw [List.filter_singleton]
  by_cases h : x.occ.src.val = n
  · simp [h]
  · simp [h]

/-- The device with no occurrence waiting. -/
def Dev.drained (d : Dev) : Dev := d.modWatch fun w => { w with reached := [] }

/-- One occurrence that waits: it is counted, then its reactions act. -/
theorem faultOccurrence_single {x : Reached} (h : d.watch.reached = [x]) {a : Option Counted} {e : Dev}
    (hc : d.drained.countOne x = (a, e)) : faultOccurrence [] d = e.react a.toList := by
  have hall : d.drained.countAll [x] = (a.toList, e) := by
    simp only [Dev.countAll, hc]
    cases a <;> rfl
  rw [faultOccurrence, List.map_nil, List.append_nil, h, bySource_single]
  show (d.drained.countAll [x]).2.react (d.drained.countAll [x]).1 = _
  rw [hall]

/-! ### Reactions -/

theorem forFin_id (n : Nat) (d : Dev) : forFin n (fun _ d => d) d = d := List.foldl_fixed ..

theorem react_nil (d : Dev) : d.react [] = d := by
  simp [Dev.react, onlyIf, forFin_id]

/-- DEVICE_RESET: the reset is asked for, by the first source that does. -/
def Dev.askReset (n : Fin 192) (d : Dev) : Dev :=
  d.modWatch fun w => { w with resetPending := match w.resetPending with | some s => some s | none => some (b8 n) }

/-- The reactions LOG, EVENT, IRQ, ALARM and DEVICE_RESET of one occurrence. -/
def Dev.mildReact (a : Counted) (d : Dev) : Dev :=
  let d := onlyIf (a.has 0) (Dev.faultLog a) d
  let d := onlyIf (a.has 1 || a.has 2) (Dev.faultEvent a) d
  let d := onlyIf (a.has 3) Dev.alarmPulse d
  let d := onlyIf (a.has 3 && a.became) (Dev.ownFault a.at_.occ.src) d
  onlyIf (a.has 8) (Dev.askReset a.at_.occ.src) d

theorem react_mild {a : Counted} (d : Dev) (h4 : a.has 4 = false) (h5 : a.has 5 = false) (h6 : a.has 6 = false) (h7 : a.has 7 = false) :
    d.react [a] = d.mildReact a := by
  have hid : forFin 16 (fun _ d => d) = id := funext (forFin_id 16)
  simp only [Dev.react, Dev.mildReact, List.foldl_cons, List.foldl_nil, List.any_cons, List.any_nil, Bool.or_false, List.filter_cons,
    List.filter_nil, h4, h5, h6, h7, Bool.false_and]
  cases h8 : a.has 8 with
  | true =>
    simp [onlyIf, h8, hid]
    rfl
  | false => simp [onlyIf, h8, hid]

theorem react_quiet {a : Counted} (d : Dev) (h : a.set = 0) : d.react [a] = d := by
  have hb : ∀ b, a.has b = false := fun b => by rw [Counted.has, h, Nat.zero_testBit]
  rw [react_mild d (hb 4) (hb 5) (hb 6) (hb 7)]
  simp [Dev.mildReact, onlyIf, hb]

/-! ### The frames of the mild reactions -/

theorem Within.faultLog (h : Within S d₀ d) {a : Counted} (ho : S.reg 0x03000C) (hr : S.Has .regs := by trivial)
    (hk : S.Has .keeper := by trivial) (hf : S.free = true := by trivial) : Within S d₀ (d.faultLog a) :=
  .ite (fun _ => (h.wrQueue (by omega) hr hf).modKeeper) fun _ => h.bump ho

theorem Within.faultEvent (h : Within S d₀ d) {a : Counted} (hE : S.Events := by trivial) (hf : S.free = true := by trivial) :
    Within S d₀ (d.faultEvent a) := by
  have hh : S.Has .host := hE.1.2.2
  have h1 : Within S d₀ (d.evtEntry (entryBytes 0x10 (eventObject a.at_.occ) (sourceBlock a.at_.occ.src) false a.at_.stamp a.data)) :=
    h.evtEntry fun _ => (length_entryBytes ..).le
  exact .ite (fun _ => .ite (fun _ => h1.signal) fun _ => h1) fun _ => h1

theorem Within.queueFault (h : Within S d₀ d) {e : BitVec 64} (ho : S.reg 0x280024) (hr : S.Has .regs := by trivial)
    (hw : S.Has .watch := by trivial) (ht : S.Has .tide := by trivial) : Within S d₀ (d.queueFault e) :=
  .ite (fun _ => h.modTide) fun _ => (h.bump ho).occur

theorem Within.ownFault (h : Within S d₀ d) {n : Nat} (ho : S.reg 0x280024) (hr : S.Has .regs := by trivial)
    (hw : S.Has .watch := by trivial) (ht : S.Has .tide := by trivial) : Within S d₀ (d.ownFault n) := h.queueFault ho

/-- The entries of one occurrence: LOG, EVENT and IRQ. -/
def Dev.faultEntries (a : Counted) (d : Dev) : Dev :=
  onlyIf (a.has 1 || a.has 2) (Dev.faultEvent a) (onlyIf (a.has 0) (Dev.faultLog a) d)

theorem Within.faultEntries (h : Within S d₀ d) {a : Counted} (ho : S.reg 0x03000C) (hE : S.Events := by trivial)
    (hf : S.free = true := by trivial) : Within S d₀ (d.faultEntries a) :=
  have ⟨⟨_, _, _⟩, _⟩ := hE
  (h.onlyIf fun _ h => h.faultLog ho).onlyIf fun _ h => h.faultEvent

theorem Within.mildReact (h : Within S d₀ d) {a : Counted} (ho : S.reg 0x03000C) (hq : S.reg 0x280024) (hE : S.Events := by trivial)
    (hw : S.Has .watch := by trivial) (ht : S.Has .tide := by trivial) (hf : S.free = true := by trivial)
    (hc : S.calm = false := by trivial) : Within S d₀ (d.mildReact a) := by
  have ⟨⟨_, _, _⟩, _⟩ := hE
  have h1 : Within S d₀ (d.faultEntries a) := h.faultEntries ho
  exact ((h1.onlyIf fun _ h => h.modWatch).onlyIf fun _ h => h.ownFault hq).onlyIf fun _ h => h.modWatch

theorem ownFault_watch (n : Nat) (d : Dev) : ∃ l, (d.ownFault n).watch = { d.watch with reached := l } := by
  unfold Dev.ownFault Dev.queueFault
  split
  · exact ⟨_, rfl⟩
  · exact ⟨_, rfl⟩

/-- What the mild reactions leave of the Watch: the start of the pulse and the reset asked for, and what its queue of faults reports. -/
theorem mildReact_watch (a : Counted) (d : Dev) : ∃ l, (d.mildReact a).watch = { d.watch with
    reached := l
    pulseTo := if a.has 3 then some (d.clk.aonUs + d.rdF 0x030000 10 17) else d.watch.pulseTo
    resetPending := if a.has 8 then (Dev.askReset a.at_.occ.src d).watch.resetPending else d.watch.resetPending } := by
  have h1 : Within (looseScope [.regs, .bar4, .host, .keeper] [0x03000C]) d (d.faultEntries a) := (Within.refl _ d).faultEntries (.head _)
  have hrd : (d.faultEntries a).rd 0x030000 = d.rd 0x030000 := h1.regs _ (by simp [looseScope]) (not_eventWord_of_lt (by decide))
  have hw := h1.watch
  have hc := h1.clk
  show ∃ l, (onlyIf (a.has 8) (Dev.askReset a.at_.occ.src) (onlyIf (a.has 3 && a.became) (Dev.ownFault a.at_.occ.src)
    (onlyIf (a.has 3) Dev.alarmPulse (d.faultEntries a)))).watch = _
  generalize d.faultEntries a = e at *
  have h2 : (onlyIf (a.has 3) Dev.alarmPulse e).watch =
      { d.watch with pulseTo := if a.has 3 then some (d.clk.aonUs + d.rdF 0x030000 10 17) else d.watch.pulseTo } := by
    rw [← hw, ← hc, Dev.rdF, ← hrd]
    cases a.has 3 <;> rfl
  generalize onlyIf (a.has 3) Dev.alarmPulse e = e2 at *
  have h3 : ∃ l, (onlyIf (a.has 3 && a.became) (Dev.ownFault a.at_.occ.src) e2).watch = { e2.watch with reached := l } := by
    cases a.has 3 && a.became with
    | true => exact ownFault_watch _ e2
    | false => exact ⟨_, rfl⟩
  obtain ⟨l, h3⟩ := h3
  rw [h2] at h3
  generalize onlyIf (a.has 3 && a.became) (Dev.ownFault a.at_.occ.src) e2 = e3 at *
  refine ⟨l, ?_⟩
  cases a.has 8 with
  | true =>
    show (Dev.askReset a.at_.occ.src e3).watch = _
    rw [Dev.askReset, modWatch_watch, h3]
    rfl
  | false => exact h3

/-! ### The statement -/

theorem countedAs_has {x : Reached} {b : Nat} (hb : b < 9) :
    (d.countedAs x).has b = bit (d.rd (fltOff x.occ.src)) ((if d.nextCount x.occ.src = d.fltN x.occ.src then 22 else 13) + b) := by
  rw [Counted.has, countedAs_set, Dev.rdF, testBit_fld]
  simp [hb]

theorem countedAs_has_severe {x : Reached} {b : Nat} (h : d.nextCount x.occ.src = d.fltN x.occ.src) (hb : b < 9)
    (hbit : d.rdF (fltOff x.occ.src) (22 + b) 1 = 1) : (d.drained.countedAs x).has b = true :=
  (countedAs_has hb).trans ((congrArg (fun k => bit _ (k + b)) (if_pos h)).trans (bit_of_fld_one hbit))

theorem countedAs_has_single {x : Reached} {b : Nat} (h : d.nextCount x.occ.src ≠ d.fltN x.occ.src) (hb : b < 9)
    (hbit : d.rdF (fltOff x.occ.src) (13 + b) 1 = 1) : (d.drained.countedAs x).has b = true :=
  (countedAs_has hb).trans ((congrArg (fun k => bit _ (k + b)) (if_neg h)).trans (bit_of_fld_one hbit))

/-- What counting and the mild reactions change. -/
def mildScope (n : Fin 192) : Scope :=
  looseScope [.regs, .bar4, .host, .keeper, .watch, .tide] [fltOff n + 0x14, fltOff n + 0x1C, fltOff n + 0x18, 0x03000C, 0x280024]

/-- An occurrence of an enabled source with mild reactions alone. -/
theorem faultOccurrence_mild {x : Reached} (h : d.watch.reached = [x]) (hb : x.blanked = false)
    (he : d.rdF (fltOff x.occ.src) 31 1 = 1) (h26 : d.rdF (fltOff x.occ.src) 26 4 = 0) (h17 : d.rdF (fltOff x.occ.src) 17 4 = 0) :
    faultOccurrence [] d = (d.drained.counted x).mildReact (d.drained.countedAs x) := by
  have hbit : ∀ k, k < 4 → (d.drained.countedAs x).has (4 + k) = false := by
    intro k hk
    rw [countedAs_has (by omega)]
    split
    · exact (congrArg (bit _) (Nat.add_assoc 22 4 k).symm).trans (bit_of_field_zero h26 hk)
    · exact (congrArg (bit _) (Nat.add_assoc 13 4 k).symm).trans (bit_of_field_zero h17 hk)
  rw [faultOccurrence_single h (countOne_enabled hb he)]
  exact react_mild _ (hbit 0 (by decide)) (hbit 1 (by decide)) (hbit 2 (by decide)) (hbit 3 (by decide))

/-- COUNT and SEVERE of every source where the sources are those that counting left. -/
theorem source_counted {x : Reached} {t : Dev} (h : t.watch.srcs = (d.drained.counted x).watch.srcs) :
    (t.source x.occ.src).count = d.nextCount x.occ.src ∧
      ((t.source x.occ.src).severe = true ↔ ((d.source x.occ.src).severe = true ∨ d.nextCount x.occ.src = d.fltN x.occ.src)) ∧
      ∀ n, n ≠ x.occ.src → t.source n = d.source n := by
  have hs : t.watch.srcs = d.watch.srcs.set x.occ.src ((d.drained.occurred x).sourceAfter x.occ.src (d.source x.occ.src)) :=
    h.trans (congrArg Watch.srcs (counted_watch x _))
  have hn : t.source x.occ.src = (d.drained.occurred x).sourceAfter x.occ.src (d.source x.occ.src) := by
    rw [Dev.source, hs, get_set_same]
  refine ⟨?_, ?_, fun n hne => ?_⟩
  · rw [hn]
    exact occurred_nextCount x d.drained
  · rw [hn, Dev.sourceAfter, occurred_nextCount, occurred_fltN, Bool.or_eq_true, decide_eq_true_iff]
    rfl
  · rw [Dev.source, hs, get_set_ne _ _ hne, Dev.source]

theorem askReset_isSome (n : Fin 192) (d : Dev) : (d.askReset n).watch.resetPending.isSome = true := by
  show (match d.watch.resetPending with | some s => some s | none => some (b8 n)).isSome = true
  cases d.watch.resetPending <;> rfl

/-- ALARM starts its pulse, and DEVICE_RESET asks for its reset. -/
theorem mildReact_alarm {x : Reached} {a : Counted} (h : a.has 3 = true) :
    ((d.drained.counted x).mildReact a).watch.pulseTo = some (d.clk.aonUs + d.rdF 0x030000 10 17) := by
  obtain ⟨l, hw⟩ := mildReact_watch a (d.drained.counted x)
  have hc : Within (countScope x.occ.src) d (d.drained.counted x) :=
    (Within.refl _ d).modWatch.counted (.head _) (.tail _ (.head _)) (.tail _ (.tail _ (.head _)))
  have hrd : (d.drained.counted x).rd 0x030000 = d.rd 0x030000 := by
    refine hc.regs _ (fun h => ?_) (not_eventWord_of_lt (by decide))
    simp only [countScope, looseScope, fltOff, List.mem_cons, List.not_mem_nil, or_false] at h
    omega
  rw [hw, h, if_pos rfl, hc.clk, Dev.rdF, hrd, Dev.rdF]

theorem mildReact_reset {a : Counted} (h : a.has 8 = true) : (d.mildReact a).watch.resetPending.isSome = true := by
  obtain ⟨l, hw⟩ := mildReact_watch a d
  rw [hw, h, if_pos rfl]
  exact askReset_isSome _ d

/-- Settles O31: one occurrence is counted by `Dev.countOne`; then no reaction acts, or the mild ones in their order. -/
theorem watchCountsOneOccurrence : Obligations.WatchCountsOneOccurrence := by
  refine ⟨fun extra l e s h => ?_, fun x s hx => ⟨fun hb => ?_, fun hb he => ?_, fun hb he h22 h13 => ?_, fun hb he h26 h17 => ?_⟩⟩
  · refine exec_run rfl ?_
    rw [faultOccurrence, h]
  · have hrun := (faultOccurrence_single hx (countOne_blanked hb)).trans (react_nil _)
    exact ⟨_, exec_run rfl hrun, rfl, bump_counts _ s.dev (by decide), rfl, rfl,
      (Within.refl (looseScope [.regs] [fltOff x.occ.src + 0x18]) s.dev).bump (.head _) |>.keepsRegs fun _ h => h⟩
  · have hrun := (faultOccurrence_single hx (countOne_disabled hb he)).trans (react_nil _)
    exact ⟨_, exec_run rfl hrun, (bump_counts _ s.dev (by decide)).after (rd_wr_ne _ _ (by omega)), rfl, rfl⟩
  · have hset : (s.dev.drained.countedAs x).set = 0 := by
      rw [countedAs_set]
      split
      · exact h22
      · exact h13
    have hrun := (faultOccurrence_single hx (countOne_enabled hb he)).trans (react_quiet _ hset)
    obtain ⟨hcount, hsev, hne⟩ := source_counted (d := s.dev) (x := x) rfl
    exact ⟨_, exec_run rfl hrun, rfl, counted_counts x s.dev.drained, hcount, hsev, fun h => counted_severe_counts (d := s.dev.drained) h,
      congrArg Watch.last (counted_watch x _), hne,
      ((Within.refl (partScope [.regs, .watch]) s.dev).modWatch.counted trivial trivial trivial).eq⟩
  · have hrun := faultOccurrence_mild hx hb he h26 h17
    obtain ⟨l, hw⟩ := mildReact_watch (s.dev.drained.countedAs x) (s.dev.drained.counted x)
    have hm := (Within.refl (looseScope [.regs, .bar4, .host, .keeper, .watch, .tide] [0x03000C, 0x280024]) (s.dev.drained.counted x)).mildReact
      (a := s.dev.drained.countedAs x) (.head _) (.tail _ (.head _))
    have hall := (Within.refl (mildScope x.occ.src) s.dev).modWatch (f := fun w => { w with reached := [] })
      |>.counted (x := x) (.head _) (.tail _ (.head _)) (.tail _ (.tail _ (.head _))) |>.mildReact (a := s.dev.drained.countedAs x)
        (.tail _ (.tail _ (.tail _ (.head _)))) (.tail _ (.tail _ (.tail _ (.tail _ (.head _)))))
    obtain ⟨hcount, hsev, hne⟩ := source_counted (d := s.dev) (x := x) ((congrArg Watch.srcs hw).trans rfl)
    have hocc : ((s.dev.drained.counted x).mildReact (s.dev.drained.countedAs x)).rd (fltOff x.occ.src + 0x14) =
        (s.dev.drained.counted x).rd (fltOff x.occ.src + 0x14) := by
      refine hm.regs _ (fun h => ?_) (not_eventWord_of_lt (by simp only [fltOff]; omega))
      simp only [looseScope, fltOff, List.mem_cons, List.not_mem_nil, or_false] at h
      omega
    exact ⟨_, exec_run rfl hrun, rfl, (counted_counts x s.dev.drained).after hocc, hcount, hsev,
      (congrArg Watch.last hw).trans (congrArg Watch.last (counted_watch x _)), hne,
      fun hN => ⟨fun h => mildReact_alarm (countedAs_has_severe hN (by decide) h), fun h => mildReact_reset (countedAs_has_severe hN (by decide) h)⟩,
      fun hN => ⟨fun h => mildReact_alarm (countedAs_has_single hN (by decide) h), fun h => mildReact_reset (countedAs_has_single hN (by decide) h)⟩,
      hall.clk, hall.chans, hall.outs, hall.otp⟩

end Sys2Proof.Machine
end

section
/-! The frames of channels, time scales, Lanterns and the autopilot, for scopes that let them run. -/

namespace Sys2Proof.Machine

set_option Elab.async false

variable {S : Scope} {d d₀ : Dev}

/-- A word of a slot that its loss, its restart or its qualification writes. -/
def SlotWord (a : Nat) : Prop := ∃ n : Fin 64, ∃ k ∈ [0x24, 0x50, 0x1A4], a = buoyOff n + k

/-- The scope lets channels, Lanterns and outputs run: their registers, their events and what they report. -/
structure Scope.Runs (S : Scope) : Prop where
  reg : ∀ a, 0x100000 ≤ a ∧ a < 0x200000 ∨ SlotWord a → S.reg a
  events : S.Events
  watch : S.Has .watch
  chans : S.Has .chans
  lans : S.Has .lans
  outs : S.Has .outs
  vouts : S.Has .vouts

theorem Scope.Runs.lanReg (hS : S.Runs) (n : Fin 8) {k : Nat} (hk : k < 0x100 := by decide) : S.reg (lanOff n + k) :=
  hS.reg _ (.inl (by simp only [lanOff]; omega))

theorem Scope.Runs.chanReg (hS : S.Runs) (c : Fin 16) {k : Nat} (hk : k < 0x1000 := by decide) : S.reg (chanOff c + k) :=
  hS.reg _ (.inl (by simp only [chanOff]; omega))

theorem Scope.Runs.tsReg (hS : S.Runs) (n : Fin 4) {k : Nat} (hk : k < 0x100 := by decide) : S.reg (tsOff n + k) :=
  hS.reg _ (.inl (by simp only [tsOff]; omega))

theorem Scope.Runs.buoyReg (hS : S.Runs) (n : Fin 64) {k : Nat} (hk : k ∈ [0x24, 0x50, 0x1A4] := by decide) : S.reg (buoyOff n + k) :=
  hS.reg _ (.inr ⟨n, k, hk, rfl⟩)

theorem SlotWord.lt {a : Nat} (h : SlotWord a) : 0x80000 ≤ a ∧ a < 0x88000 := by
  obtain ⟨n, k, hk, rfl⟩ := h
  simp only [List.mem_cons, List.not_mem_nil, or_false] at hk
  simp only [buoyOff]
  omega

/-! ### Lanterns and outputs -/

theorem Within.lanLevel (h : Within S d₀ d) {n : Fin 8} (hl : S.Has .lans := by trivial) (hE : S.Events := by trivial)
    (ho : S.Has .outs := by trivial) (hv : S.Has .vouts := by trivial) : Within S d₀ (d.lanLevel n) :=
  .ite (fun _ => h.lanTo) fun _ => .ite (fun _ => h.lanTo) fun _ => h.routedRefresh

theorem Within.lanChanged (h : Within S d₀ d) {n : Fin 8} {ratio : Bool} (hl : S.Has .lans := by trivial) (hE : S.Events := by trivial)
    (ho : S.Has .outs := by trivial) (hv : S.Has .vouts := by trivial) : Within S d₀ (d.lanChanged n ratio) :=
  .ite (fun _ => h.lanTo) fun _ => h.lanLevel

theorem Within.lanternsXo (h : Within S d₀ d) (hl : S.Has .lans := by trivial) (hE : S.Events := by trivial)
    (ho : S.Has .outs := by trivial) (hv : S.Has .vouts := by trivial) : Within S d₀ d.lanternsXo := h.forFin fun _ _ h => h.lanLevel

theorem Within.chanOutputs (h : Within S d₀ d) {c : Fin 16} (ho : S.Has .outs := by trivial) : Within S d₀ (d.chanOutputs c) :=
  h.forFin fun _ _ h => h.onlyIf fun _ h => h.outRefresh

theorem Within.realign (h : Within S d₀ d) {c : Fin 16} {g : Int} (hS : S.Runs) : Within S d₀ (d.realign c g) := by
  have ⟨_, hE, _, _, _, _, _⟩ := hS
  have ⟨⟨_, _, _⟩, _⟩ := hE
  refine h.forFin fun n d h => .ite (fun _ => ?_) fun _ => h
  cases (List.finRange 48).filter fun (m : Fin 48) => d.outLan m = n && (d.out m).pin = .running with
  | nil => exact h.modLan
  | cons m l =>
    have h1 : Within S d₀ (d.modLan n fun l => { l with grid := l.grid - g }) := h.modLan
    exact (Within.foldl h1 (fun _ _ h => h.modOut.outRefresh) (m :: l)).bump (hS.lanReg n) |>.event

theorem Within.anchorClear (h : Within S d₀ d) {c : Fin 16} (ho : S.Has .outs := by trivial) (hv : S.Has .vouts := by trivial) :
    Within S d₀ (d.anchorClear c) :=
  (h.forFin fun _ _ h => h.onlyIf fun _ h => h.modOut.outRefresh).forFin fun _ _ h => h.onlyIf fun _ h => h.modVout.voutRefresh

theorem Within.sigStep (h : Within S d₀ d) {n : Fin 4} {g0 g1 : Int} (ho : S.Has .outs := by trivial) : Within S d₀ (d.sigStep n g0 g1) :=
  h.forFin fun _ _ h => .ite (fun _ => h.modOut) fun _ => h

theorem Within.voutStep (h : Within S d₀ d) {n : Fin 4} {g0 g1 : Int} (hv : S.Has .vouts := by trivial) : Within S d₀ (d.voutStep n g0 g1) :=
  h.forFin fun _ _ h => h.onlyIf fun _ h => .ite (fun _ => h.modVout) fun _ => h

/-! ### Time scales -/

theorem Within.noticeJudge (h : Within S d₀ d) {n : Fin 4} {g : Int} (ht : S.Has .ts := by trivial) : Within S d₀ (d.noticeJudge n g) := h.modTs

theorem Within.tsStepped (h : Within S d₀ d) {n : Fin 4} {cause : Nat} {p : Int × Int × Nat} {g0 g1 : Int} (hreg : S.reg (tsOff n + 0x70))
    (hE : S.Events := by trivial) (ht : S.Has .ts := by trivial) (ho : S.Has .outs := by trivial) (hv : S.Has .vouts := by trivial) :
    Within S d₀ (d.tsStepped n cause p g0 g1) :=
  have ⟨⟨_, _, _⟩, _⟩ := hE
  (h.bump hreg).event.noticeJudge.sigStep.voutStep

theorem Within.loadRefresh (h : Within S d₀ d) (hw : S.Has .watch := by trivial) (hl : S.load = true := by trivial) : Within S d₀ d.loadRefresh :=
  h.setCond hw (.inr hl)

theorem Within.tsTo (h : Within S d₀ d) {n : Fin 4} {st : TsState} {row : Nat} (ht : S.Has .ts := by trivial) (hE : S.Events := by trivial)
    (hw : S.Has .watch := by trivial) (hl : S.load = true := by trivial) : Within S d₀ (d.tsTo n st row) := h.modTs.stateEv.loadRefresh

theorem Within.tsJump (h : Within S d₀ d) {c : Fin 16} {j : Int} (hS : S.Runs) (ht : S.Has .ts := by trivial) : Within S d₀ (d.tsJump c j) := by
  have ⟨_, hE, _, _, _, _, _⟩ := hS
  exact h.forFin fun n _ h => .ite (fun _ => .ite (fun _ => h.modTs.tsStepped (hS.tsReg n)) fun _ => h.modTs) fun _ => h

/-! ### Channels -/

theorem Within.modLoop (h : Within S d₀ d) {c : Fin 16} {f : Loop → Loop} (hc : S.Has .chans := by trivial) : Within S d₀ (d.modLoop c f) := h.modChan
theorem Within.modTrack (h : Within S d₀ d) {c : Fin 16} {f : Track → Track} (hc : S.Has .chans := by trivial) : Within S d₀ (d.modTrack c f) := h.modChan
theorem Within.modSw (h : Within S d₀ d) {c : Fin 16} {f : Switching → Switching} (hc : S.Has .chans := by trivial) : Within S d₀ (d.modSw c f) := h.modChan
theorem Within.modHo (h : Within S d₀ d) {c : Fin 16} {f : Holdover → Holdover} (hc : S.Has .chans := by trivial) : Within S d₀ (d.modHo c f) := h.modChan
theorem Within.modSel (h : Within S d₀ d) {c : Fin 16} {f : Select → Select} (hc : S.Has .chans := by trivial) : Within S d₀ (d.modSel c f) := h.modChan
theorem Within.histClear (h : Within S d₀ d) {c : Fin 16} (hc : S.Has .chans := by trivial) : Within S d₀ (d.histClear c) := h.modHo

theorem Within.coefs (h : Within S d₀ d) {c : Fin 16} (h0 : S.reg (chanOff c + 0x60)) (h1 : S.reg (chanOff c + 0x64))
    (h2 : S.reg (chanOff c + 0x68)) (hr : S.Has .regs := by trivial) (hc : S.Has .chans := by trivial) : Within S d₀ (d.coefs c) := by
  unfold Dev.coefs
  extract_lets t bw damp t3r clamp ulps
  exact (((h.wr h0).wr h1).wr h2).modChan

theorem Within.chanReconf (h : Within S d₀ d) {c : Fin 16} (h0 : S.reg (chanOff c + 0x60)) (h1 : S.reg (chanOff c + 0x64))
    (h2 : S.reg (chanOff c + 0x68)) (hr : S.Has .regs := by trivial) (hc : S.Has .chans := by trivial) : Within S d₀ (d.chanReconf c) := by
  unfold Dev.chanReconf
  extract_lets d1
  have hd : Within S d₀ d1 := .ite (fun _ => h) fun _ => h.modLoop
  exact .ite (fun _ => hd.coefs h0 h1 h2) fun _ => hd

theorem fsHoldover_ne_load (c : Fin 16) : fsHoldover c ≠ 146 := fun h => by
  have : 64 + c.val = 146 := congrArg Fin.val h
  omega

theorem fsLost_ne_load (c : Fin 16) : fsLost c ≠ 146 := fun h => by
  have : 80 + c.val = 146 := congrArg Fin.val h
  omega

theorem Within.chanTo (h : Within S d₀ d) {c : Fin 16} {st : ChState} {row : Nat} (hS : S.Runs) : Within S d₀ (d.chanTo c st row) := by
  have ⟨_, hE, _, _, _, _, _⟩ := hS
  have ⟨⟨_, _, _⟩, _⟩ := hE
  unfold Dev.chanTo
  extract_lets old d1 d2 d3 d4 d5 d6 d7
  have h3 : Within S d₀ d3 := (h.modChan.stateEv.setCond (hl := .inl (fsHoldover_ne_load c))).setCond (hl := .inl (fsLost_ne_load c))
  have h4 : Within S d₀ d4 := .ite (fun _ => h3) fun _ => h3.occur
  have h5 : Within S d₀ d5 := .ite (fun _ => h4.bump (hS.chanReg c)) fun _ => h4
  have h6 : Within S d₀ d6 := .ite (fun _ => (h5.bump (hS.chanReg c)).anchorClear) fun _ => h5
  have h7 : Within S d₀ d7 := .ite (fun _ => h6.bump (hS.chanReg c)) fun _ => h6
  exact .ite (fun _ => h) fun _ => .ite (fun _ => h7.chanOutputs) fun _ => h7

theorem Within.chanPub40 (h : Within S d₀ d) {c : Fin 16} {k : Nat} {v : Int} (hS : S.Runs) (hk : k + 4 < 0x1000 := by decide) :
    Within S d₀ (d.pub40 (chanOff c + k) v) :=
  have ⟨⟨_, _, _⟩, _⟩ := hS.events
  h.pub40 (hS.chanReg c (by omega)) (hS.chanReg c hk)

theorem Within.pubPhisw (h : Within S d₀ d) {c : Fin 16} (hS : S.Runs) : Within S d₀ (d.pubPhisw c) := h.chanPub40 hS

theorem Within.pubY (h : Within S d₀ d) {c : Fin 16} (hS : S.Runs) : Within S d₀ (d.pubY c) := by
  have ⟨_, hE, _, _, _, _, _⟩ := hS
  unfold Dev.pubY
  extract_lets l y d1 d2
  have h1 : Within S d₀ d1 := h.modLoop
  have h2 : Within S d₀ d2 := (h1.chanPub40 hS).chanPub40 hS
  exact h2.forFin fun _ _ h => h.onlyIf fun _ h => h.modLan

theorem Within.switchDone (h : Within S d₀ d) {c : Fin 16} (hE : S.Events := by trivial) (hc : S.Has .chans := by trivial) :
    Within S d₀ (d.switchDone c) := h.modSw.event

theorem Within.jump (h : Within S d₀ d) {c : Fin 16} {g : Int} (hS : S.Runs) (ht : S.Has .ts := by trivial) : Within S d₀ (d.jump c g) := by
  have ⟨_, hE, _, _, _, _, _⟩ := hS
  have ⟨⟨_, _, _⟩, _⟩ := hE
  unfold Dev.jump
  extract_lets d1 d2
  have h2 : Within S d₀ d2 := h.modLoop.modTrack
  exact ((h2.bump (hS.chanReg c)).realign hS).tsJump hS

theorem Within.takeD (h : Within S d₀ d) {c : Fin 16} {g : Int} {ended : Bool} (hS : S.Runs) (ht : S.Has .ts := by trivial) : Within S d₀ (d.takeD c g ended) := by
  have ⟨_, hE, _, _, _, _, _⟩ := hS
  have ⟨⟨_, _, _⟩, _⟩ := hE
  unfold Dev.takeD
  extract_lets m d1 d2 d3
  have h2 : Within S d₀ d2 := (h.chanPub40 hS).modSw
  have h3 : Within S d₀ d3 := .ite (fun _ => (h2.bump (hS.chanReg c)).event) fun _ => h2
  cases m.1 with
  | pass => exact h3.modLoop.modSw.pubPhisw hS
  | absorb => exact (h3.modLoop.pubPhisw hS).switchDone
  | jump => exact ((h3.jump hS).pubPhisw hS).switchDone

theorem Within.switchAbort (h : Within S d₀ d) {c : Fin 16} (hS : S.Runs) : Within S d₀ (d.switchAbort c) := by
  have ⟨_, hE, _, _, _, _, _⟩ := hS
  have ⟨⟨_, _, _⟩, _⟩ := hE
  unfold Dev.switchAbort
  extract_lets x d1
  have h1 : Within S d₀ d1 := .ite (fun _ => (h.chanPub40 hS).bump (hS.chanReg c)) fun _ => h
  exact h1.modSw

theorem Within.partnerClear (h : Within S d₀ d) {c : Fin 16} (hE : S.Events := by trivial) (hc : S.Has .chans := by trivial) :
    Within S d₀ (d.partnerClear c) := by
  unfold Dev.partnerClear
  extract_lets s
  cases s.partner with
  | none => exact h
  | some o => exact h.modSel.event

theorem Within.stopTracking (h : Within S d₀ d) {c : Fin 16} {keep : Bool} (hS : S.Runs) : Within S d₀ (d.stopTracking c keep) := by
  have ⟨_, hE, _, _, _, _, _⟩ := hS
  unfold Dev.stopTracking
  extract_lets stays d1 d2
  have h2 : Within S d₀ d2 := (h.switchAbort hS).modTrack
  exact h2.modLoop.pubPhisw hS

theorem Within.freezeAt (h : Within S d₀ d) {c : Fin 16} {frz : Int} {base : Int × BitVec 2 × Nat × Option Int} (hS : S.Runs) :
    Within S d₀ (d.freezeAt c frz base) := by
  have ⟨_, hE, _, _, _, _, _⟩ := hS
  have ⟨⟨_, _, _⟩, _⟩ := hE
  unfold Dev.freezeAt
  extract_lets d1 d2 d3
  have h2 : Within S d₀ d2 := (h.stopTracking hS).modLoop.modHo
  have h3 : Within S d₀ d3 := (h2.chanPub40 hS).bump (hS.chanReg c)
  exact h3.pubY hS

theorem Within.lossRows (h : Within S d₀ d) {c : Fin 16} {frz : Int} {base : Int × BitVec 2 × Nat × Option Int} (hS : S.Runs) :
    Within S d₀ (d.lossRows c frz base) := by
  have ⟨_, hE, _, _, _, _, _⟩ := hS
  exact .ite (fun _ => ((h.stopTracking hS).modHo.histClear.pubY hS).chanTo hS)
    fun _ => .ite (fun _ => (h.freezeAt hS).chanTo hS) fun _ => (h.freezeAt hS).histClear.chanTo hS

theorem Within.leaveSlot (h : Within S d₀ d) {c : Fin 16} {orphan : Bool} (hS : S.Runs) : Within S d₀ (d.leaveSlot c orphan) := by
  have ⟨_, hE, _, _, _, _, _⟩ := hS
  exact .ite (fun _ => h.partnerClear.modSel.lossRows hS) fun _ => h.partnerClear.modSel

theorem Within.chanHold (h : Within S d₀ d) {c : Fin 16} (hS : S.Runs) : Within S d₀ (d.chanHold c) := by
  have ⟨_, hE, _, _, _, _, _⟩ := hS
  refine .ite (fun _ => ?_) fun _ => h
  exact ((h.modTrack.partnerClear.modSel.switchAbort hS).modLoop.pubPhisw hS).modHo

theorem Within.chanBack (h : Within S d₀ d) {c : Fin 16} (hS : S.Runs) : Within S d₀ (d.chanBack c) :=
  .ite (fun _ => h.lossRows hS) fun _ => h

theorem Within.toFreeRun (h : Within S d₀ d) {c : Fin 16} {m : ChMode} (hS : S.Runs) : Within S d₀ (d.toFreeRun c m) := by
  have ⟨_, hE, _, _, _, _, _⟩ := hS
  unfold Dev.toFreeRun
  extract_lets y d1 d2 d3 d4 d5
  have h2 : Within S d₀ d2 := (h.partnerClear.modSel.stopTracking hS).modChan
  have h3 : Within S d₀ d3 := .ite (fun _ => h2.chanPub40 hS) fun _ => h2
  have h4 : Within S d₀ d4 := h3.modHo
  have h5 : Within S d₀ d5 := .ite (fun _ => h4) fun _ => h4.histClear
  exact (h5.pubY hS).chanTo hS

theorem Within.startPull (h : Within S d₀ d) {c : Fin 16} (hc : S.Has .chans := by trivial) : Within S d₀ (d.startPull c) :=
  h.modTrack.modLoop.histClear

theorem Within.follow (h : Within S d₀ d) {c : Fin 16} {n : Fin 64} {src : SelSrc} (hS : S.Runs) : Within S d₀ (d.follow c n src) := by
  have ⟨_, hE, _, _, _, _, _⟩ := hS
  have ⟨⟨_, _, _⟩, _⟩ := hE
  unfold Dev.follow
  extract_lets x cls d1 d2 d3 d4 phase d5
  have h3 : Within S d₀ d3 := h.partnerClear.modSel.modChan.modTrack
  have h4 : Within S d₀ d4 := .ite (fun _ => h3.coefs (hS.chanReg c) (hS.chanReg c) (hS.chanReg c)) fun _ => h3
  have h5 : Within S d₀ d5 := h4.modSw
  cases x.st with
  | locked => exact h5.chanTo hS
  | acquiring => exact h5
  | holdover => exact h5.modHo.chanTo hS
  | lost => exact h5.startPull.chanTo hS
  | freeRun => exact h5.startPull.chanTo hS

/-! ### Selection and the autopilot -/

theorem Within.disarm (h : Within S d₀ d) {c : Fin 16} (hreg : S.reg (chanOff c + 0xC10)) (hr : S.Has .regs := by trivial)
    (hc : S.Has .chans := by trivial) : Within S d₀ (d.disarm c) := h.modSel.wrF hreg

theorem Within.selectSlot (h : Within S d₀ d) {c : Fin 16} {n : Fin 64} {force auto : Bool} (hS : S.Runs) :
    Within S d₀ (d.selectSlot c n force auto).2 := by
  have ⟨_, hE, _, _, _, _, _⟩ := hS
  have ⟨⟨_, _, _⟩, _⟩ := hE
  have hL : S.Logs := hE.1
  unfold Dev.selectSlot
  extract_lets x src d1 d2
  have h1 : Within S d₀ d1 := .ite (fun _ => h.modSel) fun _ => h.follow hS
  have h2 : Within S d₀ d2 := h1.bump (hS.chanReg c)
  split
  · exact h.disarm (hS.chanReg c)
  split
  · exact h.disarm (hS.chanReg c)
  split
  · exact h
  split
  · exact h
  · exact .ite (fun _ => (h2.disarm (hS.chanReg c)).occur.logEnt) fun _ => h2

theorem Within.autopilot (h : Within S d₀ d) {c : Fin 16} (hS : S.Runs) : Within S d₀ (d.autopilot c) := by
  have hL : S.Logs := hS.events.1
  unfold Dev.autopilot
  refine .ite (fun _ => ?_) fun _ => h
  cases d.bestSlot c 16 with
  | none => exact h
  | some s =>
    have h1 : Within S d₀ (d.selectSlot c s false true).2 := h.selectSlot hS
    dsimp only
    split
    · exact h1.logEnt
    · exact h1

theorem Within.autopilotFor (h : Within S d₀ d) {l : List (Fin 16)} (hS : S.Runs) : Within S d₀ (d.autopilotFor l) :=
  h.foldl (fun _ _ h => h.autopilot hS) l

theorem Within.autopilotAll (h : Within S d₀ d) (hS : S.Runs) : Within S d₀ d.autopilotAll := h.forFin fun _ _ h => h.autopilot hS

/-! ### A scope that lets them run -/

/-- The parts that channels, Lanterns and outputs change as they run. -/
def runParts : List Part := [.regs, .bar4, .host, .keeper, .watch, .chans, .lans, .outs, .vouts]

/-- The scope of some parts with any register but the set-up words of the event ring and the log ring and, of the rings, entries of
those two. -/
def quietScope (l : List Part) : Scope := ⟨l, fun a => ¬ CfgWord a, false, true, true, fun _ _ h => h⟩

theorem quietScope_runs {l : List Part} (h : ∀ p ∈ runParts, l.elem p = true) : (quietScope l).Runs := by
  simp only [runParts, List.forall_mem_cons, List.not_mem_nil, false_implies, implies_true, and_true] at h
  obtain ⟨hr, hb, hh, hk, hw, hc, hl, ho, hv⟩ := h
  exact ⟨fun a h => not_cfgWord_of_lt (h.elim (fun h => by omega) fun h => by have := h.lt; omega), ⟨⟨hr, hb, hh⟩, hk⟩, hw, hc, hl, ho, hv⟩

end Sys2Proof.Machine
end

section
/-! The timers of the Watch and the return of a reset block (R391, R397, R404). -/

namespace Sys2Proof.Machine

set_option Elab.async false

variable {d : Dev}

theorem setReady_blockReady (b k : Fin 17) (d : Dev) : (d.setReady b true).blockReady k = (d.blockReady k || decide (b = k)) := by
  show (d.top.blk ||| BitVec.ofNat 17 (2 ^ b.val)).getLsbD k = _
  rw [BitVec.getLsbD_or, BitVec.getLsbD_ofNat, Nat.testBit_two_pow, Dev.blockReady]
  simp [Fin.ext_iff, k.isLt]

theorem setReady_blockReady_same (b : Fin 17) (d : Dev) : (d.setReady b true).blockReady b = true := by
  simp [setReady_blockReady]

theorem setReady_blockReady_ne {b k : Fin 17} (d : Dev) (h : k ≠ b) : (d.setReady b true).blockReady k = d.blockReady k := by
  simp [setReady_blockReady, h.symm]

theorem blockReady_of_top {d d' : Dev} (h : d'.top = d.top) (k : Nat) : d'.blockReady k = d.blockReady k := by
  rw [Dev.blockReady, h, Dev.blockReady]

theorem blockBack_waits {b : Fin 17} (hr : d.top.ready = true) (hb : d.blockReady b = false) : (d.top.ready && !d.blockReady b) = true := by
  rw [hr, hb]
  rfl

theorem blockBack_buoy (h : (d.top.ready && !d.blockReady 6) = true) : blockBack 6 d = d.setReady 6 true := if_pos h

theorem blockBack_chan (h : (d.top.ready && !d.blockReady 8) = true) : blockBack 8 d =
    (forFin 16 Dev.chanBack (d.setReady 8 true)).autopilotFor
      ((List.finRange 16).filter fun c => engaged (d.chan c) && (d.chan c).sel.cur.isNone) := if_pos h

theorem blockBack_port (h : (d.top.ready && !d.blockReady 12) = true) : blockBack 12 d = (d.setReady 12 true).loadRefresh := if_pos h

theorem setCond_cond (src : Fin 192) (obj : Nat) (c : Bool) (d : Dev) : ((d.setCond src obj c).source src).cond = c := by
  unfold Dev.setCond
  extract_lets s
  by_cases h : s.cond = c
  · rw [if_pos h, ← h]
  · rw [if_neg h]
    cases c with
    | true => exact congrArg Source.cond (modSource_source_same src (fun s => { s with cond := true, rose := s.rose || s.blankTo.isSome }) d)
    | false => exact congrArg Source.cond (modSource_source_same src (fun s => { s with cond := false }) d)

/-- The end of a blanking: the source is not blanked any more; then the occurrence of R404. -/
theorem blankingEnd_eq {n : Fin 192} (h : (d.source n).blankTo.isSome = true) : blankingEnd n d =
    if isLevel n && (d.source n).cond && (d.source n).rose then
      (d.modSource n fun s => { s with blankTo := none, rose := false }).reach
        ⟨n, BitVec.ofNat 8 ((ownObject n).getD 255), false, false⟩ true
    else d.modSource n fun s => { s with blankTo := none, rose := false } := if_pos h

/-- Settles O32: each timer is one change of its source, and a block comes back with its bit and what its objects do then. -/
theorem watchTimers : Obligations.WatchTimers := by
  intro s
  refine ⟨fun n hn => ?_, rfl, fun n hn => ?_, fun b hr hb hcase => ?_⟩
  · exact ⟨_, exec_run rfl (if_neg hn), rfl, modSource_source_same n _ s.dev, fun k hk => modSource_source_ne _ s.dev hk, rfl⟩
  · have hsame := modSource_source_same n (fun s => { s with blankTo := none, rose := false }) s.dev
    cases hc : isLevel n && (s.dev.source n).cond && (s.dev.source n).rose with
    | true =>
      refine ⟨_, exec_run rfl ((blankingEnd_eq hn).trans (if_pos hc)), rfl, hsame, fun _ _ _ => ⟨_, rfl, rfl, rfl, ?_⟩, fun h => absurd h (by decide), rfl⟩
      exact congrArg Option.isSome (congrArg Source.blankTo hsame)
    | false =>
      refine ⟨_, exec_run rfl ((blankingEnd_eq hn).trans (if_neg (by rw [hc]; decide))), rfl, hsame, fun h1 h2 h3 => ?_, fun _ => rfl, rfl⟩
      rw [h1, h2, h3] at hc
      exact absurd hc (by decide)
  · obtain rfl | rfl | rfl := hcase
    · exact ⟨_, exec_run rfl (blockBack_buoy (blockBack_waits hr hb)), rfl, setReady_blockReady_same 6 s.dev,
        fun k hk => setReady_blockReady_ne (b := 6) s.dev hk, fun _ => rfl, fun h => absurd h (by decide)⟩
    · have hS : (quietScope runParts).Runs := quietScope_runs (by decide)
      have hw := ((Within.refl (quietScope runParts) (s.dev.setReady 8 true)).forFin (f := Dev.chanBack) fun _ _ h => h.chanBack hS).autopilotFor
        (l := (List.finRange 16).filter fun c => engaged (s.dev.chan c) && (s.dev.chan c).sel.cur.isNone) hS
      exact ⟨_, exec_run rfl (blockBack_chan (blockBack_waits hr hb)), rfl,
        (blockReady_of_top hw.top 8).trans (setReady_blockReady_same 8 s.dev),
        fun k hk => (blockReady_of_top hw.top k).trans (setReady_blockReady_ne (b := 8) s.dev hk),
        fun h => absurd h (by decide), fun h => absurd h (by decide)⟩
    · have hl := (Within.refl (looseScope [.watch] []) (s.dev.setReady 12 true)).loadRefresh
      have hw : Within (looseScope [.top, .watch] []) s.dev (s.dev.setReady 12 true).loadRefresh := (Within.refl _ s.dev).modTop.loadRefresh
      have hload : (s.dev.setReady 12 true).loadRefresh.overload = (s.dev.setReady 12 true).overload := by
        rw [hl.eq]
        rfl
      exact ⟨_, exec_run rfl (blockBack_port (blockBack_waits hr hb)), rfl,
        (blockReady_of_top hl.top 12).trans (setReady_blockReady_same 12 s.dev),
        fun k hk => (blockReady_of_top hl.top k).trans (setReady_blockReady_ne (b := 12) s.dev hk),
        fun h => absurd h (by decide), fun _ => ⟨hw.eq, (setCond_cond 146 0 _ _).trans hload.symm⟩⟩

end Sys2Proof.Machine
end

section
/-! Keeper supervision (chapter 1) and the revert of a trial (chapter 16). -/

namespace Sys2Proof.Machine

set_option Elab.async false

variable {S : Scope} {d d₀ d₁ d₂ : Dev}

/-! ### What completions and events leave of the Keeper -/

/-- Of the Keeper, only what completions and events change: fetched commands may leave, none is added. -/
structure KeeperStep (d d' : Dev) : Prop where
  keeper : d'.keeper = { d.keeper with
    evq := d'.keeper.evq, cqPhase := d'.keeper.cqPhase, compIdx := d'.keeper.compIdx, cqFetched := d'.keeper.cqFetched }
  fetched : ∃ n, d'.keeper.cqFetched = d.keeper.cqFetched.drop n

theorem KeeperStep.of_eq (h : d₁.keeper = d.keeper) : KeeperStep d d₁ := by
  constructor
  · rw [h]
  · exact ⟨0, by rw [h, List.drop_zero]⟩

theorem KeeperStep.trans (h₁ : KeeperStep d d₁) (h₂ : KeeperStep d₁ d₂) : KeeperStep d d₂ := by
  obtain ⟨k₁, n₁, f₁⟩ := h₁
  obtain ⟨k₂, n₂, f₂⟩ := h₂
  refine ⟨?_, n₁ + n₂, ?_⟩
  · rw [k₁] at k₂
    exact k₂
  · rw [f₂, f₁, List.drop_drop]

theorem KeeperStep.sup (h : KeeperStep d d₁) : d₁.keeper.sup = d.keeper.sup := (congrArg Keeper.sup h.keeper).trans rfl

theorem KeeperStep.cqIdx (h : KeeperStep d d₁) : d₁.keeper.cqIdx = d.keeper.cqIdx := (congrArg Keeper.cqIdx h.keeper).trans rfl

theorem KeeperStep.cqDb (h : KeeperStep d d₁) : d₁.keeper.cqDb = d.keeper.cqDb := (congrArg Keeper.cqDb h.keeper).trans rfl

theorem KeeperStep.fetched_nil (h : KeeperStep d d₁) (e : d.keeper.cqFetched = []) : d₁.keeper.cqFetched = [] := by
  obtain ⟨n, hn⟩ := h.fetched
  rw [hn, e, List.drop_nil]

theorem KeeperStep.of_io (h : IoStep d d₁) : KeeperStep d d₁ := by
  have hk := h.keeper
  constructor
  · rw [hk]
  · exact ⟨0, by rw [hk, List.drop_zero]⟩

theorem wrWords_keeper (ws : List Word) : ∀ (off : Nat) (d : Dev), (d.wrWords off ws).keeper = d.keeper := by
  induction ws with
  | nil => exact fun _ _ => rfl
  | cons w ws ih => exact fun off d => ih _ _

theorem cqRetire_keeper (q : Fin 4) (p : InProg) (d : Dev) : (d.cqRetire q p).keeper = d.keeper := rfl

theorem onlyIf_keeper {f : Dev → Dev} (hf : ∀ d, (f d).keeper = d.keeper) (b : Bool) (d : Dev) : (onlyIf b f d).keeper = d.keeper := by
  unfold onlyIf
  split
  · exact hf d
  · rfl

theorem KeeperStep.completeOne (src : CmdSrc) (p : InProg) (o : CmdOut) (d : Dev) : KeeperStep d (d.completeOne src p o) := by
  unfold Dev.completeOne
  cases src with
  | cq q =>
    have h1 : (onlyIf d.host.resetCause.isSome (Dev.recordIp q p o) d).keeper = d.keeper := onlyIf_keeper (f := Dev.recordIp q p o) (fun _ => rfl) _ d
    refine .of_eq ?_
    dsimp only
    generalize onlyIf d.host.resetCause.isSome (Dev.recordIp q p o) d = d1 at *
    split
    · exact (ringPut_keeper _ _ _).trans h1
    split
    · exact h1
    · exact h1
  | keeper =>
    dsimp only
    constructor
    · simp only [modKeeper_keeper, wrWords_keeper, modHost_keeper]
    · exact ⟨0, by simp only [modKeeper_keeper, wrWords_keeper, modHost_keeper, List.drop_zero]⟩

theorem KeeperStep.takeFetched (src : CmdSrc) (d : Dev) : KeeperStep d (d.takeFetched src) := by
  unfold Dev.takeFetched
  cases src with
  | cq q => exact .of_eq rfl
  | keeper => exact ⟨rfl, 1, rfl⟩

theorem KeeperStep.retireBad (n : Nat) (src : CmdSrc) : ∀ d : Dev, KeeperStep d (d.retireBad n src) := by
  induction n with
  | zero => exact fun _ => .of_eq rfl
  | succ n ih =>
    intro d
    unfold Dev.retireBad
    cases d.fetchedOf src with
    | nil => exact .of_eq rfl
    | cons e l =>
      dsimp only
      cases headerFail (src = .keeper) e.2 with
      | none => exact .of_eq rfl
      | some i =>
        dsimp only
        split
        · exact ((KeeperStep.takeFetched src d).trans (.completeOne _ _ _ _)).trans (ih _)
        · exact .of_eq rfl

theorem KeeperStep.complete (src : CmdSrc) (p : InProg) (o : CmdOut) (d : Dev) : KeeperStep d (d.complete src p o) :=
  (KeeperStep.completeOne src p o d).trans (.retireBad 16 src _)

/-! ### The operations of supervision -/

theorem Within.keeperDiscard (h : Within S d₀ d) (hk : S.Has .keeper := by trivial) (hh : S.Has .host := by trivial)
    (hf : S.free = true := by trivial) : Within S d₀ d.keeperDiscard := h.modKeeper.modHost

theorem Within.keeperRelease (h : Within S d₀ d) (hL : S.Logs := by trivial) (hk : S.Has .keeper := by trivial) (hw : S.Has .fw := by trivial)
    (hf : S.free = true := by trivial) : Within S d₀ d.keeperRelease := by
  unfold Dev.keeperRelease
  extract_lets d1
  have h1 : Within S d₀ d1 := h.modSup
  refine .ite (fun _ => Within.modFw ?_) fun _ => h1
  refine h1.ringEntry (.inr rfl) fun _ => (length_entryBytes ..).le

theorem Within.apTo (h : Within S d₀ d) {st : ApState} {row : Nat} (hE : S.Events := by trivial) (hw : S.Has .watch := by trivial)
    (hf : S.free = true := by trivial) : Within S d₀ (d.apTo st row) :=
  have hk : S.Has .keeper := hE.2
  h.modSup.setCond.stateEv

/-- The end of an ACTIVATE that waits, as a revert begins. -/
def Dev.activateEnds (d : Dev) : Dev :=
  match d.fw.activate with
  | some a => d.complete a.1 a.2 (.notDone 5)
  | none => d

theorem Within.activateEnds (h : Within S d₀ d) (hS : S.Completes := by trivial) : Within S d₀ d.activateEnds := by
  unfold Dev.activateEnds
  cases d.fw.activate with
  | none => exact h
  | some a => exact h.complete

theorem KeeperStep.activateEnds (d : Dev) : KeeperStep d d.activateEnds := by
  unfold Dev.activateEnds
  cases d.fw.activate with
  | none => exact .of_eq rfl
  | some a => exact .complete _ _ _ _

/-- A trial that reverts: the update engine rests, and the slot that is confirmed is active again. -/
theorem fwRevert_trial (h : d.fw.state = .trial) : d.fwRevert = ((d.activateEnds.modFw fun f =>
    { f with state := .idle, stage := 0, session := false, activate := none, reverted := true }).modTop fun t =>
      { t with slotB := !t.slotB }).bump 0x300110 16 8 := if_pos h

theorem fwRevert_other (h : d.fw.state ≠ .trial) : d.fwRevert = d := if_neg h

theorem Within.fwRevert (h : Within S d₀ d) (hreg : S.reg 0x300110) (hS : S.Completes := by trivial) (hw : S.Has .fw := by trivial)
    (ht : S.Has .top := by trivial) : Within S d₀ d.fwRevert := by
  have ⟨_, _, _⟩ := hS
  refine .ite (fun _ => ?_) fun _ => h
  have h1 : Within S d₀ d.activateEnds := h.activateEnds
  exact h1.modFw.modTop.bump hreg

theorem KeeperStep.fwRevert (d : Dev) : KeeperStep d d.fwRevert := by
  by_cases h : d.fw.state = .trial
  · rw [fwRevert_trial h]
    exact (KeeperStep.activateEnds d).trans (.of_eq rfl)
  · rw [fwRevert_other h]
    exact .of_eq rfl

/-! ### What follows an expiry, step by step -/

/-- What releases, halts and state changes of supervision leave: the occurrences that wait, the command queue, STALL_RUN, and of the
update engine all but the mark of a revert. -/
structure Follows (d d' : Dev) : Prop where
  within : Within (looseScope [.regs, .bar4, .host, .keeper, .watch, .fw] []) d d'
  reached : ∃ l, d'.watch.reached = d.watch.reached ++ l
  fetched : d.keeper.cqFetched = [] → d'.keeper.cqFetched = []
  cqIdx : d'.keeper.cqIdx = d.keeper.cqIdx
  stall : d'.keeper.sup.stallRun = d.keeper.sup.stallRun
  fw : d'.fw = { d.fw with reverted := d'.fw.reverted }

theorem Follows.trans (h₁ : Follows d d₁) (h₂ : Follows d₁ d₂) : Follows d d₂ := by
  obtain ⟨w₁, ⟨l₁, r₁⟩, f₁, i₁, s₁, e₁⟩ := h₁
  obtain ⟨w₂, ⟨l₂, r₂⟩, f₂, i₂, s₂, e₂⟩ := h₂
  refine ⟨w₁.trans w₂, ⟨l₁ ++ l₂, by rw [r₂, r₁, List.append_assoc]⟩, fun h => f₂ (f₁ h), i₂.trans i₁, s₂.trans s₁, ?_⟩
  rw [e₁] at e₂
  exact e₂

theorem Follows.modSup {f : Supervision → Supervision} (d : Dev) (hf : (f d.keeper.sup).stallRun = d.keeper.sup.stallRun) :
    Follows d (d.modSup f) :=
  ⟨(Within.refl _ d).modSup, ⟨[], (List.append_nil _).symm⟩, id, rfl, hf, rfl⟩

theorem setCond_reached (src : Fin 192) (obj : Nat) (c : Bool) (d : Dev) :
    ∃ l, (d.setCond src obj c).watch.reached = d.watch.reached ++ l := by
  unfold Dev.setCond
  extract_lets s
  split
  · exact ⟨[], (List.append_nil _).symm⟩
  split
  · exact ⟨_, rfl⟩
  · exact ⟨[], (List.append_nil _).symm⟩

theorem KeeperStep.apTo (st : ApState) (row : Nat) (d : Dev) : KeeperStep (d.modSup fun s => { s with ap := st }) (d.apTo st row) := by
  have h1 : ((d.modSup fun s => { s with ap := st }).setCond 2 0 (st = .halted)).keeper = (d.modSup fun s => { s with ap := st }).keeper :=
    ((Within.refl (looseScope [.watch] []) _).setCond).keeper
  exact (KeeperStep.of_eq h1).trans (.of_io (((Within.refl (quietScope [.regs, .bar4, .host, .keeper]) _).stateEv).io rfl))

theorem apTo_sup (st : ApState) (row : Nat) (d : Dev) : (d.apTo st row).keeper.sup = { d.keeper.sup with ap := st } :=
  (KeeperStep.apTo st row d).sup.trans rfl

theorem Follows.apTo (st : ApState) (row : Nat) (d : Dev) : Follows d (d.apTo st row) := by
  have hk := KeeperStep.apTo st row d
  have hw : (d.apTo st row).watch = ((d.modSup fun s => { s with ap := st }).setCond 2 0 (st = .halted)).watch :=
    ((Within.refl (partScope [.regs, .bar4, .host, .keeper]) _).stateEv).watch
  refine ⟨(Within.refl _ d).apTo, ?_, fun h => hk.fetched_nil h, hk.cqIdx, (congrArg Supervision.stallRun (apTo_sup st row d)).trans rfl, ?_⟩
  · rw [hw]
    exact setCond_reached 2 0 _ _
  · have hf : (d.apTo st row).fw = d.fw := ((Within.refl (partScope [.regs, .bar4, .host, .keeper, .watch]) d).apTo).fw
    rw [hf]

/-- The Keeper core out of reset. -/
def Dev.keeperStart (d : Dev) : Dev := d.modSup fun s => { s with running := true, kicked := false, wdtAt := d.clk.aonUs + 2000000 }

theorem keeperRelease_keeper (d : Dev) : d.keeperRelease.keeper = d.keeperStart.keeper := by
  unfold Dev.keeperRelease
  extract_lets d1
  split
  · exact ringEntry_keeper 9 _ d1
  · rfl

theorem keeperRelease_fw (d : Dev) : d.keeperRelease.fw = { d.fw with reverted := false } := by
  unfold Dev.keeperRelease
  extract_lets d1
  have hu : d1.updateEntry.fw = d1.fw :=
    ((Within.refl (partScope [.regs, .bar4, .host]) d1).ringEntry (.inr rfl) fun _ => (length_entryBytes ..).le).fw
  by_cases h : d1.fw.reverted = true
  · rw [if_pos h, modFw_fw, hu]
    rfl
  · rw [if_neg h]
    exact congrArg (fun b => { d.fw with reverted := b }) (Bool.eq_false_iff.mpr h)

theorem Follows.keeperRelease (d : Dev) : Follows d d.keeperRelease := by
  have hk := keeperRelease_keeper d
  have hw : d.keeperRelease.watch = d.watch := ((Within.refl (partScope [.regs, .bar4, .host, .keeper, .fw]) d).keeperRelease).watch
  refine ⟨(Within.refl _ d).keeperRelease, ⟨[], by rw [hw, List.append_nil]⟩, ?_, ?_, ?_, ?_⟩
  · rw [hk]
    exact id
  · rw [hk]
    rfl
  · rw [hk]
    rfl
  · rw [keeperRelease_fw]

/-! ### The expiry -/

/-- The expiry as it is counted and reported: the commands of the queue that were not accepted have gone (R25). -/
def Dev.wdtCounted (d : Dev) : Dev :=
  ((d.keeperDiscard.bump 0x300104 16 16).modSup fun s => { s with stallRun := if s.stallRun = 3 then 3 else s.stallRun + 1 }).occur 1 0

theorem wdtExpire_halt (hr : d.keeper.sup.running = true) (ha : d.keeper.sup.ap ≠ .normal) (h2 : d.keeper.sup.stallRun = 2) :
    wdtExpire d = (d.wdtCounted.fwRevert.modSup fun s => { s with running := false }).apTo .halted 2 :=
  (if_pos hr).trans (if_pos (by simp [ha, h2]))

theorem wdtExpire_again (hr : d.keeper.sup.running = true) (h : d.keeper.sup.ap = .normal ∨ d.keeper.sup.stallRun ≠ 2) :
    wdtExpire d = (d.wdtCounted.fwRevert.keeperRelease.apTo .autopilot 1).autopilotAll :=
  (if_pos hr).trans (if_neg fun hh => h.elim (fun ha => by simp [ha] at hh) fun h2 => h2 (by simpa using (Bool.and_eq_true_iff.mp hh).2))

/-- What an expiry and the revert of a trial may change. -/
def expiryScope : Scope := looseScope [.regs, .bar4, .host, .keeper, .watch, .fw, .top] [0x300104, 0x300110]

theorem within_expired (d : Dev) : Within expiryScope d d.wdtCounted.fwRevert :=
  ((Within.refl expiryScope d).keeperDiscard.bump (.head _)).modSup.occur.fwRevert (.tail _ (.head _))

/-- What every expiry leaves, whether the Keeper starts again or halts. -/
theorem expired_facts {e : Dev} (h : Follows d.wdtCounted.fwRevert e) :
    Counts 0x300104 16 16 d e ∧ (∃ r ∈ e.watch.reached, r.occ = ⟨1, 0, false, false⟩) ∧ e.keeper.cqFetched = [] ∧
      e.keeper.cqIdx = d.keeper.cqDb ∧
      e.keeper.sup.stallRun = (if d.keeper.sup.stallRun = 3 then 3 else d.keeper.sup.stallRun + 1) ∧
      e.chans = d.chans ∧ e.clk = d.clk ∧ e.otp = d.otp ∧ e.outs = d.outs ∧
      (d.fw.state = .trial → e.fw.state = .idle ∧ e.fw.activate = none ∧ e.top.slotB = (!d.top.slotB)) ∧
      (d.fw.state ≠ .trial → e.fw = { d.fw with reverted := e.fw.reverted } ∧ e.top = d.top) := by
  have hw := within_expired d
  have hk := KeeperStep.fwRevert d.wdtCounted
  have hplain : ¬ EventWord 0x300104 := by simp only [EventWord, ringOff]; omega
  have hrev : Within (looseScope [.regs, .bar4, .host, .keeper, .fw, .top] [0x300110]) d.wdtCounted d.wdtCounted.fwRevert :=
    (Within.refl _ _).fwRevert (.head _)
  obtain ⟨l, hl⟩ := h.reached
  refine ⟨?_, ?_, h.fetched (hk.fetched_nil rfl), h.cqIdx.trans hk.cqIdx, h.stall.trans (congrArg Supervision.stallRun hk.sup),
    h.within.chans.trans hw.chans, h.within.clk.trans hw.clk, h.within.otp.trans hw.otp, h.within.outs.trans hw.outs, fun ht => ?_, fun ht => ?_⟩
  · have h1 : Counts 0x300104 16 16 d d.wdtCounted := bump_counts _ _ (by decide)
    exact (h1.after (hrev.regs _ (by simp [looseScope]) hplain)).after (h.within.regs _ (by simp [looseScope]) hplain)
  · have hmem : ∃ r ∈ d.wdtCounted.watch.reached, r.occ = ⟨1, 0, false, false⟩ :=
      ⟨_, List.mem_append_right _ (.head _), rfl⟩
    obtain ⟨r, hr, ho⟩ := hmem
    refine ⟨r, ?_, ho⟩
    rw [hl, hrev.watch]
    exact List.mem_append_left _ hr
  · have he := fwRevert_trial (d := d.wdtCounted) ht
    have htop := ((Within.refl (partScope [.regs, .bar4, .host, .keeper]) d.wdtCounted).activateEnds).top
    rw [h.fw, h.within.top, he]
    exact ⟨rfl, rfl, congrArg (fun t : Top => !t.slotB) htop⟩
  · have he := fwRevert_other (d := d.wdtCounted) ht
    have hf := h.fw
    have ht' := h.within.top
    rw [he] at hf ht'
    exact ⟨hf, ht'⟩

theorem wdtCounted_sup (d : Dev) : d.wdtCounted.fwRevert.keeper.sup =
    { d.keeper.sup with stallRun := if d.keeper.sup.stallRun = 3 then 3 else d.keeper.sup.stallRun + 1 } :=
  (KeeperStep.fwRevert d.wdtCounted).sup.trans rfl

/-- The Keeper starts again in AUTOPILOT. -/
def Dev.restarted (d : Dev) : Dev := d.wdtCounted.fwRevert.keeperRelease.apTo .autopilot 1

theorem restarted_sup (d : Dev) : d.restarted.keeper.sup = { d.keeper.sup with
    ap := .autopilot, running := true, kicked := false, wdtAt := d.clk.aonUs + 2000000,
    stallRun := if d.keeper.sup.stallRun = 3 then 3 else d.keeper.sup.stallRun + 1 } := by
  have hc := (within_expired d).clk
  rw [Dev.restarted, apTo_sup, keeperRelease_keeper, Dev.keeperStart, modSup_keeper, hc]
  show ({ d.wdtCounted.fwRevert.keeper.sup with
    running := true, kicked := false, wdtAt := d.clk.aonUs + 2000000, ap := .autopilot } : Supervision) = _
  rw [wdtCounted_sup]

/-- The Keeper halts. -/
def Dev.halted (d : Dev) : Dev := (d.wdtCounted.fwRevert.modSup fun s => { s with running := false }).apTo .halted 2

theorem halted_sup (d : Dev) : d.halted.keeper.sup = { d.keeper.sup with
    ap := .halted, running := false, stallRun := if d.keeper.sup.stallRun = 3 then 3 else d.keeper.sup.stallRun + 1 } := by
  rw [Dev.halted, apTo_sup]
  show ({ d.wdtCounted.fwRevert.keeper.sup with running := false, ap := .halted } : Supervision) = _
  rw [wdtCounted_sup]

theorem apTo_halted_cond (row : Nat) (d : Dev) : ((d.apTo .halted row).source 2).cond = true := by
  have hw : (d.apTo .halted row).watch = ((d.modSup fun s => { s with ap := .halted }).setCond 2 0 true).watch :=
    ((Within.refl (partScope [.regs, .bar4, .host, .keeper]) _).stateEv).watch
  rw [Dev.source, hw]
  exact setCond_cond 2 0 true _

theorem Follows.restarted (d : Dev) : Follows d.wdtCounted.fwRevert d.restarted := (Follows.keeperRelease _).trans (.apTo _ _ _)

theorem Follows.halted (d : Dev) : Follows d.wdtCounted.fwRevert d.halted := (Follows.modSup _ rfl).trans (.apTo _ _ _)

theorem keeperRelease_running (d : Dev) : d.keeperRelease.keeper.sup.running = true := by
  rw [keeperRelease_keeper]
  rfl

/-- Settles O33: an expiry is counted and reverts a trial; then the Keeper halts, or starts again and the autopilot runs. -/
theorem keeperSupervision : Obligations.KeeperSupervision := by
  intro s
  have hplain : ¬ EventWord 0x300110 := by simp only [EventWord, ringOff]; omega
  have hrun : (quietScope runParts).Runs := quietScope_runs (by decide)
  have hauto := (Within.refl (quietScope runParts) s.dev.restarted).autopilotAll hrun
  have hsup : s.dev.restarted.autopilotAll.keeper.sup = s.dev.restarted.keeper.sup := (KeeperStep.of_io (hauto.io rfl)).sup
  refine ⟨fun hr => ?_, fun hr h => ?_, fun hr ha h2 => ?_, fun ht => ?_⟩
  · by_cases h : s.dev.keeper.sup.ap ≠ .normal ∧ s.dev.keeper.sup.stallRun = 2
    · obtain ⟨h1, h2, h3, h4, h5, h6, h7, h8, h9, h10, h11⟩ := expired_facts (Follows.halted s.dev)
      refine ⟨_, s.dev.halted, exec_run rfl (wdtExpire_halt hr h.1 h.2), rfl, h1, h2, h3, h4, h5, h6, h7, h8, h9, h10, h11,
        fun _ _ => ⟨rfl, congrArg Supervision.ap (halted_sup s.dev), congrArg Supervision.running (halted_sup s.dev)⟩, fun hn => ?_⟩
      exact absurd h (not_and_or.mpr (hn.imp_left not_not.mpr))
    · obtain ⟨h1, h2, h3, h4, h5, h6, h7, h8, h9, h10, h11⟩ := expired_facts (Follows.restarted s.dev)
      have hn : s.dev.keeper.sup.ap = .normal ∨ s.dev.keeper.sup.stallRun ≠ 2 := (not_and_or.mp h).imp_left not_not.mp
      have hs := restarted_sup s.dev
      exact ⟨_, s.dev.restarted, exec_run rfl (wdtExpire_again hr hn), rfl, h1, h2, h3, h4, h5, h6, h7, h8, h9, h10, h11,
        fun ha h2 => absurd ⟨ha, h2⟩ h, fun _ => ⟨rfl, congrArg Supervision.ap hs, congrArg Supervision.running hs,
          congrArg Supervision.kicked hs, congrArg Supervision.wdtAt hs⟩⟩
  · obtain ⟨-, -, -, -, -, -, hclk, hotp, -, -, -⟩ := expired_facts (Follows.restarted s.dev)
    have hports : s.dev.restarted.ports = s.dev.ports := (Follows.restarted s.dev).within.ports.trans (within_expired s.dev).ports
    have hs := hsup.trans (restarted_sup s.dev)
    exact ⟨_, exec_run rfl (wdtExpire_again hr h), rfl, congrArg Supervision.ap hs, congrArg Supervision.running hs,
      congrArg Supervision.kicked hs, congrArg Supervision.wdtAt hs, congrArg Supervision.stallRun hs, hauto.clk.trans hclk,
      hauto.ports.trans hports, hauto.otp.trans hotp⟩
  · obtain ⟨h1, -, -, -, -, h6, -, -, h9, -, -⟩ := expired_facts (Follows.halted s.dev)
    have hs := halted_sup s.dev
    refine ⟨_, exec_run rfl (wdtExpire_halt hr ha h2), congrArg Supervision.ap hs, congrArg Supervision.running hs, ?_,
      apTo_halted_cond 2 _, h1, h6, h9⟩
    refine (congrArg Supervision.stallRun hs).trans ?_
    simp only [h2]
    rfl
  · have he : trialEnd s.dev = s.dev.fwRevert.keeperRelease := if_pos ht
    have hrev := fwRevert_trial ht
    have hact := (Within.refl (looseScope [.regs, .bar4, .host, .keeper] []) s.dev).activateEnds
    have hrd : s.dev.activateEnds.rd 0x300110 = s.dev.rd 0x300110 := hact.regs _ (by simp [looseScope]) hplain
    have hfw := keeperRelease_fw s.dev.fwRevert
    have hrel := (Follows.keeperRelease s.dev.fwRevert).within
    have hcount : Counts 0x300110 16 8 s.dev s.dev.fwRevert := by
      rw [hrev]
      exact (bump_counts _ _ (by decide)).before hrd
    have hf := congrArg Dev.fw hrev
    refine ⟨_, exec_run rfl he, rfl, (congrArg Fw.state hfw).trans (congrArg Fw.state hf), (congrArg Fw.stage hfw).trans (congrArg Fw.stage hf),
      (congrArg Fw.activate hfw).trans (congrArg Fw.activate hf), ?_, keeperRelease_running _,
      hcount.after (hrel.regs _ (by simp [looseScope]) hplain),
      (congrArg Fw.flash hfw).trans ((congrArg Fw.flash hf).trans (congrArg (fun f : Fw => f.flash) hact.fw :))⟩
    exact (congrArg Top.slotB hrel.top).trans ((congrArg (fun d : Dev => d.top.slotB) hrev).trans (congrArg (fun t : Top => !t.slotB) hact.top))

end Sys2Proof.Machine
end

section
/-! Sensor samples, OTP programming and debug access (R413, R424 to R426). -/

namespace Sys2Proof.Machine

set_option Elab.async false

variable {d : Dev}

/-! ### Sensor words -/

/-- A sensor word after a sample: the reading with VALID, or VALID cleared. -/
def sensorWord (v : Option Nat) (w : Word) : Word :=
  match v with
  | some x => word (2147483648 + x % 65536)
  | none => setFld w 31 1 0

theorem sensor_eq (off : Nat) (v : Option Nat) (d : Dev) : d.sensor off v = d.wr off (sensorWord v (d.rd off)) := by
  cases v <;> rfl

theorem sensorWord_invalid (w : Word) : fld (sensorWord none w) 31 1 = 0 := fld_setFld_same w 0 (by decide)

/-- `n` sensor words from `base` on, sampled in turn. -/
def Dev.sensors (base n : Nat) (f : Nat → Option Nat) (d : Dev) : Dev := (List.range n).foldl (fun d k => d.sensor (base + 4 * k) (f k)) d

theorem sensors_succ (base n : Nat) (f : Nat → Option Nat) (d : Dev) :
    d.sensors base (n + 1) f = (d.sensors base n f).sensor (base + 4 * n) (f n) := by
  rw [Dev.sensors, List.range_succ, List.foldl_concat, Dev.sensors]

theorem rd_sensors_out {base a : Nat} (f : Nat → Option Nat) (d : Dev) :
    ∀ n, (∀ k, k < n → base + 4 * k ≠ a) → (d.sensors base n f).rd a = d.rd a
  | 0, _ => rfl
  | n + 1, h => by
    rw [sensors_succ, sensor_eq, rd_wr_ne _ _ (h n (Nat.lt_succ_self n)), rd_sensors_out f d n fun k hk => h k (Nat.lt_succ_of_lt hk)]

theorem rd_sensors_in {base k : Nat} (f : Nat → Option Nat) (d : Dev) :
    ∀ n, k < n → (d.sensors base n f).rd (base + 4 * k) = sensorWord (f k) (d.rd (base + 4 * k))
  | n + 1, h => by
    rw [sensors_succ, sensor_eq]
    by_cases e : k = n
    · rw [e, rd_wr_same, rd_sensors_out f d n fun j hj => by omega]
    · rw [rd_wr_ne _ _ (by omega), rd_sensors_in f d n (by omega)]

theorem Within.sensors {S : Scope} {d₀ : Dev} (h : Within S d₀ d) {base n : Nat} {f : Nat → Option Nat} (hreg : ∀ a, S.reg a)
    (hS : S.Has .regs := by trivial) : Within S d₀ (d.sensors base n f) :=
  h.foldl (fun k d h => by rw [sensor_eq]; exact h.wr (hreg _)) _

/-! ### A sample of every sensor -/

/-- The words of one sample. -/
def Dev.sampled (r : SensorReadings) (d : Dev) : Dev :=
  ((d.sensors 0x300200 8 fun k => (r.temps.getD k none).map (twos 16)).sensors 0x300240 12 fun k => r.rails.getD k none).sensor 0x300280 r.xoAmp

theorem Within.sampled {S : Scope} {d₀ : Dev} (h : Within S d₀ d) {r : SensorReadings} (hreg : ∀ a, S.reg a)
    (hS : S.Has .regs := by trivial) : Within S d₀ (d.sampled r) := by
  rw [Dev.sampled, sensor_eq]
  exact ((h.sensors hreg).sensors hreg).wr (hreg _)

theorem rd_sampled_temp (r : SensorReadings) (k : Fin 8) (d : Dev) : (d.sampled r).rd (0x300200 + 4 * k.val) =
    sensorWord ((r.temps.getD k none).map (twos 16)) (d.rd (0x300200 + 4 * k.val)) := by
  rw [Dev.sampled, sensor_eq, rd_wr_ne _ _ (by omega), rd_sensors_out _ _ 12 fun j hj => by omega, rd_sensors_in _ _ 8 k.isLt]

theorem rd_sampled_rail (r : SensorReadings) (k : Fin 12) (d : Dev) : ∃ w, (d.sampled r).rd (0x300240 + 4 * k.val) =
    sensorWord (r.rails.getD k none) w := by
  rw [Dev.sampled, sensor_eq, rd_wr_ne _ _ (by omega), rd_sensors_in _ _ 12 k.isLt]
  exact ⟨_, rfl⟩

theorem rd_sampled_amp (r : SensorReadings) (d : Dev) : ∃ w, (d.sampled r).rd 0x300280 = sensorWord r.xoAmp w := by
  rw [Dev.sampled, sensor_eq, rd_wr_same]
  exact ⟨_, rfl⟩

/-- The highest of the temperature readings, where there is one. -/
def tjAfter (r : SensorReadings) (was : Int) : Int :=
  match (r.temps.take 8).filterMap id with
  | [] => was
  | t :: ts => ts.foldl max t

theorem sensorSample_eq (r : SensorReadings) (d : Dev) :
    sensorSample r d = (d.sampled r).modPwr fun p => { p with tjMax := tjAfter r p.tjMax } := by
  show (match (r.temps.take 8).filterMap id with
    | [] => d.sampled r
    | t :: ts => (d.sampled r).modPwr fun p => { p with tjMax := ts.foldl max t }) = _
  unfold tjAfter
  cases (r.temps.take 8).filterMap id <;> rfl

theorem sensorSample_frame (r : SensorReadings) (s : State) : ∃ t, exec (.sensorSample r) s = .next t ∧ t.pending = s.pending ∧
    t.dev.pwr = { s.dev.pwr with tjMax := t.dev.pwr.tjMax } ∧ t.dev = { s.dev with regs := t.dev.regs, pwr := t.dev.pwr } ∧
    (∀ a, t.dev.rd a = (s.dev.sampled r).rd a) ∧ t.dev.pwr.tjMax = tjAfter r s.dev.pwr.tjMax := by
  have hw := (Within.refl (partScope [.regs]) s.dev).sampled (r := r) fun _ => trivial
  have hall : Within (partScope [.regs, .pwr]) s.dev ((s.dev.sampled r).modPwr fun p => { p with tjMax := tjAfter r p.tjMax }) :=
    ((Within.refl _ s.dev).sampled fun _ => trivial).modPwr
  refine ⟨_, exec_run rfl (sensorSample_eq r s.dev), rfl, ?_, hall.eq, fun _ => rfl, congrArg (fun p : Pwr => tjAfter r p.tjMax) hw.pwr⟩
  exact congrArg (fun p : Pwr => { p with tjMax := tjAfter r (s.dev.sampled r).pwr.tjMax }) hw.pwr

theorem le_foldl_max {l : List Int} : ∀ {a b : Int}, (b ≤ a ∨ b ∈ l) → b ≤ l.foldl max a := by
  induction l with
  | nil => exact fun h => h.resolve_right List.not_mem_nil
  | cons x l ih =>
    intro a b h
    refine ih ?_
    rcases h with h | h
    · exact .inl (h.trans (le_max_left ..))
    · rcases List.mem_cons.mp h with rfl | h
      · exact .inl (le_max_right ..)
      · exact .inr h

theorem le_tjAfter {r : SensorReadings} {k : Fin 8} {v : Int} (was : Int) (h : r.temps.getD k none = some v) : v ≤ tjAfter r was := by
  have hm : v ∈ (r.temps.take 8).filterMap id := by
    have hk : k.val < r.temps.length := by
      by_contra hn
      rw [List.getD_eq_default _ _ (Nat.not_lt.mp hn)] at h
      exact absurd h (by simp)
    rw [List.mem_filterMap]
    refine ⟨some v, List.mem_take_iff_getElem.mpr ⟨k, by omega, ?_⟩, rfl⟩
    rw [← h, List.getD_eq_getElem _ _ hk]
  unfold tjAfter
  cases hl : (r.temps.take 8).filterMap id with
  | nil => rw [hl] at hm; exact absurd hm List.not_mem_nil
  | cons t ts =>
    rw [hl] at hm
    exact le_foldl_max ((List.mem_cons.mp hm).imp_left (·.le))

/-- Settles O34: a sample writes each sensor's word in turn and takes the highest temperature; each OTP action and each debug access is
one change of the OTP. -/
theorem sensorsOtpAndDebug : Obligations.SensorsOtpAndDebug := by
  intro s
  refine ⟨fun r => ?_, fun r k v hv => ?_, fun k h hb => ?_, fun k hb => ?_, fun hb => ?_, fun hr hl => ?_, fun key sig n hn => ?_⟩
  · obtain ⟨t, hx, hp, hpwr, hdev, hrd, -⟩ := sensorSample_frame r s
    obtain ⟨w, hw⟩ := rd_sampled_amp r s.dev
    refine ⟨t, hx, hp, hpwr, hdev, fun k hk => ?_, fun k v hv => ?_, fun k hk => ?_, fun v hv => ?_, fun hv => ?_⟩
    · rw [Dev.rdF, hrd, rd_sampled_temp, hk]
      exact sensorWord_invalid _
    · obtain ⟨w, hw⟩ := rd_sampled_rail r k s.dev
      rw [hrd, hw, hv]
      rfl
    · obtain ⟨w, hw⟩ := rd_sampled_rail r k s.dev
      rw [Dev.rdF, hrd, hw, hk]
      exact sensorWord_invalid _
    · rw [hrd, hw, hv]
      rfl
    · rw [Dev.rdF, hrd, hw, hv]
      exact sensorWord_invalid _
  · obtain ⟨t, hx, hp, hpwr, hdev, hrd, htj⟩ := sensorSample_frame r s
    refine ⟨t, hx, hp, ?_, htj ▸ le_tjAfter _ hv, hpwr, hdev⟩
    rw [hrd, rd_sampled_temp, hv]
    rfl
  · exact exec_run rfl (by rw [otpDone, hb]; rfl)
  · have he : otpDone s.dev = s.dev.modOtp fun o => { o with keys := o.keys.set k (.revoked, (o.keys.get k).2), busy := none } := by
      rw [otpDone, hb]
    exact ⟨_, exec_run rfl he, rfl, congrArg Prod.fst (get_set_same s.dev.otp.keys k _), fun j hj => get_set_ne s.dev.otp.keys _ hj, rfl, rfl⟩
  · exact exec_run rfl (by rw [otpDone, hb]; rfl)
  · have he : debugChallenge s.dev = (s.dev.modOtp fun o => { o with challenge := some o.draws, draws := o.draws + 1 }).answer 3
        ⟨Config.challenge s.dev.otp.draws, 0, false, false⟩ := if_pos (by simp [hr, hl])
    exact ⟨_, exec_run rfl he, rfl, rfl, congrArg Resp.data (answer_resp 3 _ _), rfl⟩
  · have he : debugUnlock key sig s.dev = s.dev.modOtp fun o => { o with challenge := none, debugOpen := o.debugOpen ||
        (s.dev.otp.debugLevel = 1 && s.dev.otp.keys.toList.any (fun k => keyActive k key) &&
          Config.ecdsaOk key sig (Config.sha384 (Config.challenge n ++ wordBytes (resetWord 0)))) } := by
      rw [debugUnlock, hn]
    refine ⟨_, exec_run rfl he, rfl, rfl, ?_, rfl⟩
    simp only [modOtp_otp, Bool.or_eq_true, Bool.and_eq_true, decide_eq_true_eq, and_assoc]

end Sys2Proof.Machine
end

section
/-! The frames of qualification, the Buoys and the matrix. -/

namespace Sys2Proof.Machine

set_option Elab.async false

variable {S : Scope} {d d₀ : Dev}

/-! ### Qualification -/

theorem Within.modQual (h : Within S d₀ d) {n : Fin 64} {f : Qual → Qual} (hb : S.Has .buoys := by trivial) : Within S d₀ (d.modQual n f) := h.modBuoy
theorem Within.modMon (h : Within S d₀ d) {n : Fin 64} {f : Monitor → Monitor} (hb : S.Has .buoys := by trivial) : Within S d₀ (d.modMon n f) := h.modBuoy
theorem Within.modAct (h : Within S d₀ d) {n : Fin 64} {f : Activity → Activity} (hb : S.Has .buoys := by trivial) : Within S d₀ (d.modAct n f) := h.modBuoy
theorem Within.modDec (h : Within S d₀ d) {n : Fin 64} {f : Decoder → Decoder} (hb : S.Has .buoys := by trivial) : Within S d₀ (d.modDec n f) := h.modBuoy

theorem Within.qualTo (h : Within S d₀ d) {n : Fin 64} {st : QState} {row : Nat} (hb : S.Has .buoys := by trivial)
    (hE : S.Events := by trivial) : Within S d₀ (d.qualTo n st row) := h.modQual.stateEv

theorem Within.marksEnd (h : Within S d₀ d) {n : Fin 64} (hc : S.Has .chans := by trivial) : Within S d₀ (d.marksEnd n) :=
  h.forFin fun _ _ h => h.modSel

theorem Within.partnerKeep (h : Within S d₀ d) {c : Fin 16} {was : Fin 64 → Nat} (hE : S.Events := by trivial)
    (hc : S.Has .chans := by trivial) : Within S d₀ (d.partnerKeep c was) := by
  unfold Dev.partnerKeep
  cases (d.chan c).sel.partner with
  | none => exact h
  | some o => exact .ite (fun _ => h) fun _ => h.partnerClear

theorem Within.leftQual (h : Within S d₀ d) {n : Fin 64} (ho : S.reg (buoyOff n + 0x1A4)) (hE : S.Events := by trivial)
    (hc : S.Has .chans := by trivial) : Within S d₀ (d.leftQual n) :=
  have ⟨⟨_, _, _⟩, _⟩ := hE
  ((h.bump ho).forFin fun _ _ h => .ite (fun _ => h.partnerClear) fun _ => h).marksEnd

theorem Within.dropSlot (h : Within S d₀ d) {n : Fin 64} (hS : S.Runs) : Within S d₀ (d.dropSlot n) :=
  (h.foldl (fun _ _ h => h.leaveSlot hS) _).autopilotFor hS

theorem Within.qualLeave (h : Within S d₀ d) {n : Fin 64} {st : QState} {row : Nat} (hS : S.Runs) (hb : S.Has .buoys := by trivial) :
    Within S d₀ (d.qualLeave n st row) := by
  have ⟨_, hE, _, _, _, _, _⟩ := hS
  exact .ite (fun _ => (h.qualTo.leftQual (hS.buoyReg n)).dropSlot hS) fun _ => h.qualTo

theorem Within.holdOut (h : Within S d₀ d) {n : Fin 64} {f : Qual → Qual} (hS : S.Runs) (hb : S.Has .buoys := by trivial) :
    Within S d₀ (d.holdOut n f) := by
  have h1 : Within S d₀ (d.modQual n f) := h.modQual
  exact .ite (fun _ => h1) fun _ => h1.qualLeave hS

theorem Within.qualDown (h : Within S d₀ d) {n : Fin 64} (ho : S.reg (buoyOff n + 0x1A4)) (hE : S.Events := by trivial)
    (hc : S.Has .chans := by trivial) (hb : S.Has .buoys := by trivial) : Within S d₀ (d.qualDown n) := by
  unfold Dev.qualDown
  cases (d.buoy n).qual.st with
  | idle => exact h
  | held => exact h
  | qualified => exact h.qualTo.leftQual ho
  | first => exact h.qualTo
  | wtr => exact h.qualTo
  | failed => exact h.qualTo

theorem Within.qualify (h : Within S d₀ d) {n : Fin 64} (hS : S.Runs) (hb : S.Has .buoys := by trivial) : Within S d₀ (d.qualify n) := by
  have ⟨_, hE, _, _, _, _, _⟩ := hS
  have ⟨⟨_, _, _⟩, _⟩ := hE
  exact ((h.modQual.bump (hS.buoyReg n)).qualTo).autopilotAll hS

theorem Within.qualEval (h : Within S d₀ d) {n : Fin 64} (hS : S.Runs) (hb : S.Has .buoys := by trivial) : Within S d₀ (d.qualEval n) := by
  have ⟨_, hE, _, _, _, _, _⟩ := hS
  have hwait : Within S d₀ (if d.rejects n then d.qualTo n .failed 8 else if (d.buoy n).qual.expired && d.accepted n then d.qualify n else d) :=
    .ite (fun _ => h.qualTo) fun _ => .ite (fun _ => h.qualify hS) fun _ => h
  unfold Dev.qualEval
  extract_lets q
  cases q.st with
  | first => exact hwait
  | wtr => exact hwait
  | qualified => exact .ite (fun _ => h.qualLeave hS) fun _ => h
  | failed => exact .ite (fun _ => h) fun _ => .ite (fun _ => h.qualTo) fun _ => h.qualTo
  | idle => exact h
  | held => exact h

theorem Within.holdExit (h : Within S d₀ d) {n : Fin 64} (hS : S.Runs) (hb : S.Has .buoys := by trivial) : Within S d₀ (d.holdExit n) := by
  have ⟨_, hE, _, _, _, _, _⟩ := hS
  exact .ite (fun _ => .ite (fun _ => h.qualTo) fun _ => .ite (fun _ => h.qualTo.qualEval hS) fun _ => h.qualTo.qualEval hS) fun _ => h

theorem Within.qualUp (h : Within S d₀ d) {n : Fin 64} (hS : S.Runs) (hb : S.Has .buoys := by trivial) : Within S d₀ (d.qualUp n) := by
  have ⟨_, hE, _, _, _, _, _⟩ := hS
  refine .ite (fun _ => Within.qualEval ?_ hS) fun _ => h
  split
  · exact h.qualTo
  · exact h.qualTo

theorem Within.qualTimer (h : Within S d₀ d) {n : Fin 64} (hS : S.Runs) (hb : S.Has .buoys := by trivial) : Within S d₀ (qualTimer n d) := by
  have h1 : Within S d₀ (d.modQual n fun q => { q with expired := true }) := h.modQual
  exact .ite (fun _ => .ite (fun _ => h1.qualify hS) fun _ => h1) fun _ => h

theorem Within.setPair (h : Within S d₀ d) {k : Nat} {p : Pair} (hS : S.Has .pairs := by trivial) : Within S d₀ (d.setPair k p) :=
  h.trans (.part (q := .pairs) rfl hS fun p hp => by cases p <;> first | rfl | exact absurd rfl hp)

theorem Within.equalTest (h : Within S d₀ d) {c : Fin 16} (hw : S.Has .watch := by trivial) (hE : S.Events := by trivial)
    (hc : S.Has .chans := by trivial) : Within S d₀ (d.equalTest c) := by
  unfold Dev.equalTest
  extract_lets sel d1 d2
  have h1 : Within S d₀ d1 := by
    unfold d1
    split
    · exact .ite (fun _ => h) fun _ => h.partnerClear
    · exact h
  have h2 : Within S d₀ d2 := h1.modSel
  cases sel.cur with
  | none => exact h2
  | some s =>
    dsimp only
    split
    · exact h2
    · split
      · exact h2.modSel.modSel
      · exact .ite (fun _ => h2.modSel) fun _ => h2.modSel.modSel.occur.event

/-! ### The cascade's upstream -/

theorem Within.setLofs (h : Within S d₀ d) {v : Int} (hw : S.Has .watch := by trivial) (ht : S.Has .tide := by trivial) :
    Within S d₀ (d.setLofs v) := by
  have h1 : Within S d₀ (d.modTide fun t => { t with lofs := v }) := h.modTide
  exact .ite (fun _ => h1) fun _ => h1.modTide.setCond

theorem Within.roleTo (h : Within S d₀ d) {r : Role} {row : Nat} (hE : S.Events := by trivial) (ht : S.Has .tide := by trivial) :
    Within S d₀ (d.roleTo r row) := h.modTide.stateEv

theorem Within.activate (h : Within S d₀ d) {l : Fin 5} (hw : S.Has .watch := by trivial) (ht : S.Has .tide := by trivial) :
    Within S d₀ (d.activate l) := by
  unfold Dev.activate
  extract_lets d1
  have h1 : Within S d₀ d1 := h.modTide
  cases (d1.link l).last with
  | none => exact h1
  | some f => exact (h1.onlyIf fun _ h => h.modTide).modTide.setLofs.modTide

theorem Within.orphanJoin (h : Within S d₀ d) (hw : S.Has .watch := by trivial) (hE : S.Events := by trivial) (ht : S.Has .tide := by trivial) :
    Within S d₀ d.orphanJoin := by
  refine .ite (fun _ => ?_) fun _ => h
  cases d.firstEligible with
  | none => exact h
  | some l => exact h.activate.roleTo

/-! ### Buoys -/

/-- The scope lets a slot go up and down: channels run, and Buoys, pairs and the cascade's upstream change. -/
structure Scope.Senses (S : Scope) : Prop where
  runs : S.Runs
  buoys : S.Has .buoys
  pairs : S.Has .pairs
  tide : S.Has .tide

theorem Within.rangeFail (h : Within S d₀ d) {n : Fin 64} (ho : S.reg (buoyOff n + 0x28)) (hr : S.Has .regs := by trivial)
    (hb : S.Has .buoys := by trivial) (hw : S.Has .watch := by trivial) : Within S d₀ (d.rangeFail n) := (h.modDec.bump ho).occur

theorem Within.decErr (h : Within S d₀ d) {n : Fin 64} (ho : S.reg (buoyOff n + 0x28)) (hr : S.Has .regs := by trivial)
    (hb : S.Has .buoys := by trivial) (hw : S.Has .watch := by trivial) : Within S d₀ (d.decErr n) := (h.modDec.bump ho).occur

theorem Within.pubDec (h : Within S d₀ d) {n : Fin 64} {ws : List Word} (ho : ∀ i, i < ws.length → S.reg (buoyOff n + 0x74 + 4 * i))
    (h70 : S.reg (buoyOff n + 0x70)) (hr : S.Has .regs := by trivial) : Within S d₀ (d.pubDec n ws) := (h.wrWords ho hr).pubStat h70

theorem Within.setRate (h : Within S d₀ d) {n : Fin 64} {num den pre : Nat} (h4 : S.reg (buoyOff n + 4)) (h8 : S.reg (buoyOff n + 4 + 4))
    (hC : S.reg (buoyOff n + 0xC)) (hr : S.Has .regs := by trivial) : Within S d₀ (d.setRate n num den pre) := (h.pub40 h4 h8).wr hC

theorem Within.slotClear (h : Within S d₀ d) {n : Fin 64} (hE : S.Events := by trivial) (hb : S.Has .buoys := by trivial)
    (hp : S.Has .pairs := by trivial) (hc : S.Has .chans := by trivial) : Within S d₀ (d.slotClear n) := by
  unfold Dev.slotClear
  extract_lets was d1 d2
  have h1 : Within S d₀ d1 := h.modBuoy
  have h2 : Within S d₀ d2 := h1.foldl (fun _ _ h => .ite (fun _ => h) fun _ => h.setPair) _
  exact (h2.forFin fun _ _ h => .ite (fun _ => h.partnerClear) fun _ => h).marksEnd

theorem Within.signalLoss (h : Within S d₀ d) {n : Fin 64} (hS : S.Runs) : Within S d₀ (d.signalLoss n) :=
  h.forFin fun _ _ h => h.onlyIf fun _ h => h.leaveSlot hS

theorem Within.slotDown (h : Within S d₀ d) {n : Fin 64} {row : Nat} (hS : S.Senses) : Within S d₀ (d.slotDown n row) := by
  have ⟨hR, _, _, _⟩ := hS
  have ⟨_, hE, _, _, _, _, _⟩ := hR
  have ⟨⟨_, _, _⟩, _⟩ := hE
  unfold Dev.slotDown
  extract_lets l old d1 d2
  have h1 : Within S d₀ d1 := h.slotClear.modAct
  have h2 : Within S d₀ d2 := .ite (fun _ => (h1.bump (hR.buoyReg n)).occur) fun _ => h1
  exact .ite (fun _ => (((h2.stateEv.signalLoss hR).qualDown (hR.buoyReg n)).autopilotFor hR).onlyIf fun _ h => h.orphanJoin) fun _ => h1

theorem Within.slotLoss (h : Within S d₀ d) {n : Fin 64} (hS : S.Senses) : Within S d₀ (slotLoss n d) := by
  have ⟨_, _, _, _⟩ := hS
  unfold Machine.slotLoss
  cases (d.buoy n).act.st with
  | up => exact h.slotDown hS
  | returning => exact h.slotDown hS
  | down => exact h.modDec

theorem Within.slotRestart (h : Within S d₀ d) {n : Fin 64} (hS : S.Senses) : Within S d₀ (d.slotRestart n) := by
  have ⟨hR, _, _, _⟩ := hS
  have ⟨⟨_, _, _⟩, _⟩ := hR.events
  exact (h.slotDown hS).modBuoy.wrF (hR.buoyReg n)

theorem Within.slotUp (h : Within S d₀ d) {n : Fin 64} {t : Int} (hS : S.Runs) (hb : S.Has .buoys := by trivial) : Within S d₀ (d.slotUp n t) := by
  have ⟨_, hE, _, _, _, _, _⟩ := hS
  exact h.modBuoy.stateEv.qualUp hS

theorem Within.actEvent (h : Within S d₀ d) {n : Fin 64} {t : Int} {good frame : Bool} (hS : S.Runs) (hb : S.Has .buoys := by trivial) :
    Within S d₀ (d.actEvent n t good frame) := by
  unfold Dev.actEvent
  extract_lets a
  cases a.st with
  | up => exact h.modAct
  | down => exact h.modAct
  | returning => exact .ite (fun _ => h.modAct) fun _ => .ite (fun _ => h.slotUp hS) fun _ => h.modAct

theorem Within.gateEvent (h : Within S d₀ d) {n : Fin 64} {t ph : Int} (hb : S.Has .buoys := by trivial) : Within S d₀ (d.gateEvent n t ph) := h.modMon

theorem Within.edgeEvent (h : Within S d₀ d) {n : Fin 64} {t : Int} (hb : S.Has .buoys := by trivial) : Within S d₀ (d.edgeEvent n t) :=
  .ite (fun _ => h) fun _ => h.modMon.gateEvent

theorem Within.gatePublish (h : Within S d₀ d) {n : Fin 64} {y : Int} (h30 : S.reg (buoyOff n + 0x30)) (h34 : S.reg (buoyOff n + 0x30 + 4))
    (h38 : S.reg (buoyOff n + 0x38)) (h3C : S.reg (buoyOff n + 0x38 + 4)) (hr : S.Has .regs := by trivial) (hb : S.Has .buoys := by trivial) :
    Within S d₀ (d.gatePublish n y) := by
  rw [gatePublish_eq]
  beta_reduce
  extract_lets means d1
  have h1 : Within S d₀ d1 := (h.pub40 h30 h34).modMon
  cases d1.cmpChan n with
  | none => exact h1.modMon
  | some c => exact (h1.pub40 h38 h3C).modMon

theorem Within.gateStart (h : Within S d₀ d) {n : Fin 64} (hb : S.Has .buoys := by trivial) : Within S d₀ (d.gateStart n) := h.modMon

/-! ### Phases for the channels -/

theorem Within.chanPhase (h : Within S d₀ d) {c : Fin 16} {ph : Int} (hc : S.Has .chans := by trivial) : Within S d₀ (d.chanPhase c ph) := by
  have h1 : Within S d₀ (d.modTrack c fun t => { t with phValid := true, evs := t.evs ++ [ph] }) := h.modTrack
  exact .ite (fun _ => h1.modSw) fun _ => h1

theorem Within.chanEdge (h : Within S d₀ d) {n : Fin 64} {t : Int} (hc : S.Has .chans := by trivial) : Within S d₀ (d.chanEdge n t) :=
  h.forFin fun _ _ h => .ite (fun _ => h.modTrack.chanPhase) fun _ => h

theorem Within.chanGiven (h : Within S d₀ d) {n : Fin 64} {e : Int} (hc : S.Has .chans := by trivial) : Within S d₀ (d.chanGiven n e) :=
  h.forFin fun _ _ h => .ite (fun _ => h.chanPhase) fun _ => h

theorem Within.chanEstimate (h : Within S d₀ d) {n : Fin 64} (hc : S.Has .chans := by trivial) : Within S d₀ (d.chanEstimate n) :=
  h.forFin fun _ _ h => .ite (fun _ => .ite (fun _ => h.modTrack.modSw) fun _ => h.modTrack) fun _ => h

end Sys2Proof.Machine
end

section
/-! The frames of ports, host frames, cascade links and the host-interface reset, for scopes that let any ring change. -/

namespace Sys2Proof.Machine

set_option Elab.async false

variable {S : Scope} {d d₀ : Dev}

/-- The scope lets ports and clients leave their states and frames end: slots go down, results are queued and commands complete. -/
structure Scope.Links (S : Scope) : Prop where
  senses : S.Senses
  completes : S.Completes
  ports : S.Has .ports
  txts : S.Has .txts
  clients : S.Has .clients
  losses : ∀ p : Fin 8, S.reg (portOff p + 0xA0)
  lost : S.reg 0x208024
  lostHead : S.reg 0x208028

theorem portOff_lt (p : Fin 8) {k : Nat} (hk : k < 0x100) : portOff p + k < 0x2C1200 := by
  simp only [portOff]
  omega

theorem linkOff_lt (l : Fin 5) {k : Nat} (hk : k < 0x100) : linkOff l + k < 0x2C1200 := by
  simp only [linkOff]
  omega

/-! ### The host interface -/

theorem Within.msixFlush (h : Within S d₀ d) (hh : S.Has .host := by trivial) (hf : S.free = true := by trivial) : Within S d₀ d.msixFlush :=
  h.foldl (fun _ _ h => h.onlyIf fun _ h => h.modHost.vectorSignal) _

theorem Within.overflow (h : Within S d₀ d) {r : Fin 26} (hr : r = 8 ∨ r = 9) (hE : S.Events := by trivial) : Within S d₀ (d.overflow r) := by
  have ⟨⟨_, _, _⟩, _⟩ := hE
  have hl : ∀ w, (entryBytes 0x12 r 14 false d.stamp (b8 r :: leBytes 4 (satN 32 (d.ring r).lost)) w).length ≤ 32 :=
    fun w => Nat.le_of_eq (length_entryBytes ..)
  unfold Dev.overflow
  extract_lets n mk
  exact .ite (fun _ => h) fun _ => .ite (fun _ => h.evtEntry hl) fun _ => h.ringEntry hr hl

theorem Within.hostReset (h : Within S d₀ d) {cause : Nat} (hb : ∀ q d, Within S d₀ d → Within S d₀ (d.abortCq q))
    (ho : S.reg 0x2C0008 := by trivial) (hr : S.Has .regs := by trivial) (hh : S.Has .host := by trivial) (ht : S.Has .top := by trivial)
    (hf : S.free = true := by trivial) : Within S d₀ (d.hostReset cause) := by
  unfold Dev.hostReset
  exact .ite (fun _ => h) fun _ => (h.modHost.modTop.bump ho).forFin fun q d h => hb q d h

/-! ### Ports -/

theorem Within.bucketsSync (h : Within S d₀ d) {p : Fin 8} (hp : S.Has .ports := by trivial) : Within S d₀ (d.bucketsSync p) := h.modPort

theorem Within.txtsPush (h : Within S d₀ d) {p : Fin 8} {at_ : Int} {e : List Word} (h4 : S.reg 0x208024 := by trivial)
    (h8 : S.reg 0x208028 := by trivial) (hL : S.Logs := by trivial) (hw : S.Has .watch := by trivial) (ht : S.Has .txts := by trivial) :
    Within S d₀ (d.txtsPush p at_ e) := by
  have ⟨_, _, _⟩ := hL
  exact .ite (fun _ => h.modTxts) fun _ => ((h.bump h4).wr h8).occur.logEnt

theorem Within.txDone (h : Within S d₀ d) {p : Fin 8} {slot : TxSlot} {n : Nat} (hS : S.Io := by trivial) : Within S d₀ (d.txDone p slot n) := by
  have ⟨_, _, _⟩ := hS
  unfold Dev.txDone
  extract_lets r d1 was
  have h1 : Within S d₀ d1 := h.memWrite
  exact .ite (fun _ => h1.modRing.notice) fun _ => h1

theorem Within.txEnded (h : Within S d₀ d) {p : Fin 8} {f : TxFrame} {sent : Bool} (hS : S.Completes := by trivial) :
    Within S d₀ (d.txEnded p f sent) := by
  have ⟨_, _, _⟩ := hS
  unfold Dev.txEnded
  extract_lets d1
  have h1 : Within S d₀ d1 := by
    revert d1
    cases f.slot with
    | some i => exact h.txDone
    | none => exact h
  cases f.cmd with
  | some c => exact h1.complete
  | none => exact h1

theorem Within.txLost (h : Within S d₀ d) {p : Fin 8} {f : TxFrame} (h4 : S.reg 0x208024 := by trivial)
    (h8 : S.reg 0x208028 := by trivial) (hL : S.Logs := by trivial) (hw : S.Has .watch := by trivial) (ht : S.Has .txts := by trivial)
    (hS : S.Completes := by trivial) : Within S d₀ (d.txLost p f) :=
  (Within.ite (fun _ => h.txtsPush) fun _ => h).txEnded

theorem Within.txLosts (h : Within S d₀ d) {p : Fin 8} {l : List TxFrame} (h4 : S.reg 0x208024 := by trivial)
    (h8 : S.reg 0x208028 := by trivial) (hL : S.Logs := by trivial) (hw : S.Has .watch := by trivial) (ht : S.Has .txts := by trivial)
    (hS : S.Completes := by trivial) : Within S d₀ (l.foldl (fun d f => d.txLost p f) d) := h.foldl (fun _ _ h => h.txLost) l

theorem Within.txDrain (h : Within S d₀ d) {p : Fin 8} (h4 : S.reg 0x208024 := by trivial)
    (h8 : S.reg 0x208028 := by trivial) (hL : S.Logs := by trivial) (hw : S.Has .watch := by trivial) (ht : S.Has .txts := by trivial)
    (hp : S.Has .ports := by trivial) (hS : S.Completes := by trivial) : Within S d₀ (d.txDrain p) :=
  have h1 : Within S d₀ (d.modPort p fun x => { x with txq := [] }) := h.modPort
  h1.txLosts

theorem Within.txCommit (h : Within S d₀ d) {p : Fin 8} (hp : S.Has .ports := by trivial) (hS : S.Io := by trivial) : Within S d₀ (d.txCommit p) := by
  have ⟨_, _, _⟩ := hS
  unfold Dev.txCommit
  refine .ite (fun _ => ?_) fun _ => h
  have h1 : Within S d₀ (d.modRing (txRing p) fun g => { g with fetched := [] }) := h.modRing
  refine h1.foldl (fun e d' h => ?_) _
  cases txDesc (d'.txSlot p e.1) e.2 with
  | some f => exact h.modPort
  | none => exact h.txDone

theorem Within.portTo (h : Within S d₀ d) {p : Fin 8} {st : PortState} {row : Nat} (hp : S.Has .ports := by trivial) (hw : S.Has .watch := by trivial)
    (hE : S.Events := by trivial) (hl : S.load = true := by trivial) : Within S d₀ (d.portTo p st row) := by
  have h1 : Within S d₀ ((d.modPort p fun x => { x with st := st }).stateEv 12 0 p (d.port p).st.code st.code row 0xFF) := h.modPort.stateEv
  exact h1.loadRefresh

theorem Within.clientTo (h : Within S d₀ d) {k : Fin 16} {st : ClState} {row : Nat} (hc : S.Has .clients := by trivial)
    (hE : S.Events := by trivial) : Within S d₀ (d.clientTo k st row) := h.modClient.stateEv

theorem Within.clientPortDown (h : Within S d₀ d) {k : Fin 16} (hc : S.Has .clients := by trivial) (hE : S.Events := by trivial) :
    Within S d₀ (d.clientPortDown k) := .ite (fun _ => h) fun _ => h.modClient.clientTo

/-- The frames and the settling window of a port that has left UP are given up. -/
def Dev.portEmptied (p : Fin 8) (d : Dev) : Dev :=
  (((d.bump (portOff p + 0xA0) 16 16).bucketsSync p).modPort p fun x => { x with settling := false }).txDrain p

/-- The clients of a port that has left UP listen. -/
def Dev.clientsDown (p : Fin 8) (d : Dev) : Dev := forFin 16 (fun k d => onlyIf (d.clientPort k = p) (Dev.clientPortDown k) d) d

/-- What a port that has left state `old` takes along. -/
def Dev.portLeft (p : Fin 8) (old : PortState) (d : Dev) : Dev :=
  let d := if old = .cal || old = .up then slotLoss (syncSlot p) d else d
  if old = .up then (d.portEmptied p).clientsDown p else d

theorem portLeave_eq (p : Fin 8) (st : PortState) (row : Nat) (d : Dev) : d.portLeave p st row = (d.portTo p st row).portLeft p (d.port p).st := rfl

theorem Within.portEmptied (h : Within S d₀ d) {p : Fin 8} (hA : S.reg (portOff p + 0xA0)) (h4 : S.reg 0x208024 := by trivial)
    (h8 : S.reg 0x208028 := by trivial) (hw : S.Has .watch := by trivial) (ht : S.Has .txts := by trivial)
    (hp : S.Has .ports := by trivial) (hS : S.Completes := by trivial) : Within S d₀ (d.portEmptied p) := by
  have ⟨⟨_, hb, hh⟩, hr, _⟩ := hS
  have hL : S.Logs := ⟨hr, hb, hh⟩
  exact (h.bump hA).bucketsSync.modPort.txDrain

theorem Within.clientsDown (h : Within S d₀ d) {p : Fin 8} (hc : S.Has .clients := by trivial) (hE : S.Events := by trivial) :
    Within S d₀ (d.clientsDown p) := h.forFin fun _ _ h => h.onlyIf fun _ h => h.clientPortDown

theorem Within.portLeft (h : Within S d₀ d) {p : Fin 8} {old : PortState} (hS : S.Links) : Within S d₀ (d.portLeft p old) := by
  have ⟨hN, _, _, _, _, _, _, _⟩ := hS
  have ⟨hR, _, _, _⟩ := hN
  have ⟨_, hE, _, _, _, _, _⟩ := hR
  have h2 : Within S d₀ (if old = .cal || old = .up then Machine.slotLoss (syncSlot p) d else d) := .ite (fun _ => h.slotLoss hN) fun _ => h
  exact .ite (fun _ => (h2.portEmptied (hS.losses p) hS.lost hS.lostHead).clientsDown) fun _ => h2

theorem Within.portLeave (h : Within S d₀ d) {p : Fin 8} {st : PortState} {row : Nat} (hS : S.Links) (hl : S.load = true := by trivial) :
    Within S d₀ (d.portLeave p st row) := by
  have ⟨hN, _, _, _, _, _, _, _⟩ := hS
  have ⟨hR, _, _, _⟩ := hN
  have ⟨_, hE, _, _, _, _, _⟩ := hR
  exact h.portTo.portLeft hS

theorem Within.portLoss (h : Within S d₀ d) {p : Fin 8} (hS : S.Links) (hl : S.load = true := by trivial) : Within S d₀ (d.portLoss p) :=
  have := hS.senses.runs.watch
  .ite (fun _ => (h.portLeave hS).setCond (hl := .inr hl)) fun _ => h

/-! ### Cascade links -/

theorem Within.linkTo (h : Within S d₀ d) {l : Fin 5} {st : LinkState} {row : Nat} (ht : S.Has .tide := by trivial)
    (hE : S.Events := by trivial) : Within S d₀ (d.linkTo l st row) := h.modLink.stateEv

theorem Within.tideFlags (h : Within S d₀ d) (ht : S.Has .tide := by trivial) (hw : S.Has .watch := by trivial) : Within S d₀ d.tideFlags :=
  h.modTide.setCond.setCond.setCond

theorem Within.masterEvent (h : Within S d₀ d) (hE : S.Events := by trivial) : Within S d₀ d.masterEvent := h.event

theorem Within.swap (h : Within S d₀ d) {a b : Fin 5} (ho : S.reg 0x280020 := by trivial) (ht : S.Has .tide := by trivial)
    (hw : S.Has .watch := by trivial) (hE : S.Events := by trivial) : Within S d₀ (d.swap a b) :=
  have ⟨⟨_, _, _⟩, _⟩ := hE
  (h.bump ho).event.activate

theorem Within.trySwap (h : Within S d₀ d) (ho : S.reg 0x280020 := by trivial) (ht : S.Has .tide := by trivial)
    (hw : S.Has .watch := by trivial) (hE : S.Events := by trivial) : Within S d₀ d.trySwap := by
  unfold Dev.trySwap
  cases d.tide.active with
  | some a => exact .ite (fun _ => h.swap) fun _ => h
  | none => exact h

theorem Within.toOrphan (h : Within S d₀ d) {row : Nat} (ht : S.Has .tide := by trivial) (hE : S.Events := by trivial) :
    Within S d₀ (d.toOrphan row) := h.modTide.roleTo

theorem Within.activeLost (h : Within S d₀ d) {l : Fin 5} (ho : S.reg 0x280020 := by trivial) (ht : S.Has .tide := by trivial)
    (hw : S.Has .watch := by trivial) (hE : S.Events := by trivial) : Within S d₀ (d.activeLost l) :=
  .ite (fun _ => .ite (fun _ => h.trySwap.toOrphan.masterEvent) fun _ => h.trySwap) fun _ => h

theorem Within.linkDrop (h : Within S d₀ d) {l : Fin 5} {st : LinkState} {row : Nat} (ho : S.reg 0x280020 := by trivial)
    (ht : S.Has .tide := by trivial) (hw : S.Has .watch := by trivial) (hE : S.Events := by trivial) : Within S d₀ (d.linkDrop l st row) := by
  unfold Dev.linkDrop
  extract_lets d1
  have h1 : Within S d₀ d1 := h.linkTo.modLink
  exact h1.activeLost.tideFlags

theorem Within.linkLoss (h : Within S d₀ d) {l : Fin 5} (ho : S.reg 0x280020 := by trivial) (hl : S.reg (linkOff l + 0x34))
    (ht : S.Has .tide := by trivial) (hw : S.Has .watch := by trivial) (hE : S.Events := by trivial) : Within S d₀ (d.linkLoss l) := by
  have ⟨⟨_, _, _⟩, _⟩ := hE
  unfold Dev.linkLoss
  cases (d.link l).st with
  | up => exact (h.bump hl).occur.linkDrop
  | cal => exact h.linkDrop
  | ranging => exact h.linkDrop
  | off => exact h
  | sync => exact h

/-! ### Commands that are given up -/

theorem Within.unhold (h : Within S d₀ d) {src : CmdSrc} (h4 : S.reg 0x208024 := by trivial) (h8 : S.reg 0x208028 := by trivial)
    (hL : S.Logs := by trivial) (hw : S.Has .watch := by trivial) (ht : S.Has .txts := by trivial) (hp : S.Has .ports := by trivial)
    (hc : S.Has .chart := by trivial) (hf : S.Has .fw := by trivial) : Within S d₀ (d.unhold src) := by
  unfold Dev.unhold
  extract_lets mine d1 d2
  have h1 : Within S d₀ d1 := by
    refine h.forFin fun p d h => ?_
    have h2 : Within S d₀ (d.modPort p fun x => { x with txq := x.txq.filter fun f => !mine f }) := h.modPort
    exact h2.foldl (fun _ _ h => .ite (fun _ => h.txtsPush) fun _ => h) _
  have h2 : Within S d₀ d2 := h1.modChart
  exact h2.modFw

theorem Within.abortCq (h : Within S d₀ d) {q : Fin 4} (h4 : S.reg 0x208024 := by trivial) (h8 : S.reg 0x208028 := by trivial)
    (hC : S.Completes := by trivial) (hw : S.Has .watch := by trivial) (ht : S.Has .txts := by trivial) (hp : S.Has .ports := by trivial)
    (hc : S.Has .chart := by trivial) (hfw : S.Has .fw := by trivial) : Within S d₀ (d.abortCq q) := by
  have ⟨⟨hf, hb, hh⟩, hr, _⟩ := hC
  have hL : S.Logs := ⟨hr, hb, hh⟩
  unfold Dev.abortCq
  cases d.host.busy.get (srcIdx (.cq q)) with
  | none => exact h
  | some p =>
    dsimp only
    cases p.out with
    | some o => exact h.recordIp.cqRetire
    | none => exact .ite (fun _ => h) fun _ => h.unhold.recordIp.modHost

end Sys2Proof.Machine
end

section
/-! Fields of a written register, and the conditions of the Watch's sources. -/

namespace Sys2Proof.Machine

set_option Elab.async false

variable {d : Dev}

/-! ### A field after a write of a field -/

theorem rdF_wrF_same (off : Nat) {lo width v : Nat} (d : Dev) (h : lo + width ≤ 32) (hv : v < 2 ^ width) :
    (d.wrF off lo width v).rdF off lo width = v := by
  rw [Dev.rdF, Dev.wrF, rd_wr_same, fld_setFld_same _ _ h, Nat.mod_eq_of_lt hv]

theorem rdF_wrF_above (off : Nat) {lo width lo' width' : Nat} (v : Nat) (d : Dev) (h : lo + width ≤ 32) (h' : lo + width ≤ lo') :
    (d.wrF off lo width v).rdF off lo' width' = d.rdF off lo' width' := by
  rw [Dev.rdF, Dev.wrF, rd_wr_same, fld_setFld_above _ _ h h', Dev.rdF]

theorem rdF_wrF_below (off : Nat) {lo width lo' width' : Nat} (v : Nat) (d : Dev) (h : lo + width ≤ 32) (h' : lo' + width' ≤ lo) :
    (d.wrF off lo width v).rdF off lo' width' = d.rdF off lo' width' := by
  rw [Dev.rdF, Dev.wrF, rd_wr_same, fld_setFld_below _ _ h h', Dev.rdF]

theorem rd_wrF_ne {off a : Nat} (lo width v : Nat) (d : Dev) (h : off ≠ a) : (d.wrF off lo width v).rd a = d.rd a := rd_wr_ne _ _ h

theorem bitAt_lt (b : Bool) : bitAt 0 b < 2 ^ 1 := by cases b <;> decide

theorem bitAt_beq (b : Bool) : (bitAt 0 b == 1) = b := by cases b <;> rfl

/-- A bit that a write of its one-bit field has set. -/
theorem bit_wrF_same (off i : Nat) (b : Bool) (d : Dev) (h : i + 1 ≤ 32) : bit ((d.wrF off i 1 (bitAt 0 b)).rd off) i = b :=
  (congrArg (· == 1) (rdF_wrF_same off d h (bitAt_lt b))).trans (bitAt_beq b)

theorem bit_wrF_above (off : Nat) {lo width i : Nat} (v : Nat) (d : Dev) (h : lo + width ≤ 32) (h' : lo + width ≤ i) :
    bit ((d.wrF off lo width v).rd off) i = bit (d.rd off) i := congrArg (· == 1) (rdF_wrF_above off v d h h')

theorem bit_wrF_below (off : Nat) {lo width i : Nat} (v : Nat) (d : Dev) (h : lo + width ≤ 32) (h' : i + 1 ≤ lo) :
    bit ((d.wrF off lo width v).rd off) i = bit (d.rd off) i := congrArg (· == 1) (rdF_wrF_below off v d h h')

/-! ### Scopes of registers below the rings -/

/-- The scope of some parts, with the registers of a list that lie below the rings, and entries of the event ring and the log ring. -/
def lowScope (l : List Part) (offs : List Nat) (h : ∀ a ∈ offs, a < 0x2C1200 := by decide) : Scope :=
  eventScope l offs fun a ha => not_cfgWord_of_lt (h a ha)

theorem lowScope_reg {l : List Part} {offs : List Nat} {h : ∀ a ∈ offs, a < 0x2C1200} {a : Nat} (ha : a ∈ offs := by decide) :
    (lowScope l offs h).reg a := ha

/-- A register below the rings that the scope does not name reads as before. -/
theorem Within.below {l : List Part} {offs : List Nat} {h : ∀ a ∈ offs, a < 0x2C1200} {d d' : Dev} (hw : Within (lowScope l offs h) d d') (a : Nat)
    (ha : a ∉ offs := by decide) (hlt : a < 0x2C1200 := by decide) : d'.rd a = d.rd a := hw.regs a ha (not_eventWord_of_lt hlt)

/-! ### Conditions -/

theorem setCond_of_eq {src : Fin 192} {c : Bool} (obj : Nat) (h : (d.source src).cond = c) : d.setCond src obj c = d := if_pos h

theorem setCond_rise {src : Fin 192} (obj : Nat) (h : (d.source src).cond = false) :
    d.setCond src obj true = (d.modSource src fun s => { s with cond := true, rose := s.rose || s.blankTo.isSome }).occur src obj := by
  unfold Dev.setCond
  extract_lets s
  have hs : s.cond = false := h
  rw [if_neg (by rw [hs]; decide), if_pos rfl]

/-- A condition that rises reaches the Watch once. -/
theorem setCond_rise_reached {src : Fin 192} (obj : Nat) (h : (d.source src).cond = false) :
    (d.setCond src obj true).watch.reached.length = d.watch.reached.length + 1 := by
  rw [setCond_rise obj h]
  exact List.length_append.trans rfl

theorem rdF_setCond (src : Fin 192) (obj : Nat) (c : Bool) (off lo width : Nat) (d : Dev) :
    (d.setCond src obj c).rdF off lo width = d.rdF off lo width := congrArg (fld · lo width) (rd_of_regs (setCond_regs src obj c d) off)

end Sys2Proof.Machine
end

section
/-! Clocks (chapter 13): XO, CPLL and the switches of the domains. -/

namespace Sys2Proof.Machine

set_option Elab.async false

variable {d : Dev}

/-! ### The end of a window of XO -/

/-- The device once a window's count stands in XO_MEAS. -/
def Dev.windowSeen (w : XoWindow) (d : Dev) : Dev :=
  (d.wrF 0x010020 0 16 (satN 16 (w.xoHz / 100000))).modClk fun c => { c with bcn := true }

/-- The windows that count after one more. -/
def Dev.windowsWith (w : XoWindow) (d : Dev) : List XoWindow := if d.windowOk w then (w :: d.clk.windows).take 16 else []

theorem windowOk_windowSeen (w v : XoWindow) (d : Dev) : (d.windowSeen w).windowOk v = d.windowOk v := by
  have h : (d.windowSeen w).fXo = d.fXo := congrArg (fld · 0 28) (rd_wrF_ne (off := 0x010020) (a := 0x10000) 0 16 _ d (by decide))
  rw [Dev.windowOk, h, Dev.windowOk]

theorem xoWindowEnd_qualified {w : XoWindow} (hs : d.clk.sup ≠ .hold) (hx : d.clk.xo = true) : xoWindowEnd w d =
    (((d.windowSeen w).wrF 0x010020 16 16 (satN 16 w.bcnKhz)).modClk fun c =>
      { c with bcnBad := decide (w.bcnKhz < 29440 ∨ 34560 < w.bcnKhz) }).setCond 9 0 (decide (w.bcnKhz < 29440 ∨ 34560 < w.bcnKhz)) := by
  rw [Bool.decide_or]
  exact (if_neg hs).trans (if_pos hx)

theorem xoWindowEnd_counts {w : XoWindow} (hs : d.clk.sup ≠ .hold) (hx : d.clk.xo = false) (hf : d.clk.freqFinal = true) :
    xoWindowEnd w d = if windowsAgree (d.windowsWith w) then ((d.windowSeen w).modClk fun c => { c with windows := d.windowsWith w }).xoQualify
      else (d.windowSeen w).modClk fun c => { c with windows := d.windowsWith w } := by
  have hl : (d.windowSeen w).windowsWith w = d.windowsWith w := by rw [Dev.windowsWith, windowOk_windowSeen, Dev.windowsWith]; rfl
  rw [← hl]
  exact (if_neg hs).trans ((if_neg (Bool.eq_false_iff.mp hx)).trans (if_pos hf))

theorem xoWindowEnd_early {w : XoWindow} (hs : d.clk.sup ≠ .hold) (hx : d.clk.xo = false) (hf : d.clk.freqFinal = false) :
    xoWindowEnd w d = d.windowSeen w :=
  (if_neg hs).trans ((if_neg (Bool.eq_false_iff.mp hx)).trans
    (if_neg (Bool.eq_false_iff.mp hf)))

/-- What a window touches where XO does not qualify. -/
def measured : List Part := [.regs, .clk]

theorem windowSeen_within (w : XoWindow) (f : Clk → Clk) (d : Dev) :
    Within (lowScope measured [0x010020]) d ((d.windowSeen w).modClk f) :=
  ((Within.refl _ d).wrF lowScope_reg).modClk.modClk

/-- The parts that a Lantern's level changes. -/
def lanternParts : List Part := [.regs, .bar4, .host, .keeper, .lans, .outs, .vouts]

theorem xoQualify_fields (d : Dev) : d.xoQualify.clk = { d.clk with
      xo := true, aondiv := true, sup := .run, windows := [], everXo := true, xoTimer := false, aonSw := some true } ∧
    d.xoQualify.host.training = true := by
  unfold Dev.xoQualify
  extract_lets d1 d2
  have hw : Within (quietScope lanternParts) (d2.modHost fun h => { h with training := true }) (d2.modHost fun h => { h with training := true }).lanternsXo :=
    (Within.refl _ _).lanternsXo
  have hio := hw.io rfl
  have h1 : d1.clk = d.clk := by
    exact (apply_ite Dev.clk _ _ _).trans (ite_self _)
  refine ⟨hw.clk.trans ?_, (congrArg HostIf.training hio.host).trans rfl⟩
  show _ = _
  exact congrArg (fun c : Clk => { c with
    xo := true, aondiv := true, sup := .run, windows := [], everXo := true, xoTimer := false, aonSw := some true }) h1

/-! ### The failure of XO -/

/-- What the failure of XO may change, once the clocks stand. -/
def xoFailParts : List Part :=
  [.regs, .bar4, .host, .keeper, .watch, .top, .chart, .fw, .chans, .lans, .outs, .vouts, .buoys, .pairs, .tide, .ports, .txts, .clients]

theorem xoFailScope_links : (partScope xoFailParts).Links where
  senses := ⟨⟨fun _ _ => trivial, ⟨⟨rfl, rfl, rfl⟩, rfl⟩, rfl, rfl, rfl, rfl, rfl⟩, rfl, rfl, rfl⟩
  completes := ⟨⟨rfl, rfl, rfl⟩, rfl, rfl⟩
  ports := rfl
  txts := rfl
  clients := rfl
  losses := fun _ => trivial
  lost := trivial
  lostHead := trivial

/-- The clocks at the failure of XO (R341, R346, R347). -/
def Dev.clkWithoutXo (cause : Fin 3) (d : Dev) : Clk :=
  { d.clk with xo := false, aondiv := false, cpll := false, lastXoFail := BitVec.ofNat 2 (cause + 1), sup := .xoAbsent, windows := [],
               gapFrom := d.clk.aonUs, aonSw := fallBack d.clk.aonOnXo d.clk.aonSw,
               sysSw := fallBack (bit (d.rd 0x010010) 0) d.clk.sysSw, fastSw := fallBack (bit (d.rd 0x010010) 1) d.clk.fastSw }

theorem xoFail_within {cause : Fin 3} (hx : d.clk.xo = true) :
    Within (partScope xoFailParts) { d with clk := d.clkWithoutXo cause } (xoFail cause d) := by
  have hL := xoFailScope_links
  have hS := hL.senses
  unfold xoFail
  rw [if_pos hx]
  extract_lets w d1 d2 d3 d4
  have h1 : Within (partScope xoFailParts) { d with clk := d.clkWithoutXo cause } d1 := .refl _ _
  have h2 : Within (partScope xoFailParts) { d with clk := d.clkWithoutXo cause } d2 := (h1.wrF.bump).occur
  have h3 : Within (partScope xoFailParts) { d with clk := d.clkWithoutXo cause } d3 :=
    (h2.forFin (f := slotLoss) fun _ _ h => h.slotLoss hS).lanternsXo
  have h4 : Within (partScope xoFailParts) { d with clk := d.clkWithoutXo cause } d4 :=
    (h3.forFin (f := Dev.portLoss) fun _ _ h => h.portLoss hL).forFin (f := Dev.linkLoss) fun _ _ h => h.linkLoss trivial trivial
  have h5 : Within (partScope xoFailParts) { d with clk := d.clkWithoutXo cause } (d4.pcieClear false) := h4.modHost
  exact (h5.hostReset fun _ _ h => h.abortCq).modHost

theorem xoFail_link {cause : Fin 3} (hx : d.clk.xo = true) : (xoFail cause d).host.pcieUp = false :=
  (congrArg (fun d : Dev => d.host.pcieUp) (if_pos hx)).trans rfl

/-! ### The switches of the domains -/

theorem switchDone_eq {x : Domain} {to_ : Bool} (h : d.switchOf x = some to_) : switchDone x d = d.domainTo x to_ := by
  rw [switchDone, h]

/-- A forced switch: the domain runs on its new source, and the switch is counted, reported and logged (R345). -/
theorem forcedSwitch_eq {x : Domain} {to_ : Bool} (h : d.switchOf x = some to_) : forcedSwitch x d =
    (((d.domainTo x to_).bump 0x010028 16 16).occur 10 (Domain.code x)).logEnt 0x86 0 1
      [b8 (Domain.code x), b8 (bitAt 0 (d.domainOn x)), b8 (bitAt 0 to_)] := by
  rw [forcedSwitch, h]

/-- What the switches and sources of the domains read. -/
theorem domains_of_clk {d d' : Dev} (hc : d'.clk = d.clk) (hr : d'.rd 0x010010 = d.rd 0x010010) (x : Domain) :
    d'.domainOn x = d.domainOn x ∧ d'.switchOf x = d.switchOf x := by
  cases x <;> simp only [Dev.domainOn, Dev.switchOf, hc, hr, and_self]

theorem domainTo_same (x : Domain) (to_ : Bool) (d : Dev) : (d.domainTo x to_).domainOn x = to_ ∧ (d.domainTo x to_).switchOf x = none := by
  cases x with
  | aon => exact ⟨rfl, rfl⟩
  | sys => exact ⟨bit_wrF_same 0x010010 0 to_ _ (by decide), rfl⟩
  | fast => exact ⟨bit_wrF_same 0x010010 1 to_ _ (by decide), rfl⟩

theorem domainTo_ne {x y : Domain} (to_ : Bool) (d : Dev) (h : y ≠ x) :
    (d.domainTo x to_).domainOn y = d.domainOn y ∧ (d.domainTo x to_).switchOf y = d.switchOf y := by
  cases x with
  | aon => cases y with
    | aon => exact absurd rfl h
    | sys => exact ⟨rfl, rfl⟩
    | fast => exact ⟨rfl, rfl⟩
  | sys => cases y with
    | aon => exact ⟨rfl, rfl⟩
    | sys => exact absurd rfl h
    | fast => exact ⟨bit_wrF_above 0x010010 (bitAt 0 to_) _ (by decide) (by decide), rfl⟩
  | fast => cases y with
    | aon => exact ⟨rfl, rfl⟩
    | sys => exact ⟨bit_wrF_below 0x010010 (bitAt 0 to_) _ (by decide) (by decide), rfl⟩
    | fast => exact absurd rfl h

theorem Within.domainTo {S : Scope} {d₀ : Dev} (h : Within S d₀ d) {x : Domain} {to_ : Bool} (ho : S.reg 0x010010) (hr : S.Has .regs := by trivial)
    (hc : S.Has .clk := by trivial) : Within S d₀ (d.domainTo x to_) := by
  unfold Dev.domainTo
  cases x with
  | aon => exact h.modClk
  | sys => exact h.modClk.wrF ho
  | fast => exact h.modClk.wrF ho

/-- A switch that is done, and what is logged of a forced one. -/
theorem forcedSwitch_states {x : Domain} {to_ : Bool} {s : State} (h : s.dev.switchOf x = some to_) :
    ∃ t, exec (.forcedSwitch x) s = .next t ∧ t.pending = s.pending ∧ t.dev.domainOn x = to_ ∧ t.dev.switchOf x = none ∧
      (∀ y, y ≠ x → t.dev.domainOn y = s.dev.domainOn y ∧ t.dev.switchOf y = s.dev.switchOf y) ∧
      Counts 0x010028 16 16 s.dev t.dev ∧ Reports 10 (Domain.code x) s.dev t.dev ∧ (t.dev.ring 9).seq = (s.dev.ring 9).seq + 1 ∧
      t.dev = { s.dev with regs := t.dev.regs, bar4 := t.dev.bar4, host := t.dev.host, clk := t.dev.clk, watch := t.dev.watch } ∧
      EventFrame [0x010010, 0x010028] s.dev t.dev := by
  have hsw : Within (lowScope [.regs, .clk] [0x010010]) s.dev (s.dev.domainTo x to_) := (Within.refl _ s.dev).domainTo lowScope_reg
  have hcnt := bump_counts 0x010028 (lo := 16) (width := 16) (s.dev.domainTo x to_) (by decide)
  have hall : Within (lowScope [.regs, .bar4, .host, .clk, .watch] [0x010010, 0x010028]) s.dev (forcedSwitch x s.dev) := by
    rw [forcedSwitch_eq h]
    exact ((((Within.refl _ s.dev).domainTo lowScope_reg).bump lowScope_reg).occur).logEnt
  have hlog := logEnt_seq 0x86 0 1 [b8 (Domain.code x), b8 (bitAt 0 (s.dev.domainOn x)), b8 (bitAt 0 to_)]
    (((s.dev.domainTo x to_).bump 0x010028 16 16).occur 10 (Domain.code x))
  have htail : Within (lowScope [.regs, .bar4, .host] []) (((s.dev.domainTo x to_).bump 0x010028 16 16).occur 10 (Domain.code x))
      (forcedSwitch x s.dev) := by
    rw [forcedSwitch_eq h]
    exact (Within.refl _ _).logEnt
  have hdom : ∀ y, (forcedSwitch x s.dev).domainOn y = (s.dev.domainTo x to_).domainOn y ∧
      (forcedSwitch x s.dev).switchOf y = (s.dev.domainTo x to_).switchOf y :=
    domains_of_clk (htail.clk.trans rfl) ((htail.below 0x010010).trans
      (rd_wr_ne _ _ (by decide)))
  obtain ⟨hon, hsw'⟩ := domainTo_same x to_ s.dev
  refine ⟨_, exec_run rfl rfl, rfl, (hdom x).1.trans hon, (hdom x).2.trans hsw', fun y hy => ?_, ?_, ?_, ?_, hall.eq, hall.eventFrame rfl fun _ h => h⟩
  · obtain ⟨hd, hw⟩ := hdom y
    obtain ⟨hd', hw'⟩ := domainTo_ne to_ s.dev hy
    exact ⟨hd.trans hd', hw.trans hw'⟩
  · exact (hcnt.before (hsw.below 0x010028)).after (htail.below 0x010028)
  · exact Within.reports (reports_occur rfl (show ((s.dev.domainTo x to_).bump 0x010028 16 16).watch = s.dev.watch from hsw.watch)) htail
  · rw [← forcedSwitch_eq h] at hlog
    exact hlog.trans (congrArg (fun h : HostIf => (h.rings.get 9).seq + 1) hsw.host)

/-- A window at a qualified XO shows the Beacon, whose clock-bad condition follows the count. -/
theorem beaconMeasured_state {w : XoWindow} {s : State} (hs : s.dev.clk.sup ≠ .hold) (hx : s.dev.clk.xo = true) {bad : Bool}
    (hb : bad = decide (w.bcnKhz < 29440 ∨ 34560 < w.bcnKhz)) : ∃ t, exec (.xoWindowEnd w) s = .next t ∧ t.pending = s.pending ∧
        t.dev.clk = { s.dev.clk with bcn := true, bcnBad := bad } ∧ (t.dev.source 9).cond = bad ∧
        t.dev.rdF 0x010020 0 16 = satN 16 (w.xoHz / 100000) ∧ t.dev.rdF 0x010020 16 16 = satN 16 w.bcnKhz ∧
        ((s.dev.source 9).cond = bad → t.dev.watch = s.dev.watch) ∧ ((s.dev.source 9).cond = false → bad = true →
          t.dev.watch.reached.length = s.dev.watch.reached.length + 1) ∧
        t.dev = { s.dev with clk := t.dev.clk, regs := t.dev.regs, watch := t.dev.watch } ∧ KeepsRegs [0x010020] s.dev t.dev := by
  have heq := xoWindowEnd_qualified (w := w) hs hx
  rw [← hb] at heq
  generalize he : (((s.dev.windowSeen w).wrF 0x010020 16 16 (satN 16 w.bcnKhz)).modClk fun c => { c with bcnBad := bad }) = e at heq
  have hmeas : Within (lowScope measured [0x010020]) s.dev e := he ▸ (((Within.refl _ s.dev).wrF lowScope_reg).modClk.wrF lowScope_reg).modClk
  have hw : Within (lowScope [.regs, .clk, .watch] [0x010020]) s.dev (e.setCond 9 0 bad) := by
    rw [← he]
    exact (((Within.refl _ s.dev).wrF lowScope_reg).modClk.wrF lowScope_reg).modClk.setCond
  have hcond : Within (lowScope [.watch] []) e (e.setCond 9 0 bad) := (Within.refl _ e).setCond
  have hsrc : e.source 9 = s.dev.source 9 := congrArg (fun w : Watch => w.srcs.get 9) hmeas.watch
  have hxo : e.rdF 0x010020 0 16 = satN 16 (w.xoHz / 100000) := by
    rw [← he]
    exact (rdF_wrF_below 0x010020 _ (s.dev.windowSeen w) (by decide) (by decide)).trans (rdF_wrF_same 0x010020 s.dev (by decide) (satN_lt _ _))
  have hbcn : e.rdF 0x010020 16 16 = satN 16 w.bcnKhz := by
    rw [← he]
    exact rdF_wrF_same 0x010020 (s.dev.windowSeen w) (by decide) (satN_lt _ _)
  refine ⟨_, exec_run rfl heq, rfl, hcond.clk.trans (by rw [← he]; rfl), setCond_cond 9 0 bad e, (rdF_setCond ..).trans hxo,
    (rdF_setCond ..).trans hbcn, fun h => ?_, fun h hbad => ?_, hw.eq, hw.keepsRegs fun _ h => h⟩
  · exact (congrArg Dev.watch (setCond_of_eq 0 (hsrc ▸ h))).trans hmeas.watch
  · subst hbad
    have hrise := setCond_rise_reached (d := e) 0 (hsrc ▸ h)
    exact hrise.trans (congrArg (·.reached.length + 1) hmeas.watch)

/-- Settles O12: XO, its failure and the CPLL, and the switches of the domains. -/
theorem clocks : Obligations.Clocks := by
  refine ⟨fun s => ⟨fun w hs hx hf hok => ?_, fun w hs hx hf hok => ?_, fun w hs hx hf => ?_, fun w bad hs hx hb => beaconMeasured_state hs hx hb,
    fun ht hs hx => ?_, fun cause hx => ?_, fun hx => exec_run rfl (if_pos hx), rfl⟩, fun x to_ s h => ⟨?_, forcedSwitch_states h⟩⟩
  · have hl : s.dev.windowsWith w = (w :: s.dev.clk.windows).take 16 := if_pos hok
    have heq := xoWindowEnd_counts (w := w) hs hx hf
    rw [hl] at heq
    cases ha : windowsAgree ((w :: s.dev.clk.windows).take 16) with
    | true =>
      rw [ha, if_pos rfl] at heq
      obtain ⟨hclk, htrain⟩ := xoQualify_fields ((s.dev.windowSeen w).modClk fun c => { c with windows := (w :: s.dev.clk.windows).take 16 })
      generalize Dev.xoQualify _ = e at heq hclk htrain
      refine ⟨_, exec_run rfl heq, rfl, congrArg Clk.bcn hclk, fun _ => ⟨congrArg Clk.xo hclk, congrArg Clk.aondiv hclk, congrArg Clk.sup hclk,
        congrArg Clk.aonSw hclk, htrain⟩, fun h => absurd h (by decide)⟩
    | false =>
      rw [ha, if_neg (by decide)] at heq
      have hw := windowSeen_within w (fun c => { c with windows := (w :: s.dev.clk.windows).take 16 }) s.dev
      exact ⟨_, exec_run rfl heq, rfl, rfl, fun h => absurd h (by decide), fun _ => ⟨rfl, hw.eq, hw.keepsRegs fun _ h => h⟩⟩
  · have hl : s.dev.windowsWith w = [] := if_neg (Bool.eq_false_iff.mp hok)
    have heq := xoWindowEnd_counts (w := w) hs hx hf
    rw [hl, if_neg (by decide)] at heq
    exact ⟨_, exec_run rfl heq, rfl⟩
  · have hw := windowSeen_within w id s.dev
    exact ⟨_, exec_run rfl (xoWindowEnd_early hs hx hf), rfl, rfl, hw.eq, hw.keepsRegs fun _ h => h⟩
  · exact ⟨_, exec_run rfl (if_pos (by rw [ht, hs, hx]; rfl)), rfl, rfl, reports_occur rfl rfl, rfl⟩
  · have hw := xoFail_within (cause := cause) hx
    have hc : (xoFail cause s.dev).clk = s.dev.clkWithoutXo cause := hw.clk
    refine ⟨_, exec_run rfl rfl, rfl, congrArg Clk.xo hc, congrArg Clk.cpll hc, congrArg Clk.aondiv hc, congrArg Clk.sup hc,
      congrArg Clk.lastXoFail hc, congrArg Clk.gapFrom hc, (congrArg Clk.tbUs hc).trans rfl, xoFail_link hx, hw.bar4Gen, hw.otp, hw.pwr, hw.ts, hw.pilot⟩
  · have hw : Within (lowScope [.regs, .clk] [0x010010]) s.dev (s.dev.domainTo x to_) := (Within.refl _ s.dev).domainTo lowScope_reg
    obtain ⟨hon, hsw⟩ := domainTo_same x to_ s.dev
    exact ⟨_, exec_run rfl (switchDone_eq h), rfl, hon, hsw, fun y hy => domainTo_ne to_ s.dev hy, hw.eq, hw.keepsRegs fun _ h => h⟩

end Sys2Proof.Machine
end

section
/-! Operating points (chapter 13): the sequencer and thermal throttling. -/

namespace Sys2Proof.Machine

set_option Elab.async false

variable {d d' : Dev}

/-! ### What OVERLOAD reads -/

theorem mcLoad_congr {p : Fin 8} (hsrv : d'.rd (psrvOff p) = d.rd (psrvOff p)) (hcfg : d'.rd (portOff p) = d.rd (portOff p))
    (hst : (d'.port p).st = (d.port p).st) (hts : d'.ts = d.ts) (hpilot : d'.pilot = d.pilot) (hpwr : d'.pwr = d.pwr) (hclk : d'.clk = d.clk)
    (htop : d'.top = d.top) : d'.mcLoad p = d.mcLoad p := by
  have hsrv : d'.psrv p = d.psrv p := hsrv
  have hunset : d'.portUnset p = d.portUnset p := by
    rw [Dev.portUnset, Dev.portUnset, Dev.tsc, Dev.tsc, hts, Dev.portTs, Dev.portTs, Dev.portCfg, Dev.portCfg, hcfg]
  have hon : d'.pilotsOn = d.pilotsOn := by
    rw [Dev.pilotsOn, Dev.pilotsOn, Dev.shed, Dev.shed, Dev.blockReady, Dev.blockReady, hpilot, hpwr, htop, hclk]
  have hmc : d'.mcOn p = d.mcOn p := by rw [Dev.mcOn, Dev.mcOn, Dev.serving, Dev.serving, hsrv, hst, hunset, hon]
  rw [Dev.mcLoad, Dev.mcLoad, Dev.psrvTwoStep, Dev.psrvTwoStep, hmc, hsrv]

/-- OVERLOAD rests on the servers' and the ports' set-up words, on the states of the ports, and on parts that say whether a server serves. -/
theorem overload_of (hsrv : ∀ p : Fin 8, d'.rd (psrvOff p) = d.rd (psrvOff p)) (hcfg : ∀ p : Fin 8, d'.rd (portOff p) = d.rd (portOff p))
    (hst : ∀ p, (d'.port p).st = (d.port p).st) (hts : d'.ts = d.ts) (hpilot : d'.pilot = d.pilot) (hpwr : d'.pwr = d.pwr)
    (hclk : d'.clk = d.clk) (htop : d'.top = d.top) : d'.overload = d.overload := by
  have hl : d'.mcLoad = d.mcLoad := funext fun p => mcLoad_congr (hsrv p) (hcfg p) (hst p) hts hpilot hpwr hclk htop
  rw [Dev.overload, Dev.overload, Dev.load16, Dev.load16, Dev.cap, Dev.cap, hl, hpilot, hpwr]

theorem overload_congr (hreg : ∀ a, a < 0x2C1200 → d'.rd a = d.rd a) (hports : d'.ports = d.ports) (hts : d'.ts = d.ts)
    (hpilot : d'.pilot = d.pilot) (hpwr : d'.pwr = d.pwr) (hclk : d'.clk = d.clk) (htop : d'.top = d.top) : d'.overload = d.overload :=
  overload_of (fun p => hreg _ (by simp only [psrvOff]; omega)) (fun p => hreg _ (portOff_lt p (k := 0) (by decide)))
    (fun p => congrArg (fun v : Vector Port 8 => (v.get p).st) hports) hts hpilot hpwr hclk htop

/-- The Pilot-overload source follows what OVERLOAD is then. -/
theorem loadRefresh_follows (d : Dev) : (d.loadRefresh.source 146).cond = d.loadRefresh.overload := by
  have hw : Within (looseScope [.watch] []) d d.loadRefresh := (Within.refl _ d).loadRefresh
  have h : d.loadRefresh.overload = d.overload := by
    rw [hw.eq]
    rfl
  exact (setCond_cond 146 0 _ d).trans h.symm

theorem loadRefresh_eq (d : Dev) : d.loadRefresh = { d with watch := d.loadRefresh.watch } :=
  ((Within.refl (looseScope [.watch] []) d).loadRefresh).eq

/-! ### The end of a command -/

/-- What the end of a command changes. -/
def completionScope : Scope := looseScope [.regs, .bar4, .host, .keeper] []

theorem complete_within (src : CmdSrc) (p : InProg) (o : CmdOut) (d : Dev) : Within completionScope d (d.complete src p o) :=
  (Within.refl _ d).complete (hS := ⟨⟨rfl, rfl, rfl⟩, rfl, rfl⟩)

theorem Within.completionBelow (h : Within completionScope d d') {a : Nat} (ha : a < 0x2C1200) : d'.rd a = d.rd a :=
  h.regs a List.not_mem_nil (not_eventWord_of_lt ha)

theorem complete_overload (src : CmdSrc) (p : InProg) (o : CmdOut) (d : Dev) : (d.complete src p o).overload = d.overload :=
  have h := complete_within src p o d
  overload_congr (fun _ ha => h.completionBelow ha) h.ports h.ts h.pilot h.pwr h.clk h.top

theorem oppDone_none (o : Nat → CmdOut) (h : d.pwr.oppCmd = none) : d.oppDone o = d := by rw [Dev.oppDone, h]

theorem oppDone_some (o : Nat → CmdOut) {x : CmdSrc × InProg} (h : d.pwr.oppCmd = some x) :
    d.oppDone o = (d.modPwr fun p => { p with oppCmd := none }).complete x.1 x.2 (o d.pwr.inForce.toNat) := by rw [Dev.oppDone, h]

theorem oppDone_pwr (o : Nat → CmdOut) (d : Dev) : (d.oppDone o).pwr = { d.pwr with oppCmd := none } := by
  cases h : d.pwr.oppCmd with
  | none => rw [oppDone_none o h, ← h]
  | some x => exact (congrArg Dev.pwr (oppDone_some o h)).trans (complete_within ..).pwr

/-- The end of a PWR_OPP, or none waits. -/
theorem Within.oppDone {S : Scope} {d₀ : Dev} {o : Nat → CmdOut} (h : Within S d₀ d) (hp : S.Has .pwr := by trivial) (hS : S.Completes := by trivial) :
    Within S d₀ (d.oppDone o) := by
  unfold Dev.oppDone
  cases d.pwr.oppCmd with
  | none => exact h
  | some x => exact h.modPwr.complete

theorem Within.oppKick {S : Scope} {d₀ : Dev} (h : Within S d₀ d) (hp : S.Has .pwr := by trivial) (hw : S.Has .watch := by trivial)
    (hS : S.Completes := by trivial) (hl : S.load = true := by trivial) : Within S d₀ d.oppKick :=
  .ite (fun _ => h) fun _ => .ite (fun _ => h.modPwr) fun _ => .ite (fun _ => h.modPwr.loadRefresh) fun _ => h.oppDone

theorem oppDone_within (o : Nat → CmdOut) (d : Dev) : Within (looseScope [.regs, .bar4, .host, .keeper, .pwr] []) d (d.oppDone o) :=
  (Within.refl _ d).oppDone rfl ⟨⟨rfl, rfl, rfl⟩, rfl, rfl⟩

theorem oppDone_overload (o : Nat → CmdOut) (d : Dev) : (d.oppDone o).overload = d.overload := by
  cases h : d.pwr.oppCmd with
  | none => rw [oppDone_none o h]
  | some x => exact (congrArg Dev.overload (oppDone_some o h)).trans ((complete_overload ..).trans rfl)

/-! ### The sequencer at rest -/

theorem oppKick_up (ha : d.pwr.avs = .rest) (h : d.pwr.inForce.toNat < d.oppWanted) : d.oppKick = { d with pwr := { d.pwr with
    avs := .upAck (BitVec.ofNat 2 (d.pwr.inForce.toNat + 1)), millivolt := d.oppMv (d.pwr.inForce.toNat + 1) } } :=
  (if_neg (not_not_intro ha)).trans (if_pos h)

theorem oppKick_down (ha : d.pwr.avs = .rest) (h : d.oppWanted < d.pwr.inForce.toNat) : d.oppKick = (d.modPwr fun p => { p with
    inForce := BitVec.ofNat 2 (d.pwr.inForce.toNat - 1), avs := .downAck, millivolt := d.oppMv (d.pwr.inForce.toNat - 1) }).loadRefresh :=
  (if_neg (not_not_intro ha)).trans ((if_neg (Nat.lt_asymm h)).trans (if_pos h))

theorem oppKick_there (ha : d.pwr.avs = .rest) (h : d.oppWanted = d.pwr.inForce.toNat) : d.oppKick = d.oppDone fun n => .ok n :=
  (if_neg (not_not_intro ha)).trans ((if_neg (Nat.lt_irrefl _ <| h ▸ ·)).trans (if_neg (Nat.lt_irrefl _ <| h ▸ ·)))

theorem oppKick_moving (ha : d.pwr.avs ≠ .rest) : d.oppKick = d := if_pos ha

/-- What a step of the sequencer may change. -/
def oppParts : List Part := [.regs, .bar4, .host, .keeper, .pwr, .watch]

theorem oppKick_within (d : Dev) : Within (looseScope oppParts []) d d.oppKick :=
  (Within.refl _ d).oppKick rfl rfl ⟨⟨rfl, rfl, rfl⟩, rfl, rfl⟩

/-- The sequencer moves nothing of throttling. -/
theorem oppKick_throttle (d : Dev) : d.oppKick.pwr.cap = d.pwr.cap ∧ d.oppKick.pwr.hot = d.pwr.hot ∧ d.oppKick.pwr.cool = d.pwr.cool := by
  by_cases ha : d.pwr.avs = .rest
  · obtain h | h | h := Nat.lt_trichotomy d.oppWanted d.pwr.inForce.toNat
    · rw [oppKick_down ha h, loadRefresh_eq]
      exact ⟨rfl, rfl, rfl⟩
    · rw [oppKick_there ha h, oppDone_pwr]
      exact ⟨rfl, rfl, rfl⟩
    · rw [oppKick_up ha h]
      exact ⟨rfl, rfl, rfl⟩
  · rw [oppKick_moving ha]
    exact ⟨rfl, rfl, rfl⟩

theorem oppKick_reached (d : Dev) : ∃ l, d.oppKick.watch.reached = d.watch.reached ++ l := by
  by_cases ha : d.pwr.avs = .rest
  · obtain h | h | h := Nat.lt_trichotomy d.oppWanted d.pwr.inForce.toNat
    · rw [oppKick_down ha h]
      exact setCond_reached 146 0 _ _
    · rw [oppKick_there ha h, (oppDone_within ..).watch]
      exact ⟨[], (List.append_nil _).symm⟩
    · rw [oppKick_up ha h]
      exact ⟨[], (List.append_nil _).symm⟩
  · rw [oppKick_moving ha]
    exact ⟨[], (List.append_nil _).symm⟩

/-! ### The acknowledgement and the end of SETTLE -/

/-- The sequencer at rest after an acknowledgement. -/
def Dev.avsRested (d : Dev) : Dev := d.modPwr fun p => { p with avs := .rest, avsErr := false }

theorem avsAck_rested (h : d.pwr.avs = .downAck ∨ d.pwr.avs = .initAck) : avsAck d = d.avsRested.oppKick := by
  unfold avsAck
  obtain h | h := h <;> rw [h] <;> rfl

/-- The point of a raise in force once its voltage has settled. -/
def Dev.avsSettled (pt : BitVec 2) (d : Dev) : Dev := (d.modPwr fun p => { p with inForce := pt, avs := .rest }).loadRefresh

theorem avsSettle_eq {pt : BitVec 2} (h : d.pwr.avs = .upSettle pt) : avsSettle d = (d.avsSettled pt).oppKick := by
  unfold avsSettle
  rw [h]
  rfl

theorem avsSettled_eq (pt : BitVec 2) (d : Dev) :
    d.avsSettled pt = { d with pwr := { d.pwr with inForce := pt, avs := .rest }, watch := (d.avsSettled pt).watch } := loadRefresh_eq _

theorem avsSettled_wanted (pt : BitVec 2) (d : Dev) : (d.avsSettled pt).oppWanted = d.oppWanted := by
  rw [avsSettled_eq]
  rfl

theorem avsTimeout_eq (h : d.pwr.avs.waits = true) : avsTimeout d =
    (((d.modPwr fun p => { p with avs := .rest, avsErr := true }).bump 0x020010 0 8).occur 11 0).oppDone fun n => .timeout n := if_pos h

/-! ### Throttling -/

theorem capDrop_eq (h : d.pwr.cap ≠ 0) :
    d.capDrop = (((d.modPwr fun p => { p with cap := p.cap - 1 }).bump 0x020010 8 8).occur 12 0).oppKick := if_neg h

theorem capDrop_drops (h : d.pwr.cap ≠ 0) : d.capDrop.pwr.cap = d.pwr.cap - 1 ∧ d.capDrop.pwr.hot = d.pwr.hot ∧
    d.capDrop.pwr.cool = d.pwr.cool ∧ Counts 0x020010 8 8 d d.capDrop ∧ ∃ r ∈ d.capDrop.watch.reached, r.occ = ⟨12, 0, false, false⟩ := by
  rw [capDrop_eq h]
  generalize he : d.modPwr (fun p => { p with cap := p.cap - 1 }) = e
  have hcnt := bump_counts 0x020010 (lo := 8) (width := 8) e (by decide)
  obtain ⟨hcap, hhot, hcool⟩ := oppKick_throttle ((e.bump 0x020010 8 8).occur 12 0)
  obtain ⟨l, hl⟩ := oppKick_reached ((e.bump 0x020010 8 8).occur 12 0)
  have hk := oppKick_within ((e.bump 0x020010 8 8).occur 12 0)
  refine ⟨hcap.trans (he ▸ rfl), hhot.trans (he ▸ rfl), hcool.trans (he ▸ rfl), ?_, ?_⟩
  · exact (hcnt.before (he ▸ rfl)).after ((hk.regs 0x020010 (by simp [looseScope]) (not_eventWord_of_lt (by decide))).trans rfl)
  · rw [hl]
    exact ⟨_, List.mem_append_left _ (List.mem_append_right _ (.head _)), rfl⟩

theorem thermalSample_heats (ht : 6720 < d.pwr.tjMax) (hh : d.pwr.hot = false) :
    thermalSample d = (d.modPwr fun p => { p with hot := true, cool := false }).capDrop :=
  (if_pos ht).trans (if_neg (Bool.eq_false_iff.mp hh))

/-- What the end of SETTLE leaves of a raise to `pt`, by where the point wanted lies. -/
theorem avsSettle_state {s : State} {pt : BitVec 2} (h : s.dev.pwr.avs = .upSettle pt) :
    ∃ t, exec .avsSettleExpiry s = .next t ∧ t.pending = s.pending ∧
      (t.dev.source 146).cond = t.dev.overload ∧
      (s.dev.oppWanted = pt.toNat → t.dev.pwr = { s.dev.pwr with avs := .rest, inForce := pt, oppCmd := none } ∧
        (s.dev.pwr.oppCmd = none → t.dev = { s.dev with pwr := t.dev.pwr, watch := t.dev.watch }) ∧
        (∀ x, s.dev.pwr.oppCmd = some x → ∃ d : Dev, t.dev = d.complete x.1 x.2 (.ok pt.toNat) ∧
          d = { s.dev with pwr := d.pwr, watch := d.watch })) ∧
      (pt.toNat < s.dev.oppWanted → t.dev = { s.dev with pwr := t.dev.pwr, watch := t.dev.watch } ∧
        t.dev.pwr = { s.dev.pwr with
          avs := .upAck (BitVec.ofNat 2 (pt.toNat + 1)), inForce := pt, millivolt := s.dev.oppMv (pt.toNat + 1) }) ∧
      (s.dev.oppWanted < pt.toNat → t.dev = { s.dev with pwr := t.dev.pwr, watch := t.dev.watch } ∧
        t.dev.pwr = { s.dev.pwr with
          avs := .downAck, inForce := BitVec.ofNat 2 (pt.toNat - 1), millivolt := s.dev.oppMv (pt.toNat - 1) }) := by
  have hall : ∀ d', Within (looseScope [.pwr, .watch] []) s.dev d' → d' = { s.dev with pwr := d'.pwr, watch := d'.watch } := fun _ h => h.eq
  have he : Within (looseScope [.pwr, .watch] []) s.dev (s.dev.avsSettled pt) := (Within.refl _ s.dev).modPwr.loadRefresh
  have hpwr : (s.dev.avsSettled pt).pwr = { s.dev.pwr with inForce := pt, avs := .rest } := by rw [avsSettled_eq]
  have hmv : ∀ n, (s.dev.avsSettled pt).oppMv n = s.dev.oppMv n := fun n => by rw [Dev.oppMv, he.regs _ List.not_mem_nil (not_eventWord_of_lt (by decide)), Dev.oppMv]
  have hcond : ((s.dev.avsSettled pt).source 146).cond = (s.dev.avsSettled pt).overload := loadRefresh_follows _
  have hw := avsSettled_wanted pt s.dev
  have heq := avsSettle_eq h
  generalize s.dev.avsSettled pt = e at *
  have hrest : e.pwr.avs = .rest := congrArg Pwr.avs hpwr
  have hpt : e.pwr.inForce = pt := congrArg Pwr.inForce hpwr
  obtain hlt | hsame | hlt := Nat.lt_trichotomy s.dev.oppWanted pt.toNat
  · have hk := oppKick_down hrest (by rw [hw, hpt]; exact hlt)
    rw [hpt, hmv] at hk
    have h2 : Within (looseScope [.pwr, .watch] []) s.dev e.oppKick := by
      rw [hk]
      exact he.modPwr.loadRefresh
    refine ⟨_, exec_run rfl heq, rfl, hk ▸ loadRefresh_follows _, fun h => absurd hlt (Nat.not_lt.mpr h.ge), fun h => absurd hlt (Nat.lt_asymm h),
      fun _ => ⟨hall _ h2, ?_⟩⟩
    refine ((congrArg Dev.pwr hk).trans (congrArg Dev.pwr (loadRefresh_eq _))).trans ?_
    show { e.pwr with inForce := BitVec.ofNat 2 (pt.toNat - 1), avs := .downAck, millivolt := s.dev.oppMv (pt.toNat - 1) } = _
    rw [hpwr]
  · have hk := oppKick_there hrest (by rw [hw, hpt]; exact hsame)
    refine ⟨_, exec_run rfl (heq.trans hk), rfl, ?_, fun _ => ⟨?_, fun hn => ?_, fun x hx => ?_⟩, fun h => absurd hsame h.ne', fun h => absurd hsame h.ne⟩
    · rw [oppDone_overload, ← hcond, Dev.source, (oppDone_within ..).watch, Dev.source]
    · rw [oppDone_pwr, hpwr]
    · rw [oppDone_none _ (by rw [hpwr]; exact hn)]
      exact hall _ he
    · have hx' : e.pwr.oppCmd = some x := by rw [hpwr]; exact hx
      have hd := oppDone_some (fun n => .ok n) hx'
      rw [hpt] at hd
      exact ⟨_, hd, hall _ he.modPwr⟩
  · have hk := oppKick_up hrest (by rw [hw, hpt]; exact hlt)
    rw [hpt, hmv] at hk
    have h2 : Within (looseScope [.pwr, .watch] []) s.dev e.oppKick := by
      rw [hk]
      exact he.modPwr (f := fun p => { p with avs := _, millivolt := _ })
    refine ⟨_, exec_run rfl heq, rfl, ?_, fun h => absurd hlt (Nat.not_lt.mpr h.le), fun _ => ⟨hall _ h2, ?_⟩, fun h => absurd hlt (Nat.lt_asymm h)⟩
    · rw [hk]
      exact hcond
    · refine (congrArg Dev.pwr hk).trans ?_
      show { e.pwr with avs := .upAck (BitVec.ofNat 2 (pt.toNat + 1)), millivolt := s.dev.oppMv (pt.toNat + 1) } = _
      rw [hpwr]

/-- Settles O13: the sequencer takes its steps from rest, and CAP drops and rises with the temperature. -/
theorem operatingPoints : Obligations.OperatingPoints := by
  refine ⟨fun s => ⟨fun pt h => ?_, fun h he hn => ?_, fun x h he hx => ?_, fun h hlt => ?_, fun h hlt => ?_, fun pt h => ?_, fun h => ?_⟩,
    fun s => ⟨fun ht hh hc => ?_, fun ht hh => exec_run rfl ((if_pos ht).trans (if_pos hh)), fun ht hh hc => ?_,
      fun hh hc => exec_run rfl ((if_pos hh).trans (if_pos hc)), fun ht => exec_run rfl (if_neg (Int.not_lt.mpr ht)), fun hh hc => ?_, fun hc hn => ?_⟩⟩
  · refine exec_run rfl ?_
    unfold avsAck
    rw [h]
    rfl
  · exact exec_run rfl ((avsAck_rested h).trans ((oppKick_there (d := s.dev.avsRested) rfl he).trans (oppDone_none _ hn)))
  · exact ⟨_, exec_run rfl ((avsAck_rested h).trans ((oppKick_there (d := s.dev.avsRested) rfl he).trans (oppDone_some _ hx))), rfl⟩
  · exact ⟨_, rfl, exec_run rfl ((avsAck_rested h).trans (oppKick_up (d := s.dev.avsRested) rfl hlt))⟩
  · have hd := oppKick_down (d := s.dev.avsRested) rfl hlt
    rw [← avsAck_rested h] at hd
    refine ⟨_, _, rfl, exec_run rfl hd, rfl, ?_, loadRefresh_follows _, ?_⟩
    · rw [loadRefresh_eq]
      rfl
    · exact ((((Within.refl (looseScope [.pwr, .watch] []) s.dev).modPwr).modPwr).loadRefresh).eq
  · exact avsSettle_state h
  · have hd := avsTimeout_eq h
    generalize he : (s.dev.modPwr fun p => { p with avs := .rest, avsErr := true }) = e at hd
    have hcnt := bump_counts 0x020010 (lo := 0) (width := 8) e (by decide)
    have hend := oppDone_within (fun n => .timeout n) ((e.bump 0x020010 0 8).occur 11 0)
    have hall : Within (looseScope [.regs, .bar4, .host, .pwr, .watch, .keeper] [0x020010]) s.dev (avsTimeout s.dev) := by
      rw [hd, ← he]
      exact ((Within.refl _ s.dev).modPwr.bump (List.mem_cons_self ..)).occur.oppDone rfl ⟨⟨rfl, rfl, rfl⟩, rfl, rfl⟩
    refine ⟨_, exec_run rfl hd, rfl, (oppDone_pwr _ _).trans (he ▸ rfl), ?_, ?_, hd ▸ hall.eq⟩
    · exact (hcnt.before (he ▸ rfl)).after (hend.regs 0x020010 List.not_mem_nil (not_eventWord_of_lt (by decide)))
    · exact Within.reports (reports_occur rfl (he ▸ rfl)) hend
  · obtain ⟨hcap, hhot, hcool, hcnt, hr⟩ := capDrop_drops (d := s.dev.modPwr fun p => { p with hot := true, cool := false }) hc
    exact ⟨_, exec_run rfl (thermalSample_heats ht hh), rfl, hcap, hhot, hcool, hcnt, hr⟩
  · exact exec_run rfl ((thermalSample_heats ht hh).trans (if_pos hc))
  · obtain ⟨hcap, -, -, hcnt, hr⟩ := capDrop_drops hc
    exact ⟨_, exec_run rfl (if_pos hh), rfl, hcap, hcnt, hr⟩
  · obtain ⟨hcap, -, -⟩ := oppKick_throttle (s.dev.modPwr fun p => { p with cap := p.cap + 1 })
    exact ⟨_, exec_run rfl (if_pos (by rw [hc, decide_eq_true hn]; rfl)), rfl, hcap⟩

end Sys2Proof.Machine
end

section
/-! Violations, discarded writes and guards (chapter 2): the frame of a record, its words, and the limit of its log entries. -/

namespace Sys2Proof.Machine

set_option Elab.async false

variable {S : Scope} {d d₀ : Dev}

/-! ### The frame of a record and of an answer -/

/-- The registers of the record of a violation. -/
def violRegs : List Nat := [0x050000, 0x050004, 0x050008, 0x050010]

/-- The scope lets a violation be recorded. -/
structure Scope.Records (S : Scope) : Prop where
  regs : ∀ a ∈ violRegs, S.reg a
  logs : S.Logs
  watch : S.Has .watch
  chk : S.Has .chk

theorem Within.violCapture (h : Within S d₀ d) {addr : Word} {info : Nat} {data : Word} (hS : S.Records) :
    Within S d₀ (d.violCapture addr info data) := by
  have ⟨hr, ⟨_, _, _⟩, _, _⟩ := hS
  exact .ite (fun _ => h.bump (hr _ (by decide))) fun _ => ((h.wr (hr _ (by decide))).wr (hr _ (by decide))).wr (hr _ (by decide))

theorem Within.violLog (h : Within S d₀ d) {addr : Word} {info : Nat} {data : Word} (hS : S.Records) : Within S d₀ (d.violLog addr info data) := by
  have ⟨_, _, _, _⟩ := hS
  have ht : Within S d₀ d.violTick := h.modChk
  exact .ite (fun _ => ht.logEnt) fun _ => ht

theorem Within.violate (h : Within S d₀ d) {i : Iface} {space off : Nat} {why : Reason} {write : Bool} {data : Word} (hS : S.Records) :
    Within S d₀ (d.violate i space off why write data) := by
  have ⟨hr, ⟨_, _, _⟩, _, _⟩ := hS
  rw [violate_eq]
  exact (((h.bump (hr _ (by decide))).occur).violCapture hS).violLog hS

theorem Within.answer (h : Within S d₀ d) {i : Fin 4} {r : Resp} (hc : S.Has .chk := by trivial) : Within S d₀ (d.answer i r) := h.modChk

theorem Within.respond (h : Within S d₀ d) {i : Iface} {why : Option Reason} {data : List Byte} (ho : S.reg 0x2C0018 := by trivial)
    (hr : S.Has .regs := by trivial) (hc : S.Has .chk := by trivial) : Within S d₀ (d.respond i why data) :=
  (Within.ite (fun _ => h.bump ho) fun _ => h).answer

theorem Within.setGuard (h : Within S d₀ d) {i : Iface} {g : Option Guard} (hc : S.Has .chk := by trivial) : Within S d₀ (d.setGuard i g) := h.modChk

/-- What a discarded write changes. -/
def recordScope : Scope := lowScope [.regs, .bar4, .chk, .host, .watch] discardRegs

theorem recordScope_records : recordScope.Records := ⟨fun _ ha => List.mem_of_mem_take (i := 4) ha, ⟨rfl, rfl, rfl⟩, rfl, rfl⟩

theorem discard_within (i : Iface) (off : Nat) (why : Reason) (v : Word) (d : Dev) : Within recordScope d (d.discard i off why v) :=
  ((Within.refl _ d).violate recordScope_records).respond (lowScope_reg) rfl rfl

/-! ### The word that a record captures -/

theorem violate_captures_data (i : Iface) (space off : Nat) (why : Reason) (write : Bool) (data : Word) {d : Dev}
    (h : bit (d.rd 0x050004) 31 = false) : (d.violate i space off why write data).rd 0x050008 = data := by
  have hfree : bit (((d.bump 0x050010 0 32).occur 0 0).rd 0x050004) 31 = false := by
    rw [show ((d.bump 0x050010 0 32).occur 0 0).rd 0x050004 = d.rd 0x050004 from rd_bump_ne 0 32 d (by decide), h]
  rw [violate_eq, rd_violLog _ _ _ _ (by decide), Dev.violCapture, if_neg (by simp [hfree]), rd_wr_same]

theorem violate_keeps_data (i : Iface) (space off : Nat) (why : Reason) (write : Bool) (data : Word) {d : Dev}
    (h : bit (d.rd 0x050004) 31 = true) : (d.violate i space off why write data).rd 0x050008 = d.rd 0x050008 := by
  have hheld : bit (((d.bump 0x050010 0 32).occur 0 0).rd 0x050004) 31 = true := by
    rw [show ((d.bump 0x050010 0 32).occur 0 0).rd 0x050004 = d.rd 0x050004 from rd_bump_ne 0 32 d (by decide), h]
  rw [violate_eq, rd_violLog _ _ _ _ (by decide), Dev.violCapture, if_pos hheld, rd_bump_ne 0 16 _ (by decide)]
  exact rd_bump_ne 0 32 d (by decide)

/-! ### The log entries of a second -/

/-- A violation that finds 1,000 in its second writes no ring. -/
theorem violate_unlogged (i : Iface) (space off : Nat) (why : Reason) (write : Bool) (data : Word) {d : Dev} (h : ¬ d.violsNow < 1000) :
    (d.violate i space off why write data).host = d.host ∧ (d.violate i space off why write data).bar4 = d.bar4 := by
  have hn : (((d.bump 0x050010 0 32).occur 0 0).violCapture (violAddr space off) (violInfo i why write) data).violsNow = d.violsNow := by
    rw [violCapture_only]
    rfl
  rw [violate_eq, Dev.violLog, if_neg (hn ▸ h), violCapture_only]
  exact ⟨rfl, rfl⟩

theorem violate_logged (i : Iface) (space off : Nat) (why : Reason) (write : Bool) (data : Word) {d : Dev} (h : d.violsNow < 1000) :
    ((d.violate i space off why write data).ring 9).seq = (d.ring 9).seq + 1 := by
  have hn : (((d.bump 0x050010 0 32).occur 0 0).violCapture (violAddr space off) (violInfo i why write) data).violsNow = d.violsNow := by
    rw [violCapture_only]
    rfl
  rw [violate_eq, Dev.violLog, if_pos (hn ▸ h), logEnt_seq, violCapture_only]
  rfl

/-- Settles O24: every violation is counted and reported, and logged while its second has seen fewer than 1,000. -/
theorem violationLogLimit : Obligations.ViolationLogLimit := by
  intro i space off why wr v d
  refine ⟨violate_counts .., violate_reports .., fun hs hn => violate_unlogged _ _ _ _ _ _ ?_, fun h => violate_logged _ _ _ _ _ _ ?_⟩
  · rw [Dev.violsNow, if_pos hs]
    exact Nat.not_lt.mpr hn
  · rw [Dev.violsNow]
    split
    · exact h.resolve_left (not_not_intro ‹_›)
    · decide

/-! ### A write that fails a check -/

section
variable {i : Iface}

theorem set_get {α : Type} {n : Nat} (v : Vector α n) (i : Fin n) : v.set i (v.get i) = v := Vector.set_getElem_self ..

theorem setGuard_unarmed (h : d.guardOf i = none) : d.setGuard i none = d := by
  have hp : ({ d.chk.ports.get (ifaceIdx i) with guard := none } : Port4) = d.chk.ports.get (ifaceIdx i) :=
    congrArg (fun g => { d.chk.ports.get (ifaceIdx i) with guard := g }) h.symm
  rw [Dev.setGuard, Dev.modChk, hp, set_get]

theorem guardOf_setGuard_ne {j : Iface} (g : Option Guard) (d : Dev) (h : j ≠ i) : (d.setGuard i g).guardOf j = d.guardOf j := by
  have hi : ifaceIdx j ≠ ifaceIdx i := by
    cases i <;> cases j <;> first | exact absurd rfl h | decide
  exact congrArg Port4.guard (get_set_ne d.chk.ports _ hi)

/-- A full write that fails one of steps 1 to 3 is discarded with its reason. -/
theorem regWrite_of_steps123 {a : Nat} {r : RegDesc} {why : Reason} (v hw : Word) (ha : a % 4 = 0) (hg : d.guardOf i = none)
    (hr : regDesc a = some r) (hk : r.kind = .plain) (hs : d.steps123 i a true = some why) : regWrite i a v 15 hw d = d.discard i a why v := by
  have hword : a / 4 * 4 = a := by omega
  have hbus : d.busWrite i a v 15 hw = (d.setGuard i none).fail i a why v := by simp [Dev.busWrite, hword, hg, hr, hk, hs]
  rw [regWrite_of_fail hbus, setGuard_unarmed hg]

theorem regWrite_of_writeReg {a : Nat} {r : RegDesc} {why : Reason} {v hw : Word} (ha : a % 4 = 0) (hg : d.guardOf i = none)
    (hp : privKind a = none) (hr : regDesc a = some r) (hk : r.kind = .plain) (hs : d.steps123 i a true = none)
    (hf : ∀ hw, d.writeReg i a r none hw v = d.fail i a why v) : regWrite i a v 15 hw d = d.discard i a why v :=
  regWrite_of_fail ((busWrite_plain v hw ha hg hs hp hr hk).trans (hf _))

/-- The reason of the first failing check of a full write to a plain register, where one fails. -/
def Dev.firstFail (d : Dev) (i : Iface) (a : Nat) (r : RegDesc) (v : Word) : Nat :=
  match d.steps123 i a true with
  | some why => why.code
  | none => match d.steps45 i a r v with
    | some why => why.code
    | none => Reason.range.code

/-- A full write to a plain register that fails a check is discarded with the reason of the first. -/
theorem regWrite_discarded {a : Nat} {r : RegDesc} {v : Word} (hw : Word) (ha : a % 4 = 0) (hg : d.guardOf i = none)
    (hp : privKind a = none) (hr : regDesc a = some r) (hk : r.kind = .plain) (hi : d.ignores a = false)
    (hfail : d.steps123 i a true ≠ none ∨ d.steps45 i a r v ≠ none ∨ d.step7 a r v = true) :
    ∃ why, why.code = d.firstFail i a r v ∧ regWrite i a v 15 hw d = d.discard i a why v := by
  unfold Dev.firstFail
  cases hs : d.steps123 i a true with
  | some why => exact ⟨why, rfl, regWrite_of_steps123 v hw ha hg hr hk hs⟩
  | none => cases h45 : d.steps45 i a r v with
    | some why => exact ⟨why, rfl, regWrite_of_writeReg ha hg hp hr hk hs fun _ => writeReg_plain_of_steps45 _ _ hk h45⟩
    | none =>
      have h7 : d.step7 a r v = true := (hfail.resolve_left (not_not_intro hs)).resolve_left (not_not_intro h45)
      exact ⟨.range, rfl, regWrite_of_writeReg ha hg hp hr hk hs fun _ => writeReg_plain_of_step7 _ _ hk h45 hi h7⟩

/-- The device once a partial write has ended a pending word of its register. -/
def Dev.partialEnded (i : Iface) (a : Nat) (d : Dev) : Dev := if (regDesc a).any fun r => r.kind = .hi40 then d.setLo i (a - 4) none else d

theorem partialEnded_only (i : Iface) (a : Nat) (d : Dev) : ∃ c, d.partialEnded i a = { d with chk := c } := by
  unfold Dev.partialEnded
  split
  · exact ⟨_, rfl⟩
  · exact ⟨d.chk, rfl⟩

/-- A partial write that passes steps 1 to 3 is discarded with RANGE (R36). -/
theorem regWrite_partial {off be : Nat} (v hw : Word) (hpart : be ≠ 15 ∨ off % 4 ≠ 0) (hg : d.guardOf i = none)
    (hs : d.steps123 i (off / 4 * 4) true = none) :
    regWrite i off v be hw d = (d.partialEnded i (off / 4 * 4)).discard i off .range v := by
  have hfull : (decide (be = 15) && decide (off = off / 4 * 4)) = false := by
    rw [Bool.and_eq_false_iff, decide_eq_false_iff_not, decide_eq_false_iff_not]
    omega
  have hs' : (d.partialEnded i (off / 4 * 4)).steps123 i (off / 4 * 4) true = none :=
    by
    obtain ⟨c, hc⟩ := partialEnded_only i (off / 4 * 4) d
    rw [hc]
    exact hs
  refine regWrite_of_fail (a := off) ?_
  unfold Dev.busWrite
  extract_lets a full before d1 hi lo d2
  have h1 : d1 = d := by simp only [d1, hg]
  have h2 : d2 = d.partialEnded i (off / 4 * 4) := by simp only [d2, h1]; rfl
  have hf : full = false := hfull
  rw [h2, hs', hf]
  rfl

end

/-! ### The record of a discarded write -/

section
variable {e : Dev} (he : ∃ c, e = { d with chk := c }) (i : Iface) (off : BitVec 22) (why : Reason) (v : Word)
include he

/-- What a discard leaves of a device that differs from `d` in the access ports alone. -/
theorem discard_record : Within recordScope d (e.discard i off.toNat why v) ∧ Reports 0 0 d (e.discard i off.toNat why v) ∧
    Counts 0x050010 0 32 d (e.discard i off.toNat why v) := by
  obtain ⟨c, rfl⟩ := he
  have h0 : Within recordScope d { d with chk := c } := (Within.refl _ d).modChk (f := fun _ => c) rfl
  exact ⟨h0.trans (discard_within ..), (discard_reports ..).before rfl, (discard_counts ..).before rfl⟩

theorem discard_captured (hfree : bit (d.rd 0x050004) 31 = false) : (e.discard i off.toNat why v).rd 0x050000 = word off.toNat ∧
      (e.discard i off.toNat why v).rd 0x050008 = v ∧ (e.discard i off.toNat why v).rdF 0x050004 31 1 = 1 ∧
      (e.discard i off.toNat why v).rdF 0x050004 24 3 = why.code := by
  obtain ⟨c, rfl⟩ := he
  obtain ⟨haddr, hwhy⟩ := discard_captures i off.toNat why v { d with chk := c } hfree
  obtain ⟨-, hinfo⟩ := violate_captures i 0 off.toNat why true v { d with chk := c } hfree
  refine ⟨haddr.trans (by rw [Nat.mod_eq_of_lt off.isLt]),
    (rd_discard _ _ _ _ _ (by decide)).trans (violate_captures_data (d := { d with chk := c }) _ _ _ _ _ _ hfree), ?_, hwhy⟩
  rw [Dev.rdF, rd_discard _ _ _ _ _ (by decide), hinfo]
  exact beq_iff_eq.mp (violInfo_valid i why true)

end

/-- Settles O17: a failing check makes the write a discard, and the record is that of the discard. -/
theorem registerWriteIsDiscarded : Obligations.RegisterWriteIsDiscarded := by
  refine ⟨fun i off v hw r s ha hg hp hr hk hi hfail => ?_, fun i off v hw be s hpart hg hs => ?_⟩
  · obtain ⟨why, hwhy, heq⟩ := regWrite_discarded hw ha hg hp hr hk hi hfail
    obtain ⟨hw, hrep, hcnt⟩ := discard_record (d := s.dev) (e := s.dev) ⟨s.dev.chk, rfl⟩ i off why v
    have hcapt := discard_captured (d := s.dev) (e := s.dev) ⟨s.dev.chk, rfl⟩ i off why v
    have hmore := fun hheld => discard_counts_more i off.toNat why v s.dev hheld
    have hdata : bit (s.dev.rd 0x050004) 31 = true → (s.dev.discard i off.toNat why v).rd 0x050008 = s.dev.rd 0x050008 := fun hheld =>
      (rd_discard _ _ _ _ _ (by decide)).trans (violate_keeps_data _ _ _ _ _ _ hheld)
    generalize s.dev.discard i off.toNat why v = e at *
    refine ⟨_, exec_run rfl heq, rfl, hw.keepsRegs fun _ h => h, hrep, hcnt, hw.eq, fun hfree => ?_, fun hheld => ?_⟩
    · obtain ⟨haddr, hdata, hvalid, hcode⟩ := hcapt hfree
      exact ⟨haddr, hdata, hvalid, hcode.trans hwhy⟩
    · obtain ⟨haddr, -, hmore⟩ := hmore hheld
      exact ⟨hmore, haddr, hdata hheld⟩
  · have heq := regWrite_partial (be := be.toNat % 16) v hw hpart hg hs
    have he := partialEnded_only i (off.toNat / 4 * 4) s.dev
    obtain ⟨hw, hrep, hcnt⟩ := discard_record he i off .range v
    have hcapt := discard_captured he i off .range v
    generalize Dev.discard i off.toNat .range v _ = e at *
    refine ⟨_, exec_run rfl heq, rfl, hw.keepsRegs fun _ h => h, hrep, hcnt, hw.eq, fun hfree => ?_⟩
    obtain ⟨haddr, -, -, hcode⟩ := hcapt hfree
    exact ⟨haddr, hcode⟩

/-! ### Guards -/

/-- The first write to a guarded register arms the guard of its interface (R55). -/
theorem regWrite_arms {i : Iface} {a : Nat} {r : RegDesc} {v : Word} (ha : a % 4 = 0) (hg : d.guardOf i = none)
    (hs : d.steps123 i a true = none) (hp : privKind a = none) (hr : regDesc a = some r) (hk : r.kind = .guard)
    (h45 : d.steps45 i a r v = none) : regWrite i a v 15 0 d = (d.setGuard i (some ⟨a, v⟩)).respond i none [] := by
  have hword : a / 4 * 4 = a := by omega
  have hbus : d.busWrite i a v 15 0 = (none, d.setGuard i (some ⟨a, v⟩)) := by
    simp [Dev.busWrite, hword, hg, hr, hk, hs, hp, Dev.writeReg, h45]
  rw [regWrite, hbus]

/-- Settles O18: a first write arms and answers; the end of the window records the guard that it breaks. -/
theorem guardArmsAndDisarms : Obligations.GuardArmsAndDisarms := by
  refine ⟨fun i off v r s ha hg hs hp hr hk h45 => ?_, fun i g s hg => ?_⟩
  · refine ⟨_, exec_run rfl (regWrite_arms ha hg hs hp hr hk h45), rfl, ?_, fun j hj => ?_, ?_⟩
    · exact (guardOf_respond ..).trans (guardOf_setGuard_same ..)
    · exact (guardOf_respond ..).trans (guardOf_setGuard_ne _ _ hj)
    · show (s.dev.setGuard i (some ⟨off.toNat, v⟩)).respond i none [] = _
      rw [respond_ok_only]
      rfl
  · have heq : guardEnd i s.dev = (s.dev.setGuard i none).violate i 0 g.off .guard true g.val := guardBreak_armed hg
    have hports := violate_ports i 0 g.off .guard true g.val (s.dev.setGuard i none)
    refine ⟨_, exec_run rfl heq, rfl, ?_, fun j hj => ?_, (violate_counts ..).before rfl, (violate_reports ..).before rfl, fun hfree => ?_,
      violate_keepsRegs i 0 g.off .guard true g.val (s.dev.setGuard i none)⟩
    · exact (guardOf_of_ports i hports).trans (guardOf_setGuard_same ..)
    · exact (guardOf_of_ports j hports).trans (guardOf_setGuard_ne _ _ hj)
    · obtain ⟨haddr, hinfo⟩ := violate_captures i 0 g.off .guard true g.val (s.dev.setGuard i none) hfree
      refine ⟨haddr.trans (violAddr_bar0 _), violate_captures_data i 0 g.off .guard true g.val (d := s.dev.setGuard i none) hfree, ?_⟩
      exact (congrArg (fld · 24 3) hinfo).trans (violInfo_reason ..)

end Sys2Proof.Machine
end

section
/-! Accepted writes (chapter 2): a complete guarded sequence, a full write of a plain register, and their effects. -/

namespace Sys2Proof.Machine

set_option Elab.async false

variable {S : Scope} {d d₀ : Dev} {i : Iface}

/-! ### Words that no hardware update meets -/

theorem setFld_zero (lo width : Nat) : setFld 0 lo width 0 = 0 := by simp [setFld, fld]

/-- No count goes up in the cycle of a write that nothing else meets. -/
theorem sameCycle_zero (fs : List RegField) (w : Word) : sameCycle fs 0 w w = 0 := by
  unfold sameCycle
  induction fs with
  | nil => rfl
  | cons f fs ih =>
    have h : satN f.width (fld 0 f.lo f.width + (fld w f.lo f.width - fld w f.lo f.width)) = 0 := by
      simp [satN, fld]
    rw [List.foldl_cons, h, setFld_zero, ite_self]
    exact ih

/-! ### A complete guarded sequence -/

/-- The access port of an interface between the two writes of a guarded sequence, and after both. -/
def Dev.guardPort (i : Iface) (a : Nat) (v : Word) (d : Dev) : Chk :=
  (((d.setGuard i (some ⟨a, v⟩)).respond i none []).setGuard i none).chk

theorem guardPort_eq (a : Nat) (v : Word) (d : Dev) :
    ((d.setGuard i (some ⟨a, v⟩)).respond i none []).setGuard i none = { d with chk := d.guardPort i a v } := by
  rw [Dev.guardPort, respond_ok_only]
  rfl

/-- The second write of a sequence that its guard awaits. -/
theorem busWrite_completes {e : Dev} {a : Nat} {v : Word} {q : RegDesc} (ha : a % 4 = 0) (hg : e.guardOf i = some ⟨a, v⟩)
    (hs : e.steps123 i (a + 4) true = none) (hp : privKind (a + 4) = none) (hq : regDesc (a + 4) = some q) (hk : q.kind = .complement) :
    e.busWrite i (a + 4) (~~~v) 15 0 = (e.setGuard i none).guardWrite i a 0 v := by
  generalize hb : a + 4 = b at *
  have hword : b / 4 * 4 = b := by omega
  have hz : sameCycle q.fields 0#32 (e.rd b) (e.rd b) = 0#32 := sameCycle_zero _ _
  simp [Dev.busWrite, hword, hg, hb, hq, hk, hs, hp, Dev.writeReg, Dev.complement, hz]

theorem guardWrite_accepted {e : Dev} {a : Nat} {v : Word} {r : RegDesc} (hr : regDesc a = some r) (h6 : e.step6 a v = true)
    (h7 : e.step7 a r v = false) : e.guardWrite i a 0 v = (none, e.takeGuarded a v) := by
  simp only [Dev.guardWrite, h6, hr, h7, meets_zero, Bool.not_true, Bool.false_eq_true, if_false]

/-- A guarded sequence that passes every check acts once, on a device whose access port alone has changed, and is answered. -/
theorem guardedWrite_eq {a : Nat} {v : Word} (h : d.admitsGuarded i a v) (hx : ∀ e : Dev, e.crossBad a v = d.crossBad a v) :
    guardedWrite i a v d = (({ d with chk := d.guardPort i a v } : Dev).takeGuarded a v).respond i none [] := by
  obtain ⟨ha, hg, hs, hs', hp, hp', ⟨q, hq, hqk⟩, r, hr, hk, h45, h6, h7⟩ := h
  have harm := regWrite_arms ha hg hs hp hr hk h45
  generalize he : (d.setGuard i (some ⟨a, v⟩)).respond i none [] = e at harm
  have heg : e.guardOf i = some ⟨a, v⟩ := by rw [← he, guardOf_respond, guardOf_setGuard_same]
  have hes : e.steps123 i (a + 4) true = none := by
    rw [← he, respond_ok_only]
    exact hs'
  have hport : e.setGuard i none = { d with chk := d.guardPort i a v } := he ▸ guardPort_eq a v d
  have h7' : (e.setGuard i none).step7 a r v = false := by
    rw [Dev.step7, hx]
    exact h7
  have h6' : (e.setGuard i none).step6 a v = true := by
    rw [hport]
    exact h6
  rw [guardedWrite, harm, regWrite, busWrite_completes ha heg hes hp' hq hqk, guardWrite_accepted hr h6' h7', hport]

/-- An answer without a reason, as a command that is done. -/
theorem exec_guarded {x : Instr} {s : State} {a : Nat} {v : Word} (hx : exec x s = run (guardedWrite i a v) s)
    (h : s.dev.admitsGuarded i a v) (hc : ∀ e : Dev, e.crossBad a v = s.dev.crossBad a v) {e : Dev}
    (he : ({ s.dev with chk := s.dev.guardPort i a v } : Dev).takeGuarded a v = e) :
    exec x s = .next { s with dev := { e with chk := (e.respond i none []).chk } } := by
  refine exec_run hx ?_
  rw [guardedWrite_eq h hc, he]
  exact respond_ok_only i [] e

/-! ### Step 7 of the guarded registers -/

theorem crossBad_top {a : Nat} (v : Word) (h : a = 0x010010 ∨ a = 0x030010 ∨ a = 0x030018 ∨ a = 0x040030 ∨ a = 0x300108) (d : Dev) :
    d.crossBad a v = false := by
  obtain rfl | rfl | rfl | rfl | rfl := h <;> simp [Dev.crossBad]

theorem crossBad_otp (v : Word) (d : Dev) : d.crossBad 0x300120 v = otpSlotBad (fld v 0 2) (fld v 4 2) := by simp [Dev.crossBad]

theorem crossBad_chan {a : Nat} (v : Word) (h1 : 0x100000 ≤ a) (h2 : a < 0x110000) (d : Dev) :
    d.crossBad a v = ((a - 0x100000) % 0x1000 = 0x400 && tempSrcBad v) := by
  simp only [Dev.crossBad, Bool.and_eq_true, decide_eq_true_eq]
  repeat rw [if_neg (by omega)]
  rw [if_pos (by omega)]

/-! ### What a guarded write does -/

theorem takeGuarded_srcSel (v : Word) (d : Dev) : d.takeGuarded 0x010010 v = d.srcSel v := rfl
theorem takeGuarded_safe (d : Dev) : d.takeGuarded 0x030010 1 = d.safeClear := rfl
theorem takeGuarded_erase (v : Word) (d : Dev) : d.takeGuarded 0x040030 v = d.rawErase (fld v 0 6) := rfl
theorem takeGuarded_release (d : Dev) : d.takeGuarded 0x300108 1 = d.apReleased := rfl
theorem takeGuarded_restart (d : Dev) : d.takeGuarded 0x300108 2 = d.apRestarted := rfl
theorem takeGuarded_otp (v : Word) (d : Dev) : d.takeGuarded 0x300120 v = (d.wr 0x300120 (word (fld v 4 2 * 16))).otpStart (fld v 0 2) (fld v 4 2) := rfl

theorem takeGuarded_force {v : Word} (hb : bit v 8 = true) (hn : fld v 0 8 < 192) (d : Dev) : d.takeGuarded 0x030018 v =
    (d.wr 0x030018 (word (fld v 0 8))).reach ⟨⟨fld v 0 8, hn⟩, BitVec.ofNat 8 ((ownObject (fld v 0 8)).getD 255), true, false⟩ false := by
  have h : d.takeGuarded 0x030018 v = (d.wr 0x030018 (word (fld v 0 8))).faultGiven (fld v 0 8) true := if_pos hb
  rw [h]
  exact dif_pos hn

theorem takeGuarded_chan {a : Nat} (v : Word) (h1 : 0x100000 ≤ a) (h2 : a < 0x110000) (d : Dev) :
    d.takeGuarded a v = d.forceWrite (Fin.ofNat 16 ((a - 0x100000) / 0x1000)) v := by
  simp only [Dev.takeGuarded, Bool.and_eq_true, decide_eq_true_eq]
  repeat rw [if_neg (by omega)]
  rw [if_pos ⟨h1, h2⟩]

theorem takeGuarded_arming (ch : Fin 16) (v : Word) (d : Dev) : d.takeGuarded (chanOff ch + 0xC10) v = d.forceWrite ch v := by
  have hch : Fin.ofNat 16 ((chanOff ch + 0xC10 - 0x100000) / 0x1000) = ch := by
    apply Fin.ext
    simp only [Fin.ofNat, chanOff]
    omega
  rw [takeGuarded_chan v (by simp only [chanOff]; omega) (by simp only [chanOff]; omega), hch]

/-- Step 7 of the arming of a channel asks nothing of the device. -/
theorem crossBad_arming (ch : Fin 16) (v : Word) (d e : Dev) : e.crossBad (chanOff ch + 0xC10) v = d.crossBad (chanOff ch + 0xC10) v := by
  have h1 : 0x100000 ≤ chanOff ch + 0xC10 := by simp only [chanOff]; omega
  have h2 : chanOff ch + 0xC10 < 0x110000 := by simp only [chanOff]; omega
  rw [crossBad_chan v h1 h2, crossBad_chan v h1 h2]

theorem forceWrite_arms {ch : Fin 16} {w : Word} (h : bit w 7 = true) : d.forceWrite ch w = (d.wr (chanOff ch + 0xC10) w).modSel ch fun s =>
    { s with armed := some (Fin.ofNat 64 (fld w 0 6)), armedAt := d.clk.aonUs } := if_pos h

theorem forceWrite_disarms {ch : Fin 16} {w : Word} (h : bit w 7 = false) :
    d.forceWrite ch w = (d.wr (chanOff ch + 0xC10) w).disarm ch := if_neg (Bool.eq_false_iff.mp h)

/-- The word that arms a channel for a slot. -/
theorem arming_word (slot : Fin 64) : bit (word (128 + slot.val)) 7 = true ∧ Fin.ofNat 64 (fld (word (128 + slot.val)) 0 6) = slot := by
  revert slot
  decide

end Sys2Proof.Machine
end

section
/-! The guarded commands (R55): each has its effect behind its sequence. -/

namespace Sys2Proof.Machine

set_option Elab.async false

variable {d : Dev} {i : Iface}

theorem admitsGuarded_step6 {a : Nat} {v : Word} (h : d.admitsGuarded i a v) : d.step6 a v = true := by
  obtain ⟨-, -, -, -, -, -, -, r, -, -, -, h6, -⟩ := h
  exact h6

/-! ### The blocks -/

/-- Leaving SAFE_STATE lets the channels select again. -/
theorem safeClear_within (d : Dev) : Within (quietScope runParts) { d with watch := { d.watch with safe := false } } d.safeClear :=
  (Within.refl _ (d.modWatch fun w => { w with safe := false })).autopilotAll (quietScope_runs (by decide))

/-- An accepted erase of a raw sector starts. -/
theorem rawErase_started {s : Nat} (h : d.rawEraseOk s = true) :
    d.rawErase s = d.modChart fun c => { c with tokens := c.tokens - 1, erasing := some (s, .raw) } :=
  if_pos (Bool.and_eq_true_iff.mp h).2

/-- What the arming of a channel leaves. -/
theorem forceWrite_armed {ch : Fin 16} {w : Word} (h : bit w 7 = true) :
    ((d.forceWrite ch w).chan ch).sel.armed = some (Fin.ofNat 64 (fld w 0 6)) ∧ ((d.forceWrite ch w).chan ch).sel.armedAt = d.clk.aonUs ∧
      (∀ c, c ≠ ch → (d.forceWrite ch w).chan c = d.chan c) ∧
      d.forceWrite ch w = { d with regs := (d.forceWrite ch w).regs, chans := (d.forceWrite ch w).chans } := by
  rw [forceWrite_arms h, Dev.modSel]
  have hk := modChan_chan_same ch (fun c => { c with sel := { c.sel with armed := some (Fin.ofNat 64 (fld w 0 6)), armedAt := d.clk.aonUs } })
    (d.wr (chanOff ch + 0xC10) w)
  exact ⟨congrArg (fun c : Chan => c.sel.armed) hk, congrArg (fun c : Chan => c.sel.armedAt) hk, fun c hc => modChan_chan_ne _ (d.wr _ w) hc, rfl⟩

theorem forceWrite_disarmed {ch : Fin 16} {w : Word} (h : bit w 7 = false) :
    ((d.forceWrite ch w).chan ch).sel.armed = none ∧ (∀ c, c ≠ ch → (d.forceWrite ch w).chan c = d.chan c) ∧
      d.forceWrite ch w = { d with regs := (d.forceWrite ch w).regs, chans := (d.forceWrite ch w).chans } := by
  rw [forceWrite_disarms h, Dev.disarm, Dev.modSel]
  have hk := modChan_chan_same ch (fun c => { c with sel := { c.sel with armed := none } }) (d.wr (chanOff ch + 0xC10) w)
  refine ⟨congrArg (fun c : Chan => c.sel.armed) hk, fun c hc => ?_, rfl⟩
  exact modChan_chan_ne (fun c => { c with sel := { c.sel with armed := none } }) (d.wr (chanOff ch + 0xC10) w) hc

/-- Settles O20: each guarded command of these blocks is its effect on a device whose access port alone has changed. -/
theorem guardedCommandsOfTheBlocks : Obligations.GuardedCommandsOfTheBlocks := by
  intro i s
  refine ⟨fun v h => ?_, fun h => ?_, fun v hb hn h => ?_, fun v h => ?_, fun ch slot h => ?_, fun ch h => ?_⟩
  · exact ⟨_, exec_guarded rfl h (fun e => by rw [crossBad_top v (.inl rfl), crossBad_top v (.inl rfl)]) (takeGuarded_srcSel ..),
      ⟨rfl, rfl, fun _ _ _ => rfl⟩, rfl⟩
  · have hw := safeClear_within { s.dev with chk := s.dev.guardPort i 0x030010 1 }
    have hs : _ := congrArg Watch.safe (hw.noted rfl).1
    exact ⟨_, exec_guarded rfl h (fun e => by rw [crossBad_top 1 (.inr (.inl rfl)), crossBad_top 1 (.inr (.inl rfl))]) (takeGuarded_safe _),
      rfl, hs, hw.clk, hw.otp, hw.pwr⟩
  · exact ⟨_, exec_guarded rfl h (fun e => by rw [crossBad_top v (.inr (.inr (.inl rfl))), crossBad_top v (.inr (.inr (.inl rfl)))])
      (takeGuarded_force hb hn _), rfl, rd_wr_same .., ⟨_, rfl, rfl, rfl, rfl⟩, rfl,
      fun a ha _ => rd_wr_ne _ _ fun e => ha (e ▸ List.mem_singleton_self _)⟩
  · exact ⟨_, exec_guarded rfl h (fun e => by rw [crossBad_top v (.inr (.inr (.inr (.inl rfl)))), crossBad_top v (.inr (.inr (.inr (.inl rfl))))])
      ((takeGuarded_erase ..).trans (rawErase_started (d := { s.dev with chk := s.dev.guardPort i 0x040030 v }) (admitsGuarded_step6 h))),
      rfl, rfl, rfl⟩
  · obtain ⟨h7, hslot⟩ := arming_word slot
    obtain ⟨harm, hat, hne, heq⟩ := forceWrite_armed (d := { s.dev with chk := s.dev.guardPort i (chanOff ch + 0xC10) (word (128 + slot.val)) })
      (ch := ch) h7
    have hx := exec_guarded (x := .forceArm i ch slot) rfl h (fun _ => crossBad_arming ..) (takeGuarded_arming ..)
    generalize Dev.forceWrite ch _ _ = e at *
    exact ⟨_, hx, rfl, harm.trans (congrArg some hslot), hat, hne, by rw [heq]⟩
  · obtain ⟨harm, hne, heq⟩ := forceWrite_disarmed (d := { s.dev with chk := s.dev.guardPort i (chanOff ch + 0xC10) 0 }) (ch := ch) (w := 0) (by decide)
    have hx := exec_guarded (x := .forceDisarm i ch) rfl h (fun _ => crossBad_arming ..) (takeGuarded_arming ..)
    generalize Dev.forceWrite ch _ _ = e at *
    exact ⟨_, hx, rfl, harm, hne, by rw [heq]⟩

/-! ### The Keeper block -/

theorem apReleased_fields (d : Dev) : d.apReleased.keeper.sup = { d.keeper.sup with ap := .normal, stallRun := 0 } ∧
    d.apReleased.otp = d.otp ∧ d.apReleased.clk = d.clk := by
  have hw : Within (partScope [.regs, .bar4, .host, .keeper, .watch]) d d.apReleased :=
    ((Within.refl _ d).modSup (f := fun s => { s with stallRun := 0 })).apTo ⟨⟨rfl, rfl, rfl⟩, rfl⟩
  exact ⟨apTo_sup .normal 4 _, hw.otp, hw.clk⟩

/-- A Keeper restarted with a valid image in its slot. -/
theorem apRestarted_sup (h : d.keeper.noImage = false) : d.apRestarted.keeper.sup = { d.keeper.sup with
    ap := .autopilot, running := true, kicked := false, wdtAt := d.clk.aonUs + 2000000 } := by
  have he : d.apRestarted = d.keeperRelease.apTo .autopilot 5 := if_neg (Bool.eq_false_iff.mp h)
  rw [he, apTo_sup, keeperRelease_keeper]
  rfl

theorem otpData_wr (w : Word) (d : Dev) : (d.wr 0x300120 w).otpData = d.otpData := by
  refine congrArg List.flatten (List.map_congr_left fun k _ => congrArg wordBytes (rd_wr_ne w d ?_))
  omega

/-- The operands of an OTP action on a slot. -/
theorem otp_operands (slot : BitVec 2) : fld (word (slot.toNat * 16 + 1)) 0 2 = 1 ∧ fld (word (slot.toNat * 16 + 1)) 4 2 = slot.toNat ∧
    fld (word (slot.toNat * 16 + 2)) 0 2 = 2 ∧ fld (word (slot.toNat * 16 + 2)) 4 2 = slot.toNat := by
  revert slot
  decide

theorem crossBad_otp_same (v : Word) (d e : Dev) : e.crossBad 0x300120 v = d.crossBad 0x300120 v := by rw [crossBad_otp, crossBad_otp]

/-- An accepted OTP action starts its programming, and the register keeps the slot. -/
theorem exec_otp {x : Instr} {s : State} {v : Word} (hx : exec x s = run (guardedWrite i 0x300120 v) s) (h : s.dev.admitsGuarded i 0x300120 v) :
    ∃ t, exec x s = .next t ∧ PortFrame [0x300120] s { t with dev := { t.dev with otp := s.dev.otp } } ∧
      t.dev.otp = ((s.dev.wr 0x300120 (word (fld v 4 2 * 16))).otpStart (fld v 0 2) (fld v 4 2)).otp :=
  ⟨_, exec_guarded hx h (crossBad_otp_same v _) (takeGuarded_otp ..),
    ⟨rfl, rfl, fun _ ha _ => rd_wr_ne _ _ fun e => ha (e ▸ List.mem_singleton_self _)⟩, rfl⟩

/-- Settles O21: RELEASE, RESTART and the OTP actions behind their sequence. -/
theorem guardedCommandsOfTheKeeper : Obligations.GuardedCommandsOfTheKeeper := by
  intro i s
  refine ⟨fun h => ?_, fun h hn => ?_, fun slot h => ?_, fun slot h => ?_, fun h => ?_⟩
  · obtain ⟨hsup, hotp, hclk⟩ := apReleased_fields { s.dev with chk := s.dev.guardPort i 0x300108 1 }
    exact ⟨_, exec_guarded rfl h (fun e => by rw [crossBad_top 1 (by decide), crossBad_top 1 (by decide)]) (takeGuarded_release _), rfl, hsup, hotp, hclk⟩
  · exact ⟨_, exec_guarded rfl h (fun e => by rw [crossBad_top 2 (by decide), crossBad_top 2 (by decide)]) (takeGuarded_restart _), rfl,
      apRestarted_sup (d := { s.dev with chk := s.dev.guardPort i 0x300108 2 }) hn⟩
  · obtain ⟨t, ht, hframe, hotp⟩ := exec_otp (x := .enroll i slot) rfl h
    obtain ⟨h1, h2, -, -⟩ := otp_operands slot
    refine ⟨t, ht, hframe, ?_⟩
    rw [hotp, h1, h2, Dev.otpStart, otpData_wr]
    rfl
  · obtain ⟨t, ht, hframe, hotp⟩ := exec_otp (x := .revoke i slot) rfl h
    obtain ⟨-, -, h1, h2⟩ := otp_operands slot
    refine ⟨t, ht, hframe, ?_⟩
    rw [hotp, h1, h2]
    rfl
  · obtain ⟨t, ht, hframe, hotp⟩ := exec_otp (x := .lockUp i) rfl h
    exact ⟨t, ht, hframe, hotp⟩

end Sys2Proof.Machine
end

section
/-! The register commands of plain registers (chapter 2): what a write stores, and what each leads to. -/

namespace Sys2Proof.Machine

set_option Elab.async false

variable {S : Scope} {d d₀ : Dev} {i : Iface}

/-! ### What a write stores -/

/-- A field that a write takes whole: a listed RW field that no other listed field touches. -/
def storesField (fs : List RegField) (lo width : Nat) : Bool :=
  fs.any (fun f => f.lo = lo && f.width = width && f.acc = .rw) &&
    fs.all fun f => f.lo + f.width ≤ 32 && ((f.lo = lo && f.width = width && f.acc = .rw) || f.lo + f.width ≤ lo || lo + width ≤ f.lo)

/-- One field taken from a written word. -/
def takeField (hw v : Word) (w : Word) (f : RegField) : Word :=
  match f.acc with
  | .rw | .kr => setFld w f.lo f.width (fld v f.lo f.width)
  | .ct => if fld v f.lo f.width = 0 then setFld w f.lo f.width (fld hw f.lo f.width) else w
  | .zero | .tr | .lk => w

theorem takeFields_eq (fs : List RegField) (hw v old : Word) : takeFields fs hw v old = fs.foldl (takeField hw v) old := rfl

theorem fld_lt (w : Word) (lo width : Nat) : fld w lo width < 2 ^ width := Nat.mod_lt _ (Nat.two_pow_pos _)

theorem fld_takeField_same {f : RegField} (hw v w : Word) (h : f.lo + f.width ≤ 32) (ha : f.acc = .rw) :
    fld (takeField hw v w f) f.lo f.width = fld v f.lo f.width := by
  rw [takeField, ha]
  exact (fld_setFld_same w _ h).trans (Nat.mod_eq_of_lt (fld_lt ..))

theorem fld_takeField_apart {f : RegField} {lo width : Nat} (hw v w : Word) (h : f.lo + f.width ≤ 32) (hd : f.lo + f.width ≤ lo ∨ lo + width ≤ f.lo) :
    fld (takeField hw v w f) lo width = fld w lo width := by
  have hs : ∀ x, fld (setFld w f.lo f.width x) lo width = fld w lo width := fun x =>
    hd.elim (fun hd => fld_setFld_above w x h hd) fun hd => fld_setFld_below w x h hd
  unfold takeField
  cases f.acc with
  | rw => exact hs _
  | kr => exact hs _
  | ct => exact (apply_ite (fld · lo width) _ _ _).trans (ite_eq_right_iff.mpr fun _ => hs _)
  | zero => rfl
  | tr => rfl
  | lk => rfl

theorem fld_takeFields {fs : List RegField} {lo width : Nat} (h : storesField fs lo width = true) (hw v old : Word) :
    fld (takeFields fs hw v old) lo width = fld v lo width := by
  obtain ⟨hany, hall⟩ := Bool.and_eq_true_iff.mp h
  simp only [List.any_eq_true, Bool.and_eq_true, decide_eq_true_eq] at hany
  simp only [List.all_eq_true, Bool.and_eq_true, Bool.or_eq_true, decide_eq_true_eq] at hall
  have hkeep : ∀ (l : List RegField) (w : Word), (∀ f ∈ l, f ∈ fs) → (fld w lo width = fld v lo width ∨ ∃ f ∈ l, (f.lo = lo ∧ f.width = width) ∧ f.acc = .rw) →
      fld (l.foldl (takeField hw v) w) lo width = fld v lo width := by
    intro l
    induction l with
    | nil => exact fun w _ hw => hw.elim id fun ⟨_, hf, _⟩ => absurd hf List.not_mem_nil
    | cons f l ih =>
      intro w hsub hor
      refine ih _ (fun g hg => hsub g (.tail _ hg)) ?_
      obtain ⟨h32, hcase⟩ := hall f (hsub f (.head _))
      by_cases hf : (f.lo = lo ∧ f.width = width) ∧ f.acc = .rw
      · obtain ⟨⟨rfl, rfl⟩, ha⟩ := hf
        exact .inl (fld_takeField_same hw v w h32 ha)
      · have hd : f.lo + f.width ≤ lo ∨ lo + width ≤ f.lo := hcase.imp_left fun h => h.resolve_left hf
        rw [fld_takeField_apart hw v w h32 hd]
        refine hor.imp_right fun ⟨g, hg, hgf⟩ => ⟨g, (List.mem_cons.mp hg).resolve_left fun e => hf (e ▸ hgf), hgf⟩
  exact hkeep fs old (fun _ => id) (.inr hany)

/-! ### A full write of a plain register -/

/-- A full write of a plain register that passes every check: its fields are stored, its follow-up acts, and it is answered. -/
theorem regWrite_plain {a : Nat} {v : Word} {r : RegDesc} (h : d.admits i a v) (hr : regDesc a = some r) (hload : ¬ (0x211000 ≤ a ∧ a < 0x211800)) :
    regWrite i a v 15 0 d = ((d.wr a (takeFields r.fields 0 v (d.rd a))).took a (d.rd a) v).respond i none [] := by
  obtain ⟨ha, hg, hs, hp, q, hq, hk, h45, hi, h7⟩ := h
  obtain rfl : q = r := Option.some.inj (hq.symm.trans hr)
  rw [regWrite, busWrite_plain v 0 ha hg hs hp hq hk, sameCycle_zero, writeReg_plain_accepted none 0 hk h45 hi h7, take_zero q v d hload]

theorem exec_plain {x : Instr} {s : State} {f : Dev → Dev} {a : Nat} {v : Word} {r : RegDesc} (hx : exec x s = run f s)
    (hf : f s.dev = regWrite i a v 15 0 s.dev) (h : s.dev.admits i a v) (hr : regDesc a = some r) (hload : ¬ (0x211000 ≤ a ∧ a < 0x211800)) {e : Dev}
    (he : (s.dev.wr a (takeFields r.fields 0 v (s.dev.rd a))).took a (s.dev.rd a) v = e) :
    ∃ c, exec x s = .next { s with dev := { e with chk := c } } := by
  refine ⟨(e.respond i none []).chk, exec_run hx ?_⟩
  rw [hf, regWrite_plain h hr hload, he]
  exact respond_ok_only i [] e

/-- The register of a write that passes every check, with a fact of its fields that its address decides. -/
theorem admits_desc {a : Nat} {v : Word} (h : d.admits i a v) {p : RegDesc → Bool} (hp : (regDesc a).any p = true) :
    ∃ r, regDesc a = some r ∧ p r = true := by
  obtain ⟨-, -, -, -, r, hr, -⟩ := h
  rw [hr] at hp
  exact ⟨r, hr, hp⟩

theorem admits_ready {a : Nat} {v : Word} {b : Nat} (h : d.admits i a v) (hb : blockOf a = some b) (h0 : b ≠ 0) (h5 : b ≠ 5) :
    d.top.ready = true := by
  obtain ⟨-, -, hs, -⟩ := h
  unfold Dev.steps123 Dev.early at hs
  rw [hb] at hs
  simp only [h0, h5, decide_false, Bool.or_false, Bool.false_eq_true, if_false] at hs
  cases hr : d.top.ready with
  | true => rfl
  | false => simp [hr] at hs

/-! ### A loop over all objects -/

/-- What each turn of a loop makes true of its own object, and keeps of the others, holds of all at its end. -/
theorem forFin_all {n : Nat} {f : Fin n → Dev → Dev} {P : Fin n → Dev → Prop} (hset : ∀ j d, P j (f j d)) (hkeep : ∀ j k d, P k d → P k (f j d))
    (d : Dev) (k : Fin n) : P k (forFin n f d) := by
  have hall : ∀ (l : List (Fin n)) (d : Dev), (P k d ∨ k ∈ l) → P k (l.foldl (fun d j => f j d) d) := by
    intro l
    induction l with
    | nil => exact fun d h => h.resolve_right List.not_mem_nil
    | cons j l ih =>
      intro d h
      refine ih _ ?_
      by_cases hj : k = j
      · exact .inl (hj ▸ hset j d)
      · exact h.imp (hkeep j k d) fun h => (List.mem_cons.mp h).resolve_left hj
  exact hall _ d (.inr (List.mem_finRange k))

/-- What every turn of a loop keeps holds at its end. -/
theorem forFin_keeps {n : Nat} {f : Fin n → Dev → Dev} {P : Dev → Prop} (hf : ∀ j d, P d → P (f j d)) {d : Dev} (h : P d) : P (forFin n f d) := by
  have hall : ∀ (l : List (Fin n)) (d : Dev), P d → P (l.foldl (fun d j => f j d) d) := by
    intro l
    induction l with
    | nil => exact fun _ h => h
    | cons j l ih => exact fun d h => ih _ (hf j d h)
  exact hall _ d h

/-! ### The mutes of Anchor mode -/

theorem modOut_mAnchor {m : Fin 48} {f : Out → Out} (hf : ∀ o, (f o).mAnchor = o.mAnchor) (d : Dev) (k : Fin 48) :
    ((d.modOut m f).out k).mAnchor = (d.out k).mAnchor := by
  by_cases h : k = m
  · rw [h, modOut_out_same, hf]
  · rw [modOut_out_ne f d h]

theorem modVout_mAnchor {m : Fin 8} {f : Vout → Vout} (hf : ∀ o, (f o).mAnchor = o.mAnchor) (d : Dev) (k : Fin 8) :
    ((d.modVout m f).vout k).mAnchor = (d.vout k).mAnchor := by
  by_cases h : k = m
  · rw [h, modVout_vout_same, hf]
  · rw [modVout_vout_ne f d h]

theorem outPhaseTake_mAnchor (ph : Word) (o : Out) : (outPhaseTake ph o).mAnchor = o.mAnchor := by
  unfold outPhaseTake
  split <;> rfl

theorem outRefresh_mAnchor (m k : Fin 48) (d : Dev) : ((d.outRefresh m).out k).mAnchor = (d.out k).mAnchor := by
  unfold Dev.outRefresh
  extract_lets d1 w mute ph
  have h1 : (d1.out k).mAnchor = (d.out k).mAnchor := modOut_mAnchor (f := fun o => { o with mLan := d.lanLatch (d.outLan m) o.mLan }) (fun _ => rfl) d k
  refine (modOut_mAnchor (fun o => ?_) d1 k).trans h1
  extract_lets o1 o2 o3
  rw [outPhaseTake_mAnchor]
  have h2 : o2.mAnchor = o.mAnchor := by
    simp only [o2]
    split
    · split <;> rfl
    · rfl
  simp only [o3]
  split
  · exact h2
  · exact h2

theorem voutRefresh_mAnchor (m k : Fin 8) (d : Dev) : ((d.voutRefresh m).vout k).mAnchor = (d.vout k).mAnchor := by
  unfold Dev.voutRefresh
  extract_lets n d1 w mute
  have h1 : (d1.vout k).mAnchor = (d.vout k).mAnchor :=
    modVout_mAnchor (f := fun o => { o with mLan := if (d.lan n).st = .locked then o.mLan && !bit (d.lanCfg n) 22 else true }) (fun _ => rfl) d k
  refine (modVout_mAnchor (fun o => ?_) d1 k).trans h1
  rfl

/-- M_ANCHOR of every output. -/
def Dev.outsAnchor (b : Bool) (d : Dev) : Dev := forFin 48 (fun m d => (d.modOut m fun o => { o with mAnchor := b }).outRefresh m) d

/-- M_ANCHOR of every output and every video output. -/
def Dev.anchorSet (b : Bool) (d : Dev) : Dev := forFin 8 (fun k d => (d.modVout k fun o => { o with mAnchor := b }).voutRefresh k) (d.outsAnchor b)

theorem anchorFree_eq (d : Dev) : d.anchorFree = d.anchorSet false := rfl
theorem anchorMute_eq (d : Dev) : d.anchorMute = d.anchorSet true := rfl

theorem outsAnchor_mAnchor (b : Bool) (d : Dev) (m : Fin 48) : ((d.outsAnchor b).out m).mAnchor = b := by
  refine forFin_all (P := fun m d => (d.out m).mAnchor = b) (fun j d => ?_) (fun j k d h => ?_) d m
  · rw [outRefresh_mAnchor, modOut_out_same]
  · rw [outRefresh_mAnchor]
    by_cases e : k = j
    · rw [e, modOut_out_same]
    · rw [modOut_out_ne _ d e, h]

/-- M_ANCHOR reaches every output and video output, and nothing else. -/
theorem anchorSet_fields (b : Bool) (d : Dev) : (∀ m, ((d.anchorSet b).out m).mAnchor = b) ∧ (∀ k, ((d.anchorSet b).vout k).mAnchor = b) ∧
    Within (looseScope [.outs, .vouts] []) d (d.anchorSet b) := by
  have hv : Within (looseScope [.vouts] []) (d.outsAnchor b) (d.anchorSet b) := (Within.refl _ _).forFin fun _ _ h => h.modVout.voutRefresh
  refine ⟨fun m => ?_, fun k => ?_, ((Within.refl _ d).forFin fun _ _ h => h.modOut.outRefresh).forFin fun _ _ h => h.modVout.voutRefresh⟩
  · rw [Dev.out, hv.outs]
    exact outsAnchor_mAnchor b d m
  · refine forFin_all (P := fun k d => (d.vout k).mAnchor = b) (fun j d => ?_) (fun j k d h => ?_) _ k
    · rw [voutRefresh_mAnchor, modVout_vout_same]
    · rw [voutRefresh_mAnchor]
      by_cases e : k = j
      · rw [e, modVout_vout_same]
      · rw [modVout_vout_ne _ d e, h]

/-- The release of the mutes of Anchor mode. -/
theorem anchorFree_fields (d : Dev) : (∀ m, (d.anchorFree.out m).mAnchor = false) ∧ (∀ k, (d.anchorFree.vout k).mAnchor = false) ∧
    Within (looseScope [.outs, .vouts] []) d d.anchorFree := anchorSet_fields false d

/-- The mutes of Anchor mode. -/
theorem anchorMute_fields (d : Dev) : (∀ m, (d.anchorMute.out m).mAnchor = true) ∧ (∀ k, (d.anchorMute.vout k).mAnchor = true) ∧
    Within (looseScope [.outs, .vouts] []) d d.anchorMute := anchorSet_fields true d

/-! ### The host-interface reset: what of the host interface it marks -/

/-- The host interface but for its commands and what waits to leave it: the reset in progress and its count. -/
def SameReset (d d' : Dev) : Prop := d'.host.resetCause = d.host.resetCause ∧ d'.host.resets = d.host.resets

theorem SameReset.trans {d d₁ d₂ : Dev} (h : SameReset d d₁) (h' : SameReset d₁ d₂) : SameReset d d₂ := ⟨h'.1.trans h.1, h'.2.trans h.2⟩

theorem SameReset.of_host {d d' : Dev} (h : d'.host = { d.host with
    rings := d'.host.rings, pending := d'.host.pending, signals := d'.host.signals, posted := d'.host.posted, stalled := d'.host.stalled }) :
    SameReset d d' := by
  constructor <;> rw [h]

/-- What the end of a command's hold changes, with entries of the log ring alone. -/
def unholdScope : Scope := quietScope [.regs, .bar4, .host, .watch, .txts, .ports, .chart, .fw]

theorem unhold_sameReset (src : CmdSrc) (d : Dev) : SameReset d (d.unhold src) := by
  have hw : Within unholdScope d (d.unhold src) :=
    (Within.refl _ d).unhold (not_cfgWord_of_lt (by decide)) (not_cfgWord_of_lt (by decide)) ⟨rfl, rfl, rfl⟩ rfl rfl rfl rfl rfl
  exact .of_host (hw.io rfl).host

theorem abortCq_sameReset (q : Fin 4) (d : Dev) : SameReset d (d.abortCq q) := by
  unfold Dev.abortCq
  cases d.host.busy.get (srcIdx (.cq q)) with
  | none => exact ⟨rfl, rfl⟩
  | some p =>
    dsimp only
    cases p.out with
    | some o => exact ⟨rfl, rfl⟩
    | none =>
      dsimp only
      split
      · exact ⟨rfl, rfl⟩
      · have hu := unhold_sameReset (.cq q) d
        generalize d.unhold (.cq q) = e at *
        exact hu

/-- A host-interface reset with its cause and its time, before it stops the commands. -/
def Dev.resetMarked (cause : Nat) (d : Dev) : Dev :=
  ((d.modHost fun h =>
      { h with resetCause := some (b8 cause, d.stamp), resets := h.resets + 1, ip := Vector.replicate 4 none }).modTop fun t =>
        { t with blk := t.blk &&& ~~~(BitVec.ofNat 17 16384) }).bump 0x2C0008 0 16

theorem hostReset_starts (hc : d.host.resetCause = none) (hr : d.top.ready = true) (cause : Nat) :
    d.hostReset cause = forFin 4 Dev.abortCq (d.resetMarked cause) := if_neg (by rw [hc, hr]; decide)

/-- What stopping the commands of a host-interface reset may change. -/
def abortScope : Scope := partScope [.regs, .bar4, .host, .keeper, .watch, .txts, .ports, .chart, .fw]

theorem aborts_within (d : Dev) : Within abortScope d (forFin 4 Dev.abortCq d) :=
  (Within.refl _ d).forFin fun _ _ h => h.abortCq trivial trivial ⟨⟨rfl, rfl, rfl⟩, rfl, rfl⟩ rfl rfl rfl rfl rfl

theorem aborts_sameReset (d : Dev) : SameReset d (forFin 4 Dev.abortCq d) :=
  forFin_keeps (P := SameReset d) (fun j d h => h.trans (abortCq_sameReset j d)) ⟨rfl, rfl⟩

theorem resetMarked_cause (cause : Nat) (d : Dev) : (d.resetMarked cause).host.resetCause = some (b8 cause, d.stamp) := rfl

theorem resetMarked_blockReady (cause : Nat) (d : Dev) : (d.resetMarked cause).blockReady 14 = false := by
  show (d.top.blk &&& ~~~(BitVec.ofNat 17 16384)).getLsbD 14 = false
  simp

theorem stamp_wr {off : Nat} (w : Word) (d : Dev) (h : 0x2C0004 < off ∨ off = 0x2C0000) : (d.wr off w).stamp = d.stamp := by
  have hts : ∀ n : Fin 4, (d.wr off w).tsNow n = d.tsNow n := fun n => by
    have hch : (d.wr off w).tsChan n = d.tsChan n := by
      rw [Dev.tsChan, Dev.rdF, rd_wr_ne w d (by omega), Dev.tsChan, Dev.rdF]
    rw [Dev.tsNow, Dev.tsOn, hch, Dev.tsNow, Dev.tsOn]
    rfl
  unfold Dev.stamp
  rw [Dev.rdF, rd_wr_ne w d (by omega), ← Dev.rdF]
  extract_lets n
  rw [hts]
  rfl

end Sys2Proof.Machine
end

section
/-! The register commands of plain registers: each accepted write has the effect of its row. -/

namespace Sys2Proof.Machine

set_option Elab.async false

variable {d : Dev} {i : Iface}

/-! ### The watchdog -/

/-- The watchdog once it is restarted (R22). -/
def Dev.wdtKicked (d : Dev) : Dev := d.modSup fun s => { s with kicked := true, wdtAt := d.clk.aonUs + 100000 }

theorem wdtRestart_plain (hr : d.keeper.sup.running = true) (ht : d.fw.state ≠ .trial) : d.wdtRestart = d.wdtKicked :=
  (if_pos hr).trans (if_neg ht)

/-- The trial that a restart of the watchdog confirms. -/
def Dev.trialPassed (d : Dev) : Dev := if d.fw.stage.toNat < 6 then d.modFw fun f => { f with stage := 6 } else d

theorem trialPassed_fields (d : Dev) : d.trialPassed.fw = { d.fw with stage := if d.fw.stage.toNat < 6 then 6 else d.fw.stage } ∧
    d.trialPassed.keeper = d.keeper := by
  unfold Dev.trialPassed
  split
  · exact ⟨rfl, rfl⟩
  · exact ⟨rfl, rfl⟩

/-- The FW_ACTIVATE that waits for the trial ends. -/
def Dev.activated (d : Dev) : Dev :=
  match d.fw.activate with
  | some a => (d.modFw fun f => { f with activate := none }).complete a.1 a.2 (.ok 6)
  | none => d

theorem activated_fields (d : Dev) : d.activated.fw = { d.fw with activate := none } ∧ d.activated.keeper.sup = d.keeper.sup := by
  unfold Dev.activated
  cases h : d.fw.activate with
  | some a => exact ⟨(complete_within ..).fw, (KeeperStep.complete ..).sup⟩
  | none => exact ⟨congrArg (fun a => { d.fw with activate := a }) h, rfl⟩

theorem wdtRestart_trial (hr : d.keeper.sup.running = true) (ht : d.fw.state = .trial) : d.wdtRestart = d.wdtKicked.trialPassed.activated :=
  (if_pos hr).trans (if_pos ht)

theorem wdtRestart_sup (hr : d.keeper.sup.running = true) : d.wdtRestart.keeper.sup = { d.keeper.sup with
    kicked := true, wdtAt := d.clk.aonUs + 100000 } := by
  by_cases ht : d.fw.state = .trial
  · rw [wdtRestart_trial hr ht, (activated_fields _).2, (trialPassed_fields _).2]
    rfl
  · rw [wdtRestart_plain hr ht]
    rfl

theorem wdtRestart_fw (hr : d.keeper.sup.running = true) (ht : d.fw.state = .trial) : d.wdtRestart.fw = { d.fw with
    activate := none, stage := if d.fw.stage.toNat < 6 then 6 else d.fw.stage } := by
  rw [wdtRestart_trial hr ht, (activated_fields _).1, (trialPassed_fields _).1]
  rfl

/-- KEEPER_WDT_KICK: one trigger. -/
def wdtKickDesc : RegDesc := rt 0x100 0 [.t 0 16]

theorem regDesc_wdtKick : regDesc 0x300100 = some wdtKickDesc := by decide +kernel

/-- A restart in the cycle of the expiry is discarded (R23). -/
theorem regWrite_kickLate {v : Word} (h : d.admits i 0x300100 v) : regWrite i 0x300100 v 15 1 d = d.respond i none [] := by
  obtain ⟨ha, hg, hs, hp, q, hq, hk, h45, hi, h7⟩ := h
  obtain rfl : q = wdtKickDesc := Option.some.inj (hq.symm.trans regDesc_wdtKick)
  rw [regWrite, busWrite_plain v 1 ha hg hs hp hq hk, writeReg_plain_accepted none _ hk h45 hi h7]
  rfl

/-! ### Registers of fixed address -/

/-- The record of violations freed. -/
def Dev.violFree (d : Dev) : Dev := d.wr 0x050004 (setFld (setFld (d.rd 0x050004) 31 1 0) 0 16 0)

theorem took_run (old v : Word) (d : Dev) : d.took 0x000008 old v = d.modTop fun t => { t with run := true, stage := if t.stage = 6 then 7 else t.stage } := rfl
theorem took_kick (old v : Word) (d : Dev) : d.took 0x300100 old v = d.wdtRestart := rfl
theorem took_ack (old : Word) (d : Dev) : d.took 0x05000C old 1 = d.violFree := rfl
theorem took_hostReset (old : Word) (d : Dev) : d.took 0x2C0000 old 1 = d.hostReset 3 := rfl
theorem took_clkmon (old v : Word) (d : Dev) : d.took 0x010030 old v = d := rfl
theorem took_anchor (old : Word) (d : Dev) : d.took 0x020028 old 1 = d.anchorFree := rfl

/-- The descriptor that an accepted write finds. -/
theorem admits_some {a : Nat} {v : Word} (h : d.admits i a v) : ∃ r, regDesc a = some r := by
  obtain ⟨-, -, -, -, r, hr, -⟩ := h
  exact ⟨r, hr⟩

/-- The words of CLKMON_CFG that its write stores. -/
theorem clkmon_stores : (regDesc 0x010030).any (fun r => storesField r.fields 24 5 && storesField r.fields 0 16) = true := by decide +kernel

/-- The record of a violation is free again, with none counted behind it. -/
theorem ack_clears (w : Word) : fld (setFld (setFld w 31 1 0) 0 16 0) 31 1 = 0 ∧ fld (setFld (setFld w 31 1 0) 0 16 0) 0 16 = 0 := by
  refine ⟨?_, fld_setFld_same _ 0 (by decide)⟩
  rw [fld_setFld_above _ _ (by decide) (by decide)]
  exact fld_setFld_same _ 0 (by decide)

/-! ### The capture of a time scale -/

theorem took_ts {a : Nat} (old v : Word) (h1 : 0x1C0000 ≤ a) (h2 : a < 0x1C0400) (d : Dev) :
    d.took a old v = d.tsTook (Fin.ofNat 4 ((a - 0x1C0000) / 0x100)) ((a - 0x1C0000) % 0x100) old v := by
  simp only [Dev.took, Bool.and_eq_true, decide_eq_true_eq]
  repeat rw [if_neg (by omega)]
  rw [if_pos (by omega)]

theorem took_capture (n : Fin 4) {v : Word} (old : Word) (hb : bit v 8 = true) (d : Dev) : d.took (tsOff n + 0x20) old v = d.captureArm n := by
  have hn : Fin.ofNat 4 ((tsOff n + 0x20 - 0x1C0000) / 0x100) = n := by
    apply Fin.ext
    simp only [Fin.ofNat, tsOff]
    omega
  have ho : (tsOff n + 0x20 - 0x1C0000) % 0x100 = 0x20 := by simp only [tsOff]; omega
  rw [took_ts old v (by simp only [tsOff]; omega) (by simp only [tsOff]; omega), hn, ho]
  exact if_pos hb

theorem capture_stores (n : Fin 4) : (regDesc (tsOff n + 0x20)).any (fun r => storesField r.fields 6 2) = true := by
  revert n
  decide +kernel

/-- The words that a capture stores, and the time scale that is no longer armed. -/
def Dev.captured (n : Fin 4) (w₀ w₁ w₂ w₃ w₄ : Word) (d : Dev) : Dev :=
  (((((d.wr (tsOff n + 0x30) w₀).wr (tsOff n + 0x34) w₁).wr (tsOff n + 0x38) w₂).wr (tsOff n + 0x3C) w₃).wr (tsOff n + 0x40) w₄).modTs n fun t =>
    { t with armed := false }

theorem tsCapture_captured (n : Fin 4) (gr : Int) : ∃ w₀ w₂ w₃ w₄ : Dev → Word, Dev.tsCapture n gr = fun d => d.captured n (w₀ d)
    (word ((d.rdF (tsOff n + 0x34) 16 16 + 1) % 65536 * 65536 + (grTriple gr).sec / 4294967296)) (w₂ d) (w₃ d) (w₄ d) := ⟨_, _, _, _, rfl⟩

/-- A capture counts in the upper half of its word, and is not armed any more. -/
theorem tsCapture_fields (n : Fin 4) (gr : Int) (d : Dev) : ((d.tsCapture n gr).tsc n).armed = false ∧
    (∀ k, k ≠ n → (d.tsCapture n gr).tsc k = d.tsc k) ∧
    (d.tsCapture n gr).rdF (tsOff n + 0x34) 16 16 = (d.rdF (tsOff n + 0x34) 16 16 + 1) % 65536 ∧
    d.tsCapture n gr = { d with regs := (d.tsCapture n gr).regs, ts := (d.tsCapture n gr).ts } := by
  have hp : (grTriple gr).sec / 4294967296 < 65536 := by
    have : (grTriple gr).sec < 2 ^ 48 := Nat.mod_lt _ (by decide)
    omega
  have hc : (d.rdF (tsOff n + 0x34) 16 16 + 1) % 65536 < 65536 := Nat.mod_lt _ (by decide)
  obtain ⟨w₀, w₂, w₃, w₄, he⟩ := tsCapture_captured n gr
  rw [he]
  beta_reduce
  clear he
  generalize (d.rdF (tsOff n + 0x34) 16 16 + 1) % 65536 = c at *
  generalize (grTriple gr).sec / 4294967296 = p at *
  refine ⟨congrArg TimeScale.armed (modTs_tsc_same n (fun t => { t with armed := false }) _), fun k hk => modTs_tsc_ne _ _ hk, ?_, rfl⟩
  have hrd : (d.captured n (w₀ d) (word (c * 65536 + p)) (w₂ d) (w₃ d) (w₄ d)).rd (tsOff n + 0x34) = word (c * 65536 + p) := by
    unfold Dev.captured
    refine Eq.trans ?_ (rd_wr_same (tsOff n + 0x34) (word (c * 65536 + p)) (d.wr (tsOff n + 0x30) (w₀ d)))
    exact (rd_wr_ne _ _ (by omega)).trans ((rd_wr_ne _ _ (by omega)).trans (rd_wr_ne _ _ (by omega)))
  have hfld : fld (word (c * 65536 + p)) 16 16 = c := by
    simp only [fld, word, BitVec.toNat_ofNat]
    omega
  rw [Dev.rdF, hrd, hfld]

theorem captureArm_arms {n : Fin 4} (h : d.rdF (tsOff n + 0x20) 6 2 ≠ 0) : d.captureArm n = d.modTs n fun t => { t with armed := true } := if_neg h

theorem captureArm_now {n : Fin 4} (h : d.rdF (tsOff n + 0x20) 6 2 = 0) : ∃ gr, d.captureArm n = d.tsCapture n gr := by
  unfold Dev.captureArm
  rw [if_pos h]
  split
  · exact ⟨_, rfl⟩
  · exact ⟨_, rfl⟩

/-! ### An estimate pushed -/

/-- The slot of host estimates `k`. -/
def hsSlot (k : Fin 3) : Fin 64 := ⟨61 + k.val, by omega⟩

theorem took_buoy {a : Nat} (old v : Word) (h1 : 0x080000 ≤ a) (h2 : a < 0x088000) (d : Dev) :
    d.took a old v = d.buoyTook (Fin.ofNat 64 ((a - 0x80000) / 0x200)) ((a - 0x80000) % 0x200) old v := by
  simp only [Dev.took, Bool.and_eq_true, decide_eq_true_eq]
  repeat rw [if_neg (by omega)]
  rw [if_pos (by omega)]

theorem crossBad_buoy {a : Nat} (v : Word) (h1 : 0x080000 ≤ a) (h2 : a < 0x088000) (d : Dev) :
    d.crossBad a v = d.buoyBad (Fin.ofNat 64 ((a - 0x80000) / 0x200)) ((a - 0x80000) % 0x200) v := by
  simp only [Dev.crossBad, Bool.and_eq_true, decide_eq_true_eq]
  repeat rw [if_neg (by omega)]
  rw [if_pos (by omega)]

theorem push_slot (k : Fin 3) : Fin.ofNat 64 ((buoyOff (61 + k.val) + 0x114 - 0x80000) / 0x200) = hsSlot k ∧
    (buoyOff (61 + k.val) + 0x114 - 0x80000) % 0x200 = 0x114 ∧ 0x080000 ≤ buoyOff (61 + k.val) + 0x114 ∧ buoyOff (61 + k.val) + 0x114 < 0x088000 := by
  revert k
  decide

theorem push_load (k : Fin 3) : ¬ (0x211000 ≤ buoyOff (61 + k.val) + 0x114 ∧ buoyOff (61 + k.val) + 0x114 < 0x211800) := by
  revert k
  decide

theorem took_push (k : Fin 3) (old : Word) (d : Dev) : d.took (buoyOff (61 + k.val) + 0x114) old 1 = (d.hsQueue (hsSlot k)).getD d := by
  obtain ⟨hn, ho, h1, h2⟩ := push_slot k
  rw [took_buoy old 1 h1 h2, hn, ho]
  rfl

theorem crossBad_push (k : Fin 3) (d : Dev) : d.crossBad (buoyOff (61 + k.val) + 0x114) 1 = (d.hsQueue (hsSlot k)).isNone := by
  obtain ⟨hn, ho, h1, h2⟩ := push_slot k
  rw [crossBad_buoy 1 h1 h2, hn, ho]
  simp [Dev.buoyBad, bit, fld]

/-- What refuses an estimate pushed to a slot. -/
def Dev.hsBad (d : Dev) (n : Fin 64) : Bool :=
  decide (ffoLimit < (d.rd40 (buoyOff n + 0x108)).natAbs) || decide (10000000 < fld (d.rd (buoyOff n + 0x110)) 0 24) ||
    (!(d.buoy n).hsPhase && !(d.buoy n).hsFfo) || decide (2 ≤ (d.buoy n).hs.length)

/-- The slot behind an estimate that it takes. -/
def Buoy.taken (e : Estimate) (b : Buoy) : Buoy := { b with hs := b.hs ++ [e], hsPhase := false, hsFfo := false }

theorem hsQueue_eq (n : Fin 64) : ∃ e : Dev → Estimate, Dev.hsQueue n = fun d => if d.hsBad n then none else some (d.modBuoy n (Buoy.taken (e d))) :=
  ⟨_, rfl⟩

theorem hsQueue_isNone (n : Fin 64) (d : Dev) : (d.hsQueue n).isNone = d.hsBad n := by
  obtain ⟨f, he⟩ := hsQueue_eq n
  rw [he]
  cases h : d.hsBad n <;> simp [h]

/-- A pushed estimate waits behind those of its slot. -/
theorem hsQueue_some {n : Fin 64} {e : Dev} (h : d.hsQueue n = some e) : (e.buoy n).hs.length = (d.buoy n).hs.length + 1 ∧
    (∀ m, m ≠ n → e.buoy m = d.buoy m) ∧ e = { d with buoys := e.buoys } := by
  obtain ⟨f, he⟩ := hsQueue_eq n
  rw [he] at h
  cases hb : d.hsBad n with
  | true => simp [hb] at h
  | false =>
    simp only [hb, Bool.false_eq_true, if_false, Option.some.injEq] at h
    rw [← h]
    refine ⟨?_, fun m hm => modBuoy_buoy_ne _ d hm, rfl⟩
    rw [modBuoy_buoy_same]
    exact List.length_append

theorem hsQueue_wr (n : Fin 64) (w : Word) (d : Dev) : ((d.wr (buoyOff n + 0x114) w).hsQueue n).isNone = (d.hsQueue n).isNone := by
  have hrd : ∀ k, k < 0x114 → (d.wr (buoyOff n + 0x114) w).rd (buoyOff n + k) = d.rd (buoyOff n + k) := fun k hk => rd_wr_ne w d (by omega)
  have h40 : (d.wr (buoyOff n + 0x114) w).rd40 (buoyOff n + 0x108) = d.rd40 (buoyOff n + 0x108) := by
    rw [Dev.rd40, Dev.rdF, Dev.rdF, hrd 0x108 (by decide), Nat.add_assoc, hrd (0x108 + 4) (by decide), Dev.rd40, Dev.rdF, Dev.rdF, Nat.add_assoc]
  rw [hsQueue_isNone, hsQueue_isNone, Dev.hsBad, h40, hrd 0x110 (by decide), Dev.hsBad]
  rfl

/-! ### A ring switched on and off -/

theorem took_ring {a : Nat} (old v : Word) (h1 : 0x2C1000 ≤ a) (h2 : a < 0x2C1680) (h8 : (a - 0x2C1000) % 0x40 = 8) (d : Dev) :
    d.took a old v = d.ringCfgDone (Fin.ofNat 26 ((a - 0x2C1000) / 0x40)) old v := by
  simp only [Dev.took, Bool.and_eq_true, decide_eq_true_eq]
  repeat rw [if_neg (by omega)]
  rw [if_pos (by omega), if_pos h8]

theorem took_ringCfg (r : Fin 26) (old v : Word) (d : Dev) : d.took (ringOff r + 8) old v = d.ringCfgDone r old v := by
  have hr : Fin.ofNat 26 ((ringOff r + 8 - 0x2C1000) / 0x40) = r := by
    apply Fin.ext
    simp only [Fin.ofNat, ringOff]
    omega
  rw [took_ring old v (by simp only [ringOff]; omega) (by simp only [ringOff]; omega) (by simp only [ringOff]; omega), hr]

theorem ringCfg_stores (r : Fin 26) : (regDesc (ringOff r + 8)).any (fun q => storesField q.fields 31 1) = true := by
  revert r
  decide +kernel

/-- The ring from its first entry on. -/
def Ring.begun (g : Ring) : Ring :=
  { g with devIdx := 0, use := 0, phase := true, err := false, errCode := 0, lastFetched := none, lastRetired := none,
           signalled := none, itrWait := false, done := [] }

theorem ringCfgDone_on {r : Fin 26} {old new : Word} (hn : bit new 31 = true) (ho : bit old 31 = false) (d : Dev) : d.ringCfgDone r old new =
    if r = 8 || r = 9 then (d.modRing r Ring.begun).overflow r else d.modRing r Ring.begun := if_pos (by rw [hn, ho]; rfl)

theorem ringCfgDone_off {r : Fin 26} {old new : Word} (hn : bit new 31 = false) (d : Dev) : d.ringCfgDone r old new = d :=
  if_neg (by rw [hn]; simp)

/-- A ring switched on stands enabled, and a ring other than those of events and the log starts afresh. -/
theorem ringCfgDone_fields {r : Fin 26} {old new : Word} (hn : bit new 31 = true) (ho : bit old 31 = false) (he : d.ringEn r = true) :
    (d.ringCfgDone r old new).ringEn r = true ∧ (r ≠ 8 → r ≠ 9 → (d.ringCfgDone r old new).ring r = (d.ring r).begun) := by
  rw [ringCfgDone_on hn ho]
  by_cases h : r = 8 ∨ r = 9
  · rw [if_pos (by simpa using h)]
    have hov : Within (quietScope [.regs, .bar4, .host, .keeper]) (d.modRing r Ring.begun) ((d.modRing r Ring.begun).overflow r) :=
      (Within.refl _ _).overflow h ⟨⟨rfl, rfl, rfl⟩, rfl⟩
    refine ⟨?_, fun h8 h9 => absurd h (not_or.mpr ⟨h8, h9⟩)⟩
    have hcfg := (hov.io rfl).cfg (ringOff r + 8) ⟨r.val, h.imp (congrArg Fin.val) (congrArg Fin.val), .inr (.inr rfl)⟩
    exact (congrArg (bit · 31) hcfg).trans he
  · rw [if_neg (by simpa using h)]
    exact ⟨he, fun _ _ => modRing_ring_same ..⟩

/-! ### The commands -/

section
variable {s : State}

theorem hostifCtrlReset_state (h : s.dev.admits i 0x2C0000 1) (hc : s.dev.host.resetCause = none) : ∃ t, exec (.hostifCtrlReset i) s = .next t ∧
      t.pending = s.pending ∧ t.dev.host.resetCause = some (3, s.dev.stamp) ∧ t.dev.blockReady 14 = false ∧
      t.dev.host.resets = s.dev.host.resets + 1 ∧ t.dev.chans = s.dev.chans ∧ t.dev.ts = s.dev.ts ∧ t.dev.otp = s.dev.otp := by
  obtain ⟨r, hr⟩ := admits_some h
  have hready : s.dev.top.ready = true := admits_ready h (b := 14) rfl (by decide) (by decide)
  obtain ⟨c, hx⟩ := exec_plain (x := .hostifCtrlReset i) rfl rfl h hr (by decide) ((took_hostReset ..).trans (hostReset_starts (d := s.dev.wr _ _) hc hready 3))
  have hstamp := stamp_wr (off := 0x2C0000) (takeFields r.fields 0 1 (s.dev.rd 0x2C0000)) s.dev (.inr rfl)
  generalize hd : s.dev.wr 0x2C0000 (takeFields r.fields 0 1 (s.dev.rd 0x2C0000)) = d at *
  have hb := resetMarked_blockReady 3 d
  have hcause := resetMarked_cause 3 d
  have hcount : (d.resetMarked 3).host.resets = s.dev.host.resets + 1 := by rw [← hd]; rfl
  have hch : (d.resetMarked 3).chans = s.dev.chans ∧ (d.resetMarked 3).ts = s.dev.ts ∧ (d.resetMarked 3).otp = s.dev.otp := by
    rw [← hd]
    exact ⟨rfl, rfl, rfl⟩
  rw [hstamp] at hcause
  generalize d.resetMarked 3 = e at *
  have hw := aborts_within e
  have hs := aborts_sameReset e
  generalize forFin 4 Dev.abortCq e = f at *
  exact ⟨_, hx, rfl, hs.1.trans hcause, (blockReady_of_top hw.top 14).trans hb, hs.2.trans hcount, hw.chans.trans hch.1, hw.ts.trans hch.2.1,
    hw.otp.trans hch.2.2⟩

/-- An armed capture acts on the device that holds the written word. -/
theorem exec_captureArm {n : Fin 4} {v : Word} (hb : bit v 8 = true) (h : s.dev.admits i (tsOff n + 0x20) v) :
    ∃ (d : Dev) (c : Chk), d.rdF (tsOff n + 0x20) 6 2 = fld v 6 2 ∧ d.rdF (tsOff n + 0x34) 16 16 = s.dev.rdF (tsOff n + 0x34) 16 16 ∧
      d = { s.dev with regs := d.regs } ∧ exec (.tsCaptureArm i n v) s = .next { s with dev := { d.captureArm n with chk := c } } := by
  obtain ⟨r, hr, hst⟩ := admits_desc h (capture_stores n)
  obtain ⟨c, hx⟩ := exec_plain (x := .tsCaptureArm i n v) rfl rfl h hr (by simp only [tsOff]; omega) (took_capture n _ hb _)
  refine ⟨_, c, ?_, ?_, rfl, hx⟩
  · exact (congrArg (fld · 6 2) (rd_wr_same ..)).trans (fld_takeFields hst ..)
  · exact congrArg (fld · 16 16) (rd_wr_ne _ _ (by omega))

/-- What a write that arms a capture leaves behind. -/
def CaptureDone (n : Fin 4) (v : Word) (s t : State) : Prop :=
  t.pending = s.pending ∧ (t.dev.tsc n).armed = decide (fld v 6 2 ≠ 0) ∧ (∀ k, k ≠ n → t.dev.tsc k = s.dev.tsc k) ∧
    (fld v 6 2 = 0 → t.dev.rdF (tsOff n + 0x34) 16 16 = (s.dev.rdF (tsOff n + 0x34) 16 16 + 1) % 65536) ∧
    t.dev = { s.dev with regs := t.dev.regs, chk := t.dev.chk, ts := t.dev.ts }

theorem captureDone_now {n : Fin 4} {v : Word} {e : Dev} (c : Chk) (hz : fld v 6 2 = 0) (harm : (e.tsc n).armed = false)
    (hne : ∀ k, k ≠ n → e.tsc k = s.dev.tsc k) (hcap : e.rdF (tsOff n + 0x34) 16 16 = (s.dev.rdF (tsOff n + 0x34) 16 16 + 1) % 65536)
    (heq : e = { s.dev with regs := e.regs, ts := e.ts }) : CaptureDone n v s { s with dev := { e with chk := c } } := by
  refine ⟨rfl, harm.trans (by simp [hz]), hne, fun _ => hcap, ?_⟩
  rw [heq]

theorem captureDone_later {n : Fin 4} {v : Word} {d : Dev} (c : Chk) (hz : fld v 6 2 ≠ 0) (hdev : d = { s.dev with regs := d.regs }) :
    CaptureDone n v s { s with dev := { d.modTs n (fun t => { t with armed := true }) with chk := c } } := by
  have harm := congrArg TimeScale.armed (modTs_tsc_same n (fun t => { t with armed := true }) d)
  have hts : ∀ k, d.tsc k = s.dev.tsc k := fun k => by rw [hdev]; rfl
  refine ⟨rfl, harm.trans (decide_eq_true hz).symm, fun k hk => (modTs_tsc_ne (fun t => { t with armed := true }) d hk).trans (hts k),
    fun h0 => absurd h0 hz, ?_⟩
  rw [hdev]
  rfl

theorem tsCaptureArm_state {n : Fin 4} {v : Word} (hb : bit v 8 = true) (h : s.dev.admits i (tsOff n + 0x20) v) :
    ∃ t, exec (.tsCaptureArm i n v) s = .next t ∧ CaptureDone n v s t := by
  obtain ⟨d, c, hfld, hcnt, hdev, hx⟩ := exec_captureArm hb h
  by_cases hz : fld v 6 2 = 0
  · obtain ⟨gr, hgr⟩ := captureArm_now (hfld.trans hz)
    rw [hgr] at hx
    obtain ⟨harm, hne, hcap, heq⟩ := tsCapture_fields n gr d
    have hts : ∀ k, d.tsc k = s.dev.tsc k := fun k => by rw [hdev]; rfl
    refine ⟨_, hx, captureDone_now c hz harm (fun k hk => (hne k hk).trans (hts k)) (hcnt ▸ hcap) ?_⟩
    rw [heq, hdev]
  · rw [captureArm_arms (hfld ▸ hz)] at hx
    exact ⟨_, hx, captureDone_later c hz hdev⟩

theorem hsPush_state {k : Fin 3} (h : s.dev.admits i (buoyOff (61 + k.val) + 0x114) 1) : ∃ t, exec (.hsPush i k) s = .next t ∧ t.pending = s.pending ∧
      (t.dev.buoy (hsSlot k)).hs.length = (s.dev.buoy (hsSlot k)).hs.length + 1 ∧
      (∀ n : Fin 64, n ≠ hsSlot k → t.dev.buoy n = s.dev.buoy n) ∧
      t.dev = { s.dev with regs := t.dev.regs, chk := t.dev.chk, buoys := t.dev.buoys } := by
  obtain ⟨r, hr⟩ := admits_some h
  obtain ⟨c, hx⟩ := exec_plain (x := .hsPush i k) rfl rfl h hr (push_load k) (took_push k _ _)
  have hok : (s.dev.hsQueue (hsSlot k)).isNone = false := by
    obtain ⟨-, -, -, -, q, -, -, -, -, h7⟩ := h
    rw [← crossBad_push]
    exact (Bool.or_eq_false_iff.mp h7).2
  rw [← hsQueue_wr (hsSlot k) (takeFields r.fields 0 1 (s.dev.rd (buoyOff (61 + k.val) + 0x114)))] at hok
  change (Dev.hsQueue (hsSlot k) (s.dev.wr (buoyOff (61 + k.val) + 0x114) _)).isNone = false at hok
  generalize hd : s.dev.wr (buoyOff (61 + k.val) + 0x114) (takeFields r.fields 0 1 (s.dev.rd (buoyOff (61 + k.val) + 0x114))) = d at *
  have hdev : d = { s.dev with regs := d.regs } := by rw [← hd]; rfl
  obtain ⟨e, he⟩ := Option.isSome_iff_exists.mp (Option.isNone_eq_false_iff.mp hok)
  rw [he, Option.getD_some] at hx
  obtain ⟨hlen, hne, heq⟩ := hsQueue_some he
  have hb : ∀ n, d.buoy n = s.dev.buoy n := fun n => by rw [hdev]; rfl
  refine ⟨_, hx, rfl, hlen.trans (by rw [hb]), fun n hn => (hne n hn).trans (hb n), ?_⟩
  rw [heq, hdev]

/-- A ring that is switched on starts on the device that holds the written word, enabled. -/
theorem exec_ringEnable {r : Fin 26} (h : s.dev.admits i (ringOff r + 8) (setFld (s.dev.rd (ringOff r + 8)) 31 1 1)) : ∃ (d : Dev) (c : Chk),
    d.ringEn r = true ∧ exec (.ringEnable i r) s = .next { s with dev :=
      { d.ringCfgDone r (s.dev.rd (ringOff r + 8)) (setFld (s.dev.rd (ringOff r + 8)) 31 1 1) with chk := c } } := by
  obtain ⟨q, hq, hst⟩ := admits_desc h (ringCfg_stores r)
  obtain ⟨c, hx⟩ := exec_plain (x := .ringEnable i r) rfl rfl h hq (by simp only [ringOff]; omega) (took_ringCfg ..)
  exact ⟨_, c, bit_of_fld_one ((congrArg (fld · 31 1) (rd_wr_same ..)).trans ((fld_takeFields hst ..).trans (fld_setFld_same _ 1 (by decide)))), hx⟩

/-- What switching a ring on leaves of it. -/
theorem ringEnabled_of {r : Fin 26} {d e : Dev} {c : Chk} (hen : e.ringEn r = true) (hring : r ≠ 8 → r ≠ 9 → e.ring r = (d.ring r).begun) {t : State}
    (ht : t.dev = { e with chk := c }) : t.dev.ringEn r = true ∧
      (r ≠ 8 → r ≠ 9 → (t.dev.ring r).devIdx = 0 ∧ (t.dev.ring r).use = 0 ∧ (t.dev.ring r).err = false ∧ (t.dev.ring r).phase = true) := by
  rw [ht]
  refine ⟨hen, fun h8 h9 => ?_⟩
  have hr := hring h8 h9
  exact ⟨congrArg Ring.devIdx hr, congrArg Ring.use hr, congrArg Ring.err hr, congrArg Ring.phase hr⟩

theorem ringEnable_bit (w : Word) : bit (setFld w 31 1 1) 31 = true := bit_of_fld_one (fld_setFld_same _ 1 (by decide))

theorem ringEnable_state {r : Fin 26} (hoff : s.dev.ringEn r = false) (h : s.dev.admits i (ringOff r + 8) (setFld (s.dev.rd (ringOff r + 8)) 31 1 1)) :
    ∃ t, exec (.ringEnable i r) s = .next t ∧ t.pending = s.pending ∧ t.dev.ringEn r = true ∧
      (r ≠ 8 → r ≠ 9 → (t.dev.ring r).devIdx = 0 ∧ (t.dev.ring r).use = 0 ∧ (t.dev.ring r).err = false ∧ (t.dev.ring r).phase = true) := by
  obtain ⟨d, c, hen, hx⟩ := exec_ringEnable h
  have hf := ringCfgDone_fields (old := s.dev.rd (ringOff r + 8)) (ringEnable_bit (s.dev.rd (ringOff r + 8))) hoff hen
  exact ⟨_, hx, rfl, ringEnabled_of hf.1 hf.2 rfl⟩

theorem ringDisable_state {r : Fin 26} (h : s.dev.admits i (ringOff r + 8) (setFld (s.dev.rd (ringOff r + 8)) 31 1 0)) : ∃ t,
      exec (.ringDisable i r) s = .next t ∧ t.dev.ringEn r = false ∧ PortFrame [ringOff r + 8] s t ∧ t.dev.host = s.dev.host := by
  obtain ⟨q, hq, hst⟩ := admits_desc h (ringCfg_stores r)
  have hoff : fld (setFld (s.dev.rd (ringOff r + 8)) 31 1 0) 31 1 = 0 := fld_setFld_same _ 0 (by decide)
  obtain ⟨c, hx⟩ := exec_plain (x := .ringDisable i r) rfl rfl h hq (by simp only [ringOff]; omega)
    ((took_ringCfg ..).trans (ringCfgDone_off (bit_of_fld_zero hoff) _))
  refine ⟨_, hx, ?_, ⟨rfl, rfl, fun a ha _ => rd_wr_ne _ _ fun e => ha (e ▸ List.mem_singleton_self _)⟩, rfl⟩
  exact bit_of_fld_zero ((congrArg (fld · 31 1) (rd_wr_same ..)).trans ((fld_takeFields hst ..).trans hoff))

/-- The watchdog of a running Keeper that is restarted, with no trial or with one. -/
theorem kicked_plain {e : Dev} (c : Chk) (hr : e.keeper.sup.running = true) (ht : e.fw.state ≠ .trial) (he : e = { s.dev with regs := e.regs }) {t : State}
    (hd : t.dev = { e.wdtRestart with chk := c }) : t.dev.keeper = { s.dev.keeper with sup := t.dev.keeper.sup } ∧
      t.dev = { s.dev with regs := t.dev.regs, chk := t.dev.chk, keeper := t.dev.keeper } := by
  rw [wdtRestart_plain hr ht] at hd
  rw [hd, he]
  exact ⟨rfl, rfl⟩

theorem watchdogKick_state {v : Word} (h : s.dev.admits i 0x300100 v) (hr : s.dev.keeper.sup.running = true) :
    ∃ t, exec (.watchdogKick i ⟨v, false⟩) s = .next t ∧ t.pending = s.pending ∧
      t.dev.keeper.sup = { s.dev.keeper.sup with kicked := true, wdtAt := s.dev.clk.aonUs + 100000 } ∧
      (s.dev.fw.state ≠ .trial → t.dev.keeper = { s.dev.keeper with sup := t.dev.keeper.sup } ∧
        t.dev = { s.dev with regs := t.dev.regs, chk := t.dev.chk, keeper := t.dev.keeper }) ∧
      (s.dev.fw.state = .trial → t.dev.fw = { s.dev.fw with
        activate := none, stage := if s.dev.fw.stage.toNat < 6 then 6 else s.dev.fw.stage }) := by
  obtain ⟨c, hx⟩ := exec_plain (x := .watchdogKick i ⟨v, false⟩) rfl rfl h regDesc_wdtKick (by decide) (took_kick ..)
  exact ⟨_, hx, rfl, wdtRestart_sup (d := s.dev.wr _ _) hr, fun ht => kicked_plain (e := s.dev.wr _ _) c hr ht rfl rfl,
    fun ht => wdtRestart_fw (d := s.dev.wr _ _) hr ht⟩

theorem violFree_fields (d : Dev) : d.violFree.rdF 0x050004 31 1 = 0 ∧ d.violFree.rdF 0x050004 0 16 = 0 :=
  ⟨(congrArg (fld · 31 1) (rd_wr_same ..)).trans (ack_clears _).1, (congrArg (fld · 0 16) (rd_wr_same ..)).trans (ack_clears _).2⟩

theorem violFree_wr (d : Dev) : ∃ w, d.violFree = d.wr 0x050004 w := ⟨_, rfl⟩

theorem violFree_rd (d : Dev) {a : Nat} (h : 0x050004 ≠ a) : d.violFree.rd a = d.rd a := rd_wr_ne _ d h

theorem violFree_keeps {w : Word} (d : Dev) : KeepsRegs [0x050004, 0x05000C] d (d.wr 0x05000C w).violFree := fun a ha _ => by
  simp only [List.mem_cons, List.not_mem_nil, or_false, not_or] at ha
  obtain ⟨h4, hC⟩ := ha
  exact (violFree_rd (d.wr 0x05000C w) (Ne.symm h4)).trans (rd_wr_ne w d (Ne.symm hC))

theorem regViolAck_state (h : s.dev.admits i 0x05000C 1) : ∃ t, exec (.regViolAck i) s = .next t ∧ t.dev.rdF 0x050004 31 1 = 0 ∧
    t.dev.rdF 0x050004 0 16 = 0 ∧ PortFrame [0x050004, 0x05000C] s t := by
  obtain ⟨r, hr⟩ := admits_some h
  obtain ⟨c, hx⟩ := exec_plain (x := .regViolAck i) rfl rfl h hr (by decide) (took_ack ..)
  obtain ⟨h31, h0⟩ := violFree_fields (s.dev.wr 0x05000C (takeFields r.fields 0 1 (s.dev.rd 0x05000C)))
  have hk := violFree_keeps s.dev (w := takeFields r.fields 0 1 (s.dev.rd 0x05000C))
  obtain ⟨w, hw⟩ := violFree_wr (s.dev.wr 0x05000C (takeFields r.fields 0 1 (s.dev.rd 0x05000C)))
  generalize takeFields r.fields 0 1 (s.dev.rd 0x05000C) = u at *
  rw [hw] at hx h31 h0 hk
  exact ⟨_, hx, h31, h0, rfl, rfl, hk⟩

theorem topRunWrite_state {v : Word} (h : s.dev.admits i 0x000008 v) : ∃ t, exec (.topRunWrite i v) s = .next t ∧ t.pending = s.pending ∧
    t.dev.top = { s.dev.top with run := true, stage := if s.dev.top.stage = 6 then 7 else s.dev.top.stage } ∧
    t.dev = { s.dev with regs := t.dev.regs, chk := t.dev.chk, top := t.dev.top } := by
  obtain ⟨r, hr⟩ := admits_some h
  obtain ⟨c, hx⟩ := exec_plain (x := .topRunWrite i v) rfl rfl h hr (by decide) (took_run ..)
  exact ⟨_, hx, rfl, rfl, rfl⟩

theorem clkmonCfgWrite_state {v : Word} (h : s.dev.admits i 0x010030 v) : ∃ t, exec (.clkmonCfgWrite i v) s = .next t ∧ PortFrame [0x010030] s t ∧
    t.dev.rdF 0x010030 24 5 = fld v 24 5 ∧ t.dev.rdF 0x010030 0 16 = fld v 0 16 := by
  obtain ⟨r, hr, hst⟩ := admits_desc h clkmon_stores
  obtain ⟨h24, h0⟩ := Bool.and_eq_true_iff.mp hst
  obtain ⟨c, hx⟩ := exec_plain (x := .clkmonCfgWrite i v) rfl rfl h hr (by decide) (took_clkmon ..)
  refine ⟨_, hx, ⟨rfl, rfl, fun a ha _ => rd_wr_ne _ _ fun e => ha (e ▸ List.mem_singleton_self _)⟩, ?_, ?_⟩
  · exact (congrArg (fld · 24 5) (rd_wr_same ..)).trans (fld_takeFields h24 ..)
  · exact (congrArg (fld · 0 16) (rd_wr_same ..)).trans (fld_takeFields h0 ..)

theorem anchorRelease_state (h : s.dev.admits i 0x020028 1) : ∃ t, exec (.anchorRelease i) s = .next t ∧ t.pending = s.pending ∧
    (∀ m, (t.dev.out m).mAnchor = false) ∧ (∀ k, (t.dev.vout k).mAnchor = false) ∧
    t.dev = { s.dev with regs := t.dev.regs, chk := t.dev.chk, outs := t.dev.outs, vouts := t.dev.vouts } := by
  obtain ⟨r, hr⟩ := admits_some h
  obtain ⟨c, hx⟩ := exec_plain (x := .anchorRelease i) rfl rfl h hr (by decide) (took_anchor ..)
  obtain ⟨ho, hv, hw⟩ := anchorFree_fields (s.dev.wr 0x020028 (takeFields r.fields 0 1 (s.dev.rd 0x020028)))
  have he := hw.eq
  generalize Dev.anchorFree _ = e at *
  exact ⟨_, hx, rfl, ho, hv, by rw [he]; rfl⟩

end

/-- Settles O22: each command is its follow-up on the device that holds the written word. -/
theorem registerCommands : Obligations.RegisterCommands := by
  intro i s
  refine ⟨fun v h hr => watchdogKick_state h hr, fun v h => exec_run rfl (regWrite_kickLate h), regViolAck_state, fun v h => topRunWrite_state h,
    fun h hc => hostifCtrlReset_state h hc, fun v h => clkmonCfgWrite_state h, anchorRelease_state, fun n v hb h => tsCaptureArm_state hb h,
    fun k h => ?_, fun r hoff h => ringEnable_state hoff h, fun r h => ringDisable_state h⟩
  obtain ⟨t, hx, hp, hlen, hne, hdev⟩ := hsPush_state h
  exact ⟨t, hx, hp, hlen, fun n hn => hne n fun e => hn (congrArg Fin.val e), hdev⟩

end Sys2Proof.Machine
end

section
/-! The Keeper's own words (chapters 12 and 16): its doorbell, its consumer indices and the logbook. -/

namespace Sys2Proof.Machine

set_option Elab.async false

variable {d : Dev} {s : State} {a : Nat} {v : Word}

/-! ### A full write to a Keeper-private word -/

theorem busWrite_private {k : PrivKind} (v : Word) (ha : a % 4 = 0) (hk : privKind a = some k) (hr : (regDesc a).any (fun r => r.kind = .hi40) = false)
    (h : d.admitsKeeper a) : d.busWrite .keeper a v 15 0 = d.privWrite .keeper a k v := by
  obtain ⟨hg, hs⟩ := h
  have hword : a / 4 * 4 = a := by omega
  simp [Dev.busWrite, hword, hg, hs, hk, hr]

/-- A write that its private word takes is answered on the device that it leads to. -/
theorem exec_private {x : Instr} {k : PrivKind} {e : Dev} (hx : exec x s = run (regWrite .keeper a v 15 0) s) (ha : a % 4 = 0)
    (hk : privKind a = some k) (hr : (regDesc a).any (fun r => r.kind = .hi40) = false) (h : s.dev.admitsKeeper a)
    (he : s.dev.privWrite .keeper a k v = (none, e)) : exec x s = .next { s with dev := e.respond .keeper none [] } :=
  exec_run hx (by rw [regWrite, busWrite_private v ha hk hr h, he])

/-- A write that its private word refuses is discarded. -/
theorem exec_private_fail {x : Instr} {k : PrivKind} {why : Reason} (hx : exec x s = run (regWrite .keeper a v 15 0) s) (ha : a % 4 = 0)
    (hk : privKind a = some k) (hr : (regDesc a).any (fun r => r.kind = .hi40) = false) (h : s.dev.admitsKeeper a)
    (he : s.dev.privWrite .keeper a k v = s.dev.fail .keeper a why v) : exec x s = .next { s with dev := s.dev.discard .keeper a why v } :=
  exec_run hx (regWrite_of_fail ((busWrite_private v ha hk hr h).trans he))

theorem privWrite_doorbell (h : v.toNat < 16) : d.privWrite .keeper 0x308800 .index v = (none, d.keeperOffer v.toNat) := if_pos h

theorem privWrite_evq (h : ciOk d.keeper.evq 256 v.toNat = true) : d.privWrite .keeper 0x308810 .index v =
    (none, d.modKeeper fun x => { x with evq := { x.evq with ci := v.toNat } }) := if_pos h

theorem privWrite_evq_bad (h : ciOk d.keeper.evq 256 v.toNat = false) : d.privWrite .keeper 0x308810 .index v = d.fail .keeper 0x308810 .range v :=
  if_neg (by rw [h]; decide)

theorem privWrite_anq (h : ciOk d.keeper.anq 64 v.toNat = true) : d.privWrite .keeper 0x308814 .index v =
    (none, d.modKeeper fun x => { x with anq := { x.anq with ci := v.toNat } }) := if_pos h

theorem privWrite_flq (h : ciOk d.keeper.flq 64 v.toNat = true) : d.privWrite .keeper 0x308818 .index v =
    (none, d.modKeeper fun x => { x with flq := { x.flq with ci := v.toNat } }) := if_pos h

theorem privWrite_logbook (h : 0xC0 ≤ d.rdF 0x30E000 0 8) : d.privWrite .keeper 0x30E01C .logbook v = (none, d.logbook v) := if_neg (by omega)

/-- A command-queue doorbell leaves its value as the last offered and fetched. -/
theorem keeperOffer_fields (j : Nat) (d : Dev) : (d.keeperOffer j).keeper.cqDb = j ∧ (d.keeperOffer j).keeper.cqIdx = j ∧
    (d.keeperOffer j).keeper.sup = d.keeper.sup :=
  have hk := KeeperStep.retireBad 16 .keeper (d.modKeeper fun k => { k with cqDb := j, cqIdx := j, cqFetched := k.cqFetched ++ d.keeperFetch j })
  ⟨hk.cqDb, hk.cqIdx, hk.sup⟩

theorem logbookBytes_length (w0 seq : Word) (f : Nat → Word) (w7 : Word) :
    ((w0 :: seq :: ((List.range 7).map f ++ [w7]).drop 2).flatMap wordBytes).length = 32 := rfl

/-- The logbook word leaves one log entry behind. -/
theorem logbook_within (w : Word) (d : Dev) : Within (lowScope [.regs, .bar4, .host] []) d (d.logbook w) ∧
    ((d.logbook w).ring 9).seq = (d.ring 9).seq + 1 := by
  unfold Dev.logbook
  extract_lets ws w0
  exact ⟨(Within.refl _ d).ringEntry (.inr rfl) (fun seq => (logbookBytes_length (setFld w0 31 1 0) seq _ w).le) ⟨rfl, rfl, rfl⟩, ringEntry_seq ..⟩

/-- Settles O25: each word is the private write of its address. -/
theorem keeperQueueCommands : Obligations.KeeperQueueCommands := by
  intro v s
  refine ⟨fun h hv => ?db, fun h hc => ?evq, fun h hc => ?anq, fun h hc => ?flq, fun h hc => ?bad, fun h h0 => ?log⟩
  case db =>
    exact ⟨_, exec_private rfl (by decide) rfl (by decide +kernel) h (privWrite_doorbell hv), rfl, keeperOffer_fields v.toNat s.dev⟩
  case evq =>
    exact ⟨_, exec_private rfl (by decide) rfl (by decide +kernel) h (privWrite_evq hc), ⟨rfl, rfl, fun _ _ _ => rfl⟩, rfl⟩
  case anq =>
    exact ⟨_, exec_private rfl (by decide) rfl (by decide +kernel) h (privWrite_anq hc), ⟨rfl, rfl, fun _ _ _ => rfl⟩, rfl⟩
  case flq =>
    exact ⟨_, exec_private rfl (by decide) rfl (by decide +kernel) h (privWrite_flq hc), ⟨rfl, rfl, fun _ _ _ => rfl⟩, rfl⟩
  case bad =>
    exact ⟨_, exec_private_fail rfl (by decide) rfl (by decide +kernel) h (privWrite_evq_bad hc), (discard_within ..).keeper, discard_reports ..⟩
  case log =>
    obtain ⟨hw, hseq⟩ := logbook_within v s.dev
    have hx := exec_private (x := .keeperLogbook .keeper v) (s := s) rfl (by decide) rfl (by decide +kernel) h (privWrite_logbook h0)
    generalize s.dev.logbook v = e at *
    have he := hw.eq
    refine ⟨_, hx, rfl, hseq, ?_, hw.eventFrame rfl fun _ h => h⟩
    exact congrArg (fun d : Dev => { d with chk := (e.respond .keeper none []).chk }) he

end Sys2Proof.Machine
end

section
/-! The arbiter (R319, R320), the commands that wait, NOP and QUERY_STATE (chapter 12). -/

namespace Sys2Proof.Machine

set_option Elab.async false

variable {d : Dev} {s : State} {c : Cmd} {op : Nat}

/-! ### What the arbiter takes -/

/-- The first element of a list that satisfies `p` is the one before which none does. -/
theorem find?_of_takeWhile {α : Type} [DecidableEq α] {p : α → Bool} {a : α} {l : List α} (ha : a ∈ l) (hp : p a = true)
    (hb : ∀ x ∈ l.takeWhile (fun x => x ≠ a), p x = false) : l.find? p = some a := by
  induction l with
  | nil => exact absurd ha List.not_mem_nil
  | cons x l ih =>
    by_cases hx : x = a
    · rw [hx, List.find?_cons_of_pos hp]
    · rw [List.takeWhile_cons_of_pos (by simpa using hx)] at hb
      have hpx : p x = false := hb x List.mem_cons_self
      rw [List.find?_cons_of_neg (by simp [hpx])]
      exact ih ((List.mem_cons.mp ha).resolve_left (Ne.symm hx)) fun y hy => hb y (List.mem_cons_of_mem _ hy)

theorem mem_cmdSources (src : CmdSrc) : src ∈ cmdSources := by
  cases src with
  | keeper => decide
  | cq q => revert q; decide

/-- The arbiter takes a source that can be taken. -/
theorem canTake_of_arbiter {src : CmdSrc} (h : d.arbiter = some src) : d.canTake src = true := by
  have hmem : src ∈ cmdSources.filter fun s => d.canTake s := by
    unfold Dev.arbiter at h
    extract_lets l at h
    split at h
    next hf => exact Option.some.inj h ▸ List.mem_of_find?_eq_some hf
    next => exact List.mem_of_head? h
  exact (List.mem_filter.mp hmem).2

theorem canTake_of_takes (h : d.takes op c = true) : d.canTake c.src = true ∧ d.headCmd c.src = some (op, c) := by
  obtain ⟨ha, hh⟩ := Bool.and_eq_true_iff.mp h
  exact ⟨canTake_of_arbiter (of_decide_eq_true ha), of_decide_eq_true hh⟩

theorem canTake_iff (hh : d.headCmd c.src = some (op, c)) : d.canTake c.src = true ↔ d.accepts c.src = true ∧ d.objectHeld op c = false := by
  simp [Dev.canTake, hh]

/-- A command is not taken whose source is not ready, which is not the oldest, or whose object is held. -/
theorem takes_false (h : d.accepts c.src = false ∨ d.headCmd c.src ≠ some (op, c) ∨ d.objectHeld op c = true ∨ d.takes op c = false) :
    d.takes op c = false := by
  refine Bool.eq_false_iff.mpr fun ht => ?_
  obtain ⟨hc, hh⟩ := canTake_of_takes ht
  obtain ⟨ha, ho⟩ := (canTake_iff hh).mp hc
  rcases h with h | h | h | h
  · exact absurd (h.symm.trans ha) (by decide)
  · exact h hh
  · exact absurd (h.symm.trans ho) (by decide)
  · exact absurd (h.symm.trans ht) (by decide)

theorem takes_of_arbiter (h : d.arbiter = some c.src) (hh : d.headCmd c.src = some (op, c)) : d.takes op c = true := by
  simp [Dev.takes, h, hh]

/-- Without a source passed over 256 times, the first in the fixed order is taken. -/
theorem arbiter_first {src : CmdSrc} (hc : d.canTake src = true) (hl : ∀ x, d.canTake x = true → d.host.passed.get (srcIdx x) < 256)
    (hb : ∀ x ∈ sourcesBefore src, d.canTake x = false) : d.arbiter = some src := by
  have hnone : (cmdSources.filter fun s => d.canTake s).find? (fun s => 256 ≤ d.host.passed.get (srcIdx s)) = none := by
    refine List.find?_eq_none.mpr fun x hx => ?_
    have := hl x (List.mem_filter.mp hx).2
    simpa using this
  unfold Dev.arbiter
  simp only [hnone, List.head?_filter]
  exact find?_of_takeWhile (mem_cmdSources src) hc hb

/-- Of the sources passed over 256 times, the first in the fixed order is taken. -/
theorem arbiter_passed {src : CmdSrc} (hc : d.canTake src = true) (hp : 256 ≤ d.host.passed.get (srcIdx src))
    (hb : ∀ x ∈ sourcesBefore src, d.canTake x = true → d.host.passed.get (srcIdx x) < 256) : d.arbiter = some src := by
  have hsome : (cmdSources.filter fun s => d.canTake s).find? (fun s => 256 ≤ d.host.passed.get (srcIdx s)) = some src := by
    rw [List.find?_filter]
    refine find?_of_takeWhile (mem_cmdSources src) (by simp [hc, hp]) fun x hx => ?_
    cases hx' : d.canTake x with
    | false => simp
    | true => simpa using hb x hx hx'
  unfold Dev.arbiter
  simp only [hsome]

/-! ### Commands that wait -/

/-- Every ring command is the arbiter around its own effect. -/
theorem exec_ringCommand (c : Cmd) (data : List Byte) (stop : Option Nat) :
    ∀ e ∈ ringCommands c data stop, ∃ f, ∀ s, exec e.2 s = run (command e.1 c f) s := by
  unfold ringCommands
  repeat refine List.forall_mem_cons.mpr ⟨⟨_, fun _ => rfl⟩, ?_⟩
  exact fun _ h => absurd h List.not_mem_nil

theorem exec_ringCommand_waits {data : List Byte} {stop : Option Nat} {e : Nat × Instr} (he : e ∈ ringCommands c data stop)
    (h : s.dev.accepts c.src = false ∨ s.dev.headCmd c.src ≠ some (e.1, c) ∨ s.dev.objectHeld e.1 c = true ∨ s.dev.takes e.1 c = false) :
    exec e.2 s = .next s := by
  obtain ⟨f, hx⟩ := exec_ringCommand c data stop e he
  rw [hx]
  exact run_same (command_waits (takes_false h))

theorem exec_command_held {x : Instr} {f : Dev → Option CmdOut × Dev} (hx : exec x s = run (command op c f) s) (h : s.dev.objectHeld op c = true) :
    exec x s = .next s := by
  rw [hx]
  exact run_same (command_waits (takes_false (.inr (.inr (.inl h)))))

/-! ### The sources passed over -/

theorem srcIdx_injective {a b : CmdSrc} (h : srcIdx a = srcIdx b) : a = b := by
  have hv := congrArg Fin.val h
  cases a with
  | keeper => cases b with
    | keeper => rfl
    | cq q => exact absurd hv (by simp only [srcIdx]; omega)
  | cq p => cases b with
    | keeper => exact absurd hv (by simp only [srcIdx]; omega)
    | cq q => exact congrArg CmdSrc.cq (Fin.ext hv)

/-- One source at a time, each slot is set from its own value. -/
theorem foldl_set_get {α : Type} (g : CmdSrc → α → α) (x : CmdSrc) : ∀ (l : List CmdSrc) (v : Vector α 5), l.Nodup →
    (l.foldl (fun v s => v.set (srcIdx s) (g s (v.get (srcIdx s)))) v).get (srcIdx x) =
      if x ∈ l then g x (v.get (srcIdx x)) else v.get (srcIdx x) := by
  intro l
  induction l with
  | nil => exact fun v _ => by simp
  | cons y l ih =>
    intro v hn
    obtain ⟨hy, hn⟩ := List.nodup_cons.mp hn
    rw [List.foldl_cons, ih _ hn]
    by_cases hx : x = y
    · rw [if_neg (hx ▸ hy), if_pos (hx ▸ List.mem_cons_self), hx, get_set_same]
    · rw [get_set_ne v _ fun e => hx (srcIdx_injective e)]
      simp [hx]

theorem takeFetched_passed (src : CmdSrc) (d : Dev) : (d.takeFetched src).host.passed = d.host.passed := by
  unfold Dev.takeFetched
  cases src <;> rfl

theorem begun_passed (c : Cmd) (op : Nat) (d : Dev) : (d.begun c op).host.passed = (d.passOver c.src).host.passed := takeFetched_passed c.src _

theorem passOver_get (src x : CmdSrc) (d : Dev) : (d.passOver src).host.passed.get (srcIdx x) =
    if x ≠ src ∧ d.canTake x = true then d.host.passed.get (srcIdx x) + 1 else 0 := by
  refine (foldl_set_get (fun s n => if s ≠ src && d.canTake s then n + 1 else 0) x cmdSources d.host.passed (by decide)).trans ?_
  rw [if_pos (mem_cmdSources x)]
  simp only [Bool.and_eq_true, decide_eq_true_eq]

/-! ### NOP and QUERY_STATE -/

theorem paramFail_bad {used : List Param} {i : Nat} {l : List Nat} : paramFail c used (i :: l) ≠ none := by
  simp [paramFail, lowest]

/-- The fields that QUERY_STATE uses. -/
def queryUsed : List Param := [(0, 0, 4), (0, 16, 6)] ++ wholes 1 3

theorem queryBody_none (h : queryWindow (pf c 0 0 4) = none) : queryBody c = checked c queryUsed [0] fun d => (.ok, d) := by
  funext d
  unfold queryBody
  simp only [h]
  rfl

/-- QUERY_STATE of a listed type: the registers of the object's window to its buffer. -/
def Dev.queried (c : Cmd) (base size : Nat) (d : Dev) : Dev :=
  d.memWrite (pf c 1 0 1 = 1) (bufAddr c 1)
    ((List.range (size / 4)).flatMap fun k => wordBytes (d.queryWord (base + size * pf c 0 16 6 + 4 * k)))

theorem queryBody_some {base size count : Nat} (h : queryWindow (pf c 0 0 4) = some (base, size, count)) : queryBody c =
    checked c queryUsed (failIf (count ≤ pf c 0 16 6 || pf c 3 0 32 < size) 0) fun d => (.ok size, d.queried c base size) := by
  funext d
  unfold queryBody
  simp only [h]
  rfl

/-- Settles O53: the arbiter's choice decides what waits, and a taken QUERY_STATE is its body. -/
theorem commandsThatWait : Obligations.CommandsThatWait := by
  intro c s
  refine ⟨fun data stop e he h => exec_ringCommand_waits he h, fun data stop h => ?chart, fun data stop h => ?fw, fun h => ?port, fun h => ?pwr,
    fun op ha hh ho => ?take, fun op x => (congrArg (·.get (srcIdx x)) (begun_passed ..)).trans (passOver_get ..), ?nop, fun h => ?none,
    fun base size count h => ?some⟩
  case chart =>
    have hheld : ∀ op, objClass op = 2 → s.dev.objectHeld op c = true := fun op hop => by simp [Dev.objectHeld, hop, h]
    simp only [List.forall_mem_cons]
    exact ⟨exec_command_held rfl (hheld 0x70 rfl), exec_command_held rfl (hheld 0x71 rfl), exec_command_held rfl (hheld 0x72 rfl),
      exec_command_held rfl (hheld 0x73 rfl), exec_command_held rfl (hheld 0x74 rfl), fun _ h => absurd h List.not_mem_nil⟩
  case fw =>
    have hheld : ∀ op, objClass op = 3 → s.dev.objectHeld op c = true := fun op hop => by simp [Dev.objectHeld, hop, h]
    exact ⟨exec_command_held rfl (hheld 0x80 rfl), exec_command_held rfl (hheld 0x81 rfl)⟩
  case port =>
    have hheld : ∀ op, op = 0x50 ∨ op = 0x54 → s.dev.objectHeld op c = true := fun op hop => by
      refine Bool.or_eq_true_iff.mpr (.inr (Bool.and_eq_true_iff.mpr ⟨?_, h⟩))
      simpa using hop
    exact ⟨exec_command_held rfl (hheld 0x54 (.inr rfl)), exec_command_held rfl (hheld 0x50 (.inl rfl))⟩
  case pwr =>
    have hheld : ∀ op, objClass op = 4 → s.dev.objectHeld op c = true := fun op hop => by
      rcases h with h | h <;> simp [Dev.objectHeld, hop, h]
    exact ⟨exec_command_held rfl (hheld 0x90 rfl), exec_command_held rfl (hheld 0x91 rfl)⟩
  case take =>
    have hc := (canTake_iff hh).mpr ⟨ha, ho⟩
    exact ⟨fun _ hl hb => takes_of_arbiter (arbiter_first hc hl hb) hh, fun hp hb => takes_of_arbiter (arbiter_passed hc hp hb) hh⟩
  case nop => exact serves_checked (fun d => (.ok, d)) rfl fun _ => ⟨rfl, rfl⟩
  case none =>
    exact serves_checked (bad := [0]) (fun d => (.ok, d)) (congrArg (fun f => run (command 0x02 c f) s) (queryBody_none h)) fun hn =>
      absurd hn paramFail_bad
  case some =>
    exact serves_checked (fun d => (.ok size, d.queried c base size)) (congrArg (fun f => run (command 0x02 c f) s) (queryBody_some h)) fun _ =>
      ⟨rfl, rfl⟩

end Sys2Proof.Machine
end

section
/-! What the operations of a channel leave of the channels: the one they are about, as a function of what it was, and the others. -/

namespace Sys2Proof.Machine

set_option Elab.async false

variable {d d₀ d' : Dev} {c : Fin 16} {x : Chan}

/-! ### The channels after a change of one -/

/-- Of the channels, `d'` differs from `d` in channel `c` alone, which is `x`. -/
def SetsChan (c : Fin 16) (x : Chan) (d d' : Dev) : Prop := d'.chans = d.chans.set c x

theorem SetsChan.refl (c : Fin 16) (d : Dev) : SetsChan c (d.chan c) d d := (set_get d.chans c).symm

theorem SetsChan.same (h : SetsChan c x d d') : d'.chan c = x := (congrArg (·.get c) h).trans (get_set_same ..)

theorem SetsChan.ne (h : SetsChan c x d d') {k : Fin 16} (hk : k ≠ c) : d'.chan k = d.chan k := (congrArg (·.get k) h).trans (get_set_ne _ _ hk)

theorem SetsChan.trans {y : Chan} (h : SetsChan c x d₀ d) (h' : SetsChan c y d d') : SetsChan c y d₀ d' := by
  unfold SetsChan at *
  rw [h', h, Vector.set_set]

theorem SetsChan.side (h : SetsChan c x d₀ d) (hs : d'.chans = d.chans) : SetsChan c x d₀ d' := hs.trans h

theorem SetsChan.modChan (h : SetsChan c x d₀ d) {f : Chan → Chan} : SetsChan c (f x) d₀ (d.modChan c f) := by
  rw [← h.same]
  exact h.trans rfl

theorem SetsChan.modLoop (h : SetsChan c x d₀ d) {f : Loop → Loop} : SetsChan c { x with loop := f x.loop } d₀ (d.modLoop c f) := h.modChan
theorem SetsChan.modTrack (h : SetsChan c x d₀ d) {f : Track → Track} : SetsChan c { x with track := f x.track } d₀ (d.modTrack c f) := h.modChan
theorem SetsChan.modSw (h : SetsChan c x d₀ d) {f : Switching → Switching} : SetsChan c { x with sw := f x.sw } d₀ (d.modSw c f) := h.modChan
theorem SetsChan.modHo (h : SetsChan c x d₀ d) {f : Holdover → Holdover} : SetsChan c { x with ho := f x.ho } d₀ (d.modHo c f) := h.modChan
theorem SetsChan.modSel (h : SetsChan c x d₀ d) {f : Select → Select} : SetsChan c { x with sel := f x.sel } d₀ (d.modSel c f) := h.modChan

/-- Everything but the channels. -/
def asideChans : Scope :=
  partScope [.regs, .bar4, .bar4Gen, .draws, .top, .chk, .host, .clk, .pwr, .watch, .keeper, .fw, .otp, .chart, .buoys, .pairs, .cycle, .lans, .outs,
    .vouts, .ts, .ports, .txts, .clients, .pilot, .tide]

theorem SetsChan.within (h : SetsChan c x d₀ d) (hw : Within asideChans d d') : SetsChan c x d₀ d' := h.side hw.chans

theorem SetsChan.pub40 (h : SetsChan c x d₀ d) {off : Nat} {v : Int} : SetsChan c x d₀ (d.pub40 off v) :=
  h.within ((Within.refl _ d).pub40)
theorem SetsChan.bump (h : SetsChan c x d₀ d) {off lo width : Nat} : SetsChan c x d₀ (d.bump off lo width) := h.side rfl
theorem SetsChan.event (h : SetsChan c x d₀ d) {kind obj blk : Nat} {data : List Byte} : SetsChan c x d₀ (d.event kind obj blk data) :=
  h.within (Within.event (Within.refl _ d))
theorem SetsChan.ite {p : Prop} [Decidable p] {a b : Dev} (ha : SetsChan c x d₀ a) (hb : SetsChan c x d₀ b) :
    SetsChan c x d₀ (if p then a else b) := by
  split
  · exact ha
  · exact hb

/-! ### States and publishing -/

theorem SetsChan.chanTo (h : SetsChan c x d₀ d) {st : ChState} {row : Nat} : SetsChan c { x with st := st } d₀ (d.chanTo c st row) := by
  unfold Dev.chanTo
  extract_lets old d1 d2 d3 d4 d5 d6 d7
  have h1 : SetsChan c { x with st := st } d₀ d1 := h.modChan
  have w3 : Within asideChans d1 d3 := (Within.refl _ d1).stateEv.setCond.setCond
  have w4 : Within asideChans d1 d4 := .ite (fun _ => w3) fun _ => w3.occur
  have w5 : Within asideChans d1 d5 := .ite (fun _ => w4.bump) fun _ => w4
  have w6 : Within asideChans d1 d6 := .ite (fun _ => w5.bump.anchorClear) fun _ => w5
  have w7 : Within asideChans d1 d7 := .ite (fun _ => w6.bump) fun _ => w6
  split
  next hst =>
    have hx : { x with st := st } = x := by
      rw [← hst, ← h.same]
    rw [hx]
    exact h
  next => exact h1.within (.ite (fun _ => w7.chanOutputs) fun _ => w7)

/-- The channel with y of its b and p. -/
def Chan.published (x : Chan) : Chan := { x with loop := { x.loop with y := sat40 (roundDiv (x.loop.b + x.loop.p) two24) } }

theorem SetsChan.pubPhisw (h : SetsChan c x d₀ d) : SetsChan c x d₀ (d.pubPhisw c) := h.pub40

theorem SetsChan.pubY (h : SetsChan c x d₀ d) : SetsChan c x.published d₀ (d.pubY c) := by
  unfold Dev.pubY
  extract_lets l y d1 d2
  have h1 : SetsChan c { x with loop := { x.loop with y := y } } d₀ d1 := h.modLoop
  have hy : y = sat40 (roundDiv (x.loop.b + x.loop.p) two24) := by
    unfold y l
    rw [h.same]
  rw [hy] at h1
  exact (h1.pub40.pub40).within ((Within.refl _ _).forFin fun _ _ h => h.onlyIf fun _ h => h.modLan)

/-! ### Leaving a slot -/

/-- The channel whose switch has ended without its completion. -/
def Chan.aborted (x : Chan) : Chan := { x with sw := { x.sw with switching := false, await := false, due := false, pass := false } }

theorem SetsChan.switchAbort (h : SetsChan c x d₀ d) : SetsChan c x.aborted d₀ (d.switchAbort c) := by
  unfold Dev.switchAbort
  extract_lets y d1
  have h1 : SetsChan c x d₀ d1 := .ite h.pub40.bump h
  exact h1.modSw

/-- The phase detector of a channel that no longer tracks. -/
def Track.stopped (t : Track) : Track :=
  { t with phValid := false, phSat := false, evs := [], fpull := false, winE := none, resid := [], lockRun := false, slopeLim := false }

/-- The channel that no longer tracks. -/
def Chan.stopped (keep : Bool) (x : Chan) : Chan :=
  { x.aborted with
    track := x.track.stopped
    loop := { x.loop with p := 0, phiSw := if keep && !x.sw.pass then x.loop.phiSw else 0, vSw := 0 } }

theorem SetsChan.stopTracking (h : SetsChan c x d₀ d) {keep : Bool} : SetsChan c (x.stopped keep) d₀ (d.stopTracking c keep) := by
  unfold Dev.stopTracking
  extract_lets stays d1 d2
  have hs : stays = (keep && !x.sw.pass) := by
    unfold stays
    rw [h.same]
  have h2 : SetsChan c _ d₀ d2 := (SetsChan.switchAbort h).modTrack (f := Track.stopped)
  rw [hs]
  exact h2.modLoop.pubPhisw

/-- The channel in no disagreement of equal ranks. -/
def Chan.unpartnered (x : Chan) : Chan := { x with sel := { x.sel with partner := none } }

theorem SetsChan.partnerClear (h : SetsChan c x d₀ d) : SetsChan c x.unpartnered d₀ (d.partnerClear c) := by
  unfold Dev.partnerClear
  extract_lets s
  have hs : s = x.sel := congrArg Chan.sel h.same
  cases hp : s.partner with
  | none =>
    have hx : x.unpartnered = x := by
      rw [Chan.unpartnered, ← hp, hs]
    rw [hx]
    exact h
  | some o => exact h.modSel.event

/-- The channel without its history. -/
def Chan.noHistory (x : Chan) : Chan := { x with ho := { x.ho with run := false, whole := false, sum := 0, n := 0, samples := [], histS := 0 } }

theorem SetsChan.histClear (h : SetsChan c x d₀ d) : SetsChan c x.noHistory d₀ (d.histClear c) := h.modHo

/-- What a freeze toward `frz` notes for its prediction. -/
def Holdover.frozen (frz : Int) (base : Int × BitVec 2 × Nat × Option Int) (h : Holdover) : Holdover :=
  { h with bFrz := frz, base := base.1, baseUsed := base.2.1, tcenUs := base.2.2.1, tempB := base.2.2.2, tau := 0, stretchFrom := none, whole := false }

/-- The channel as a freeze leaves it. -/
def Chan.frozen (frz : Int) (base : Int × BitVec 2 × Nat × Option Int) (x : Chan) : Chan :=
  let y := x.stopped false
  Chan.published { y with loop := { y.loop with target := frz }, ho := y.ho.frozen frz base }

theorem SetsChan.freezeAt (h : SetsChan c x d₀ d) {frz : Int} {base : Int × BitVec 2 × Nat × Option Int} :
    SetsChan c (x.frozen frz base) d₀ (d.freezeAt c frz base) := by
  unfold Dev.freezeAt
  extract_lets d1 d2 d3
  have h2 : SetsChan c _ d₀ d2 := ((SetsChan.stopTracking h (keep := false)).modLoop (f := fun l => { l with target := frz })).modHo
    (f := Holdover.frozen frz base)
  have h3 : SetsChan c _ d₀ d3 := h2.pub40.bump
  exact h3.pubY

/-- The channel by which loss row it leaves its slot. -/
def Chan.lossRow (valid : Bool) (frz : Int) (base : Int × BitVec 2 × Nat × Option Int) (x : Chan) : Chan :=
  if x.st = .acquiring && !x.everLocked then
    { (Chan.published (Chan.noHistory (let y := x.stopped false; { y with ho := { y.ho with stretchFrom := none } }))) with st := .freeRun }
  else if valid then { x.frozen frz base with st := .holdover }
  else { (x.frozen frz base).noHistory with st := .lost }

theorem SetsChan.lossRows (h : SetsChan c x d₀ d) {frz : Int} {base : Int × BitVec 2 × Nat × Option Int} :
    SetsChan c (x.lossRow (d.predValid c) frz base) d₀ (d.lossRows c frz base) := by
  unfold Dev.lossRows
  extract_lets y
  have hy : y = x := h.same
  unfold Chan.lossRow
  rw [hy]
  split
  · exact (((SetsChan.stopTracking h).modHo).histClear.pubY).chanTo
  split
  · exact (SetsChan.freezeAt h).chanTo
  · exact (SetsChan.freezeAt h).histClear.chanTo

theorem lossRow_sel (valid : Bool) (frz : Int) (base : Int × BitVec 2 × Nat × Option Int) (x : Chan) : (x.lossRow valid frz base).sel = x.sel := by
  unfold Chan.lossRow
  split
  · rfl
  split
  · rfl
  · rfl

/-- A channel that leaves its slot follows none. -/
theorem leaveSlot_chan (c : Fin 16) (orphan : Bool) (d : Dev) : ∃ x, SetsChan c x d (d.leaveSlot c orphan) ∧ x.sel = { (d.chan c).sel with
    partner := none, cur := none, orphaned := if engaged (d.chan c) then orphan else orphan && (d.chan c).sel.cur.isSome } := by
  have h1 := (SetsChan.refl c d).partnerClear
  unfold Dev.leaveSlot
  extract_lets y d1
  split
  · exact ⟨_, SetsChan.lossRows h1.modSel, lossRow_sel ..⟩
  · exact ⟨_, h1.modSel, rfl⟩

/-! ### Taking a slot -/

theorem coefs_chan (h : SetsChan c x d₀ d) : ∃ y, SetsChan c y d₀ (d.coefs c) ∧ y.sel = x.sel ∧ y.sw = x.sw ∧ y.st = x.st ∧ y.loop = x.loop := by
  unfold Dev.coefs
  extract_lets t bw damp t3r clamp ulps
  refine ⟨{ x with tuWas := t, track := { x.track with bwClamp := clamp } }, ?_, rfl, rfl, rfl, rfl⟩
  exact SetsChan.modChan (h.within (((Within.refl _ d).wr).wr).wr)

theorem startPull_chan (h : SetsChan c x d₀ d) : ∃ y, SetsChan c y d₀ (d.startPull c) ∧ y.sel = x.sel :=
  ⟨_, (h.modTrack.modLoop).histClear, rfl⟩

/-- A channel that follows a slot follows it by the source of its selection, and is no orphan. -/
theorem follow_chan (c : Fin 16) (n : Fin 64) (src : SelSrc) (d : Dev) : ∃ x, SetsChan c x d (d.follow c n src) ∧
    x.sel = { (d.chan c).sel with partner := none, cur := some n, src := src, orphaned := false } := by
  unfold Dev.follow
  extract_lets y cls d1 d2 d3 d4 phase d5
  have h3 : SetsChan c _ d d3 := ((SetsChan.refl c d).partnerClear.modSel.modChan).modTrack
  obtain ⟨x4, h4, hs4⟩ : ∃ x, SetsChan c x d d4 ∧ x.sel = { (d.chan c).sel with partner := none, cur := some n, src := src, orphaned := false } := by
    unfold d4
    split
    · obtain ⟨x, hx, hs, -⟩ := coefs_chan h3
      exact ⟨x, hx, hs⟩
    · exact ⟨_, h3, rfl⟩
  have h5 : SetsChan c _ d d5 := h4.modSw
  cases y.st with
  | locked => exact ⟨_, h5.chanTo, hs4⟩
  | acquiring => exact ⟨_, h5, hs4⟩
  | holdover => exact ⟨_, h5.modHo.chanTo, hs4⟩
  | lost =>
    obtain ⟨x, hx, hs⟩ := startPull_chan h5
    exact ⟨_, hx.chanTo, hs.trans hs4⟩
  | freeRun =>
    obtain ⟨x, hx, hs⟩ := startPull_chan h5
    exact ⟨_, hx.chanTo, hs.trans hs4⟩

theorem SetsChan.disarm (h : SetsChan c x d₀ d) : SetsChan c { x with sel := { x.sel with armed := none } } d₀ (d.disarm c) :=
  h.modSel.within (Within.refl _ _).wrF

end Sys2Proof.Machine
end

section
/-! What selection, the autopilot, qualification and the activity detector leave of the channels and of the slots. -/

namespace Sys2Proof.Machine

set_option Elab.async false

variable {d d₀ d' : Dev} {c : Fin 16} {n : Fin 64} {x : Buoy}

/-! ### Selection and the autopilot -/

theorem asideChans_disarm (c : Fin 16) (d : Dev) : ∃ x, SetsChan c x d (d.disarm c) ∧ x.sel = { (d.chan c).sel with armed := none } :=
  ⟨_, (SetsChan.refl c d).disarm, rfl⟩

/-- A selection that is not refused makes its slot the current one; a refused one leaves it. -/
theorem selectSlot_chan (c : Fin 16) (n : Fin 64) (force auto : Bool) (d : Dev) : ∃ x, SetsChan c x d (d.selectSlot c n force auto).2 ∧
    (((d.selectSlot c n force auto).1 = none ∧ x.sel.cur = some n) ∨ ((d.selectSlot c n force auto).1 ≠ none ∧ x.sel.cur = (d.chan c).sel.cur)) := by
  unfold Dev.selectSlot
  extract_lets s src d1 d2
  obtain ⟨x, h1, hcur⟩ : ∃ x, SetsChan c x d d1 ∧ x.sel.cur = some n := by
    unfold d1
    split
    next he => exact ⟨_, (SetsChan.refl c d).modSel, he⟩
    next =>
      obtain ⟨x, hx, hs⟩ := follow_chan c n src d
      exact ⟨x, hx, congrArg Select.cur hs⟩
  have h2 : SetsChan c x d d2 := h1.bump
  split
  · exact ⟨_, (SetsChan.refl c d).disarm, .inr ⟨Option.some_ne_none _, rfl⟩⟩
  split
  · exact ⟨_, (SetsChan.refl c d).disarm, .inr ⟨Option.some_ne_none _, rfl⟩⟩
  split
  · exact ⟨_, .refl c d, .inr ⟨Option.some_ne_none _, rfl⟩⟩
  split
  next he =>
    exact ⟨_, .refl c d, .inl ⟨rfl, of_decide_eq_true (Bool.and_eq_true_iff.mp he).1⟩⟩
  next =>
    split
    · exact ⟨_, (SetsChan.disarm h2).within ((Within.refl _ _).occur.logEnt), .inl ⟨rfl, hcur⟩⟩
    · exact ⟨_, h2, .inl ⟨rfl, hcur⟩⟩

theorem bestSlot_isQual {bound : Nat} {s : Fin 64} (h : d.bestSlot c bound = some s) : d.isQual s = true := by
  have hall : ∀ (l : List (Fin 64)) (a : Option (Fin 64) × Nat), (∀ t, a.1 = some t → d.isQual t = true) → ∀ t,
      (l.foldl (fun (a : Option (Fin 64) × Nat) s =>
        let r := d.rank c s
        if r = 0 || !d.isQual s || !d.slotThere s || d.disagree s || a.2 ≤ r then a else (some s, r)) a).1 = some t → d.isQual t = true := by
    intro l
    induction l with
    | nil => exact fun _ h => h
    | cons y l ih =>
      refine fun a ha => ih _ fun t ht => ?_
      dsimp only at ht
      split at ht
      · exact ha t ht
      next hc =>
        simp only [Bool.or_eq_true, not_or, Bool.not_eq_true', Bool.not_eq_false] at hc
        obtain ⟨⟨⟨⟨-, hq⟩, -⟩, -⟩, -⟩ := hc
        exact Option.some.inj ht ▸ hq
  exact hall _ (none, bound) (fun _ h => absurd h (by simp)) s h

/-- The autopilot leaves a channel with its slot, or with a QUALIFIED one. -/
theorem autopilot_chan (c : Fin 16) (d : Dev) : ∃ x, SetsChan c x d (d.autopilot c) ∧
    (x.sel.cur = (d.chan c).sel.cur ∨ ∃ s, d.isQual s = true ∧ x.sel.cur = some s) := by
  unfold Dev.autopilot
  split
  · cases hb : d.bestSlot c 16 with
    | none => exact ⟨_, .refl c d, .inl rfl⟩
    | some s =>
      dsimp only
      obtain ⟨x, hx, hor⟩ := selectSlot_chan c s false true d
      split
      next he =>
        exact ⟨x, hx.within (Within.refl _ _).logEnt, .inr ⟨s, bestSlot_isQual hb, hor.elim (fun h => h.2) fun h => absurd he h.1⟩⟩
      next p he => exact ⟨x, hx, .inl (hor.elim (fun h => absurd (h.1.symm.trans he) (by simp)) fun h => h.2)⟩
  · exact ⟨_, .refl c d, .inl rfl⟩

theorem autopilot_inactive (h : d.apActive = false) (c : Fin 16) : d.autopilot c = d := if_neg (by simp [h])

theorem autopilot_settled (h : (d.chan c).sel.orphaned = false) : d.autopilot c = d := if_neg (by simp [h])

theorem autopilotAll_inactive (h : d.apActive = false) : d.autopilotAll = d := by
  have hall : ∀ l : List (Fin 16), l.foldl (fun d c => d.autopilot c) d = d := by
    intro l
    induction l with
    | nil => rfl
    | cons c l ih => rw [List.foldl_cons, autopilot_inactive h, ih]
  exact hall _

/-! ### A slot that no channel follows -/

/-- No channel follows slot `n`. -/
def Dev.Unfollowed (n : Fin 64) (d : Dev) : Prop := ∀ c, (d.chan c).sel.cur ≠ some n

theorem unfollowed_iff : d.followed n = false ↔ d.Unfollowed n := by
  simp [Dev.followed, Dev.Unfollowed]

theorem Dev.Unfollowed.congr (h : d.Unfollowed n) (hc : ∀ c, (d'.chan c).sel.cur = (d.chan c).sel.cur) : d'.Unfollowed n := fun c => by
  rw [hc]
  exact h c

theorem Dev.Unfollowed.of_chans (h : d.Unfollowed n) (hc : d'.chans = d.chans) : d'.Unfollowed n :=
  h.congr fun c => congrArg (fun v : Vector Chan 16 => (v.get c).sel.cur) hc

/-- What channels and the autopilot do as they run, with the slots left as they are. -/
def runScope : Scope := quietScope runParts

theorem runScope_runs : runScope.Runs := quietScope_runs (by decide)

theorem isQual_of_buoys (h : d'.buoys = d.buoys) (n : Fin 64) : d'.isQual n = d.isQual n :=
  congrArg (fun v : Vector Buoy 64 => decide ((v.get n).qual.st = .qualified)) h

/-- A slot that is not QUALIFIED is not selected by the autopilot. -/
theorem Dev.Unfollowed.autopilot (h : d.Unfollowed n) (hq : d.isQual n = false) (c : Fin 16) : (d.autopilot c).Unfollowed n := by
  intro k
  obtain ⟨x, hx, hor⟩ := autopilot_chan c d
  by_cases hk : k = c
  · rw [hk, hx.same]
    rcases hor with he | ⟨s, hs, he⟩
    · rw [he]
      exact h c
    · rw [he]
      intro e
      rw [Option.some.inj e, hq] at hs
      exact absurd hs (by decide)
  · rw [hx.ne hk]
    exact h k

theorem Dev.Unfollowed.autopilotFor (h : d.Unfollowed n) (hq : d.isQual n = false) (l : List (Fin 16)) : (d.autopilotFor l).Unfollowed n := by
  induction l generalizing d with
  | nil => exact h
  | cons c l ih =>
    have hw : Within runScope d (d.autopilot c) := (Within.refl _ d).autopilot runScope_runs
    exact ih (h.autopilot hq c) ((isQual_of_buoys hw.buoys n).trans hq)

/-- Channel `c` leaves slot `n` where it follows it. -/
def Dev.lossTo (n : Fin 64) (c : Fin 16) (d : Dev) : Dev := onlyIf ((d.chan c).sel.cur = some n) (Dev.leaveSlot c true) d

theorem signalLoss_eq (n : Fin 64) (d : Dev) : d.signalLoss n = forFin 16 (Dev.lossTo n) d := rfl

theorem lossTo_chan (n : Fin 64) (c : Fin 16) (d : Dev) : ∃ x, SetsChan c x d (d.lossTo n c) ∧ x.sel.cur ≠ some n := by
  unfold Dev.lossTo onlyIf
  split
  · obtain ⟨x, hx, hs⟩ := leaveSlot_chan c true d
    exact ⟨x, hx, by rw [hs]; exact (Option.some_ne_none n).symm⟩
  next hc => exact ⟨_, .refl c d, fun e => hc (decide_eq_true e)⟩

/-- The loss indication leaves no channel with the slot. -/
theorem signalLoss_unfollowed (n : Fin 64) (d : Dev) : (d.signalLoss n).Unfollowed n := by
  rw [signalLoss_eq]
  refine forFin_all (P := fun c d => (d.chan c).sel.cur ≠ some n) (fun c d => ?_) (fun c k d h => ?_) d
  · obtain ⟨x, hx, hcur⟩ := lossTo_chan n c d
    rwa [hx.same]
  · obtain ⟨x, hx, hcur⟩ := lossTo_chan n c d
    by_cases hk : k = c
    · rwa [hk, hx.same]
    · rwa [hx.ne hk]

/-! ### Marks and partners alone -/

/-- The channel with another partner and other outlier marks. -/
def Chan.marked (p : Option (Fin 64)) (o : List (Fin 64 × Fin 64)) (x : Chan) : Chan := { x with sel := { x.sel with partner := p, outliers := o } }

/-- Of the channels, only partners and outlier marks differ. -/
def MarksOnly (d d' : Dev) : Prop := ∀ c, ∃ p o, d'.chan c = (d.chan c).marked p o

theorem MarksOnly.of_chans (h : d'.chans = d.chans) : MarksOnly d d' := fun c =>
  ⟨(d.chan c).sel.partner, (d.chan c).sel.outliers, congrArg (fun v : Vector Chan 16 => v.get c) h⟩

theorem MarksOnly.trans (h : MarksOnly d₀ d) (h' : MarksOnly d d') : MarksOnly d₀ d' := fun c => by
  obtain ⟨p, o, hc⟩ := h c
  obtain ⟨p', o', hc'⟩ := h' c
  exact ⟨p', o', hc'.trans ((congrArg (Chan.marked p' o') hc).trans rfl)⟩

theorem MarksOnly.setsChan {x : Chan} (h : SetsChan c x d d') {p : Option (Fin 64)} {o : List (Fin 64 × Fin 64)} (hx : x = (d.chan c).marked p o) :
    MarksOnly d d' := fun k => by
  by_cases hk : k = c
  · exact ⟨p, o, by rw [hk, h.same, hx]⟩
  · exact ⟨_, _, h.ne hk⟩

theorem MarksOnly.forFin {m : Nat} {f : Fin m → Dev → Dev} (hf : ∀ j d, MarksOnly d (f j d)) (d : Dev) : MarksOnly d (forFin m f d) :=
  forFin_keeps (P := MarksOnly d) (fun j _ h => h.trans (hf j _)) (.of_chans rfl)

theorem MarksOnly.partnerClear (c : Fin 16) (d : Dev) : MarksOnly d (d.partnerClear c) :=
  .setsChan (SetsChan.refl c d).partnerClear (p := none) (o := (d.chan c).sel.outliers) rfl

theorem MarksOnly.marksEnd (n : Fin 64) (d : Dev) : MarksOnly d (d.marksEnd n) :=
  .forFin (fun c d => .setsChan (SetsChan.refl c d).modSel (p := (d.chan c).sel.partner) rfl) d

theorem MarksOnly.leftQual (n : Fin 64) (d : Dev) : MarksOnly d (d.leftQual n) := by
  unfold Dev.leftQual
  have h1 : MarksOnly d (d.bump (buoyOff n + 0x1A4) 0 16) := .of_chans (Within.bump (S := asideChans) (Within.refl _ d)).chans
  refine (h1.trans (.forFin (f := fun c d => if (d.chan c).sel.partner = some n then d.partnerClear c else d) (fun c d => ?_) _)).trans (.marksEnd n _)
  split
  · exact .partnerClear c d
  · exact .of_chans rfl

theorem MarksOnly.cur (h : MarksOnly d d') (c : Fin 16) : (d'.chan c).sel.cur = (d.chan c).sel.cur := by
  obtain ⟨p, o, hc⟩ := h c
  rw [hc]
  rfl

theorem MarksOnly.loop (h : MarksOnly d d') (c : Fin 16) : (d'.chan c).loop = (d.chan c).loop := by
  obtain ⟨p, o, hc⟩ := h c
  rw [hc]
  rfl

theorem MarksOnly.st (h : MarksOnly d d') (c : Fin 16) : (d'.chan c).st = (d.chan c).st := by
  obtain ⟨p, o, hc⟩ := h c
  rw [hc]
  rfl

end Sys2Proof.Machine
end

section
/-! What qualification and the activity detector leave of the slots: the one they are about, as a function of what it was, and the
others. -/

namespace Sys2Proof.Machine

set_option Elab.async false

variable {d d₀ d' : Dev} {n : Fin 64} {x : Buoy}

/-! ### The slots after a change of one -/

/-- Of the slots, `d'` differs from `d` in slot `n` alone, which is `x`. -/
def SetsBuoy (n : Fin 64) (x : Buoy) (d d' : Dev) : Prop := d'.buoys = d.buoys.set n x

theorem SetsBuoy.refl (n : Fin 64) (d : Dev) : SetsBuoy n (d.buoy n) d d := (set_get d.buoys n).symm

theorem SetsBuoy.same (h : SetsBuoy n x d d') : d'.buoy n = x := (congrArg (·.get n) h).trans (get_set_same ..)

theorem SetsBuoy.ne (h : SetsBuoy n x d d') {k : Fin 64} (hk : k ≠ n) : d'.buoy k = d.buoy k := (congrArg (·.get k) h).trans (get_set_ne _ _ hk)

theorem SetsBuoy.trans {y : Buoy} (h : SetsBuoy n x d₀ d) (h' : SetsBuoy n y d d') : SetsBuoy n y d₀ d' := by
  unfold SetsBuoy at *
  rw [h', h, Vector.set_set]

theorem SetsBuoy.side (h : SetsBuoy n x d₀ d) (hs : d'.buoys = d.buoys) : SetsBuoy n x d₀ d' := hs.trans h

theorem SetsBuoy.modBuoy (h : SetsBuoy n x d₀ d) {f : Buoy → Buoy} : SetsBuoy n (f x) d₀ (d.modBuoy n f) := by
  rw [← h.same]
  exact h.trans rfl

theorem SetsBuoy.modQual (h : SetsBuoy n x d₀ d) {f : Qual → Qual} : SetsBuoy n { x with qual := f x.qual } d₀ (d.modQual n f) := h.modBuoy
theorem SetsBuoy.modMon (h : SetsBuoy n x d₀ d) {f : Monitor → Monitor} : SetsBuoy n { x with mon := f x.mon } d₀ (d.modMon n f) := h.modBuoy
theorem SetsBuoy.modAct (h : SetsBuoy n x d₀ d) {f : Activity → Activity} : SetsBuoy n { x with act := f x.act } d₀ (d.modAct n f) := h.modBuoy
theorem SetsBuoy.modDec (h : SetsBuoy n x d₀ d) {f : Decoder → Decoder} : SetsBuoy n { x with dec := f x.dec } d₀ (d.modDec n f) := h.modBuoy

/-- Everything but the slots. -/
def asideBuoys : Scope :=
  partScope [.regs, .bar4, .bar4Gen, .draws, .top, .chk, .host, .clk, .pwr, .watch, .keeper, .fw, .otp, .chart, .pairs, .cycle, .chans, .lans, .outs,
    .vouts, .ts, .ports, .txts, .clients, .pilot, .tide]

theorem asideBuoys_runs : asideBuoys.Runs := ⟨fun _ _ => trivial, ⟨⟨rfl, rfl, rfl⟩, rfl⟩, rfl, rfl, rfl, rfl, rfl⟩

theorem SetsBuoy.within (h : SetsBuoy n x d₀ d) (hw : Within asideBuoys d d') : SetsBuoy n x d₀ d' := h.side hw.buoys

theorem SetsBuoy.ite {p : Prop} [Decidable p] {a b : Dev} (ha : SetsBuoy n x d₀ a) (hb : SetsBuoy n x d₀ b) :
    SetsBuoy n x d₀ (if p then a else b) := by
  split
  · exact ha
  · exact hb

/-- An activity machine, monitors, decoder and estimate that are as they were. -/
def Buoy.qualBy (q : Qual) (x : Buoy) : Buoy := { x with qual := q }

/-! ### Qualification -/

/-- The state of qualification once it has changed at `ms`. -/
def Qual.to (st : QState) (ms : Nat) (q : Qual) : Qual := { q with st := st, expired := false, fromMs := ms }

theorem SetsBuoy.qualTo (h : SetsBuoy n x d₀ d) {st : QState} {row : Nat} :
    SetsBuoy n (x.qualBy (x.qual.to st d.tbMs)) d₀ (d.qualTo n st row) :=
  (h.modQual (f := Qual.to st d.tbMs)).within ((Within.refl _ _).stateEv)

theorem SetsBuoy.leftQual (h : SetsBuoy n x d₀ d) {m : Fin 64} : SetsBuoy n x d₀ (d.leftQual m) := h.within ((Within.refl _ d).leftQual trivial)

theorem SetsBuoy.dropSlot (h : SetsBuoy n x d₀ d) {m : Fin 64} : SetsBuoy n x d₀ (d.dropSlot m) := h.within ((Within.refl _ d).dropSlot asideBuoys_runs)

theorem SetsBuoy.qualLeave (h : SetsBuoy n x d₀ d) {st : QState} {row : Nat} :
    SetsBuoy n (x.qualBy (x.qual.to st d.tbMs)) d₀ (d.qualLeave n st row) :=
  .ite (SetsBuoy.dropSlot (SetsBuoy.leftQual h.qualTo)) h.qualTo

/-- Qualification once a mark holds the slot out. -/
theorem SetsBuoy.holdOut (h : SetsBuoy n x d₀ d) {f : Qual → Qual} : SetsBuoy n
    (x.qualBy (if (f x.qual).st = .held then f x.qual else (f x.qual).to .held d.tbMs)) d₀ (d.holdOut n f) := by
  have h1 : SetsBuoy n (x.qualBy (f x.qual)) d₀ (d.modQual n f) := h.modQual
  unfold Dev.holdOut
  extract_lets e
  have hq : (e.buoy n).qual = f x.qual := congrArg Buoy.qual h1.same
  rw [hq]
  split
  · exact h1
  · exact h1.qualLeave

/-- Qualification once the slot has left UP. -/
theorem SetsBuoy.qualDown (h : SetsBuoy n x d₀ d) : SetsBuoy n
    (x.qualBy (if x.qual.st = .idle ∨ x.qual.st = .held then x.qual else x.qual.to .idle d.tbMs)) d₀ (d.qualDown n) := by
  have hx : (d.buoy n).qual.st = x.qual.st := congrArg (fun b => b.qual.st) h.same
  unfold Dev.qualDown
  rw [hx]
  cases hst : x.qual.st with
  | idle => exact h
  | held => exact h
  | qualified => exact SetsBuoy.leftQual h.qualTo
  | first => exact h.qualTo
  | wtr => exact h.qualTo
  | failed => exact h.qualTo

theorem SetsBuoy.qualify (h : SetsBuoy n x d₀ d) : SetsBuoy n (x.qualBy (Qual.to .qualified d.tbMs { x.qual with ever := true })) d₀ (d.qualify n) := by
  have h1 : SetsBuoy n _ d₀ ((d.modQual n fun q => { q with ever := true }).bump (buoyOff n + 0x1A4) 16 16) := h.modQual.within ((Within.refl _ _).bump)
  exact (SetsBuoy.qualTo h1).within ((Within.refl _ _).autopilotAll asideBuoys_runs)

/-- A publication changes the qualification of its slot alone. -/
theorem SetsBuoy.qualEval (h : SetsBuoy n x d₀ d) : ∃ q, SetsBuoy n (x.qualBy q) d₀ (d.qualEval n) := by
  have hwait : ∃ q, SetsBuoy n (x.qualBy q) d₀
      (if d.rejects n then d.qualTo n .failed 8 else if (d.buoy n).qual.expired && d.accepted n then d.qualify n else d) := by
    split
    · exact ⟨_, h.qualTo⟩
    split
    · exact ⟨_, h.qualify⟩
    · exact ⟨x.qual, h⟩
  unfold Dev.qualEval
  extract_lets q
  cases q.st with
  | first => exact hwait
  | wtr => exact hwait
  | qualified =>
    dsimp only
    split
    · exact ⟨_, h.qualLeave⟩
    · exact ⟨x.qual, h⟩
  | failed =>
    dsimp only
    split
    · exact ⟨x.qual, h⟩
    split
    · exact ⟨_, h.qualTo⟩
    · exact ⟨_, h.qualTo⟩
  | idle => exact ⟨x.qual, h⟩
  | held => exact ⟨x.qual, h⟩

/-- A slot that is not qualified by rank is left alone. -/
theorem qualEval_rest (h : (d.buoy n).qual.st = .idle ∨ (d.buoy n).qual.st = .held) : d.qualEval n = d := by
  unfold Dev.qualEval
  extract_lets q
  have hq : q.st = .idle ∨ q.st = .held := h
  rcases hq with hq | hq <;> rw [hq]

/-! ### Scopes of the words of one object -/

/-- The scope of some parts with some words of slot `n` and, of the rings, entries of the event ring and the log ring. -/
def slotScope (l : List Part) (n : Fin 64) (ks : List Nat) (h : ∀ k ∈ ks, k < 0x200 := by decide) : Scope :=
  lowScope l (ks.map fun k => buoyOff n + k) fun a ha => by
    obtain ⟨k, hk, rfl⟩ := List.mem_map.mp ha
    have := h k hk
    simp only [buoyOff]
    omega

theorem slotScope_reg {l : List Part} {n : Fin 64} {ks : List Nat} {h : ∀ k ∈ ks, k < 0x200} {k : Nat} (hk : k ∈ ks := by decide) :
    (slotScope l n ks h).reg (buoyOff n + k) := List.mem_map.mpr ⟨k, hk, rfl⟩

/-- The scope of some parts with some words of channel `c` and, of the rings, entries of the event ring and the log ring. -/
def chanScope (l : List Part) (c : Fin 16) (ks : List Nat) (h : ∀ k ∈ ks, k < 0x1000 := by decide) : Scope :=
  lowScope l (ks.map fun k => chanOff c + k) fun a ha => by
    obtain ⟨k, hk, rfl⟩ := List.mem_map.mp ha
    have := h k hk
    simp only [chanOff]
    omega

theorem chanScope_reg {l : List Part} {c : Fin 16} {ks : List Nat} {h : ∀ k ∈ ks, k < 0x1000} {k : Nat} (hk : k ∈ ks := by decide) :
    (chanScope l c ks h).reg (chanOff c + k) := List.mem_map.mpr ⟨k, hk, rfl⟩

/-! ### A loop over the channels -/

/-- A loop whose turns each change their own channel leaves of every channel what its turn makes of it. -/
theorem forFin_chan {f : Fin 16 → Dev → Dev} {I : Dev → Prop} {R : Fin 16 → Chan → Chan → Prop}
    (hf : ∀ j d, I d → (∃ x, SetsChan j x d (f j d) ∧ R j (d.chan j) x) ∧ I (f j d)) (h : I d) (c : Fin 16) :
    R c (d.chan c) ((forFin 16 f d).chan c) := by
  have hall : ∀ (l : List (Fin 16)) (d : Dev), l.Nodup → I d → (c ∈ l → R c (d.chan c) ((l.foldl (fun d j => f j d) d).chan c)) ∧
      (c ∉ l → (l.foldl (fun d j => f j d) d).chan c = d.chan c) := by
    intro l
    induction l with
    | nil => exact fun d _ _ => ⟨fun h => absurd h List.not_mem_nil, fun _ => rfl⟩
    | cons j l ih =>
      intro d hn hI
      obtain ⟨hj, hn⟩ := List.nodup_cons.mp hn
      obtain ⟨⟨x, hx, hR⟩, hI'⟩ := hf j d hI
      obtain ⟨hin, hout⟩ := ih (f j d) hn hI'
      by_cases hc : c = j
      · subst hc
        exact ⟨fun _ => by rw [List.foldl_cons, hout hj, hx.same]; exact hR, fun h => absurd List.mem_cons_self h⟩
      · have hmem : c ∈ j :: l ↔ c ∈ l := by simp [hc]
        rw [hmem, ← hx.ne hc]
        exact ⟨hin, hout⟩
  exact (hall _ d (List.nodup_finRange 16) h).1 (List.mem_finRange c)

/-! ### Loss -/

/-- The slot without lock, monitors and estimate, as it enters DOWN; `was`: it was UP. -/
def Buoy.cleared (was : Bool) (b : Buoy) : Buoy :=
  { b with
    dec := { b.dec with lock := false, todValid := false, todRun := 0, todSec := none, sixty := false, ltc := none, run := 0, msg := false, frameBad := false }
    mon := { b.mon with freqValid := false, chValid := false, gateFrom := none, gateN := 0, gateClean := false, gateFfo := [], mtie := none,
                        tieLeft := b.mon.tieLeft || was, tieCh := none, tieZero := none, cycUp := false, cycPhase := none }
    est := none }

/-- The slot DOWN, by a row of Table 3-6. -/
def Buoy.downed (row : Nat) (was : Bool) (b : Buoy) : Buoy :=
  { b.cleared was with act := { b.act with st := .down, retCnt := if row = 2 then b.act.retCnt else 0, frames := 0, last := none } }

theorem slotClear_marks (n : Fin 64) (d : Dev) : SetsBuoy n ((d.buoy n).cleared (d.isUp n)) d (d.slotClear n) ∧ MarksOnly d (d.slotClear n) := by
  unfold Dev.slotClear
  extract_lets was d1 d2
  have h1 : SetsBuoy n ((d.buoy n).cleared was) d d1 := rfl
  have w2 : Within asideBuoys d1 d2 := (Within.refl _ d1).foldl (fun _ _ h => .ite (fun _ => h) fun _ => h.setPair) _
  have c2 : Within asideChans d1 d2 := (Within.refl _ d1).foldl (fun _ _ h => .ite (fun _ => h) fun _ => h.setPair) _
  refine ⟨(h1.within w2).within (((Within.refl _ d2).forFin fun _ _ h => .ite (fun _ => h.partnerClear) fun _ => h).marksEnd), ?_⟩
  have m2 : MarksOnly d d2 := (MarksOnly.of_chans (d := d) (d' := d1) rfl).trans (.of_chans c2.chans)
  refine (m2.trans (.forFin (fun c d => ?_) d2)).trans (.marksEnd n _)
  dsimp only
  split
  · exact .partnerClear c d
  · exact .of_chans rfl

/-- The slot DOWN, before its followers and its qualification hear of it. -/
def Dev.slotOff (n : Fin 64) (row : Nat) (d : Dev) : Dev :=
  (d.slotClear n).modAct n fun a => { a with st := .down, retCnt := if row = 2 then a.retCnt else 0, frames := 0, last := none }

theorem slotOff_marks (n : Fin 64) (row : Nat) (d : Dev) : SetsBuoy n ((d.buoy n).downed row (d.isUp n)) d (d.slotOff n row) ∧
    MarksOnly d (d.slotOff n row) := by
  obtain ⟨hb, hm⟩ := slotClear_marks n d
  exact ⟨hb.modAct, hm.trans (.of_chans rfl)⟩

/-- A slot that is not UP goes DOWN without followers. -/
theorem slotDown_quiet {row : Nat} (h : (d.buoy n).act.st ≠ .up) : d.slotDown n row = d.slotOff n row := if_neg h

/-- The loss of an UP slot: its count and occurrence, its event, its followers, its qualification, the autopilot and the cascade. -/
def Dev.slotLost (n : Fin 64) (row : Nat) (l : List (Fin 16)) (d : Dev) : Dev :=
  let d := if row = 2 then (d.bump (buoyOff n + 0x24) 0 16).occur 32 n else d
  onlyIf (n = 60) Dev.orphanJoin ((((d.stateEv 6 0 n 2 0 row 0xFF).signalLoss n).qualDown n).autopilotFor l)

theorem slotDown_up {row : Nat} (h : (d.buoy n).act.st = .up) : d.slotDown n row = (d.slotOff n row).slotLost n row (d.followers n) := if_pos h

theorem MarksOnly.qualTo (n : Fin 64) (st : QState) (row : Nat) (d : Dev) : MarksOnly d (d.qualTo n st row) :=
  .of_chans (Within.qualTo (S := asideChans) (Within.refl _ d)).chans

theorem MarksOnly.qualDown (n : Fin 64) (d : Dev) : MarksOnly d (d.qualDown n) := by
  unfold Dev.qualDown
  cases (d.buoy n).qual.st with
  | idle => exact .of_chans rfl
  | held => exact .of_chans rfl
  | qualified => exact (MarksOnly.qualTo n .idle 5 d).trans (.leftQual n _)
  | first => exact .qualTo n .idle 5 d
  | wtr => exact .qualTo n .idle 5 d
  | failed => exact .qualTo n .idle 5 d

/-- The slot that is lost is not QUALIFIED, and no channel follows it. -/
theorem slotLost_fields {row : Nat} {l : List (Fin 16)} (h : SetsBuoy n x d₀ d) : ∃ q, SetsBuoy n (x.qualBy q) d₀ (d.slotLost n row l) ∧
    q.st ≠ .qualified ∧ (d.slotLost n row l).Unfollowed n ∧ q.ever = x.qual.ever := by
  unfold Dev.slotLost
  extract_lets d1
  have h1 : SetsBuoy n x d₀ d1 := .ite (h.within (((Within.refl _ d).bump).occur)) h
  have h2 : SetsBuoy n x d₀ ((d1.stateEv 6 0 n 2 0 row 0xFF).signalLoss n) := h1.within (((Within.refl _ d1).stateEv).signalLoss asideBuoys_runs)
  have u2 := signalLoss_unfollowed n (d1.stateEv 6 0 n 2 0 row 0xFF)
  generalize (d1.stateEv 6 0 n 2 0 row 0xFF).signalLoss n = d2 at *
  have h3 : SetsBuoy n _ d₀ (d2.qualDown n) := h2.qualDown
  have u3 : (d2.qualDown n).Unfollowed n := u2.congr (MarksOnly.qualDown n d2).cur
  have hq : (if x.qual.st = .idle ∨ x.qual.st = .held then x.qual else x.qual.to .idle d2.tbMs).st ≠ .qualified := by
    split
    next hor => exact fun e => by rw [e] at hor; exact absurd hor (by decide)
    next => exact fun e => QState.noConfusion e
  have hev : (if x.qual.st = .idle ∨ x.qual.st = .held then x.qual else x.qual.to .idle d2.tbMs).ever = x.qual.ever := by
    split
    · rfl
    · rfl
  generalize (if x.qual.st = .idle ∨ x.qual.st = .held then x.qual else x.qual.to .idle d2.tbMs) = q at *
  have hnq : (d2.qualDown n).isQual n = false := decide_eq_false (by rw [h3.same]; exact hq)
  generalize d2.qualDown n = d3 at *
  have h4 : SetsBuoy n _ d₀ (d3.autopilotFor l) := h3.within ((Within.refl _ d3).autopilotFor asideBuoys_runs)
  have u4 : (d3.autopilotFor l).Unfollowed n := u3.autopilotFor hnq l
  generalize d3.autopilotFor l = d4 at *
  have w5 : Within asideBuoys d4 (onlyIf (n = 60) Dev.orphanJoin d4) := (Within.refl _ d4).onlyIf fun _ h => h.orphanJoin
  have c5 : Within asideChans d4 (onlyIf (n = 60) Dev.orphanJoin d4) := (Within.refl _ d4).onlyIf fun _ h => h.orphanJoin
  exact ⟨q, h4.within w5, hq, u4.of_chans c5.chans, hev⟩

end Sys2Proof.Machine
end

section
/-! The timing events of the Buoys (chapter 3): edges and their checks, pushed estimates, and loss. -/

namespace Sys2Proof.Machine

set_option Elab.async false

variable {S : Scope} {d d₀ : Dev} {n : Fin 64} {x : Buoy} {s : State}

/-! ### Frames -/

theorem Within.tsCapture (h : Within S d₀ d) {k : Fin 4} {gr : Int} (ho : ∀ i, i < 0x50 → S.reg (tsOff k + i)) (hr : S.Has .regs := by trivial)
    (ht : S.Has .ts := by trivial) : Within S d₀ (d.tsCapture k gr) := by
  obtain ⟨w₀, w₂, w₃, w₄, he⟩ := tsCapture_captured k gr
  rw [he]
  exact (((((h.wr (ho _ (by decide))).wr (ho _ (by decide))).wr (ho _ (by decide))).wr (ho _ (by decide))).wr (ho _ (by decide))).modTs

theorem Within.slotCapture (h : Within S d₀ d) {t : Int} (ho : ∀ (k : Fin 4) i, i < 0x50 → S.reg (tsOff k + i)) (hr : S.Has .regs := by trivial)
    (ht : S.Has .ts := by trivial) : Within S d₀ (d.slotCapture n t) :=
  h.forFin fun _ _ h => .ite (fun _ => h.tsCapture (ho _)) fun _ => h

theorem Within.tdcEdge (h : Within S d₀ d) (hb : S.Has .buoys := by trivial) : Within S d₀ (d.tdcEdge n).2 := by
  unfold Dev.tdcEdge
  dsimp only
  exact h.modAct

theorem SetsBuoy.slotCapture (h : SetsBuoy n x d₀ d) {t : Int} : SetsBuoy n x d₀ (d.slotCapture n t) :=
  h.within ((Within.refl _ d).slotCapture fun _ _ _ => trivial)

/-- What a publication may change: of the slots' words, those that losses and qualification count in. -/
def evalScope : Scope :=
  ⟨[.regs, .bar4, .host, .keeper, .watch, .buoys, .chans, .lans, .outs, .vouts], fun a => 0x100000 ≤ a ∨ SlotWord a, true, true, true,
    fun h => absurd h (by decide)⟩

theorem evalScope_runs : evalScope.Runs := ⟨fun _ h => h.imp_left And.left, ⟨⟨rfl, rfl, rfl⟩, rfl⟩, rfl, rfl, rfl, rfl, rfl⟩

/-- The words of a slot's decoder and monitors are no marks of its qualification. -/
theorem rd_qualEval (m n : Fin 64) {k : Nat} (d : Dev) (hk : k < 0x200 := by decide) (hn : k ∉ [0x24, 0x50, 0x1A4] := by decide) :
    (d.qualEval m).rd (buoyOff n + k) = d.rd (buoyOff n + k) := by
  have hw : Within evalScope d (d.qualEval m) := (Within.refl _ d).qualEval evalScope_runs
  refine hw.regs _ ?_ (not_eventWord_of_lt (by simp only [buoyOff]; omega))
  rintro (h | ⟨j, i, hi, he⟩)
  · simp only [buoyOff] at h
    omega
  · simp only [List.mem_cons, List.not_mem_nil, or_false, not_or] at hi hn
    simp only [buoyOff] at he
    omega

/-! ### An edge and its checks -/

theorem slotEvent_none {ev : TimingEv} (hon : d.buoysOn = true) (hn : n.val < 44) (h : d.decoder n = 0 ∨ d.clockFed n = false) : slotEvent n ev d = d := by
  unfold slotEvent
  rw [if_neg (by simp [hon]), if_neg (by omega)]
  refine if_neg ?_
  rcases h with h | h <;> simp [h]

theorem slotEvent_edge {ev : TimingEv} (hon : d.buoysOn = true) (hn : n.val < 44) (hf : d.clockFed n = true) (hd : d.decoder n ≠ 0) :
    slotEvent n ev d = d.edgeCheck n ev := by
  unfold slotEvent
  rw [if_neg (by simp [hon]), if_neg (by omega)]
  exact if_pos (by simp [hn, hf, hd])

theorem slotEvent_push {ev : TimingEv} (hon : d.buoysOn = true) (hn : 61 ≤ n.val) : slotEvent n ev d = d.hsTake n := by
  unfold slotEvent
  rw [if_neg (by simp [hon]), if_pos hn]

theorem edgeCheck_width {ev : TimingEv} (hd : d.decoder n = 2 ∨ d.decoder n = 3) (hw : ev.widthNs < 100 ∨ 900000000 < ev.widthNs) :
    d.edgeCheck n ev = d.rangeFail n := if_pos (by simpa using ⟨hd, hw⟩)

/-- The decoders whose every edge counts. -/
def plainEdge (k : Nat) : Prop := k = 1 ∨ k = 6 ∨ k = 9

theorem edgeCheck_stray {ev : TimingEv} (hd : plainEdge (d.decoder n)) (hs : d.stray n ev.t = true) : d.edgeCheck n ev = (d.rangeFail n).qualEval n := by
  unfold Dev.edgeCheck
  extract_lets k d1 d2
  have hk : plainEdge k := hd
  unfold plainEdge at hk
  rw [if_neg (by simp; omega), if_neg (by simp; omega), if_pos hs]

theorem edgeCheck_plain {ev : TimingEv} (hd : plainEdge (d.decoder n)) (hs : d.stray n ev.t = false) : d.edgeCheck n ev =
    (d.modDec n fun x => { x with rangeNow := false }).edgeIn n ev.t false := by
  unfold Dev.edgeCheck
  extract_lets k d1 d2 d3
  have hk : plainEdge k := hd
  unfold plainEdge at hk
  have h1 : d1 = d := if_neg (by simp; omega)
  have h2 : d2 = d := (if_neg (by omega)).trans h1
  have h3 : d3 = d.modDec n fun x => { x with rangeNow := false } := (if_neg (by simp; omega)).trans (by rw [h2])
  rw [if_neg (by simp; omega), if_neg (by simp; omega), if_neg (by simp [hs]), h3]
  rcases hk with hk | hk | hk <;> rw [hk] <;> cases ev.video <;> rfl

/-- A range failure of a slot of another decoder than AES is noted, counted and reported. -/
theorem rangeFail_fields (h5 : d.decoder n ≠ 5) : SetsBuoy n { d.buoy n with dec := { (d.buoy n).dec with rangeNow := true } } d (d.rangeFail n) ∧
    Within (slotScope [.regs, .watch, .buoys] n [0x28]) d (d.rangeFail n) ∧ Counts (buoyOff n + 0x28) 16 16 d (d.rangeFail n) ∧
    Reports 33 n d (d.rangeFail n) := by
  have hlock : ((d.buoy n).dec.lock && d.decoder n ≠ 5) = (d.buoy n).dec.lock := by simp [h5]
  have h1 : SetsBuoy n { d.buoy n with dec := { (d.buoy n).dec with rangeNow := true } } d
      (d.modDec n fun x => { x with rangeNow := true, lock := x.lock && d.decoder n ≠ 5 }) := by
    have h := (SetsBuoy.refl n d).modDec (f := fun x => { x with rangeNow := true, lock := x.lock && d.decoder n ≠ 5 })
    rw [hlock] at h
    exact h
  exact ⟨h1.within ((Within.refl _ _).bump).occur, (Within.refl _ d).rangeFail slotScope_reg, (bump_counts _ _ (by decide)).before rfl,
    reports_occur rfl rfl⟩

/-! ### The edge of a slot -/

theorem slotTev_of_regs {e : Dev} (h : e.regs = d.regs) (n : Nat) : e.slotTev n = d.slotTev n :=
  congrArg (fun r => ({ d with regs := r } : Dev).slotTev n) h


/-- The first edge of a DOWN slot. -/
def Activity.woken (t : Int) (a : Activity) : Activity := { a with st := .returning, retCnt := 1, frames := 0, last := some t }

theorem edgeIn_down {t : Int} (hst : (d.buoy n).act.st = .down) (h3 : d.decoder n ≠ 3) :
    d.edgeIn n t false = (d.modAct n (Activity.woken t)).slotCapture n t := by
  have h1 : ∀ good, d.actEvent n t good false = d.modAct n (Activity.woken t) := fun good => by
    unfold Dev.actEvent
    extract_lets a
    have ha : a.st = .down := hst
    rw [ha]
    rfl
  unfold Dev.edgeIn
  extract_lets d1 r d2 d3
  have e1 : d1 = d.modAct n (Activity.woken t) := h1 _
  have hup : d1.isUp n = false := by
    rw [e1]
    exact decide_eq_false (by rw [((SetsBuoy.refl n d).modAct).same]; exact fun e => ActState.noConfusion e)
  have e2 : d2 = d1 := if_neg (by simp [hup])
  have e3 : d3 = d2 := if_neg (by rw [e2, e1]; exact h3)
  rw [e3, e2, e1]

/-- An edge of an UP slot that the TDC times: the detector, the prescaler, the monitors and the channels. -/
def Dev.timed (n : Fin 64) (t : Int) (d : Dev) : Dev :=
  let d := d.modAct n fun a => { a with last := some t }
  let d := (d.tdcEdge n).2
  (d.edgeEvent n t).chanEdge n t

theorem edgeIn_up {t : Int} (hst : (d.buoy n).act.st = .up) (h3 : d.decoder n ≠ 3) (hpre : (d.buoy n).act.pre = 0) :
    d.edgeIn n t false = (d.timed n t).slotCapture n t := by
  unfold Dev.edgeIn
  extract_lets d1 r d2 d3
  have e1 : d1 = d.modAct n fun a => { a with last := some t } := by
    unfold d1 Dev.actEvent
    extract_lets a
    have ha : a.st = .up := hst
    rw [ha]
  have hb : d1.buoy n = { d.buoy n with act := { (d.buoy n).act with last := some t } } := by
    rw [e1]
    exact ((SetsBuoy.refl n d).modAct).same
  have hup : d1.isUp n = true := decide_eq_true (by rw [hb]; exact hst)
  have hp : (d1.tdcEdge n).1 = true := decide_eq_true (by rw [hb]; exact hpre)
  have e2 : d2 = d.timed n t := by
    unfold d2
    rw [if_pos hup, if_pos hp]
    show ((d1.tdcEdge n).2.edgeEvent n t).chanEdge n t = _
    rw [e1]
    rfl
  have hdec : d2.decoder n = d.decoder n := by
    have hw : Within (partScope [.buoys, .chans]) d (d.timed n t) := (Within.refl _ d).modAct.modAct.edgeEvent.chanEdge
    rw [e2]
    exact congrArg (fld · 28 4) (rd_of_regs (hw.same .regs rfl) _)
  have e3 : d3 = d2 := if_neg (by rw [hdec]; exact h3)
  rw [e3, e2]

theorem gateEvent_buoy {t ph : Int} (h : SetsBuoy n x d₀ d) : ∃ m, SetsBuoy n { x with mon := m } d₀ (d.gateEvent n t ph) ∧ m.idx = x.mon.idx ∧
    m.phaseAt = t := by
  refine ⟨_, h.modMon, ?_⟩
  cases x.mon.gateFrom with
  | none => exact ⟨rfl, rfl⟩
  | some g => exact ⟨rfl, rfl⟩

theorem edgeEvent_buoy {t : Int} (h : SetsBuoy n x d₀ d) (hq : (d.slotTev n).2 ≠ 0) : ∃ m, SetsBuoy n { x with mon := m } d₀ (d.edgeEvent n t) ∧
    m.idx = x.mon.idx + 1 ∧ m.phaseAt = t := by
  unfold Dev.edgeEvent
  extract_lets q m
  rw [if_neg hq]
  obtain ⟨y, hy, hi, ht⟩ := gateEvent_buoy (t := t) (ph := t - m.origin - (m.idx + 1) * q.1 / q.2) (h.modMon (f := fun m => { m with idx := m.idx + 1 }))
  exact ⟨y, hy, hi, ht⟩

/-- The slot with another activity and other monitors. -/
def Buoy.sensed (a : Activity) (m : Monitor) (x : Buoy) : Buoy := { x with act := a, mon := m }

/-- The slot at an edge that the TDC times. -/
theorem timed_buoy {t : Int} (hq : (d.slotTev n).2 ≠ 0) : ∃ a m, SetsBuoy n ((d.buoy n).sensed a m) d (d.timed n t) ∧
    a.st = (d.buoy n).act.st ∧ a.last = some t ∧ m.idx = (d.buoy n).mon.idx + 1 ∧ m.phaseAt = t := by
  unfold Dev.timed
  extract_lets d1 d2
  obtain ⟨a, h2, hst, hlast⟩ : ∃ a, SetsBuoy n ((d.buoy n).sensed a (d.buoy n).mon) d d2 ∧ a.st = (d.buoy n).act.st ∧ a.last = some t := by
    have h1 : SetsBuoy n ((d.buoy n).sensed { (d.buoy n).act with last := some t } (d.buoy n).mon) d d1 := (SetsBuoy.refl n d).modAct
    exact ⟨_, h1.modAct (f := fun a => { a with pre := ((d1.buoy n).act.pre + 1) % (d1.rdF (buoyOff n + 0xC) 16 16 + 1) }), rfl, rfl⟩
  have hs : (d2.slotTev n).2 ≠ 0 := hq
  obtain ⟨m, h3, hi, ht⟩ := edgeEvent_buoy (t := t) h2 hs
  exact ⟨a, m, h3.within (Within.refl _ _).chanEdge, hst, hlast, hi, ht⟩

/-- A phase gathered by a channel. -/
theorem chanPhase_chan {c : Fin 16} {y : Chan} {ph : Int} (h : SetsChan c y d₀ d) : ∃ z, SetsChan c z d₀ (d.chanPhase c ph) ∧ z.track.phValid = true ∧
    z.track.evs.length = y.track.evs.length + 1 ∧ z.loop = y.loop ∧ z.sel = y.sel ∧ z.st = y.st := by
  unfold Dev.chanPhase
  extract_lets first d1
  have h1 : SetsChan c _ d₀ d1 := h.modTrack
  split
  · exact ⟨_, h1.modSw, rfl, by simp, rfl, rfl, rfl⟩
  · exact ⟨_, h1, rfl, by simp, rfl, rfl, rfl⟩

/-- What an edge of slot `n` makes of a channel. -/
def EdgeOn (n : Fin 64) (y z : Chan) : Prop :=
  (y.sel.cur = some n → engaged y = true → z.track.phValid = true ∧ z.track.evs.length = y.track.evs.length + 1 ∧ z.loop = y.loop) ∧
    (y.sel.cur ≠ some n → z = y)

theorem chanEdge_chan {t : Int} (h1 : (d.slotTev n).1 ≠ 0) (h2 : (d.slotTev n).2 ≠ 0) (c : Fin 16) : EdgeOn n (d.chan c) ((d.chanEdge n t).chan c) := by
  refine forFin_chan (I := fun e => e.slotTev n = d.slotTev n) (R := fun _ => EdgeOn n) (fun j e he => ?_) rfl c
  dsimp only
  split
  next hc =>
    obtain ⟨z, hz, hph, hlen, hloop, -, -⟩ := chanPhase_chan (ph := edgePhase (e.chan j).loop (e.slotTev n)
      (if (e.chan j).track.phValid then (e.chan j).track.edge else nearestEdge (e.chan j).loop (e.slotTev n) t) t) ((SetsChan.refl j e).modTrack
        (f := fun y => { y with edge := (if (e.chan j).track.phValid then (e.chan j).track.edge else nearestEdge (e.chan j).loop (e.slotTev n) t) + 1 }))
    simp only [Bool.and_eq_true, decide_eq_true_eq] at hc
    obtain ⟨⟨⟨hcur, -⟩, -⟩, -⟩ := hc
    refine ⟨⟨z, hz, fun _ _ => ⟨hph, hlen, hloop⟩, fun hne => absurd hcur hne⟩, ?_⟩
    have hw : Within (partScope [.chans]) e ((e.modTrack j fun y => { y with edge := (if (e.chan j).track.phValid then (e.chan j).track.edge else
      nearestEdge (e.chan j).loop (e.slotTev n) t) + 1 }).chanPhase j (edgePhase (e.chan j).loop (e.slotTev n)
      (if (e.chan j).track.phValid then (e.chan j).track.edge else nearestEdge (e.chan j).loop (e.slotTev n) t) t)) := (Within.refl _ e).modTrack.chanPhase
    exact (slotTev_of_regs (hw.same .regs rfl) n).trans he
  next hc =>
    refine ⟨⟨_, .refl j e, fun hcur hen => ?_, fun _ => rfl⟩, he⟩
    exact absurd (by simp [hcur, hen, he, h1, h2]) hc

theorem Within.touched (t : Int) (hb : S.Has .buoys) : Within S d (((d.modAct n fun a => { a with last := some t }).tdcEdge n).2.edgeEvent n t) := by
  have h1 : Within S d (d.modAct n fun a => { a with last := some t }) := (Within.refl S d).modAct
  have h2 := h1.tdcEdge (n := n)
  exact h2.edgeEvent

/-- What an edge that the TDC times leaves of its slot, of the channels, and of the rest. -/
theorem edgeIn_timed {t : Int} (hst : (d.buoy n).act.st = .up) (h3 : d.decoder n ≠ 3) (hpre : (d.buoy n).act.pre = 0) (h1 : (d.slotTev n).1 ≠ 0)
    (h2 : (d.slotTev n).2 ≠ 0) : (∃ a m, SetsBuoy n ((d.buoy n).sensed a m) d (d.edgeIn n t false) ∧ a.st = .up ∧ a.last = some t ∧
      m.idx = (d.buoy n).mon.idx + 1 ∧ m.phaseAt = t) ∧ (∀ c, EdgeOn n (d.chan c) ((d.edgeIn n t false).chan c)) ∧
      Within (partScope [.regs, .buoys, .chans, .ts]) d (d.edgeIn n t false) := by
  obtain ⟨a, m, hb, hast, hlast, hidx, hat⟩ := timed_buoy (t := t) h2
  have hch : ∀ c, EdgeOn n (d.chan c) ((d.timed n t).chan c) := fun c => by
    unfold Dev.timed
    extract_lets d1 d2
    have hw : Within (partScope [.buoys]) d (d2.edgeEvent n t) := Within.touched t rfl
    have hq := slotTev_of_regs (hw.same .regs rfl) n
    rw [show d.chan c = (d2.edgeEvent n t).chan c from congrArg (fun v : Vector Chan 16 => v.get c) hw.chans.symm]
    exact chanEdge_chan (by rw [hq]; exact h1) (by rw [hq]; exact h2) c
  have ht := Within.touched (n := n) (d := d) (S := partScope [.regs, .buoys, .chans, .ts]) t rfl
  have hw : Within (partScope [.regs, .buoys, .chans, .ts]) d (d.timed n t) := ht.chanEdge rfl
  rw [edgeIn_up hst h3 hpre]
  generalize d.timed n t = e at *
  refine ⟨⟨a, m, hb.slotCapture, hast.trans hst, hlast, hidx, hat⟩, fun c => ?_, hw.slotCapture fun _ _ _ => trivial⟩
  have hc : Within asideChans e (e.slotCapture n t) := (Within.refl _ e).slotCapture fun _ _ _ => trivial
  rw [show (e.slotCapture n t).chan c = e.chan c from congrArg (fun v : Vector Chan 16 => v.get c) hc.chans]
  exact hch c

/-! ### A pushed estimate -/

theorem SetsBuoy.qualUp (h : SetsBuoy n x d₀ d) : ∃ q, SetsBuoy n (x.qualBy q) d₀ (d.qualUp n) := by
  have hto : ∀ st row, ∃ q, SetsBuoy n (x.qualBy q) d₀ ((d.qualTo n st row).qualEval n) := fun st row => by
    obtain ⟨q, hq⟩ := (h.qualTo (st := st) (row := row)).qualEval
    exact ⟨q, hq⟩
  unfold Dev.qualUp
  extract_lets q
  split
  · split
    · exact hto _ _
    · exact hto _ _
  · exact ⟨x.qual, h⟩

theorem SetsBuoy.either {p : Prop} [Decidable p] {a b : Dev} {P : Buoy → Prop} (ha : ∃ y, SetsBuoy n y d₀ a ∧ P y) (hb : ∃ y, SetsBuoy n y d₀ b ∧ P y) :
    ∃ y, SetsBuoy n y d₀ (if p then a else b) ∧ P y := by
  split
  · exact ha
  · exact hb

/-- The slot UP, with its grid, its monitors and its counts begun anew. -/
def Buoy.risen (t : Int) (b : Buoy) : Buoy :=
  { b with act := { b.act with st := .up, gross := false, last := some t, pre := 0 }
           mon := { b.mon with origin := t, idx := -1, tieCh := none, tieZero := none, mtie := none, gateFrom := none, gateN := 0, gateClean := false }
           dec := { b.dec with count := 0 } }

theorem slotUp_buoy {t : Int} (h : SetsBuoy n x d₀ d) : ∃ q, SetsBuoy n ((x.risen t).qualBy q) d₀ (d.slotUp n t) :=
  SetsBuoy.qualUp ((h.modBuoy (f := Buoy.risen t)).within ((Within.refl _ _).stateEv))

/-- An event that reaches the activity detector leaves the estimates of its slot. -/
theorem actEvent_buoy {t : Int} {good frame : Bool} (h : SetsBuoy n x d₀ d) : ∃ y, SetsBuoy n y d₀ (d.actEvent n t good frame) ∧ y.hs = x.hs ∧
    y.est = x.est := by
  unfold Dev.actEvent
  extract_lets a
  cases a.st with
  | up => exact ⟨_, h.modAct, rfl, rfl⟩
  | down => exact ⟨_, h.modAct, rfl, rfl⟩
  | returning =>
    obtain ⟨q, hq⟩ := slotUp_buoy (t := t) h
    exact SetsBuoy.either ⟨_, h.modAct, rfl, rfl⟩ (SetsBuoy.either ⟨_, hq, rfl, rfl⟩ ⟨_, h.modAct, rfl, rfl⟩)

theorem estEvent_buoy {k : Fin 4} {ph ffo at_ : Int} (h : SetsBuoy n x d₀ d) : ∃ y e, SetsBuoy n y d₀ (d.estEvent n k ph ffo at_) ∧ y.hs = x.hs ∧
    y.est = some e ∧ e.raw = ph ∧ e.ffo = ffo ∧ e.at_ = at_ := by
  unfold Dev.estEvent
  extract_lets shift e d1 d2
  obtain ⟨y, h1, hhs, hest⟩ : ∃ y, SetsBuoy n y d₀ d1 ∧ y.hs = x.hs ∧ y.est = some e := by
    obtain ⟨y, hy, hhs, hest⟩ := actEvent_buoy (t := d.tbGr) (good := true) (frame := false) (h.modBuoy (f := fun b =>
      { b with est := some e, dec := { b.dec with count := b.dec.count + 1, rangeNow := false } }))
    exact ⟨y, hy, hhs, hest⟩
  obtain ⟨z, h2, hzhs, hzest⟩ : ∃ z, SetsBuoy n z d₀ d2 ∧ z.hs = x.hs ∧ z.est = some e := by
    unfold d2
    split
    · obtain ⟨m, hm, -, -⟩ := gateEvent_buoy (t := at_) (ph := e.phase) h1
      exact ⟨_, hm.within (Within.refl _ _).chanEstimate, hhs, hest⟩
    · exact ⟨y, h1, hhs, hest⟩
  exact ⟨z, e, h2.slotCapture, hzhs, hzest, rfl, rfl, rfl⟩

/-! ### Loss -/

/-- What the loss of a slot changes. -/
def lossScope : Scope := quietScope [.regs, .bar4, .host, .watch, .keeper, .buoys, .pairs, .chans, .lans, .outs, .vouts, .tide]

theorem lossScope_senses : lossScope.Senses := ⟨quietScope_runs (by decide), rfl, rfl, rfl⟩

theorem slotDown_lost {row : Nat} (h : SetsBuoy n x d₀ d) (hst : x.act.st = .up) : ∃ q, SetsBuoy n ((x.downed row true).qualBy q) d₀ (d.slotDown n row) ∧
    q.st ≠ .qualified ∧ (d.slotDown n row).Unfollowed n ∧ q.ever = x.qual.ever := by
  have hup : (d.buoy n).act.st = .up := by rw [h.same, hst]
  rw [slotDown_up hup]
  have hoff := (slotOff_marks n row d).1
  rw [show d.isUp n = true from decide_eq_true hup, h.same] at hoff
  exact slotLost_fields (h.trans hoff)

/-- A slot that is no longer as it was but DOWN, without qualification and followers, is down as its statement says. -/
theorem slotIsDown_of {e : Dev} (h : SetsBuoy n x s.dev e) (hst : x.act.st = .down) (hlock : x.dec.lock = false) (hf : x.mon.freqValid = false)
    (hest : x.est = none) (hq : x.qual.st ≠ .qualified) (hu : e.Unfollowed n) (heq : e = s.dev.mix lossScope.parts e) :
    SlotIsDown n s { s with dev := e } := by
  have hn : e.buoy n = x := h.same
  refine ⟨rfl, ?_, ?_, ?_, ?_, ?_, hu, fun m hm => h.ne hm, heq⟩
  · exact (congrArg (fun b => b.act.st) hn).trans hst
  · exact (congrArg (fun b => b.dec.lock) hn).trans hlock
  · exact (congrArg (fun b => b.mon.freqValid) hn).trans hf
  · exact (congrArg Buoy.est hn).trans hest
  · exact fun e => hq ((congrArg (fun b => b.qual.st) hn).symm.trans e)

theorem slotLoss_up (h : (d.buoy n).act.st = .up) : slotLoss n d = d.slotDown n 2 := by
  unfold slotLoss
  rw [h]

theorem slotLoss_returning (h : (d.buoy n).act.st = .returning) : slotLoss n d = d.slotOff n 4 := by
  unfold slotLoss
  rw [h]
  exact slotDown_quiet (by rw [h]; exact fun e => ActState.noConfusion e)

theorem slotLoss_down (h : (d.buoy n).act.st = .down) : slotLoss n d = d.modDec n fun x => { x with lock := false, run := 0 } := by
  unfold slotLoss
  rw [h]

theorem buoyLossBody_on (h : d.buoysOn = true) : buoyLossBody n d = slotLoss n d := if_pos h

theorem Within.slotOff (h : Within S d₀ d) {row : Nat} (hE : S.Events := by trivial) (hb : S.Has .buoys := by trivial)
    (hp : S.Has .pairs := by trivial) (hc : S.Has .chans := by trivial) : Within S d₀ (d.slotOff n row) := h.slotClear.modAct

/-- Settles O46: each event is the operation that its checks lead to. -/
theorem timingEvents : Obligations.TimingEvents := by
  intro n s hon
  refine ⟨fun k hk hd => ?glitch, fun ev hn h => exec_run rfl (slotEvent_none hon hn h), fun ev hn hf => ⟨fun hd hw => ?width, fun hd hst => ?down,
    fun hd hst hs hpre h1 h2 => ?up, fun hd hst hs => ?stray⟩, fun ev e es hn hhs => ?push, fun hst => ?lost, fun hst => ?returning, fun hst => ?rest⟩
  case glitch =>
    have he : glitch (k.castLE (by omega)) s.dev = s.dev.bump (buoyOff n + 0x24) 16 16 := by
      subst hk
      exact if_pos (by simpa [hon] using hd)
    have hw : Within (slotScope [.regs] n [0x24]) s.dev (s.dev.bump (buoyOff n + 0x24) 16 16) := (Within.refl _ _).bump slotScope_reg
    exact ⟨_, exec_run rfl he, rfl, hw.eq, bump_counts _ _ (by decide), hw.keepsRegs fun _ h => h⟩
  case width =>
    have hd0 : s.dev.decoder n ≠ 0 := by omega
    obtain ⟨hb, hw', hc, hr⟩ := rangeFail_fields (d := s.dev) (n := n) (by omega)
    have he := (slotEvent_edge (ev := ev) hon hn hf hd0).trans (edgeCheck_width hd hw)
    generalize s.dev.rangeFail n = e at *
    refine ⟨_, exec_run rfl he, rfl, hc, hw'.keepsRegs fun _ h => h, hr, ?_⟩
    exact hw'.eq.trans (congrArg (fun b => ({ s.dev with regs := e.regs, watch := e.watch, buoys := b } : Dev)) hb)
  case down =>
    have hst' : s.dev.stray n ev.t = false := by
      unfold Dev.stray
      cases (s.dev.buoy n).act.last with
      | none => rfl
      | some l => simp [Dev.isUp, hst]
    have he := (slotEvent_edge (ev := ev) hon hn hf (by omega)).trans (edgeCheck_plain hd hst')
    have h1 : SetsBuoy n { s.dev.buoy n with dec := { (s.dev.buoy n).dec with rangeNow := false } } s.dev
        (s.dev.modDec n fun x => { x with rangeNow := false }) := (SetsBuoy.refl n s.dev).modDec
    have hst1 : ((s.dev.modDec n fun x => { x with rangeNow := false }).buoy n).act.st = .down := by rw [h1.same]; exact hst
    have hd1 : (s.dev.modDec n fun x => { x with rangeNow := false }).decoder n ≠ 3 := fun e => by
      have e' : s.dev.decoder n = 3 := e
      omega
    rw [edgeIn_down hst1 hd1] at he
    have hb := SetsBuoy.slotCapture (t := ev.t) (h1.modAct (f := Activity.woken ev.t))
    have hw : Within (partScope [.regs, .ts, .buoys]) s.dev (((s.dev.modDec n fun x => { x with rangeNow := false }).modAct n
        (Activity.woken ev.t)).slotCapture n ev.t) := ((Within.refl _ s.dev).modDec.modAct).slotCapture fun _ _ _ => trivial
    generalize Dev.slotCapture n ev.t _ = e at *
    exact ⟨_, exec_run rfl he, rfl, hw.eq.trans (congrArg (fun b => ({ s.dev with regs := e.regs, ts := e.ts, buoys := b } : Dev)) hb)⟩
  case up =>
    have he := (slotEvent_edge (ev := ev) hon hn hf (by omega)).trans (edgeCheck_plain hd hs)
    have hb0 : SetsBuoy n { s.dev.buoy n with dec := { (s.dev.buoy n).dec with rangeNow := false } } s.dev
        (s.dev.modDec n fun x => { x with rangeNow := false }) := (SetsBuoy.refl n s.dev).modDec
    have hw0 : Within (partScope [.regs, .buoys, .chans, .ts]) s.dev (s.dev.modDec n fun x => { x with rangeNow := false }) :=
      (Within.refl _ s.dev).modDec
    have hd3 : (s.dev.modDec n fun x => { x with rangeNow := false }).decoder n ≠ 3 := fun e => by
      have e' : s.dev.decoder n = 3 := e
      omega
    obtain ⟨⟨a, m, hb, hast, hlast, hidx, hat⟩, hch, hw⟩ := edgeIn_timed (t := ev.t) (d := s.dev.modDec n fun x => { x with rangeNow := false })
      (by rw [hb0.same]; exact hst) hd3 (by rw [hb0.same]; exact hpre) h1 h2
    have hc0 : ∀ c, (s.dev.modDec n fun x => { x with rangeNow := false }).chan c = s.dev.chan c := fun _ => rfl
    have hw1 := hw0.trans hw
    generalize s.dev.modDec n (fun x => { x with rangeNow := false }) = d at *
    generalize d.edgeIn n ev.t false = e at *
    have hn' : e.buoy n = (d.buoy n).sensed a m := hb.same
    have hidx0 : (d.buoy n).mon.idx = (s.dev.buoy n).mon.idx := by rw [hb0.same]
    refine ⟨_, exec_run rfl he, rfl, ?_, ?_, ?_, ?_, fun k hk => (hb.ne hk).trans (hb0.ne hk), fun c hcur hen => ?_, fun c hcur => ?_, hw1.eq⟩
    · exact (congrArg (fun b => b.act.st) hn').trans hast
    · exact (congrArg (fun b => b.act.last) hn').trans hlast
    · exact (congrArg (fun b => b.mon.idx) hn').trans (hidx.trans (by rw [hidx0]))
    · exact (congrArg (fun b => b.mon.phaseAt) hn').trans hat
    · have h := (hch c).1
      rw [hc0 c] at h
      exact h hcur hen
    · have h := (hch c).2
      rw [hc0 c] at h
      exact h hcur
  case stray =>
    have he := (slotEvent_edge (ev := ev) hon hn hf (by omega)).trans (edgeCheck_stray hd hs)
    obtain ⟨hb, hw, hc, hr⟩ := rangeFail_fields (d := s.dev) (n := n) (by omega)
    have hx := exec_run (x := .timingEvent n ev) (s := s) rfl he
    generalize s.dev.rangeFail n = d at *
    obtain ⟨q, hq⟩ := SetsBuoy.qualEval hb
    have hq0 := congrArg (fun b => b.qual.st) hb.same
    have hrest := qualEval_rest (n := n) (d := d)
    have hc28 : (d.qualEval n).rd (buoyOff n + 0x28) = d.rd (buoyOff n + 0x28) := rd_qualEval n n d
    refine ⟨_, hx, rfl, hc.after hc28, ?_, ?_, ?_, fun k hk => hq.ne hk, fun hor => ?_⟩
    · exact (congrArg Buoy.act hq.same).trans rfl
    · exact (congrArg Buoy.mon hq.same).trans rfl
    · exact (congrArg Buoy.dec hq.same).trans rfl
    · have hid : d.qualEval n = d := hrest (hor.imp hq0.trans hq0.trans)
      rw [hid]
      exact ⟨hw.keepsRegs fun _ h => h, hr, hw.eq⟩
  case push =>
    have he : slotEvent n ev s.dev = (s.dev.modBuoy n fun b => { b with hs := es }).estEvent n (Fin.ofNat 4 e.phase.toNat) e.raw e.ffo e.at_ := by
      rw [slotEvent_push hon hn, Dev.hsTake, hhs]
    obtain ⟨y, x, hy, hyhs, hyest, hraw, hffo, hat⟩ := estEvent_buoy (k := Fin.ofNat 4 e.phase.toNat) (ph := e.raw) (ffo := e.ffo) (at_ := e.at_)
      ((SetsBuoy.refl n s.dev).modBuoy (f := fun b => { b with hs := es }))
    have hx := exec_run (x := .timingEvent n ev) (s := s) rfl he
    generalize Dev.estEvent n _ _ _ _ _ = d at *
    refine ⟨_, x, hx, rfl, ?_, ?_, hraw, hffo, hat, fun m hm => hy.ne hm⟩
    · exact (congrArg Buoy.hs hy.same).trans hyhs
    · exact (congrArg Buoy.est hy.same).trans hyest
  case lost =>
    have hx : SetsBuoy n (s.dev.buoy n) s.dev s.dev := .refl n s.dev
    obtain ⟨q, hb, hq, hu, -⟩ := slotDown_lost (row := 2) hx hst
    have hw : Within lossScope s.dev (s.dev.slotDown n 2) := (Within.refl _ s.dev).slotDown lossScope_senses
    exact ⟨_, exec_run rfl ((buoyLossBody_on hon).trans (slotLoss_up hst)), slotIsDown_of hb rfl rfl rfl rfl hq hu hw.eq⟩
  case returning =>
    have hx := exec_run (x := .buoyLoss n) (s := s) rfl ((buoyLossBody_on (n := n) hon).trans (slotLoss_returning hst))
    obtain ⟨hb, hm⟩ := slotOff_marks n 4 s.dev
    have hw : Within (slotScope [.regs, .bar4, .host, .keeper, .buoys, .pairs, .chans] n []) s.dev (s.dev.slotOff n 4) :=
      (Within.refl _ s.dev).slotOff ⟨⟨rfl, rfl, rfl⟩, rfl⟩
    generalize s.dev.slotOff n 4 = e at *
    exact ⟨_, hx, rfl, (congrArg Buoy.act hb.same).trans rfl, (congrArg Buoy.qual hb.same).trans rfl, fun m hm => hb.ne hm,
      fun c => ⟨hm.loop c, hm.st c, hm.cur c⟩, hw.eq, hw.eventFrame rfl fun _ h => h⟩
  case rest => exact ⟨_, exec_run rfl ((buoyLossBody_on hon).trans (slotLoss_down hst)), rfl⟩

end Sys2Proof.Machine
end

section
/-! What registers read after a 40-bit value, a status word or a block of words has been published. -/

namespace Sys2Proof.Machine

set_option Elab.async false

variable {d : Dev}

/-! ### 40-bit values -/

theorem twos_lt (width : Nat) (v : Int) : twos width v < 2 ^ width := by
  have hpos : (0 : Int) < (2 ^ width : Nat) := by exact_mod_cast Nat.two_pow_pos width
  have h0 := Int.emod_nonneg v hpos.ne'
  have h1 := Int.emod_lt_of_pos v hpos
  unfold twos
  omega

/-- A value in range is that of its two's complement. -/
theorem signed_twos {v : Int} (h : -549755813888 ≤ v) (h' : v ≤ 549755813887) : signed 40 (twos 40 v) = v := by
  have hcast : ((2 ^ 40 : Nat) : Int) = 1099511627776 := by norm_num
  have hhalf : (2 : Nat) ^ (40 - 1) = 549755813888 := by norm_num
  unfold signed twos
  rw [hcast, hhalf]
  by_cases hneg : v < 0
  · have : v % 1099511627776 = v + 1099511627776 := by omega
    rw [this, if_neg (by omega)]
    omega
  · have : v % 1099511627776 = v := by omega
    rw [this, if_pos (by omega)]
    omega

theorem sat40_range (v : Int) : -549755813888 ≤ sat40 v ∧ sat40 v ≤ 549755813887 := by
  simp only [sat40, clampI]
  split
  · decide
  · split
    · decide
    · omega

theorem pub40_words {n q : Nat} (hn : n < 2 ^ 40) : fld (word n) 0 32 + fld (word (n / 4294967296 + q % 16777216 * 256)) 0 8 * 4294967296 = n := by
  simp only [fld, word, BitVec.toNat_ofNat]
  omega

theorem rdU40_pub40 (base : Nat) (v : Int) (d : Dev) : (d.pub40 base v).rdU40 base = twos 40 v := by
  unfold Dev.pub40
  extract_lets n
  split
  next h => exact h
  next =>
    have hn : n < 2 ^ 40 := twos_lt 40 v
    have hlo : ((d.wr base (word n)).wr (base + 4) (word (n / 4294967296 + (d.rdF (base + 4) 8 24 + 1) % 16777216 * 256))).rd base = word n :=
      (rd_wr_ne _ _ (by omega)).trans (rd_wr_same ..)
    rw [Dev.rdU40, Dev.rdF, hlo, Dev.rdF, rd_wr_same]
    exact pub40_words hn

theorem rd40_eq (d : Dev) (base : Nat) : d.rd40 base = signed 40 (d.rdU40 base) := rfl

/-- A saturated value reads as it was published. -/
theorem rd40_pub40 (base : Nat) (v : Int) (d : Dev) : (d.pub40 base (sat40 v)).rd40 base = sat40 v := by
  obtain ⟨h, h'⟩ := sat40_range v
  rw [rd40_eq, rdU40_pub40, signed_twos h h']

theorem rd_pub40_ne {base a : Nat} (v : Int) (d : Dev) (h : base ≠ a) (h' : base + 4 ≠ a) : (d.pub40 base v).rd a = d.rd a := by
  unfold Dev.pub40
  extract_lets n
  split
  · rfl
  · exact (rd_wr_ne _ _ h').trans (rd_wr_ne _ _ h)

theorem rdU40_of_rd {e : Dev} {base : Nat} (h : e.rd base = d.rd base) (h' : e.rd (base + 4) = d.rd (base + 4)) : e.rdU40 base = d.rdU40 base := by
  rw [Dev.rdU40, Dev.rdF, Dev.rdF, h, h', Dev.rdU40, Dev.rdF, Dev.rdF]

theorem rd40_of_rd {e : Dev} {base : Nat} (h : e.rd base = d.rd base) (h' : e.rd (base + 4) = d.rd (base + 4)) : e.rd40 base = d.rd40 base :=
  congrArg (signed 40) (rdU40_of_rd h h')

/-! ### Status words -/

theorem rd_pubStat (off extra : Nat) (d : Dev) :
    (d.pubStat off extra).rd off = word (2147483648 + extra * 65536 % 2147483648 + (d.rdF off 0 16 + 1) % 65536) := rd_wr_same ..

theorem stat_fields (extra q : Nat) (he : extra < 32768) : fld (word (2147483648 + extra * 65536 % 2147483648 + q % 65536)) 31 1 = 1 ∧
    fld (word (2147483648 + extra * 65536 % 2147483648 + q % 65536)) 0 16 = q % 65536 ∧
    fld (word (2147483648 + extra * 65536 % 2147483648 + q % 65536)) 30 1 = extra / 16384 := by
  simp only [fld, word, BitVec.toNat_ofNat]
  refine ⟨?_, ?_, ?_⟩ <;> omega

/-- A published status is done, with its sequence number one further and bit 30 of `extra`. -/
theorem pubStat_fields (off : Nat) {extra : Nat} (he : extra < 32768) (d : Dev) : (d.pubStat off extra).rdF off 31 1 = 1 ∧
    (d.pubStat off extra).rdF off 0 16 = (d.rdF off 0 16 + 1) % 65536 ∧ (d.pubStat off extra).rdF off 30 1 = extra / 16384 := by
  simp only [show ∀ lo width, (d.pubStat off extra).rdF off lo width = fld ((d.pubStat off extra).rd off) lo width from fun _ _ => rfl, rd_pubStat]
  exact stat_fields extra (d.rdF off 0 16 + 1) he

theorem rd_pubStat_ne {off a : Nat} (extra : Nat) (d : Dev) (h : off ≠ a) : (d.pubStat off extra).rd a = d.rd a := rd_wr_ne _ _ h

/-! ### The words of a decoder -/

theorem rd_pubDec (n : Fin 64) {ws : List Word} (d : Dev) {i : Nat} (hi : i < ws.length) : (d.pubDec n ws).rd (buoyOff n + 0x74 + 4 * i) = ws.getD i 0 :=
  (rd_pubStat_ne _ _ (by omega)).trans (rd_wrWords_in ws (buoyOff n + 0x74) i d hi)

theorem pubDec_status (n : Fin 64) (ws : List Word) (d : Dev) : (d.pubDec n ws).rdF (buoyOff n + 0x70) 31 1 = 1 ∧
    (d.pubDec n ws).rdF (buoyOff n + 0x70) 0 16 = (d.rdF (buoyOff n + 0x70) 0 16 + 1) % 65536 := by
  obtain ⟨h31, h0, -⟩ := pubStat_fields (buoyOff n + 0x70) (extra := 0) (by decide) (d.wrWords (buoyOff n + 0x74) ws)
  refine ⟨h31, h0.trans ?_⟩
  rw [Dev.rdF, rd_wrWords_out ws _ _ d (fun i _ => by omega), Dev.rdF]

end Sys2Proof.Machine
end

section
/-! The decoders of the Buoys (chapter 3): time of day, LTC, AES3 and video formats. -/

namespace Sys2Proof.Machine

set_option Elab.async false

variable {S : Scope} {d d₀ : Dev} {n : Fin 64} {x : Buoy} {s : State}

/-! ### Labels for the time scales -/

theorem Within.tsCompare (h : Within S d₀ d) {k : Fin 4} {v : Int} (ho : S.reg (tsOff k + 0x74)) (hE : S.Events := by trivial)
    (hw : S.Has .watch := by trivial) (ht : S.Has .ts := by trivial)
    (hl : S.load = true := by trivial) : Within S d₀ (d.tsCompare k v) := by
  have ⟨⟨_, _, _⟩, _⟩ := hE
  unfold Dev.tsCompare
  extract_lets t
  cases t.st with
  | unset => exact h
  | running => exact .ite (fun _ => h) fun _ => ((h.modTs.bump ho).occur).tsTo
  | todHold => exact .ite (fun _ => h.modTs.tsTo) fun _ => .ite (fun _ => h.modTs) fun _ => h.modTs

theorem Within.tsLabel (h : Within S d₀ d) {k : Fin 4} {v a : Int} (ho : S.reg (tsOff k + 0x74)) (hE : S.Events := by trivial)
    (hw : S.Has .watch := by trivial) (ht : S.Has .ts := by trivial)
    (hl : S.load = true := by trivial) : Within S d₀ (d.tsLabel k v a) := h.modTs.tsCompare ho

theorem Within.todToTs (h : Within S d₀ d) {ptp sixty before : Bool} {sec : Nat} (ho : ∀ k : Fin 4, S.reg (tsOff k + 0x74)) (hE : S.Events := by trivial)
    (hw : S.Has .watch := by trivial) (ht : S.Has .ts := by trivial)
    (hl : S.load = true := by trivial) : Within S d₀ (d.todToTs n ptp sixty before sec) := by
  refine h.forFin fun k d h => .ite (fun _ => ?_) fun _ => h
  refine .ite (fun _ => h.modTs) fun _ => ?_
  cases (d.tsc k).edge with
  | none => exact h
  | some e => exact h.tsLabel (ho k)

/-- What labels change: the time scales, and of the registers those from the outputs on. -/
def labelScope : Scope := ⟨[.regs, .bar4, .host, .watch, .keeper, .ts], fun a => 0x100000 ≤ a, true, true, true, fun h => absurd h (by decide)⟩

theorem todToTs_within (ptp sixty before : Bool) (sec : Nat) (d : Dev) : Within labelScope d (d.todToTs n ptp sixty before sec) :=
  (Within.refl labelScope d).todToTs (fun k => by show 0x100000 ≤ _; simp only [tsOff]; omega) ⟨⟨rfl, rfl, rfl⟩, rfl⟩ rfl rfl

theorem labelScope_slot {e : Dev} (hw : Within labelScope d e) (n : Fin 64) {k : Nat} (hk : k < 0x200 := by decide) :
    e.rd (buoyOff n + k) = d.rd (buoyOff n + k) := by
  refine hw.regs _ ?_ (not_eventWord_of_lt (by simp only [buoyOff]; omega))
  show ¬ 0x100000 ≤ _
  simp only [buoyOff]
  omega

/-! ### Time-of-day messages -/

/-- A decoder error of a slot of another decoder than AES is counted and reported. -/
theorem decErr_fields (h5 : d.decoder n ≠ 5) : SetsBuoy n (d.buoy n) d (d.decErr n) ∧ Within (slotScope [.regs, .watch, .buoys] n [0x28]) d (d.decErr n) ∧
    Counts (buoyOff n + 0x28) 0 16 d (d.decErr n) ∧ Reports 34 n d (d.decErr n) := by
  have h1 : SetsBuoy n (d.buoy n) d (d.modDec n fun x => { x with lock := x.lock && d.decoder n ≠ 5 }) := by
    have h := (SetsBuoy.refl n d).modDec (f := fun x => { x with lock := x.lock && d.decoder n ≠ 5 })
    have hlock : ((d.buoy n).dec.lock && d.decoder n ≠ 5) = (d.buoy n).dec.lock := by simp [h5]
    rw [hlock] at h
    exact h
  exact ⟨h1.within ((Within.refl _ _).bump).occur, (Within.refl _ d).decErr slotScope_reg, (bump_counts _ _ (by decide)).before rfl,
    reports_occur rfl rfl⟩

/-- The slot whose message is discarded. -/
def Buoy.todDropped (x : Buoy) : Buoy := { x with dec := { x.dec with todValid := false, todRun := 0, todSec := none, msg := true } }

theorem todDrop_buoy (n : Fin 64) (d : Dev) : SetsBuoy n (d.buoy n).todDropped d (d.todDrop n) := (SetsBuoy.refl n d).modDec

/-- A message is one that the slot listens for. -/
def Dev.heard (d : Dev) (n : Fin 64) (m : TodMsg) : Prop :=
  d.buoysOn = true ∧ d.decoder n = 3 ∧ m.listed = true ∧ m.ptp = (fld (d.rd (buoyOff n)) 18 2 == 1)

/-- A message out of its window, or with a failing check. -/
theorem todTake_bad {m : TodMsg} (h : d.heard n m) (hbad : todInWindow (bit (d.rd (buoyOff n)) 17) m = false ∨ m.checksOk = false) :
    todTake n m d = (d.todDrop n).decErr n := by
  obtain ⟨hon, hd, hl, hp⟩ := h
  unfold todTake
  extract_lets cfg before
  rw [if_neg (by simp [hon, hd, hl, hp, cfg]), if_pos]
  rcases hbad with hbad | hbad
  · simp [before, cfg, hbad]
  · simp [hbad]

/-- A message whose UTC is out of range. -/
theorem todTake_outOfRange {m : TodMsg} (h : d.heard n m) (hin : todInWindow (bit (d.rd (buoyOff n)) 17) m = true) (hok : m.checksOk = true)
    (hptp : m.ptp = false) (hr : utcInRange m = false) : todTake n m d = (d.todDrop n).rangeFail n := by
  obtain ⟨hon, hd, hl, hp⟩ := h
  unfold todTake
  extract_lets cfg before
  rw [if_neg (by simp [hon, hd, hl, hp, cfg]), if_neg (by simp [before, cfg, hin, hok]), if_pos (by simp [hptp, hr])]

/-- The decoder after an accepted message, which follows its predecessor (`next`) or not. -/
def Decoder.told (m : TodMsg) (next : Bool) (x : Decoder) : Decoder :=
  let run := if next then min (x.todRun + 1) 3 else 1
  { x with todRun := run, todValid := (next && x.todValid) || run = 3, todSec := some (todSecond m : Int), sixty := !m.ptp && m.second = 60, msg := true,
           rangeNow := false }

/-- The second of a message follows the one before it. -/
def Decoder.follows (m : TodMsg) (x : Decoder) : Bool :=
  match x.todSec with
  | some p => decide ((todSecond m : Int) = p + (if x.sixty then 0 else 1))
  | none => true

theorem Decoder.follows_iff {m : TodMsg} {x : Decoder} :
    x.follows m = true ↔ ∀ p, x.todSec = some p → (todSecond m : Int) = p + (if x.sixty then 0 else 1) := by
  unfold Decoder.follows
  cases h : x.todSec with
  | none => simp
  | some p => simp

theorem todTake_accepted {m : TodMsg} (h : d.heard n m) (hin : todInWindow (bit (d.rd (buoyOff n)) 17) m = true) (hok : m.checksOk = true)
    (hr : m.ptp = true ∨ utcInRange m = true) : ∃ a b c : Word, ∃ sixty before : Bool, todTake n m d =
      ((d.modDec n (Decoder.told m ((d.buoy n).dec.follows m))).pubDec n [word (todSecond m), a, b, c]).todToTs n m.ptp sixty before (todSecond m) := by
  obtain ⟨hon, hd, hl, hp⟩ := h
  unfold todTake
  extract_lets cfg before x sec sixty next run d1 d2
  have hr' : ¬ (!m.ptp && !utcInRange m) = true := by rcases hr with hr | hr <;> simp [hr]
  rw [if_neg (by simp [hon, hd, hl, hp, cfg]), if_neg (by simp [before, cfg, hin, hok]), if_neg hr']
  exact ⟨_, _, _, sixty, before, rfl⟩

/-- A message that is heard: discarded with a decoder error or a range failure, or published. -/
theorem todTake_fields {m : TodMsg} {d : Dev} {n : Fin 64} (h : d.heard n m) :
    (todInWindow (bit (d.rd (buoyOff n)) 17) m = false ∨ m.checksOk = false → SetsBuoy n (d.buoy n).todDropped d (todTake n m d) ∧
      Within (slotScope [.regs, .watch, .buoys] n [0x28]) d (todTake n m d) ∧ Counts (buoyOff n + 0x28) 0 16 d (todTake n m d) ∧
      Reports 34 n d (todTake n m d)) ∧
    (todInWindow (bit (d.rd (buoyOff n)) 17) m = true → m.checksOk = true → m.ptp = false → utcInRange m = false →
      SetsBuoy n { (d.buoy n).todDropped with dec := { (d.buoy n).todDropped.dec with rangeNow := true } } d (todTake n m d) ∧
      Within (slotScope [.regs, .watch, .buoys] n [0x28]) d (todTake n m d) ∧ Counts (buoyOff n + 0x28) 16 16 d (todTake n m d) ∧
      Reports 33 n d (todTake n m d)) := by
  have h5 : (d.todDrop n).decoder n ≠ 5 := fun e => absurd (h.2.1.symm.trans e) (by decide)
  have hdrop := todDrop_buoy n d
  refine ⟨fun hbad => ?_, fun hin hok hptp hr => ?_⟩
  · rw [todTake_bad h hbad]
    obtain ⟨hb, hw, hc, hr⟩ := decErr_fields h5
    rw [hdrop.same] at hb
    exact ⟨hdrop.trans hb, ((Within.refl _ d).modDec (n := n)).trans hw, hc.before rfl, hr.before rfl⟩
  · rw [todTake_outOfRange h hin hok hptp hr]
    obtain ⟨hb, hw, hc, hr⟩ := rangeFail_fields h5
    rw [hdrop.same] at hb
    exact ⟨hdrop.trans hb, ((Within.refl _ d).modDec (n := n)).trans hw, hc.before rfl, hr.before rfl⟩

/-- What a message may change. -/
def todScope : Scope := partScope [.regs, .bar4, .host, .watch, .keeper, .buoys, .ts]

/-- An accepted message is published. -/
theorem todTake_told {m : TodMsg} {d : Dev} {n : Fin 64} (h : d.heard n m) (hin : todInWindow (bit (d.rd (buoyOff n)) 17) m = true)
    (hok : m.checksOk = true) (hr : m.ptp = true ∨ utcInRange m = true) :
    SetsBuoy n { d.buoy n with dec := (d.buoy n).dec.told m ((d.buoy n).dec.follows m) } d (todTake n m d) ∧
    (todTake n m d).rd (buoyOff n + 0x74) = word (todSecond m) ∧ (todTake n m d).rdF (buoyOff n + 0x70) 31 1 = 1 ∧
    (todTake n m d).rdF (buoyOff n + 0x70) 0 16 = (d.rdF (buoyOff n + 0x70) 0 16 + 1) % 65536 ∧ Within todScope d (todTake n m d) := by
  obtain ⟨a, b, c, sixty, before, he⟩ := todTake_accepted h hin hok hr
  rw [he]
  generalize hd1 : (d.modDec n (Decoder.told m ((d.buoy n).dec.follows m))).pubDec n [word (todSecond m), a, b, c] = d1
  have hset : SetsBuoy n { d.buoy n with dec := (d.buoy n).dec.told m ((d.buoy n).dec.follows m) } d d1 := by
    rw [← hd1]
    exact ((SetsBuoy.refl n d).modDec).within (.pubDec (.refl _ _) (fun _ _ => trivial) trivial)
  have hlab := todToTs_within (n := n) m.ptp sixty before (todSecond m) d1
  have h74 : d1.rd (buoyOff n + 0x74) = word (todSecond m) := by
    rw [← hd1]
    exact rd_pubDec n _ (i := 0) (Nat.succ_pos _)
  have h70 := pubDec_status n [word (todSecond m), a, b, c] (d.modDec n (Decoder.told m ((d.buoy n).dec.follows m)))
  rw [hd1] at h70
  refine ⟨hset.side hlab.buoys, (labelScope_slot hlab n).trans h74, ?_, ?_, ?_⟩
  · rw [Dev.rdF, labelScope_slot hlab n]
    exact h70.1
  · rw [Dev.rdF, labelScope_slot hlab n]
    exact h70.2
  · have hw : Within todScope d d1 := by
      rw [← hd1]
      exact .pubDec (Within.modDec (S := todScope) (.refl _ d)) (fun _ _ => trivial) trivial
    exact hw.todToTs (fun _ => trivial) ⟨⟨rfl, rfl, rfl⟩, rfl⟩ rfl rfl

end Sys2Proof.Machine
end

section
/-! LTC frames, AES3 blocks and video formats (chapter 3). -/

namespace Sys2Proof.Machine

set_option Elab.async false

variable {S : Scope} {d d₀ : Dev} {n : Fin 64} {x : Buoy} {s : State}

/-! ### LTC frames -/

/-- The label of a frame, where it is one at `rate` frames in a second. -/
def ltcLabel (f : LtcFrame) (rate : Nat) : Option (Nat × Nat × Nat × Nat) :=
  match bcd f.hh, bcd f.mm, bcd f.ss, bcd f.ff with
  | some h, some m, some s, some r => if h ≤ 23 && m ≤ 59 && s ≤ 59 && r < rate then some (h, m, s, r) else none
  | _, _, _, _ => none

/-- The label of a frame that stands: one that follows `p`. -/
def ltcStands (f : LtcFrame) (rate : Nat) (drop : Bool) (p : Option (Nat × Nat × Nat × Nat)) : Option (Nat × Nat × Nat × Nat) :=
  match ltcLabel f rate with
  | none => none
  | some l => match p with
    | some p => if ltcNext rate drop p = l then some l else none
    | none => some l

/-- The decoder after a frame that stands. -/
def Decoder.framed (l : Nat × Nat × Nat × Nat) (down : Bool) (fmt : Byte) (count : Nat) (x : Decoder) : Decoder :=
  { x with ltc := some l, run := x.run + 1, lock := x.lock || (decide (4 ≤ x.run + 1) && !down), rangeNow := false, frameBad := false, format := fmt,
           count := count }

/-- The decoder after a frame that does not stand. -/
def Decoder.unframed (x : Decoder) : Decoder := { x with lock := false, run := 0, ltc := none, frameBad := true }

theorem ltcTake_stands {f : LtcFrame} {l : Nat × Nat × Nat × Nat} {rate : Nat × Nat} (hon : d.buoysOn = true) (hd : d.decoder n = 4)
    (hr : d.ltcRate n f.drop = rate) (h : ltcStands f rate.2 (decide (rate.1 = 3)) (d.buoy n).dec.ltc = some l) :
    ∃ (fmt : Byte) (count : Nat) (a b : Word), ltcTake n f d =
      ((d.modDec n (Decoder.framed l (decide ((d.buoy n).act.st = .down)) fmt count)).pubDec n [word (leNat [f.ff, f.ss, f.mm, f.hh]), f.user, a, b]).qualEval n := by
  unfold ltcTake
  rw [if_pos (by simp [hon, hd])]
  rw [hr]
  extract_lets x rate drop lbl ok
  have hok : ok = ltcStands f rate.2 (decide drop) x.ltc := rfl
  rw [hok.trans h]
  exact ⟨_, _, _, _, rfl⟩

theorem ltcTake_falls {f : LtcFrame} {rate : Nat × Nat} (hon : d.buoysOn = true) (hd : d.decoder n = 4)
    (hr : d.ltcRate n f.drop = rate) (h : ltcStands f rate.2 (decide (rate.1 = 3)) (d.buoy n).dec.ltc = none) :
    ltcTake n f d = ((d.modDec n Decoder.unframed).rangeFail n).qualEval n := by
  unfold ltcTake
  rw [if_pos (by simp [hon, hd])]
  rw [hr]
  extract_lets x rate drop lbl ok
  have hok : ok = ltcStands f rate.2 (decide drop) x.ltc := rfl
  rw [hok.trans h]
  rfl

theorem ltcLabel_some {f : LtcFrame} {rate h m sec r : Nat} (hh : bcd f.hh = some h) (hm : bcd f.mm = some m) (hs : bcd f.ss = some sec)
    (hf : bcd f.ff = some r) : ltcLabel f rate = if h ≤ 23 && m ≤ 59 && sec ≤ 59 && r < rate then some (h, m, sec, r) else none := by
  unfold ltcLabel
  rw [hh, hm, hs, hf]

/-- A frame that has a label is of four pairs of digits. -/
theorem ltcLabel_bcd {f : LtcFrame} {rate : Nat} {l : Nat × Nat × Nat × Nat} (h : ltcLabel f rate = some l) :
    bcd f.hh = some l.1 ∧ bcd f.mm = some l.2.1 ∧ bcd f.ss = some l.2.2.1 ∧ bcd f.ff = some l.2.2.2 ∧ l.1 ≤ 23 ∧ l.2.1 ≤ 59 ∧ l.2.2.1 ≤ 59 ∧
    l.2.2.2 < rate := by
  unfold ltcLabel at h
  split at h
  next a b c e ha hb hc he =>
    split at h
    next hin =>
      cases h
      simp only [Bool.and_eq_true, decide_eq_true_eq] at hin
      exact ⟨ha, hb, hc, he, hin.1.1.1, hin.1.1.2, hin.1.2, hin.2⟩
    next => exact absurd h (by simp)
  next => exact absurd h (by simp)

theorem ltcStands_some {f : LtcFrame} {rate h m sec r : Nat} {drop : Bool} {p : Option (Nat × Nat × Nat × Nat)} (hh : bcd f.hh = some h)
    (hm : bcd f.mm = some m) (hs : bcd f.ss = some sec) (hf : bcd f.ff = some r) (h23 : h ≤ 23) (m59 : m ≤ 59) (s59 : sec ≤ 59) (hr : r < rate)
    (hp : ∀ q, p = some q → ltcNext rate drop q = (h, m, sec, r)) : ltcStands f rate drop p = some (h, m, sec, r) := by
  unfold ltcStands
  rw [ltcLabel_some hh hm hs hf, if_pos (by simp [h23, m59, s59, hr])]
  cases p with
  | none => rfl
  | some q => exact if_pos (hp q rfl)

theorem ltcStands_none {f : LtcFrame} {rate : Nat} {drop : Bool} {p : Option (Nat × Nat × Nat × Nat)}
    (hbad : ∀ h m sec r, bcd f.hh = some h → bcd f.mm = some m → bcd f.ss = some sec → bcd f.ff = some r →
      23 < h ∨ 59 < m ∨ 59 < sec ∨ rate ≤ r ∨ ∃ q, p = some q ∧ ltcNext rate drop q ≠ (h, m, sec, r)) : ltcStands f rate drop p = none := by
  unfold ltcStands
  cases hl : ltcLabel f rate with
  | none => rfl
  | some l =>
    obtain ⟨hh, hm, hs, hf, h23, m59, s59, hr⟩ := ltcLabel_bcd hl
    obtain h | h | h | h | ⟨q, hq, hne⟩ := hbad _ _ _ _ hh hm hs hf
    · omega
    · omega
    · omega
    · omega
    · rw [hq]
      exact if_neg hne

/-- A frame that stands, before the qualification looks at its slot. -/
theorem framed_fields (n : Fin 64) (l : Nat × Nat × Nat × Nat) (down : Bool) (fmt : Byte) (count : Nat) (a b u v : Word) (d : Dev) :
    ∃ e, (d.modDec n (Decoder.framed l down fmt count)).pubDec n [a, b, u, v] = e ∧
      SetsBuoy n { d.buoy n with dec := (d.buoy n).dec.framed l down fmt count } d e ∧ e.rd (buoyOff n + 0x74) = a ∧ e.rd (buoyOff n + 0x78) = b ∧
      Within (partScope [.regs, .buoys]) d e :=
  ⟨_, rfl, ((SetsBuoy.refl n d).modDec).within (.pubDec (.refl _ _) (fun _ _ => trivial) trivial), rd_pubDec n _ (i := 0) (Nat.succ_pos _),
    rd_pubDec n _ (i := 1) (Nat.succ_lt_succ (Nat.succ_pos _)),
    .pubDec (Within.modDec (S := partScope [.regs, .buoys]) (.refl _ d)) (fun _ _ => trivial) trivial⟩

/-! ### AES3 blocks -/

/-- A slot whose lock alone may have changed. -/
def Buoy.locked (l : Bool) (x : Buoy) : Buoy := { x with dec := { x.dec with lock := l } }

theorem SetsBuoy.decErrs (h : SetsBuoy n x d₀ d) (k : Nat) : ∃ l, SetsBuoy n (x.locked l) d₀ ((List.range k).foldl (fun d _ => d.decErr n) d) := by
  generalize List.range k = ks
  induction ks generalizing d x with
  | nil => exact ⟨x.dec.lock, h⟩
  | cons i ks ih =>
    obtain ⟨l, hl⟩ := ih ((h.modDec (f := fun x => { x with lock := x.lock && d.decoder n ≠ 5 })).within
      (((Within.refl _ _).bump (off := buoyOff n + 0x28) (lo := 0) (width := 16)).occur (src := 34) (obj := n)))
    exact ⟨l, hl⟩

/-- The slot with another decoder. -/
def Buoy.decBy (f : Decoder → Decoder) (x : Buoy) : Buoy := { x with dec := f x.dec }

/-- A slot whose last range check, and whose lock, may have changed. -/
def Buoy.ranged (r l : Bool) (x : Buoy) : Buoy := { x with dec := { x.dec with rangeNow := r, lock := l } }

theorem SetsBuoy.rangeFail (h : SetsBuoy n x d₀ d) : SetsBuoy n (x.ranged true (x.dec.lock && d.decoder n ≠ 5)) d₀ (d.rangeFail n) :=
  (h.modDec (f := fun x => { x with rangeNow := true, lock := x.lock && d.decoder n ≠ 5 })).within
    (((Within.refl _ _).bump (off := buoyOff n + 0x28) (lo := 16) (width := 16)).occur (src := 33) (obj := n))

/-- The decoder after a block of the rate `fmt`. -/
def Decoder.blocked (range lock : Bool) (fmt : Byte) (count : Nat) (x : Decoder) : Decoder :=
  { x with rangeNow := range, lock := lock, format := fmt, count := count }

/-- A block leaves the lock of a clean one, the format of its rate and a range failure of a block that is not whole. -/
theorem aesTake_fields (b : AesBlock) {d : Dev} {n : Fin 64} (hon : d.buoysOn = true) (hd : d.decoder n = 5) :
    ∃ count q, SetsBuoy n (((d.buoy n).decBy (Decoder.blocked (decide (b.frames ≠ 192))
      (decide (b.frames = 192 ∧ b.misplaced = 0) && b.crcOk && decide ((d.buoy n).act.st ≠ .down)) (b8 b.rate) count)).qualBy q) d (aesTake n b d) := by
  unfold aesTake
  rw [if_pos (by simp [hon, hd])]
  extract_lets whole d1 d2 clean up down d3 d4
  obtain ⟨l, h1⟩ : ∃ l, SetsBuoy n ((d.buoy n).locked l) d d1 := (SetsBuoy.refl n d).decErrs _
  have h2 : ∃ l, SetsBuoy n ((d.buoy n).ranged (decide (b.frames ≠ 192)) l) d d2 := by
    by_cases hw : b.frames = 192
    · rw [show d2 = d1.modDec n fun x => { x with rangeNow := false } from if_pos hw, show decide (b.frames ≠ 192) = false by simp [hw]]
      exact ⟨l, h1.modDec⟩
    · rw [show d2 = d1.rangeFail n from if_neg hw, show decide (b.frames ≠ 192) = true by simp [hw]]
      exact ⟨_, h1.rangeFail⟩
  clear_value d1 d2
  obtain ⟨l, h2⟩ := h2
  have hact : (d2.buoy n).act = (d.buoy n).act := (congrArg Buoy.act h2.same).trans rfl
  have h3 : SetsBuoy n _ d d3 := h2.modDec
  have h4 : SetsBuoy n _ d d4 := .ite (h3.within (.pubDec (.refl _ _) (fun _ _ => trivial) trivial)) h3
  obtain ⟨q, h5⟩ := h4.qualEval
  refine ⟨if up then (d.buoy n).dec.count + 1 else (d.buoy n).dec.count, q, ?_⟩
  have hlock : (clean && !decide down) = (decide (b.frames = 192 ∧ b.misplaced = 0) && b.crcOk && decide ((d.buoy n).act.st ≠ .down)) := by
    simp only [clean, whole, down, hact]
    by_cases hw : b.frames = 192 <;> by_cases hm : b.misplaced = 0 <;> simp [hw, hm]
  rw [← hlock]
  exact h5

/-- A clean block of a slot whose qualification rests publishes its words and changes no more. -/
theorem aesTake_clean {b : AesBlock} (hon : d.buoysOn = true) (hd : d.decoder n = 5) (hf : b.frames = 192) (hc : b.crcOk = true) (hm : b.misplaced = 0)
    (hq : (d.buoy n).qual.st = .idle ∨ (d.buoy n).qual.st = .held) : (aesTake n b d).rd (buoyOff n + 0x74) = word (leNat (b.status.take 4)) ∧
      Within (partScope [.regs, .buoys]) d (aesTake n b d) := by
  unfold aesTake
  rw [if_pos (by simp [hon, hd])]
  extract_lets whole d1 d2 clean up down d3 d4
  have h1 : d1 = d := by
    simp only [d1, hc, hm, if_true]
    rfl
  have h2 : d2 = d1.modDec n fun x => { x with rangeNow := false } := if_pos hf
  have h4 : ∃ a c : Word, d4 = d3.pubDec n [word (leNat (b.status.take 4)), a, 0, c] := ⟨_, _, if_pos (by simp [whole, hf, hc])⟩
  have w3 : Within (partScope [.regs, .buoys]) d d3 := by
    have : Within (partScope [.regs, .buoys]) d d2 := by rw [h2, h1]; exact (Within.refl _ d).modDec
    exact this.modDec
  have hq3 : (d3.buoy n).qual = (d.buoy n).qual := by
    have h : SetsBuoy n ((d.buoy n).decBy fun x => { x with rangeNow := false }) d d2 := by
      rw [h2, h1]
      exact (SetsBuoy.refl n d).modDec
    exact (congrArg Buoy.qual (h.modDec (f := fun x => { x with lock := clean && !decide down, format := b8 b.rate, count := if up then x.count + 1 else x.count })).same).trans rfl
  clear_value d3 d4
  obtain ⟨a, c, rfl⟩ := h4
  have hq4 : ((d3.pubDec n [word (leNat (b.status.take 4)), a, 0, c]).buoy n).qual = (d.buoy n).qual := hq3
  rw [qualEval_rest (by rw [hq4]; exact hq)]
  exact ⟨rd_pubDec n _ (i := 0) (Nat.succ_pos _), .pubDec w3 (fun _ _ => trivial) trivial⟩

/-! ### Video formats -/

theorem frameRate_le (fmt : Nat) : (frameRate fmt).1 ≤ 60000 ∧ (frameRate fmt).2 ≤ 1001 := by
  unfold frameRate
  repeat' split
  all_goals decide

theorem linesOf_le (fmt : Nat) : linesOf fmt ≤ 1125 := by
  unfold linesOf
  repeat' split
  all_goals decide

theorem setRate_reads {num den pre : Nat} (hn : num < 2 ^ 40) (hd : den < 65536) (hp : pre < 65536) (n : Fin 64) (d : Dev) :
    (d.setRate n num den pre).rdU40 (buoyOff n + 4) = num ∧ (d.setRate n num den pre).rdF (buoyOff n + 0xC) 0 16 = den ∧
    (d.setRate n num den pre).rdF (buoyOff n + 0xC) 16 16 = pre := by
  have htwos : twos 40 (num : Int) = num := by
    unfold twos
    omega
  have hfld : fld (word (pre * 65536 + den)) 0 16 = den ∧ fld (word (pre * 65536 + den)) 16 16 = pre := by
    simp only [fld, word, BitVec.toNat_ofNat]
    omega
  refine ⟨((rdU40_of_rd (rd_wr_ne _ _ (by omega)) (rd_wr_ne _ _ (by omega))).trans (rdU40_pub40 ..)).trans htwos, ?_, ?_⟩
  · rw [Dev.rdF, Dev.setRate, rd_wr_same]
    exact hfld.1
  · rw [Dev.rdF, Dev.setRate, rd_wr_same]
    exact hfld.2

/-- The loss of the slot, whatever it did before, leaves it DOWN and the other slots as they were. -/
theorem slotLoss_lost (n : Fin 64) (d : Dev) : ∃ x, SetsBuoy n x d (slotLoss n d) ∧ x.act.st = .down := by
  cases hst : (d.buoy n).act.st with
  | up =>
    rw [slotLoss_up hst]
    obtain ⟨q, hb, -⟩ := slotDown_lost (row := 2) (SetsBuoy.refl n d) hst
    exact ⟨_, hb, rfl⟩
  | returning =>
    rw [slotLoss_returning hst]
    exact ⟨_, (slotOff_marks n 4 d).1, rfl⟩
  | down =>
    rw [slotLoss_down hst]
    exact ⟨_, (SetsBuoy.refl n d).modDec, hst⟩

/-- The decoder of another format. -/
def Decoder.reformatted (fmt : Byte) (x : Decoder) : Decoder := { x with format := fmt, lock := false, run := 0 }

theorem videoFormat_eq {vin : Fin 4} {fmt : Byte} {v : Fin 64} (hv : v.val = 32 + vin.val) (hon : d.buoysOn = true) (hf : (d.buoy v).dec.format ≠ fmt) :
    ∃ d', videoFormat vin fmt d =
        (d'.modDec v (Decoder.reformatted fmt)).setRate v (linesOf fmt.toNat * (frameRate fmt.toNat).1) (frameRate fmt.toNat).2 0 ∧
      (∃ x, SetsBuoy v x d d' ∧ x.act.st = .down) ∧ ((d.buoy v).act.st = .down → d' = d) := by
  have hvin : (⟨32 + vin.val, by omega⟩ : Fin 64) = v := Fin.ext hv.symm
  unfold videoFormat
  rw [hvin]
  extract_lets n old d1 r
  rw [if_pos (by simp only [hon, Bool.true_and, decide_eq_true_eq]; exact hf)]
  refine ⟨d1, rfl, ?_, fun hst => if_pos hst⟩
  by_cases hst : (d.buoy v).act.st = .down
  · rw [show d1 = d from if_pos hst]
    exact ⟨_, .refl v d, hst⟩
  · rw [show d1 = (slotLoss v d).event 0x05 v 6 [old, fmt] from if_neg hst]
    obtain ⟨x, hb, hx⟩ := slotLoss_lost v d
    exact ⟨x, hb.within (Within.refl _ _).event, hx⟩

theorem videoRate_lt (fmt : Nat) : linesOf fmt * (frameRate fmt).1 < 2 ^ 40 ∧ (frameRate fmt).2 < 65536 := by
  obtain ⟨h1, h2⟩ := frameRate_le fmt
  have h := Nat.mul_le_mul (linesOf_le fmt) h1
  omega

/-- A slot takes another format and its rate. -/
theorem reformatted_fields {num den : Nat} (hn : num < 2 ^ 40) (hd : den < 65536) {v : Fin 64} (fmt : Byte) (h : SetsBuoy v x d₀ d) :
    ∃ e, (d.modDec v (Decoder.reformatted fmt)).setRate v num den 0 = e ∧ SetsBuoy v (x.decBy (Decoder.reformatted fmt)) d₀ e ∧
      e.rdU40 (buoyOff v + 4) = num ∧ e.rdF (buoyOff v + 0xC) 0 16 = den ∧ Within (slotScope [.regs, .buoys] v [4, 8, 0xC]) d e := by
  obtain ⟨h4, hC, -⟩ := setRate_reads hn hd (Nat.zero_lt_succ _) v (d.modDec v (Decoder.reformatted fmt))
  exact ⟨_, rfl, h.modDec.within (.setRate (.refl _ _) trivial trivial trivial), h4, hC,
    .setRate (Within.modDec (.refl _ d)) (slotScope_reg (k := 4)) (slotScope_reg (k := 8)) (slotScope_reg (k := 0xC))⟩

end Sys2Proof.Machine
end

section
/-! The statement about the decoders. -/

namespace Sys2Proof.Machine

set_option Elab.async false

/-- Settles O47: each decoder's operation on what it decodes, by its outcome. -/
theorem decoders : Obligations.Decoders := by
  unfold Obligations.Decoders
  intro k n s hon hn
  have hk : Fin.castLE (by omega : 32 ≤ 64) k = n := hn.symm
  refine ⟨fun m hd hl hp => ?_, fun f h m sec r hd hh hm hs hf h23 m59 s59 hr hnext => ?_, fun f hd hbad => ?_, fun b hd => ?_, fun vin fmt v hv hf => ?_⟩
  · have hx := exec_run (x := .todMessage k m) (s := s) rfl rfl
    rw [hk] at hx
    have hheard : s.dev.heard n m := ⟨hon, hd, hl, hp⟩
    obtain ⟨hbad, hout⟩ := todTake_fields hheard
    refine ⟨fun h => ?_, fun hin hok hptp hr => ?_, fun next hin hok hr hnext => ?_⟩
    · obtain ⟨hb, hw, hc, hrep⟩ := hbad h
      exact ⟨_, hx, rfl, hc, hw.keepsRegs (fun _ h => h), hrep,
        hw.eq.trans (congrArg (fun b => ({ s.dev with regs := (todTake n m s.dev).regs, watch := (todTake n m s.dev).watch, buoys := b } : Dev)) hb)⟩
    · obtain ⟨hb, hw, hc, hrep⟩ := hout hin hok hptp hr
      exact ⟨_, hx, rfl, hc, hw.keepsRegs (fun _ h => h), hrep, congrArg (fun b => b.dec.todValid) hb.same, congrArg (fun b => b.dec.rangeNow) hb.same⟩
    · obtain ⟨hb, h74, h31, h0, hw⟩ := todTake_told hheard hin hok hr
      obtain rfl : (s.dev.buoy n).dec.follows m = next := Bool.eq_iff_iff.mpr (Decoder.follows_iff.trans hnext.symm)
      generalize todTake n m s.dev = e at *
      have hdec : (e.buoy n).dec = (s.dev.buoy n).dec.told m ((s.dev.buoy n).dec.follows m) := congrArg Buoy.dec hb.same
      refine ⟨_, hx, rfl, congrArg Decoder.todSec hdec, congrArg Decoder.todRun hdec, ?_, h74, h31, h0, fun j hj => hb.ne hj, hw.eq⟩
      show (e.buoy n).dec.todValid = (_ || decide ((e.buoy n).dec.todRun = 3))
      rw [hdec]
      rfl
  · have hx := exec_run (x := .ltcFrame k f) (s := s) rfl rfl
    rw [hk] at hx
    obtain ⟨fmt, count, a, b, he⟩ := ltcTake_stands hon hd rfl (ltcStands_some hh hm hs hf h23 m59 s59 hr hnext)
    rw [he] at hx
    obtain ⟨e, h1, hb, h74, h78, hw⟩ := framed_fields n (h, m, sec, r) (decide ((s.dev.buoy n).act.st = .down)) fmt count
      (word (leNat [f.ff, f.ss, f.mm, f.hh])) f.user a b s.dev
    rw [h1] at hx
    obtain ⟨q, hq⟩ := hb.qualEval
    have hrest : (s.dev.buoy n).qual.st = .idle ∨ (s.dev.buoy n).qual.st = .held → e.qualEval n = e := fun h =>
      qualEval_rest (by rw [hb.same]; exact h)
    generalize e.qualEval n = e' at *
    have hdec : (e'.buoy n).dec = (s.dev.buoy n).dec.framed (h, m, sec, r) (decide ((s.dev.buoy n).act.st = .down)) fmt count := congrArg Buoy.dec hq.same
    refine ⟨_, hx, rfl, congrArg Decoder.ltc hdec, congrArg Decoder.run hdec, congrArg Decoder.rangeNow hdec, congrArg Decoder.frameBad hdec,
      (congrArg Decoder.lock hdec).trans ?_, (congrArg Buoy.act hq.same).trans rfl, fun j hj => hq.ne hj, fun h => ?_⟩
    · simp [Decoder.framed]
    · rw [hrest h]
      exact ⟨h74, h78, hw.eq⟩
  · have hx := exec_run (x := .ltcFrame k f) (s := s) rfl rfl
    rw [hk] at hx
    rw [ltcTake_falls hon hd rfl (ltcStands_none hbad)] at hx
    have hd4 : (s.dev.modDec n Decoder.unframed).decoder n = 4 := hd
    obtain ⟨q, hq⟩ := (((SetsBuoy.refl n s.dev).modDec (f := Decoder.unframed)).rangeFail).qualEval
    generalize Dev.qualEval n _ = e at *
    have hdec := congrArg Buoy.dec hq.same
    exact ⟨_, hx, rfl, (congrArg Decoder.lock hdec).trans rfl, congrArg Decoder.ltc hdec, congrArg Decoder.rangeNow hdec, congrArg Decoder.frameBad hdec,
      (congrArg Buoy.act hq.same).trans rfl, fun j hj => hq.ne hj⟩
  · have hx := exec_run (x := .aesBlock k b) (s := s) rfl rfl
    rw [hk] at hx
    obtain ⟨count, q, hb⟩ := aesTake_fields b hon hd
    have hclean := fun hf hc hm hq => aesTake_clean (b := b) hon hd hf hc hm hq
    generalize aesTake n b s.dev = e at *
    have hdec := congrArg Buoy.dec hb.same
    refine ⟨_, hx, rfl, congrArg Decoder.lock hdec, congrArg Decoder.format hdec, congrArg Decoder.rangeNow hdec, (congrArg Buoy.act hb.same).trans rfl,
      fun j hj => hb.ne hj, fun hf hc hm hq => ?_⟩
    obtain ⟨h74, hw⟩ := hclean hf hc hm hq
    exact ⟨h74, hw.eq⟩
  · have hx := exec_run (x := .videoFormatChange vin fmt) (s := s) rfl rfl
    obtain ⟨d', he, ⟨x, hb, hst⟩, hdown⟩ := videoFormat_eq hv hon hf
    rw [he] at hx
    obtain ⟨hnum, hden⟩ := videoRate_lt fmt.toNat
    obtain ⟨e, h1, hset, h4, hC, hw⟩ := reformatted_fields hnum hden fmt hb
    rw [h1] at hx
    have hdec := congrArg Buoy.dec hset.same
    refine ⟨_, hx, rfl, congrArg Decoder.format hdec, congrArg Decoder.lock hdec, (congrArg (fun b => b.act.st) hset.same).trans hst, h4, hC,
      fun j hj => hset.ne hj, fun h => ?_⟩
    rw [hdown h] at hw
    exact ⟨hw.eq, hw.keepsRegs fun _ h => h⟩

end Sys2Proof.Machine
end

section
/-! The monitors of the Buoys (chapter 3): the frequency gate, TIE samples and the MTIE period. -/

namespace Sys2Proof.Machine

set_option Elab.async false

variable {S : Scope} {d d₀ : Dev} {n : Fin 64} {x : Buoy} {s : State}

theorem SetsBuoy.isUp (h : SetsBuoy n x d₀ d) : d.isUp n = decide (x.act.st = .up) := (congrArg (fun b : Buoy => decide (b.act.st = .up)) h.same).trans rfl

/-! ### The frequency gate -/

/-- The slot with other monitors. -/
def Buoy.monBy (m : Monitor) (x : Buoy) : Buoy := { x with mon := m }

/-- A 40-bit value reads the same where the registers are the same. -/
theorem rd40_of_regs {e d : Dev} (h : e.regs = d.regs) (base : Nat) : e.rd40 base = d.rd40 base :=
  rd40_of_rd (congrArg (fun r => Tab.get resetWord r base) h) (congrArg (fun r => Tab.get resetWord r (base + 4)) h)

theorem rd_modMon (n : Fin 64) (f : Monitor → Monitor) (a : Nat) (d : Dev) : (d.modMon n f).rd a = d.rd a := rfl

theorem rd40_modMon (n : Fin 64) (f : Monitor → Monitor) (base : Nat) (d : Dev) : (d.modMon n f).rd40 base = d.rd40 base :=
  rd40_of_regs (e := d.modMon n f) (d := d) rfl base

/-- The result `y` is published and stands in the monitors of slot `n`. -/
def Dev.Publishes (n : Fin 64) (y : Int) (d d' : Dev) : Prop :=
  ∃ m, SetsBuoy n ((d.buoy n).monBy m) d d' ∧ m.freqValid = true ∧ m.y = sat40 y ∧ d'.rd40 (buoyOff n + 0x30) = sat40 y

theorem gatePublish_publishes (n : Fin 64) (y : Int) (d : Dev) : d.Publishes n y (d.gatePublish n y) := by
  rw [gatePublish_eq]
  beta_reduce
  extract_lets means d1
  have hb : SetsBuoy n _ d d1 := ((SetsBuoy.refl n d).within (.pub40 (.refl _ _) trivial trivial)).modMon
  have hrd : d1.rd40 (buoyOff n + 0x30) = sat40 y := (rd40_modMon ..).trans (rd40_pub40 ..)
  cases d1.cmpChan n with
  | none => exact ⟨_, hb.modMon, rfl, rfl, (rd40_modMon ..).trans hrd⟩
  | some c =>
    have hb2 := hb.within (Within.pub40 (base := buoyOff n + 0x38) (v := sat40 (ffoRatio y (means.getD c.val 0))) (.refl _ _) trivial trivial)
    refine ⟨_, hb2.modMon, rfl, rfl, (rd40_modMon ..).trans (Eq.trans ?_ hrd)⟩
    exact rd40_of_rd (rd_pub40_ne _ _ (by omega) (by omega)) (rd_pub40_ne _ _ (by omega) (by omega))

theorem gatePublish_within (n : Fin 64) (y : Int) (d : Dev) : Within (slotScope [.regs, .buoys] n [0x30, 0x34, 0x38, 0x3C]) d (d.gatePublish n y) :=
  .gatePublish (.refl _ d) (slotScope_reg (k := 0x30)) (slotScope_reg (k := 0x34)) (slotScope_reg (k := 0x38)) (slotScope_reg (k := 0x3C))

theorem gateEnd_some {y : Int} (hon : d.buoysOn = true) (hc : (d.buoy n).mon.gateClean = true) (hu : d.isUp n = true) (hy : d.gateY n = some y) :
    gateEnd n d = if decide (281474976710656 < y.natAbs * 100) then (((d.gatePublish n y).modAct n fun a => { a with gross := true }).slotDown n 2).gateStart n
      else ((d.gatePublish n y).qualEval n).gateStart n := by
  unfold gateEnd
  rw [if_pos hon, hc, hu, hy]
  rfl

theorem gateEnd_none (hon : d.buoysOn = true) (h : (d.buoy n).mon.gateClean = false ∨ d.isUp n = false ∨ d.gateY n = none) :
    gateEnd n d = (d.modMon n fun m => { m with gateFfo := [] }).gateStart n := by
  have hnone : (if (d.buoy n).mon.gateClean && d.isUp n then d.gateY n else none) = none := by
    rcases h with h | h | h
    · rw [h]; rfl
    · rw [h, Bool.and_false]; rfl
    · rw [h, ite_self]
  unfold gateEnd
  rw [if_pos hon, hnone]

/-- Monitors whose next gate begins. -/
def Monitor.restarted (up : Bool) (marks : List (Int × Nat)) (m : Monitor) : Monitor :=
  { m with gateFrom := none, gateN := 0, gateClean := up, gateChans := marks }

theorem SetsBuoy.gateStart (h : SetsBuoy n x d₀ d) : SetsBuoy n (x.monBy (x.mon.restarted (d.isUp n) d.ffoMarks)) d₀ (d.gateStart n) := h.modMon

theorem gateStart_chans (n : Fin 64) (d : Dev) : (d.gateStart n).chans = d.chans := rfl

/-- A result within 1 %: the next gate begins, and the slot stays as it is but for its monitors and its qualification. -/
theorem gateEnd_published {y : Int} {d : Dev} {n : Fin 64} (hon : d.buoysOn = true) (hc : (d.buoy n).mon.gateClean = true) (hu : d.isUp n = true)
    (hy : d.gateY n = some y) (h : y.natAbs * 100 ≤ 281474976710656) :
    ∃ m q, SetsBuoy n (((d.buoy n).monBy m).qualBy q) d (gateEnd n d) ∧
    m.freqValid = true ∧ m.y = sat40 y ∧ m.gateFrom = none ∧ m.gateN = 0 ∧ ((d.buoy n).qual.st = .idle ∨ (d.buoy n).qual.st = .held →
      (gateEnd n d).rd40 (buoyOff n + 0x30) = sat40 y ∧ Within (slotScope [.regs, .buoys] n [0x30, 0x34, 0x38, 0x3C]) d (gateEnd n d)) := by
  rw [gateEnd_some hon hc hu hy, if_neg (by simp only [decide_eq_true_eq]; omega)]
  obtain ⟨m, hb, hf, hmy, hrd⟩ := gatePublish_publishes n y d
  have hw := gatePublish_within n y d
  generalize d.gatePublish n y = e at *
  obtain ⟨q, hq⟩ := hb.qualEval
  refine ⟨_, q, hq.gateStart, hf, hmy, rfl, rfl, fun hrest => ?_⟩
  rw [qualEval_rest (by rw [hb.same]; exact hrest)]
  exact ⟨(rd40_modMon ..).trans hrd, hw.gateStart⟩

/-- A result beyond 1 % takes the slot down. -/
theorem gateEnd_gross {y : Int} (hon : s.dev.buoysOn = true) (hc : (s.dev.buoy n).mon.gateClean = true) (hu : s.dev.isUp n = true)
    (hy : s.dev.gateY n = some y) (h : 281474976710656 < y.natAbs * 100) : SlotIsDown n s { s with dev := gateEnd n s.dev } ∧
      ((gateEnd n s.dev).buoy n).act.gross = true := by
  rw [gateEnd_some hon hc hu hy, if_pos (by simp only [decide_eq_true_eq]; omega)]
  obtain ⟨m, hb, -⟩ := gatePublish_publishes n y s.dev
  have hw : Within (partScope lossScope.parts) s.dev (s.dev.gatePublish n y) := .gatePublish (.refl _ _) trivial trivial trivial trivial
  generalize s.dev.gatePublish n y = e at *
  have hst : (s.dev.buoy n).act.st = .up := of_decide_eq_true hu
  have hact := hb.modAct (f := fun a => { a with gross := true })
  obtain ⟨q, hlost, hq, hun, -⟩ := slotDown_lost (row := 2) hact hst
  have hend := hlost.gateStart
  have hwe : Within (partScope lossScope.parts) s.dev (((e.modAct n fun a => { a with gross := true }).slotDown n 2).gateStart n) :=
    ((hw.modAct).slotDown ⟨⟨fun _ _ => trivial, ⟨⟨rfl, rfl, rfl⟩, rfl⟩, rfl, rfl, rfl, rfl, rfl⟩, rfl, rfl, rfl⟩).gateStart
  exact ⟨slotIsDown_of hend rfl rfl rfl rfl hq (hun.of_chans (gateStart_chans ..)) hwe.eq, (congrArg (fun b => b.act.gross) hend.same).trans rfl⟩

/-- A gate without a result: the next one begins. -/
theorem gateEnd_empty (hon : d.buoysOn = true) (h : (d.buoy n).mon.gateClean = false ∨ d.isUp n = false ∨ d.gateY n = none) :
    gateEnd n d = { d with buoys := d.buoys.set n { d.buoy n with mon := { (d.buoy n).mon with
      gateFfo := [], gateFrom := none, gateN := 0, gateClean := d.isUp n, gateChans := d.ffoMarks } } } := by
  rw [gateEnd_none hon h]
  have h1 : SetsBuoy n ((d.buoy n).monBy { (d.buoy n).mon with gateFfo := [] }) d (d.modMon n fun m => { m with gateFfo := [] }) :=
    (SetsBuoy.refl n d).modMon
  have hw : Within (partScope [.buoys]) d ((d.modMon n fun m => { m with gateFfo := [] }).gateStart n) := ((Within.refl _ d).modMon).gateStart
  have hup : (d.modMon n fun m => { m with gateFfo := [] }).isUp n = d.isUp n := h1.isUp
  have hmarks : (d.modMon n fun m => { m with gateFfo := [] }).ffoMarks = d.ffoMarks := rfl
  have h2 := h1.gateStart
  rw [hup, hmarks] at h2
  exact hw.eq.trans (congrArg (fun b => ({ d with buoys := b } : Dev)) h2)

/-! ### TIE samples -/

/-- The sample of a slot: its phase from the zero of the period. -/
def Dev.tieNow (n : Fin 64) (d : Dev) : Int :=
  sat40 (d.tieRaw n - (match (d.buoy n).mon.tieZero with
    | some z => if (d.buoy n).mon.tieCh = d.cmpChan n then z else d.tieRaw n
    | none => d.tieRaw n))

/-- The monitors with one more sample. -/
def Monitor.sampled (ch : Option (Fin 16)) (zero v : Int) (m : Monitor) : Monitor := { m with tieCh := ch, tieZero := some zero, tie := m.tie ++ [v] }

theorem tieTake_eq (hon : d.buoysOn = true) (hu : d.isUp n = true) : ∃ ch zero, tieTake n d =
    (((if (d.buoy n).mon.tie.isEmpty then d.wrF (buoyOff n + 0x50) 31 1 0 else d).pub40 (buoyOff n + 0x40) (d.tieNow n)).modMon n
      (Monitor.sampled ch zero (d.tieNow n))) := by
  simp only [tieTake, hon, hu, Bool.and_self, if_true]
  exact ⟨_, _, rfl⟩

/-! ### The MTIE period -/

/-- Results for the observation intervals `ks`: that of the samples where there is one. -/
theorem mtieResults_fold (n : Fin 64) (d : Dev) (ks : List Nat) (acc : List Nat) (d' : Dev) :
    ∃ (vs : List Nat) (e : Dev), ks.foldl (fun (a : List Nat × Dev) k =>
      match mtieOf (2 ^ d.rdF (buoyOff n + 0x1C) (5 * k) 5) (d.buoy n).mon.tie with
      | some v => (a.1 ++ [satN 32 v], a.2)
      | none => let r := a.2.draw; (a.1 ++ [r.1.toNat % 4294967296], r.2)) (acc, d') = (acc ++ vs, e) ∧ vs.length = ks.length ∧
    (∀ (i k v : Nat), ks[i]? = some k → mtieOf (2 ^ d.rdF (buoyOff n + 0x1C) (5 * k) 5) (d.buoy n).mon.tie = some v → vs[i]? = some (satN 32 v)) ∧
    ∀ S : Scope, S.Has .draws → Within S d' e := by
  induction ks generalizing acc d' with
  | nil => exact ⟨[], d', by simp, rfl, fun i k v h => by simp at h, fun S _ => .refl S _⟩
  | cons k ks ih =>
    have hstep : ∃ w d'', (match mtieOf (2 ^ d.rdF (buoyOff n + 0x1C) (5 * k) 5) (d.buoy n).mon.tie with
        | some v => (acc ++ [satN 32 v], d')
        | none => let r := d'.draw; (acc ++ [r.1.toNat % 4294967296], r.2)) = (acc ++ [w], d'') ∧
        (∀ v, mtieOf (2 ^ d.rdF (buoyOff n + 0x1C) (5 * k) 5) (d.buoy n).mon.tie = some v → w = satN 32 v) ∧
        ∀ S : Scope, S.Has .draws → Within S d' d'' := by
      cases mtieOf (2 ^ d.rdF (buoyOff n + 0x1C) (5 * k) 5) (d.buoy n).mon.tie with
      | none => exact ⟨_, _, rfl, fun v h => (by cases h), fun S hS => (Within.refl S d').draw hS⟩
      | some u => exact ⟨_, _, rfl, fun v h => by cases h; rfl, fun S _ => .refl S d'⟩
    obtain ⟨w, d'', hs, hv, hw⟩ := hstep
    obtain ⟨vs, e, he, hlen, hvs, hwe⟩ := ih (acc ++ [w]) d''
    refine ⟨w :: vs, e, ?_, by simp [hlen], fun i k' v hk hm => ?_, fun S hS => (hw S hS).trans (hwe S hS)⟩
    · rw [List.foldl_cons]
      dsimp only
      rw [hs, he]
      simp
    · cases i with
      | zero =>
        obtain rfl : k = k' := by simpa using hk
        simp [hv v hm]
      | succ i => exact (by simpa using hvs i k' v (by simpa using hk) hm)

theorem mtieResults_fields (n : Fin 64) (d : Dev) : (d.mtieResults n).1.length = 4 ∧
    (∀ k v, k < 4 → mtieOf (2 ^ d.rdF (buoyOff n + 0x1C) (5 * k) 5) (d.buoy n).mon.tie = some v → (d.mtieResults n).1[k]? = some (satN 32 v)) ∧
    ∀ S : Scope, S.Has .draws → Within S d (d.mtieResults n).2 := by
  obtain ⟨vs, e, he, hlen, hvs, hw⟩ := mtieResults_fold n d (List.range 4) [] d
  have he' : d.mtieResults n = ([] ++ vs, e) := he
  rw [he']
  exact ⟨hlen, fun k v hk hm => hvs k k v (List.getElem?_range hk) hm, hw⟩

/-- The monitors whose MTIE period has ended. -/
def Monitor.ended (up : Bool) (vs : List Nat) (m : Monitor) : Monitor := { m with tie := [], tieLeft := false, mtie := if up then some vs else none }

/-- The results of a period in their registers. -/
def Dev.mtiePublish (n : Fin 64) (vs : List Nat) (left : Bool) (d : Dev) : Dev :=
  (d.wrWords (buoyOff n + 0x54) (vs.map word)).pubStat (buoyOff n + 0x50) (if left then 16384 else 0)

theorem mtieEnd_eq (hon : d.buoysOn = true) (h : (d.buoy n).mon.tie ≠ [] ∨ (d.buoy n).mon.tieLeft = true) : mtieEnd n d =
    (((d.mtieResults n).2.mtiePublish n (d.mtieResults n).1 (d.buoy n).mon.tieLeft).modMon n
      (Monitor.ended (((d.mtieResults n).2.mtiePublish n (d.mtieResults n).1 (d.buoy n).mon.tieLeft).isUp n) (d.mtieResults n).1)).qualEval n := by
  have hgo : (d.buoysOn && (!(d.buoy n).mon.tie.isEmpty || (d.buoy n).mon.tieLeft)) = true := by
    rcases h with h | h
    · simp [hon, h]
    · simp [hon, h]
  unfold mtieEnd
  rw [if_pos hgo]
  rfl

theorem mtiePublish_fields {vs : List Nat} (left : Bool) (hlen : vs.length = 4) (n : Fin 64) (d : Dev) :
    (d.mtiePublish n vs left).rdF (buoyOff n + 0x50) 31 1 = 1 ∧ (d.mtiePublish n vs left).rdF (buoyOff n + 0x50) 30 1 = bitAt 0 left ∧
    (d.mtiePublish n vs left).rdF (buoyOff n + 0x50) 0 16 = (d.rdF (buoyOff n + 0x50) 0 16 + 1) % 65536 ∧
    ∀ k v, k < 4 → vs[k]? = some v → (d.mtiePublish n vs left).rd (buoyOff n + 0x54 + 4 * k) = word v := by
  have hextra : (if left then 16384 else 0) < 32768 := by split <;> decide
  obtain ⟨h31, h0, h30⟩ := pubStat_fields (buoyOff n + 0x50) hextra (d.wrWords (buoyOff n + 0x54) (vs.map word))
  refine ⟨h31, h30.trans ?_, h0.trans ?_, fun k v hk hv => ?_⟩
  · cases left <;> rfl
  · rw [Dev.rdF, rd_wrWords_out _ _ _ d (fun i _ => by omega), Dev.rdF]
  · have hkl : k < (vs.map word).length := by simp [hlen, hk]
    refine ((rd_pubStat_ne _ _ (by omega)).trans (rd_wrWords_in _ _ k d hkl)).trans ?_
    simp [List.getD, hv]

/-- The end of a period: its results stand, and the slot stays as it is but for its monitors and its qualification. -/
theorem mtieEnd_fields {d : Dev} {n : Fin 64} (hon : d.buoysOn = true) (h : (d.buoy n).mon.tie ≠ [] ∨ (d.buoy n).mon.tieLeft = true) :
    ∃ vs q, SetsBuoy n (((d.buoy n).monBy ((d.buoy n).mon.ended (d.isUp n) vs)).qualBy q) d (mtieEnd n d) ∧
    ((d.buoy n).qual.st = .idle ∨ (d.buoy n).qual.st = .held → Within (partScope [.regs, .draws, .buoys]) d (mtieEnd n d) ∧
      (mtieEnd n d).rdF (buoyOff n + 0x50) 31 1 = 1 ∧ (mtieEnd n d).rdF (buoyOff n + 0x50) 30 1 = bitAt 0 (d.buoy n).mon.tieLeft ∧
      (mtieEnd n d).rdF (buoyOff n + 0x50) 0 16 = (d.rdF (buoyOff n + 0x50) 0 16 + 1) % 65536 ∧
      ∀ k v, k < 4 → mtieOf (2 ^ d.rdF (buoyOff n + 0x1C) (5 * k) 5) (d.buoy n).mon.tie = some v →
        (mtieEnd n d).rd (buoyOff n + 0x54 + 4 * k) = word (satN 32 v)) := by
  rw [mtieEnd_eq hon h]
  obtain ⟨hlen, hvs, hw⟩ := mtieResults_fields n d
  generalize (d.mtieResults n).1 = vs at *
  generalize (d.mtieResults n).2 = e at *
  have hregs : e.rdF (buoyOff n + 0x50) 0 16 = d.rdF (buoyOff n + 0x50) 0 16 :=
    congrArg (fun r => fld (Tab.get resetWord r (buoyOff n + 0x50)) 0 16) (show e.regs = d.regs from (hw (partScope [.draws]) rfl).same .regs rfl)
  obtain ⟨h31, h30, h0, hrd⟩ := mtiePublish_fields (d.buoy n).mon.tieLeft hlen n e
  have hwp : Within (partScope [.regs, .draws, .buoys]) d (e.mtiePublish n vs (d.buoy n).mon.tieLeft) :=
    .pubStat (.wrWords (S := partScope [.regs, .draws, .buoys]) (hw _ rfl) (fun _ _ => trivial) rfl) trivial
  have hbp : SetsBuoy n (d.buoy n) d (e.mtiePublish n vs (d.buoy n).mon.tieLeft) :=
    (SetsBuoy.refl n d).within (.pubStat (.wrWords (S := asideBuoys) (hw _ rfl) (fun _ _ => trivial) rfl) trivial)
  generalize e.mtiePublish n vs (d.buoy n).mon.tieLeft = e' at *
  rw [show e'.isUp n = d.isUp n from hbp.isUp]
  have hbm := hbp.modMon (f := Monitor.ended (d.isUp n) vs)
  obtain ⟨q, hq⟩ := hbm.qualEval
  refine ⟨vs, q, hq, fun hrest => ?_⟩
  rw [qualEval_rest (by rw [hbm.same]; exact hrest)]
  exact ⟨hwp.modMon, h31, h30, h0.trans (by rw [hregs]), fun k v hk hm => hrd k _ hk (hvs k v hk hm)⟩

/-- A sample of an UP slot is published and joins the samples of its period, which it begins where there is none. -/
theorem tieTake_fields {d : Dev} {n : Fin 64} (hon : d.buoysOn = true) (hu : d.isUp n = true) : ∃ ch zero,
    SetsBuoy n ((d.buoy n).monBy ((d.buoy n).mon.sampled ch zero (d.tieNow n))) d (tieTake n d) ∧
    (tieTake n d).rd40 (buoyOff n + 0x40) = d.tieNow n ∧ Within (slotScope [.regs, .buoys] n [0x40, 0x44, 0x50]) d (tieTake n d) ∧
    ((d.buoy n).mon.tie = [] → (tieTake n d).rdF (buoyOff n + 0x50) 31 1 = 0 ∧ (tieTake n d).rdF (buoyOff n + 0x50) 0 31 = d.rdF (buoyOff n + 0x50) 0 31) ∧
    ((d.buoy n).mon.tie ≠ [] → (tieTake n d).rd (buoyOff n + 0x50) = d.rd (buoyOff n + 0x50)) := by
  obtain ⟨ch, zero, he⟩ := tieTake_eq hon hu
  rw [he]
  have h50 : ((d.buoy n).mon.tie = [] → (if (d.buoy n).mon.tie.isEmpty then d.wrF (buoyOff n + 0x50) 31 1 0 else d) = d.wrF (buoyOff n + 0x50) 31 1 0) ∧
      ((d.buoy n).mon.tie ≠ [] → (if (d.buoy n).mon.tie.isEmpty then d.wrF (buoyOff n + 0x50) 31 1 0 else d) = d) :=
    ⟨fun h => if_pos (by simp [h]), fun h => if_neg (by simp [h])⟩
  have hb : SetsBuoy n (d.buoy n) d (if (d.buoy n).mon.tie.isEmpty then d.wrF (buoyOff n + 0x50) 31 1 0 else d) :=
    .ite ((SetsBuoy.refl n d).within ((Within.refl _ d).wrF trivial)) (.refl n d)
  have hw : Within (slotScope [.regs, .buoys] n [0x40, 0x44, 0x50]) d (if (d.buoy n).mon.tie.isEmpty then d.wrF (buoyOff n + 0x50) 31 1 0 else d) :=
    .ite (fun _ => (Within.refl _ d).wrF (slotScope_reg (k := 0x50))) fun _ => .refl _ d
  generalize (if (d.buoy n).mon.tie.isEmpty then d.wrF (buoyOff n + 0x50) 31 1 0 else d) = e at *
  have hv : ∃ v, d.tieNow n = sat40 v := ⟨_, rfl⟩
  generalize d.tieNow n = v at *
  obtain ⟨u, rfl⟩ := hv
  have hrd : ((e.pub40 (buoyOff n + 0x40) (sat40 u)).modMon n (Monitor.sampled ch zero (sat40 u))).rd (buoyOff n + 0x50) = e.rd (buoyOff n + 0x50) :=
    (rd_modMon ..).trans (rd_pub40_ne _ _ (by omega) (by omega))
  refine ⟨ch, zero, (hb.within (.pub40 (.refl _ e) trivial trivial)).modMon, (rd40_modMon ..).trans (rd40_pub40 ..),
    (hw.pub40 (slotScope_reg (k := 0x40)) (slotScope_reg (k := 0x44))).modMon, fun h => ?_, fun h => ?_⟩
  · rw [Dev.rdF, hrd, Dev.rdF, hrd, h50.1 h]
    exact ⟨rdF_wrF_same _ d (by decide) (by decide), rdF_wrF_below _ 0 d (by decide) (by decide)⟩
  · rw [hrd, h50.2 h]

/-- Settles O48: the gate, the samples and the period by their results. -/
theorem monitors : Obligations.Monitors := by
  unfold Obligations.Monitors
  intro n s hon
  refine ⟨fun y hc hu hy => ⟨fun h => ?_, fun h => ?_⟩, fun h => ?_, fun v hu hv => ?_, fun h => ?_⟩
  · have hx := exec_run (x := .freqGateEnd n) (s := s) rfl rfl
    obtain ⟨m, q, hb, hf, hmy, hfrom, hn, hrest⟩ := gateEnd_published hon hc hu hy h
    generalize gateEnd n s.dev = e at *
    have hmon : (e.buoy n).mon = m := congrArg Buoy.mon hb.same
    refine ⟨_, hx, rfl, (congrArg Monitor.freqValid hmon).trans hf, (congrArg Monitor.y hmon).trans hmy, (congrArg Monitor.gateFrom hmon).trans hfrom,
      (congrArg Monitor.gateN hmon).trans hn, (congrArg Buoy.act hb.same).trans rfl, fun m hm => hb.ne hm, fun hq => ?_⟩
    obtain ⟨hrd, hw⟩ := hrest hq
    exact ⟨hrd, hw.eq, hw.keepsRegs fun _ h => h⟩
  · exact ⟨_, exec_run (x := .freqGateEnd n) (s := s) rfl rfl, gateEnd_gross hon hc hu hy h⟩
  · exact ⟨_, exec_run (x := .freqGateEnd n) (s := s) rfl (gateEnd_empty hon h), rfl⟩
  · have hx := exec_run (x := .tieSample n) (s := s) rfl rfl
    obtain rfl : s.dev.tieNow n = v := hv.symm
    obtain ⟨ch, zero, hb, hrd, hw, hfirst, hnext⟩ := tieTake_fields hon hu
    generalize tieTake n s.dev = e at *
    exact ⟨_, hx, rfl, hrd, (congrArg (fun b => b.mon.tie) hb.same).trans rfl, (congrArg Buoy.act hb.same).trans rfl, fun m hm => hb.ne hm, hw.eq,
      hw.keepsRegs fun _ h => h, hfirst, hnext⟩
  · have hx := exec_run (x := .mtiePeriodEnd n) (s := s) rfl rfl
    obtain ⟨vs, q, hb, hrest⟩ := mtieEnd_fields hon h
    generalize mtieEnd n s.dev = e at *
    have hmon : (e.buoy n).mon = (s.dev.buoy n).mon.ended (s.dev.isUp n) vs := congrArg Buoy.mon hb.same
    refine ⟨_, hx, rfl, congrArg Monitor.tie hmon, congrArg Monitor.tieLeft hmon, (congrArg (fun m => m.mtie.isSome) hmon).trans ?_,
      (congrArg Buoy.act hb.same).trans rfl, fun m hm => hb.ne hm, fun hq => ?_⟩
    · unfold Monitor.ended
      cases s.dev.isUp n <;> rfl
    · obtain ⟨hw, h31, h30, h0, hk⟩ := hrest hq
      exact ⟨hw.eq, h31, h30, h0, hk⟩

end Sys2Proof.Machine
end

section
/-! The matrix cycle, the qualification timer and the end of an arming (chapters 3 and 4). -/

namespace Sys2Proof.Machine

set_option Elab.async false

variable {S : Scope} {d d₀ d' : Dev} {n : Fin 64} {x : Buoy} {s : State}

/-! ### Places of the pairs -/

/-- The place of the first pair of slot `i`. -/
def pairRow (i : Nat) : Nat := 63 * i - i * (i - 1) / 2

theorem pairIdx_lt {i j : Fin 64} (h : i < j) : pairIdx i j = pairRow i + (j - i - 1) := by
  have h : i.val ≤ j.val := Nat.le_of_lt h
  unfold pairIdx
  rw [min_eq_left h, max_eq_right h]
  rfl

theorem pairRow_succ {i : Nat} (h : i < 64) : pairRow (i + 1) = pairRow i + (63 - i) := by
  have htri : (i + 1) * (i + 1 - 1) / 2 = i * (i - 1) / 2 + i := Nat.triangle_succ i
  have hle : i * (i - 1) / 2 ≤ i * 63 :=
    (Nat.div_le_self _ _).trans (Nat.mul_le_mul_left i (by omega))
  unfold pairRow
  rw [htri]
  omega

/-- The pairs of a slot end before those of a later one. -/
theorem pairRow_after {i k : Nat} (h : i < k) (hk : k < 64) : pairRow i + (63 - i) ≤ pairRow k := by
  induction k, h using Nat.le_induction with
  | base => exact (pairRow_succ (by omega)).ge
  | succ k hik ih =>
    have := pairRow_succ (i := k) (by omega)
    have := ih (by omega)
    omega

/-- Two pairs in order have different places. -/
theorem pairIdx_inj {i j k l : Fin 64} (hij : i < j) (hkl : k < l) (h : pairIdx i j = pairIdx k l) : i = k ∧ j = l := by
  rw [pairIdx_lt hij, pairIdx_lt hkl] at h
  have hij : i.val < j.val := hij
  have hkl : k.val < l.val := hkl
  have := j.isLt
  have := l.isLt
  rcases lt_trichotomy i.val k.val with hik | hik | hik
  · have := pairRow_after hik k.isLt
    omega
  · rw [hik] at h
    exact ⟨Fin.ext hik, Fin.ext (by omega)⟩
  · have := pairRow_after hik i.isLt
    omega

theorem mem_allPairs {i j : Fin 64} (h : i < j) : (i, j) ∈ allPairs :=
  List.mem_flatMap.mpr ⟨i, List.mem_finRange i, List.mem_map.mpr ⟨j, List.mem_filter.mpr ⟨List.mem_finRange j, decide_eq_true h⟩, rfl⟩⟩

theorem allPairs_lt {p : Fin 64 × Fin 64} (h : p ∈ allPairs) : p.1 < p.2 := by
  obtain ⟨i, -, hp⟩ := List.mem_flatMap.mp h
  obtain ⟨j, hj, rfl⟩ := List.mem_map.mp hp
  exact of_decide_eq_true (List.mem_filter.mp hj).2

theorem pair_setPair_same (k : Nat) (p : Pair) (d : Dev) : (d.setPair k p).pair k = p := Tab.get_put_same ..

theorem pair_setPair_ne {k l : Nat} (p : Pair) (d : Dev) (h : k ≠ l) : (d.setPair k p).pair l = d.pair l := Tab.get_put_ne _ _ _ h

/-! ### The results of a cycle -/

/-- Slot `n` was UP throughout the cycle, with a phase at its start. -/
def Dev.whole (d : Dev) (n : Fin 64) : Bool := (d.buoy n).mon.cycUp && d.isUp n && (d.buoy n).mon.cycPhase.isSome

theorem cycleOf_fields (n : Fin 64) (d : Dev) : (d.cycleOf n).1.isSome = d.whole n ∧ ∀ S : Scope, S.Has .draws → Within S d (d.cycleOf n).2 := by
  unfold Dev.cycleOf Dev.whole
  extract_lets m
  cases hup : m.cycUp && d.isUp n with
  | false => exact ⟨by simp, fun S _ => .refl S d⟩
  | true =>
    cases m.cycPhase with
    | none => exact ⟨rfl, fun S _ => .refl S d⟩
    | some p =>
      obtain ⟨p0, t0⟩ := p
      dsimp only
      split
      · split
        · exact ⟨rfl, fun S _ => .refl S d⟩
        · exact ⟨rfl, fun S hS => ((Within.refl S d).draw hS).draw hS⟩
      next h => exact absurd rfl h

theorem whole_of_buoys (h : d'.buoys = d.buoys) (n : Fin 64) : d'.whole n = d.whole n := by
  have hn : d'.buoy n = d.buoy n := congrArg (·.get n) h
  simp only [Dev.whole, Dev.isUp, hn]

/-- The results of the slots `ks`: one for each that was UP throughout. -/
theorem cycleAll_fold (ks : List (Fin 64)) (acc : List (Option (Int × Int))) (d : Dev) : ∃ (rs : List (Option (Int × Int))) (e : Dev),
    ks.foldl (fun (a : List (Option (Int × Int)) × Dev) n => let r := a.2.cycleOf n; (a.1 ++ [r.1], r.2)) (acc, d) = (acc ++ rs, e) ∧
    (∀ (i : Nat) k, ks[i]? = some k → (rs.getD i none).isSome = d.whole k) ∧ ∀ S : Scope, S.Has .draws → Within S d e := by
  induction ks generalizing acc d with
  | nil => exact ⟨[], d, by simp, fun i k h => by simp at h, fun S _ => .refl S d⟩
  | cons k ks ih =>
    obtain ⟨hsome, hw⟩ := cycleOf_fields k d
    have hb : (d.cycleOf k).2.buoys = d.buoys := (hw (partScope [.draws]) rfl).buoys
    obtain ⟨rs, e, he, hrs, hwe⟩ := ih (acc ++ [(d.cycleOf k).1]) (d.cycleOf k).2
    refine ⟨(d.cycleOf k).1 :: rs, e, ?_, fun i k' hk => ?_, fun S hS => (hw S hS).trans (hwe S hS)⟩
    · rw [List.foldl_cons]
      exact he.trans (by simp)
    · cases i with
      | zero =>
        obtain rfl : k = k' := by simpa using hk
        exact hsome
      | succ i => exact (hrs i k' (by simpa using hk)).trans (whole_of_buoys hb k')

theorem cycleAll_fields (d : Dev) : (∀ k : Fin 64, (d.cycleAll.1.getD k none).isSome = d.whole k) ∧ ∀ S : Scope, S.Has .draws → Within S d d.cycleAll.2 := by
  obtain ⟨rs, e, he, hrs, hw⟩ := cycleAll_fold (List.finRange 64) [] d
  have he' : d.cycleAll = ([] ++ rs, e) := he
  rw [he']
  exact ⟨fun k => hrs k k (by simp), hw⟩

/-- One pair of the working set after a cycle. -/
def Dev.pairStep (res : List (Option (Int × Int))) (p : Fin 64 × Fin 64) (d : Dev) : Dev :=
  let k := pairIdx p.1 p.2
  match res.getD p.1.val none, res.getD p.2.val none with
  | some a, some b => d.setPair k (d.pairUpdate p.1 p.2 a b (d.pair k))
  | _, _ => d.setPair k { d.pair k with fresh := false }

theorem pairsStep_eq (res : List (Option (Int × Int))) (d : Dev) : d.pairsStep res = allPairs.foldl (fun d p => d.pairStep res p) d := rfl

/-- A pair becomes fresh where both its slots have a result. -/
theorem pairStep_fields (res : List (Option (Int × Int))) (p : Fin 64 × Fin 64) (d : Dev) :
    ((d.pairStep res p).pair (pairIdx p.1 p.2)).fresh = ((res.getD p.1 none).isSome && (res.getD p.2 none).isSome) ∧
    (∀ k, k ≠ pairIdx p.1 p.2 → (d.pairStep res p).pair k = d.pair k) ∧ ∀ S : Scope, S.Has .pairs → Within S d (d.pairStep res p) := by
  unfold Dev.pairStep
  extract_lets k
  cases res.getD p.1 none with
  | none => exact ⟨by rw [pair_setPair_same]; rfl, fun l hl => pair_setPair_ne _ _ hl.symm, fun S hS => (Within.refl S d).setPair hS⟩
  | some a =>
    cases res.getD p.2 none with
    | none => exact ⟨by rw [pair_setPair_same]; rfl, fun l hl => pair_setPair_ne _ _ hl.symm, fun S hS => (Within.refl S d).setPair hS⟩
    | some b => exact ⟨by rw [pair_setPair_same]; rfl, fun l hl => pair_setPair_ne _ _ hl.symm, fun S hS => (Within.refl S d).setPair hS⟩

theorem pairsStep_fresh {res : List (Option (Int × Int))} {i j : Fin 64} (hij : i < j) (d : Dev) :
    ((d.pairsStep res).pair (pairIdx i j)).fresh = ((res.getD i none).isSome && (res.getD j none).isSome) := by
  have hall : ∀ (l : List (Fin 64 × Fin 64)) (d : Dev), (∀ p ∈ l, p.1 < p.2) →
      (d.pair (pairIdx i j)).fresh = ((res.getD i none).isSome && (res.getD j none).isSome) ∨ (i, j) ∈ l →
      ((l.foldl (fun d p => d.pairStep res p) d).pair (pairIdx i j)).fresh = ((res.getD i none).isSome && (res.getD j none).isSome) := by
    intro l
    induction l with
    | nil => exact fun d _ h => h.resolve_right List.not_mem_nil
    | cons p l ih =>
      intro d hlt h
      obtain ⟨hfresh, hother, -⟩ := pairStep_fields res p d
      refine ih _ (fun q hq => hlt q (List.mem_cons_of_mem p hq)) ?_
      by_cases hp : pairIdx i j = pairIdx p.1 p.2
      · obtain ⟨h1, h2⟩ := pairIdx_inj hij (hlt p List.mem_cons_self) hp
        exact .inl (by rw [hp, hfresh, h1, h2])
      · rcases h with h | h
        · exact .inl (by rw [hother _ hp, h])
        · exact .inr ((List.mem_cons.mp h).resolve_left fun e => hp (by rw [← e]))
  exact hall allPairs d (fun p hp => allPairs_lt hp) (.inr (mem_allPairs hij))

theorem Within.pairsStep (h : Within S d₀ d) {res : List (Option (Int × Int))} (hS : S.Has .pairs := by trivial) : Within S d₀ (d.pairsStep res) :=
  h.foldl (fun p d h => h.trans ((pairStep_fields res p d).2.2 S hS)) _

/-! ### What every slot keeps through the cycle -/

/-- Every slot keeps its activity and its monitors. -/
def Dev.SlotsKeep (d d' : Dev) : Prop := ∀ n, (d'.buoy n).act = (d.buoy n).act ∧ (d'.buoy n).mon = (d.buoy n).mon

theorem Dev.SlotsKeep.of_buoys (h : d'.buoys = d.buoys) : d.SlotsKeep d' := fun n => by
  have hn : d'.buoy n = d.buoy n := congrArg (·.get n) h
  rw [hn]
  exact ⟨rfl, rfl⟩

theorem Dev.SlotsKeep.trans (h : d₀.SlotsKeep d) (h' : d.SlotsKeep d') : d₀.SlotsKeep d' := fun n =>
  ⟨(h' n).1.trans (h n).1, (h' n).2.trans (h n).2⟩

theorem Dev.SlotsKeep.isUp (h : d.SlotsKeep d') (n : Fin 64) : d'.isUp n = d.isUp n := congrArg (fun a : Activity => decide (a.st = .up)) (h n).1

/-- A change of the qualification of one slot. -/
theorem Dev.SlotsKeep.qualBy {q : Qual} (h : SetsBuoy n ((d.buoy n).qualBy q) d d') : d.SlotsKeep d' := fun k => by
  by_cases hk : k = n
  · subst hk
    exact ⟨(congrArg Buoy.act h.same).trans rfl, (congrArg Buoy.mon h.same).trans rfl⟩
  · rw [h.ne hk]
    exact ⟨rfl, rfl⟩

theorem Dev.SlotsKeep.forFin {k : Nat} {f : Fin k → Dev → Dev} (hf : ∀ j d, Dev.SlotsKeep d (f j d)) (d : Dev) : d.SlotsKeep (Machine.forFin k f d) :=
  forFin_keeps (P := fun e => d.SlotsKeep e) (fun j _ h => h.trans (hf j _)) (.of_buoys rfl)

theorem pubWitness_keep (n : Fin 64) (d : Dev) : d.SlotsKeep (d.pubWitness n) := by
  unfold Dev.pubWitness
  extract_lets w m
  exact .qualBy (n := n) (((SetsBuoy.refl n d).within ((Within.refl _ d).wr trivial)).modQual)

theorem qualEval_keep (n : Fin 64) (d : Dev) : d.SlotsKeep (d.qualEval n) :=
  have ⟨_, h⟩ := (SetsBuoy.refl n d).qualEval
  .qualBy h

/-- The next cycle of slot `n`. -/
theorem cycleStart_buoy (n : Fin 64) (d : Dev) : ∃ m, SetsBuoy n ((d.buoy n).monBy m) d (d.cycleStart n) ∧ m.cycUp = d.isUp n :=
  ⟨_, (SetsBuoy.refl n d).modMon, rfl⟩

theorem cycleStart_act (n k : Fin 64) (d : Dev) : ((d.cycleStart n).buoy k).act = (d.buoy k).act := by
  obtain ⟨m, h, -⟩ := cycleStart_buoy n d
  by_cases hk : k = n
  · subst hk
    exact (congrArg Buoy.act h.same).trans rfl
  · rw [h.ne hk]

theorem cycleStart_cycUp (n k : Fin 64) (d : Dev) (h : k ≠ n) : (((d.cycleStart n).buoy k).mon.cycUp = (d.cycleStart n).isUp k) =
    ((d.buoy k).mon.cycUp = d.isUp k) := by
  obtain ⟨m, hs, -⟩ := cycleStart_buoy n d
  simp only [Dev.isUp, hs.ne h]

/-- After the start of a cycle every slot notes whether it is UP. -/
theorem cycleStart_all (d : Dev) (n : Fin 64) : ((forFin 64 Dev.cycleStart d).buoy n).mon.cycUp = (forFin 64 Dev.cycleStart d).isUp n := by
  refine forFin_all (P := fun n d => (d.buoy n).mon.cycUp = d.isUp n) (fun j d => ?_) (fun j k d hk => ?_) d n
  · obtain ⟨m, h, hm⟩ := cycleStart_buoy j d
    rw [h.isUp, h.same]
    exact hm
  · by_cases hkj : k = j
    · subst hkj
      obtain ⟨m, h, hm⟩ := cycleStart_buoy k d
      rw [h.isUp, h.same]
      exact hm
    · rw [cycleStart_cycUp j k d hkj]
      exact hk

theorem cycleStart_acts (d : Dev) (n : Fin 64) : ((forFin 64 Dev.cycleStart d).buoy n).act = (d.buoy n).act :=
  forFin_keeps (P := fun e => (e.buoy n).act = (d.buoy n).act) (fun j e h => (cycleStart_act j n e).trans h) rfl

/-! ### The cycle as a whole -/

theorem Within.pubWitness (h : Within S d₀ d) (hr : S.reg (0x90100 + 4 * n)) (hS : S.Has .regs := by trivial) (hb : S.Has .buoys := by trivial) :
    Within S d₀ (d.pubWitness n) := by
  unfold Dev.pubWitness
  extract_lets w m
  exact (h.wr hr).modQual

theorem Within.cycleStart (h : Within S d₀ d) (hb : S.Has .buoys := by trivial) : Within S d₀ (d.cycleStart n) := by
  unfold Dev.cycleStart
  extract_lets up
  exact h.modMon

/-- What the tests that follow a cycle may change. -/
def afterScope : Scope := partScope [.regs, .bar4, .host, .keeper, .watch, .buoys, .chans, .lans, .outs, .vouts]

theorem afterScope_runs : afterScope.Runs := ⟨fun _ _ => trivial, ⟨⟨rfl, rfl, rfl⟩, rfl⟩, rfl, rfl, rfl, rfl, rfl⟩

/-- What a slot's witnesses, its next cycle and its qualification make of a device, and then the tests of the channels. -/
def Dev.afterCycle (d : Dev) : Dev := forFin 16 Dev.equalTest (forFin 64 Dev.qualEval (forFin 64 Dev.cycleStart (forFin 64 Dev.pubWitness d)))

theorem afterCycle_within (d : Dev) : Within afterScope d d.afterCycle := by
  have h1 : Within afterScope d (forFin 64 Dev.pubWitness d) := (Within.refl _ d).forFin fun _ _ h => h.pubWitness trivial
  have h2 : Within afterScope d (forFin 64 Dev.cycleStart (forFin 64 Dev.pubWitness d)) := h1.forFin fun _ _ h => h.cycleStart
  have h3 := h2.forFin (f := Dev.qualEval) fun _ _ h => h.qualEval afterScope_runs
  exact h3.forFin fun _ _ h => h.equalTest rfl ⟨⟨rfl, rfl, rfl⟩, rfl⟩ rfl

theorem equalTests_buoys (d : Dev) : (forFin 16 Dev.equalTest d).buoys = d.buoys :=
  Within.buoys (S := asideBuoys) ((Within.refl _ d).forFin fun _ _ h => h.equalTest rfl ⟨⟨rfl, rfl, rfl⟩, rfl⟩ rfl)

theorem afterCycle_slots (d : Dev) (n : Fin 64) : (d.afterCycle.buoy n).mon.cycUp = d.isUp n ∧ (d.afterCycle.buoy n).act = (d.buoy n).act := by
  have h1 : d.SlotsKeep (forFin 64 Dev.pubWitness d) := .forFin pubWitness_keep d
  generalize hd1 : forFin 64 Dev.pubWitness d = d1 at h1
  have hcyc := cycleStart_all d1 n
  have hact := cycleStart_acts d1 n
  generalize hd2 : forFin 64 Dev.cycleStart d1 = d2 at hcyc hact
  have h3 : d2.SlotsKeep d.afterCycle := by
    rw [Dev.afterCycle, hd1, hd2]
    exact (Dev.SlotsKeep.forFin qualEval_keep d2).trans (.of_buoys (equalTests_buoys _))
  have hup : d2.isUp n = d.isUp n := congrArg (fun a : Activity => decide (a.st = .up)) (hact.trans (h1 n).1)
  exact ⟨((congrArg Monitor.cycUp (h3 n).2).trans hcyc).trans hup, ((h3 n).1.trans hact).trans (h1 n).1⟩

/-- The cycle's results are published. -/
def Dev.cycleDone (d : Dev) : Dev := ((d.cycleAll.2.pairsStep d.cycleAll.1).pubEntries).pubStat 0x90004 0

/-- The next cycle has begun. -/
def Dev.nextCycle (d : Dev) : Dev := { d with cycle := d.cycle + 1 }

theorem matrixEnd_eq (hx : d.clk.xo = true) (h7 : d.blockReady 7 = true) : matrixEnd d = d.cycleDone.nextCycle.afterCycle := by
  unfold matrixEnd
  rw [if_pos (by simp [hx, h7])]
  rfl

theorem Within.pubEntries (h : Within S d₀ d) (hr : ∀ a, S.reg a) (hS : S.Has .regs := by trivial) : Within S d₀ d.pubEntries :=
  h.foldl (fun _ _ h => ((h.pub40 (hr _) (hr _)).wr (hr _)).wr (hr _)) _

theorem cycleDone_fields (d : Dev) : Within (partScope [.regs, .draws, .pairs]) d d.cycleDone ∧
    ∀ i j : Fin 64, i < j → (d.cycleDone.pair (pairIdx i j)).fresh = (d.whole i && d.whole j) := by
  obtain ⟨hres, hw⟩ := cycleAll_fields d
  have hpub : ∀ e : Dev, Within (partScope [.regs]) e (e.pubEntries.pubStat 0x90004 0) := fun e =>
    ((Within.refl (partScope [.regs]) e).pubEntries fun _ => trivial).pubStat trivial
  have hall : Within (partScope [.regs, .draws, .pairs]) d d.cycleDone :=
    (((hw (partScope [.regs, .draws, .pairs]) rfl).pairsStep).pubEntries fun _ => trivial).pubStat trivial
  refine ⟨hall, fun i j hij => ?_⟩
  have hp : d.cycleDone.pairs = (d.cycleAll.2.pairsStep d.cycleAll.1).pairs := (hpub _).same .pairs rfl
  have hpair : d.cycleDone.pair (pairIdx i j) = (d.cycleAll.2.pairsStep d.cycleAll.1).pair (pairIdx i j) :=
    congrArg (fun t => Tab.get (fun _ => Pair.reset) t (pairIdx i j)) hp
  rw [hpair, pairsStep_fresh hij, hres i, hres j]

/-- After the results of a cycle the cycle is counted and every slot left as it was. -/
theorem afterCycle_fields {c d : Dev} (hw : Within (partScope [.regs, .draws, .pairs]) d c) : c.nextCycle.afterCycle.cycle = d.cycle + 1 ∧
    (∀ n, (c.nextCycle.afterCycle.buoy n).mon.cycUp = d.isUp n ∧ (c.nextCycle.afterCycle.buoy n).act = (d.buoy n).act) ∧
    (∀ k, c.nextCycle.afterCycle.pair k = c.pair k) ∧
    c.nextCycle.afterCycle.clk = d.clk ∧ c.nextCycle.afterCycle.ts = d.ts ∧ c.nextCycle.afterCycle.ports = d.ports := by
  have hslots := afterCycle_slots c.nextCycle
  have haft := afterCycle_within c.nextCycle
  have hkeep : d.SlotsKeep c.nextCycle := .of_buoys (d' := c.nextCycle) hw.buoys
  generalize c.nextCycle.afterCycle = e at *
  exact ⟨haft.cycle.trans (congrArg (· + 1) hw.cycle), fun n => ⟨(hslots n).1.trans (hkeep.isUp n), (hslots n).2.trans (hkeep n).1⟩,
    fun k => congrArg (fun t => Tab.get (fun _ => Pair.reset) t k) haft.pairs, haft.clk.trans hw.clk, haft.ts.trans hw.ts, haft.ports.trans hw.ports⟩

/-- A cycle is counted, and leaves every slot as it is and every pair fresh or not. -/
theorem matrixEnd_fields {d : Dev} (hx : d.clk.xo = true) (h7 : d.blockReady 7 = true) : (matrixEnd d).cycle = d.cycle + 1 ∧
    (∀ n, ((matrixEnd d).buoy n).mon.cycUp = d.isUp n ∧ ((matrixEnd d).buoy n).act = (d.buoy n).act) ∧
    (∀ i j : Fin 64, i < j → ((matrixEnd d).pair (pairIdx i j)).fresh = (d.whole i && d.whole j)) ∧
    (matrixEnd d).clk = d.clk ∧ (matrixEnd d).ts = d.ts ∧ (matrixEnd d).ports = d.ports := by
  rw [matrixEnd_eq hx h7]
  obtain ⟨hw, hfresh⟩ := cycleDone_fields d
  obtain ⟨hcyc, hslots, hpair, hrest⟩ := afterCycle_fields hw
  exact ⟨hcyc, hslots, fun i j hij => (congrArg Pair.fresh (hpair _)).trans (hfresh i j hij), hrest⟩

/-! ### Qualification timers and armings -/

/-- Whether a slot is accepted does not depend on its timer. -/
theorem accepted_expired (n : Fin 64) (d : Dev) : (d.modQual n fun q => { q with expired := true }).accepted n = d.accepted n := by
  have hb : (d.modQual n fun q => { q with expired := true }).buoy n = { d.buoy n with qual := { (d.buoy n).qual with expired := true } } :=
    modBuoy_buoy_same ..
  unfold Dev.accepted Dev.chBandOn Dev.ffoChValid Dev.mtieOver Dev.decFail
  rw [hb]
  rfl

/-- A slot becomes QUALIFIED, before the autopilot looks at it. -/
def Dev.qualified (n : Fin 64) (d : Dev) : Dev := ((d.modQual n fun q => { q with ever := true }).bump (buoyOff n + 0x1A4) 16 16).qualTo n .qualified 9

theorem qualTimer_accepted (h : (d.buoy n).qual.st = .first ∨ (d.buoy n).qual.st = .wtr) (ha : d.accepted n = true) :
    qualTimer n d = (d.modQual n fun q => { q with expired := true }).qualify n := by
  simp only [qualTimer, accepted_expired, ha, if_true]
  exact if_pos (by simpa using h)

theorem qualTimer_waits (h : (d.buoy n).qual.st = .first ∨ (d.buoy n).qual.st = .wtr) (ha : d.accepted n = false) :
    qualTimer n d = d.modQual n fun q => { q with expired := true } := by
  simp only [qualTimer, accepted_expired, ha]
  exact if_pos (by simpa using h)

theorem qualified_within (n : Fin 64) (d : Dev) : Within (slotScope [.regs, .bar4, .host, .keeper, .buoys] n [0x1A4]) d (d.qualified n) :=
  (((Within.refl _ d).modQual).bump (slotScope_reg (k := 0x1A4))).qualTo

theorem qualified_counts (n : Fin 64) (d : Dev) : Counts (buoyOff n + 0x1A4) 16 16 d (d.qualified n) := by
  have h := (bump_counts (buoyOff n + 0x1A4) (lo := 16) (width := 16) (d.modQual n fun q => { q with ever := true }) (by decide)).before (d := d) rfl
  have hw : Within (slotScope [.regs, .bar4, .host, .keeper, .buoys] n []) ((d.modQual n fun q => { q with ever := true }).bump (buoyOff n + 0x1A4) 16 16)
      (d.qualified n) := (Within.refl _ _).qualTo
  exact h.after (hw.regs _ (fun h => by obtain ⟨k, hk, -⟩ := List.mem_map.mp h; simp at hk) (not_eventWord_of_lt (by simp only [buoyOff]; omega)))

/-- With the autopilot at rest a slot that qualifies only becomes QUALIFIED. -/
theorem qualify_inactive (h : d.apActive = false) : d.qualify n = d.qualified n := by
  have hs := (KeeperStep.of_io ((qualified_within n d).io rfl)).sup
  exact autopilotAll_inactive ((congrArg (fun s : Supervision => decide (s.ap ≠ .normal)) hs).trans h)

/-- Settles O49: the cycle by its parts, the timer by what the slot is accepted for, and the arming by its end. -/
theorem matrixAndQualification : Obligations.MatrixAndQualification := by
  unfold Obligations.MatrixAndQualification
  intro s
  refine ⟨fun hxo h7 => ?_, fun n hst => ⟨fun ha => ?_, fun ha => ?_⟩, fun c hc => ?_⟩
  · obtain ⟨hcyc, hslots, hfresh, hclk, hts, hports⟩ := matrixEnd_fields hxo h7
    have hx := exec_run (x := .matrixCycleEnd) (s := s) rfl rfl
    generalize matrixEnd s.dev = e at *
    refine ⟨_, hx, rfl, hcyc, hslots, fun i j hij => (hfresh i j hij).trans ?_, hclk, hts, hports⟩
    simp [Dev.whole, Bool.and_assoc]
  · have hx := exec_run (x := .qualTimerExpiry n) (s := s) rfl (qualTimer_accepted hst ha)
    have hb := ((SetsBuoy.refl n s.dev).modQual (f := fun q => { q with expired := true })).qualify
    have hin : s.dev.apActive = false → (s.dev.modQual n fun q => { q with expired := true }).qualify n =
        (s.dev.modQual n fun q => { q with expired := true }).qualified n := fun h => qualify_inactive h
    have hw := ((Within.refl (slotScope [.regs, .bar4, .host, .keeper, .buoys] n [0x1A4]) s.dev).modQual (n := n)
      (f := fun q => { q with expired := true })).trans (qualified_within n _)
    have hc := (qualified_counts n (s.dev.modQual n fun q => { q with expired := true })).before (d := s.dev) rfl
    generalize (s.dev.modQual n fun q => { q with expired := true }).qualified n = e' at *
    generalize (s.dev.modQual n fun q => { q with expired := true }).qualify n = e at *
    refine ⟨_, hx, rfl, hb.same.trans rfl, fun m hm => hb.ne hm, fun h => ?_⟩
    obtain rfl := hin h
    exact ⟨hc, hw.eventFrame rfl fun _ h => h, hw.eq⟩
  · exact ⟨_, exec_run (x := .qualTimerExpiry n) (s := s) rfl (qualTimer_waits hst ha), rfl⟩
  · have hx := exec_run (x := .forceArmExpiry c) (s := s) rfl (show forceArmEnd c s.dev = s.dev.disarm c from if_pos hc)
    have hb := (SetsChan.refl c s.dev).disarm
    have hw : Within (chanScope [.regs, .chans] c [0xC10]) s.dev (s.dev.disarm c) := (Within.refl _ s.dev).disarm (chanScope_reg (k := 0xC10))
    have h7 : (s.dev.disarm c).rdF (chanOff c + 0xC10) 7 1 = 0 := rdF_wrF_same _ _ (by decide) (by decide)
    generalize s.dev.disarm c = e at *
    exact ⟨_, hx, rfl, hw.eq.trans (congrArg (fun b => ({ s.dev with regs := e.regs, chans := b } : Dev)) hb), h7, hw.keepsRegs fun _ h => h⟩

end Sys2Proof.Machine
end

section
/-! History, prediction and temperature of the channels (chapter 6). -/

namespace Sys2Proof.Machine

set_option Elab.async false

variable {S : Scope} {d d₀ d' : Dev} {c : Fin 16} {x : Chan} {s : State}

/-! ### Snapshots and samples -/

/-- The channel with one more snapshot of its b. -/
def Chan.snapped (tick : Nat) (x : Chan) : Chan := { x with ho := { x.ho with snaps := (⟨tick, x.loop.b, tracking x⟩ :: x.ho.snaps).take 2050 } }

theorem historySnap_on (hx : d.clk.xo = true) : historySnap d = forFin 16 (fun c d => d.modHo c fun h =>
    { h with snaps := (⟨d.clk.tbUs / 125, (d.chan c).loop.b, tracking (d.chan c)⟩ :: h.snaps).take 2050 }) d := if_pos hx

theorem historySnap_within (d : Dev) : Within (partScope [.chans]) d (historySnap d) :=
  .ite (fun _ => (Within.refl _ d).forFin fun _ _ h => h.modHo) fun _ => .refl _ d

theorem historySnap_chan {d : Dev} (hx : d.clk.xo = true) (c : Fin 16) : (historySnap d).chan c = (d.chan c).snapped (d.clk.tbUs / 125) := by
  rw [historySnap_on hx]
  refine forFin_chan (I := fun e => e.clk = d.clk) (R := fun _ x y => y = x.snapped (d.clk.tbUs / 125)) (fun j e he => ⟨⟨_, (SetsChan.refl j e).modHo, ?_⟩, he⟩) rfl c
  rw [he]
  rfl

/-- The history engine ran for the whole of the second. -/
def Chan.sampled (x : Chan) : Bool := x.ho.run && x.ho.whole && tracking x && x.ho.n ≠ 0

/-- The sample of the second that has ended, where the history engine ran for the whole of it. -/
def Dev.historyTake (c : Fin 16) (d : Dev) : Dev :=
  if (d.chan c).sampled then
    d.modHo c fun h => { h with samples := ((roundDiv h.sum h.n, if d.rdF (chanOff c + 0x400) 15 4 = 15 then none else h.temp) :: h.samples).take 1025,
                                histS := min (h.histS + 1) 16777215, endUs := d.clk.tbUs / 1000000 * 1000000 }
  else d

/-- The next second of the history engine. -/
def Chan.nextSecond (track : Bool) (x : Chan) : Chan := { x with ho := { x.ho with sum := 0, n := 0, whole := x.ho.run && track } }

/-- HO_A1 and HO_A1024 published. -/
def Dev.pubMeans (c : Fin 16) (d : Dev) : Dev :=
  let d := match d.avg1 c with
    | some a => d.pub40 (chanOff c + 0x438) (sat40 (roundDiv a.1 two24))
    | none => d
  match d.avg1024 c with
  | some a => d.pub40 (chanOff c + 0x440) (sat40 (roundDiv a.1 two24))
  | none => d

theorem historySecond_eq (c : Fin 16) : historySecond c = fun d => if !d.clk.xo then d else
    ((d.historyTake c).modHo c fun h => { h with sum := 0, n := 0, whole := h.run && tracking (d.chan c) }).pubMeans c := rfl

theorem Within.pubMeans (h : Within S d₀ d) (h0 : S.reg (chanOff c + 0x438)) (h4 : S.reg (chanOff c + 0x438 + 4)) (h8 : S.reg (chanOff c + 0x440))
    (hC : S.reg (chanOff c + 0x440 + 4)) (hr : S.Has .regs := by trivial) : Within S d₀ (d.pubMeans c) := by
  unfold Dev.pubMeans
  extract_lets d1
  have h1 : Within S d₀ d1 := by
    unfold d1
    cases d.avg1 c with
    | none => exact h
    | some a => exact h.pub40 h0 h4
  cases d1.avg1024 c with
  | none => exact h1
  | some a => exact h1.pub40 h8 hC

theorem historyTake_sampled {d : Dev} (h : (d.chan c).sampled = true) : ∃ y, SetsChan c y d (d.historyTake c) ∧ y.loop = (d.chan c).loop ∧
    y.ho.run = (d.chan c).ho.run ∧
    y.ho.samples = ((roundDiv (d.chan c).ho.sum (d.chan c).ho.n, if d.rdF (chanOff c + 0x400) 15 4 = 15 then none else (d.chan c).ho.temp) ::
      (d.chan c).ho.samples).take 1025 ∧
    y.ho.histS = min ((d.chan c).ho.histS + 1) 16777215 := by
  unfold Dev.historyTake
  rw [if_pos h]
  exact ⟨_, (SetsChan.refl c d).modHo, rfl, rfl, rfl, rfl⟩

theorem historyTake_skipped {d : Dev} (h : (d.chan c).sampled = false) : d.historyTake c = d := if_neg (by rw [h]; decide)

/-- What a second's end makes of the channel whose sample has been taken. -/
theorem secondEnd_fields {e d : Dev} {y : Chan} (track : Bool) (h : SetsChan c y d e) :
    SetsChan c (y.nextSecond track) d ((e.modHo c fun h => { h with sum := 0, n := 0, whole := h.run && track }).pubMeans c) := by
  have h1 : SetsChan c (y.nextSecond track) d (e.modHo c fun h => { h with sum := 0, n := 0, whole := h.run && track }) := h.modHo
  exact h1.within (.pubMeans (.refl _ _) trivial trivial trivial trivial)

theorem historyTake_within (c : Fin 16) (d : Dev) : Within (chanScope [.regs, .chans] c [0x438, 0x43C, 0x440, 0x444]) d (d.historyTake c) :=
  .ite (fun _ => (Within.refl _ d).modHo) fun _ => .refl _ d

theorem historySecond_within (c : Fin 16) (d : Dev) : Within (chanScope [.regs, .chans] c [0x438, 0x43C, 0x440, 0x444]) d (historySecond c d) := by
  rw [historySecond_eq]
  exact .ite (fun _ => .refl _ d) fun _ => .pubMeans (historyTake_within c d).modHo (chanScope_reg (k := 0x438)) (chanScope_reg (k := 0x43C))
    (chanScope_reg (k := 0x440)) (chanScope_reg (k := 0x444))

theorem historySecond_fields {d : Dev} (hx : d.clk.xo = true) : ∃ y, SetsChan c y d (historySecond c d) ∧ y.loop = (d.chan c).loop ∧ y.ho.sum = 0 ∧ y.ho.n = 0 ∧
    y.ho.whole = ((d.chan c).ho.run && tracking (d.chan c)) ∧
    ((d.chan c).sampled = true →
      y.ho.samples = ((roundDiv (d.chan c).ho.sum (d.chan c).ho.n, if d.rdF (chanOff c + 0x400) 15 4 = 15 then none else (d.chan c).ho.temp) ::
        (d.chan c).ho.samples).take 1025 ∧ y.ho.histS = min ((d.chan c).ho.histS + 1) 16777215) ∧
    ((d.chan c).sampled = false → y.ho.samples = (d.chan c).ho.samples ∧ y.ho.histS = (d.chan c).ho.histS) := by
  rw [historySecond_eq]
  beta_reduce
  rw [if_neg (by simp [hx])]
  cases hs : (d.chan c).sampled with
  | true =>
    obtain ⟨y, hy, hl, hr, hsam, hh⟩ := historyTake_sampled hs
    exact ⟨_, secondEnd_fields (tracking (d.chan c)) hy, hl, rfl, rfl, congrArg (· && tracking (d.chan c)) hr, fun _ => ⟨hsam, hh⟩, fun h => absurd h (by decide)⟩
  | false =>
    rw [historyTake_skipped hs]
    exact ⟨_, secondEnd_fields (tracking (d.chan c)) (.refl c d), rfl, rfl, rfl, rfl, fun h => absurd h (by decide), fun _ => ⟨rfl, rfl⟩⟩

/-! ### Seconds of HOLDOVER -/

/-- A second of HOLDOVER: τ, the target and what is published of them. -/
def Dev.heldOver (c : Fin 16) (tau : Nat) (y : Int) (u : Nat × Nat) (d : Dev) : Dev :=
  ((((d.modHo c fun h => { h with tau := tau }).modLoop c fun l => { l with target := y }).pub40 (chanOff c + 0x448) (sat40 (roundDiv y two24))).wr
    (chanOff c + 0x424) (word (satN 32 (u.1 / u.2)))).wr (chanOff c + 0x428) (word (satN 32 tau))

/-- The row HOLDOVER → LOST. -/
def Dev.heldLost (c : Fin 16) (d : Dev) : Dev :=
  (((d.modLoop c fun l => { l with target := l.b }).bump (chanOff c + 0x450) 0 16).histClear c).chanTo c .lost 10

/-- A second of HOLDOVER within the budget or beyond it. -/
def Dev.heldStep (c : Fin 16) (tau : Nat) (y : Int) (u : Nat × Nat) (d : Dev) : Dev :=
  if (d.heldOver c tau y u).rdF (chanOff c + 0x404) 0 23 * u.2 < u.1 then (d.heldOver c tau y u).heldLost c else d.heldOver c tau y u

theorem holdoverSec_eq (c : Fin 16) : holdoverSec c = fun d => if d.clk.xo && (d.chan c).st = .holdover then
    d.heldStep c ((d.chan c).ho.tau + 1) (d.yPred c (d.chan c).ho.base (d.chan c).ho.tcenUs (d.chan c).ho.tempB ((d.chan c).ho.tau + 1))
      (uncertainty (d.rdF (chanOff c + 0x408) 16 16) (d.rdF (chanOff c + 0x408) 0 16) ((d.chan c).ho.tau + 1) ((d.chan c).ho.base - (d.chan c).ho.bFrz).natAbs)
    else d := rfl

/-- The channel after a second of HOLDOVER. -/
def Chan.heldOver (tau : Nat) (y : Int) (x : Chan) : Chan := { x with ho := { x.ho with tau := tau }, loop := { x.loop with target := y } }

theorem heldOver_chan (c : Fin 16) (tau : Nat) (y : Int) (u : Nat × Nat) (d : Dev) : SetsChan c ((d.chan c).heldOver tau y) d (d.heldOver c tau y u) := by
  have h1 : SetsChan c ((d.chan c).heldOver tau y) d ((d.modHo c fun h => { h with tau := tau }).modLoop c fun l => { l with target := y }) :=
    (SetsChan.refl c d).modHo.modLoop
  exact h1.within (((Within.refl _ _).pub40).wr).wr

theorem heldOver_within (c : Fin 16) (tau : Nat) (y : Int) (u : Nat × Nat) (d : Dev) :
    Within (chanScope [.regs, .chans] c [0x424, 0x428, 0x448, 0x44C]) d (d.heldOver c tau y u) :=
  (((((Within.refl _ d).modHo).modLoop).pub40 (chanScope_reg (k := 0x448)) (chanScope_reg (k := 0x44C))).wr (chanScope_reg (k := 0x424))).wr
    (chanScope_reg (k := 0x428))

theorem rd40_wr_ne {off base : Nat} (w : Word) (d : Dev) (h : off ≠ base) (h' : off ≠ base + 4) : (d.wr off w).rd40 base = d.rd40 base :=
  rd40_of_rd (rd_wr_ne w d h) (rd_wr_ne w d h')

theorem heldOver_lostScope (c : Fin 16) (tau : Nat) (y : Int) (u : Nat × Nat) (d : Dev) :
    Within (partScope [.regs, .bar4, .host, .watch, .keeper, .chans, .outs, .vouts]) d (d.heldOver c tau y u) :=
  (((((Within.refl _ d).modHo).modLoop).pub40 trivial trivial).wr trivial).wr trivial

theorem heldOver_reads (c : Fin 16) (tau : Nat) (y : Int) (u : Nat × Nat) (d : Dev) :
    (d.heldOver c tau y u).rd (chanOff c + 0x424) = word (satN 32 (u.1 / u.2)) ∧ (d.heldOver c tau y u).rd (chanOff c + 0x428) = word (satN 32 tau) ∧
    (d.heldOver c tau y u).rd40 (chanOff c + 0x448) = sat40 (roundDiv y two24) ∧
    (d.heldOver c tau y u).rdF (chanOff c + 0x404) 0 23 = d.rdF (chanOff c + 0x404) 0 23 := by
  unfold Dev.heldOver
  generalize word (satN 32 (u.1 / u.2)) = a
  generalize word (satN 32 tau) = b
  generalize roundDiv y two24 = v
  have h404 : (((((d.modHo c fun h => { h with tau := tau }).modLoop c fun l => { l with target := y }).pub40 (chanOff c + 0x448) (sat40 v)).wr
      (chanOff c + 0x424) a).wr (chanOff c + 0x428) b).rd (chanOff c + 0x404) =
      ((d.modHo c fun h => { h with tau := tau }).modLoop c fun l => { l with target := y }).rd (chanOff c + 0x404) :=
    (rd_wr_ne _ _ (by omega)).trans ((rd_wr_ne _ _ (by omega)).trans (rd_pub40_ne _ _ (by omega) (by omega)))
  refine ⟨(rd_wr_ne _ _ (by omega)).trans (rd_wr_same ..), rd_wr_same .., ?_, congrArg (fun w => fld w 0 23) h404⟩
  exact (rd40_wr_ne _ _ (by omega) (by omega)).trans ((rd40_wr_ne _ _ (by omega) (by omega)).trans (rd40_pub40 _ v _))

/-! ### Loss of HOLDOVER -/

theorem source_setCond_ne {src k : Fin 192} (obj : Nat) (b : Bool) (d : Dev) (h : k ≠ src) : (d.setCond src obj b).source k = d.source k := by
  unfold Dev.setCond
  extract_lets s
  split
  · rfl
  split
  · exact modSource_source_ne (fun s => { s with cond := true, rose := s.rose || s.blankTo.isSome }) d h
  · exact modSource_source_ne (fun s => { s with cond := false }) d h

/-- The sources of a channel that becomes LOST. -/
def Dev.lostSources (c : Fin 16) (d : Dev) : Dev := (d.setCond (fsHoldover c) c false).setCond (fsLost c) c true

theorem chanTo_lost (d : Dev) (h : (d.chan c).st = .holdover) : ∃ data, d.chanTo c .lost 10 =
    (((d.modChan c fun x => { x with st := .lost }).event 0x01 c 8 data).lostSources c).chanOutputs c := by
  unfold Dev.chanTo
  extract_lets old d1 d2 d3 d4 d5 d6 d7
  have hold : old = .holdover := h
  have h2 : ∃ data, d2 = d1.event 0x01 c 8 data := ⟨_, if_neg (by rw [hold]; decide)⟩
  have h4 : d4 = d3 := if_pos rfl
  have h5 : d5 = d4 := if_neg (by rw [hold]; decide)
  have h6 : d6 = d5 := if_neg (by decide)
  have h7 : d7 = d6 := if_neg (by decide)
  obtain ⟨data, h2⟩ := h2
  rw [if_neg (by rw [hold]; decide), if_pos (by simp), h7, h6, h5, h4]
  exact ⟨data, congrArg (fun e : Dev => (e.lostSources c).chanOutputs c) h2⟩

theorem lostSources_conds (c : Fin 16) (d : Dev) : ((d.lostSources c).source (fsLost c)).cond = true ∧ ((d.lostSources c).source (fsHoldover c)).cond = false := by
  have hne : fsHoldover c ≠ fsLost c := fun e => by
    have := congrArg Fin.val e
    simp only [fsHoldover, fsLost] at this
    omega
  exact ⟨setCond_cond .., (congrArg Source.cond (source_setCond_ne c true (d.setCond (fsHoldover c) c false) hne)).trans (setCond_cond ..)⟩

/-- The channel whose b is its target. -/
def Chan.retargeted (x : Chan) : Chan := { x with loop := { x.loop with target := x.loop.b } }

/-- The channel LOST out of HOLDOVER. -/
def Chan.heldLost (x : Chan) : Chan := { x.retargeted.noHistory with st := .lost }

/-- What the loss of a channel may change. -/
def lostScope : Scope := partScope [.regs, .bar4, .host, .watch, .keeper, .chans, .outs, .vouts]

/-- The state, the event, the sources and the outputs of a channel that becomes LOST. -/
theorem lostChain_fields {d₀ d : Dev} (h : Within lostScope d₀ d) (hseq : (d.ring 8).seq = (d₀.ring 8).seq) (data : List Byte) :
    let e := (((d.modChan c fun x => { x with st := .lost }).event 0x01 c 8 data).lostSources c).chanOutputs c
    (e.source (fsLost c)).cond = true ∧ (e.source (fsHoldover c)).cond = false ∧ (e.ring 8).seq = (d₀.ring 8).seq + 1 ∧ Within lostScope d₀ e := by
  intro e
  have hev : (((d.modChan c fun x => { x with st := .lost }).event 0x01 c 8 data).ring 8).seq = (d₀.ring 8).seq + 1 := (event_seq ..).trans (congrArg (· + 1) hseq)
  have w1 : Within lostScope d₀ ((d.modChan c fun x => { x with st := .lost }).event 0x01 c 8 data) := h.modChan.event
  have hs : Within (partScope [.watch]) ((d.modChan c fun x => { x with st := .lost }).event 0x01 c 8 data)
      (((d.modChan c fun x => { x with st := .lost }).event 0x01 c 8 data).lostSources c) := (Within.refl _ _).setCond.setCond
  have hw : Within (partScope [.outs]) (((d.modChan c fun x => { x with st := .lost }).event 0x01 c 8 data).lostSources c) e := (Within.refl _ _).chanOutputs
  obtain ⟨hl, hh⟩ := lostSources_conds c ((d.modChan c fun x => { x with st := .lost }).event 0x01 c 8 data)
  refine ⟨?_, ?_, ?_, ?_⟩
  · exact (congrArg (fun w : Watch => (w.srcs.get (fsLost c)).cond) hw.watch).trans hl
  · exact (congrArg (fun w : Watch => (w.srcs.get (fsHoldover c)).cond) hw.watch).trans hh
  · exact (congrArg (fun v : HostIf => (v.rings.get 8).seq) (hw.host.trans hs.host)).trans hev
  · exact (w1.setCond.setCond).chanOutputs

/-- A channel in HOLDOVER that is LOST. -/
theorem heldLost_fields {d : Dev} (h : (d.chan c).st = .holdover) :
    SetsChan c (d.chan c).heldLost d (d.heldLost c) ∧
    ((d.heldLost c).source (fsLost c)).cond = true ∧ ((d.heldLost c).source (fsHoldover c)).cond = false ∧
    ((d.heldLost c).ring 8).seq = (d.ring 8).seq + 1 ∧ Within lostScope d (d.heldLost c) := by
  have h1 : SetsChan c (Chan.noHistory (d.chan c).retargeted) d
      (((d.modLoop c fun l => { l with target := l.b }).bump (chanOff c + 0x450) 0 16).histClear c) := (SetsChan.refl c d).modLoop.bump.histClear
  have w1 : Within lostScope d (((d.modLoop c fun l => { l with target := l.b }).bump (chanOff c + 0x450) 0 16).histClear c) :=
    ((Within.refl _ d).modLoop.bump trivial).modHo
  have hring : ((((d.modLoop c fun l => { l with target := l.b }).bump (chanOff c + 0x450) 0 16).histClear c).ring 8).seq = (d.ring 8).seq := rfl
  have hset := h1.chanTo (st := .lost) (row := 10)
  unfold Dev.heldLost
  generalize hd1 : ((d.modLoop c fun l => { l with target := l.b }).bump (chanOff c + 0x450) 0 16).histClear c = d1 at h1 w1 hring hset
  obtain ⟨data, he⟩ := chanTo_lost (c := c) d1 (by rw [h1.same]; exact h)
  refine ⟨hset, ?_⟩
  rw [he]
  exact lostChain_fields w1 hring data

theorem holdoverSec_on (hx : d.clk.xo = true) (hst : (d.chan c).st = .holdover) {tau : Nat} {y : Int} {u : Nat × Nat} (ht : tau = (d.chan c).ho.tau + 1)
    (hy : y = d.yPred c (d.chan c).ho.base (d.chan c).ho.tcenUs (d.chan c).ho.tempB tau)
    (hu : u = uncertainty (d.rdF (chanOff c + 0x408) 16 16) (d.rdF (chanOff c + 0x408) 0 16) tau ((d.chan c).ho.base - (d.chan c).ho.bFrz).natAbs) :
    holdoverSec c d = d.heldStep c tau y u := by
  subst ht hy
  rw [holdoverSec_eq]
  beta_reduce
  rw [if_pos (by simp [hx, hst]), ← hu]

/-- A second within the budget. -/
theorem heldStep_within (c : Fin 16) (tau : Nat) (y : Int) {u : Nat × Nat} {d : Dev} (h : u.1 ≤ d.rdF (chanOff c + 0x404) 0 23 * u.2) : ∃ e, d.heldStep c tau y u = e ∧
    SetsChan c ((d.chan c).heldOver tau y) d e ∧ e.rd (chanOff c + 0x424) = word (satN 32 (u.1 / u.2)) ∧ e.rd (chanOff c + 0x428) = word (satN 32 tau) ∧
    e.rd40 (chanOff c + 0x448) = sat40 (roundDiv y two24) ∧ Within (chanScope [.regs, .chans] c [0x424, 0x428, 0x448, 0x44C]) d e := by
  obtain ⟨h424, h428, h448, h404⟩ := heldOver_reads c tau y u d
  refine ⟨_, ?_, heldOver_chan c tau y u d, h424, h428, h448, heldOver_within c tau y u d⟩
  rw [Dev.heldStep, h404]
  exact if_neg (Nat.not_lt.mpr h)

/-- A second beyond the budget. -/
theorem heldStep_beyond (c : Fin 16) (tau : Nat) (y : Int) {u : Nat × Nat} {d : Dev} (hst : (d.chan c).st = .holdover)
    (h : d.rdF (chanOff c + 0x404) 0 23 * u.2 < u.1) : ∃ e, d.heldStep c tau y u = e ∧ SetsChan c ((d.chan c).heldOver tau y).heldLost d e ∧
    (e.source (fsLost c)).cond = true ∧ (e.source (fsHoldover c)).cond = false ∧ (e.ring 8).seq = (d.ring 8).seq + 1 ∧ Within lostScope d e := by
  obtain ⟨-, -, -, h404⟩ := heldOver_reads c tau y u d
  have hset := heldOver_chan c tau y u d
  obtain ⟨hc, hl, hh, hseq, hw⟩ := heldLost_fields (c := c) (d := d.heldOver c tau y u) (by rw [hset.same]; exact hst)
  rw [hset.same] at hc
  have hring := congrArg (fun v : HostIf => (v.rings.get 8).seq + 1) (heldOver_within c tau y u d).host
  refine ⟨_, ?_, hset.trans hc, hl, hh, hseq.trans hring, (heldOver_lostScope c tau y u d).trans hw⟩
  rw [Dev.heldStep, h404]
  exact if_pos h

/-- A prediction is published. -/
theorem predicted_fields (c : Fin 16) (v : Int) (d : Dev) : ∃ e, d.pub40 (chanOff c + 0x448) (sat40 v) = e ∧ e.rd40 (chanOff c + 0x448) = sat40 v ∧
    Within (chanScope [.regs] c [0x448, 0x44C]) d e :=
  ⟨_, rfl, rd40_pub40 _ v d, .pub40 (.refl _ d) (chanScope_reg (k := 0x448)) (chanScope_reg (k := 0x44C))⟩

theorem predictionSec_eq (c : Fin 16) : predictionSec c = fun d => if !d.clk.xo || (d.chan c).st = .holdover then d
    else d.pub40 (chanOff c + 0x448) (sat40 (roundDiv (d.yPred c (d.predBase c (d.bFreeze c)).1 (d.predBase c (d.bFreeze c)).2.2.1
      (d.predBase c (d.bFreeze c)).2.2.2 0) two24)) := rfl

theorem predictionSec_on (hx : d.clk.xo = true) (hst : (d.chan c).st ≠ .holdover) {b : Int × BitVec 2 × Nat × Option Int} (hb : b = d.predBase c (d.bFreeze c)) :
    predictionSec c d = d.pub40 (chanOff c + 0x448) (sat40 (roundDiv (d.yPred c b.1 b.2.2.1 b.2.2.2 0) two24)) := by
  rw [predictionSec_eq, hb]
  exact if_neg (by simp [hx, hst])

/-! ### Temperatures -/

theorem tempRead_sensor (h : d.rdF (chanOff c + 0x400) 15 4 < 8) : tempRead c d = d.modHo c fun x =>
    { x with temp := if bit (d.rd (0x300200 + 4 * d.rdF (chanOff c + 0x400) 15 4)) 31 then
               some (sfld (d.rd (0x300200 + 4 * d.rdF (chanOff c + 0x400) 15 4)) 0 16) else none, tempStale := false } := if_pos h

theorem tempRead_external (h : d.rdF (chanOff c + 0x400) 15 4 = 8) : tempRead c d = match (d.chan c).ho.extAt with
    | some t => if t + 10000000 ≤ d.clk.aonUs then d.modHo c fun x => { x with tempStale := true }
      else d.modHo c fun x => { x with temp := some (sfld (d.rd (chanOff c + 0x410)) 0 16), tempStale := false }
    | none => d.modHo c fun x => { x with temp := none, tempStale := 10000000 ≤ d.clk.aonUs } := (if_neg (by omega)).trans (if_pos h)

theorem tempRead_none (h : 8 < d.rdF (chanOff c + 0x400) 15 4) : tempRead c d = d.modHo c fun x => { x with temp := none, tempStale := false } :=
  (if_neg (by omega)).trans (if_neg (by omega))

/-- A reading of the temperature source leaves a temperature and whether it is stale. -/
def Dev.reads (c : Fin 16) (v : Option Int) (stale : Bool) (d : Dev) : Prop :=
  tempRead c d = (d.modHo c fun h => { h with temp := v, tempStale := stale }) ∧
  (d.rdF (chanOff c + 0x400) 15 4 < 8 → ∀ w, w = d.rd (0x300200 + 4 * d.rdF (chanOff c + 0x400) 15 4) →
    stale = false ∧ v = if bit w 31 then some (sfld w 0 16) else none) ∧
  (d.rdF (chanOff c + 0x400) 15 4 = 8 → ∀ at_, (d.chan c).ho.extAt = some at_ →
    (at_ + 10000000 ≤ d.clk.aonUs → stale = true ∧ v = (d.chan c).ho.temp) ∧
    (d.clk.aonUs < at_ + 10000000 → stale = false ∧ v = some (sfld (d.rd (chanOff c + 0x410)) 0 16))) ∧
  (d.rdF (chanOff c + 0x400) 15 4 = 8 → (d.chan c).ho.extAt = none → v = none ∧ (stale = true ↔ 10000000 ≤ d.clk.aonUs)) ∧
  (8 < d.rdF (chanOff c + 0x400) 15 4 → v = none ∧ stale = false)

theorem tempRead_reads (c : Fin 16) (d : Dev) : ∃ v stale, d.reads c v stale := by
  rcases lt_trichotomy (d.rdF (chanOff c + 0x400) 15 4) 8 with h | h | h
  · exact ⟨_, _, tempRead_sensor h, fun _ w hw => ⟨rfl, by rw [hw]⟩, fun h' => absurd h' (by omega), fun h' => absurd h' (by omega),
      fun h' => absurd h' (by omega)⟩
  · have he := tempRead_external h
    have hlt : ¬ d.rdF (chanOff c + 0x400) 15 4 < 8 := by omega
    have hgt : ¬ 8 < d.rdF (chanOff c + 0x400) 15 4 := by omega
    cases hext : (d.chan c).ho.extAt with
    | none =>
      rw [hext] at he
      exact ⟨none, decide (10000000 ≤ d.clk.aonUs), he, fun h' => absurd h' hlt, fun _ t ht => absurd (hext.symm.trans ht) (by simp),
        fun _ _ => ⟨rfl, decide_eq_true_iff⟩, fun h' => absurd h' hgt⟩
    | some a =>
      rw [hext] at he
      dsimp only at he
      by_cases hat : a + 10000000 ≤ d.clk.aonUs
      · rw [if_pos hat] at he
        refine ⟨(d.chan c).ho.temp, true, he.trans rfl, fun h' => absurd h' hlt, fun _ t ht => ?_, fun _ hn => absurd (hext.symm.trans hn) (by simp),
          fun h' => absurd h' hgt⟩
        obtain rfl : a = t := Option.some.inj (hext.symm.trans ht)
        exact ⟨fun _ => ⟨rfl, rfl⟩, fun hlt => absurd hat (by omega)⟩
      · rw [if_neg hat] at he
        refine ⟨some (sfld (d.rd (chanOff c + 0x410)) 0 16), false, he, fun h' => absurd h' hlt, fun _ t ht => ?_, fun _ hn => absurd (hext.symm.trans hn) (by simp),
          fun h' => absurd h' hgt⟩
        obtain rfl : a = t := Option.some.inj (hext.symm.trans ht)
        exact ⟨fun hge => absurd hge hat, fun _ => ⟨rfl, rfl⟩⟩
  · exact ⟨_, _, tempRead_none h, fun h' => absurd h' (by omega), fun h' => absurd h' (by omega), fun h' => absurd h' (by omega), fun _ => ⟨rfl, rfl⟩⟩

/-- Settles O51: snapshots, samples, the seconds of HOLDOVER and of a prediction, and the temperature. -/
theorem historyAndPrediction : Obligations.HistoryAndPrediction := by
  unfold Obligations.HistoryAndPrediction
  intro s
  refine ⟨fun hx => ?_, fun c x hx hxc => ?_, fun c x tau y u hx hxc hst ht hy hu => ⟨fun hle => ?_, fun hlt => ?_⟩, fun c b hx hst hb => ?_, fun c w => ?_,
    fun c hx => ⟨?_, ?_, ?_⟩⟩
  · exact ⟨_, exec_run (x := .historySnapshot) (s := s) rfl rfl, rfl, (historySnap_within s.dev).eq, fun c => historySnap_chan hx c⟩
  · subst hxc
    obtain ⟨y, hset, hl, hsum, hn, hw, hsam, hskip⟩ := historySecond_fields (c := c) hx
    have hwi := historySecond_within c s.dev
    refine ⟨_, exec_run (x := .historySample c) (s := s) rfl rfl, rfl, hwi.eq, fun k hk => hset.ne hk, hwi.keepsRegs fun _ h => h, ?_, ?_, ?_, ?_, ?_, ?_⟩
    · exact (congrArg (fun x => x.ho.sum) hset.same).trans hsum
    · exact (congrArg (fun x => x.ho.n) hset.same).trans hn
    · exact (congrArg (fun x => x.ho.whole) hset.same).trans hw
    · exact (congrArg Chan.loop hset.same).trans hl
    · intro hr hwh htr hne
      obtain ⟨h1, h2⟩ := hsam (by simp [Chan.sampled, hr, hwh, htr, hne])
      exact ⟨(congrArg (fun x => x.ho.samples) hset.same).trans h1, (congrArg (fun x => x.ho.histS) hset.same).trans h2⟩
    · intro h
      obtain ⟨h1, h2⟩ := hskip (by rcases h with h | h | h <;> simp [Chan.sampled, h])
      exact ⟨(congrArg (fun x => x.ho.samples) hset.same).trans h1, (congrArg (fun x => x.ho.histS) hset.same).trans h2⟩
  · subst hxc
    obtain ⟨e, he, hset, h424, h428, h448, hw⟩ := heldStep_within c tau y hle
    exact ⟨_, exec_run (x := .holdoverSecond c) (s := s) rfl ((holdoverSec_on hx hst ht hy hu).trans he), rfl,
      hw.eq.trans (congrArg (fun b => ({ s.dev with regs := e.regs, chans := b } : Dev)) hset), h424, h428, h448, hw.keepsRegs fun _ h => h⟩
  · subst hxc
    obtain ⟨e, he, hset, hl, hh, hseq, hw⟩ := heldStep_beyond c tau y hst hlt
    exact ⟨_, exec_run (x := .holdoverSecond c) (s := s) rfl ((holdoverSec_on hx hst ht hy hu).trans he), rfl, congrArg Chan.st hset.same,
      congrArg Chan.loop hset.same, congrArg (fun x => x.ho.histS) hset.same, congrArg (fun x => x.ho.samples) hset.same, hl, hh,
      fun k hk => hset.ne hk, hseq, hw.eq⟩
  · obtain ⟨e, he, hrd, hw⟩ := predicted_fields c (roundDiv (s.dev.yPred c b.1 b.2.2.1 b.2.2.2 0) two24) s.dev
    exact ⟨_, exec_run (x := .hoPredictionSecond c) (s := s) rfl ((predictionSec_on hx hst hb).trans he), rfl, hw.eq, hrd, hw.keepsRegs fun _ h => h⟩
  · obtain ⟨v, stale, he, h1, h2, h3, h4⟩ := tempRead_reads c s.dev
    exact ⟨_, v, stale, exec_run (x := .tempSample c) (s := s) rfl he, rfl, fun hlt => h1 hlt w, h2, h3, h4⟩
  · exact exec_run (x := .historySample c) (s := s) rfl (if_pos (by simp [hx]))
  · exact exec_run (x := .holdoverSecond c) (s := s) rfl (if_neg (by simp [hx]))
  · exact exec_run (x := .hoPredictionSecond c) (s := s) rfl (if_pos (by simp [hx]))

end Sys2Proof.Machine
end

section
/-! The PPS edge of a time scale and the notice of a leap (chapter 8). -/

namespace Sys2Proof.Machine

set_option Elab.async false

variable {S : Scope} {d d₀ d' : Dev} {n : Fin 4} {x : TimeScale} {s : State}

/-! ### The time scales after a change of one -/

/-- Of the time scales, `d'` differs from `d` in time scale `n` alone, which is `x`. -/
def SetsTs (n : Fin 4) (x : TimeScale) (d d' : Dev) : Prop := d'.ts = d.ts.set n x

theorem SetsTs.refl (n : Fin 4) (d : Dev) : SetsTs n (d.tsc n) d d := (set_get d.ts n).symm

theorem SetsTs.same (h : SetsTs n x d d') : d'.tsc n = x := (congrArg (·.get n) h).trans (get_set_same ..)

theorem SetsTs.ne (h : SetsTs n x d d') {k : Fin 4} (hk : k ≠ n) : d'.tsc k = d.tsc k := (congrArg (·.get k) h).trans (get_set_ne _ _ hk)

theorem SetsTs.trans {y : TimeScale} (h : SetsTs n x d₀ d) (h' : SetsTs n y d d') : SetsTs n y d₀ d' := by
  unfold SetsTs at *
  rw [h', h, Vector.set_set]

theorem SetsTs.modTs (h : SetsTs n x d₀ d) {f : TimeScale → TimeScale} : SetsTs n (f x) d₀ (d.modTs n f) := by
  rw [← h.same]
  exact h.trans rfl

/-- Everything but the time scales. -/
def asideTs : Scope :=
  partScope [.regs, .bar4, .bar4Gen, .draws, .top, .chk, .host, .clk, .pwr, .watch, .keeper, .fw, .otp, .chart, .buoys, .pairs, .cycle, .chans, .lans,
    .outs, .vouts, .ports, .txts, .clients, .pilot, .tide]

theorem SetsTs.within (h : SetsTs n x d₀ d) (hw : Within asideTs d d') : SetsTs n x d₀ d' :=
  (show d'.ts = d.ts from hw.same .ts rfl).trans h

/-! ### The registers of an edge -/

/-- The registers that an edge writes. -/
def edgeRegs (n : Fin 4) : List Nat := (tsOff n + 4) :: (tsOff n + 0x74) :: (tsOff n + 0x70) :: (List.range 48).map fun m => sigOff m + 4

theorem sig_of_mem {a : Nat} (h : a ∈ (List.range 48).map fun m => sigOff m + 4) : 0x1C1000 ≤ a ∧ a < 0x1C2000 := by
  obtain ⟨m, hm, rfl⟩ := List.mem_map.mp h
  have := List.mem_range.mp hm
  simp only [sigOff]
  omega

theorem edgeRegs_lt (n : Fin 4) : ∀ a ∈ edgeRegs n, a < 0x2C1200 := by
  intro a ha
  simp only [edgeRegs, List.mem_cons] at ha
  rcases ha with rfl | rfl | rfl | ha
  · simp only [tsOff]; omega
  · simp only [tsOff]; omega
  · simp only [tsOff]; omega
  · have := sig_of_mem ha
    omega

/-- What an edge may change. -/
def edgeScope (n : Fin 4) : Scope := lowScope [.regs, .bar4, .host, .watch, .keeper, .ts, .outs, .vouts] (edgeRegs n) (edgeRegs_lt n)

/-- What an edge changes before its steps. -/
def emitScope (n : Fin 4) : Scope :=
  lowScope [.regs, .draws, .ts] ((tsOff n + 0x70) :: (List.range 48).map fun m => sigOff m + 4) fun a ha =>
    edgeRegs_lt n a (List.mem_cons_of_mem _ (List.mem_cons_of_mem _ ha))

theorem edgeScope_slot {k : Nat} (hw : Within (edgeScope n) d d') (hk : k < 64) : d'.rd (buoyOff k) = d.rd (buoyOff k) := by
  refine hw.below _ (fun h => ?_) (by simp only [buoyOff]; omega)
  simp only [edgeRegs, List.mem_cons, buoyOff, tsOff] at h
  rcases h with h | h | h | h
  · omega
  · omega
  · omega
  · have := sig_of_mem h
    omega

theorem edgeScope_cfg (hw : Within (edgeScope n) d d') : d'.rd (tsOff n) = d.rd (tsOff n) := by
  refine hw.below _ (fun h => ?_) (by simp only [tsOff]; omega)
  simp only [edgeRegs, List.mem_cons, tsOff] at h
  rcases h with h | h | h | h
  · omega
  · omega
  · omega
  · have := sig_of_mem h
    omega

/-- A source that is not valid stays so through an edge. -/
theorem edgeScope_srcValid (hw : Within (edgeScope n) d d') : d'.srcValid n = d.srcValid n := by
  have hcfg := edgeScope_cfg hw
  have hslot : d'.todSlot n = d.todSlot n := congrArg (fun w => Fin.ofNat 64 (fld w 16 6)) hcfg
  have hdec : d'.decoder (d.todSlot n) = d.decoder (d.todSlot n) := congrArg (fun w => fld w 28 4) (edgeScope_slot hw (d.todSlot n).isLt)
  have hen : d'.todEn n = d.todEn n := congrArg (fun w => bit w 25) hcfg
  have hb : d'.buoys = d.buoys := hw.same .buoys rfl
  have hbuoy : d'.buoy (d.todSlot n) = d.buoy (d.todSlot n) := congrArg (·.get (d.todSlot n)) hb
  unfold Dev.srcValid
  simp only [hslot, hen, hdec, Dev.isUp, hbuoy]

/-! ### The event of the second -/

/-- Step 1 with the quantisation errors of the signals. -/
def Dev.edgeEmit (n : Fin 4) (sec : Int) (d : Dev) : Dev := forFin 48 (fun m d => d.qerr m n (sec - 1)) (d.ppsEmit n sec)

/-- The second of an edge is emitted once. -/
def TimeScale.emitted (sec : Int) (x : TimeScale) : TimeScale :=
  match x.hiSec with
  | some h => if h < sec then { x with hiSec := some sec } else x
  | none => { x with hiSec := some sec }

theorem ppsEmit_ts (n : Fin 4) (sec : Int) (d : Dev) : SetsTs n ((d.tsc n).emitted sec) d (d.ppsEmit n sec) := by
  unfold Dev.ppsEmit TimeScale.emitted
  cases (d.tsc n).hiSec with
  | none => exact (SetsTs.refl n d).modTs
  | some h =>
    dsimp only
    split
    · exact (SetsTs.refl n d).modTs
    · exact (SetsTs.refl n d).within ((Within.refl _ d).bump trivial)

theorem Within.qerr (h : Within S d₀ d) {m : Fin 48} {sec : Int} (hreg : S.reg (sigOff m + 4)) (hr : S.Has .regs := by trivial) :
    Within S d₀ (d.qerr m n sec) := by
  unfold Dev.qerr
  extract_lets cfg
  exact .ite (fun _ => h.wrF hreg) fun _ => h

theorem Within.ppsEmit (h : Within S d₀ d) {sec : Int} (hreg : S.reg (tsOff n + 0x70)) (hr : S.Has .regs := by trivial) (ht : S.Has .ts := by trivial) :
    Within S d₀ (d.ppsEmit n sec) := by
  unfold Dev.ppsEmit
  cases (d.tsc n).hiSec with
  | none => exact h.modTs
  | some k => exact .ite (fun _ => h.modTs) fun _ => h.bump hreg

theorem sig_mem (m : Fin 48) : sigOff m + 4 ∈ (List.range 48).map fun m => sigOff m + 4 := List.mem_map.mpr ⟨m, List.mem_range.mpr m.isLt, rfl⟩

theorem Within.edgeEmit (h : Within S d₀ d) {sec : Int} (hreg : S.reg (tsOff n + 0x70)) (hsig : ∀ m : Fin 48, S.reg (sigOff m + 4))
    (hr : S.Has .regs := by trivial) (ht : S.Has .ts := by trivial) : Within S d₀ (d.edgeEmit n sec) :=
  (h.ppsEmit hreg).forFin fun m _ h => h.qerr (hsig m)

theorem edgeEmit_within (n : Fin 4) (sec : Int) (d : Dev) : Within (emitScope n) d (d.edgeEmit n sec) :=
  (Within.refl _ d).edgeEmit List.mem_cons_self fun m => List.mem_cons_of_mem _ (sig_mem m)

theorem edgeScope_count (n : Fin 4) : (edgeScope n).reg (tsOff n + 0x70) := List.mem_cons_of_mem _ (List.mem_cons_of_mem _ List.mem_cons_self)

theorem edgeScope_leaps (n : Fin 4) : (edgeScope n).reg (tsOff n + 0x74) := List.mem_cons_of_mem _ List.mem_cons_self

theorem edgeScope_utc (n : Fin 4) : (edgeScope n).reg (tsOff n + 4) := List.mem_cons_self

theorem edgeEmit_edge (n : Fin 4) (sec : Int) (d : Dev) : Within (edgeScope n) d (d.edgeEmit n sec) :=
  (Within.refl _ d).edgeEmit (edgeScope_count n) fun m =>
    List.mem_cons_of_mem _ (List.mem_cons_of_mem _ (List.mem_cons_of_mem _ (sig_mem m)))

theorem edgeEmit_ts (n : Fin 4) (sec : Int) (d : Dev) : SetsTs n ((d.tsc n).emitted sec) d (d.edgeEmit n sec) :=
  (ppsEmit_ts n sec d).within ((Within.refl _ _).forFin fun _ _ h => h.qerr trivial)

/-- The quantisation errors leave the count of a time scale as it is. -/
theorem edgeEmit_count (n : Fin 4) (sec : Int) (d : Dev) : (d.edgeEmit n sec).rd (tsOff n + 0x70) = (d.ppsEmit n sec).rd (tsOff n + 0x70) := by
  have hw : Within (lowScope [.regs] ((List.range 48).map fun m => sigOff m + 4) fun a ha => by have := sig_of_mem ha; omega) (d.ppsEmit n sec) (d.edgeEmit n sec) :=
    (Within.refl _ _).forFin fun m _ h => h.qerr (sig_mem m)
  refine hw.below _ (fun h => ?_) (by simp only [tsOff]; omega)
  have := sig_of_mem h
  simp only [tsOff] at this
  omega

/-! ### The actions of an edge, in their order -/

/-- Steps 2 to 6 and the capture. -/
def Dev.edgeRest (n : Fin 4) (two : Int × Bool × Dev) : Dev :=
  let d := (two.2.2.edgeUtc n two.1).edgeLeap n two.1
  let four := d.edgeAccept n two.1 (two.2.1 || (d.edgeSetTo n two.1).isSome)
  let five := four.2.edgeSet n four.1
  let d := five.2.edgeCompare n five.1
  if (d.tsc n).armed && d.rdF (tsOff n + 0x20) 6 2 = 1 then d.tsCapture n five.1 else d

theorem ppsEdgeActs_eq (n : Fin 4) : ppsEdgeActs n = fun d => if (d.tsc n).started && d.clk.xo then
    Dev.edgeRest n ((d.edgeEmit n (d.edgeSec n)).edgeSched n (d.edgeSec n * grPerSec)) else d := rfl

/-- A time scale for which nothing waits at its edge but what steps 2, 3 and 5 do. -/
structure Dev.EdgeCalm (n : Fin 4) (d : Dev) : Prop where
  armed : (d.tsc n).armed = false
  utc : (d.tsc n).utc = none
  loc : (d.tsc n).localOfs = none
  hold : (d.tsc n).st ≠ .todHold
  src : d.srcValid n = false

theorem edgeUtc_calm (h : d.EdgeCalm n) (gr : Int) : d.edgeUtc n gr = d := by
  simp only [Dev.edgeUtc, h.utc, h.loc]

theorem edgeAccept_calm (h : d.EdgeCalm n) (gr : Int) (other : Bool) : d.edgeAccept n gr other = (gr, d) := by
  unfold Dev.edgeAccept
  extract_lets t
  exact if_neg (by simp [t, h.hold])

theorem edgeCompare_calm (h : d.EdgeCalm n) (gr : Int) : d.edgeCompare n gr = d := by
  unfold Dev.edgeCompare
  rw [h.src, if_neg (by decide), if_neg h.hold]

/-- With nothing else that waits the rest of an edge is the leap and the set. -/
theorem edgeRest_calm {gr : Int} {acted : Bool} {d : Dev} (h : d.EdgeCalm n) (hl : (d.edgeLeap n gr).EdgeCalm n)
    (hs : ((d.edgeLeap n gr).edgeSet n gr).2.EdgeCalm n) : Dev.edgeRest n (gr, acted, d) = ((d.edgeLeap n gr).edgeSet n gr).2 := by
  unfold Dev.edgeRest
  extract_lets e four five f
  have he : e = d.edgeLeap n gr := congrArg (fun d : Dev => d.edgeLeap n gr) (edgeUtc_calm h gr)
  have h4 : four = (gr, e) := edgeAccept_calm (by rw [he]; exact hl) gr _
  have h5 : five = e.edgeSet n gr := congrArg (fun q : Int × Dev => q.2.edgeSet n q.1) h4
  have hc : five.2.EdgeCalm n := by
    rw [h5, he]
    exact hs
  have h6 : f = five.2 := edgeCompare_calm hc five.1
  rw [if_neg (by rw [h6, hc.armed, Bool.false_and]; exact Bool.false_ne_true), h6, h5, he]

theorem edgeLeap_none (h : (d.tsc n).leap = none) (gr : Int) : d.edgeLeap n gr = d := by
  unfold Dev.edgeLeap
  rw [h]

theorem edgeSet_none (h : (d.tsc n).set = none) (gr : Int) : d.edgeSet n gr = (gr, d) := by
  unfold Dev.edgeSet Dev.edgeSetTo
  rw [h]

theorem edgeSched_none (h : (d.tsc n).step = none) (gr : Int) : d.edgeSched n gr = (gr, false, d) := by
  unfold Dev.edgeSched
  rw [h]

/-! ### Steps -/

/-- The time scale `x` with its count moved by `delta` gr: of what waits nothing has changed. -/
def TimeScale.MovedBy (delta : Int) (x y : TimeScale) : Prop :=
  y.ofs = x.ofs + delta * 16777216 ∧ y.st = x.st ∧ y.set = x.set ∧ y.step = x.step ∧ y.leap = x.leap ∧ y.utc = x.utc ∧ y.localOfs = x.localOfs ∧
  y.armed = x.armed

/-- The time scale with its count moved by `delta` in 2^-24 gr. -/
def TimeScale.shifted (delta at_ : Int) (x : TimeScale) : TimeScale := { x.moved delta at_ with ofs := x.ofs + delta }

/-- The time scale with the notice `b`. -/
def TimeScale.noticed (b : Bool) (x : TimeScale) : TimeScale := { x with notice := b }

theorem SetsTs.noticeJudge (h : SetsTs n x d₀ d) {gr : Int} : SetsTs n (x.noticed (d.noticeDue n gr)) d₀ (d.noticeJudge n gr) := h.modTs

theorem SetsTs.tsStepped (h : SetsTs n x d₀ d) {cause : Nat} {p : Int × Int × Nat} {g0 g1 : Int} :
    ∃ b, SetsTs n (x.noticed b) d₀ (d.tsStepped n cause p g0 g1) := by
  have hb : SetsTs n x d₀ ((d.bump (tsOff n + 0x70) 16 16).event 0x06 n 11 (stepData cause p)) := h.within (((Within.refl _ _).bump trivial).event)
  exact ⟨_, (SetsTs.noticeJudge hb).within (((Within.refl _ _).sigStep).voutStep)⟩

theorem edgeStep_ts (h : SetsTs n x d₀ d) {cause : Nat} {gr : Int} {p : Int × Int × Nat} {delta : Int} (hp : deltaGr p.1 p.2.1 p.2.2 = delta) :
    ∃ y, SetsTs n y d₀ (d.edgeStep n cause gr p) ∧ x.MovedBy delta y := by
  unfold Dev.edgeStep
  rw [hp]
  extract_lets dl
  generalize d.tbGr + gr - d.tsNow n = at_
  have h1 : SetsTs n (x.shifted (dl * 16777216) at_) d₀ (d.tsShift n (dl * 16777216) at_) := h.modTs
  obtain ⟨b, h2⟩ := SetsTs.tsStepped h1 (cause := cause) (p := p) (g0 := gr) (g1 := gr + dl)
  unfold Dev.hiAfter
  split
  · exact ⟨_, h2.modTs, rfl, rfl, rfl, rfl, rfl, rfl, rfl, rfl⟩
  · exact ⟨_, h2, rfl, rfl, rfl, rfl, rfl, rfl, rfl, rfl⟩

/-- A step at an edge is counted, and is one event. -/
theorem edgeStep_counts (n : Fin 4) (cause : Nat) (gr : Int) (p : Int × Int × Nat) (d : Dev) :
    Counts (tsOff n + 0x70) 16 16 d (d.edgeStep n cause gr p) ∧ ((d.edgeStep n cause gr p).ring 8).seq = (d.ring 8).seq + 1 := by
  unfold Dev.edgeStep
  extract_lets delta
  generalize d.tbGr + gr - d.tsNow n = at_
  have h1 : Counts (tsOff n + 0x70) 16 16 d ((d.tsShift n (delta * 16777216) at_).bump (tsOff n + 0x70) 16 16) :=
    (bump_counts _ _ (by decide)).before rfl
  have hseq : ((((d.tsShift n (delta * 16777216) at_).bump (tsOff n + 0x70) 16 16).event 0x06 n 11 (stepData cause p)).ring 8).seq = (d.ring 8).seq + 1 :=
    event_seq ..
  have he : Within (lowScope [.regs, .bar4, .host, .keeper] []) ((d.tsShift n (delta * 16777216) at_).bump (tsOff n + 0x70) 16 16)
      (((d.tsShift n (delta * 16777216) at_).bump (tsOff n + 0x70) 16 16).event 0x06 n 11 (stepData cause p)) := (Within.refl _ _).event
  have h2 := h1.after (he.below (tsOff n + 0x70) (by simp) (by simp only [tsOff]; omega))
  have hs : Within (lowScope [.ts, .outs, .vouts] []) (((d.tsShift n (delta * 16777216) at_).bump (tsOff n + 0x70) 16 16).event 0x06 n 11 (stepData cause p))
      (((d.tsShift n (delta * 16777216) at_).tsStepped n cause p gr (gr + delta)).hiAfter n (gr + delta)) := by
    have h : Within (lowScope [.ts, .outs, .vouts] []) (((d.tsShift n (delta * 16777216) at_).bump (tsOff n + 0x70) 16 16).event 0x06 n 11 (stepData cause p))
        ((d.tsShift n (delta * 16777216) at_).tsStepped n cause p gr (gr + delta)) := ((Within.refl _ _).noticeJudge.sigStep).voutStep
    exact .ite (fun _ => h.modTs) fun _ => h
  exact ⟨h2.after (hs.below (tsOff n + 0x70) (by simp) (by simp only [tsOff]; omega)), (congrArg (fun v : HostIf => (v.rings.get 8).seq) hs.host).trans hseq⟩

theorem edgeStep_within (n : Fin 4) (cause : Nat) (gr : Int) (p : Int × Int × Nat) (d : Dev) : Within (edgeScope n) d (d.edgeStep n cause gr p) := by
  unfold Dev.edgeStep
  extract_lets delta
  generalize d.tbGr + gr - d.tsNow n = at_
  have h : Within (edgeScope n) d ((d.tsShift n (delta * 16777216) at_).tsStepped n cause p gr (gr + delta)) :=
    Within.tsStepped (Within.refl _ d).modTs (edgeScope_count n) ⟨⟨rfl, rfl, rfl⟩, rfl⟩ rfl rfl rfl
  exact .ite (fun _ => h.modTs) fun _ => h

/-! ### What stays calm -/

theorem Dev.EdgeCalm.of {y : TimeScale} {e : Dev} (h : d.EdgeCalm n) (hs : SetsTs n y d e) (hw : Within (edgeScope n) d e) (ha : y.armed = (d.tsc n).armed)
    (hu : y.utc = (d.tsc n).utc) (hl : y.localOfs = (d.tsc n).localOfs) (hst : y.st ≠ .todHold) : e.EdgeCalm n := by
  have hy := hs.same
  exact ⟨by rw [hy, ha, h.armed], by rw [hy, hu, h.utc], by rw [hy, hl, h.loc], by rw [hy]; exact hst, (edgeScope_srcValid hw).trans h.src⟩

theorem emitted_keeps (sec : Int) (x : TimeScale) : ∃ hi, x.emitted sec = { x with hiSec := hi } := by
  unfold TimeScale.emitted
  split
  · split
    · exact ⟨_, rfl⟩
    · exact ⟨x.hiSec, rfl⟩
  · exact ⟨_, rfl⟩

/-- An edge at which nothing else waits, after the event of its second. -/
theorem edgeEmit_calm (h : d.EdgeCalm n) (sec : Int) : (d.edgeEmit n sec).EdgeCalm n := by
  obtain ⟨hi, he⟩ := emitted_keeps sec (d.tsc n)
  have hs := edgeEmit_ts n sec d
  rw [he] at hs
  exact h.of hs (edgeEmit_edge n sec d) rfl rfl rfl h.hold

/-- The event of a second leaves the count of the steps. -/
theorem edgeEmit_steps (n : Fin 4) (sec : Int) (d : Dev) : (d.edgeEmit n sec).rdF (tsOff n + 0x70) 16 16 = d.rdF (tsOff n + 0x70) 16 16 := by
  have h : (d.ppsEmit n sec).rdF (tsOff n + 0x70) 16 16 = d.rdF (tsOff n + 0x70) 16 16 := by
    unfold Dev.ppsEmit
    cases (d.tsc n).hiSec with
    | none => rfl
    | some k =>
      dsimp only
      split
      · rfl
      · exact rdF_wrF_above _ _ d (by decide) (by decide)
  exact (congrArg (fun w => fld w 16 16) (edgeEmit_count n sec d)).trans h

theorem Counts.beforeField {off lo width : Nat} {e : Dev} (h : Counts off lo width d d') (he : d.rdF off lo width = e.rdF off lo width) :
    Counts off lo width e d' := by
  unfold Counts at *
  rw [← he]
  exact h

/-! ### Step 2: a scheduled step -/

theorem edgeSched_due {p : StepPend} {sec : Int} (h : (d.tsc n).step = some p) (hd : (p.atSec : Int) ≤ sec) : ∃ cause,
    d.edgeSched n (sec * grPerSec) = (sec * grPerSec + deltaGr p.dsec p.dns p.dgr, true,
      (d.modTs n fun t => { t with step := none }).edgeStep n cause (sec * grPerSec) (p.dsec, p.dns, p.dgr)) := by
  have hle : (p.atSec : Int) * grPerSec ≤ sec * grPerSec := mul_le_mul_of_nonneg_right hd (Int.natCast_nonneg _)
  generalize sec * (grPerSec : Int) = gr at *
  unfold Dev.edgeSched
  rw [h]
  exact ⟨_, if_pos hle⟩

/-! ### Step 3: a leap -/

/-- The leap at its edge. -/
def Dev.leapTo (n : Fin 4) (del : Bool) (off : Nat) (d : Dev) : Dev :=
  (((d.wrF (tsOff n + 4) 0 10 off).modTs n fun t => { t with leap := none, notice := false }).bump (tsOff n + 0x74) 0 16).event 0x07 n 11
    (b8 (if del then 1 else 0) :: leBytes 2 off)

theorem edgeLeap_due {del : Bool} {day : Nat} {sec : Int} (h : (d.tsc n).leap = some (del, day)) (hd : (leapEdge (d.utcOffset n) del day : Int) ≤ sec) :
    d.edgeLeap n (sec * grPerSec) = d.leapTo n del (if del then d.utcOffset n - 1 else min (d.utcOffset n + 1) 1023) := by
  have hle : (leapEdge (d.utcOffset n) del day : Int) * grPerSec ≤ sec * grPerSec := mul_le_mul_of_nonneg_right hd (Int.natCast_nonneg _)
  generalize sec * (grPerSec : Int) = gr at *
  unfold Dev.edgeLeap
  rw [h]
  exact if_pos hle

theorem leapTo_ts (n : Fin 4) (del : Bool) (off : Nat) (d : Dev) : SetsTs n { d.tsc n with leap := none, notice := false } d (d.leapTo n del off) := by
  have h1 : SetsTs n { d.tsc n with leap := none, notice := false } d ((d.wrF (tsOff n + 4) 0 10 off).modTs n fun t => { t with leap := none, notice := false }) :=
    ((SetsTs.refl n d).within ((Within.refl _ d).wrF trivial)).modTs
  exact h1.within (((Within.refl _ _).bump trivial).event)

theorem leapTo_within (n : Fin 4) (del : Bool) (off : Nat) (d : Dev) : Within (edgeScope n) d (d.leapTo n del off) :=
  (((Within.refl _ d).wrF (edgeScope_utc n)).modTs.bump (edgeScope_leaps n)).event

theorem leapTo_fields (n : Fin 4) (del : Bool) {off : Nat} (hoff : off < 2 ^ 10) (d : Dev) : (d.leapTo n del off).utcOffset n = off ∧
    Counts (tsOff n + 0x74) 0 16 d (d.leapTo n del off) ∧ ((d.leapTo n del off).ring 8).seq = (d.ring 8).seq + 1 := by
  have hev : Within (lowScope [.regs, .bar4, .host, .keeper] [])
      (((d.wrF (tsOff n + 4) 0 10 off).modTs n fun t => { t with leap := none, notice := false }).bump (tsOff n + 0x74) 0 16) (d.leapTo n del off) :=
    (Within.refl _ _).event
  have h4 : ((((d.wrF (tsOff n + 4) 0 10 off).modTs n fun t => { t with leap := none, notice := false }).bump (tsOff n + 0x74) 0 16)).rd (tsOff n + 4) =
      (d.wrF (tsOff n + 4) 0 10 off).rd (tsOff n + 4) := rd_wrF_ne (off := tsOff n + 0x74) _ _ _ _ (by omega)
  refine ⟨?_, ?_, event_seq ..⟩
  · exact (congrArg (fun w => fld w 0 10) ((hev.below (tsOff n + 4) (by simp) (by simp only [tsOff]; omega)).trans h4)).trans
      (rdF_wrF_same _ d (by decide) hoff)
  · have hc := (bump_counts (tsOff n + 0x74) (lo := 0) (width := 16) ((d.wrF (tsOff n + 4) 0 10 off).modTs n fun t => { t with leap := none, notice := false })
      (by decide)).before (d := d) (rd_wrF_ne (off := tsOff n + 4) _ _ _ d (by omega))
    exact hc.after (hev.below (tsOff n + 0x74) (by simp) (by simp only [tsOff]; omega))

/-! ### Step 5: a set -/

theorem deltaGr_deltaParts (g : Int) : deltaGr (deltaParts g).1 (deltaParts g).2.1 (deltaParts g).2.2 = g := by
  have h := Int.tmod_add_mul_tdiv (g / 65536) 1000000000
  simp only [deltaGr, deltaParts]
  omega

/-- The set of TS to the triple `g`. -/
def Dev.setTo (n : Fin 4) (g gr : Int) (d : Dev) : Dev :=
  (((d.modTs n fun t => { t with set := none, hiSec := if t.st = .unset then none else t.hiSec }).edgeStep n 1 gr (deltaParts (g - gr))).tsClearHold n).tsTo n
    .running 1

theorem edgeSet_triple {g gr : Int} (h : (d.tsc n).set = some (.triple g)) : d.edgeSet n gr = (g, d.setTo n g gr) := by
  have hto : d.edgeSetTo n gr = some (1, g) := by
    unfold Dev.edgeSetTo
    rw [h]
  unfold Dev.edgeSet
  rw [hto]
  rfl

theorem setTo_ts (n : Fin 4) (g gr : Int) (d : Dev) : ∃ y, SetsTs n y d (d.setTo n g gr) ∧ y.set = none ∧ y.st = .running ∧
    y.ofs = (d.tsc n).ofs + (g - gr) * 16777216 ∧ y.utc = (d.tsc n).utc ∧ y.localOfs = (d.tsc n).localOfs ∧ y.armed = (d.tsc n).armed := by
  have h1 := (SetsTs.refl n d).modTs (f := fun t => { t with set := none, hiSec := if t.st = .unset then none else t.hiSec })
  obtain ⟨y, h2, ho, -, hset, -, -, hu, hl, ha⟩ := edgeStep_ts h1 (cause := 1) (gr := gr) (p := deltaParts (g - gr)) (deltaGr_deltaParts (g - gr))
  have h3 : SetsTs n { y with holdK := 0, consist := 0, accept := false, st := .running } d (d.setTo n g gr) :=
    ((SetsTs.modTs h2).modTs).within (((Within.refl _ _).stateEv).loadRefresh)
  exact ⟨_, h3, hset, rfl, ho, hu, hl, ha⟩

theorem setTo_within (n : Fin 4) (g gr : Int) (d : Dev) : Within (edgeScope n) d (d.setTo n g gr) :=
  Within.tsTo (((Within.refl (edgeScope n) d).modTs.trans (edgeStep_within ..)).modTs) rfl ⟨⟨rfl, rfl, rfl⟩, rfl⟩ rfl

theorem setTo_counts (n : Fin 4) (g gr : Int) (d : Dev) : Counts (tsOff n + 0x70) 16 16 d (d.setTo n g gr) := by
  have h := (edgeStep_counts n 1 gr (deltaParts (g - gr)) (d.modTs n fun t => { t with set := none, hiSec := if t.st = .unset then none else t.hiSec })).1
  have hw : Within (lowScope [.regs, .bar4, .host, .keeper, .watch, .ts] [])
      ((d.modTs n fun t => { t with set := none, hiSec := if t.st = .unset then none else t.hiSec }).edgeStep n 1 gr (deltaParts (g - gr))) (d.setTo n g gr) :=
    Within.tsTo (Within.refl _ _).modTs rfl ⟨⟨rfl, rfl, rfl⟩, rfl⟩ rfl
  exact (h.before rfl).after (hw.below (tsOff n + 0x70) (by simp) (by simp only [tsOff]; omega))

/-! ### An edge with nothing, a step, a leap or a set -/

theorem ppsEdgeActs_on (hst : (d.tsc n).started = true) (hx : d.clk.xo = true) :
    ppsEdgeActs n d = Dev.edgeRest n ((d.edgeEmit n (d.edgeSec n)).edgeSched n (d.edgeSec n * grPerSec)) := by
  rw [ppsEdgeActs_eq]
  exact if_pos (by simp [hst, hx])

/-- After the event of its second, with no step that waits, an edge is its leap and its set. -/
theorem edge_unstepped {sec : Int} (hc : d.EdgeCalm n) (hstep : (d.tsc n).step = none)
    (hl : ((d.edgeEmit n sec).edgeLeap n (sec * grPerSec)).EdgeCalm n)
    (hs : (((d.edgeEmit n sec).edgeLeap n (sec * grPerSec)).edgeSet n (sec * grPerSec)).2.EdgeCalm n) :
    Dev.edgeRest n ((d.edgeEmit n sec).edgeSched n (sec * grPerSec)) =
      (((d.edgeEmit n sec).edgeLeap n (sec * grPerSec)).edgeSet n (sec * grPerSec)).2 := by
  obtain ⟨hi, he⟩ := emitted_keeps sec (d.tsc n)
  have hts := (edgeEmit_ts n sec d).same
  rw [edgeSched_none (by rw [hts, he]; exact hstep)]
  exact edgeRest_calm (edgeEmit_calm hc sec) hl hs

/-- An edge with nothing that waits. -/
theorem edge_quiet {sec : Int} (hc : d.EdgeCalm n) (hstep : (d.tsc n).step = none) (hset : (d.tsc n).set = none) (hleap : (d.tsc n).leap = none) :
    Dev.edgeRest n ((d.edgeEmit n sec).edgeSched n (sec * grPerSec)) = d.edgeEmit n sec := by
  obtain ⟨hi, he⟩ := emitted_keeps sec (d.tsc n)
  have hts := (edgeEmit_ts n sec d).same
  rw [he] at hts
  have hcalm := edgeEmit_calm hc sec
  have hl : (d.edgeEmit n sec).edgeLeap n (sec * grPerSec) = d.edgeEmit n sec := edgeLeap_none (by rw [hts]; exact hleap) _
  have hs : (d.edgeEmit n sec).edgeSet n (sec * grPerSec) = (sec * grPerSec, d.edgeEmit n sec) := edgeSet_none (by rw [hts]; exact hset) _
  rw [edge_unstepped hc hstep (by rw [hl]; exact hcalm) (by rw [hl, hs]; exact hcalm), hl, hs]

/-- An edge whose step has been taken, with no leap and no set that waits. -/
theorem edge_plain {gr : Int} {acted : Bool} (hc : d.EdgeCalm n) (hl : (d.tsc n).leap = none) (hs : (d.tsc n).set = none) : Dev.edgeRest n (gr, acted, d) = d := by
  have h1 := edgeLeap_none hl gr
  have h2 := edgeSet_none hs gr
  rw [edgeRest_calm hc (by rw [h1]; exact hc) (by rw [h1, h2]; exact hc), h1, h2]

/-- An edge with a step that is due. -/
theorem edge_stepped {sec : Int} {p : StepPend} {d : Dev} (hc : d.EdgeCalm n) (hstep : (d.tsc n).step = some p) (hd : (p.atSec : Int) ≤ sec)
    (hset : (d.tsc n).set = none) (hleap : (d.tsc n).leap = none) : ∃ e y,
    Dev.edgeRest n ((d.edgeEmit n sec).edgeSched n (sec * grPerSec)) = e ∧ SetsTs n y d e ∧ y.step = none ∧
    y.ofs = (d.tsc n).ofs + deltaGr p.dsec p.dns p.dgr * 16777216 ∧ y.st = (d.tsc n).st ∧ Within (edgeScope n) d e ∧
    Counts (tsOff n + 0x70) 16 16 d e ∧ (e.ring 8).seq = (d.ring 8).seq + 1 := by
  obtain ⟨hi, he⟩ := emitted_keeps sec (d.tsc n)
  have hts := edgeEmit_ts n sec d
  rw [he] at hts
  have hemit := edgeEmit_edge n sec d
  have hsteps := edgeEmit_steps n sec d
  have hring : ((d.edgeEmit n sec).ring 8).seq = (d.ring 8).seq :=
    congrArg (fun v : HostIf => (v.rings.get 8).seq) (edgeEmit_within n sec d).host
  obtain ⟨cause, hsched⟩ := edgeSched_due (d := d.edgeEmit n sec) (n := n) (p := p) (by rw [hts.same]; exact hstep) hd
  rw [hsched]
  have h1 := hts.modTs (f := fun t => { t with step := none })
  obtain ⟨y, h2, ho, hst, hs, hp, hl, hu, hloc, ha⟩ := edgeStep_ts h1 (cause := cause) (gr := sec * grPerSec) (p := (p.dsec, p.dns, p.dgr)) rfl
  obtain ⟨hcount, hseq⟩ := edgeStep_counts n cause (sec * grPerSec) (p.dsec, p.dns, p.dgr) ((d.edgeEmit n sec).modTs n fun t => { t with step := none })
  have hw := (hemit.modTs (n := n) (f := fun t => { t with step := none })).trans (edgeStep_within n cause (sec * grPerSec) (p.dsec, p.dns, p.dgr) _)
  have hcalm := hc.of h2 hw ha hu hloc (by rw [hst]; exact hc.hold)
  refine ⟨_, y, edge_plain hcalm (hl := by rw [h2.same, hl]; exact hleap) (hs := by rw [h2.same, hs]; exact hset) .., h2, hp, ho, hst, hw,
    hcount.beforeField hsteps, hseq.trans (congrArg (· + 1) hring)⟩

/-- An edge with a leap that is due. -/
theorem edge_leapt {sec : Int} {del : Bool} {day : Nat} {d : Dev} (hc : d.EdgeCalm n) (hleap : (d.tsc n).leap = some (del, day))
    (hd : (leapEdge (d.utcOffset n) del day : Int) ≤ sec) (hstep : (d.tsc n).step = none) (hset : (d.tsc n).set = none) : ∃ e y,
    Dev.edgeRest n ((d.edgeEmit n sec).edgeSched n (sec * grPerSec)) = e ∧ SetsTs n y d e ∧ y.leap = none ∧ y.notice = false ∧ y.ofs = (d.tsc n).ofs ∧
    e.utcOffset n = (if del then d.utcOffset n - 1 else min (d.utcOffset n + 1) 1023) ∧ Within (edgeScope n) d e ∧
    Counts (tsOff n + 0x74) 0 16 d e ∧ (e.ring 8).seq = (d.ring 8).seq + 1 := by
  obtain ⟨hi, he⟩ := emitted_keeps sec (d.tsc n)
  have hts := edgeEmit_ts n sec d
  rw [he] at hts
  have hemit := edgeEmit_within n sec d
  have hout : ∀ k, k = 4 ∨ k = 0x74 → (d.edgeEmit n sec).rd (tsOff n + k) = d.rd (tsOff n + k) := fun k hk => by
    refine hemit.below _ (fun h => ?_) (by simp only [tsOff]; omega)
    simp only [List.mem_cons] at h
    rcases h with h | h
    · omega
    · have := sig_of_mem h
      simp only [tsOff] at this
      omega
  have hutc : (d.edgeEmit n sec).utcOffset n = d.utcOffset n := congrArg (fun w => fld w 0 10) (hout 4 (.inl rfl))
  have hring : ((d.edgeEmit n sec).ring 8).seq = (d.ring 8).seq := congrArg (fun v : HostIf => (v.rings.get 8).seq) hemit.host
  have hl := edgeLeap_due (d := d.edgeEmit n sec) (n := n) (day := day) (sec := sec) (by rw [hts.same]; exact hleap) (by rw [hutc]; exact hd)
  rw [hutc] at hl
  have hoff : (if del then d.utcOffset n - 1 else min (d.utcOffset n + 1) 1023) < 2 ^ 10 := by
    have : d.utcOffset n < 2 ^ 10 := Nat.mod_lt _ (by decide)
    split <;> omega
  obtain ⟨hto, hcount, hseq⟩ := leapTo_fields n del hoff (d.edgeEmit n sec)
  generalize (if del then d.utcOffset n - 1 else min (d.utcOffset n + 1) 1023) = off at *
  have hls := hts.trans (by have h := leapTo_ts n del off (d.edgeEmit n sec); rw [hts.same] at h; exact h)
  have hw := (edgeEmit_edge n sec d).trans (leapTo_within n del off (d.edgeEmit n sec))
  have hcalm := hc.of hls hw rfl rfl rfl hc.hold
  have hs := edgeSet_none (d := (d.edgeEmit n sec).leapTo n del off) (n := n) (by rw [hls.same]; exact hset) (sec * grPerSec)
  exact ⟨_, _, (edge_unstepped hc hstep (by rw [hl]; exact hcalm) (by rw [hl, hs]; exact hcalm)).trans (by rw [hl, hs]), hls, rfl, rfl, rfl, hto, hw, hcount.before (hout 0x74 (.inr rfl)), hseq.trans (congrArg (· + 1) hring)⟩

/-- An edge with a triple that waits. -/
theorem edge_setTo {sec g : Int} {d : Dev} (hc : d.EdgeCalm n) (hset : (d.tsc n).set = some (.triple g)) (hstep : (d.tsc n).step = none)
    (hleap : (d.tsc n).leap = none) : ∃ e y,
    Dev.edgeRest n ((d.edgeEmit n sec).edgeSched n (sec * grPerSec)) = e ∧ SetsTs n y d e ∧ y.set = none ∧ y.st = .running ∧
    y.ofs = (d.tsc n).ofs + (g - sec * grPerSec) * 16777216 ∧ Within (edgeScope n) d e ∧ Counts (tsOff n + 0x70) 16 16 d e := by
  obtain ⟨hi, he⟩ := emitted_keeps sec (d.tsc n)
  have hts := edgeEmit_ts n sec d
  rw [he] at hts
  have hcalm := edgeEmit_calm hc sec
  have hl : (d.edgeEmit n sec).edgeLeap n (sec * grPerSec) = d.edgeEmit n sec := edgeLeap_none (by rw [hts.same]; exact hleap) _
  have hs := edgeSet_triple (d := d.edgeEmit n sec) (n := n) (g := g) (gr := sec * grPerSec) (by rw [hts.same]; exact hset)
  obtain ⟨y, hy, h1, h2, h3, h4, h5, h6⟩ := setTo_ts n g (sec * grPerSec) (d.edgeEmit n sec)
  rw [hts.same] at h3 h4 h5 h6
  have hall := hts.trans hy
  have hw := (edgeEmit_edge n sec d).trans (setTo_within n g (sec * grPerSec) (d.edgeEmit n sec))
  have hcalm' := hc.of hall hw h6 h4 h5 (by rw [h2]; exact fun e => TsState.noConfusion e)
  refine ⟨_, y, edge_unstepped hc hstep (by rw [hl]; exact hcalm) (by rw [hl, hs]; exact hcalm'), ?_⟩
  rw [hl, hs]
  exact ⟨hall, h1, h2, h3, hw, (setTo_counts n g (sec * grPerSec) (d.edgeEmit n sec)).beforeField (edgeEmit_steps n sec d)⟩

theorem emitted_suppressed {sec h : Int} (hh : x.hiSec = some h) (hle : sec ≤ h) : x.emitted sec = x := by
  unfold TimeScale.emitted
  rw [hh]
  exact if_neg (by omega)

theorem emitted_new {sec : Int} (hh : x.hiSec = none ∨ ∃ h, x.hiSec = some h ∧ h < sec) : x.emitted sec = { x with hiSec := some sec } := by
  unfold TimeScale.emitted
  rcases hh with hh | ⟨h, hh, hlt⟩
  · rw [hh]
  · rw [hh]
    exact if_pos hlt

theorem edgeEmit_suppressed {sec h : Int} (hh : (d.tsc n).hiSec = some h) (hle : sec ≤ h) : Counts (tsOff n + 0x70) 0 16 d (d.edgeEmit n sec) := by
  have he : d.ppsEmit n sec = d.bump (tsOff n + 0x70) 0 16 := by
    unfold Dev.ppsEmit
    rw [hh]
    exact if_neg (by omega)
  have hc := bump_counts (tsOff n + 0x70) (lo := 0) (width := 16) d (by decide)
  rw [← he] at hc
  exact hc.after (edgeEmit_count n sec d)

theorem edgeEmit_new {sec : Int} (hh : (d.tsc n).hiSec = none ∨ ∃ h, (d.tsc n).hiSec = some h ∧ h < sec) :
    (d.edgeEmit n sec).rd (tsOff n + 0x70) = d.rd (tsOff n + 0x70) := by
  refine (edgeEmit_count n sec d).trans ?_
  unfold Dev.ppsEmit
  rcases hh with hh | ⟨h, hh, hlt⟩
  · rw [hh]
    rfl
  · rw [hh]
    dsimp only
    rw [if_pos hlt]
    rfl

/-- Settles O52: what waits at the edge acts, and nothing else. -/
theorem ppsEdges : Obligations.PpsEdges := by
  unfold Obligations.PpsEdges
  intro n s
  refine ⟨fun sec hst hx hsec ha hu hl hh hsrc => ?_, fun h => ?_, _, exec_run (x := .leapNoticeStart n) (s := s) rfl rfl, rfl⟩
  · have hc : s.dev.EdgeCalm n := ⟨ha, hu, hl, hh, hsrc⟩
    have hx := exec_run (x := .ppsEdge n) (s := s) rfl (ppsEdgeActs_on hst hx)
    rw [← hsec] at hx
    refine ⟨fun h1 h2 h3 => ?_, fun p hp hd h2 h3 => ?_, fun del day hle hd h1 h2 => ?_, fun g hg h1 h3 => ?_⟩
    · rw [edge_quiet hc h1 h2 h3] at hx
      have hw := edgeEmit_within n sec s.dev
      have hts := edgeEmit_ts n sec s.dev
      refine ⟨_, hx, rfl, hw.eq, fun k hk => hts.ne hk, hw.keepsRegs fun _ h => h, fun h hh hle => ⟨?_, edgeEmit_suppressed hh hle⟩, fun hh => ⟨?_, edgeEmit_new hh⟩⟩
      · exact hts.same.trans (emitted_suppressed hh hle)
      · exact hts.same.trans (emitted_new hh)
    · obtain ⟨e, y, he, hts, hstep, hofs, hst, hw, hcount, hseq⟩ := edge_stepped hc hp hd h2 h3
      rw [he] at hx
      exact ⟨_, hx, rfl, (congrArg TimeScale.step hts.same).trans hstep, (congrArg TimeScale.ofs hts.same).trans hofs,
        (congrArg TimeScale.st hts.same).trans hst, fun k hk => hts.ne hk, hw.same .chans rfl, hcount, hseq⟩
    · obtain ⟨e, y, he, hts, hleap, hnot, hofs, hutc, hw, hcount, hseq⟩ := edge_leapt hc hle hd h1 h2
      rw [he] at hx
      exact ⟨_, hx, rfl, (congrArg TimeScale.leap hts.same).trans hleap, (congrArg TimeScale.notice hts.same).trans hnot,
        (congrArg TimeScale.ofs hts.same).trans hofs, hutc, fun k hk => hts.ne hk, hw.same .chans rfl, hcount, hseq⟩
    · obtain ⟨e, y, he, hts, hset, hst, hofs, hw, hcount⟩ := edge_setTo (sec := sec) hc hg h1 h3
      rw [he] at hx
      exact ⟨_, hx, rfl, (congrArg TimeScale.set hts.same).trans hset, (congrArg TimeScale.st hts.same).trans hst,
        (congrArg TimeScale.ofs hts.same).trans hofs, fun k hk => hts.ne hk, hw.same .chans rfl, hcount⟩
  · exact exec_run (x := .ppsEdge n) (s := s) rfl (by rw [ppsEdgeActs_eq]; exact if_neg (by rcases h with h | h <;> simp [h]))

end Sys2Proof.Machine
end

section
/-! What every ring command shares: the device that its acceptance leaves, and the words that it stores. -/

namespace Sys2Proof.Machine

set_option Elab.async false

variable {S : Scope} {d d₀ d' : Dev} {c : Cmd} {op : Nat} {s : State}

/-- Accepting a command changes the host interface and the Keeper alone. -/
def acceptScope : Scope := ⟨[.host, .keeper], fun _ => False, true, true, true, fun h => absurd h (by decide)⟩

theorem begun_within (c : Cmd) (op : Nat) (d : Dev) : Within acceptScope d (d.begun c op) := by
  refine ⟨fun p hp => ?_, fun a _ _ => begun_rd c op d a, fun h => absurd h (by decide), fun _ => .of_eq ?_, fun _ => congrArg Source.cond (source_of_watch ?_ 146)⟩
  · rw [begun_eq]
    cases p with
    | host => exact absurd hp (by decide)
    | keeper => exact absurd hp (by decide)
    | _ => rfl
  · rw [begun_eq]
  · rw [begun_eq]

/-- A command of checked parameters serves what its effect gives, whatever its checks read of the device. -/
theorem serves_body {x : Instr} {used : List Param} {bad : List Nat} {Q : CmdOut → Dev → Prop} {body : Dev → Option CmdOut × Dev}
    (f : Dev → CmdOut × Dev) (hx : exec x s = run (command op c body) s) (hb : body (s.dev.begun c op) = checked c used bad f (s.dev.begun c op))
    (hq : paramFail c used bad = none → Q (f (s.dev.begun c op)).1 (f (s.dev.begun c op)).2) : Serves x c op used bad s Q := by
  intro ha
  refine ⟨fun i hi => ⟨_, hx, ?_⟩, fun hn => ⟨_, _, _, hx, ?_, hq hn⟩⟩
  · show ({ s with dev := command op c body s.dev } : State) = _
    rw [command_ends ha (d' := s.dev.begun c op) (o := .invalid i) (by rw [hb]; simp only [checked, hi])]
  · show ({ s with dev := command op c body s.dev } : State) = _
    rw [command_ends ha (d' := (f (s.dev.begun c op)).2) (o := (f (s.dev.begun c op)).1) (by rw [hb]; simp only [checked, hn])]

/-- A field of a parameter word names an object where its family has as many. -/
theorem pf_lt (c : Cmd) (w lo width : Nat) : pf c w lo width < 2 ^ width := Nat.mod_lt _ (Nat.two_pow_pos width)

/-! ### Stored words -/

theorem Stored.stands {l : List (Nat × Word)} (h : Stored l d d') : Stands l d' := h.1

/-- Parameter words written one after the other are stored. -/
theorem stored_params (c : Cmd) (i off n : Nat) (d : Dev) : Stored (wordsAt c i off n) d (d.wrWords off ((List.range n).map fun k => wordAt c.words (i + k))) := by
  have h := stored_wrWords ((List.range n).map fun k => wordAt c.words (i + k)) off d
  have hl : (List.range ((List.range n).map fun k => wordAt c.words (i + k)).length).map
      (fun k => (off + 4 * k, ((List.range n).map fun k => wordAt c.words (i + k)).getD k 0)) = wordsAt c i off n := by
    rw [List.length_map, List.length_range]
    refine List.map_congr_left fun k hk => ?_
    have hk := List.mem_range.mp hk
    simp [List.getD, hk]
  rwa [hl] at h

theorem wordsAt_mem {c : Cmd} {i off n : Nat} {e : Nat × Word} (h : e ∈ wordsAt c i off n) : ∃ k, k < n ∧ e.1 = off + 4 * k := by
  obtain ⟨k, hk, rfl⟩ := List.mem_map.mp h
  exact ⟨k, List.mem_range.mp hk, rfl⟩

theorem stored_wr (off : Nat) (w : Word) (d : Dev) : Stored [(off, w)] d (d.wr off w) := by
  refine ⟨fun e he => ?_, fun a ha => rd_wr_ne w d fun h => ?_⟩
  · obtain rfl := List.mem_singleton.mp he
    exact rd_wr_same ..
  · exact ha (off, w) (List.mem_singleton.mpr rfl) h.symm

theorem Stored.from {l : List (Nat × Word)} {e : Dev} (h : Stored l d d') (he : ∀ a, d.rd a = e.rd a) : Stored l e d' :=
  ⟨h.1, fun a ha => (h.2 a ha).trans (he a)⟩

/-- Stored words stay where only other registers change. -/
theorem Stored.after {l : List (Nat × Word)} {e : Dev} (h : Stored l d d') (he : ∀ a, e.rd a = d'.rd a) : Stored l d e :=
  ⟨fun x hx => (he x.1).trans (h.1 x hx), fun a ha => (he a).trans (h.2 a ha)⟩

end Sys2Proof.Machine
end

section
/-! The commands of the reference slots (chapters 3 and 4). -/

namespace Sys2Proof.Machine

set_option Elab.async false

variable {S : Scope} {d d₀ d' : Dev} {n : Fin 64} {x : Buoy} {c : Cmd} {s : State}

/-! ### The slot restarts -/

/-- What a restart clears beyond a loss. -/
def Buoy.restarted (x : Buoy) : Buoy :=
  { x with act := { x.act with gross := false, pre := 0 }, mon := { x.mon with tie := [], tieLeft := false }, dec := { x.dec with rangeNow := false } }

/-- The end of a restart. -/
def Dev.restartEnd (n : Fin 64) (d : Dev) : Dev := (d.modBuoy n Buoy.restarted).wrF (buoyOff n + 0x50) 31 1 0

theorem slotRestart_eq (n : Fin 64) (d : Dev) : d.slotRestart n = (d.slotDown n 1).restartEnd n := rfl

theorem SetsBuoy.restartEnd (h : SetsBuoy n x d₀ d) : SetsBuoy n x.restarted d₀ (d.restartEnd n) := h.modBuoy.within ((Within.refl _ _).wrF trivial)

theorem restartEnd_done (n : Fin 64) (d : Dev) : (d.restartEnd n).rdF (buoyOff n + 0x50) 31 1 = 0 := rdF_wrF_same _ _ (by decide) (by decide)

/-- A restarted slot is DOWN, and has qualified before where it had. -/
theorem slotRestart_fields (h : SetsBuoy n x d₀ d) : ∃ y, SetsBuoy n y d₀ (d.slotRestart n) ∧ y.act.st = .down ∧ y.qual.ever = x.qual.ever := by
  rw [slotRestart_eq]
  by_cases hst : x.act.st = .up
  · obtain ⟨q, hb, -, -, hev⟩ := slotDown_lost (row := 1) h hst
    exact ⟨_, hb.restartEnd, rfl, hev⟩
  · have hdown : d.slotDown n 1 = d.slotOff n 1 := slotDown_quiet (by rw [h.same]; exact hst)
    obtain ⟨hb, -⟩ := slotOff_marks n 1 d
    rw [h.same] at hb
    rw [hdown]
    exact ⟨_, (h.trans hb).restartEnd, rfl, rfl⟩

/-- Parameter words, counted from the first of them. -/
theorem stored_params_comm (c : Cmd) (i off n : Nat) (d : Dev) : Stored (wordsAt c i off n) d (d.wrWords off ((List.range n).map fun k => wordAt c.words (k + i))) := by
  have h := stored_params c i off n d
  rwa [show ((List.range n).map fun k => wordAt c.words (i + k)) = (List.range n).map fun k => wordAt c.words (k + i) from
    List.map_congr_left fun k _ => by rw [Nat.add_comm]] at h

/-! ### REF_CONFIG -/

/-- The set-up that REF_CONFIG stores. -/
def Dev.refSetup (c : Cmd) (n : Fin 64) (d : Dev) : Dev :=
  let d := d.wr (buoyOff n) (wordAt c.words 1)
  let d := if rateFixed (pf c 1 28 4) then d.takeRate n
    else (d.pub40 (buoyOff n + 4) ((wordAt c.words 2).toNat + pf c 3 0 8 * 4294967296 : Nat)).wr (buoyOff n + 0xC) (wordAt c.words 4)
  d.wrWords (buoyOff n + 0x10) ((List.range 4).map fun i => wordAt c.words (i + 5))

/-- The slot that has never qualified. -/
def Dev.neverQual (n : Fin 64) (d : Dev) : Dev := d.modQual n fun q => { q with ever := false }

theorem refConfigBody_eq (c : Cmd) (hn : n = Fin.ofNat 64 (pf c 0 0 6)) : refConfigBody c = fun d =>
    checked c ((0, 0, 6) :: wholes 1 8) (refConfigBad c d) (fun d =>
      if d.followed n then (.refused, d) else (.ok, ((d.refSetup c n).neverQual n).slotRestart n)) d := by
  subst hn
  rfl

theorem Within.refSetup (h : Within S d₀ d) (hreg : ∀ k, k < 0x20 → S.reg (buoyOff n + k)) (hr : S.Has .regs := by trivial) :
    Within S d₀ (d.refSetup c n) := by
  unfold Dev.refSetup
  extract_lets d1 d2
  have h1 : Within S d₀ d1 := h.wr (hreg 0 (by decide))
  have h2 : Within S d₀ d2 :=
    .ite (fun _ => .ite (fun _ => h1.setRate (hreg 4 (by decide)) (hreg 8 (by decide)) (hreg 0xC (by decide))) fun _ => h1)
      fun _ => (h1.pub40 (hreg 4 (by decide)) (hreg 8 (by decide))).wr (hreg 0xC (by decide))
  refine h2.wrWords (fun i hi => ?_) hr
  simp only [List.length_map, List.length_range] at hi
  have h := hreg (0x10 + 4 * i) (by omega)
  rwa [← Nat.add_assoc] at h

/-- The words of a set-up stand: the configuration, the rate where the device does not set it, and the block from 0x10 on. -/
theorem refSetup_reads (c : Cmd) (n : Fin 64) (d : Dev) :
    Stands ((buoyOff n, wordAt c.words 1) :: wordsAt c 5 (buoyOff n + 0x10) 4) (d.refSetup c n) ∧
    (rateFixed (pf c 1 28 4) = false → (d.refSetup c n).rdU40 (buoyOff n + 4) = pf c 2 0 32 + pf c 3 0 8 * 4294967296 ∧
      (d.refSetup c n).rd (buoyOff n + 0xC) = wordAt c.words 4) := by
  unfold Dev.refSetup
  extract_lets d1 d2
  have h0 : d2.rd (buoyOff n) = wordAt c.words 1 := by
    have h1 : d1.rd (buoyOff n) = wordAt c.words 1 := rd_wr_same ..
    unfold d2
    split
    · refine Eq.trans ?_ h1
      unfold Dev.takeRate
      split
      · exact (rd_wr_ne _ _ (by omega)).trans (rd_pub40_ne _ _ (by omega) (by omega))
      · rfl
    · exact (rd_wr_ne _ _ (by omega)).trans ((rd_pub40_ne _ _ (by omega) (by omega)).trans h1)
  have hst := stored_params c 5 (buoyOff n + 0x10) 4 d2
  have hws : ((List.range 4).map fun i => wordAt c.words (i + 5)) = (List.range 4).map fun k => wordAt c.words (5 + k) :=
    List.map_congr_left fun k _ => by rw [Nat.add_comm]
  rw [← hws] at hst
  have hout : ∀ k, k < 0x10 → (d2.wrWords (buoyOff n + 0x10) ((List.range 4).map fun i => wordAt c.words (i + 5))).rd (buoyOff n + k) = d2.rd (buoyOff n + k) :=
    fun k hk => hst.2 _ fun e he => by
      obtain ⟨j, hj, he⟩ := wordsAt_mem he
      omega
  refine ⟨?_, fun hf => ?_⟩
  · intro e he
    rcases List.mem_cons.mp he with rfl | he
    · exact (hout 0 (by decide)).trans h0
    · exact hst.1 e he
  · have hd2 : d2 = (d1.pub40 (buoyOff n + 4) ((wordAt c.words 2).toNat + pf c 3 0 8 * 4294967296 : Nat)).wr (buoyOff n + 0xC) (wordAt c.words 4) :=
      if_neg (by rw [hf]; decide)
    have hlt : (wordAt c.words 2).toNat + pf c 3 0 8 * 4294967296 < 2 ^ 40 := by
      have := (wordAt c.words 2).isLt
      have := pf_lt c 3 0 8
      omega
    have hpf : pf c 2 0 32 = (wordAt c.words 2).toNat := by
      have := (wordAt c.words 2).isLt
      simp only [pf, fld]
      omega
    refine ⟨?_, (hout 0xC (by decide)).trans (by rw [hd2]; exact rd_wr_same ..)⟩
    rw [hpf]
    generalize (wordAt c.words 2).toNat + pf c 3 0 8 * 4294967296 = v at *
    refine (rdU40_of_rd (hout 4 (by decide)) (hout 8 (by decide))).trans ?_
    rw [hd2]
    refine (rdU40_of_rd (rd_wr_ne _ _ (by omega)) (rd_wr_ne _ _ (by omega))).trans ((rdU40_pub40 ..).trans ?_)
    unfold twos
    omega

/-- What the set-up and the restart of a slot that is not UP may change. -/
def refScope (n : Fin 64) : Scope :=
  ⟨[.regs, .bar4, .host, .keeper, .buoys, .pairs, .chans], fun a => (buoyOff n ≤ a ∧ a < buoyOff n + 0x20) ∨ a = buoyOff n + 0x50, true, true, true,
    fun h => absurd h (by decide)⟩

/-- The slot set up, and restarted. -/
def Dev.refNew (c : Cmd) (n : Fin 64) (d : Dev) : Dev := ((d.refSetup c n).neverQual n).slotRestart n

theorem refNew_buoy (c : Cmd) (n : Fin 64) (d : Dev) : ∃ y, SetsBuoy n y d (d.refNew c n) ∧ y.act.st = .down ∧ y.qual.ever = false := by
  have h1 : SetsBuoy n (d.buoy n) d (d.refSetup c n) := (SetsBuoy.refl n d).within (.refSetup (.refl _ d) fun _ _ => trivial)
  obtain ⟨y, h2, hst, hev⟩ := slotRestart_fields (h1.modQual (f := fun q => { q with ever := false }))
  exact ⟨y, h2, hst, hev⟩

theorem refNew_within (c : Cmd) (n : Fin 64) (d : Dev) :
    Within (partScope [.regs, .bar4, .host, .watch, .keeper, .buoys, .pairs, .chans, .lans, .outs, .vouts, .tide]) d (d.refNew c n) := by
  have h : Within (partScope [.regs, .bar4, .host, .watch, .keeper, .buoys, .pairs, .chans, .lans, .outs, .vouts, .tide]) d ((d.refSetup c n).neverQual n) :=
    Within.modQual (.refSetup (.refl _ d) fun _ _ => trivial)
  exact h.slotRestart ⟨⟨fun _ _ => trivial, ⟨⟨rfl, rfl, rfl⟩, rfl⟩, rfl, rfl, rfl, rfl, rfl⟩, rfl, rfl, rfl⟩

theorem refNew_done (c : Cmd) (n : Fin 64) (d : Dev) : (d.refNew c n).rdF (buoyOff n + 0x50) 31 1 = 0 := restartEnd_done n _

/-- A slot that is not UP restarts without touching what the channels do. -/
theorem refNew_quiet {d : Dev} (h : (d.buoy n).act.st ≠ .up) : Within (refScope n) d (d.refNew c n) ∧ MarksOnly d (d.refNew c n) ∧
    ∀ a, (a < buoyOff n + 0x50 ∨ buoyOff n + 0x50 < a) → ¬ EventWord a → (d.refNew c n).rd a = (d.refSetup c n).rd a := by
  have h1 : SetsBuoy n (d.buoy n) d (d.refSetup c n) := (SetsBuoy.refl n d).within (.refSetup (.refl _ d) fun _ _ => trivial)
  have h2 : SetsBuoy n _ d ((d.refSetup c n).neverQual n) := h1.modQual (f := fun q => { q with ever := false })
  have hdown : ((d.refSetup c n).neverQual n).slotDown n 1 = ((d.refSetup c n).neverQual n).slotOff n 1 := slotDown_quiet (by rw [h2.same]; exact h)
  have hsetup : Within (refScope n) d (d.refSetup c n) :=
    .refSetup (.refl _ d) fun k hk => (show (refScope n).reg _ from Or.inl ⟨Nat.le_add_right .., Nat.add_lt_add_left hk _⟩)
  have w2 : Within (refScope n) d ((d.refSetup c n).neverQual n) := hsetup.modQual
  have c2 : Within asideChans d ((d.refSetup c n).neverQual n) := Within.modQual (.refSetup (.refl _ d) fun _ _ => trivial)
  obtain ⟨-, hm⟩ := slotOff_marks n 1 ((d.refSetup c n).neverQual n)
  generalize hg : (d.refSetup c n).neverQual n = e at *
  have hrd : ∀ a, (d.refSetup c n).rd a = e.rd a := fun a => congrArg (·.rd a) hg
  have hnew : d.refNew c n = (e.slotOff n 1).restartEnd n := by rw [Dev.refNew, hg, slotRestart_eq, hdown]
  have hE : (slotScope [.regs, .bar4, .host, .keeper, .buoys, .pairs, .chans] n [0x50]).Events := ⟨⟨rfl, rfl, rfl⟩, rfl⟩
  have hE' : (refScope n).Events := ⟨⟨rfl, rfl, rfl⟩, rfl⟩
  have hw : Within (slotScope [.regs, .bar4, .host, .keeper, .buoys, .pairs, .chans] n [0x50]) e ((e.slotOff n 1).restartEnd n) :=
    (Within.modBuoy ((Within.refl _ e).slotOff hE)).wrF (slotScope_reg (k := 0x50))
  have hws : Within (refScope n) e ((e.slotOff n 1).restartEnd n) :=
    (Within.modBuoy ((Within.refl _ e).slotOff hE')).wrF (show (refScope n).reg _ from Or.inr rfl)
  rw [hnew]
  refine ⟨w2.trans hws, ((MarksOnly.of_chans c2.chans).trans hm).trans (.of_chans rfl), fun a ha hev => (hw.regs a (fun hr => ?_) hev).trans (hrd a).symm⟩
  obtain ⟨k, hk, rfl⟩ := List.mem_map.mp hr
  obtain rfl := List.mem_singleton.mp hk
  omega

/-! ### REF_QUAL_PARAMS and REF_FORCE_STATE -/

theorem slot_val (c : Cmd) (hn : n = Fin.ofNat 64 (pf c 0 0 6)) : pf c 0 0 6 = n.val := by
  rw [hn]
  exact (Nat.mod_eq_of_lt (pf_lt c 0 0 6)).symm

/-- What a judgement of a slot reads: its words, its monitors and decoder, its minority mark, and the channels. -/
structure SlotSame (n : Fin 64) (e d : Dev) : Prop where
  act : (e.buoy n).act = (d.buoy n).act
  mon : (e.buoy n).mon = (d.buoy n).mon
  dec : (e.buoy n).dec = (d.buoy n).dec
  minority : (e.buoy n).qual.minority = (d.buoy n).qual.minority
  chans : e.chans = d.chans
  rd : ∀ k, k < 0x200 → e.rd (buoyOff n + k) = d.rd (buoyOff n + k)

section
variable {e : Dev}

theorem SlotSame.rdF (h : SlotSame n e d) {k lo width : Nat} (hk : k < 0x200) : e.rdF (buoyOff n + k) lo width = d.rdF (buoyOff n + k) lo width := by
  rw [Dev.rdF, h.rd k hk, Dev.rdF]

theorem SlotSame.chan (h : SlotSame n e d) (c : Fin 16) : e.chan c = d.chan c := congrArg (·.get c) h.chans

theorem SlotSame.mtieOver (h : SlotSame n e d) (k : Nat) : e.mtieOver n k = d.mtieOver n k := by
  have hmask : ∀ i, i < 4 → e.rdF (buoyOff n + 0x190 + 4 * i) 0 16 = d.rdF (buoyOff n + 0x190 + 4 * i) 0 16 := fun i hi => by
    rw [Nat.add_assoc]
    exact h.rdF (by omega)
  unfold Dev.mtieOver
  rw [h.mon]
  cases (d.buoy n).mon.mtie with
  | none => rfl
  | some l =>
    refine Bool.eq_iff_iff.mpr ?_
    simp only [List.any_eq_true]
    refine exists_congr fun i => and_congr_right fun hi => ?_
    rw [hmask i (List.mem_range.mp hi)]

theorem SlotSame.chBandOn (h : SlotSame n e d) : e.chBandOn n = d.chBandOn n := by
  have hcmp : e.cmpChan n = d.cmpChan n := by
    unfold Dev.cmpChan
    simp only [h.rd 0x14 (by decide), h.chan]
  unfold Dev.chBandOn Dev.ffoChValid
  simp only [h.mon, hcmp, h.chan]

theorem SlotSame.decFail (h : SlotSame n e d) : e.decFail n = d.decFail n := by
  have hdec : e.decoder n = d.decoder n := h.rdF (k := 0) (by decide)
  unfold Dev.decFail
  rw [h.dec, hdec]

/-- Rejecting and accepting a slot are judgements on what they read. -/
theorem SlotSame.rejects (h : SlotSame n e d) : e.rejects n = d.rejects n := by
  unfold Dev.rejects Dev.failBits Dev.isUp
  simp only [h.act, h.mon, h.minority, h.mtieOver, h.chBandOn, h.decFail, h.rdF (k := 0x184) (by decide), h.rdF (k := 0x188) (by decide)]

theorem SlotSame.accepted (h : SlotSame n e d) : e.accepted n = d.accepted n := by
  unfold Dev.accepted
  simp only [h.mon, h.minority, h.mtieOver, h.chBandOn, h.decFail, h.rdF (k := 0x184) (by decide), h.rdF (k := 0x188) (by decide)]
end

/-- Entering FIRST or WTR publishes anew: FAILED where a reject condition holds. -/
theorem qualEval_entered (h : (d.buoy n).qual.st = .first ∨ (d.buoy n).qual.st = .wtr) (he : (d.buoy n).qual.expired = false) :
    d.qualEval n = if d.rejects n then d.qualTo n .failed 8 else d := by
  unfold Dev.qualEval
  extract_lets q
  have he : q.expired = false := he
  have h : q.st = .first ∨ q.st = .wtr := h
  rcases h with h | h <;> simp only [h, he, Bool.false_and, Bool.false_eq_true, if_false]

theorem rejects_qualTo (st : QState) (row : Nat) : (d.qualTo n st row).rejects n = d.rejects n := by
  have hb := ((SetsBuoy.refl n d).qualTo (st := st) (row := row)).same
  have hw : Within (slotScope [.regs, .bar4, .host, .keeper, .buoys] n []) d (d.qualTo n st row) := (Within.refl _ d).qualTo
  refine SlotSame.rejects ⟨(congrArg Buoy.act hb).trans rfl, (congrArg Buoy.mon hb).trans rfl, (congrArg Buoy.dec hb).trans rfl,
    (congrArg (fun b => b.qual.minority) hb).trans rfl, hw.chans, fun k hk => hw.regs _ (fun h => ?_) (not_eventWord_of_lt ?_)⟩
  · obtain ⟨j, hj, -⟩ := List.mem_map.mp h
    exact absurd hj (by simp)
  · have := n.isLt
    simp only [buoyOff]
    omega

theorem rejects_unheld : (d.modQual n fun q => { q with hostHold := false }).rejects n = d.rejects n := by
  have hb := ((SetsBuoy.refl n d).modQual (f := fun q => { q with hostHold := false })).same
  exact SlotSame.rejects ⟨(congrArg Buoy.act hb).trans rfl, (congrArg Buoy.mon hb).trans rfl, (congrArg Buoy.dec hb).trans rfl,
    (congrArg (fun b => b.qual.minority) hb).trans rfl, rfl, fun _ _ => rfl⟩

/-- A slot that enters FIRST or WTR from a hold stands there, or FAILED. -/
theorem holdEntered {st : QState} {row : Nat} (h : SetsBuoy n x d₀ d) (hst : st = .first ∨ st = .wtr) :
    ∃ q, SetsBuoy n (x.qualBy q) d₀ ((d.qualTo n st row).qualEval n) ∧ q.st = (if d.rejects n then .failed else st) ∧ q.hostHold = x.qual.hostHold := by
  have h1 := h.qualTo (st := st) (row := row)
  have hq : ((d.qualTo n st row).buoy n).qual = x.qual.to st d.tbMs := congrArg Buoy.qual h1.same
  rw [qualEval_entered (by rw [hq]; exact hst) (by rw [hq]; rfl), rejects_qualTo]
  split
  · exact ⟨_, h1.qualTo, rfl, rfl⟩
  · exact ⟨_, h1, rfl, rfl⟩

/-- Rows 2 to 4: where no mark holds the slot any more. -/
theorem holdExit_held (h : SetsBuoy n x d₀ d) (hst : x.qual.st = .held) (hr : x.qual.reroute = false) (hh : x.qual.hostHold = false) :
    ∃ q, SetsBuoy n (x.qualBy q) d₀ (d.holdExit n) ∧ q.hostHold = false ∧
      q.st = if d.isUp n then (if d.rejects n then .failed else if x.qual.ever then .wtr else .first) else .idle := by
  unfold Dev.holdExit
  rw [h.same]
  dsimp only
  rw [if_pos (by rw [hst, hr, hh]; rfl)]
  cases hup : d.isUp n with
  | false => exact ⟨_, h.qualTo, hh, rfl⟩
  | true =>
    cases x.qual.ever with
    | false =>
      obtain ⟨q, hb, hq, hk⟩ := holdEntered (row := 3) h (.inl rfl)
      exact ⟨q, hb, hk.trans hh, hq⟩
    | true =>
      obtain ⟨q, hb, hq, hk⟩ := holdEntered (row := 4) h (.inr rfl)
      exact ⟨q, hb, hk.trans hh, hq⟩

theorem holdExit_rest (h : SetsBuoy n x d₀ d) (hx : x.qual.st ≠ .held ∨ x.qual.reroute = true) : d.holdExit n = d := by
  unfold Dev.holdExit
  rw [h.same]
  dsimp only
  rw [if_neg]
  rcases hx with hx | hx <;> simp [hx]

theorem SetsBuoy.holdExit (h : SetsBuoy n x d₀ d) : ∃ q, SetsBuoy n (x.qualBy q) d₀ (d.holdExit n) := by
  unfold Dev.holdExit
  extract_lets q
  split
  · split
    · exact ⟨_, h.qualTo⟩
    split
    · obtain ⟨q, hb⟩ := h.qualTo.qualEval
      exact ⟨q, hb⟩
    · obtain ⟨q, hb⟩ := h.qualTo.qualEval
      exact ⟨q, hb⟩
  · exact ⟨x.qual, h⟩

/-- What a REF_FORCE_STATE may change. -/
def forceScope : Scope := partScope [.regs, .bar4, .host, .watch, .keeper, .buoys, .chans, .lans, .outs, .vouts]

theorem forceScope_runs : forceScope.Runs := ⟨fun _ _ => trivial, ⟨⟨rfl, rfl, rfl⟩, rfl⟩, rfl, rfl, rfl, rfl, rfl⟩

/-- REF_FORCE_STATE with its parameters checked. -/
def Dev.refForce (c : Cmd) (n : Fin 64) (d : Dev) : CmdOut × Dev :=
  let st := (d.buoy n).qual.st
  if pf c 0 8 2 = 2 then
    if st = .first || st = .wtr then
      let d := qualTimer n d
      (.ok (d.buoy n).qual.st.code, d)
    else (.refused st.code, d)
  else
    let d := if pf c 0 8 2 = 1 then d.holdOut n fun q => { q with hostHold := true }
      else (d.modQual n fun q => { q with hostHold := false }).holdExit n
    (.ok (d.buoy n).qual.st.code, d)

theorem refForceStateBody_eq (c : Cmd) (hn : n = Fin.ofNat 64 (pf c 0 0 6)) :
    refForceStateBody c = checked c [(0, 0, 6), (0, 8, 2)] (failIf (pf c 0 8 2 = 3) 8) (Dev.refForce c n) := by
  subst hn
  rfl

theorem refForce_within (c : Cmd) (n : Fin 64) (d : Dev) : Within forceScope d (d.refForce c n).2 := by
  have hb : forceScope.Has .buoys := rfl
  have h1 : Within forceScope d (d.modQual n fun q => { q with hostHold := false }) := (Within.refl _ d).modQual
  unfold Dev.refForce
  split
  · dsimp only
    split
    · exact (Within.refl _ d).qualTimer forceScope_runs hb
    · exact .refl _ d
  · exact .ite (fun _ => (Within.refl _ d).holdOut forceScope_runs hb) fun _ => h1.holdExit forceScope_runs hb

/-- Act 2 ends the timer of a slot that waits for one. -/
theorem refForce_timer (hact : pf c 0 8 2 = 2) (hst : (d.buoy n).qual.st = .first ∨ (d.buoy n).qual.st = .wtr) :
    d.refForce c n = (.ok ((qualTimer n d).buoy n).qual.st.code, qualTimer n d) := by
  unfold Dev.refForce
  rw [if_pos hact]
  exact if_pos (by simpa using hst)

theorem refForce_refused (hact : pf c 0 8 2 = 2) (h1 : (d.buoy n).qual.st ≠ .first) (h2 : (d.buoy n).qual.st ≠ .wtr) :
    d.refForce c n = (.refused (d.buoy n).qual.st.code, d) := by
  unfold Dev.refForce
  rw [if_pos hact]
  exact if_neg (by simp [h1, h2])

/-- Act 1 holds the slot. -/
theorem refForce_hold (hact : pf c 0 8 2 = 1) :
    ∃ q, SetsBuoy n ((d.buoy n).qualBy q) d (d.refForce c n).2 ∧ (d.refForce c n).1 = .ok 5 ∧ q.st = .held ∧ q.hostHold = true ∧ q.reroute = (d.buoy n).qual.reroute := by
  have hb := (SetsBuoy.refl n d).holdOut (f := fun q => { q with hostHold := true })
  have heq : d.refForce c n = (.ok ((d.holdOut n fun q => { q with hostHold := true }).buoy n).qual.st.code, d.holdOut n fun q => { q with hostHold := true }) := by
    unfold Dev.refForce
    simp only [hact, Nat.reduceEqDiff, if_false, if_true]
  rw [heq]
  dsimp only
  rw [hb.same]
  by_cases h : (d.buoy n).qual.st = .held
  · rw [if_pos h] at hb ⊢
    exact ⟨_, hb, congrArg (fun s : QState => CmdOut.ok s.code) h, h, rfl, rfl⟩
  · rw [if_neg h] at hb ⊢
    exact ⟨_, hb, rfl, rfl, rfl, rfl⟩

/-- Act 0 takes the host's hold away. -/
theorem refForce_release (hact : pf c 0 8 2 = 0) : ∃ q, SetsBuoy n ((d.buoy n).qualBy q) d (d.refForce c n).2 ∧ (d.refForce c n).1 = .ok q.st.code ∧
    q.hostHold = false ∧ ((d.buoy n).qual.st ≠ .held → q = { (d.buoy n).qual with hostHold := false }) ∧
    ((d.buoy n).qual.st = .held → (d.buoy n).qual.reroute = true → q.st = .held) ∧
    ((d.buoy n).qual.st = .held → (d.buoy n).qual.reroute = false →
      q.st = if d.isUp n then (if d.rejects n then .failed else if (d.buoy n).qual.ever then .wtr else .first) else .idle) := by
  have h1 := (SetsBuoy.refl n d).modQual (f := fun q => { q with hostHold := false })
  have heq : d.refForce c n = (.ok (((d.modQual n fun q => { q with hostHold := false }).holdExit n).buoy n).qual.st.code,
      (d.modQual n fun q => { q with hostHold := false }).holdExit n) := by
    unfold Dev.refForce
    simp only [hact, OfNat.zero_ne_ofNat, zero_ne_one, if_false]
  have hup : (d.modQual n fun q => { q with hostHold := false }).isUp n = d.isUp n := h1.isUp
  rw [heq]
  dsimp only
  by_cases hh : (d.buoy n).qual.st = .held ∧ (d.buoy n).qual.reroute = false
  · obtain ⟨q, hb, hhost, hst⟩ := holdExit_held h1 hh.1 hh.2 rfl
    rw [rejects_unheld, hup] at hst
    exact ⟨q, hb, congrArg (fun b : Buoy => CmdOut.ok b.qual.st.code) hb.same, hhost, fun h => absurd hh.1 h,
      fun _ hr => absurd (hh.2.symm.trans hr) (by decide), fun _ _ => hst⟩
  · have hx : (d.buoy n).qual.st ≠ .held ∨ (d.buoy n).qual.reroute = true := by
      by_cases h : (d.buoy n).qual.st = .held
      · exact .inr (by simpa using fun hr => hh ⟨h, hr⟩)
      · exact .inl h
    rw [holdExit_rest h1 hx]
    exact ⟨_, h1, (congrArg (fun b : Buoy => CmdOut.ok b.qual.st.code) h1.same).trans rfl, rfl, fun _ => rfl, fun h _ => h, fun h hr => absurd ⟨h, hr⟩ hh⟩

/-- What a command sees of the device as it begins. -/
theorem begun_buoy (c : Cmd) (op : Nat) (k : Fin 64) (d : Dev) : (d.begun c op).buoy k = d.buoy k := congrArg (·.get k) (begun_within c op d).buoys

theorem begun_chan (c : Cmd) (op : Nat) (k : Fin 16) (d : Dev) : (d.begun c op).chan k = d.chan k := congrArg (·.get k) (begun_within c op d).chans

theorem begun_slot (c : Cmd) (op : Nat) (n : Fin 64) (d : Dev) : SlotSame n (d.begun c op) d := by
  have hb := begun_buoy c op n d
  exact ⟨congrArg Buoy.act hb, congrArg Buoy.mon hb, congrArg Buoy.dec hb, congrArg (fun b => b.qual.minority) hb, (begun_within c op d).chans,
    fun _ _ => begun_rd c op d _⟩

theorem refScope_eq (h : Within (refScope n) d d') : d' = { d with
    regs := d'.regs, bar4 := d'.bar4, host := d'.host, keeper := d'.keeper, buoys := d'.buoys, pairs := d'.pairs, chans := d'.chans } := h.eq

/-- What REF_CONFIG leaves, judged on the device that its acceptance left. -/
theorem refConfig_reads {e : Dev} (hmarks : MarksOnly d e) (hrds : ∀ a, e.rd a = d.rd a) (hup : (e.buoy n).act.st ≠ .up) :
    e.refNew c n = { e with
      regs := (e.refNew c n).regs, bar4 := (e.refNew c n).bar4, host := (e.refNew c n).host, keeper := (e.refNew c n).keeper,
      buoys := (e.refNew c n).buoys, pairs := (e.refNew c n).pairs, chans := (e.refNew c n).chans } ∧
    (∀ k, ((e.refNew c n).chan k).loop = (d.chan k).loop ∧ ((e.refNew c n).chan k).sel.cur = (d.chan k).sel.cur) ∧
    Stands ((buoyOff n, wordAt c.words 1) :: wordsAt c 5 (buoyOff n + 0x10) 4) (e.refNew c n) ∧
    (rateFixed (pf c 1 28 4) = false →
      (e.refNew c n).rdU40 (buoyOff n + 4) = pf c 2 0 32 + pf c 3 0 8 * 4294967296 ∧ (e.refNew c n).rd (buoyOff n + 0xC) = wordAt c.words 4) ∧
    (∀ a, (a < buoyOff n ∨ buoyOff n + 0x20 ≤ a) → a ≠ buoyOff n + 0x50 → ¬ EventWord a → (e.refNew c n).rd a = d.rd a) := by
  obtain ⟨hw, hm, hrd⟩ := refNew_quiet (c := c) hup
  have hset := refSetup_reads c n e
  have hkeep : ∀ k, k < 0x20 → (e.refNew c n).rd (buoyOff n + k) = (e.refSetup c n).rd (buoyOff n + k) := fun k hk =>
    hrd _ (by omega) (not_eventWord_of_lt (by have := n.isLt; simp only [buoyOff]; omega))
  refine ⟨refScope_eq hw, fun k => ⟨((hmarks.trans hm).loop k), ((hmarks.trans hm).cur k)⟩, fun x hx => ?_, fun hr => ?_, fun a ha hne hev => ?_⟩
  · rcases List.mem_cons.mp hx with rfl | hx'
    · exact (hkeep 0 (by decide)).trans (hset.1 _ hx)
    · obtain ⟨j, hj, he⟩ := wordsAt_mem hx'
      rw [← hset.1 _ hx, he, Nat.add_assoc]
      exact hkeep _ (by omega)
  · obtain ⟨hrate, h12⟩ := hset.2 hr
    exact ⟨(rdU40_of_rd (hkeep 4 (by decide)) (hkeep 8 (by decide))).trans hrate, (hkeep 0xC (by decide)).trans h12⟩
  · refine (hw.regs a (fun h => ?_) hev).trans (hrds a)
    rcases h with h | h
    · omega
    · exact hne h

theorem refParts_eq
    (h : Within (partScope [.regs, .bar4, .host, .watch, .keeper, .buoys, .pairs, .chans, .lans, .outs, .vouts, .tide]) d d') : d' = { d with
      regs := d'.regs, bar4 := d'.bar4, host := d'.host, watch := d'.watch, keeper := d'.keeper, buoys := d'.buoys, pairs := d'.pairs,
      chans := d'.chans, lans := d'.lans, outs := d'.outs, vouts := d'.vouts, tide := d'.tide } := h.eq

theorem followed_congr {e : Dev} (h : ∀ k, e.chan k = d.chan k) (n : Fin 64) : e.followed n = d.followed n := by
  unfold Dev.followed
  simp only [h]

theorem forceScope_eq (h : Within forceScope d d') : d' = { d with
    regs := d'.regs, bar4 := d'.bar4, host := d'.host, watch := d'.watch, keeper := d'.keeper, buoys := d'.buoys, chans := d'.chans,
    lans := d'.lans, outs := d'.outs, vouts := d'.vouts } := h.eq

/-- The qualification of an accepted slot whose timer ends. -/
theorem qualTimer_qualifies (h : (d.buoy n).qual.st = .first ∨ (d.buoy n).qual.st = .wtr) (ha : d.accepted n = true) :
    ∃ q, SetsBuoy n ((d.buoy n).qualBy q) d (qualTimer n d) ∧ q.st = .qualified ∧ q.ever = true := by
  rw [qualTimer_accepted h ha]
  exact ⟨_, ((SetsBuoy.refl n d).modQual (f := fun q => { q with expired := true })).qualify, rfl, rfl⟩

theorem qualTimer_expires (h : (d.buoy n).qual.st = .first ∨ (d.buoy n).qual.st = .wtr) (ha : d.accepted n = false) :
    SetsBuoy n ((d.buoy n).qualBy { (d.buoy n).qual with expired := true }) d (qualTimer n d) := by
  rw [qualTimer_waits h ha]
  exact (SetsBuoy.refl n d).modQual

/-- REF_FORCE_STATE touches the qualification of its slot alone, of the slots. -/
theorem refForce_sets (c : Cmd) (n : Fin 64) (d : Dev) : ∃ q, SetsBuoy n ((d.buoy n).qualBy q) d (d.refForce c n).2 := by
  by_cases h2 : pf c 0 8 2 = 2
  · by_cases hst : (d.buoy n).qual.st = .first ∨ (d.buoy n).qual.st = .wtr
    · rw [refForce_timer h2 hst]
      cases ha : d.accepted n with
      | true =>
        obtain ⟨q, hb, -⟩ := qualTimer_qualifies hst ha
        exact ⟨q, hb⟩
      | false => exact ⟨_, qualTimer_expires hst ha⟩
    · rw [refForce_refused h2 (fun h => hst (.inl h)) fun h => hst (.inr h)]
      exact ⟨_, .refl n d⟩
  · unfold Dev.refForce
    rw [if_neg h2]
    dsimp only
    split
    · exact ⟨_, (SetsBuoy.refl n d).holdOut⟩
    · obtain ⟨q, hb⟩ := ((SetsBuoy.refl n d).modQual (f := fun q => { q with hostHold := false })).holdExit
      exact ⟨q, hb⟩

/-- What REF_FORCE_STATE leaves. -/
theorem refForce_fields {e : Dev} (hbs : ∀ k, e.buoy k = d.buoy k) (hs : SlotSame n e d) :
    let q := (d.buoy n).qual
    let q' := ((e.refForce c n).2.buoy n).qual
    (∀ k, k ≠ n → (e.refForce c n).2.buoy k = d.buoy k) ∧
    (e.refForce c n).2 = { e with
      regs := (e.refForce c n).2.regs, bar4 := (e.refForce c n).2.bar4, host := (e.refForce c n).2.host, watch := (e.refForce c n).2.watch,
      keeper := (e.refForce c n).2.keeper, buoys := (e.refForce c n).2.buoys, chans := (e.refForce c n).2.chans,
      lans := (e.refForce c n).2.lans, outs := (e.refForce c n).2.outs, vouts := (e.refForce c n).2.vouts } ∧
    (pf c 0 8 2 = 2 → q.st ≠ .first → q.st ≠ .wtr → (e.refForce c n).1 = .refused q.st.code ∧ (e.refForce c n).2 = e) ∧
    (pf c 0 8 2 = 2 → q.st = .first ∨ q.st = .wtr → (e.refForce c n).1 = .ok q'.st.code ∧
      (d.accepted n = true → q'.st = .qualified ∧ q'.ever = true) ∧
      (d.accepted n = false → q' = { q with expired := true })) ∧
    (pf c 0 8 2 = 1 → (e.refForce c n).1 = .ok 5 ∧ q'.st = .held ∧ q'.hostHold = true ∧ q'.reroute = q.reroute) ∧
    (pf c 0 8 2 = 0 → (e.refForce c n).1 = .ok q'.st.code ∧ q'.hostHold = false ∧
      (q.st ≠ .held → q' = { q with hostHold := false }) ∧
      (q.st = .held → q.reroute = true → q'.st = .held) ∧
      (q.st = .held → q.reroute = false →
        q'.st = if d.isUp n then (if d.rejects n then .failed else if q.ever then .wtr else .first) else .idle)) := by
  intro q q'
  have hq : (e.buoy n).qual = q := congrArg Buoy.qual (hbs n)
  have hup : e.isUp n = d.isUp n := congrArg (fun b : Buoy => decide (b.act.st = .up)) (hbs n)
  have hset : ∀ r, SetsBuoy n ((e.buoy n).qualBy r) e (e.refForce c n).2 → q' = r := fun r h => (congrArg Buoy.qual h.same).trans rfl
  refine ⟨?_, forceScope_eq (refForce_within c n e), fun ha h1 h2 => ?_, fun ha hst => ?_, fun ha => ?_, fun ha => ?_⟩
  · obtain ⟨r, hr⟩ := refForce_sets c n e
    exact fun k hk => (hr.ne hk).trans (hbs k)
  · rw [refForce_refused ha (by rw [hq]; exact h1) (by rw [hq]; exact h2), hq]
    exact ⟨rfl, rfl⟩
  · have hst' : (e.buoy n).qual.st = .first ∨ (e.buoy n).qual.st = .wtr := by rw [hq]; exact hst
    have ht := refForce_timer ha hst'
    refine ⟨?_, fun hacc => ?_, fun hacc => ?_⟩
    · show (e.refForce c n).1 = .ok ((e.refForce c n).2.buoy n).qual.st.code
      rw [ht]
    · obtain ⟨r, hb, h⟩ := qualTimer_qualifies hst' (hs.accepted.trans hacc)
      rw [hset r (by rw [ht]; exact hb)]
      exact h
    · rw [hset _ (by rw [ht]; exact qualTimer_expires hst' (hs.accepted.trans hacc)), hq]
  · obtain ⟨r, hb, ho, h⟩ := refForce_hold ha
    rw [hset r hb, ← hq]
    exact ⟨ho, h⟩
  · obtain ⟨r, hb, ho, h⟩ := refForce_release ha
    rw [hq, hup, hs.rejects] at h
    rw [hset r hb]
    exact ⟨ho, h⟩

/-- Settles O54: each command of a slot is checked, and then has the effect of its operation. -/
theorem slotCommands : Obligations.SlotCommands := by
  intro c s n hn
  refine ⟨?config, ?params, ?force⟩
  case config =>
    refine serves_body (fun d => if d.followed n then (.refused, d) else (.ok, d.refNew c n)) rfl (by rw [refConfigBody_eq c hn]; rfl) fun _ => ?_
    have hfol := followed_congr (fun k => begun_chan c 0x10 k s.dev) n
    have hbs : ∀ k, (s.dev.begun c 0x10).buoy k = s.dev.buoy k := fun k => begun_buoy c 0x10 k s.dev
    rw [hfol]
    cases hf : s.dev.followed n with
    | true => exact ⟨fun _ => ⟨rfl, rfl⟩, fun h => absurd h (by decide)⟩
    | false =>
      obtain ⟨y, hb, hst, hev⟩ := refNew_buoy c n (s.dev.begun c 0x10)
      refine ⟨fun h => absurd h (by decide), fun _ => ⟨rfl, (congrArg (fun b : Buoy => b.act.st) hb.same).trans hst,
        (congrArg (fun b : Buoy => b.qual.ever) hb.same).trans hev, refParts_eq (refNew_within c n _), fun k hk => (hb.ne hk).trans (hbs k), refNew_done c n _,
        fun hup => ?_⟩⟩
      exact refConfig_reads (.of_chans (begun_within c 0x10 s.dev).chans) (begun_rd c 0x10 s.dev) (by rw [hbs]; exact hup)
  case params =>
    refine serves_checked (fun d => (.ok, (d.wrWords (buoyOff (pf c 0 0 6) + 0x180) ((List.range 3).map fun i => wordAt c.words (i + 1))).wrWords
      (buoyOff (pf c 0 0 6) + 0x190) ((List.range 4).map fun i => wordAt c.words (i + 4)))) rfl fun _ => ⟨rfl, ?_, ?_⟩
    · have h1 : Within (partScope [.regs]) (s.dev.begun c 0x11) ((s.dev.begun c 0x11).wrWords (buoyOff (pf c 0 0 6) + 0x180)
        ((List.range 3).map fun i => wordAt c.words (i + 1))) := Within.wrWords (.refl _ _) (fun _ _ => trivial) rfl
      exact (h1.wrWords (fun _ _ => trivial) rfl).eq
    · rw [slot_val c hn]
      refine ((stored_params_comm c 1 (buoyOff n + 0x180) 3 _).append (stored_params_comm c 4 (buoyOff n + 0x190) 4 _) fun e he f hf => ?_).from (begun_rd c 0x11 s.dev)
      obtain ⟨i, hi, he⟩ := wordsAt_mem he
      obtain ⟨j, hj, hf⟩ := wordsAt_mem hf
      omega
  case force =>
    refine serves_checked (Dev.refForce c n) (by rw [← refForceStateBody_eq c hn]; rfl) fun _ => ?_
    have hbs : ∀ k, (s.dev.begun c 0x12).buoy k = s.dev.buoy k := fun k => begun_buoy c 0x12 k s.dev
    exact refForce_fields hbs (begun_slot c 0x12 n s.dev)

end Sys2Proof.Machine
end

section
/-! The commands of the channels (chapters 4 to 6). -/

namespace Sys2Proof.Machine

set_option Elab.async false

variable {d d₀ d' : Dev} {n : Fin 16} {x : Chan} {c : Cmd} {s : State} {slot : Fin 64}

/-! ### CHAN_CONFIG -/

/-- The blocks of three words for the classes. -/
def classWords (c : Cmd) (off m : Nat) : List (Nat × Word) := (List.range m).flatMap fun k => wordsAt c (5 + 3 * k) (off + 0x10 * k) 3

/-- The writes of the blocks. -/
def Dev.putClasses (c : Cmd) (off m : Nat) (d : Dev) : Dev :=
  (List.range m).foldl (fun d k => d.wrWords (off + 0x10 * k) ((List.range 3).map fun i => wordAt c.words (5 + 3 * k + i))) d

theorem putClasses_succ (c : Cmd) (off m : Nat) (d : Dev) : d.putClasses c off (m + 1) =
    (d.putClasses c off m).wrWords (off + 0x10 * m) ((List.range 3).map fun i => wordAt c.words (5 + 3 * m + i)) := by
  unfold Dev.putClasses
  rw [List.range_succ (n := m), List.foldl_append]
  rfl

theorem classWords_succ (c : Cmd) (off m : Nat) : classWords c off (m + 1) = classWords c off m ++ wordsAt c (5 + 3 * m) (off + 0x10 * m) 3 := by
  unfold classWords
  rw [List.range_succ (n := m), List.flatMap_append, List.flatMap_singleton]

theorem classWords_mem {off m : Nat} {e : Nat × Word} (h : e ∈ classWords c off m) : off ≤ e.1 ∧ e.1 + 8 ≤ off + 0x10 * m := by
  obtain ⟨k, hk, he⟩ := List.mem_flatMap.mp h
  obtain ⟨j, hj, he⟩ := wordsAt_mem he
  have hk := List.mem_range.mp hk
  omega

/-- The blocks of the classes are stored. -/
theorem stored_classes (c : Cmd) (off : Nat) (d : Dev) (m : Nat) : Stored (classWords c off m) d (d.putClasses c off m) := by
  induction m with
  | zero => exact ⟨fun _ h => absurd h (by simp [classWords]), fun _ _ => rfl⟩
  | succ m ih =>
    rw [putClasses_succ, classWords_succ]
    refine ih.append (stored_params c (5 + 3 * m) (off + 0x10 * m) 3 _) fun e he f hf => ?_
    have he := classWords_mem he
    obtain ⟨j, hj, hf⟩ := wordsAt_mem hf
    omega

/-- The set-up that CHAN_CONFIG stores. -/
def Dev.chanSetup (c : Cmd) (n : Fin 16) (d : Dev) : Dev :=
  (((d.wr (chanOff n) (wordAt c.words 1)).wr (chanOff n + 4) (wordAt c.words 2)).pub40 (chanOff n + 8) (Machine.frOffset c)).putClasses c (chanOff n + 0x100) 6

theorem chanConfigBody_eq (c : Cmd) (hn : n = Fin.ofNat 16 (pf c 0 0 4)) : chanConfigBody c =
    checked c ((0, 0, 4) :: wholes 1 22) (chanConfigBad c) fun d => (.ok, ((d.chanSetup c n).chanReconf n).chanOutputs n) := by
  subst hn
  rfl

theorem frOffset_range (c : Cmd) : -549755813888 ≤ frOffset c ∧ frOffset c ≤ 549755813887 := by
  have h1 := (wordAt c.words 3).isLt
  have h2 := pf_lt c 4 0 8
  have hhalf : (2 : Nat) ^ (40 - 1) = 549755813888 := by norm_num
  have hfull : ((2 ^ 40 : Nat) : Int) = 1099511627776 := by norm_num
  unfold frOffset signed
  rw [hhalf, hfull]
  split <;> omega

theorem rd40_pub40_frOffset (c : Cmd) (base : Nat) (d : Dev) : (d.pub40 base (frOffset c)).rd40 base = frOffset c := by
  obtain ⟨h, h'⟩ := frOffset_range c
  rw [rd40_eq, rdU40_pub40, signed_twos h h']

/-- The words of a channel's set-up stand, and no other register changes. -/
theorem chanSetup_reads (c : Cmd) (n : Fin 16) (d : Dev) :
    Stands (wordsAt c 1 (chanOff n) 2 ++ classWords c (chanOff n + 0x100) 6) (d.chanSetup c n) ∧ (d.chanSetup c n).rd40 (chanOff n + 8) = frOffset c ∧
    ∀ a, (a < chanOff n ∨ chanOff n + 0x160 ≤ a) → (d.chanSetup c n).rd a = d.rd a := by
  unfold Dev.chanSetup
  generalize he : ((d.wr (chanOff n) (wordAt c.words 1)).wr (chanOff n + 4) (wordAt c.words 2)).pub40 (chanOff n + 8) (frOffset c) = e
  have hcls := stored_classes c (chanOff n + 0x100) e 6
  have hout : ∀ a, (a < chanOff n + 0x100 ∨ chanOff n + 0x160 ≤ a) → (e.putClasses c (chanOff n + 0x100) 6).rd a = e.rd a := fun a ha =>
    hcls.2 a fun x hx => by
      have := classWords_mem hx
      omega
  refine ⟨fun x hx => ?_, ?_, fun a ha => ?_⟩
  · rcases List.mem_append.mp hx with hx | hx
    · obtain ⟨j, hj, rfl⟩ := List.mem_map.mp hx
      have hj : j = 0 ∨ j = 1 := by
        have := List.mem_range.mp hj
        omega
      refine (hout _ (by dsimp only; omega)).trans ?_
      rw [← he]
      rcases hj with rfl | rfl
      · exact (rd_pub40_ne _ _ (by omega) (by omega)).trans ((rd_wr_ne _ _ (by omega)).trans (rd_wr_same ..))
      · exact (rd_pub40_ne _ _ (by omega) (by omega)).trans (rd_wr_same ..)
    · exact hcls.1 x hx
  · refine (rd40_of_rd (hout _ (by omega)) (hout _ (by omega))).trans ?_
    rw [← he]
    exact rd40_pub40_frOffset ..
  · refine (hout a (by omega)).trans ?_
    rw [← he]
    exact (rd_pub40_ne _ _ (by omega) (by omega)).trans ((rd_wr_ne _ _ (by omega)).trans (rd_wr_ne _ _ (by omega)))

/-- The coefficients are three words. -/
theorem chanReconf_rd (d : Dev) {a : Nat} (h : a < chanOff n + 0x60 ∨ chanOff n + 0x6C ≤ a) : (d.chanReconf n).rd a = d.rd a := by
  unfold Dev.chanReconf
  extract_lets e
  have he : e.rd a = d.rd a := by
    unfold e
    split
    · rfl
    · rfl
  split
  · refine Eq.trans ?_ he
    unfold Dev.coefs
    extract_lets t bw damp t3r clamp ulps
    have hm : ∀ (f : Chan → Chan) (e : Dev), (e.modChan n f).rd a = e.rd a := fun _ _ => rfl
    rw [hm, rd_wr_ne _ _ (by omega), rd_wr_ne _ _ (by omega), rd_wr_ne _ _ (by omega)]
  · exact he

theorem chanReconf_chan (h : SetsChan n x d₀ d) : ∃ y, SetsChan n y d₀ (d.chanReconf n) ∧ y.sel = x.sel ∧ y.st = x.st := by
  unfold Dev.chanReconf
  extract_lets e
  obtain ⟨y, hy, hsel, hst⟩ : ∃ y, SetsChan n y d₀ e ∧ y.sel = x.sel ∧ y.st = x.st := by
    unfold e
    split
    · exact ⟨_, h, rfl, rfl⟩
    · exact ⟨_, h.modLoop, rfl, rfl⟩
  split
  · obtain ⟨z, hz, hs, -, ht, -⟩ := coefs_chan hy
    exact ⟨z, hz, hs.trans hsel, ht.trans hst⟩
  · exact ⟨y, hy, hsel, hst⟩

theorem chanOutputs_rd (n : Fin 16) (d : Dev) (a : Nat) : (d.chanOutputs n).rd a = d.rd a :=
  rd_of_regs ((Within.chanOutputs (S := partScope [.outs]) (.refl _ d)).same .regs rfl) a

/-- The parts of a channel's set-up. -/
def chanSetScope : Scope := partScope [.regs, .chans, .outs]

theorem chanSetScope_eq (h : Within chanSetScope d d') : d' = { d with regs := d'.regs, chans := d'.chans, outs := d'.outs } := h.eq

theorem Within.putClasses {S : Scope} (h : Within S d₀ d) {off m : Nat} (hreg : ∀ a, S.reg a) (hr : S.Has .regs := by trivial) :
    Within S d₀ (d.putClasses c off m) := by
  unfold Dev.putClasses
  exact h.foldl (fun k _ h => h.wrWords (fun _ _ => hreg _) hr) _

theorem chanSetup_within (c : Cmd) (n : Fin 16) (d : Dev) : Within chanSetScope d (((d.chanSetup c n).chanReconf n).chanOutputs n) := by
  have h0 : Within chanSetScope d (d.chanSetup c n) := Within.putClasses ((((Within.refl _ d).wr).wr).pub40) fun _ => trivial
  exact (h0.chanReconf trivial trivial trivial).chanOutputs

theorem chanSetup_chan (c : Cmd) (n : Fin 16) (d : Dev) : ∃ y, SetsChan n y d (((d.chanSetup c n).chanReconf n).chanOutputs n) ∧
    y.sel = (d.chan n).sel ∧ y.st = (d.chan n).st := by
  have h0 : Within asideChans d (d.chanSetup c n) := Within.putClasses ((((Within.refl _ d).wr).wr).pub40) fun _ => trivial
  obtain ⟨y, hy, hs, ht⟩ := chanReconf_chan ((SetsChan.refl n d).within h0)
  exact ⟨y, hy.within (Within.refl _ _).chanOutputs, hs, ht⟩

/-- What CHAN_CONFIG leaves. -/
theorem chanConfig_reads (c : Cmd) (n : Fin 16) (d : Dev) :
    Stands (wordsAt c 1 (chanOff n) 2 ++ classWords c (chanOff n + 0x100) 6) (((d.chanSetup c n).chanReconf n).chanOutputs n) ∧
    (((d.chanSetup c n).chanReconf n).chanOutputs n).rd40 (chanOff n + 8) = frOffset c ∧
    ∀ a, (a < chanOff n ∨ chanOff n + 0x160 ≤ a) → (((d.chanSetup c n).chanReconf n).chanOutputs n).rd a = d.rd a := by
  obtain ⟨hst, hfr, hout⟩ := chanSetup_reads c n d
  have hrd : ∀ a, (a < chanOff n + 0x60 ∨ chanOff n + 0x6C ≤ a) → (((d.chanSetup c n).chanReconf n).chanOutputs n).rd a = (d.chanSetup c n).rd a :=
    fun a ha => (chanOutputs_rd n _ a).trans (chanReconf_rd _ ha)
  refine ⟨fun e he => (hrd _ ?_).trans (hst e he), (rd40_of_rd (hrd _ (by omega)) (hrd _ (by omega))).trans hfr,
    fun a ha => (hrd a (by omega)).trans (hout a ha)⟩
  rcases List.mem_append.mp he with he | he
  · obtain ⟨j, hj, he⟩ := wordsAt_mem he
    omega
  · have := classWords_mem he
    omega

/-! ### Selections -/

theorem selectSlot_unarmed {auto : Bool} (h : (d.chan n).sel.armed ≠ some slot) : d.selectSlot n slot true auto = (some 3, d.disarm n) := by
  unfold Dev.selectSlot
  exact if_pos (by simp [h])

theorem selectSlot_down {force auto : Bool} (h : force = true → (d.chan n).sel.armed = some slot) (hup : d.isUp slot = false) :
    d.selectSlot n slot force auto = (some 2, d.disarm n) := by
  unfold Dev.selectSlot
  extract_lets y
  rw [if_neg (by cases force <;> simp_all [y]), if_pos (by rw [hup]; rfl)]

theorem selectSlot_unqualified {auto : Bool} (hup : d.isUp slot = true) (hq : d.isQual slot = false) :
    d.selectSlot n slot false auto = (some 1, d) := by
  unfold Dev.selectSlot
  extract_lets y
  rw [if_neg (by simp), if_neg (by simp [hup]), if_pos (by simp [hq])]

/-- The source that a selection names. -/
def selSource (force auto : Bool) : SelSrc := if force then .forced else if auto then .autopilot else .command

theorem selSource_forced (force auto : Bool) : selSource force auto = .forced ↔ force = true := by
  cases force <;> cases auto <;> decide

/-- The selection of a slot that passes every check. -/
theorem selectSlot_taken {force auto : Bool} (h : force = true → (d.chan n).sel.armed = some slot) (hup : d.isUp slot = true)
    (hq : force = true ∨ d.isQual slot = true) : ∃ x, SetsChan n x d (d.selectSlot n slot force auto).2 ∧ (d.selectSlot n slot force auto).1 = none ∧
      x.sel.cur = some slot ∧ (x.sel.src = .forced ↔ force = true) ∧
      ((d.chan n).sel.cur ≠ some slot → x.sel.src = selSource force auto ∧ x.sel.orphaned = false) := by
  unfold Dev.selectSlot
  extract_lets y src d1 d2
  obtain ⟨x, h1, hcur, hsrc, hor⟩ : ∃ x, SetsChan n x d d1 ∧ x.sel.cur = some slot ∧ x.sel.src = selSource force auto ∧
      ((d.chan n).sel.cur ≠ some slot → x.sel.orphaned = false) := by
    unfold d1
    split
    next he => exact ⟨_, (SetsChan.refl n d).modSel, he, rfl, fun hne => absurd he hne⟩
    next =>
      obtain ⟨x, hx, hs⟩ := follow_chan n slot src d
      exact ⟨x, hx, congrArg Select.cur hs, congrArg Select.src hs, fun _ => congrArg Select.orphaned hs⟩
  have h2 : SetsChan n x d d2 := h1.bump
  rw [if_neg (by cases force <;> simp_all [y]), if_neg (by simp [hup]), if_neg (by rcases hq with hq | hq <;> simp [hq])]
  split
  next he =>
    obtain ⟨hc, hf⟩ := Bool.and_eq_true_iff.mp he
    have hc : (d.chan n).sel.cur = some slot := of_decide_eq_true hc
    refine ⟨_, .refl n d, rfl, hc, ?_, fun hne => absurd hc hne⟩
    rw [← eq_of_beq hf, decide_eq_true_iff]
  next =>
    cases force with
    | true =>
      exact ⟨_, (SetsChan.disarm h2).within ((Within.refl _ _).occur.logEnt), rfl, hcur, hsrc ▸ selSource_forced true auto,
        fun hne => ⟨hsrc, hor hne⟩⟩
    | false => exact ⟨_, h2, rfl, hcur, hsrc ▸ selSource_forced false auto, fun hne => ⟨hsrc, hor hne⟩⟩

/-- A selection leaves an unarmed channel unarmed. -/
theorem selectSlot_armed (n : Fin 16) (slot : Fin 64) (force auto : Bool) (d : Dev) : ∃ x, SetsChan n x d (d.selectSlot n slot force auto).2 ∧
    ((d.chan n).sel.armed = none → x.sel.armed = none) := by
  unfold Dev.selectSlot
  extract_lets y src d1 d2
  obtain ⟨x, h1, ha⟩ : ∃ x, SetsChan n x d d1 ∧ x.sel.armed = (d.chan n).sel.armed := by
    unfold d1
    split
    · exact ⟨_, (SetsChan.refl n d).modSel, rfl⟩
    · obtain ⟨x, hx, hs⟩ := follow_chan n slot src d
      exact ⟨x, hx, (congrArg Select.armed hs).trans rfl⟩
  have h2 : SetsChan n x d d2 := h1.bump
  split
  · exact ⟨_, (SetsChan.refl n d).disarm, fun _ => rfl⟩
  split
  · exact ⟨_, (SetsChan.refl n d).disarm, fun _ => rfl⟩
  split
  · exact ⟨_, .refl n d, fun h => h⟩
  split
  · exact ⟨_, .refl n d, fun h => h⟩
  · dsimp only
    split
    · exact ⟨_, (SetsChan.disarm h2).within ((Within.refl _ _).occur.logEnt), fun _ => rfl⟩
    · exact ⟨_, h2, fun h => ha.trans h⟩

theorem autopilot_armed (n : Fin 16) (d : Dev) : ∃ x, SetsChan n x d (d.autopilot n) ∧ ((d.chan n).sel.armed = none → x.sel.armed = none) := by
  unfold Dev.autopilot
  split
  · cases d.bestSlot n 16 with
    | none => exact ⟨_, .refl n d, fun h => h⟩
    | some s =>
      dsimp only
      obtain ⟨x, hx, ha⟩ := selectSlot_armed n s false true d
      split
      · exact ⟨x, hx.within (Within.refl _ _).logEnt, ha⟩
      · exact ⟨x, hx, ha⟩
  · exact ⟨_, .refl n d, fun h => h⟩

/-! ### CHAN_SELECT -/

/-- The ranks of a channel stored. -/
def Dev.putRanks (c : Cmd) (n : Fin 16) (d : Dev) : Dev :=
  (d.wrWords (chanOff n + 0xC40) ((List.range 8).map fun i => wordAt c.words (i + 1))).wr (chanOff n + 0xC08) (word (pf c 0 17 1))

/-- A refused selection is counted, and the autopilot then looks at the channel. -/
def Dev.refuseSel (n : Fin 16) (d : Dev) : Dev := (d.bump (chanOff n + 0xC04) 0 16).autopilot n

/-- The answer to a selection. -/
def Dev.answerSel (n : Fin 16) (r : Option Nat × Dev) : CmdOut × Dev :=
  match r.1 with
  | none => (.ok, r.2)
  | some p => (.refused p, r.2.refuseSel n)

/-- CHAN_SELECT with its parameters checked. -/
def Dev.chanSel (c : Cmd) (n : Fin 16) (d : Dev) : CmdOut × Dev :=
  if pf c 0 4 2 = 2 then (.ok, (d.putRanks c n).partnerKeep n (d.rank n))
  else if (d.chan n).sw.switching then (.busy (d.remainMs n), d)
  else if pf c 0 4 2 = 1 then (.ok, d.leaveSlot n false)
  else Dev.answerSel n (d.selectSlot n (Fin.ofNat 64 (pf c 0 8 6)) (pf c 0 16 1 = 1) false)

theorem chanSelectBody_eq (c : Cmd) (hn : n = Fin.ofNat 16 (pf c 0 0 4)) :
    chanSelectBody c = checked c (chanSelectUsed c) (failIf (pf c 0 4 2 = 3) 4) (Dev.chanSel c n) := by
  subst hn
  rfl

theorem partnerKeep_chan {was : Fin 64 → Nat} (h : SetsChan n x d₀ d) : ∃ y, SetsChan n y d₀ (d.partnerKeep n was) ∧ y.sel.cur = x.sel.cur := by
  unfold Dev.partnerKeep
  cases (d.chan n).sel.partner with
  | none => exact ⟨x, h, rfl⟩
  | some o =>
    dsimp only
    split
    · exact ⟨x, h, rfl⟩
    · exact ⟨_, h.partnerClear, rfl⟩

/-- The parts of a selection. -/
def selScope : Scope := partScope [.regs, .bar4, .host, .watch, .keeper, .chans, .lans, .outs, .vouts]

theorem selScope_runs : selScope.Runs := ⟨fun _ _ => trivial, ⟨⟨rfl, rfl, rfl⟩, rfl⟩, rfl, rfl, rfl, rfl, rfl⟩

theorem selScope_eq (h : Within selScope d d') : d' = { d with
    regs := d'.regs, bar4 := d'.bar4, host := d'.host, watch := d'.watch, keeper := d'.keeper, chans := d'.chans, lans := d'.lans,
    outs := d'.outs, vouts := d'.vouts } := h.eq

theorem Within.putRanks {S : Scope} (h : Within S d₀ d) (hreg : ∀ a, S.reg a) (hr : S.Has .regs := by trivial) : Within S d₀ (d.putRanks c n) :=
  (h.wrWords (fun _ _ => hreg _) hr).wr (hreg _) hr

theorem Within.refuseSel {S : Scope} (h : Within S d₀ d) (hS : S.Runs) : Within S d₀ (d.refuseSel n) := by
  have ⟨_, hE, _, _, _, _, _⟩ := hS
  have ⟨⟨_, _, _⟩, _⟩ := hE
  exact (h.bump (hS.chanReg n)).autopilot hS

theorem refuseSel_chan (h : SetsChan n x d₀ d) : ∃ y, SetsChan n y d₀ (d.refuseSel n) ∧ (x.sel.armed = none → y.sel.armed = none) := by
  have h1 : SetsChan n x d₀ (d.bump (chanOff n + 0xC04) 0 16) := h.bump
  obtain ⟨y, hy, ha⟩ := autopilot_armed n (d.bump (chanOff n + 0xC04) 0 16)
  exact ⟨y, h1.trans hy, fun he => ha (by rw [h1.same]; exact he)⟩

theorem chanSel_within (c : Cmd) (n : Fin 16) (d : Dev) : Within selScope d (d.chanSel c n).2 := by
  have hr : Within selScope d (d.putRanks c n) := (Within.refl _ d).putRanks fun _ => trivial
  have hs : ∀ slot force, Within selScope d (d.selectSlot n slot force false).2 := fun slot force => (Within.refl _ d).selectSlot selScope_runs
  unfold Dev.chanSel
  split
  · exact hr.partnerKeep
  split
  · exact .refl _ d
  split
  · exact (Within.refl _ d).leaveSlot selScope_runs
  · unfold Dev.answerSel
    split
    · exact hs ..
    · exact (hs ..).refuseSel selScope_runs

theorem chanSel_sets (c : Cmd) (n : Fin 16) (d : Dev) : ∃ x, SetsChan n x d (d.chanSel c n).2 := by
  unfold Dev.chanSel
  split
  · obtain ⟨y, hy, -⟩ := partnerKeep_chan (was := d.rank n) ((SetsChan.refl n d).within (d' := d.putRanks c n) ((Within.refl _ d).putRanks fun _ => trivial))
    exact ⟨y, hy⟩
  split
  · exact ⟨_, .refl n d⟩
  split
  · obtain ⟨y, hy, -⟩ := leaveSlot_chan n false d
    exact ⟨y, hy⟩
  · obtain ⟨x, hx, -⟩ := selectSlot_chan n (Fin.ofNat 64 (pf c 0 8 6)) (pf c 0 16 1 = 1) false d
    unfold Dev.answerSel
    split
    · exact ⟨x, hx⟩
    · obtain ⟨y, hy, -⟩ := refuseSel_chan hx
      exact ⟨y, hy⟩

/-- Storing the ranks keeps the current slot. -/
theorem chanSel_ranks (hact : pf c 0 4 2 = 2) : (d.chanSel c n).1 = .ok ∧
    Stands ((chanOff n + 0xC08, word (pf c 0 17 1)) :: wordsAt c 1 (chanOff n + 0xC40) 8) (d.chanSel c n).2 ∧
    ((d.chanSel c n).2.chan n).sel.cur = (d.chan n).sel.cur := by
  have heq : d.chanSel c n = (.ok, (d.putRanks c n).partnerKeep n (d.rank n)) := if_pos hact
  rw [heq]
  have h1 : SetsChan n (d.chan n) d (d.putRanks c n) := (SetsChan.refl n d).within ((Within.refl _ d).putRanks fun _ => trivial)
  obtain ⟨y, hy, hcur⟩ := partnerKeep_chan (was := d.rank n) h1
  have hkeep : Within ⟨[.regs, .bar4, .host, .keeper, .chans], fun _ => False, true, true, true, fun h => absurd h (by decide)⟩ (d.putRanks c n)
      ((d.putRanks c n).partnerKeep n (d.rank n)) := (Within.refl _ _).partnerKeep ⟨⟨rfl, rfl, rfl⟩, rfl⟩ rfl
  have hw := stored_params_comm c 1 (chanOff n + 0xC40) 8 d
  have hput : Stands ((chanOff n + 0xC08, word (pf c 0 17 1)) :: wordsAt c 1 (chanOff n + 0xC40) 8) (d.putRanks c n) := by
    intro e he
    rcases List.mem_cons.mp he with rfl | he
    · exact rd_wr_same ..
    · obtain ⟨j, hj, ha⟩ := wordsAt_mem he
      exact (rd_wr_ne _ _ (by omega)).trans (hw.1 e he)
  refine ⟨rfl, fun e he => (hkeep.regs _ (fun h => h) (not_eventWord_of_lt ?_)).trans (hput e he), (congrArg (fun x : Chan => x.sel.cur) hy.same).trans hcur⟩
  have hn := n.isLt
  rcases List.mem_cons.mp he with rfl | he
  · simp only [chanOff]
    omega
  · obtain ⟨j, hj, ha⟩ := wordsAt_mem he
    rw [ha]
    simp only [chanOff]
    omega

theorem chanSel_busy (hact : pf c 0 4 2 ≠ 2) (hsw : (d.chan n).sw.switching = true) : d.chanSel c n = (.busy (d.remainMs n), d) := by
  unfold Dev.chanSel
  rw [if_neg hact, if_pos hsw]

/-- Releasing leaves the channel without a slot. -/
theorem chanSel_release (hact : pf c 0 4 2 = 1) (hsw : (d.chan n).sw.switching = false) : (d.chanSel c n).1 = .ok ∧
    ((d.chanSel c n).2.chan n).sel.cur = none ∧ ((d.chanSel c n).2.chan n).sel.orphaned = false := by
  have heq : d.chanSel c n = (.ok, d.leaveSlot n false) := by
    unfold Dev.chanSel
    rw [if_neg (by omega), if_neg (by simp [hsw]), if_pos hact]
  obtain ⟨x, hx, hs⟩ := leaveSlot_chan n false d
  rw [heq]
  dsimp only
  rw [hx.same, hs]
  exact ⟨rfl, rfl, by simp⟩

/-- Selecting is what a selection answers. -/
theorem chanSel_select (hact : pf c 0 4 2 = 0) (hsw : (d.chan n).sw.switching = false) :
    d.chanSel c n = Dev.answerSel n (d.selectSlot n (Fin.ofNat 64 (pf c 0 8 6)) (pf c 0 16 1 = 1) false) := by
  unfold Dev.chanSel
  rw [if_neg (by omega), if_neg (by simp [hsw]), if_neg (by omega)]

theorem answerSel_refused {r : Option Nat × Dev} {p : Nat} (h : r.1 = some p) : Dev.answerSel n r = (.refused p, r.2.refuseSel n) := by
  unfold Dev.answerSel
  rw [h]

theorem answerSel_taken {r : Option Nat × Dev} (h : r.1 = none) : Dev.answerSel n r = (.ok, r.2) := by
  unfold Dev.answerSel
  rw [h]

/-- A refused selection that disarms leaves the channel unarmed. -/
theorem refuseSel_disarmed (n : Fin 16) (d : Dev) : (((d.disarm n).refuseSel n).chan n).sel.armed = none := by
  obtain ⟨y, hy, ha⟩ := refuseSel_chan (SetsChan.refl n d).disarm
  exact (congrArg (fun x : Chan => x.sel.armed) hy.same).trans (ha rfl)

/-- The refusals of a selection leave the channel's slot, and its words but the arming. -/
theorem selectSlot_refused {force auto : Bool} (h : (d.selectSlot n slot force auto).1 ≠ none) :
    (d.selectSlot n slot force auto).2 = d.disarm n ∨ (d.selectSlot n slot force auto).2 = d := by
  unfold Dev.selectSlot at *
  extract_lets at *
  split at h
  · exact .inl (by rw [if_pos ‹_›])
  rw [if_neg ‹_›]
  split at h
  · exact .inl (by rw [if_pos ‹_›])
  rw [if_neg ‹_›]
  split at h
  · exact .inr (by rw [if_pos ‹_›])
  rw [if_neg ‹_›]
  split at h
  · exact absurd rfl h
  · exact absurd rfl h

/-- Where the channel was no orphan a refused selection is counted, and its slot stays. -/
theorem refuseSel_settled {e : Dev} (h : e = d.disarm n ∨ e = d) (hor : (d.chan n).sel.orphaned = false) :
    Counts (chanOff n + 0xC04) 0 16 d (e.refuseSel n) ∧ ((e.refuseSel n).chan n).sel.cur = (d.chan n).sel.cur := by
  have hrd : e.rd (chanOff n + 0xC04) = d.rd (chanOff n + 0xC04) := by
    rcases h with rfl | rfl
    · exact rd_wrF_ne 7 1 0 _ (by omega)
    · rfl
  obtain ⟨x, hx, hcur, hor'⟩ : ∃ x, SetsChan n x d e ∧ x.sel.cur = (d.chan n).sel.cur ∧ x.sel.orphaned = false := by
    rcases h with rfl | rfl
    · exact ⟨_, (SetsChan.refl n d).disarm, rfl, hor⟩
    · exact ⟨_, .refl n _, rfl, hor⟩
  have hb : SetsChan n x d (e.bump (chanOff n + 0xC04) 0 16) := hx.bump
  have hset : e.refuseSel n = e.bump (chanOff n + 0xC04) 0 16 := autopilot_settled (by rw [hb.same]; exact hor')
  rw [hset, hb.same]
  exact ⟨(bump_counts (chanOff n + 0xC04) e (by decide)).before hrd, hcur⟩

/-! ### CHAN_MODE and CHAN_HOLDOVER_MODEL -/

/-- A channel that CHAN_MODE takes to FREE_RUN follows no slot. -/
theorem toFreeRun_chan (n : Fin 16) (m : ChMode) (d : Dev) : ∃ x, SetsChan n x d (d.toFreeRun n m) ∧ x.st = .freeRun ∧ x.sel.cur = none ∧
    x.sel.orphaned = false ∧ x.mode = m := by
  unfold Dev.toFreeRun
  extract_lets y d1 d2 d3 d4 d5
  have h2 : SetsChan n _ d d2 := (((SetsChan.refl n d).partnerClear.modSel).stopTracking (keep := true)).modChan
  have h3 : SetsChan n _ d d3 := .ite h2.pub40 h2
  have h4 : SetsChan n _ d d4 := h3.modHo
  by_cases hf : (d4.chan n).st = .freeRun
  · have h5 : d5 = d4 := if_pos hf
    rw [h5]
    exact ⟨_, h4.pubY.chanTo, rfl, rfl, rfl, rfl⟩
  · have h5 : d5 = d4.histClear n := if_neg hf
    rw [h5]
    exact ⟨_, h4.histClear.pubY.chanTo, rfl, rfl, rfl, rfl⟩

/-- The mode taken. -/
def Dev.takeMode (act : Nat) (n : Fin 16) (d : Dev) : Dev :=
  match act with
  | 0 => d.modChan n fun x => { x with mode := .auto }
  | 1 => d.toFreeRun n .freeRun
  | _ => d.toFreeRun n .dco

/-- CHAN_MODE with its parameters checked. -/
def Dev.chanModeSet (c : Cmd) (n : Fin 16) (d : Dev) : CmdOut × Dev :=
  if (d.chan n).sw.switching then (.busy (d.remainMs n), d)
  else (.ok ((d.takeMode (pf c 0 4 2) n).chan n).st.code, d.takeMode (pf c 0 4 2) n)

theorem chanModeBody_eq (c : Cmd) (hn : n = Fin.ofNat 16 (pf c 0 0 4)) :
    chanModeBody c = checked c [(0, 0, 4), (0, 4, 2)] (failIf (pf c 0 4 2 = 3) 4) (Dev.chanModeSet c n) := by
  subst hn
  refine congrArg (checked c [(0, 0, 4), (0, 4, 2)] (failIf (pf c 0 4 2 = 3) 4)) (funext fun d => ?_)
  unfold Dev.chanModeSet Dev.takeMode
  generalize pf c 0 4 2 = act
  match act with
  | 0 => rfl
  | 1 => rfl
  | _ + 2 => rfl

/-- The mode taken, by the number of the mode. -/
theorem takeMode_free {act : Nat} (h : act ≠ 0) : d.takeMode act n = d.toFreeRun n (if act = 1 then .freeRun else .dco) := by
  unfold Dev.takeMode
  split
  · exact absurd rfl h
  · rw [if_pos rfl]
  · rw [if_neg ‹_›]

theorem takeMode_within (act : Nat) (n : Fin 16) (d : Dev) : Within selScope d (d.takeMode act n) := by
  by_cases h : act = 0
  · subst h
    exact Within.modChan (S := selScope) (f := fun x => { x with mode := .auto }) (.refl _ d) rfl
  · rw [takeMode_free h]
    exact (Within.refl _ d).toFreeRun selScope_runs

theorem takeMode_sets (act : Nat) (n : Fin 16) (d : Dev) : ∃ x, SetsChan n x d (d.takeMode act n) := by
  by_cases h : act = 0
  · subst h
    exact ⟨_, (SetsChan.refl n d).modChan⟩
  · rw [takeMode_free h]
    obtain ⟨x, hx, -⟩ := toFreeRun_chan n (if act = 1 then .freeRun else .dco) d
    exact ⟨x, hx⟩

/-- CHAN_HOLDOVER_MODEL with its parameters checked. -/
def Dev.holdoverSet (c : Cmd) (d : Dev) : CmdOut × Dev :=
  if pf c 0 4 2 = 0 then
    (.ok 5, (d.wr (chanOff (pf c 0 0 4) + 0x200) (wordAt c.words 1)).wrWords (chanOff (pf c 0 0 4) + 0x400) ((List.range 4).map fun i => wordAt c.words (i + 2)))
  else (.ok (pf c 0 16 4),
    d.wrWords (chanOff (pf c 0 0 4) + 0x500 + 4 * pf c 0 8 6) ((List.range (pf c 0 16 4)).map fun i => wordAt c.words (i + 1)))

theorem holdoverModelBody_eq (c : Cmd) : holdoverModelBody c = checked c (holdoverUsed c) (holdoverBad c) (Dev.holdoverSet c) := rfl

theorem holdoverSet_within (c : Cmd) (d : Dev) : Within (partScope [.regs]) d (d.holdoverSet c).2 := by
  unfold Dev.holdoverSet
  split
  · exact Within.wrWords (S := partScope [.regs]) ((Within.refl _ d).wr) (fun _ _ => trivial) rfl
  · exact Within.wrWords (S := partScope [.regs]) (.refl _ d) (fun _ _ => trivial) rfl

theorem chan_val (c : Cmd) (hn : n = Fin.ofNat 16 (pf c 0 0 4)) : pf c 0 0 4 = n.val := by
  rw [hn]
  exact (Nat.mod_eq_of_lt (pf_lt c 0 0 4)).symm

theorem begun_remainMs (c : Cmd) (op : Nat) (n : Fin 16) (d : Dev) : (d.begun c op).remainMs n = d.remainMs n := by
  unfold Dev.remainMs
  rw [begun_chan]

theorem begun_isUp (c : Cmd) (op : Nat) (k : Fin 64) (d : Dev) : (d.begun c op).isUp k = d.isUp k := by
  unfold Dev.isUp
  rw [begun_buoy]

theorem begun_isQual (c : Cmd) (op : Nat) (k : Fin 64) (d : Dev) : (d.begun c op).isQual k = d.isQual k := by
  unfold Dev.isQual
  rw [begun_buoy]

/-- What CHAN_SELECT answers, and leaves of its channel. -/
theorem chanSel_fields (c : Cmd) (n : Fin 16) (d : Dev) :
    ((d.chan n).sw.switching = true → pf c 0 4 2 ≠ 2 → (d.chanSel c n).1 = .busy (d.remainMs n) ∧ (d.chanSel c n).2 = d) ∧
    (pf c 0 4 2 = 2 → (d.chanSel c n).1 = .ok ∧
      Stands ((chanOff n + 0xC08, word (pf c 0 17 1)) :: wordsAt c 1 (chanOff n + 0xC40) 8) (d.chanSel c n).2 ∧
      ((d.chanSel c n).2.chan n).sel.cur = (d.chan n).sel.cur) ∧
    ((d.chan n).sw.switching = false → pf c 0 4 2 = 1 → (d.chanSel c n).1 = .ok ∧
      ((d.chanSel c n).2.chan n).sel.cur = none ∧ ((d.chanSel c n).2.chan n).sel.orphaned = false) ∧
    ((d.chan n).sw.switching = false → pf c 0 4 2 = 0 → pf c 0 16 1 = 0 →
      (d.isUp (Fin.ofNat 64 (pf c 0 8 6)) = false → (d.chanSel c n).1 = .refused 2) ∧
      (d.isUp (Fin.ofNat 64 (pf c 0 8 6)) = true → d.isQual (Fin.ofNat 64 (pf c 0 8 6)) = false → (d.chanSel c n).1 = .refused 1) ∧
      (d.isUp (Fin.ofNat 64 (pf c 0 8 6)) = true → d.isQual (Fin.ofNat 64 (pf c 0 8 6)) = true → (d.chanSel c n).1 = .ok ∧
        ((d.chanSel c n).2.chan n).sel.cur = some (Fin.ofNat 64 (pf c 0 8 6)) ∧ ((d.chanSel c n).2.chan n).sel.src ≠ .forced ∧
        ((d.chan n).sel.cur ≠ some (Fin.ofNat 64 (pf c 0 8 6)) →
          ((d.chanSel c n).2.chan n).sel.src = .command ∧ ((d.chanSel c n).2.chan n).sel.orphaned = false))) ∧
    ((d.chan n).sw.switching = false → pf c 0 4 2 = 0 → pf c 0 16 1 = 1 →
      ((d.chan n).sel.armed ≠ some (Fin.ofNat 64 (pf c 0 8 6)) → (d.chanSel c n).1 = .refused 3 ∧ ((d.chanSel c n).2.chan n).sel.armed = none) ∧
      ((d.chan n).sel.armed = some (Fin.ofNat 64 (pf c 0 8 6)) → d.isUp (Fin.ofNat 64 (pf c 0 8 6)) = false →
        (d.chanSel c n).1 = .refused 2 ∧ ((d.chanSel c n).2.chan n).sel.armed = none) ∧
      ((d.chan n).sel.armed = some (Fin.ofNat 64 (pf c 0 8 6)) → d.isUp (Fin.ofNat 64 (pf c 0 8 6)) = true → (d.chanSel c n).1 = .ok ∧
        ((d.chanSel c n).2.chan n).sel.cur = some (Fin.ofNat 64 (pf c 0 8 6)) ∧ ((d.chanSel c n).2.chan n).sel.src = .forced)) ∧
    ((d.chan n).sw.switching = false → pf c 0 4 2 = 0 → (d.chanSel c n).1.status = 3 → (d.chan n).sel.orphaned = false →
      Counts (chanOff n + 0xC04) 0 16 d (d.chanSel c n).2 ∧ ((d.chanSel c n).2.chan n).sel.cur = (d.chan n).sel.cur) := by
  refine ⟨fun hsw hact => ?busy, fun hact => chanSel_ranks hact, fun hsw hact => chanSel_release hact hsw, fun hsw hact hf => ?plain, fun hsw hact hf => ?forced,
    fun hsw hact => ?refused⟩
  case busy =>
    rw [chanSel_busy hact hsw]
    exact ⟨rfl, rfl⟩
  case plain =>
    have hf : decide (pf c 0 16 1 = 1) = false := by simp [hf]
    rw [chanSel_select hact hsw, hf]
    generalize Fin.ofNat 64 (pf c 0 8 6) = slot
    refine ⟨fun hup => ?_, fun hup hq => ?_, fun hup hq => ?_⟩
    · rw [selectSlot_down (fun h => absurd h (by decide)) hup, answerSel_refused rfl]
    · rw [selectSlot_unqualified hup hq, answerSel_refused rfl]
    · obtain ⟨x, hx, hnone, hcur, hsrc, hnew⟩ := selectSlot_taken (n := n) (force := false) (auto := false) (fun h => absurd h (by decide)) hup (.inr hq)
      rw [answerSel_taken hnone]
      dsimp only
      rw [hx.same]
      exact ⟨rfl, hcur, fun h => absurd (hsrc.mp h) (by decide), hnew⟩
  case forced =>
    have hf : decide (pf c 0 16 1 = 1) = true := by simp [hf]
    rw [chanSel_select hact hsw, hf]
    generalize Fin.ofNat 64 (pf c 0 8 6) = slot
    refine ⟨fun ha => ?_, fun ha hup => ?_, fun ha hup => ?_⟩
    · rw [selectSlot_unarmed ha, answerSel_refused rfl]
      exact ⟨rfl, refuseSel_disarmed n d⟩
    · rw [selectSlot_down (fun _ => ha) hup, answerSel_refused rfl]
      exact ⟨rfl, refuseSel_disarmed n d⟩
    · obtain ⟨x, hx, hnone, hcur, hsrc, -⟩ := selectSlot_taken (n := n) (force := true) (auto := false) (fun _ => ha) hup (.inl rfl)
      rw [answerSel_taken hnone]
      dsimp only
      rw [hx.same]
      exact ⟨rfl, hcur, hsrc.mpr rfl⟩
  case refused =>
    rw [chanSel_select hact hsw]
    generalize Fin.ofNat 64 (pf c 0 8 6) = slot
    intro hst hor
    cases hr : (d.selectSlot n slot (pf c 0 16 1 = 1) false).1 with
    | none =>
      rw [answerSel_taken hr] at hst
      exact absurd hst (show ¬ (0 : Nat) = 3 by decide)
    | some p =>
      rw [answerSel_refused hr]
      exact refuseSel_settled (selectSlot_refused (by rw [hr]; exact Option.some_ne_none p)) hor

/-- Settles O55: each command of a channel is checked, and then has the effect of its operation. -/
theorem channelCommands : Obligations.ChannelCommands := by
  intro c s n hn
  refine ⟨?config, ?select, ?mode, ?holdover⟩
  case config =>
    refine serves_checked (fun d => (.ok, ((d.chanSetup c n).chanReconf n).chanOutputs n)) (by rw [← chanConfigBody_eq c hn]; rfl) fun _ => ?_
    obtain ⟨hst, hfr, hout⟩ := chanConfig_reads c n (s.dev.begun c 0x20)
    obtain ⟨y, hy, hsel, hys⟩ := chanSetup_chan c n (s.dev.begun c 0x20)
    have hch : ∀ k, (s.dev.begun c 0x20).chan k = s.dev.chan k := fun k => begun_chan c 0x20 k s.dev
    rw [hch] at hsel hys
    exact ⟨rfl, chanSetScope_eq (chanSetup_within c n _), hst, hfr, (congrArg Chan.st hy.same).trans hys, (congrArg Chan.sel hy.same).trans hsel,
      fun k hk => (hy.ne hk).trans (hch k), fun a ha => (hout a ha).trans (begun_rd c 0x20 s.dev a)⟩
  case select =>
    refine serves_checked (Dev.chanSel c n) (by rw [← chanSelectBody_eq c hn]; rfl) fun _ => ?_
    have hch : ∀ k, (s.dev.begun c 0x21).chan k = s.dev.chan k := fun k => begun_chan c 0x21 k s.dev
    obtain ⟨x, hx⟩ := chanSel_sets c n (s.dev.begun c 0x21)
    refine ⟨selScope_eq (chanSel_within c n _), fun k hk => (hx.ne hk).trans (hch k), ?_⟩
    rw [← begun_remainMs c 0x21, ← begun_isUp c 0x21, ← begun_isQual c 0x21, ← hch n]
    exact chanSel_fields c n _
  case mode =>
    refine serves_checked (Dev.chanModeSet c n) (by rw [← chanModeBody_eq c hn]; rfl) fun _ => ?_
    have hch : ∀ k, (s.dev.begun c 0x22).chan k = s.dev.chan k := fun k => begun_chan c 0x22 k s.dev
    refine ⟨fun hsw => ?_, fun hsw => ?_⟩
    · have heq : Dev.chanModeSet c n (s.dev.begun c 0x22) = (.busy (s.dev.remainMs n), s.dev.begun c 0x22) := by
        rw [← begun_remainMs c 0x22]
        exact if_pos (by rw [hch]; exact hsw)
      rw [heq]
      exact ⟨rfl, rfl⟩
    · have heq : Dev.chanModeSet c n (s.dev.begun c 0x22) = (.ok (((s.dev.begun c 0x22).takeMode (pf c 0 4 2) n).chan n).st.code,
          (s.dev.begun c 0x22).takeMode (pf c 0 4 2) n) := if_neg (by rw [hch, hsw]; decide)
      rw [heq]
      obtain ⟨x, hx⟩ := takeMode_sets (pf c 0 4 2) n (s.dev.begun c 0x22)
      refine ⟨rfl, fun k hk => (hx.ne hk).trans (hch k), selScope_eq (takeMode_within ..), fun h0 => by rw [h0]; rfl, fun h0 => ?_⟩
      obtain ⟨y, hy, hst, hcur, hor, hmode⟩ := toFreeRun_chan n (if pf c 0 4 2 = 1 then .freeRun else .dco) (s.dev.begun c 0x22)
      dsimp only
      rw [takeMode_free h0, hy.same]
      exact ⟨hst, hcur, hor, hmode⟩
  case holdover =>
    refine serves_checked (Dev.holdoverSet c) (by rw [← holdoverModelBody_eq c]; rfl) fun _ => ?_
    have hb := begun_rd c 0x23 s.dev
    refine ⟨(holdoverSet_within c _).eq, fun h0 => ?_, fun h1 => ?_⟩
    · have heq : ∀ d, Dev.holdoverSet c d = (.ok 5, (d.wr (chanOff n + 0x200) (wordAt c.words 1)).wrWords (chanOff n + 0x400)
          ((List.range 4).map fun i => wordAt c.words (i + 2))) := fun d => by
        rw [← chan_val c hn]
        exact if_pos h0
      rw [heq]
      refine ⟨rfl, ((stored_wr (chanOff n + 0x200) (wordAt c.words 1) _).append (stored_params_comm c 2 (chanOff n + 0x400) 4 _) fun e he f hf => ?_).from hb⟩
      obtain rfl := List.mem_singleton.mp he
      obtain ⟨j, hj, hf⟩ := wordsAt_mem hf
      omega
    · have heq : ∀ d, Dev.holdoverSet c d = (.ok (pf c 0 16 4), d.wrWords (chanOff n + 0x500 + 4 * pf c 0 8 6)
          ((List.range (pf c 0 16 4)).map fun i => wordAt c.words (i + 1))) := fun d => by
        rw [← chan_val c hn]
        exact if_neg (by omega)
      rw [heq]
      exact ⟨rfl, (stored_params_comm c 1 _ _ _).from hb⟩

end Sys2Proof.Machine
end

section
/-! The commands of outputs, Lanterns and video outputs (chapters 7 and 8). -/

namespace Sys2Proof.Machine

set_option Elab.async false

variable {d d₀ d' : Dev} {c : Cmd} {s : State}

/-! ### Words that stand -/

theorem stands_append {l₁ l₂ : List (Nat × Word)} : Stands (l₁ ++ l₂) d ↔ Stands l₁ d ∧ Stands l₂ d := List.forall_mem_append

theorem stands_two (c : Cmd) (i off : Nat) : Stands (wordsAt c i off 2) d ↔ d.rd off = wordAt c.words i ∧ d.rd (off + 4) = wordAt c.words (i + 1) := by
  simp [Stands, wordsAt, List.range_succ]

theorem stands_three (c : Cmd) (i off : Nat) : Stands (wordsAt c i off 3) d ↔
    d.rd off = wordAt c.words i ∧ d.rd (off + 4) = wordAt c.words (i + 1) ∧ d.rd (off + 8) = wordAt c.words (i + 2) := by
  simp [Stands, wordsAt, List.range_succ]

theorem stands_congr {l : List (Nat × Word)} (h : ∀ a, d'.rd a = d.rd a) : Stands l d' ↔ Stands l d := by
  simp only [Stands, h]

theorem Stored.perm {l l' : List (Nat × Word)} (h : Stored l d d') (hl : ∀ e, e ∈ l' ↔ e ∈ l) : Stored l' d d' :=
  ⟨fun e he => h.1 e ((hl e).mp he), fun a ha => h.2 a fun e he => ha e ((hl e).mpr he)⟩

theorem outRefresh_rd (m : Fin 48) (d : Dev) (a : Nat) : (d.outRefresh m).rd a = d.rd a :=
  rd_of_regs ((Within.outRefresh (S := partScope [.outs]) (.refl _ d)).same .regs rfl) a

/-! ### OUT_CONFIG -/

/-- The words of an output's fraction, which OUT0 to OUT15 have. -/
def outFrac (c : Cmd) (m : Nat) : List (Nat × Word) := if m < 16 then wordsAt c 4 (outOff m + 0xC) 2 else []

/-- The set-up of an output stored, with EN as it was. -/
def Dev.outSetup (c : Cmd) (m : Nat) (d : Dev) : Dev :=
  let e := (d.wr (outOff m) (setFld (wordAt c.words 1) 31 1 (fld (d.rd (outOff m)) 31 1))).wrWords (outOff m + 4) [wordAt c.words 2, wordAt c.words 3]
  let e := if m < 16 then e.wrWords (outOff m + 0xC) [wordAt c.words 4, wordAt c.words 5] else e
  e.wr (outOff m + 0x14) (wordAt c.words 6)

/-- The set-up written is that in force, but for EN. -/
def Dev.outAsWas (c : Cmd) (m : Nat) (d : Dev) : Bool :=
  setFld (d.rd (outOff m)) 31 1 0 = wordAt c.words 1 && d.rd (outOff m + 4) = wordAt c.words 2 && d.rd (outOff m + 8) = wordAt c.words 3 &&
    (!decide (m < 16) || (d.rd (outOff m + 0xC) = wordAt c.words 4 && d.rd (outOff m + 0x10) = wordAt c.words 5))

/-- OUT_CONFIG with its parameters checked. -/
def Dev.outConfig (c : Cmd) (m : Nat) (d : Dev) : CmdOut × Dev :=
  if bit (d.rd (outOff m)) 31 && !d.outAsWas c m then (.refused 1, d) else (.ok, (d.outSetup c m).outRefresh (Fin.ofNat 48 m))

theorem outConfigBody_eq (c : Cmd) (d : Dev) :
    outConfigBody c d = checked c ((0, 0, 6) :: wholes 1 6) (outConfigBad c d) (Dev.outConfig c (pf c 0 0 6)) d := by
  unfold outConfigBody
  extract_lets m o frac cfg fnum fden
  refine congrArg (fun f => checked c ((0, 0, 6) :: wholes 1 6) (outConfigBad c d) f d) (funext fun d => ?_)
  show _ = Dev.outConfig c m d
  unfold Dev.outConfig Dev.outAsWas Dev.outSetup fden fnum cfg frac o
  clear_value m
  by_cases h : m < 16
  · simp only [h, decide_true, if_true]
  · simp only [h, decide_false, if_false, Bool.not_false, Bool.true_or]

theorem outAsWas_iff {m : Nat} : d.outAsWas c m = true ↔
    setFld (d.rd (outOff m)) 31 1 0 = wordAt c.words 1 ∧ Stands (wordsAt c 2 (outOff m + 4) 2 ++ outFrac c m) d := by
  unfold Dev.outAsWas outFrac
  rw [stands_append, stands_two]
  by_cases h : m < 16
  · rw [if_pos h, stands_two]
    simp [h, and_assoc]
  · rw [if_neg h]
    simp [h, and_assoc, Stands]

/-- The words of an output's set-up are stored. -/
theorem outSetup_stored (c : Cmd) (m : Nat) (d : Dev) :
    Stored ([(outOff m, setFld (wordAt c.words 1) 31 1 (d.rdF (outOff m) 31 1)), (outOff m + 0x14, wordAt c.words 6)] ++
      wordsAt c 2 (outOff m + 4) 2 ++ outFrac c m) d (d.outSetup c m) := by
  unfold Dev.outSetup
  extract_lets e1 e2
  have h1 : Stored _ d e1 := (stored_wr (outOff m) (setFld (wordAt c.words 1) 31 1 (d.rdF (outOff m) 31 1)) d).append
    (stored_params c 2 (outOff m + 4) 2 _) fun e he f hf => by
      obtain rfl := List.mem_singleton.mp he
      obtain ⟨j, hj, hf⟩ := wordsAt_mem hf
      omega
  have h2 : Stored ([(outOff m, setFld (wordAt c.words 1) 31 1 (d.rdF (outOff m) 31 1))] ++ wordsAt c 2 (outOff m + 4) 2 ++ outFrac c m) d e2 := by
    unfold outFrac e2
    by_cases h : m < 16
    · rw [if_pos h, if_pos h]
      refine h1.append (stored_params c 4 (outOff m + 0xC) 2 _) fun e he f hf => ?_
      obtain ⟨j, hj, hf⟩ := wordsAt_mem hf
      rcases List.mem_append.mp he with he | he
      · obtain rfl := List.mem_singleton.mp he
        omega
      · obtain ⟨i, hi, he⟩ := wordsAt_mem he
        omega
    · rw [if_neg h, if_neg h, List.append_nil]
      exact h1
  have h3 := h2.append (stored_wr (outOff m + 0x14) (wordAt c.words 6) e2) fun e he f hf => by
    obtain rfl := List.mem_singleton.mp hf
    unfold outFrac at he
    rcases List.mem_append.mp he with he | he
    · rcases List.mem_append.mp he with he | he
      · obtain rfl := List.mem_singleton.mp he
        omega
      · obtain ⟨i, hi, he⟩ := wordsAt_mem he
        omega
    · split at he
      · obtain ⟨i, hi, he⟩ := wordsAt_mem he
        omega
      · exact absurd he List.not_mem_nil
  refine h3.perm fun e => ?_
  simp only [List.mem_append, List.mem_cons, List.not_mem_nil, or_false]
  tauto

/-- The parts of the commands of outputs. -/
def outScope : Scope := partScope [.regs, .outs]

theorem outScope_eq (h : Within outScope d d') : d' = { d with regs := d'.regs, outs := d'.outs } := h.eq

theorem Within.outSetup {S : Scope} (h : Within S d₀ d) {m : Nat} (hreg : ∀ a, S.reg a) (hr : S.Has .regs := by trivial) :
    Within S d₀ (d.outSetup c m) := by
  unfold Dev.outSetup
  extract_lets e1 e2
  have h1 : Within S d₀ e1 := (h.wr (hreg _) hr).wrWords (fun _ _ => hreg _) hr
  have h2 : Within S d₀ e2 := .ite (fun _ => h1.wrWords (fun _ _ => hreg _) hr) fun _ => h1
  exact h2.wr (hreg _) hr

/-! ### OUT_ENABLE -/

theorem outSettle_mWatch (wants mute : Bool) (ph : Word) (o : Out) : (outSettle wants mute ph o).mWatch = o.mWatch := by
  have htake : ∀ o : Out, (outPhaseTake ph o).mWatch = o.mWatch := fun o => by
    unfold outPhaseTake
    split <;> rfl
  unfold outSettle
  extract_lets o1 o2 o3
  have h2 : o2.mWatch = o.mWatch := by
    unfold o2
    split
    · split <;> rfl
    · rfl
  rw [htake]
  unfold o3
  split
  · exact h2
  · exact h2

theorem outRefresh_mWatch (m k : Fin 48) (d : Dev) : ((d.outRefresh m).out k).mWatch = (d.out k).mWatch := by
  by_cases h : k = m
  · rw [h, outRefresh_out_same, outSettle_mWatch]
  · rw [outRefresh_out_ne d h]

/-- The output without M_WATCH, and without M_LANLOCK where that is free. -/
def Out.unmuted (free : Bool) (o : Out) : Out := { o with mWatch := false, mLan := o.mLan && !free }

/-- OUT_ENABLE at one output. -/
def Dev.outTurn (act : Nat) (m : Fin 48) (d : Dev) : Dev :=
  (if act = 2 then d.modOut m (Out.unmuted ((d.lan (d.outLan m)).st = .locked && !bit (d.lanCfg (d.outLan m)) 22))
    else d.wrF (outOff m) 31 1 (if act = 0 then 1 else 0)).outRefresh m

/-- OUT_ENABLE at some outputs. -/
def Dev.outTurns (act : Nat) (l : List (Fin 48)) (d : Dev) : Dev := l.foldl (fun d m => d.outTurn act m) d

/-- OUT_ENABLE with its parameters checked. -/
def Dev.outEnable (c : Cmd) (d : Dev) : CmdOut × Dev :=
  (.ok (if pf c 1 16 2 = 1 then 0 else
    ((maskOuts (wordAt c.words 0) (wordAt c.words 1)).filter fun m =>
      !((d.outTurns (pf c 1 16 2) (maskOuts (wordAt c.words 0) (wordAt c.words 1))).out m).pin.on).length),
    d.outTurns (pf c 1 16 2) (maskOuts (wordAt c.words 0) (wordAt c.words 1)))

theorem outEnableBody_eq (c : Cmd) :
    outEnableBody c = checked c [whole 0, (1, 0, 16), (1, 16, 2)] (failIf (pf c 1 16 2 = 3) 48) (Dev.outEnable c) := rfl

theorem outTurn_out_ne {act : Nat} {m k : Fin 48} (h : k ≠ m) (d : Dev) : (d.outTurn act m).out k = d.out k := by
  unfold Dev.outTurn
  rw [outRefresh_out_ne _ h]
  split
  · exact modOut_out_ne _ d h
  · exact congrArg (·.get k) (Within.wrF (S := partScope [.regs]) (.refl _ d)).outs

theorem outTurns_rest {act : Nat} {k : Fin 48} (l : List (Fin 48)) (h : k ∉ l) (d : Dev) : (d.outTurns act l).out k = d.out k := by
  induction l generalizing d with
  | nil => rfl
  | cons m l ih =>
    obtain ⟨hm, hl⟩ := not_or.mp (mt List.mem_cons.mpr h)
    exact (ih hl (d.outTurn act m)).trans (outTurn_out_ne hm d)

theorem outTurn_unmutes (m k : Fin 48) (d : Dev) : ((d.outTurn 2 m).out k).mWatch = if k = m then false else (d.out k).mWatch := by
  by_cases h : k = m
  · unfold Dev.outTurn
    rw [h, outRefresh_mWatch, if_pos rfl, if_pos rfl, modOut_out_same]
    rfl
  · rw [outTurn_out_ne h, if_neg h]

/-- Unmuting takes M_WATCH from each of the outputs. -/
theorem outTurns_unmute {k : Fin 48} (l : List (Fin 48)) (d : Dev) (h : k ∈ l ∨ (d.out k).mWatch = false) : ((d.outTurns 2 l).out k).mWatch = false := by
  induction l generalizing d with
  | nil => exact h.resolve_left List.not_mem_nil
  | cons m l ih =>
    refine ih (d.outTurn 2 m) ?_
    rw [outTurn_unmutes]
    by_cases hk : k = m
    · exact .inr (if_pos hk)
    · rw [if_neg hk]
      exact h.imp_left fun h => (List.mem_cons.mp h).resolve_left hk

theorem outTurn_unmute_rd (m : Fin 48) (d : Dev) (a : Nat) : (d.outTurn 2 m).rd a = d.rd a := by
  unfold Dev.outTurn
  rw [outRefresh_rd, if_pos rfl]
  rfl

theorem Within.outTurns {S : Scope} (h : Within S d₀ d) {act : Nat} {l : List (Fin 48)} (hreg : act = 2 ∨ ∀ a, S.reg a)
    (hr : act = 2 ∨ S.Has .regs) (ho : S.Has .outs := by trivial) : Within S d₀ (d.outTurns act l) := by
  refine h.foldl (fun m e he => ?_) l
  unfold Dev.outTurn
  refine Within.outRefresh ?_ ho
  split
  · exact he.modOut
  next hact => exact he.wrF (hreg.resolve_left hact _) (hr.resolve_left hact)

/-- Turning some outputs on or off stores EN of each. -/
theorem outTurns_stored {act : Nat} (hact : act ≠ 2) (l : List (Fin 48)) (hn : l.Nodup) (d : Dev) :
    Stored (l.map fun m : Fin 48 => (outOff m, setFld (d.rd (outOff m)) 31 1 (if act = 0 then 1 else 0))) d (d.outTurns act l) := by
  induction l generalizing d with
  | nil => exact ⟨fun _ h => absurd h List.not_mem_nil, fun _ _ => rfl⟩
  | cons m l ih =>
    obtain ⟨hm, hl⟩ := List.nodup_cons.mp hn
    have h1 : Stored [(outOff m, setFld (d.rd (outOff m)) 31 1 (if act = 0 then 1 else 0))] d (d.outTurn act m) := by
      unfold Dev.outTurn
      rw [if_neg hact]
      exact (stored_wr _ _ d).after fun a => outRefresh_rd m _ a
    have hne : ∀ k ∈ l, outOff k ≠ outOff m := fun k hk e => hm (by
      have : k = m := Fin.ext (by simp only [outOff] at e; omega)
      exact this ▸ hk)
    have hwords : (l.map fun k : Fin 48 => (outOff k, setFld ((d.outTurn act m).rd (outOff k)) 31 1 (if act = 0 then 1 else 0))) =
        l.map fun k : Fin 48 => (outOff k, setFld (d.rd (outOff k)) 31 1 (if act = 0 then 1 else 0)) :=
      List.map_congr_left fun k hk => by
        rw [h1.2 (outOff k) fun e he => by rw [List.mem_singleton.mp he]; exact hne k hk]
    have h2 := ih hl (d.outTurn act m)
    rw [hwords] at h2
    refine h1.append h2 fun e he f hf => ?_
    obtain rfl := List.mem_singleton.mp he
    obtain ⟨k, hk, rfl⟩ := List.mem_map.mp hf
    exact (hne k hk).symm

/-! ### LANTERN_CONFIG -/

/-- The ratio or LBW of a Lantern would change. -/
def Dev.lanRatioMoves (c : Cmd) (n : Fin 8) (d : Dev) : Bool :=
  d.rd (lanOff n + 4) ≠ wordAt c.words 2 || d.rd (lanOff n + 8) ≠ wordAt c.words 3 || fld (d.rd (lanOff n)) 0 11 ≠ fld (wordAt c.words 1) 0 11 ||
    fld (d.rd (lanOff n)) 24 3 ≠ fld (wordAt c.words 1) 24 3 || fld (d.rd (lanOff n)) 19 3 ≠ fld (wordAt c.words 1) 19 3

/-- The outputs of a Lantern that run. -/
def Dev.lanRuns (n : Fin 8) (d : Dev) : Nat := ((List.finRange 48).filter fun (m : Fin 48) => d.outLan m = n && (d.out m).pin.on).length

/-- The words of a Lantern stored, with what the change leads to. -/
def Dev.lanSetup (c : Cmd) (n : Fin 8) (d : Dev) : Dev :=
  (d.wrWords (lanOff n) [wordAt c.words 1, wordAt c.words 2, wordAt c.words 3]).lanChanged n (d.lanRatioMoves c n)

/-- LANTERN_CONFIG with its parameters checked. -/
def Dev.lanConfig (c : Cmd) (n : Fin 8) (d : Dev) : CmdOut × Dev :=
  if (d.lanRatioMoves c n || fld (d.rd (lanOff n)) 27 5 ≠ fld (wordAt c.words 1) 27 5) && d.lanRuns n ≠ 0 then (.refused (d.lanRuns n), d)
  else (.ok ((d.lanSetup c n).lan n).st.code, d.lanSetup c n)

theorem lanternConfigBody_eq (c : Cmd) {n : Fin 8} (hn : n = Fin.ofNat 8 (pf c 0 0 3)) : lanternConfigBody c = fun d =>
    checked c ((0, 0, 3) :: wholes 1 3) (lanternConfigBad c d) (Dev.lanConfig c n) d := by
  subst hn
  rfl

theorem fld_split (w v : Word) : (fld w 24 3 = fld v 24 3 ∧ fld w 27 5 = fld v 27 5) ↔ fld w 24 8 = fld v 24 8 := by
  have hw := w.isLt
  have hv := v.isLt
  simp only [fld]
  omega

/-- What may not change while outputs of the Lantern run. -/
theorem lanHeld_iff {n : Fin 8} : (d.lanRatioMoves c n || fld (d.rd (lanOff n)) 27 5 ≠ fld (wordAt c.words 1) 27 5) = true ↔
    (¬ Stands (wordsAt c 2 (lanOff n + 4) 2) d ∨ d.rdF (lanOff n) 0 11 ≠ pf c 1 0 11 ∨ d.rdF (lanOff n) 24 8 ≠ pf c 1 24 8 ∨
      d.rdF (lanOff n) 19 3 ≠ pf c 1 19 3) := by
  have hs := fld_split (d.rd (lanOff n)) (wordAt c.words 1)
  rw [stands_two]
  unfold Dev.lanRatioMoves Dev.rdF pf
  simp only [Bool.or_eq_true, decide_eq_true_eq]
  simp only [ne_eq, ← hs]
  tauto

theorem lanChanged_lan_ne {n k : Fin 8} {ratio : Bool} (h : k ≠ n) (d : Dev) : (d.lanChanged n ratio).lan k = d.lan k := by
  have hr : (d.routedRefresh n).lan k = d.lan k :=
    congrArg (·.get k) ((Within.routedRefresh (S := partScope [.outs, .vouts]) (.refl _ d)).lans)
  unfold Dev.lanChanged Dev.lanLevel
  split
  · exact lanTo_lan_ne _ _ d h
  split
  · exact lanTo_lan_ne _ _ d h
  split
  · exact lanTo_lan_ne _ _ d h
  · exact hr

/-- The parts of a Lantern's set-up. -/
def lanSetScope : Scope := partScope [.regs, .bar4, .host, .keeper, .lans, .outs, .vouts]

theorem lanSetScope_eq (h : Within lanSetScope d d') : d' = { d with
    regs := d'.regs, bar4 := d'.bar4, host := d'.host, keeper := d'.keeper, lans := d'.lans, outs := d'.outs, vouts := d'.vouts } := h.eq

theorem lanSetup_within (c : Cmd) (n : Fin 8) (d : Dev) : Within lanSetScope d (d.lanSetup c n) := by
  have h1 : Within lanSetScope d (d.wrWords (lanOff n) [wordAt c.words 1, wordAt c.words 2, wordAt c.words 3]) :=
    Within.wrWords (.refl _ d) (fun _ _ => trivial) rfl
  exact h1.lanChanged rfl ⟨⟨rfl, rfl, rfl⟩, rfl⟩

theorem lanSetup_rd (c : Cmd) (n : Fin 8) (d : Dev) {a : Nat} (ha : ¬ EventWord a) :
    (d.lanSetup c n).rd a = (d.wrWords (lanOff n) [wordAt c.words 1, wordAt c.words 2, wordAt c.words 3]).rd a := by
  have h : Within ⟨[.regs, .bar4, .host, .keeper, .lans, .outs, .vouts], fun _ => False, true, true, true, fun h => absurd h (by decide)⟩
      (d.wrWords (lanOff n) [wordAt c.words 1, wordAt c.words 2, wordAt c.words 3]) (d.lanSetup c n) :=
    (Within.refl _ _).lanChanged rfl ⟨⟨rfl, rfl, rfl⟩, rfl⟩
  exact h.regs a (fun h => h) ha

/-- The words of a Lantern's set-up stand, and no other register changes but those of the rings. -/
theorem lanSetup_reads (c : Cmd) (n : Fin 8) (d : Dev) : Stands (wordsAt c 1 (lanOff n) 3) (d.lanSetup c n) ∧
    KeepsRegs ((wordsAt c 1 (lanOff n) 3).map (·.1)) d (d.lanSetup c n) := by
  have hst := stored_params c 1 (lanOff n) 3 d
  refine ⟨fun e he => ?_, fun a ha hev => (lanSetup_rd c n d hev).trans (hst.2 a fun e he h => ha (h ▸ List.mem_map_of_mem he))⟩
  obtain ⟨j, hj, ha⟩ := wordsAt_mem he
  have hn := n.isLt
  exact (lanSetup_rd c n d (not_eventWord_of_lt (by simp only [ha, lanOff]; omega))).trans (hst.1 e he)

theorem lanSetup_lan_ne {n k : Fin 8} (h : k ≠ n) (d : Dev) : (d.lanSetup c n).lan k = d.lan k := lanChanged_lan_ne h _

/-! ### VOUT_CONFIG -/

/-- The set-up of a video output is that in force, in what may not change while it is enabled. -/
def Dev.voutAsWas (c : Cmd) (k : Fin 8) (d : Dev) : Bool :=
  fld (d.rd (voutOff k)) 16 8 = fld (wordAt c.words 1) 16 8 && fld (d.rd (voutOff k)) 26 5 = fld (wordAt c.words 1) 26 5 &&
    d.rd (voutOff k + 4) = wordAt c.words 2 && d.rd (voutOff k + 8) = wordAt c.words 3 && d.rd (voutOff k + 0xC) = wordAt c.words 4

/-- The video output without M_WATCH, and without M_LANLOCK where its Lantern is LOCKED, where the command unmutes it. -/
def Vout.unmuted (unmute locked : Bool) (v : Vout) : Vout := { v with mWatch := v.mWatch && !unmute, mLan := v.mLan && !(locked && unmute) }

/-- The set-up of a video output stored; its 0H moves where TIMING or GRAIN differs. -/
def Dev.voutSetup (c : Cmd) (k : Fin 8) (d : Dev) : Dev :=
  let moved := d.rd (voutOff k + 0x10) ≠ wordAt c.words 5 || d.rd (voutOff k + 0x14) ≠ wordAt c.words 6
  let was := voutDelay (d.voutFmt k) (d.rd (voutOff k + 0x10)) (d.rd (voutOff k + 0x14))
  let now := d.tsNow (Fin.ofNat 4 (d.rdF (voutOff k) 26 2))
  let e := d.wrWords (voutOff k) ((List.range 7).map fun i => wordAt c.words (i + 1))
  let e := e.modVout k (Vout.unmuted (pf c 0 8 1 = 1) ((e.lan (e.voutLan k)).st = .locked))
  (onlyIf moved (Dev.voutHold k was now now) e).voutRefresh k

/-- VOUT_CONFIG with its parameters checked. -/
def Dev.voutConfig (c : Cmd) (k : Fin 8) (d : Dev) : CmdOut × Dev :=
  if bit (d.rd (voutOff k)) 31 && !d.voutAsWas c k then (.refused 1, d) else (.ok, d.voutSetup c k)

theorem flag_zero (c : Cmd) : decide (pf c 0 8 1 = 0) = !decide (pf c 0 8 1 = 1) := by
  have h := pf_lt c 0 8 1
  generalize pf c 0 8 1 = b at *
  match b, h with
  | 0, _ => rfl
  | 1, _ => rfl

theorem voutConfigBody_eq (c : Cmd) {k : Fin 8} (hk : k = Fin.ofNat 8 (pf c 0 0 3)) : voutConfigBody c =
    checked c ([(0, 0, 3), (0, 8, 1)] ++ wholes 1 7) (voutConfigBad c) (Dev.voutConfig c k) := by
  have hz : ∀ b, (b && decide (pf c 0 8 1 = 0)) = (b && !decide (pf c 0 8 1 = 1)) := fun b => by rw [flag_zero]
  subst hk
  unfold voutConfigBody
  simp only [hz]
  rfl

theorem voutHold_vout (k j : Fin 8) (a b g : Int) (d : Dev) : ((d.voutHold k a b g).vout j).mWatch = (d.vout j).mWatch ∧
    (j ≠ k → (d.voutHold k a b g).vout j = d.vout j) := by
  unfold Dev.voutHold
  split
  · extract_lets fmt f line d1 rest half
    refine ⟨?_, fun h => modVout_vout_ne _ d h⟩
    by_cases h : j = k
    · rw [h, modVout_vout_same]
    · rw [modVout_vout_ne _ d h]
  · exact ⟨rfl, fun _ => rfl⟩

theorem voutRefresh_mWatch (k j : Fin 8) (d : Dev) : ((d.voutRefresh k).vout j).mWatch = (d.vout j).mWatch := by
  by_cases h : j = k
  · rw [h]
    simp only [Dev.voutRefresh, modVout_vout_same]
  · rw [voutRefresh_vout_ne d h]

/-- The parts of a video output's set-up. -/
def voutSetScope : Scope := partScope [.regs, .vouts]

theorem voutSetScope_eq (h : Within voutSetScope d d') : d' = { d with regs := d'.regs, vouts := d'.vouts } := h.eq

theorem Within.voutHold {S : Scope} (h : Within S d₀ d) {k : Fin 8} {a b g : Int} (hv : S.Has .vouts := by trivial) :
    Within S d₀ (d.voutHold k a b g) := .ite (fun _ => h.modVout) fun _ => h

theorem voutSetup_within (c : Cmd) (k : Fin 8) (d : Dev) : Within voutSetScope d (d.voutSetup c k) := by
  unfold Dev.voutSetup
  extract_lets moved was now e1 e2
  have h1 : Within voutSetScope d e1 := Within.wrWords (.refl _ d) (fun _ _ => trivial) rfl
  have h2 : Within voutSetScope d e2 := h1.modVout
  exact (h2.onlyIf fun _ h => h.voutHold).voutRefresh

theorem voutSetup_stored (c : Cmd) (k : Fin 8) (d : Dev) : Stored (wordsAt c 1 (voutOff k) 7) d (d.voutSetup c k) := by
  unfold Dev.voutSetup
  extract_lets moved was now e1 e2
  have h2 : Within (partScope [.vouts]) e1 e2 := (Within.refl _ e1).modVout
  exact (stored_params_comm c 1 (voutOff k) 7 d).after (rd_of_regs ((h2.onlyIf fun _ h => h.voutHold).voutRefresh.same .regs rfl))

theorem voutSetup_vout (c : Cmd) (k : Fin 8) (d : Dev) : (∀ j, j ≠ k → (d.voutSetup c k).vout j = d.vout j) ∧
    (pf c 0 8 1 = 1 → ((d.voutSetup c k).vout k).mWatch = false) := by
  unfold Dev.voutSetup
  extract_lets moved was now e1 e2
  have h1 : e1.vouts = d.vouts := Within.vouts (S := partScope [.regs]) (Within.wrWords (.refl _ d) (fun _ _ => trivial) rfl)
  have hmove : ∀ j, ((onlyIf moved (Dev.voutHold k was now now) e2).vout j).mWatch = (e2.vout j).mWatch ∧
      (j ≠ k → (onlyIf moved (Dev.voutHold k was now now) e2).vout j = e2.vout j) := fun j => by
    unfold onlyIf
    split
    · exact voutHold_vout k j was now now e2
    · exact ⟨rfl, fun _ => rfl⟩
  refine ⟨fun j hj => ?_, fun hu => ?_⟩
  · exact (voutRefresh_vout_ne _ hj).trans (((hmove j).2 hj).trans ((modVout_vout_ne _ e1 hj).trans (congrArg (·.get j) h1)))
  · refine (voutRefresh_mWatch k k _).trans ((hmove k).1.trans ?_)
    refine (congrArg Vout.mWatch (modVout_vout_same ..)).trans ?_
    simp [Vout.unmuted, hu]

theorem voutAsWas_iff {k : Fin 8} : d.voutAsWas c k = true ↔ d.rdF (voutOff k) 16 8 = pf c 1 16 8 ∧ d.rdF (voutOff k) 26 5 = pf c 1 26 5 ∧
    Stands (wordsAt c 2 (voutOff k + 4) 3) d := by
  rw [stands_three]
  unfold Dev.voutAsWas Dev.rdF pf
  simp only [Bool.and_eq_true, decide_eq_true_eq, and_assoc]

theorem bit_iff_field (w : Word) (b : Nat) : bit w b = true ↔ fld w b 1 = 1 := beq_iff_eq

theorem outConfig_held {m : Nat} (h : bit (d.rd (outOff m)) 31 = true ∧
    ¬ (setFld (d.rd (outOff m)) 31 1 0 = wordAt c.words 1 ∧ Stands (wordsAt c 2 (outOff m + 4) 2 ++ outFrac c m) d)) :
    d.outConfig c m = (.refused 1, d) := by
  rw [← outAsWas_iff] at h
  exact if_pos (by simp [h.1, h.2])

theorem outConfig_free {m : Nat} (h : ¬ (bit (d.rd (outOff m)) 31 = true ∧
    ¬ (setFld (d.rd (outOff m)) 31 1 0 = wordAt c.words 1 ∧ Stands (wordsAt c 2 (outOff m + 4) 2 ++ outFrac c m) d))) :
    d.outConfig c m = (.ok, (d.outSetup c m).outRefresh (Fin.ofNat 48 m)) := by
  rw [← outAsWas_iff] at h
  refine if_neg fun he => h ?_
  obtain ⟨h1, h2⟩ := Bool.and_eq_true_iff.mp he
  exact ⟨h1, by simpa using h2⟩

theorem outSetup_within (c : Cmd) (m : Nat) (k : Fin 48) (d : Dev) : Within outScope d ((d.outSetup c m).outRefresh k) := by
  have h : Within outScope d (d.outSetup c m) := Within.outSetup (.refl _ d) fun _ => trivial
  exact h.outRefresh

theorem outSetup_outs (c : Cmd) (m : Nat) (d : Dev) : (d.outSetup c m).outs = d.outs :=
  (Within.outSetup (S := partScope [.regs]) (.refl _ d) fun _ => trivial).outs

theorem lanConfig_held {n : Fin 8} (hr : d.lanRuns n ≠ 0) (h : ¬ Stands (wordsAt c 2 (lanOff n + 4) 2) d ∨ d.rdF (lanOff n) 0 11 ≠ pf c 1 0 11 ∨
    d.rdF (lanOff n) 24 8 ≠ pf c 1 24 8 ∨ d.rdF (lanOff n) 19 3 ≠ pf c 1 19 3) : d.lanConfig c n = (.refused (d.lanRuns n), d) :=
  if_pos (Bool.and_eq_true_iff.mpr ⟨lanHeld_iff.mpr h, decide_eq_true hr⟩)

theorem lanConfig_free {n : Fin 8} (h : ¬ (d.lanRuns n ≠ 0 ∧ (¬ Stands (wordsAt c 2 (lanOff n + 4) 2) d ∨ d.rdF (lanOff n) 0 11 ≠ pf c 1 0 11 ∨
    d.rdF (lanOff n) 24 8 ≠ pf c 1 24 8 ∨ d.rdF (lanOff n) 19 3 ≠ pf c 1 19 3))) :
    d.lanConfig c n = (.ok ((d.lanSetup c n).lan n).st.code, d.lanSetup c n) := by
  refine if_neg fun he => h ?_
  obtain ⟨h1, h2⟩ := Bool.and_eq_true_iff.mp he
  exact ⟨of_decide_eq_true h2, lanHeld_iff.mp h1⟩

theorem voutConfig_held {k : Fin 8} (h : d.rdF (voutOff k) 31 1 = 1 ∧ ¬ (d.rdF (voutOff k) 16 8 = pf c 1 16 8 ∧ d.rdF (voutOff k) 26 5 = pf c 1 26 5 ∧
    Stands (wordsAt c 2 (voutOff k + 4) 3) d)) : d.voutConfig c k = (.refused 1, d) := by
  rw [← voutAsWas_iff] at h
  exact if_pos (by rw [(bit_iff_field _ _).mpr h.1]; simpa using h.2)

theorem voutConfig_free {k : Fin 8} (h : ¬ (d.rdF (voutOff k) 31 1 = 1 ∧ ¬ (d.rdF (voutOff k) 16 8 = pf c 1 16 8 ∧ d.rdF (voutOff k) 26 5 = pf c 1 26 5 ∧
    Stands (wordsAt c 2 (voutOff k + 4) 3) d))) : d.voutConfig c k = (.ok, d.voutSetup c k) := by
  rw [← voutAsWas_iff] at h
  refine if_neg fun he => h ?_
  obtain ⟨h1, h2⟩ := Bool.and_eq_true_iff.mp he
  exact ⟨(bit_iff_field _ _).mp h1, by simpa using h2⟩

theorem lanRuns_congr {e : Dev} (hrd : ∀ a, e.rd a = d.rd a) (hout : ∀ k, e.out k = d.out k) (n : Fin 8) : e.lanRuns n = d.lanRuns n := by
  unfold Dev.lanRuns Dev.outLan Dev.rdF
  simp only [hrd, hout]

theorem begun_out (c : Cmd) (op : Nat) (k : Fin 48) (d : Dev) : (d.begun c op).out k = d.out k := congrArg (·.get k) (begun_within c op d).outs
theorem begun_lan (c : Cmd) (op : Nat) (k : Fin 8) (d : Dev) : (d.begun c op).lan k = d.lan k := congrArg (·.get k) (begun_within c op d).lans
theorem begun_vout (c : Cmd) (op : Nat) (k : Fin 8) (d : Dev) : (d.begun c op).vout k = d.vout k := congrArg (·.get k) (begun_within c op d).vouts
theorem begun_rdF (c : Cmd) (op : Nat) (d : Dev) (a lo width : Nat) : (d.begun c op).rdF a lo width = d.rdF a lo width := by
  rw [Dev.rdF, begun_rd, Dev.rdF]

/-- A list of outputs read as their numbers. -/
theorem map_vals {α : Type} (g : Nat → α) (l : List (Fin 48)) : List.map g (do let a ← l; pure a.val) = l.map fun m => g m.val := by
  rw [List.bind_eq_flatMap, List.map_flatMap]
  exact List.map_eq_flatMap.symm

/-- Settles O56: each set-up is checked, refused where it would change what may not change then, and else stands. -/
theorem outputCommands : Obligations.OutputCommands := by
  intro c s
  refine ⟨fun m hm => ?output, ?enable, fun n hn => ?lantern, fun k hk => ?video⟩
  case output =>
    have hb := begun_rd c 0x30 s.dev
    refine serves_body (Dev.outConfig c m.val) rfl (by rw [hm]; exact outConfigBody_eq c _) fun _ => ⟨fun h => ?_, fun h => ?_⟩
    · rw [outConfig_held (by rw [hb]; exact ⟨h.1, fun e => h.2 ⟨e.1, (stands_congr hb).mp e.2⟩⟩)]
      exact ⟨rfl, rfl⟩
    · rw [outConfig_free (by rw [hb]; exact fun e => h ⟨e.1, fun e' => e.2 ⟨e'.1, (stands_congr hb).mpr e'.2⟩⟩)]
      have hfin : (Fin.ofNat 48 m.val : Fin 48) = m := Fin.ext (Nat.mod_eq_of_lt m.isLt)
      have hst := outSetup_stored c m.val (s.dev.begun c 0x30)
      rw [begun_rdF] at hst
      refine ⟨rfl, outScope_eq (outSetup_within c m.val _ _), fun k hk => ?_, (hst.from hb).after fun a => outRefresh_rd _ _ a⟩
      refine (outRefresh_out_ne _ (by rw [hfin]; exact hk)).trans ?_
      exact (congrArg (·.get k) (outSetup_outs c m.val _)).trans (begun_out c 0x30 k s.dev)
  case enable =>
    refine serves_checked (Dev.outEnable c) (by rw [← outEnableBody_eq c]; rfl) fun _ => ?_
    have hw : Within outScope (s.dev.begun c 0x31) ((s.dev.begun c 0x31).outTurns (pf c 1 16 2) (maskOuts (wordAt c.words 0) (wordAt c.words 1))) :=
      (Within.refl _ _).outTurns (.inr fun _ => trivial) (.inr rfl)
    refine ⟨rfl, outScope_eq hw, fun m hm => (outTurns_rest _ hm _).trans (begun_out c 0x31 m s.dev), fun hact => ⟨?_, fun m hm => ?_⟩, fun hact => ?_⟩
    · have hr : Within (partScope [.outs]) (s.dev.begun c 0x31)
        ((s.dev.begun c 0x31).outTurns (pf c 1 16 2) (maskOuts (wordAt c.words 0) (wordAt c.words 1))) :=
        (Within.refl _ _).outTurns (.inl hact) (.inl hact)
      exact Eq.trans (b := (s.dev.begun c 0x31).regs) (hr.same .regs rfl) (begun_regs c 0x31 s.dev)
    · unfold Dev.outEnable
      rw [hact]
      exact outTurns_unmute _ _ (.inl hm)
    · have hst := outTurns_stored hact (maskOuts (wordAt c.words 0) (wordAt c.words 1)) ((List.nodup_finRange 48).filter _) (s.dev.begun c 0x31)
      have hv : (if pf c 1 16 2 = 0 then 1 else 0) = 1 - pf c 1 16 2 := by
        split <;> omega
      simp only [begun_rd, hv] at hst
      rw [map_vals]
      exact hst.from (begun_rd c 0x31 s.dev)
  case lantern =>
    have hb := begun_rd c 0x32 s.dev
    have hruns : (s.dev.begun c 0x32).lanRuns n = s.dev.lanRuns n := lanRuns_congr hb (fun k => begun_out c 0x32 k s.dev) n
    refine serves_body (Dev.lanConfig c n) rfl (by rw [lanternConfigBody_eq c hn]) fun _ => ⟨fun h => ?_, fun h => ?_⟩
    · rw [lanConfig_held (by rw [hruns]; exact h.1) (by simp only [begun_rdF, stands_congr hb]; exact h.2), hruns]
      exact ⟨rfl, rfl⟩
    · rw [lanConfig_free (by rw [hruns]; simp only [begun_rdF, stands_congr hb]; exact h)]
      obtain ⟨hst, hkeep⟩ := lanSetup_reads c n (s.dev.begun c 0x32)
      exact ⟨rfl, hst, fun a ha he => (hkeep a ha he).trans (hb a), fun k hk => (lanSetup_lan_ne hk _).trans (begun_lan c 0x32 k s.dev),
        lanSetScope_eq (lanSetup_within c n _)⟩
  case video =>
    have hb := begun_rd c 0x33 s.dev
    refine serves_checked (Dev.voutConfig c k) (by rw [← voutConfigBody_eq c hk]; rfl) fun _ => ⟨fun h => ?_, fun h => ?_⟩
    · rw [voutConfig_held (by simp only [begun_rdF, stands_congr hb]; exact h)]
      exact ⟨rfl, rfl⟩
    · rw [voutConfig_free (by simp only [begun_rdF, stands_congr hb]; exact h)]
      obtain ⟨hne, hw⟩ := voutSetup_vout c k (s.dev.begun c 0x33)
      exact ⟨rfl, (voutSetup_stored c k _).from hb, fun j hj => (hne j hj).trans (begun_vout c 0x33 j s.dev), hw,
        voutSetScope_eq (voutSetup_within c k _)⟩

end Sys2Proof.Machine
end

section
/-! The commands of the time scales (chapter 8). -/

namespace Sys2Proof.Machine

set_option Elab.async false

variable {S : Scope} {d d₀ d' : Dev} {n : Fin 4} {x : TimeScale} {c : Cmd} {s : State}

/-! ### What a command sees of the time scales as it begins -/

theorem begun_tsc (c : Cmd) (op : Nat) (k : Fin 4) (d : Dev) : (d.begun c op).tsc k = d.tsc k := congrArg (·.get k) (begun_within c op d).ts

theorem begun_tsNow (c : Cmd) (op : Nat) (k : Fin 4) (d : Dev) : (d.begun c op).tsNow k = d.tsNow k := by
  rw [begun_eq]
  rfl

theorem begun_srcValid (c : Cmd) (op : Nat) (k : Fin 4) (d : Dev) : (d.begun c op).srcValid k = d.srcValid k := by
  rw [begun_eq]
  rfl

theorem begun_cascSlave (c : Cmd) (op : Nat) (k : Fin 4) (d : Dev) : (d.begun c op).cascSlave k = d.cascSlave k := by
  rw [begun_eq]
  rfl

theorem begun_presentSec (c : Cmd) (op : Nat) (k : Fin 4) (d : Dev) : (d.begun c op).presentSec k = d.presentSec k := by
  unfold Dev.presentSec
  rw [begun_tsNow]

theorem begun_utcOffset (c : Cmd) (op : Nat) (k : Nat) (d : Dev) : (d.begun c op).utcOffset k = d.utcOffset k := begun_rdF ..

theorem begun_todEn (c : Cmd) (op : Nat) (k : Nat) (d : Dev) : (d.begun c op).todEn k = d.todEn k := by
  unfold Dev.todEn
  rw [begun_rd]

theorem begun_outEn (c : Cmd) (op : Nat) (k : Nat) (d : Dev) : (d.begun c op).outEn k = d.outEn k := by
  unfold Dev.outEn
  rw [begun_rd]

/-! ### TS_SET -/

/-- The time scale to be set by a triple. -/
def TimeScale.toSet (v : SetPend) (x : TimeScale) : TimeScale := { x with set := some v }

/-- The time scale that accepts a difference, that waits for a UTC value, that waits for a local offset. -/
def TimeScale.accepting (x : TimeScale) : TimeScale := { x with accept := true }
def TimeScale.toUtc (w : Word) (x : TimeScale) : TimeScale := { x with utc := some w }
def TimeScale.toLocal (w : Word) (x : TimeScale) : TimeScale := { x with localOfs := some w }

/-- TS_SET with its parameters checked. -/
def Dev.tsSet (c : Cmd) (n : Fin 4) (d : Dev) : CmdOut × Dev :=
  match pf c 0 8 4 with
  | 0 => (.ok, d.tsBind n (Fin.ofNat 16 (pf c 1 0 4)))
  | 1 => (.ok, d.modTs n (TimeScale.toSet (.triple (tripleGr ⟨pf c 1 0 32 + pf c 2 0 16 * 4294967296, pf c 3 0 32, pf c 4 0 16⟩))))
  | 2 => if d.todEn n && d.srcValid n then (.ok, d.modTs n (TimeScale.toSet .source)) else (.refused 1, d)
  | 3 => if (d.tsc n).st = .todHold then (.ok, d.modTs n TimeScale.accepting) else (.refused (d.tsc n).st.code, d)
  | 4 => if (d.tsc n).st = .todHold then (.ok, d.todOff n) else (.refused (d.tsc n).st.code, d)
  | 5 =>
    if d.cascSlave n then (.refused 3, d)
    else if (d.tsc n).leap.isSome && pf c 1 0 10 ≠ d.utcOffset n then (.refused 1, d)
    else (.ok, d.modTs n (TimeScale.toUtc (wordAt c.words 1)))
  | 6 => (.ok, d.modTs n (TimeScale.toLocal (wordAt c.words 1)))
  | 7 => if d.outEn (Fin.ofNat 48 (pf c 1 0 6)) then (.refused 1, d)
    else (.ok, (d.wr (sigOff (Fin.ofNat 48 (pf c 1 0 6))) (wordAt c.words 2)).outRefresh (Fin.ofNat 48 (pf c 1 0 6)))
  | _ => (.ok, d.todConfig n (pf c 1 0 1 = 1) (pf c 1 1 1 = 1) (pf c 1 8 6) (pf c 1 16 1 = 1))

theorem tsSetBody_eq (c : Cmd) (hn : n = Fin.ofNat 4 (pf c 0 0 2)) : tsSetBody c = fun d =>
    checked c ([(0, 0, 2), (0, 8, 4)] ++ tsSetUsed (pf c 0 8 4)) (tsSetBad c d) (Dev.tsSet c n) d := by
  subst hn
  rfl

/-- What TS_SET may change. -/
def tsSetScope : Scope := partScope [.regs, .bar4, .host, .watch, .keeper, .ts, .outs]

theorem tsSetScope_eq (h : Within tsSetScope d d') : d' = { d with
    regs := d'.regs, bar4 := d'.bar4, host := d'.host, watch := d'.watch, keeper := d'.keeper, ts := d'.ts, outs := d'.outs } := h.eq

theorem Within.tsBind (h : Within S d₀ d) {ch : Fin 16} (hreg : S.reg (tsOff n)) (hr : S.Has .regs := by trivial) (ht : S.Has .ts := by trivial) :
    Within S d₀ (d.tsBind n ch) := by
  unfold Dev.tsBind
  extract_lets old new
  exact (h.wrF hreg hr).modTs

/-- O of a time scale moved with its channel's count, where it runs. -/
def TimeScale.bound (old new : Int) (x : TimeScale) : TimeScale := { x with ofs := if x.started then x.ofs + old - new else x.ofs }

theorem SetsTs.tsBind (h : SetsTs n x d₀ d) {ch : Fin 16} :
    SetsTs n (x.bound (feedback24 (d.chan (d.tsChan n)).loop d.tbGr) (feedback24 (d.chan ch).loop d.tbGr)) d₀ (d.tsBind n ch) :=
  (h.within ((Within.refl _ d).wrF trivial)).modTs

theorem Within.tsClearHold (h : Within S d₀ d) (ht : S.Has .ts) : Within S d₀ (d.tsClearHold n) := h.modTs

theorem Within.todOff (h : Within S d₀ d) (hreg : S.reg (tsOff n)) (hE : S.Events := by trivial) (hw : S.Has .watch := by trivial)
    (ht : S.Has .ts := by trivial) (hl : S.load = true := by trivial) : Within S d₀ (d.todOff n) := by
  have ⟨⟨hr, _, _⟩, _⟩ := hE
  exact .ite (fun _ => (h.wrF hreg hr).modTs.tsTo) fun _ => h.wrF hreg hr

/-- The set-up of a source, before TOD_EN. -/
def Dev.todSource (n : Fin 4) (auto : Bool) (slot : Nat) (follow : Bool) (d : Dev) : Dev :=
  let e := if d.rdF (tsOff n) 16 6 = slot then d else d.modTs n fun t => { t with edge := none, label := none, named := none }
  ((e.wrF (tsOff n) 24 1 (if auto then 1 else 0)).wrF (tsOff n) 16 6 slot).wrF (tsOff n) 26 1 (if follow then 1 else 0)

theorem todConfig_eq (n : Fin 4) (en auto : Bool) (slot : Nat) (follow : Bool) (d : Dev) : d.todConfig n en auto slot follow =
    if en then (d.todSource n auto slot follow).wrF (tsOff n) 25 1 1 else (d.todSource n auto slot follow).todOff n := rfl

theorem Within.todSource (h : Within S d₀ d) {auto : Bool} {slot : Nat} {follow : Bool} (hreg : S.reg (tsOff n)) (hr : S.Has .regs := by trivial)
    (ht : S.Has .ts := by trivial) : Within S d₀ (d.todSource n auto slot follow) := by
  unfold Dev.todSource
  extract_lets e
  have he : Within S d₀ e := .ite (fun _ => h) fun _ => h.modTs
  exact ((he.wrF hreg hr).wrF hreg hr).wrF hreg hr

theorem Within.todConfig (h : Within S d₀ d) {en auto : Bool} {slot : Nat} {follow : Bool} (hreg : S.reg (tsOff n)) (hE : S.Events := by trivial)
    (hw : S.Has .watch := by trivial) (ht : S.Has .ts := by trivial) (hl : S.load = true := by trivial) : Within S d₀ (d.todConfig n en auto slot follow) := by
  have ⟨⟨hr, _, _⟩, _⟩ := hE
  rw [todConfig_eq]
  exact .ite (fun _ => (h.todSource hreg).wrF hreg hr) fun _ => (h.todSource hreg).todOff hreg

theorem SetsTs.todOff (h : SetsTs n x d₀ d) : ∃ y, SetsTs n y d₀ (d.todOff n) ∧ (x.st = .todHold → y.st = .running) := by
  have h1 : SetsTs n x d₀ (d.wrF (tsOff n) 25 1 0) := h.within ((Within.refl _ d).wrF trivial)
  unfold Dev.todOff
  extract_lets e
  have hst : (e.tsc n).st = x.st := congrArg TimeScale.st h1.same
  rw [hst]
  split
  · exact ⟨_, ((SetsTs.modTs h1).modTs (f := fun t => { t with st := .running })).within ((Within.refl _ _).stateEv.loadRefresh), fun _ => rfl⟩
  next hne => exact ⟨x, h1, fun e => absurd e hne⟩

theorem SetsTs.todSource (h : SetsTs n x d₀ d) {auto : Bool} {slot : Nat} {follow : Bool} : ∃ y, SetsTs n y d₀ (d.todSource n auto slot follow) := by
  unfold Dev.todSource
  extract_lets e
  obtain ⟨y, he⟩ : ∃ y, SetsTs n y d₀ e := by
    unfold e
    split
    · exact ⟨x, h⟩
    · exact ⟨_, h.modTs⟩
  exact ⟨y, he.within ((((Within.refl _ e).wrF trivial).wrF trivial).wrF trivial)⟩

theorem SetsTs.todConfig (h : SetsTs n x d₀ d) {en auto : Bool} {slot : Nat} {follow : Bool} : ∃ y, SetsTs n y d₀ (d.todConfig n en auto slot follow) := by
  obtain ⟨y, hy⟩ := h.todSource (auto := auto) (slot := slot) (follow := follow)
  rw [todConfig_eq]
  split
  · exact ⟨y, hy.within ((Within.refl _ _).wrF trivial)⟩
  · obtain ⟨z, hz, -⟩ := hy.todOff
    exact ⟨z, hz⟩

/-- What TS_SET may change, and of the time scales its own alone. -/
theorem tsSet_frame (c : Cmd) (n : Fin 4) (d : Dev) : Within tsSetScope d (d.tsSet c n).2 ∧ ∃ y, SetsTs n y d (d.tsSet c n).2 := by
  have hr : Within tsSetScope d d := .refl _ d
  have hs := SetsTs.refl n d
  have hE : tsSetScope.Events := ⟨⟨rfl, rfl, rfl⟩, rfl⟩
  unfold Dev.tsSet
  split
  · exact ⟨hr.tsBind trivial rfl rfl, _, hs.tsBind⟩
  · exact ⟨hr.modTs rfl, _, hs.modTs⟩
  · split
    · exact ⟨hr.modTs rfl, _, hs.modTs⟩
    · exact ⟨hr, _, hs⟩
  · split
    · exact ⟨hr.modTs rfl, _, hs.modTs⟩
    · exact ⟨hr, _, hs⟩
  · split
    · obtain ⟨y, hy, -⟩ := hs.todOff
      exact ⟨hr.todOff trivial hE rfl rfl, y, hy⟩
    · exact ⟨hr, _, hs⟩
  · split
    · exact ⟨hr, _, hs⟩
    split
    · exact ⟨hr, _, hs⟩
    · exact ⟨hr.modTs rfl, _, hs.modTs⟩
  · exact ⟨hr.modTs rfl, _, hs.modTs⟩
  · split
    · exact ⟨hr, _, hs⟩
    · exact ⟨Within.outRefresh (hr.wr trivial rfl) rfl, _, hs.within ((Within.refl _ d).wr.outRefresh)⟩
  · exact ⟨hr.todConfig trivial hE rfl rfl, hs.todConfig⟩

/-! ### The actions of TS_SET -/

theorem tsSet_bind (h : pf c 0 8 4 = 0) : d.tsSet c n = (.ok, d.tsBind n (Fin.ofNat 16 (pf c 1 0 4))) := by
  unfold Dev.tsSet
  simp only [h]

theorem tsSet_triple (h : pf c 0 8 4 = 1) : d.tsSet c n =
    (.ok, d.modTs n (TimeScale.toSet (.triple (tripleGr ⟨pf c 1 0 32 + pf c 2 0 16 * 4294967296, pf c 3 0 32, pf c 4 0 16⟩)))) := by
  unfold Dev.tsSet
  simp only [h]

theorem tsSet_source (h : pf c 0 8 4 = 2) : d.tsSet c n =
    if d.todEn n && d.srcValid n then (.ok, d.modTs n (TimeScale.toSet .source)) else (.refused 1, d) := by
  unfold Dev.tsSet
  simp only [h]

theorem tsSet_accept (h : pf c 0 8 4 = 3) : d.tsSet c n =
    if (d.tsc n).st = .todHold then (.ok, d.modTs n TimeScale.accepting) else (.refused (d.tsc n).st.code, d) := by
  unfold Dev.tsSet
  simp only [h]

theorem tsSet_leave (h : pf c 0 8 4 = 4) : d.tsSet c n = if (d.tsc n).st = .todHold then (.ok, d.todOff n) else (.refused (d.tsc n).st.code, d) := by
  unfold Dev.tsSet
  simp only [h]

theorem tsSet_utc (h : pf c 0 8 4 = 5) : d.tsSet c n =
    if d.cascSlave n then (.refused 3, d)
    else if (d.tsc n).leap.isSome && pf c 1 0 10 ≠ d.utcOffset n then (.refused 1, d)
    else (.ok, d.modTs n (TimeScale.toUtc (wordAt c.words 1))) := by
  unfold Dev.tsSet
  simp only [h]

theorem tsSet_local (h : pf c 0 8 4 = 6) : d.tsSet c n = (.ok, d.modTs n (TimeScale.toLocal (wordAt c.words 1))) := by
  unfold Dev.tsSet
  simp only [h]

theorem tsSet_signal (h : pf c 0 8 4 = 7) {m : Fin 48} (hm : m.val = pf c 1 0 6) : d.tsSet c n =
    if d.outEn m then (.refused 1, d) else (.ok, (d.wr (sigOff m) (wordAt c.words 2)).outRefresh m) := by
  have hfin : (Fin.ofNat 48 (pf c 1 0 6) : Fin 48) = m := Fin.ext (by rw [← hm]; exact Nat.mod_eq_of_lt m.isLt)
  unfold Dev.tsSet
  simp only [h, hfin]

theorem tsSet_config (h : pf c 0 8 4 = 8) : d.tsSet c n =
    (.ok, d.todConfig n (pf c 1 0 1 = 1) (pf c 1 1 1 = 1) (pf c 1 8 6) (pf c 1 16 1 = 1)) := by
  unfold Dev.tsSet
  simp only [h]

theorem tsChan_eq (d : Dev) (n : Fin 4) : d.tsChan n = Fin.ofNat 16 (d.rdF (tsOff n) 28 4) := rfl

theorem tsBind_chan (n : Fin 4) (ch : Fin 16) (d : Dev) : (d.tsBind n ch).tsChan n = ch := by
  have hrd : ∀ e : Dev, ∀ f, (e.modTs n f).rdF (tsOff n) 28 4 = e.rdF (tsOff n) 28 4 := fun _ _ => rfl
  unfold Dev.tsBind
  extract_lets old new
  rw [tsChan_eq, hrd, rdF_wrF_same (tsOff n) d (by decide) ch.isLt]
  exact Fin.ext (Nat.mod_eq_of_lt ch.isLt)

/-- The count of a running time scale, moved with its channel's count, reads as before. -/
theorem bound_count {x : TimeScale} (h : x.started = true) (old new : Int) : new + (x.bound old new).ofs = old + x.ofs := by
  unfold TimeScale.bound
  dsimp only
  rw [if_pos h]
  omega

theorem tsNow_eq (d : Dev) (n : Fin 4) : d.tsNow n = (feedback24 (d.chan (d.tsChan n)).loop d.tbGr + (d.tsc n).ofs + 8388608) / 16777216 := rfl

/-- A bind does not move TS. -/
theorem tsBind_tsNow (n : Fin 4) (ch : Fin 16) (d : Dev) (hs : (d.tsc n).started = true) : (d.tsBind n ch).tsNow n = d.tsNow n := by
  have hw : Within (partScope [.regs, .ts]) d (d.tsBind n ch) := (Within.refl _ d).tsBind trivial
  have hloop : ((d.tsBind n ch).chan ch).loop = (d.chan ch).loop := congrArg (fun v : Vector Chan 16 => (v.get ch).loop) hw.chans
  have hnow : (d.tsBind n ch).tbGr = d.tbGr := by rw [Dev.tbGr, hw.clk, Dev.tbGr]
  rw [tsNow_eq, tsNow_eq, tsBind_chan, hloop, (SetsTs.tsBind (.refl n d)).same, hnow, bound_count hs]

/-- What leaving TOD_HOLD may change besides TOD_EN. -/
def todOffScope : Scope := ⟨[.regs, .bar4, .host, .watch, .keeper, .ts], fun _ => False, true, true, true, fun h => absurd h (by decide)⟩

theorem todOff_within (n : Fin 4) (d : Dev) : Within todOffScope (d.wrF (tsOff n) 25 1 0) (d.todOff n) := by
  have h0 : Within todOffScope (d.wrF (tsOff n) 25 1 0) (d.wrF (tsOff n) 25 1 0) := .refl _ _
  exact .ite (fun _ => (h0.tsClearHold rfl).tsTo rfl ⟨⟨rfl, rfl, rfl⟩, rfl⟩ rfl) fun _ => h0

/-- TOD_EN written 0. -/
theorem todOff_field (n : Fin 4) (d : Dev) : (d.todOff n).rdF (tsOff n) 25 1 = 0 ∧
    ∀ lo width, (lo + width ≤ 25 ∨ 26 ≤ lo) → (d.todOff n).rdF (tsOff n) lo width = d.rdF (tsOff n) lo width := by
  have hn := n.isLt
  have hw := todOff_within n d
  have hrd : (d.todOff n).rd (tsOff n) = (d.wrF (tsOff n) 25 1 0).rd (tsOff n) :=
    hw.regs _ (fun h => h) (not_eventWord_of_lt (by simp only [tsOff]; omega))
  have hf : ∀ lo width, (d.todOff n).rdF (tsOff n) lo width = (d.wrF (tsOff n) 25 1 0).rdF (tsOff n) lo width := fun lo width => by
    rw [Dev.rdF, hrd, Dev.rdF]
  refine ⟨(hf 25 1).trans (rdF_wrF_same _ d (by decide) (by decide)), fun lo width h => (hf lo width).trans ?_⟩
  rcases h with h | h
  · exact rdF_wrF_below _ _ _ (by decide) h
  · exact rdF_wrF_above _ _ _ (by decide) h

theorem flag_value {b : Nat} (h : b < 2) : (if decide (b = 1) = true then 1 else 0) = b := by
  match b, h with
  | 0, _ => rfl
  | 1, _ => rfl

/-- The set-up of a source reads as it was written. -/
theorem todSource_reads (n : Fin 4) (auto : Bool) {slot : Nat} (hslot : slot < 64) (follow : Bool) (d : Dev) :
    (d.todSource n auto slot follow).rdF (tsOff n) 24 1 = (if auto then 1 else 0) ∧ (d.todSource n auto slot follow).rdF (tsOff n) 16 6 = slot ∧
    (d.todSource n auto slot follow).rdF (tsOff n) 26 1 = (if follow then 1 else 0) ∧
    ∀ a, a ≠ tsOff n → (d.todSource n auto slot follow).rd a = d.rd a := by
  have hbit : ∀ b : Bool, (if b then 1 else 0) < 2 ^ 1 := by decide
  unfold Dev.todSource
  extract_lets e
  have he : ∀ a, e.rd a = d.rd a := fun a => by
    unfold e
    split
    · rfl
    · rfl
  refine ⟨?_, ?_, rdF_wrF_same _ _ (by decide) (hbit follow), fun a ha => ?_⟩
  · rw [rdF_wrF_below _ _ _ (by decide) (by decide), rdF_wrF_above _ _ _ (by decide) (by decide), rdF_wrF_same _ _ (by decide) (hbit auto)]
  · rw [rdF_wrF_below _ _ _ (by decide) (by decide), rdF_wrF_same _ _ (by decide) hslot]
  · rw [rd_wrF_ne _ _ _ _ (Ne.symm ha), rd_wrF_ne _ _ _ _ (Ne.symm ha), rd_wrF_ne _ _ _ _ (Ne.symm ha), he]

theorem todConfig_reads (n : Fin 4) {en auto slot follow : Nat} (hen : en < 2) (hauto : auto < 2) (hslot : slot < 64) (hfollow : follow < 2) (d : Dev) :
    (d.todConfig n (en = 1) (auto = 1) slot (follow = 1)).rdF (tsOff n) 25 1 = en ∧
    (d.todConfig n (en = 1) (auto = 1) slot (follow = 1)).rdF (tsOff n) 24 1 = auto ∧
    (d.todConfig n (en = 1) (auto = 1) slot (follow = 1)).rdF (tsOff n) 16 6 = slot ∧
    (d.todConfig n (en = 1) (auto = 1) slot (follow = 1)).rdF (tsOff n) 26 1 = follow ∧
    KeepsRegs [tsOff n] d (d.todConfig n (en = 1) (auto = 1) slot (follow = 1)) := by
  obtain ⟨h24, h16, h26, hne⟩ := todSource_reads n (auto = 1) hslot (follow = 1) d
  rw [flag_value hauto] at h24
  rw [flag_value hfollow] at h26
  generalize hq : d.todSource n (auto = 1) slot (follow = 1) = q at *
  have heq : d.todConfig n (en = 1) (auto = 1) slot (follow = 1) = if decide (en = 1) = true then q.wrF (tsOff n) 25 1 1 else q.todOff n := by
    rw [todConfig_eq, hq]
  rw [heq]
  have hcases : en = 0 ∨ en = 1 := by omega
  rcases hcases with rfl | rfl
  · obtain ⟨h25, hrest⟩ := todOff_field n q
    rw [if_neg (by decide), hrest 24 1 (by decide), hrest 16 6 (by decide), hrest 26 1 (by decide)]
    refine ⟨h25, h24, h16, h26, fun a ha hev => ?_⟩
    have hx : a ≠ tsOff n := fun e => ha (List.mem_singleton.mpr e)
    exact ((todOff_within n q).regs a (fun h => h) hev).trans ((rd_wrF_ne _ _ _ _ hx.symm).trans (hne a hx))
  · rw [if_pos (by decide), rdF_wrF_same _ _ (by decide) (by decide), rdF_wrF_below _ _ _ (by decide) (by decide),
      rdF_wrF_below _ _ _ (by decide) (by decide), rdF_wrF_above _ _ _ (by decide) (by decide)]
    refine ⟨rfl, h24, h16, h26, fun a ha hev => ?_⟩
    have hx : a ≠ tsOff n := fun e => ha (List.mem_singleton.mpr e)
    exact (rd_wrF_ne _ _ _ _ hx.symm).trans (hne a hx)

/-- What TS_SET answers, and leaves of its time scale. -/
theorem tsSet_fields (c : Cmd) (n : Fin 4) (d : Dev) :
    let x := d.tsc n
    let act := pf c 0 8 4
    let o := (d.tsSet c n).1
    let d' := (d.tsSet c n).2
    (act = 0 → o = .ok ∧ d'.tsChan n = Fin.ofNat 16 (pf c 1 0 4) ∧ (x.started = true → d'.tsNow n = d.tsNow n)) ∧
    (act = 1 → o = .ok ∧ d'.regs = d.regs ∧ d'.tsc n = { x with
      set := some (.triple (tripleGr ⟨pf c 1 0 32 + pf c 2 0 16 * 4294967296, pf c 3 0 32, pf c 4 0 16⟩)) }) ∧
    (act = 2 → if d.todEn n = true ∧ d.srcValid n = true then o = .ok ∧ d'.tsc n = { x with set := some .source }
      else o = .refused 1 ∧ d' = d) ∧
    (act = 3 → if x.st = .todHold then o = .ok ∧ d'.tsc n = { x with accept := true } else o = .refused x.st.code ∧ d' = d) ∧
    (act = 4 → if x.st = .todHold then o = .ok ∧ (d'.tsc n).st = .running ∧ d'.rdF (tsOff n) 25 1 = 0
      else o = .refused x.st.code ∧ d' = d) ∧
    (act = 5 → if d.cascSlave n = true then o = .refused 3 ∧ d' = d
      else if x.leap.isSome = true ∧ pf c 1 0 10 ≠ d.utcOffset n then o = .refused 1 ∧ d' = d
      else o = .ok ∧ d'.tsc n = { x with utc := some (wordAt c.words 1) }) ∧
    (act = 6 → o = .ok ∧ d'.tsc n = { x with localOfs := some (wordAt c.words 1) }) ∧
    (act = 7 → ∀ m : Fin 48, m.val = pf c 1 0 6 → if d.outEn m = true then o = .refused 1 ∧ d' = d
      else o = .ok ∧ Stored [(sigOff m, wordAt c.words 2)] d d' ∧ ∀ k, k ≠ m → d'.out k = d.out k) ∧
    (act = 8 → o = .ok ∧ d'.rdF (tsOff n) 25 1 = pf c 1 0 1 ∧ d'.rdF (tsOff n) 24 1 = pf c 1 1 1 ∧
      d'.rdF (tsOff n) 16 6 = pf c 1 8 6 ∧ d'.rdF (tsOff n) 26 1 = pf c 1 16 1 ∧ KeepsRegs [tsOff n] d d') := by
  intro x act o d'
  refine ⟨fun h => ?bind, fun h => ?triple, fun h => ?source, fun h => ?accept, fun h => ?leave, fun h => ?utc, fun h => ?zone, fun h m hm => ?signal,
    fun h => ?config⟩
  case bind =>
    have heq := tsSet_bind (d := d) (n := n) h
    unfold o d'
    rw [heq]
    exact ⟨rfl, tsBind_chan n _ d, fun hs => tsBind_tsNow n _ d hs⟩
  case triple =>
    have heq := tsSet_triple (d := d) (n := n) h
    unfold o d'
    rw [heq]
    exact ⟨rfl, rfl, modTs_tsc_same n _ d⟩
  case source =>
    have heq := tsSet_source (d := d) (n := n) h
    unfold o d'
    rw [heq]
    cases ha : d.todEn n <;> cases hb : d.srcValid n <;> simp [TimeScale.toSet, x]
  case accept =>
    have heq := tsSet_accept (d := d) (n := n) h
    unfold o d' x
    rw [heq]
    split
    · exact ⟨rfl, modTs_tsc_same n _ d⟩
    · exact ⟨rfl, rfl⟩
  case leave =>
    have heq := tsSet_leave (d := d) (n := n) h
    unfold o d' x
    rw [heq]
    split
    next hst =>
      obtain ⟨y, hy, hrun⟩ := (SetsTs.refl n d).todOff
      exact ⟨rfl, (congrArg TimeScale.st hy.same).trans (hrun hst), (todOff_field n d).1⟩
    · exact ⟨rfl, rfl⟩
  case utc =>
    have heq := tsSet_utc (d := d) (n := n) h
    unfold o d' x
    rw [heq]
    split
    · exact ⟨rfl, rfl⟩
    by_cases hl : (d.tsc n).leap.isSome = true ∧ pf c 1 0 10 ≠ d.utcOffset n
    · rw [if_pos hl, if_pos (Bool.and_eq_true_iff.mpr ⟨hl.1, decide_eq_true hl.2⟩)]
      exact ⟨rfl, rfl⟩
    · rw [if_neg hl, if_neg fun he => hl ⟨(Bool.and_eq_true_iff.mp he).1, of_decide_eq_true (Bool.and_eq_true_iff.mp he).2⟩]
      exact ⟨rfl, modTs_tsc_same n _ d⟩
  case zone =>
    have heq := tsSet_local (d := d) (n := n) h
    unfold o d'
    rw [heq]
    exact ⟨rfl, modTs_tsc_same n _ d⟩
  case signal =>
    have heq := tsSet_signal (d := d) (n := n) h hm
    unfold o d'
    rw [heq]
    split
    · exact ⟨rfl, rfl⟩
    · exact ⟨rfl, (stored_wr _ _ d).after fun a => outRefresh_rd m _ a, fun k hk => outRefresh_out_ne _ hk⟩
  case config =>
    have heq := tsSet_config (d := d) (n := n) h
    unfold o d'
    rw [heq]
    exact ⟨rfl, todConfig_reads n (pf_lt c 1 0 1) (pf_lt c 1 1 1) (pf_lt c 1 8 6) (pf_lt c 1 16 1) d⟩

/-! ### TS_STEP_SCHEDULE and TS_LEAP_SCHEDULE -/

theorem stored_begun {op : Nat} {l : List (Nat × Word)} : Stored l (d.begun c op) d' ↔ Stored l d d' := by
  unfold Stored
  simp only [begun_rd]

theorem keepsRegs_begun {op : Nat} {l : List Nat} : KeepsRegs l (d.begun c op) d' ↔ KeepsRegs l d d' := by
  unfold KeepsRegs
  simp only [begun_rd]

/-- A scheduled step too near to be changed. -/
def Dev.stepSoon (n : Fin 4) (d : Dev) : Bool :=
  match (d.tsc n).step with
  | some p => decide ((p.atSec : Int) < d.presentSec n + 2)
  | none => false

theorem begun_stepSoon (c : Cmd) (op : Nat) (k : Fin 4) (d : Dev) : (d.begun c op).stepSoon k = d.stepSoon k := by
  unfold Dev.stepSoon
  rw [begun_tsc, begun_presentSec]

/-- The step that TS_STEP_SCHEDULE names: none for a delta of 0. -/
def namedStep (c : Cmd) : Option StepPend :=
  if deltaGr (signed 32 (pf c 3 0 32)) (signed 32 (pf c 4 0 32)) (pf c 5 0 16) = 0 then none
  else some ⟨pf c 1 0 32 + pf c 2 0 16 * 4294967296, signed 32 (pf c 3 0 32), signed 32 (pf c 4 0 32), pf c 5 0 16, false⟩

/-- The time scale with a step scheduled. -/
def TimeScale.stepping (p : Option StepPend) (x : TimeScale) : TimeScale := { x with step := p }

/-- TS_STEP_SCHEDULE with its parameters checked. -/
def Dev.tsStep (c : Cmd) (n : Fin 4) (d : Dev) : CmdOut × Dev :=
  if d.cascSlave n then (.refused 3, d)
  else if ((pf c 1 0 32 + pf c 2 0 16 * 4294967296 : Nat) : Int) < d.presentSec n + 2 then (.refused 1, d)
  else if d.stepSoon n then (.busy, d)
  else (.ok, d.modTs n (TimeScale.stepping (namedStep c)))

theorem tsStepBody_eq (c : Cmd) (hn : n = Fin.ofNat 4 (pf c 0 0 2)) : tsStepBody c =
    checked c [(0, 0, 2), whole 1, (2, 0, 16), whole 3, whole 4, (5, 0, 16)] (failIf (1000000000 ≤ (signed 32 (pf c 4 0 32)).natAbs) 128) (Dev.tsStep c n) := by
  subst hn
  unfold tsStepBody
  simp only [decide_eq_true_eq]
  rfl

/-- The time scale with a leap pending and the notice `b`. -/
def TimeScale.leaping (l : Option (Bool × Nat)) (x : TimeScale) : TimeScale := { x with leap := l }

/-- TS_LEAP_SCHEDULE with its parameters checked. -/
def Dev.tsLeap (c : Cmd) (n : Fin 4) (d : Dev) : CmdOut × Dev :=
  if d.cascSlave n then (.refused 3, d)
  else if pf c 0 8 2 = 2 then (.ok, d.setLeap n none)
  else if ((pf c 1 0 20 + 1) * 86400 + d.utcOffset n : Int) ≤ d.presentSec n then (.refused 1, d)
  else (.ok, d.setLeap n (some (pf c 0 8 2 = 1, pf c 1 0 20)))

theorem tsLeapBody_eq (c : Cmd) (hn : n = Fin.ofNat 4 (pf c 0 0 2)) : tsLeapBody c =
    checked c [(0, 0, 2), (0, 8, 2), (1, 0, 20)] (failIf (pf c 0 8 2 = 3) 8) (Dev.tsLeap c n) := by
  subst hn
  unfold tsLeapBody
  simp only [decide_eq_true_eq]
  rfl

/-- A leap installed: the time scale of its own alone changes. -/
theorem setLeap_fields (n : Fin 4) (l : Option (Bool × Nat)) (d : Dev) : ((d.setLeap n l).tsc n).leap = l ∧
    d.setLeap n l = { d with ts := d.ts.set n ((d.setLeap n l).tsc n) } := by
  have hb : SetsTs n _ d (d.setLeap n l) := ((SetsTs.refl n d).modTs (f := TimeScale.leaping l)).noticeJudge
  have h0 : Within (partScope [.ts]) d (d.modTs n (TimeScale.leaping l)) := (Within.refl _ d).modTs
  have hw : Within (partScope [.ts]) d (d.setLeap n l) := h0.noticeJudge
  refine ⟨(congrArg TimeScale.leap hb.same).trans rfl, ?_⟩
  rw [hb.same]
  exact hw.eq.trans (congrArg (fun t => ({ d with ts := t } : Dev)) hb)

/-- What TS_STEP_SCHEDULE answers. -/
theorem tsStep_fields (c : Cmd) (n : Fin 4) (d : Dev) :
    if d.cascSlave n = true then (d.tsStep c n).1 = .refused 3 ∧ (d.tsStep c n).2 = d
    else if ((pf c 1 0 32 + pf c 2 0 16 * 4294967296 : Nat) : Int) < d.presentSec n + 2 then (d.tsStep c n).1 = .refused 1 ∧ (d.tsStep c n).2 = d
    else if d.stepSoon n = true then (d.tsStep c n).1 = .busy ∧ (d.tsStep c n).2 = d
    else (d.tsStep c n).1 = .ok ∧ (d.tsStep c n).2 = d.modTs n (TimeScale.stepping (namedStep c)) := by
  by_cases h1 : d.cascSlave n = true
  · rw [if_pos h1, show d.tsStep c n = (.refused 3, d) from if_pos h1]
    exact ⟨rfl, rfl⟩
  rw [if_neg h1, show d.tsStep c n = _ from if_neg h1]
  by_cases h2 : ((pf c 1 0 32 + pf c 2 0 16 * 4294967296 : Nat) : Int) < d.presentSec n + 2
  · rw [if_pos h2, if_pos h2]
    exact ⟨rfl, rfl⟩
  rw [if_neg h2, if_neg h2]
  by_cases h3 : d.stepSoon n = true
  · rw [if_pos h3, if_pos h3]
    exact ⟨rfl, rfl⟩
  · rw [if_neg h3, if_neg h3]
    exact ⟨rfl, rfl⟩

/-- What TS_LEAP_SCHEDULE answers. -/
theorem tsLeap_fields (c : Cmd) (n : Fin 4) (d : Dev) :
    if d.cascSlave n = true then (d.tsLeap c n).1 = .refused 3 ∧ (d.tsLeap c n).2 = d
    else if pf c 0 8 2 = 2 then (d.tsLeap c n).1 = .ok ∧ ((d.tsLeap c n).2.tsc n).leap = none ∧
      (d.tsLeap c n).2 = { d with ts := d.ts.set n ((d.tsLeap c n).2.tsc n) }
    else if ((pf c 1 0 20 + 1) * 86400 + d.utcOffset n : Int) ≤ d.presentSec n then (d.tsLeap c n).1 = .refused 1 ∧ (d.tsLeap c n).2 = d
    else (d.tsLeap c n).1 = .ok ∧ ((d.tsLeap c n).2.tsc n).leap = some (decide (pf c 0 8 2 = 1), pf c 1 0 20) ∧
      (d.tsLeap c n).2 = { d with ts := d.ts.set n ((d.tsLeap c n).2.tsc n) } := by
  by_cases h1 : d.cascSlave n = true
  · rw [if_pos h1, show d.tsLeap c n = (.refused 3, d) from if_pos h1]
    exact ⟨rfl, rfl⟩
  rw [if_neg h1, show d.tsLeap c n = _ from if_neg h1]
  by_cases h2 : pf c 0 8 2 = 2
  · rw [if_pos h2, if_pos h2]
    exact ⟨rfl, setLeap_fields n none d⟩
  rw [if_neg h2, if_neg h2]
  by_cases h3 : ((pf c 1 0 20 + 1) * 86400 + d.utcOffset n : Int) ≤ d.presentSec n
  · rw [if_pos h3, if_pos h3]
    exact ⟨rfl, rfl⟩
  · rw [if_neg h3, if_neg h3]
    exact ⟨rfl, setLeap_fields n _ d⟩

/-- Settles O57: each command of a time scale is checked, and then has the effect of its action. -/
theorem timeScaleCommands : Obligations.TimeScaleCommands := by
  intro c s n hn
  refine ⟨?set, ?step, ?leap⟩
  case set =>
    refine serves_body (Dev.tsSet c n) rfl (by rw [tsSetBody_eq c hn]) fun _ => ?_
    obtain ⟨hw, y, hy⟩ := tsSet_frame c n (s.dev.begun c 0x40)
    have hf := tsSet_fields c n (s.dev.begun c 0x40)
    simp only [begun_tsc, begun_regs, begun_tsNow, begun_todEn, begun_srcValid, begun_cascSlave, begun_utcOffset, begun_outEn, begun_out, stored_begun,
      keepsRegs_begun] at hf
    exact ⟨fun k hk => (hy.ne hk).trans (begun_tsc c 0x40 k s.dev), tsSetScope_eq hw, hf⟩
  case step =>
    refine serves_checked (Dev.tsStep c n) (by rw [← tsStepBody_eq c hn]; rfl) fun _ => ?_
    have hf := tsStep_fields c n (s.dev.begun c 0x41)
    rw [begun_cascSlave, begun_presentSec, begun_stepSoon] at hf
    exact hf
  case leap =>
    refine serves_checked (Dev.tsLeap c n) (by rw [← tsLeapBody_eq c hn]; rfl) fun _ => ?_
    have hf := tsLeap_fields c n (s.dev.begun c 0x42)
    rw [begun_cascSlave, begun_utcOffset, begun_presentSec, (begun_within c 0x42 s.dev).ts] at hf
    exact hf

end Sys2Proof.Machine
end

section
/-! What the operations of the cascade leave of its state. -/

namespace Sys2Proof.Machine

set_option Elab.async false

variable {S : Scope} {d d₀ d' : Dev} {l : Fin 5} {t : Tide}

/-! ### The cascade after a change -/

/-- Everything but the cascade. -/
def asideTide : Scope :=
  partScope [.regs, .bar4, .bar4Gen, .draws, .top, .chk, .host, .clk, .pwr, .watch, .keeper, .fw, .otp, .chart, .buoys, .pairs, .cycle, .chans, .lans,
    .outs, .vouts, .ts, .ports, .txts, .clients, .pilot]

/-- What does not touch the cascade leaves it. -/
theorem tide_aside (h : Within asideTide d d') : d'.tide = d.tide := h.tide

theorem link_of_tide (h : d'.tide = d.tide) (l : Fin 5) : d'.link l = d.link l := congrArg (fun t : Tide => t.links.get l) h

/-- The cascade with another link `l`. -/
def Tide.linked (l : Fin 5) (x : Link) (t : Tide) : Tide := { t with links := t.links.set l x }

theorem modLink_linked (l : Fin 5) (f : Link → Link) (d : Dev) : (d.modLink l f).tide = d.tide.linked l (f (d.link l)) := rfl

theorem linked_get_same (l : Fin 5) (x : Link) (t : Tide) : (t.linked l x).links.get l = x := get_set_same ..
theorem linked_get_ne {k : Fin 5} (h : k ≠ l) (x : Link) (t : Tide) : (t.linked l x).links.get k = t.links.get k := get_set_ne _ _ h
theorem linked_linked (l : Fin 5) (x y : Link) (t : Tide) : (t.linked l x).linked l y = t.linked l y := by
  unfold Tide.linked
  rw [Vector.set_set]

/-- The link in another state. -/
def Link.to (st : LinkState) (x : Link) : Link := { x with st := st }

theorem linkTo_tide (l : Fin 5) (st : LinkState) (row : Nat) (d : Dev) : (d.linkTo l st row).tide = d.tide.linked l ((d.link l).to st) :=
  (tide_aside ((Within.refl _ (d.modLink l (Link.to st))).stateEv)).trans (modLink_linked l (Link.to st) d)

/-- The cascade with the flags of its frames. -/
def Tide.flagged (depth dup dual : Bool) (t : Tide) : Tide := { t with depthErr := depth, dupId := dup, dualMaster := dual }

theorem tideFlags_tide (d : Dev) : ∃ a b c, d.tideFlags.tide = d.tide.flagged a b c := by
  unfold Dev.tideFlags
  extract_lets lasts depth dup dual
  exact ⟨depth, dup, dual, tide_aside ((Within.refl _ (d.modTide (Tide.flagged depth dup dual))).setCond.setCond.setCond)⟩

/-! ### Labels and roles -/

/-- The cascade with LOFS `v`. -/
def Tide.offset (v : Int) (t : Tide) : Tide :=
  { t with lofs := v, labelErr := if v ≠ 0 && v.natAbs < 500000 then t.labelErr else false }

theorem setLofs_tide (v : Int) (d : Dev) : (d.setLofs v).tide = d.tide.offset v := by
  have hv : (d.modTide fun t => { t with lofs := v }).tide.lofs = v := rfl
  unfold Dev.setLofs Dev.labelCheck Tide.offset
  rw [hv]
  split
  · rfl
  · exact tide_aside (Within.refl _ ((d.modTide fun t => { t with lofs := v }).modTide fun t => { t with labelErr := false })).setCond

/-- The cascade in another role. -/
def Tide.as (r : Role) (t : Tide) : Tide := { t with role := r }

theorem roleTo_tide (r : Role) (row : Nat) (d : Dev) : (d.roleTo r row).tide = d.tide.as r :=
  tide_aside (Within.refl _ (d.modTide (Tide.as r))).stateEv

/-- What own frames take from a frame of the active upstream. -/
def Tide.adopted (f : TideFrame) (t : Tide) : Tide :=
  { t with mPrio := f.mPrio, mId := f.mId, masterLost := f.masterLost, hops := f.hops.toNat,
           path := if f.hops.toNat ≤ 7 then framePath f ++ [t.id] else framePath f,
           masterCh := f.masterChState, masterTs := f.masterTsState, phaseAcc := f.phaseAcc }

theorem adopt_tide (f : TideFrame) (d : Dev) : (d.adopt f).tide = d.tide.adopted f := rfl

/-- The cascade with no message applied. -/
def Tide.afresh (t : Tide) : Tide := { t with stepSeq := none, leapSeq := none, utcSeq := none }

/-- The cascade with `l` as its active upstream. -/
def Tide.activeOn (l : Fin 5) (t : Tide) : Tide := { t with active := some l }

/-- The source of a label. -/
def Tide.sourced (label at_ : Int) (t : Tide) : Tide := { t with srcLabel := label, srcAt := at_ }

theorem activate_none (h : (d.link l).last = none) : (d.activate l).tide = d.tide.activeOn l := by
  unfold Dev.activate
  extract_lets d1
  have h1 : (d1.link l).last = none := h
  rw [h1]
  rfl

theorem labelDelta_modTide (f : Tide → Tide) (hf : ∀ t, (f t).links = t.links) (x : TideFrame) (d : Dev) :
    (d.modTide f).labelDelta l x = d.labelDelta l x ∧ (d.modTide f).tSent l x = d.tSent l x := by
  have hl : (d.modTide f).link l = d.link l := congrArg (·.get l) (hf d.tide)
  have ht : (d.modTide f).tSent l x = d.tSent l x := by
    unfold Dev.tSent
    rw [hl]
  refine ⟨?_, ht⟩
  unfold Dev.labelDelta
  rw [ht]
  rfl

/-- The messages of another master are taken afresh. -/
def Dev.freshFor (f : TideFrame) (d : Dev) : Dev := onlyIf (f.mId ≠ d.tide.mId) Dev.msgsAfresh d

/-- What an active link's frame gives. -/
def Dev.takeUp (l : Fin 5) (f : TideFrame) (d : Dev) : Dev :=
  ((d.modTide (Tide.sourced (tripleGr f.label) (d.tSent l f))).setLofs (toUs (d.labelDelta l f))).adopt f

theorem activate_eq {f : TideFrame} (h : (d.link l).last = some f) : d.activate l = ((d.modTide (Tide.activeOn l)).freshFor f).takeUp l f := by
  have h1 : ((d.modTide (Tide.activeOn l)).link l).last = some f := h
  have he : d.activate l = match ((d.modTide (Tide.activeOn l)).link l).last with
    | some f => ((d.modTide (Tide.activeOn l)).freshFor f).takeUp l f
    | none => d.modTide (Tide.activeOn l) := rfl
  rw [he]
  split
  next g hg => rw [Option.some.inj (hg.symm.trans h1)]
  next hg => exact absurd (hg.symm.trans h1) (by simp)

theorem takeUp_tide (l : Fin 5) (f : TideFrame) (d : Dev) :
    (d.takeUp l f).tide = (((d.tide.sourced (tripleGr f.label) (d.tSent l f)).offset (toUs (d.labelDelta l f))).adopted f) := by
  unfold Dev.takeUp
  rw [adopt_tide, setLofs_tide]
  rfl

theorem freshFor_fields (f : TideFrame) (d : Dev) : (d.freshFor f).tide = (if f.mId ≠ d.tide.mId then d.tide.afresh else d.tide) ∧
    (d.freshFor f).labelDelta l f = d.labelDelta l f ∧ (d.freshFor f).tSent l f = d.tSent l f := by
  unfold Dev.freshFor onlyIf
  by_cases h : f.mId ≠ d.tide.mId
  · rw [if_pos h, if_pos (decide_eq_true h)]
    exact ⟨rfl, labelDelta_modTide (l := l) Tide.afresh (fun _ => rfl) f d⟩
  · rw [if_neg h, if_neg fun e => h (of_decide_eq_true e)]
    exact ⟨rfl, rfl, rfl⟩

/-- A link with a frame becomes active: own frames take on what it says, and LOFS is its rounded Δ. -/
theorem activate_some {f : TideFrame} (h : (d.link l).last = some f) : (d.activate l).tide =
    ((((if f.mId ≠ d.tide.mId then (d.tide.activeOn l).afresh else d.tide.activeOn l).sourced (tripleGr f.label) (d.tSent l f)).offset
      (toUs (d.labelDelta l f))).adopted f) := by
  obtain ⟨hx, ht⟩ := labelDelta_modTide (l := l) (Tide.activeOn l) (fun _ => rfl) f d
  obtain ⟨hf, hx', ht'⟩ := freshFor_fields (l := l) f (d.modTide (Tide.activeOn l))
  rw [activate_eq h, takeUp_tide, hf, hx', ht', hx, ht]
  rfl

/-- What becoming active leaves of the cascade. -/
theorem activate_fields (l : Fin 5) (d : Dev) : (d.activate l).tide.active = some l ∧ (d.activate l).tide.role = d.tide.role ∧
    (d.activate l).tide.links = d.tide.links ∧ (d.activate l).tide.id = d.tide.id ∧ (d.activate l).tide.events = d.tide.events ∧
    (d.activate l).tide.strapped = d.tide.strapped := by
  cases h : (d.link l).last with
  | none =>
    rw [activate_none h]
    exact ⟨rfl, rfl, rfl, rfl, rfl, rfl⟩
  | some f =>
    rw [activate_some h]
    by_cases hm : f.mId ≠ d.tide.mId
    · rw [if_pos hm]
      exact ⟨rfl, rfl, rfl, rfl, rfl, rfl⟩
    · rw [if_neg hm]
      exact ⟨rfl, rfl, rfl, rfl, rfl, rfl⟩

/-- What a link with a frame gives the cascade as it becomes active. -/
theorem activate_frame {f : TideFrame} (h : (d.link l).last = some f) : (d.activate l).tide.mPrio = f.mPrio ∧ (d.activate l).tide.mId = f.mId ∧
    (d.activate l).tide.masterLost = f.masterLost ∧ (d.activate l).tide.hops = f.hops.toNat ∧
    (d.activate l).tide.lofs = toUs (d.labelDelta l f) := by
  rw [activate_some h]
  exact ⟨rfl, rfl, rfl, rfl, rfl⟩

/-! ### Swaps and losses -/

theorem swap_tide (a b : Fin 5) (d : Dev) : ∃ e, Within asideTide d e ∧ d.swap a b = e.activate b :=
  ⟨_, ((Within.refl asideTide d).bump trivial).event, rfl⟩

/-- A swap makes the other link active. -/
theorem swap_fields (a b : Fin 5) (d : Dev) : (d.swap a b).tide.active = some b ∧ (d.swap a b).tide.role = d.tide.role ∧
    (d.swap a b).tide.links = d.tide.links ∧ (d.swap a b).tide.events = d.tide.events := by
  obtain ⟨e, he, hs⟩ := swap_tide a b d
  obtain ⟨h1, h2, h3, -, h5, -⟩ := activate_fields b e
  have ht := tide_aside he
  rw [hs]
  exact ⟨h1, h2.trans (congrArg Tide.role ht), h3.trans (congrArg Tide.links ht), h5.trans (congrArg Tide.events ht)⟩

/-- The cascade of an ORPHAN. -/
def Tide.orphaned (t : Tide) : Tide := ({ t with active := none, masterLost := true, events := [] } : Tide).as .orphan

theorem toOrphan_tide (row : Nat) (d : Dev) : (d.toOrphan row).tide = d.tide.orphaned := roleTo_tide ..

theorem masterEvent_tide (d : Dev) : d.masterEvent.tide = d.tide := tide_aside (Within.refl _ d).event

end Sys2Proof.Machine
end

section
/-! The roles on the cascade (chapter 11). -/

namespace Sys2Proof.Machine

set_option Elab.async false

variable {d d₀ d' : Dev} {l : Fin 5} {s : State}

/-- A state event is one entry of the event ring where the state has changed. -/
theorem stateEv_seq {old new : Nat} (h : old ≠ new) (blk machine obj row related : Nat) (d : Dev) :
    ((d.stateEv blk machine obj old new row related).ring 8).seq = (d.ring 8).seq + 1 := by
  rw [Dev.stateEv, if_neg h]
  exact event_seq ..

theorem ring_of_host (h : d'.host = d.host) (r : Fin 26) : d'.ring r = d.ring r := congrArg (fun x : HostIf => x.rings.get r) h

theorem roleTo_seq {r : Role} (h : d.tide.role ≠ r) (row : Nat) (d' : Dev) (hd : d' = d) : ((d'.roleTo r row).ring 8).seq = (d'.ring 8).seq + 1 := by
  subst hd
  unfold Dev.roleTo
  extract_lets old rel
  refine (stateEv_seq ?_ ..).trans rfl
  intro he
  unfold old at he
  exact h (by cases hr : d'.tide.role <;> cases r <;> simp_all [Role.code])

/-! ### Becoming master -/

/-- What a change of the role and its events may change. -/
def roleScope : Scope := eventScope [.regs, .bar4, .host, .keeper, .tide] [] fun _ h => absurd h List.not_mem_nil

theorem roleScope_events : roleScope.Events := ⟨⟨rfl, rfl, rfl⟩, rfl⟩

/-- What becoming master changes, with the registers it writes. -/
def masterScope : Scope := eventScope [.regs, .bar4, .host, .watch, .keeper, .tide] [0x280024] fun a h => by
  obtain rfl := List.mem_singleton.mp h
  exact not_cfgWord_of_lt (by decide)

theorem masterScope_events : masterScope.Events := ⟨⟨rfl, rfl, rfl⟩, rfl⟩

/-- What changes of the cascade but its role as the device becomes master. -/
def Tide.claimed (prio : Nat) (t : Tide) : Tide :=
  { t with active := none, path := [t.id], hops := 0, masterLost := false, mPrio := b8 prio, mId := t.id, events := [], relay := none }

/-- The device about to enter MASTER: its claim stands, and the change is counted. -/
def Dev.claimMaster (d : Dev) : Dev := ((d.modTide (Tide.claimed d.tlPrio)).setLofs 0).bump 0x280024 16 16

theorem toMaster_eq (row : Nat) (d : Dev) : d.toMaster row = (d.claimMaster.roleTo .master row).masterEvent := rfl

theorem claimMaster_tide (d : Dev) : d.claimMaster.tide = (d.tide.claimed d.tlPrio).offset 0 :=
  (congrArg (fun e : Dev => e.tide) rfl).trans (setLofs_tide 0 (d.modTide (Tide.claimed d.tlPrio)))

theorem claimMaster_within (d : Dev) : Within masterScope d d.claimMaster := by
  have h1 : Within masterScope d (d.modTide (Tide.claimed d.tlPrio)) := (Within.refl _ d).modTide
  exact (h1.setLofs rfl rfl).bump (show (0x280024 : Nat) ∈ [0x280024] by decide)

/-- Rows 2, 3 and 6: the device becomes master. -/
theorem toMaster_fields (row : Nat) (d : Dev) (hr : d.tide.role ≠ .master) :
    (d.toMaster row).tide = ((d.tide.claimed d.tlPrio).offset 0).as .master ∧ Counts 0x280024 16 16 d (d.toMaster row) ∧
    ((d.toMaster row).ring 8).seq = (d.ring 8).seq + 2 ∧ Within masterScope d (d.toMaster row) := by
  have hc := claimMaster_tide d
  have hw := claimMaster_within d
  have hrole : d.claimMaster.tide.role ≠ .master := by
    rw [hc]
    exact hr
  have hcount : Counts 0x280024 16 16 d d.claimMaster := by
    have h0 : ((d.modTide (Tide.claimed d.tlPrio)).setLofs 0).rd 0x280024 = d.rd 0x280024 := by
      have h1 : Within (partScope [.watch, .tide]) d (d.modTide (Tide.claimed d.tlPrio)) := (Within.refl _ d).modTide
      exact rd_of_regs ((h1.setLofs rfl rfl).same .regs rfl) _
    exact (bump_counts 0x280024 _ (by decide)).before h0
  have hseq0 : (d.claimMaster.ring 8).seq = (d.ring 8).seq := by
    have h1 : Within (partScope [.regs, .watch, .tide]) d (d.modTide (Tide.claimed d.tlPrio)) := (Within.refl _ d).modTide
    exact congrArg Ring.seq (ring_of_host ((h1.setLofs rfl rfl).bump trivial rfl).host 8)
  have hwr : Within roleScope d.claimMaster ((d.claimMaster.roleTo .master row).masterEvent) :=
    ((Within.refl _ _).roleTo roleScope_events rfl).masterEvent roleScope_events
  rw [toMaster_eq]
  refine ⟨?_, hcount.after (hwr.regs _ List.not_mem_nil (not_eventWord_of_lt (by decide))), ?_, (hw.roleTo masterScope_events rfl).masterEvent masterScope_events⟩
  · rw [masterEvent_tide, roleTo_tide, hc]
  · refine (event_seq ..).trans ?_
    rw [roleTo_seq hrole row _ rfl, hseq0, add_assoc]
    rfl

/-- The device has become master. -/
theorem becomesMaster_of {x : Instr} {f : Dev → Dev} {row : Nat} (hx : exec x s = run f s) (hf : f s.dev = s.dev.toMaster row) (hr : s.dev.tide.role ≠ .master) :
    ∃ t, exec x s = .next t ∧ BecomesMaster s t := by
  obtain ⟨ht, hc, hq, hw⟩ := toMaster_fields row s.dev hr
  refine ⟨_, exec_run hx hf, rfl, ?_⟩
  dsimp only
  rw [ht]
  exact ⟨rfl, rfl, rfl, rfl, rfl, rfl, rfl, rfl, rfl, rfl, hc, hw.eventFrame rfl fun _ h => h, hq, ht ▸ hw.eq⟩

/-! ### Yielding and LABEL_ERR -/

/-- What a change of the upstream with its count may change. -/
def yieldScope : Scope := eventScope [.regs, .bar4, .host, .watch, .keeper, .tide] [0x280020] fun a h => by
  obtain rfl := List.mem_singleton.mp h
  exact not_cfgWord_of_lt (by decide)

theorem yieldScope_events : yieldScope.Events := ⟨⟨rfl, rfl, rfl⟩, rfl⟩

/-- The device about to yield: the better link is active, and the change is counted. -/
def Dev.yieldTo (l : Fin 5) (d : Dev) : Dev := (d.activate l).bump 0x280020 16 16

theorem masterYield_eq (hr : d.tide.role = .master) (hs : d.tide.strapped = false) (hb : d.betterLink = some l) :
    masterYield d = ((d.yieldTo l).roleTo .slave 7).masterEvent := by
  unfold masterYield
  rw [if_pos (by simp [hr, hs]), hb]
  rfl

theorem yieldTo_tide (l : Fin 5) (d : Dev) : (d.yieldTo l).tide = (d.activate l).tide := rfl

/-- Row 7: the device yields to a better master. -/
theorem yield_fields (l : Fin 5) (d : Dev) (hr : d.tide.role = .master) :
    ((d.yieldTo l).roleTo .slave 7).masterEvent.tide = ((d.activate l).tide).as .slave ∧
    Counts 0x280020 16 16 d ((d.yieldTo l).roleTo .slave 7).masterEvent ∧
    ((((d.yieldTo l).roleTo .slave 7).masterEvent).ring 8).seq = (d.ring 8).seq + 2 ∧
    Within yieldScope d ((d.yieldTo l).roleTo .slave 7).masterEvent := by
  obtain ⟨-, hrole, -⟩ := activate_fields l d
  have ha : Within (partScope [.watch, .tide]) d (d.activate l) := (Within.refl _ d).activate rfl rfl
  have hw : Within yieldScope d (d.yieldTo l) :=
    Within.bump (Within.activate (S := yieldScope) (.refl _ d) rfl rfl) (show (0x280020 : Nat) ∈ [0x280020] by decide)
  have hcount : Counts 0x280020 16 16 d (d.yieldTo l) := (bump_counts 0x280020 _ (by decide)).before (rd_of_regs (ha.same .regs rfl) _)
  have hseq0 : ((d.yieldTo l).ring 8).seq = (d.ring 8).seq := congrArg Ring.seq (ring_of_host ha.host 8)
  have hwr : Within roleScope (d.yieldTo l) ((d.yieldTo l).roleTo .slave 7).masterEvent :=
    ((Within.refl _ _).roleTo roleScope_events rfl).masterEvent roleScope_events
  have hne : (d.yieldTo l).tide.role ≠ .slave := by
    rw [yieldTo_tide, hrole, hr]
    decide
  refine ⟨?_, hcount.after (hwr.regs _ List.not_mem_nil (not_eventWord_of_lt (by decide))), ?_, (hw.roleTo yieldScope_events rfl).masterEvent yieldScope_events⟩
  · rw [masterEvent_tide, roleTo_tide, yieldTo_tide]
  · refine (event_seq ..).trans ?_
    rw [roleTo_seq hne 7 _ rfl, hseq0, add_assoc]
    rfl

/-- The cascade with LABEL_ERR. -/
def Tide.labelled (t : Tide) : Tide := { t with labelErr := true }

theorem labelErrEnd_eq (h0 : d.tide.lofs ≠ 0) (hlt : d.tide.lofs.natAbs < 500000) (he : d.tide.labelErr = false) :
    labelErrEnd d = ((d.modTide Tide.labelled).setCond 168 0 true).event 0x0F 0 13 (sBytes 4 d.tide.lofs) := by
  unfold labelErrEnd
  exact if_pos (by simp [h0, hlt, he])

/-- What LABEL_ERR and its event may change. -/
def labelErrScope : Scope := eventScope [.regs, .bar4, .host, .watch, .keeper, .tide] [] fun _ h => absurd h List.not_mem_nil

/-- LABEL_ERR is raised, with its source and its event. -/
theorem labelled_fields (data : List Byte) (d : Dev) :
    (((d.modTide Tide.labelled).setCond 168 0 true).event 0x0F 0 13 data).tide = d.tide.labelled ∧
    ((((d.modTide Tide.labelled).setCond 168 0 true).event 0x0F 0 13 data).source 168).cond = true ∧
    ((((d.modTide Tide.labelled).setCond 168 0 true).event 0x0F 0 13 data).ring 8).seq = (d.ring 8).seq + 1 ∧
    Within labelErrScope d (((d.modTide Tide.labelled).setCond 168 0 true).event 0x0F 0 13 data) := by
  have h0 : Within labelErrScope d (d.modTide Tide.labelled) := (Within.refl _ d).modTide
  have h1 : Within labelErrScope d ((d.modTide Tide.labelled).setCond 168 0 true) := h0.setCond rfl
  have ha : Within asideTide (d.modTide Tide.labelled) ((d.modTide Tide.labelled).setCond 168 0 true) := (Within.refl _ _).setCond
  have he : Within roleScope ((d.modTide Tide.labelled).setCond 168 0 true) (((d.modTide Tide.labelled).setCond 168 0 true).event 0x0F 0 13 data) :=
    (Within.refl _ _).event roleScope_events
  have hh : Within (partScope [.watch]) (d.modTide Tide.labelled) ((d.modTide Tide.labelled).setCond 168 0 true) := (Within.refl _ _).setCond rfl
  refine ⟨?_, ?_, ?_, h1.event ⟨⟨rfl, rfl, rfl⟩, rfl⟩⟩
  · exact (tide_aside (Within.refl _ _).event).trans (tide_aside ha)
  · exact (congrArg (fun w : Watch => (w.srcs.get 168).cond) he.watch).trans (setCond_cond 168 0 true _)
  · exact (event_seq ..).trans (congrArg (fun h : HostIf => (h.rings.get 8).seq + 1) hh.host)

/-- Settles O45: each change of the role is the operation of its row. -/
theorem tideRoles : Obligations.TideRoles := by
  intro s
  refine ⟨fun hp hr => ?claim, fun hc hor => ?takeover, fun l f hr hs hb hf => ?yield, fun h0 hlt he => ?label⟩
  case claim =>
    have hslave : s.dev.tide.role = .slave := by
      have h := hp
      simp only [Dev.claimPossible, Bool.and_eq_true, decide_eq_true_eq] at h
      exact h.1.1
    exact becomesMaster_of (f := masterClaim) (row := 2) rfl (if_pos (by simp [hp, hr])) (by rw [hslave]; decide)
  case takeover =>
    rcases hor with ⟨hslave, hlost⟩ | ⟨horph, hnone⟩
    · refine becomesMaster_of (f := takeoverEnd) (row := 3) rfl ?_ (by rw [hslave]; decide)
      unfold takeoverEnd
      rw [if_neg (by simp [hc]), if_pos (by simp [hslave, hlost])]
    · refine becomesMaster_of (f := takeoverEnd) (row := 6) rfl ?_ (by rw [horph]; decide)
      unfold takeoverEnd
      rw [if_neg (by simp [hc]), if_neg (by simp [horph]), if_pos (by simp [horph, hnone])]
  case yield =>
    obtain ⟨ht, hc, hq, hw⟩ := yield_fields l s.dev hr
    obtain ⟨hact, -, hlinks, -⟩ := activate_fields l s.dev
    obtain ⟨hprio, hid, hlost, hhops, hlofs⟩ := activate_frame hf
    refine ⟨_, exec_run (x := .masterYield) (f := masterYield) rfl (masterYield_eq hr hs hb), rfl, ?_⟩
    have hframe := hw.eq
    dsimp only
    rw [ht]
    exact ⟨rfl, hact, hprio, hid, hlost, hhops, hlofs, hlinks, hc, hw.eventFrame rfl fun _ h => h, hq, ht ▸ hframe⟩
  case label =>
    obtain ⟨ht, hcond, hq, hw⟩ := labelled_fields (sBytes 4 s.dev.tide.lofs) s.dev
    exact ⟨_, exec_run (x := .labelErrTimeout) (f := labelErrEnd) rfl (labelErrEnd_eq h0 hlt he), rfl, ht, hcond, hw.eventFrame rfl fun _ h => h, hq, hw.eq⟩

end Sys2Proof.Machine
end

section
/-! Links of the cascade that drop, and what a loss of slot 60 leaves of the cascade. -/

namespace Sys2Proof.Machine

set_option Elab.async false

variable {S : Scope} {d d₀ d' : Dev} {l : Fin 5} {t : Tide}

/-! ### The links after a change of one -/

/-- Of the links, `d'` differs from `d` in link `l` alone, which is `x`. -/
def SetsLink (l : Fin 5) (x : Link) (d d' : Dev) : Prop := d'.tide.links = d.tide.links.set l x

theorem SetsLink.refl (l : Fin 5) (d : Dev) : SetsLink l (d.link l) d d := (set_get d.tide.links l).symm

theorem SetsLink.same {x : Link} (h : SetsLink l x d d') : d'.link l = x := (congrArg (·.get l) h).trans (get_set_same ..)

theorem SetsLink.ne {x : Link} (h : SetsLink l x d d') {k : Fin 5} (hk : k ≠ l) : d'.link k = d.link k := (congrArg (·.get k) h).trans (get_set_ne _ _ hk)

theorem SetsLink.side {x : Link} (h : SetsLink l x d₀ d) (hs : d'.tide.links = d.tide.links) : SetsLink l x d₀ d' := hs.trans h

theorem SetsLink.within {x : Link} (h : SetsLink l x d₀ d) (hw : Within asideTide d d') : SetsLink l x d₀ d' := h.side (congrArg Tide.links (tide_aside hw))

theorem SetsLink.modLink {x : Link} (h : SetsLink l x d₀ d) {f : Link → Link} : SetsLink l (f x) d₀ (d.modLink l f) := by
  have he : (d.modLink l f).tide.links = d.tide.links.set l (f (d.link l)) := rfl
  rw [SetsLink, he, h.same, h, Vector.set_set]

theorem SetsLink.linkTo {x : Link} (h : SetsLink l x d₀ d) {st : LinkState} {row : Nat} : SetsLink l (x.to st) d₀ (d.linkTo l st row) :=
  (h.modLink (f := Link.to st)).within (Within.refl _ _).stateEv

theorem SetsLink.tideFlags {x : Link} (h : SetsLink l x d₀ d) : SetsLink l x d₀ d.tideFlags := by
  obtain ⟨a, b, c, ht⟩ := tideFlags_tide d
  exact h.side ((congrArg Tide.links ht).trans rfl)

/-- A loop whose turns each change their own object leaves of every object what its turn makes of it. -/
theorem forFin_object {n : Nat} {α : Type} {get : Fin n → Dev → α} {f : Fin n → Dev → Dev} {I : Dev → Prop} {R : Fin n → α → α → Prop}
    (hf : ∀ j d, I d → R j (get j d) (get j (f j d)) ∧ (∀ k, k ≠ j → get k (f j d) = get k d) ∧ I (f j d)) (h : I d) (i : Fin n) :
    R i (get i d) (get i (forFin n f d)) := by
  have hall : ∀ (l : List (Fin n)) (d : Dev), l.Nodup → I d → (i ∈ l → R i (get i d) (get i (l.foldl (fun d j => f j d) d))) ∧
      (i ∉ l → get i (l.foldl (fun d j => f j d) d) = get i d) := by
    intro l
    induction l with
    | nil => exact fun d _ _ => ⟨fun h => absurd h List.not_mem_nil, fun _ => rfl⟩
    | cons j l ih =>
      intro d hn hI
      obtain ⟨hj, hn⟩ := List.nodup_cons.mp hn
      obtain ⟨hR, hne, hI'⟩ := hf j d hI
      obtain ⟨hin, hout⟩ := ih (f j d) hn hI'
      by_cases hc : i = j
      · subst hc
        exact ⟨fun _ => by rw [List.foldl_cons, hout hj]; exact hR, fun h => absurd List.mem_cons_self h⟩
      · have hmem : i ∈ j :: l ↔ i ∈ l := by simp [hc]
        rw [hmem, ← hne i hc]
        exact ⟨hin, hout⟩
  exact (hall _ d (List.nodup_finRange n) h).1 (List.mem_finRange i)

/-! ### A lost upstream -/

theorem otherUp_ne (l : Fin 5) : otherUp l ≠ l := by
  unfold otherUp
  split
  next h => rw [h]; decide
  next h => exact fun e => h e.symm

theorem trySwap_some {a : Fin 5} (h : d.tide.active = some a) :
    d.trySwap = if d.tide.role = .slave && d.swapOk a (otherUp a) then d.swap a (otherUp a) else d := by
  unfold Dev.trySwap
  rw [h]

/-- A swap of the active upstream keeps the links, the role and the waiting events. -/
theorem trySwap_fields {a : Fin 5} (h : d.tide.active = some a) : d.trySwap.tide.links = d.tide.links ∧ d.trySwap.tide.role = d.tide.role ∧
    d.trySwap.tide.events = d.tide.events ∧
    d.trySwap.tide.active = (if d.tide.role = .slave ∧ d.swapOk a (otherUp a) = true then some (otherUp a) else some a) := by
  rw [trySwap_some h]
  by_cases hc : d.tide.role = .slave ∧ d.swapOk a (otherUp a) = true
  · obtain ⟨h1, h2, h3, h4⟩ := swap_fields a (otherUp a) d
    rw [if_pos hc, if_pos (by simp [hc.1, hc.2])]
    exact ⟨h3, h2, h4, h1⟩
  · rw [if_neg hc, if_neg fun e => hc (by simpa using e)]
    exact ⟨rfl, rfl, rfl, h⟩

/-- The loss of an upstream leaves the links, and the link is active no more. -/
theorem activeLost_fields (l : Fin 5) (d : Dev) : (d.activeLost l).tide.links = d.tide.links ∧ (d.activeLost l).tide.active ≠ some l := by
  unfold Dev.activeLost
  extract_lets e
  by_cases h : d.tide.active = some l
  · rw [if_pos h]
    obtain ⟨hl, -, -, -⟩ := trySwap_fields h
    split
    · rw [masterEvent_tide, toOrphan_tide]
      exact ⟨hl, (Option.some_ne_none l).symm⟩
    next hne => exact ⟨hl, hne⟩
  · rw [if_neg h]
    exact ⟨rfl, h⟩

/-- A link that starts anew in state `st`. -/
def Link.dropped (st : LinkState) (x : Link) : Link :=
  { x with st := st, missed := 0, good := 0, last := none, delays := [], accepted := 0, outliers := 0, theta := [], dirErr := false, markAt := none,
           own := none, heard := none, taken := none }

/-- A link that goes to SYNC or OFF starts anew, and is active no more. -/
theorem linkDrop_fields {x : Link} (h : SetsLink l x d₀ d) {st : LinkState} {row : Nat} : SetsLink l (x.dropped st) d₀ (d.linkDrop l st row) ∧
    (d.linkDrop l st row).tide.active ≠ some l := by
  unfold Dev.linkDrop
  extract_lets d1
  have h1 : SetsLink l (x.dropped st) d₀ d1 := h.linkTo.modLink
  obtain ⟨hl, ha⟩ := activeLost_fields l d1
  obtain ⟨p, q, r, ht⟩ := tideFlags_tide (d1.activeLost l)
  exact ⟨(h1.side hl).tideFlags, by rw [ht]; exact ha⟩

/-! ### A loss of slot 60 -/

theorem orphanJoin_settled (h : d.tide.role ≠ .orphan) : d.orphanJoin = d := if_neg (by simp [h])

/-- A slot that goes down leaves the cascade where the device is no ORPHAN. -/
theorem slotDown_tide (h : d.tide.role ≠ .orphan) (n : Fin 64) (row : Nat) : (d.slotDown n row).tide = d.tide := by
  have hR : asideTide.Runs := ⟨fun _ _ => trivial, ⟨⟨rfl, rfl, rfl⟩, rfl⟩, rfl, rfl, rfl, rfl, rfl⟩
  unfold Dev.slotDown
  extract_lets l old d1 d2
  have h1 : Within asideTide d d1 := (Within.refl _ d).slotClear.modAct
  have h2 : Within asideTide d d2 := .ite (fun _ => h1.bump.occur) fun _ => h1
  split
  · have h3 : Within asideTide d ((((d2.stateEv 6 0 n 2 0 row 0xFF).signalLoss n).qualDown n).autopilotFor l) :=
      ((h2.stateEv.signalLoss hR).qualDown trivial).autopilotFor hR
    have hr : ((((d2.stateEv 6 0 n 2 0 row 0xFF).signalLoss n).qualDown n).autopilotFor l).tide.role ≠ .orphan := by
      rw [tide_aside h3]
      exact h
    unfold onlyIf
    split
    · rw [orphanJoin_settled hr]
      exact tide_aside h3
    · exact tide_aside h3
  · exact tide_aside h1

theorem slotLoss_tide (h : d.tide.role ≠ .orphan) (n : Fin 64) : (slotLoss n d).tide = d.tide := by
  unfold slotLoss
  split
  · exact slotDown_tide h n 2
  · exact slotDown_tide h n 4
  · rfl

end Sys2Proof.Machine
end

section
/-! The commands of the cascade (chapter 11). -/

namespace Sys2Proof.Machine

set_option Elab.async false

variable {S : Scope} {d d₀ d' : Dev} {l : Fin 5} {c : Cmd} {s : State}

/-! ### TL_CONFIG -/

/-- The parts of a command of the cascade. -/
def tlScope : Scope := partScope [.regs, .bar4, .host, .watch, .keeper, .tide]

theorem tlScope_events : tlScope.Events := ⟨⟨rfl, rfl, rfl⟩, rfl⟩

theorem tlScope_eq (h : Within tlScope d d') : d' = { d with
    regs := d'.regs, bar4 := d'.bar4, host := d'.host, watch := d'.watch, keeper := d'.keeper, tide := d'.tide } := h.eq

/-- One link takes in its LINK_EN. -/
def Dev.linkEnable (l : Fin 5) (d : Dev) : Dev :=
  if !bit d.tlCfg (15 + l.val) && (d.link l).st ≠ .off then d.linkDrop l .off 1
  else if bit d.tlCfg (15 + l.val) && (d.link l).st = .off then d.linkTo l .sync 4
  else d

theorem linkEnables_eq (d : Dev) : d.linkEnables = forFin 5 Dev.linkEnable d := rfl

/-- What the links may change of the registers as they take in LINK_EN. -/
def enableScope : Scope := ⟨[.regs, .bar4, .host, .watch, .keeper, .tide], (· ∈ [0x280020]), true, true, true, fun h => absurd h (by decide)⟩

theorem Within.linkEnable (h : Within S d₀ d) (ho : S.reg 0x280020) (ht : S.Has .tide) (hw : S.Has .watch) (hE : S.Events) :
    Within S d₀ (d.linkEnable l) := .ite (fun _ => h.linkDrop ho ht hw hE) fun _ => .ite (fun _ => h.linkTo ht hE) fun _ => h

theorem linkEnables_within (d : Dev) : Within enableScope d d.linkEnables := by
  rw [linkEnables_eq]
  exact (Within.refl _ d).forFin fun _ _ h => h.linkEnable (show (0x280020 : Nat) ∈ [0x280020] by decide) rfl rfl ⟨⟨rfl, rfl, rfl⟩, rfl⟩

theorem linkEnables_rd {a : Nat} (ha : a ≠ 0x280020) (hlt : a < 0x2C1200) (d : Dev) : d.linkEnables.rd a = d.rd a :=
  (linkEnables_within d).regs a (fun h => ha (List.mem_singleton.mp h)) (not_eventWord_of_lt hlt)

/-- The state of a link once it has taken in LINK_EN. -/
def enabledSt (en : Bool) (st : LinkState) : LinkState := if en then (if st = .off then .sync else st) else .off

theorem linkEnable_link (l : Fin 5) (d : Dev) : ∃ x, SetsLink l x d (d.linkEnable l) ∧ x.st = enabledSt (bit d.tlCfg (15 + l.val)) (d.link l).st := by
  unfold Dev.linkEnable enabledSt
  cases bit d.tlCfg (15 + l.val) with
  | false =>
    by_cases hst : (d.link l).st = .off
    · rw [if_neg (by simp [hst]), if_neg (by simp)]
      exact ⟨_, .refl l d, hst⟩
    · rw [if_pos (by simp [hst])]
      exact ⟨_, (linkDrop_fields (.refl l d)).1, rfl⟩
  | true =>
    by_cases hst : (d.link l).st = .off
    · rw [if_neg (by simp), if_pos (by simp [hst])]
      exact ⟨_, (SetsLink.refl l d).linkTo, by rw [hst]; rfl⟩
    · rw [if_neg (by simp), if_neg (by simp [hst])]
      exact ⟨_, .refl l d, (if_neg hst).symm⟩

theorem linkEnable_tlCfg (l : Fin 5) (d : Dev) : (d.linkEnable l).tlCfg = d.tlCfg := by
  have h : Within enableScope d (d.linkEnable l) :=
    (Within.refl _ d).linkEnable (show (0x280020 : Nat) ∈ [0x280020] by decide) rfl rfl ⟨⟨rfl, rfl, rfl⟩, rfl⟩
  exact h.regs _ (fun h => absurd (List.mem_singleton.mp h) (by decide)) (not_eventWord_of_lt (by decide))

/-- Each link takes in its LINK_EN. -/
theorem linkEnables_link (l : Fin 5) (d : Dev) : ((d.linkEnables).link l).st = enabledSt (bit d.tlCfg (15 + l.val)) (d.link l).st := by
  rw [linkEnables_eq]
  refine forFin_object (get := fun l d => d.link l) (I := fun e => e.tlCfg = d.tlCfg)
    (R := fun l x y => y.st = enabledSt (bit d.tlCfg (15 + l.val)) x.st) (fun j e he => ?_) rfl l
  obtain ⟨x, hx, hst⟩ := linkEnable_link j e
  refine ⟨?_, fun k hk => hx.ne hk, (linkEnable_tlCfg j e).trans he⟩
  rw [hx.same, hst, he]

/-- The words of a TL_CONFIG, but for PRIO. -/
def tlWords (c : Cmd) (new : Word) : List (Nat × Word) :=
  (0x280000, new) :: (0x280004, wordAt c.words 1) :: (List.range 5).map fun i => (linkOff i, wordAt c.words (2 + i))

/-- The words of a TL_CONFIG stored. -/
def Dev.tlSetup (c : Cmd) (d : Dev) : Dev :=
  (List.range 5).foldl (fun d i => d.wr (linkOff i) (wordAt c.words (2 + i)))
    ((d.wr 0x280000 (setFld (wordAt c.words 0) 24 8 d.tlPrio)).wr 0x280004 (wordAt c.words 1))

/-- TL_CONFIG with its parameters checked. -/
def Dev.tlConfig (c : Cmd) (d : Dev) : CmdOut × Dev :=
  if fld d.tlCfg 21 3 ≠ fld (setFld (wordAt c.words 0) 24 8 d.tlPrio) 21 3 && (List.finRange 5).any (fun l => (d.link l).st ≠ .off) then (.refused 1, d)
  else (.ok, (d.tlSetup c).linkEnables)

theorem tlConfigBody_eq (c : Cmd) : tlConfigBody c = fun d => checked c (wholes 0 7) (tlConfigBad c d) (Dev.tlConfig c) d := rfl

theorem setFld_low (w : Word) (v : Nat) : fld (setFld w 24 8 v) 21 3 = fld w 21 3 := fld_setFld_below w v (by decide) (by decide)

/-- The links that a TL_CONFIG may not change. -/
theorem tlHeld_iff : (decide (fld d.tlCfg 21 3 ≠ fld (setFld (wordAt c.words 0) 24 8 d.tlPrio) 21 3) && (List.finRange 5).any (fun l => (d.link l).st ≠ .off)) = true ↔
    (fld d.tlCfg 21 3 ≠ pf c 0 21 3 ∧ ∃ l, (d.link l).st ≠ .off) := by
  rw [setFld_low, Bool.and_eq_true, decide_eq_true_eq, List.any_eq_true]
  simp only [List.mem_finRange, true_and, decide_eq_true_eq]
  rfl

theorem tlConfig_held (c : Cmd) (d : Dev) (h : fld d.tlCfg 21 3 ≠ pf c 0 21 3 ∧ ∃ l, (d.link l).st ≠ .off) : d.tlConfig c = (.refused 1, d) :=
  if_pos (tlHeld_iff.mpr h)

theorem tlConfig_free (c : Cmd) (d : Dev) (h : ¬ (fld d.tlCfg 21 3 ≠ pf c 0 21 3 ∧ ∃ l, (d.link l).st ≠ .off)) :
    d.tlConfig c = (.ok, (d.tlSetup c).linkEnables) := if_neg fun hc => h (tlHeld_iff.mp hc)

/-- Words at distinct addresses, one after the other. -/
theorem stored_links (c : Cmd) (d : Dev) (m : Nat) :
    Stored ((List.range m).map fun i => (linkOff i, wordAt c.words (2 + i))) d
      ((List.range m).foldl (fun d i => d.wr (linkOff i) (wordAt c.words (2 + i))) d) := by
  induction m with
  | zero => exact ⟨fun _ h => absurd h List.not_mem_nil, fun _ _ => rfl⟩
  | succ m ih =>
    rw [List.range_succ, List.map_append, List.foldl_append]
    refine ih.append (stored_wr (linkOff m) (wordAt c.words (2 + m)) _) fun e he f hf => ?_
    obtain rfl := List.mem_singleton.mp hf
    obtain ⟨i, hi, rfl⟩ := List.mem_map.mp he
    have hi := List.mem_range.mp hi
    simp only [linkOff]
    omega

theorem tlSetup_stored (c : Cmd) (d : Dev) : Stored (tlWords c (setFld (wordAt c.words 0) 24 8 d.tlPrio)) d (d.tlSetup c) := by
  have h2 : Stored [(0x280000, setFld (wordAt c.words 0) 24 8 d.tlPrio), (0x280004, wordAt c.words 1)] d
      ((d.wr 0x280000 (setFld (wordAt c.words 0) 24 8 d.tlPrio)).wr 0x280004 (wordAt c.words 1)) :=
    (stored_wr 0x280000 _ d).append (stored_wr 0x280004 _ _) fun e he f hf => by
      rw [List.mem_singleton.mp he, List.mem_singleton.mp hf]
      exact (by decide : (0x280000 : Nat) ≠ 0x280004)
  refine h2.append (stored_links c _ 5) fun e he f hf => ?_
  have hf : f ∈ (List.range 5).map fun i => (linkOff i, wordAt c.words (2 + i)) := hf
  obtain ⟨i, hi, rfl⟩ := List.mem_map.mp hf
  have he : e.1 = 0x280000 ∨ e.1 = 0x280004 := by
    rcases List.mem_cons.mp he with rfl | he
    · exact .inl rfl
    · rw [List.mem_singleton.mp he]
      exact .inr rfl
  simp only [linkOff]
  omega

theorem tlSetup_tide (c : Cmd) (d : Dev) : (d.tlSetup c).tide = d.tide := by
  have h : Within asideTide d ((d.wr 0x280000 (setFld (wordAt c.words 0) 24 8 d.tlPrio)).wr 0x280004 (wordAt c.words 1)) := (Within.refl _ d).wr.wr
  exact tide_aside (h.foldl (fun _ _ h => h.wr) _)

theorem tlSetup_within (c : Cmd) (d : Dev) : Within tlScope d (d.tlSetup c).linkEnables := by
  have h : Within tlScope d ((d.wr 0x280000 (setFld (wordAt c.words 0) 24 8 d.tlPrio)).wr 0x280004 (wordAt c.words 1)) := (Within.refl _ d).wr.wr
  have h2 : Within tlScope d (d.tlSetup c) := h.foldl (fun _ _ h => h.wr trivial rfl) _
  rw [linkEnables_eq]
  exact h2.forFin fun _ _ h => h.linkEnable trivial rfl rfl tlScope_events

/-- What TL_CONFIG leaves. -/
theorem tlSetup_fields (c : Cmd) (d : Dev) :
    Stands (tlWords c (setFld (wordAt c.words 0) 24 8 d.tlPrio)) (d.tlSetup c).linkEnables ∧
    (∀ l : Fin 5, ((d.tlSetup c).linkEnables.link l).st = if bit (setFld (wordAt c.words 0) 24 8 d.tlPrio) (15 + l.val) then
      (if (d.link l).st = .off then .sync else (d.link l).st) else .off) := by
  have hst := tlSetup_stored c d
  have hcfg : (d.tlSetup c).tlCfg = setFld (wordAt c.words 0) 24 8 d.tlPrio := hst.1 (0x280000, _) List.mem_cons_self
  refine ⟨fun e he => ?_, fun l => ?_⟩
  · have hlt : e.1 ≠ 0x280020 ∧ e.1 < 0x2C1200 := by
      rcases List.mem_cons.mp he with rfl | he
      · exact (⟨by decide, by decide⟩ : (0x280000 : Nat) ≠ 0x280020 ∧ (0x280000 : Nat) < 0x2C1200)
      rcases List.mem_cons.mp he with rfl | he
      · exact (⟨by decide, by decide⟩ : (0x280004 : Nat) ≠ 0x280020 ∧ (0x280004 : Nat) < 0x2C1200)
      · obtain ⟨i, hi, rfl⟩ := List.mem_map.mp he
        have hi := List.mem_range.mp hi
        simp only [linkOff]
        omega
    exact (linkEnables_rd hlt.1 hlt.2 _).trans (hst.1 e he)
  · rw [linkEnables_link, hcfg, link_of_tide (tlSetup_tide c d)]
    rfl

/-! ### TL_ELECT -/

/-- The last frame of link `l` is of the master that this device knows. -/
def Dev.sameMaster (l : Fin 5) (d : Dev) : Bool :=
  match (d.link l).last with
  | some f => f.mId = d.tide.mId
  | none => false

theorem sameMaster_iff : d.sameMaster l = true ↔ ∃ f, (d.link l).last = some f ∧ f.mId = d.tide.mId := by
  unfold Dev.sameMaster
  cases (d.link l).last with
  | none => exact ⟨fun h => absurd h Bool.false_ne_true, fun ⟨_, h, _⟩ => absurd h (by simp)⟩
  | some f => simp

/-- TL_ELECT that names an upstream. -/
def Dev.tlElectUp (l : Fin 5) (d : Dev) : CmdOut × Dev :=
  if !d.eligible l || !d.sameMaster l then (.refused 2, d)
  else match d.tide.active with
    | some a =>
      if a = l then (.ok 0, d)
      else if d.swapOk a l then (.ok 1, d.swap a l)
      else (.ok 0, (slotLoss 60 (d.modTide fun t => { t with events := [] })).activate l)
    | none => (.ok 0, slotLoss 60 ((d.activate l).roleTo .slave 5))

/-- TL_ELECT that sets the priority. -/
def Dev.tlElectPrio (v : Nat) (d : Dev) : CmdOut × Dev :=
  if d.tide.strapped then (.refused 1, d) else (.ok (d.setPrio v).tide.role.code, d.setPrio v)

theorem tlElectBody_eq (c : Cmd) : tlElectBody c = checked c (tlElectUsed c) (tlElectBad c) fun d =>
    if pf c 0 0 2 = 0 then d.tlElectPrio (pf c 0 8 8) else d.tlElectUp (Fin.ofNat 5 (pf c 0 16 3)) := rfl

/-- What an upstream named by TL_ELECT leaves. -/
theorem tlElectUp_fields (l : Fin 5) (d : Dev) :
    (¬ (d.eligible l = true ∧ d.sameMaster l = true) → d.tlElectUp l = (.refused 2, d)) ∧
    (d.eligible l = true → d.sameMaster l = true → d.tide.active = some l → d.tlElectUp l = (.ok 0, d)) ∧
    (∀ a, d.eligible l = true → d.sameMaster l = true → d.tide.active = some a → a ≠ l →
      (d.tlElectUp l).1 = .ok (if d.swapOk a l then 1 else 0) ∧ (d.tlElectUp l).2.tide.active = some l) ∧
    (d.eligible l = true → d.sameMaster l = true → d.tide.active = none →
      (d.tlElectUp l).1 = .ok 0 ∧ (d.tlElectUp l).2.tide.active = some l ∧ (d.tlElectUp l).2.tide.role = .slave) := by
  refine ⟨fun h => if_pos ?_, fun he hm ha => ?_, fun a he hm ha hne => ?_, fun he hm ha => ?_⟩
  · rw [← Bool.not_and, Bool.not_eq_true', ← Bool.not_eq_true, Bool.and_eq_true]
    exact h
  · unfold Dev.tlElectUp
    rw [if_neg (by simp [he, hm]), ha]
    exact if_pos rfl
  · unfold Dev.tlElectUp
    rw [if_neg (by simp [he, hm]), ha]
    simp only [if_neg hne]
    by_cases hs : d.swapOk a l = true
    · rw [if_pos hs, if_pos hs]
      exact ⟨rfl, (swap_fields a l d).1⟩
    · rw [if_neg hs, if_neg hs]
      exact ⟨rfl, (activate_fields l _).1⟩
  · unfold Dev.tlElectUp
    rw [if_neg (by simp [he, hm]), ha]
    have ht : (slotLoss 60 ((d.activate l).roleTo .slave 5)).tide = (d.activate l).tide.as .slave := by
      rw [slotLoss_tide (by rw [roleTo_tide]; exact (nofun : Role.slave ≠ .orphan)), roleTo_tide]
    refine ⟨rfl, ?_, ?_⟩
    · rw [ht]
      exact (activate_fields l d).1
    · rw [ht]
      rfl

/-- The master's priority. -/
def Tide.prio (v : Nat) (t : Tide) : Tide := { t with mPrio := b8 v }

theorem setPrio_eq (v : Nat) (h : d.tide.strapped = false) : d.setPrio v =
    if d.tide.role = .master then
      if v = 255 then (d.wrF 0x280000 24 8 v).toOrphan 8 else (d.wrF 0x280000 24 8 v).modTide (Tide.prio v)
    else d.wrF 0x280000 24 8 v := by
  have ht : (d.wrF 0x280000 24 8 v).tide = d.tide := tide_aside (Within.refl _ d).wrF
  unfold Dev.setPrio
  extract_lets e
  have ht : e.tide = d.tide := ht
  rw [ht, h]
  simp only [Bool.not_false, Bool.and_true, decide_eq_true_eq]
  rfl

/-- What a new priority may change besides its field. -/
def prioScope : Scope := ⟨[.regs, .bar4, .host, .watch, .keeper, .tide], fun _ => False, true, true, true, fun h => absurd h (by decide)⟩

theorem setPrio_within (v : Nat) (h : d.tide.strapped = false) : Within prioScope (d.wrF 0x280000 24 8 v) (d.setPrio v) := by
  have h0 : Within prioScope (d.wrF 0x280000 24 8 v) (d.wrF 0x280000 24 8 v) := .refl _ _
  have hE : prioScope.Events := ⟨⟨rfl, rfl, rfl⟩, rfl⟩
  rw [setPrio_eq v h]
  exact .ite (fun _ => .ite (fun _ => h0.toOrphan rfl hE) fun _ => h0.modTide rfl) fun _ => h0

/-- What a new priority leaves. -/
theorem setPrio_fields (v : Nat) (h : d.tide.strapped = false) :
    Stands [(0x280000, setFld d.tlCfg 24 8 v)] (d.setPrio v) ∧ KeepsRegs [0x280000] d (d.setPrio v) ∧
    (d.tide.role ≠ .master → d.setPrio v = d.wrF 0x280000 24 8 v) ∧
    (d.tide.role = .master → v = 255 → (d.setPrio v).tide.role = .orphan) ∧
    (d.tide.role = .master → v ≠ 255 → (d.setPrio v).tide = d.tide.prio v) := by
  have hw := setPrio_within v h
  have hst : Stored [(0x280000, setFld d.tlCfg 24 8 v)] d (d.wrF 0x280000 24 8 v) := stored_wr ..
  have ht : (d.wrF 0x280000 24 8 v).tide = d.tide := tide_aside (Within.refl _ d).wrF
  refine ⟨fun e he => ?_, fun a ha hE => (hw.regs a id hE).trans (hst.2 a fun e he => ?_), fun hr => ?_, fun hr hv => ?_, fun hr hv => ?_⟩
  · refine (hw.regs e.1 id ?_).trans (hst.1 e he)
    rw [List.mem_singleton.mp he]
    exact not_eventWord_of_lt (show (0x280000 : Nat) < 0x2C1200 by decide)
  · rw [List.mem_singleton.mp he]
    exact fun hc => ha (List.mem_singleton.mpr (show a = 0x280000 from hc))
  · rw [setPrio_eq v h, if_neg hr]
  · rw [setPrio_eq v h, if_pos hr, if_pos hv, toOrphan_tide]
    rfl
  · rw [setPrio_eq v h, if_pos hr, if_neg hv]
    exact congrArg (Tide.prio v) ht

/-! ### The commands -/

theorem begun_link (c : Cmd) (op : Nat) (l : Fin 5) (d : Dev) : (d.begun c op).link l = d.link l := link_of_tide (begun_within c op d).tide l

theorem begun_tlCfg (c : Cmd) (op : Nat) (d : Dev) : (d.begun c op).tlCfg = d.tlCfg := begun_rd ..

theorem begun_tlPrio (c : Cmd) (op : Nat) (d : Dev) : (d.begun c op).tlPrio = d.tlPrio := congrArg (fld · 24 8) (begun_tlCfg c op d)

theorem begun_eligible (c : Cmd) (op : Nat) (l : Fin 5) (d : Dev) : (d.begun c op).eligible l = d.eligible l := by
  rw [begun_eq]
  rfl

theorem begun_sameMaster (c : Cmd) (op : Nat) (l : Fin 5) (d : Dev) : (d.begun c op).sameMaster l = d.sameMaster l := by
  rw [begun_eq]
  rfl

theorem begun_swapOk (c : Cmd) (op : Nat) (a l : Fin 5) (d : Dev) : (d.begun c op).swapOk a l = d.swapOk a l := by
  rw [begun_eq]
  rfl

/-- Settles O59: each command of the cascade is checked, and then has the effect of its row. -/
theorem cascadeCommands : Obligations.CascadeCommands := by
  intro c s
  refine ⟨?config, ?elect⟩
  case config =>
    refine serves_body (Dev.tlConfig c) rfl (by rw [tlConfigBody_eq]) fun _ => ?_
    have hheld := tlConfig_held c (s.dev.begun c 0x60)
    have hfree := tlConfig_free c (s.dev.begun c 0x60)
    simp only [begun_link, begun_tlCfg] at hheld hfree
    have hf := tlSetup_fields c (s.dev.begun c 0x60)
    simp only [begun_link, begun_tlPrio] at hf
    refine ⟨fun h => ?_, fun h => ?_⟩
    · rw [hheld h]
      exact ⟨rfl, rfl⟩
    · rw [hfree h]
      exact ⟨rfl, hf.1, hf.2, tlScope_eq (tlSetup_within c _)⟩
  case elect =>
    have htide : (s.dev.begun c 0x61).tide = s.dev.tide := (begun_within c 0x61 s.dev).tide
    refine serves_checked (fun d => if pf c 0 0 2 = 0 then d.tlElectPrio (pf c 0 8 8) else d.tlElectUp (Fin.ofNat 5 (pf c 0 16 3)))
      (by rw [← tlElectBody_eq c]; rfl) fun _ => ?_
    intro l same
    have hsame : s.dev.sameMaster l = true ↔ same := sameMaster_iff
    obtain ⟨hno, hat, hmove, hfirst⟩ := tlElectUp_fields l (s.dev.begun c 0x61)
    simp only [begun_eligible, begun_sameMaster, begun_swapOk, htide, hsame] at hno hat hmove hfirst
    have hup (h : pf c 0 0 2 = 1) : (if pf c 0 0 2 = 0 then (s.dev.begun c 0x61).tlElectPrio (pf c 0 8 8) else (s.dev.begun c 0x61).tlElectUp l)
        = (s.dev.begun c 0x61).tlElectUp l := if_neg (by omega)
    refine ⟨fun h0 hs => ?_, fun h0 hs => ?_, fun h1 h => ?_, fun h1 he hm ha => ?_, fun a h1 he hm ha hne => ?_, fun h1 he hm ha => ?_⟩
    · rw [if_pos h0, show (s.dev.begun c 0x61).tlElectPrio (pf c 0 8 8) = (.refused 1, s.dev.begun c 0x61) from if_pos (by rw [htide]; exact hs)]
      exact ⟨rfl, rfl⟩
    · rw [if_pos h0, show (s.dev.begun c 0x61).tlElectPrio (pf c 0 8 8) = _ from if_neg (by rw [htide, hs]; exact Bool.false_ne_true)]
      have hf := setPrio_fields (pf c 0 8 8) (htide.symm ▸ hs)
      rw [begun_tlCfg, keepsRegs_begun, htide] at hf
      exact ⟨rfl, hf⟩
    · rw [hup h1, hno h]
      exact ⟨rfl, rfl⟩
    · rw [hup h1, hat he hm ha]
      exact ⟨rfl, rfl⟩
    · rw [hup h1]
      exact hmove a he hm ha hne
    · rw [hup h1]
      exact hfirst he hm ha

end Sys2Proof.Machine
end

section
/-! The links of the cascade: calibration, ranging and the ways back to SYNC (chapter 11). -/

namespace Sys2Proof.Machine

set_option Elab.async false

variable {S : Scope} {d d₀ d' : Dev} {l : Fin 5} {s : State} {x : Link} {ds : List Int} {df : Int}

/-! ### Registers of a link -/

theorem linkOff_le (l : Fin 5) : 0x280100 ≤ linkOff l ∧ linkOff l ≤ 0x280300 := by
  simp only [linkOff]
  omega

theorem link_not_cfgWord (l : Fin 5) {k : Nat} (hk : k < 0x80) : ¬ CfgWord (linkOff l + k) :=
  not_cfgWord_of_lt (by have := linkOff_le l; omega)

theorem link_not_eventWord (l : Fin 5) {k : Nat} (hk : k < 0x80) : ¬ EventWord (linkOff l + k) :=
  not_eventWord_of_lt (by have := linkOff_le l; omega)

/-! ### State changes -/

theorem SetsLink.trans {y : Link} (h : SetsLink l x d₀ d) (h' : SetsLink l y d d') : SetsLink l y d₀ d' := by
  rw [SetsLink, h', h, Vector.set_set]

theorem linkState_code_inj {a b : LinkState} (h : a.code = b.code) : a = b := by
  cases a <;> cases b <;> first | rfl | exact absurd h (by decide)

theorem linkTo_seq {st : LinkState} (h : (d.link l).st ≠ st) (row : Nat) : ((d.linkTo l st row).ring 8).seq = (d.ring 8).seq + 1 := by
  unfold Dev.linkTo
  extract_lets old
  exact (stateEv_seq (fun he => h (linkState_code_inj he)) ..).trans rfl

/-- The link as ranging begins. -/
def Link.fresh (x : Link) : Link := { x with accepted := 0, delays := [], outliers := 0 }

theorem linkCalDone_eq (h : (d.link l).st = .cal) : linkCalDone l d = (d.modLink l Link.fresh).linkTo l .ranging 6 := if_pos h

/-- Row 6: ranging begins. -/
theorem ranging_begins (h : (d.link l).st = .cal) : SetsLink l ((d.link l).fresh.to .ranging) d ((d.modLink l Link.fresh).linkTo l .ranging 6) ∧
    ((d.modLink l Link.fresh).linkTo l .ranging 6).tide = d.tide.linked l ((d.link l).fresh.to .ranging) ∧
    (((d.modLink l Link.fresh).linkTo l .ranging 6).ring 8).seq = (d.ring 8).seq + 1 ∧
    Within roleScope d ((d.modLink l Link.fresh).linkTo l .ranging 6) := by
  have hw : Within roleScope d (d.modLink l Link.fresh) := (Within.refl _ d).modLink rfl
  have hst : ((d.modLink l Link.fresh).link l).st ≠ .ranging := by
    rw [modLink_link_same, show ((d.link l).fresh).st = (d.link l).st from rfl, h]
    decide
  refine ⟨((SetsLink.refl l d).modLink).linkTo, ?_, linkTo_seq hst 6, hw.linkTo rfl roleScope_events⟩
  rw [linkTo_tide, modLink_link_same, modLink_linked, linked_linked]

/-! ### Ranging -/

/-- The link that has taken exchange `n`. -/
def Link.take (n : BitVec 16) (x : Link) : Link := { x with taken := some n }

/-- The one-way delay that an exchange gives (R287). -/
def Dev.oneWay (l : Fin 5) (outer inner : Int) (d : Dev) : Int :=
  truncDiv (outer - inner + (if d.upLink l then sfld (d.rd (linkOff l)) 0 32 else 0)) 2

/-- An accepted exchange of mean `df`. -/
def Link.measured (ds : List Int) (df : Int) (x : Link) : Link :=
  { x with delays := ds, df := df, accepted := x.accepted + 1, outliers := 0, tooFar := decide (124518400 < df) }

/-- An outlier. -/
def Link.missedBy (x : Link) : Link := { x with outliers := x.outliers + 1 }

/-- The sixteenth outlier starts the mean anew. -/
def Link.restarted (x : Link) : Link := { x with outliers := 0, delays := [] }

/-- An accepted exchange with its mean published. -/
def Dev.measured (l : Fin 5) (ds : List Int) (df : Int) (d : Dev) : Dev := (d.modLink l (Link.measured ds df)).pub40 (linkOff l + 0x18) (sat40 df)

/-- An outlier counted. -/
def Dev.outlier (l : Fin 5) (d : Dev) : Dev := (d.bump (linkOff l + 0x38) 16 16).modLink l Link.missedBy

theorem rangingTake_none {n : BitVec 16} (h : ∀ e, (d.link l).exchange (d.upLink l) = some e → e.1 ≠ n) : rangingTake l n d = d := by
  unfold rangingTake
  extract_lets x
  split
  next m outer inner he => exact if_neg (by simp [h _ he])
  next => rfl

theorem rangingTake_some {n : BitVec 16} {outer inner : Int} (hst : (d.link l).st = .ranging ∨ (d.link l).st = .up)
    (h : (d.link l).exchange (d.upLink l) = some (n, outer, inner)) :
    rangingTake l n d = (d.modLink l (Link.take n)).rangingWith l outer inner := by
  unfold rangingTake
  extract_lets x
  rw [show x.exchange (d.upLink l) = some (n, outer, inner) from h]
  exact if_pos (by simpa [x] using hst)

theorem measured_rngN (l : Fin 5) (ds : List Int) (df : Int) (d : Dev) : (d.measured l ds df).rngN = d.rngN := by
  have h := linkOff_le l
  have hr : (d.measured l ds df).rd 0x280004 = d.rd 0x280004 := rd_pub40_ne _ _ (by omega) (by omega)
  unfold Dev.rngN Dev.rdF
  rw [hr]

theorem SetsLink.measured (h : SetsLink l x d₀ d) : SetsLink l (x.measured ds df) d₀ (d.measured l ds df) :=
  (h.modLink (f := Link.measured ds df)).within (Within.refl _ _).pub40

/-- An exchange near the mean is accepted, and may bring the link up. -/
theorem rangingWith_near {outer inner : Int} (h : (d.link l).delays = [] ∨ (d.oneWay l outer inner - (d.link l).df).natAbs ≤ 65536)
    (hds : ds = (d.oneWay l outer inner :: (d.link l).delays).take d.rngN) (hdf : df = roundDiv ds.sum ds.length) :
    d.rangingWith l outer inner = if (d.link l).st = .ranging ∧ d.rngN ≤ (d.link l).accepted + 1 ∧ df ≤ 124518400
      then (((d.measured l ds df).linkTo l .up 7).tideFlags).orphanJoin else d.measured l ds df := by
  have hc : ¬ ((!(d.link l).delays.isEmpty && decide (65536 < (d.oneWay l outer inner - (d.link l).df).natAbs)) = true) := by
    rcases h with h | h
    · simp [h]
    · simp [Nat.not_lt.mpr h]
  have hm : (d.measured l ds df).link l = (d.link l).measured ds df := ((SetsLink.refl l d).measured).same
  have hrw : d.rangingWith l outer inner = if (d.link l).st = .ranging && (d.measured l ds df).rngN ≤ ((d.measured l ds df).link l).accepted &&
      !((d.measured l ds df).link l).tooFar then (((d.measured l ds df).linkTo l .up 7).tideFlags).orphanJoin else d.measured l ds df := by
    rw [hdf, hds]
    exact if_neg hc
  rw [hrw, measured_rngN, hm]
  refine if_congr ?_ rfl rfl
  show (decide ((d.link l).st = .ranging) && decide (d.rngN ≤ (d.link l).accepted + 1) && !decide (124518400 < df)) = true ↔ _
  simp only [Bool.and_eq_true, decide_eq_true_eq, Bool.not_eq_true', decide_eq_false_iff_not, not_lt, and_assoc]

theorem rangingWith_far {outer inner : Int} (h0 : (d.link l).delays ≠ []) (hf : 65536 < (d.oneWay l outer inner - (d.link l).df).natAbs) :
    d.rangingWith l outer inner = if (d.link l).outliers = 15 then ((d.outlier l).modLink l Link.restarted).event 0x0D l 13 [b8 l] else d.outlier l := by
  have hc : (!(d.link l).delays.isEmpty && decide (65536 < (d.oneWay l outer inner - (d.link l).df).natAbs)) = true := by simp [h0, hf]
  have hrw : d.rangingWith l outer inner =
      if (d.link l).outliers + 1 = 16 then ((d.outlier l).modLink l Link.restarted).event 0x0D l 13 [b8 l] else d.outlier l := if_pos hc
  rw [hrw]
  exact if_congr (by omega) rfl rfl

/-- A link that comes up may make the device a slave, which changes no link. -/
theorem orphanJoin_links (d : Dev) : d.orphanJoin.tide.links = d.tide.links := by
  unfold Dev.orphanJoin
  split
  · split
    next k h =>
      rw [roleTo_tide]
      exact (activate_fields k d).2.2.1
    · rfl
  · rfl

/-- A link goes UP. -/
theorem goesUp_fields (h : SetsLink l x d₀ d) : SetsLink l (x.to .up) d₀ (((d.linkTo l .up 7).tideFlags).orphanJoin) ∧
    Within labelErrScope d (((d.linkTo l .up 7).tideFlags).orphanJoin) ∧
    (d.tide.role ≠ .orphan → (((d.linkTo l .up 7).tideFlags).orphanJoin).tide.role = d.tide.role ∧
      (((d.linkTo l .up 7).tideFlags).orphanJoin).tide.active = d.tide.active) := by
  have hE : labelErrScope.Events := ⟨⟨rfl, rfl, rfl⟩, rfl⟩
  refine ⟨h.linkTo.tideFlags.side (orphanJoin_links _), ((((Within.refl labelErrScope d).linkTo rfl hE).tideFlags rfl rfl).orphanJoin rfl hE rfl), fun hr => ?_⟩
  obtain ⟨a, b, c, ht⟩ := tideFlags_tide (d.linkTo l .up 7)
  have hrole : (d.linkTo l .up 7).tideFlags.tide.role = d.tide.role := by
    rw [ht, linkTo_tide]
    rfl
  rw [orphanJoin_settled (by rw [hrole]; exact hr), ht, linkTo_tide]
  exact ⟨rfl, rfl⟩

/-- What an accepted exchange may change. -/
def nearScope (l : Fin 5) : Scope := eventScope [.regs, .bar4, .host, .watch, .keeper, .tide] [linkOff l + 0x18, linkOff l + 0x1C] fun a h => by
  rcases List.mem_cons.mp h with rfl | h
  · exact link_not_cfgWord l (by decide)
  · obtain rfl := List.mem_singleton.mp h
    exact link_not_cfgWord l (by decide)

theorem nearScope_events (l : Fin 5) : (nearScope l).Events := ⟨⟨rfl, rfl, rfl⟩, rfl⟩

theorem nearScope_eq (h : Within (nearScope l) d d') : d' = { d with
    regs := d'.regs, bar4 := d'.bar4, host := d'.host, watch := d'.watch, keeper := d'.keeper, tide := d'.tide } := h.eq

theorem Within.measured (h : Within (nearScope l) d₀ d) : Within (nearScope l) d₀ (d.measured l ds df) :=
  (h.modLink rfl).pub40 List.mem_cons_self (List.mem_cons_of_mem _ (List.mem_singleton.mpr rfl)) rfl

/-- The link after an accepted exchange. -/
def Link.accepting (n : Nat) (ds : List Int) (df : Int) (x : Link) : Link :=
  (x.measured ds df).to (if n ≤ x.accepted + 1 ∧ df ≤ 124518400 then .up else x.st)

/-- An accepted exchange. -/
theorem near_fields {outer inner : Int} (hst : (d.link l).st = .ranging ∨ (d.link l).st = .up)
    (h : (d.link l).delays = [] ∨ (d.oneWay l outer inner - (d.link l).df).natAbs ≤ 65536)
    (hds : ds = (d.oneWay l outer inner :: (d.link l).delays).take d.rngN) (hdf : df = roundDiv ds.sum ds.length) :
    SetsLink l ((d.link l).accepting d.rngN ds df) d (d.rangingWith l outer inner) ∧
    (d.rangingWith l outer inner).rd40 (linkOff l + 0x18) = sat40 df ∧ Within (nearScope l) d (d.rangingWith l outer inner) ∧
    (d.tide.role ≠ .orphan → (d.rangingWith l outer inner).tide.role = d.tide.role ∧ (d.rangingWith l outer inner).tide.active = d.tide.active) := by
  rw [rangingWith_near h hds hdf]
  have hs : SetsLink l ((d.link l).measured ds df) d (d.measured l ds df) := (SetsLink.refl l d).measured
  have hw : Within (nearScope l) d (d.measured l ds df) := (Within.refl _ d).measured
  have hv : (d.measured l ds df).rd40 (linkOff l + 0x18) = sat40 df := rd40_pub40 ..
  have ht : (d.measured l ds df).tide = d.tide.linked l ((d.link l).measured ds df) := tide_aside (Within.refl _ (d.modLink l (Link.measured ds df))).pub40
  have hlow := linkOff_le l
  by_cases hc : (d.link l).st = .ranging ∧ d.rngN ≤ (d.link l).accepted + 1 ∧ df ≤ 124518400
  · rw [if_pos hc]
    obtain ⟨hu, hwu, hru⟩ := goesUp_fields hs
    refine ⟨?_, (rd40_of_rd (hwu.regs _ List.not_mem_nil (link_not_eventWord l (by decide)))
      (hwu.regs _ List.not_mem_nil (link_not_eventWord l (k := 0x1C) (by decide)))).trans hv,
      ((hw.linkTo rfl (nearScope_events l)).tideFlags rfl rfl).orphanJoin rfl (nearScope_events l) rfl, fun hr => ?_⟩
    · unfold Link.accepting
      rw [if_pos hc.2]
      exact hu
    · rw [ht] at hru
      exact hru hr
  · rw [if_neg hc]
    refine ⟨?_, hv, hw, fun _ => ?_⟩
    · unfold Link.accepting
      have he : (if d.rngN ≤ (d.link l).accepted + 1 ∧ df ≤ 124518400 then LinkState.up else (d.link l).st) = (d.link l).st := by
        rcases hst with hst | hst
        · exact if_neg fun h => hc ⟨hst, h⟩
        · rw [hst, ite_self]
      rw [he]
      exact hs
    · rw [ht]
      exact ⟨rfl, rfl⟩

/-- What an outlier may change. -/
def farScope (l : Fin 5) : Scope := eventScope [.regs, .bar4, .host, .keeper, .tide] [linkOff l + 0x38] fun a h => by
  obtain rfl := List.mem_singleton.mp h
  exact link_not_cfgWord l (by decide)

theorem farScope_events (l : Fin 5) : (farScope l).Events := ⟨⟨rfl, rfl, rfl⟩, rfl⟩

theorem farScope_eq (h : Within (farScope l) d d') : d' = { d with
    regs := d'.regs, bar4 := d'.bar4, host := d'.host, keeper := d'.keeper, tide := d'.tide } := h.eq

/-- The link after an outlier. -/
def Link.outlying (x : Link) : Link := if x.outliers = 15 then x.missedBy.restarted else x.missedBy

theorem outlying_fields (x : Link) : x.outlying.st = x.st ∧ x.outlying.df = x.df ∧ x.outlying.taken = x.taken ∧
    (x.outliers ≠ 15 → x.outlying.outliers = x.outliers + 1 ∧ x.outlying.delays = x.delays) ∧
    (x.outliers = 15 → x.outlying.outliers = 0 ∧ x.outlying.delays = []) := by
  unfold Link.outlying
  split
  next h => exact ⟨rfl, rfl, rfl, fun hn => absurd h hn, fun _ => ⟨rfl, rfl⟩⟩
  next h => exact ⟨rfl, rfl, rfl, fun _ => ⟨rfl, rfl⟩, fun he => absurd he h⟩

/-- An outlier. -/
theorem far_fields {outer inner : Int} (h0 : (d.link l).delays ≠ []) (hf : 65536 < (d.oneWay l outer inner - (d.link l).df).natAbs) :
    SetsLink l (d.link l).outlying d (d.rangingWith l outer inner) ∧ Counts (linkOff l + 0x38) 16 16 d (d.rangingWith l outer inner) ∧
    Within (farScope l) d (d.rangingWith l outer inner) ∧
    ((d.link l).outliers = 15 → ((d.rangingWith l outer inner).ring 8).seq = (d.ring 8).seq + 1) := by
  rw [rangingWith_far h0 hf]
  have hs : SetsLink l (d.link l).missedBy d (d.outlier l) :=
    ((SetsLink.refl l d).within (d' := d.bump (linkOff l + 0x38) 16 16) (Within.refl _ d).bump).modLink
  have hb : Within (farScope l) d (d.bump (linkOff l + 0x38) 16 16) := (Within.refl _ d).bump List.mem_cons_self rfl
  have hw : Within (farScope l) d (d.outlier l) := hb.modLink rfl
  have hc : Counts (linkOff l + 0x38) 16 16 d (d.outlier l) := bump_counts _ d (by decide)
  by_cases h15 : (d.link l).outliers = 15
  · have h0 : Within roleScope (d.outlier l) ((d.outlier l).modLink l Link.restarted) := (Within.refl _ _).modLink rfl
    have hev : Within roleScope (d.outlier l) (((d.outlier l).modLink l Link.restarted).event 0x0D l 13 [b8 l]) := h0.event roleScope_events
    unfold Link.outlying
    rw [if_pos h15, if_pos h15]
    exact ⟨(hs.modLink).within (Within.refl _ _).event, hc.after (hev.regs _ List.not_mem_nil (link_not_eventWord l (by decide))),
      (hw.modLink rfl).event (farScope_events l), fun _ => event_seq ..⟩
  · unfold Link.outlying
    rw [if_neg h15, if_neg h15]
    exact ⟨hs, hc, hw, fun h => absurd h h15⟩

/-! ### Back to SYNC -/

/-- What a link that starts anew may change. -/
def dropScope (l : Fin 5) : Scope := looseScope [.regs, .bar4, .host, .watch, .keeper, .tide] [linkOff l + 0x34, 0x280020]

theorem dropScope_events (l : Fin 5) : (dropScope l).Events := ⟨⟨rfl, rfl, rfl⟩, rfl⟩

theorem dropScope_eq (h : Within (dropScope l) d d') : d' = { d with
    regs := d'.regs, bar4 := d'.bar4, host := d'.host, watch := d'.watch, keeper := d'.keeper, tide := d'.tide } := h.eq

theorem dropScope_out (l : Fin 5) : (dropScope l).reg 0x280020 := List.mem_cons_of_mem _ (List.mem_singleton.mpr rfl)
theorem dropScope_count (l : Fin 5) : (dropScope l).reg (linkOff l + 0x34) := List.mem_cons_self

theorem linkDrop_rd {st : LinkState} {row a : Nat} (ha : a ≠ 0x280020) (hlt : a < 0x2C1200) (d : Dev) : (d.linkDrop l st row).rd a = d.rd a := by
  have h : Within enableScope d (d.linkDrop l st row) :=
    (Within.refl _ d).linkDrop (show (0x280020 : Nat) ∈ [0x280020] by decide) rfl rfl ⟨⟨rfl, rfl, rfl⟩, rfl⟩
  exact h.regs a (fun h => ha (List.mem_singleton.mp h)) (not_eventWord_of_lt hlt)

/-- A link that starts anew after one of its counters has counted. -/
theorem Counts.linkDrop {st : LinkState} {row lo : Nat} (h : Counts (linkOff l + 0x34) lo 16 d₀ d) : Counts (linkOff l + 0x34) lo 16 d₀ (d.linkDrop l st row) :=
  have hl := linkOff_le l
  h.after (linkDrop_rd (by omega) (by omega) d)

theorem trainTimeout_eq (h : (d.link l).st = .sync ∨ (d.link l).st = .cal ∨ (d.link l).st = .ranging) :
    trainTimeout l d = (d.bump (linkOff l + 0x34) 0 16).linkDrop l .sync 3 := by
  unfold trainTimeout
  rcases h with h | h | h <;> rw [h]

/-- Row 2: the loss of a link that was CAL, RANGING or UP. -/
theorem linkLoss_fields (h : (d.link l).st = .cal ∨ (d.link l).st = .ranging ∨ (d.link l).st = .up) :
    SetsLink l ((d.link l).dropped .sync) d (d.linkLoss l) ∧ (d.linkLoss l).tide.active ≠ some l ∧
    ((d.link l).st = .up → Counts (linkOff l + 0x34) 16 16 d (d.linkLoss l)) := by
  unfold Dev.linkLoss
  rcases h with h | h | h <;> rw [h]
  · obtain ⟨hs, ha⟩ := linkDrop_fields (SetsLink.refl l d) (st := .sync) (row := 2)
    exact ⟨hs, ha, nofun⟩
  · obtain ⟨hs, ha⟩ := linkDrop_fields (SetsLink.refl l d) (st := .sync) (row := 2)
    exact ⟨hs, ha, nofun⟩
  · have hb : Within asideTide d ((d.bump (linkOff l + 0x34) 16 16).occur (tlSource l) l) := (Within.refl _ d).bump.occur
    obtain ⟨hs, ha⟩ := linkDrop_fields ((SetsLink.refl l d).within hb) (st := .sync) (row := 2)
    have hc : Counts (linkOff l + 0x34) 16 16 d ((d.bump (linkOff l + 0x34) 16 16).occur (tlSource l) l) := bump_counts _ d (by decide)
    exact ⟨hs, ha, fun _ => hc.linkDrop⟩

/-- Settles O44: each change of a link is that of its row. -/
theorem tideLinksAndRanging : Obligations.TideLinksAndRanging := by
  intro l s
  refine ⟨fun hcal => ?cal, fun n hn => ?none, fun n outer inner one df ds hst hex hone hds hdf => ?ranging, fun hst => ?train, fun hst => ?loss⟩
  case cal =>
    obtain ⟨hs, ht, hq, hw⟩ := ranging_begins hcal
    refine ⟨_, exec_run (x := .tlCalDone l) (f := linkCalDone l) rfl (linkCalDone_eq hcal), rfl, hs.same, fun k hk => hs.ne hk, ?_, hw.eventFrame rfl fun _ h => h, hq, hw.eq⟩
    rw [ht]
    rfl
  case none => exact exec_run (x := .rangingExchange l n) (f := rangingTake l n) rfl (rangingTake_none hn)
  case ranging =>
    have hx := exec_run (x := .rangingExchange l n) (f := rangingTake l n) (s := s) rfl (rangingTake_some hst hex)
    have he : (s.dev.modLink l (Link.take n)).link l = (s.dev.link l).take n := modLink_link_same ..
    have hs0 : SetsLink l ((s.dev.link l).take n) s.dev (s.dev.modLink l (Link.take n)) := (SetsLink.refl l s.dev).modLink
    have h1 : (s.dev.modLink l (Link.take n)).oneWay l outer inner = one := hone.symm
    refine ⟨fun hnear => ?near, fun h0 hfar => ?far⟩
    case near =>
      obtain ⟨hs, hv, hw, hr⟩ := near_fields (d := s.dev.modLink l (Link.take n)) (l := l) (outer := outer) (inner := inner) (ds := ds) (df := df)
        (by rw [he]; exact hst) (by rw [he, h1]; exact hnear) (by rw [he, h1]; exact hds) hdf
      rw [he] at hs
      have hset := hs0.trans hs
      have hw0 : Within (nearScope l) s.dev (s.dev.modLink l (Link.take n)) := (Within.refl _ _).modLink rfl
      refine ⟨_, hx, rfl, hset.same, hv, fun k hk => hset.ne hk, (hw0.trans hw).eventFrame rfl fun _ h => h, hr, nearScope_eq (hw0.trans hw)⟩
    case far =>
      obtain ⟨hs, hc, hw, hq⟩ := far_fields (d := s.dev.modLink l (Link.take n)) (l := l) (outer := outer) (inner := inner)
        (by rw [he]; exact h0) (by rw [he, h1]; exact hfar)
      rw [he] at hs hq
      have hset := hs0.trans hs
      obtain ⟨hst', hdf', htaken, hless, hlast⟩ := outlying_fields ((s.dev.link l).take n)
      have hw0 : Within (farScope l) s.dev (s.dev.modLink l (Link.take n)) := (Within.refl _ _).modLink rfl
      refine ⟨_, hx, rfl, hc.before rfl, (hw0.trans hw).eventFrame rfl fun _ h => h, ?_⟩
      dsimp only
      rw [hset.same]
      exact ⟨hst', hdf', htaken, hless, fun h => ⟨(hlast h).1, (hlast h).2, hq h⟩, fun k hk => hset.ne hk, farScope_eq (hw0.trans hw)⟩
  case train =>
    have hs := linkDrop_fields ((SetsLink.refl l s.dev).within (d' := s.dev.bump (linkOff l + 0x34) 0 16) (Within.refl _ _).bump) (st := .sync) (row := 3)
    have hw : Within (dropScope l) s.dev ((s.dev.bump (linkOff l + 0x34) 0 16).linkDrop l .sync 3) :=
      ((Within.refl _ _).bump (dropScope_count l) rfl).linkDrop (dropScope_out l) rfl rfl (dropScope_events l)
    obtain ⟨hs, ha⟩ := hs
    refine ⟨_, exec_run (x := .tlTrainTimeout l) (f := trainTimeout l) rfl (trainTimeout_eq hst), rfl, ?_⟩
    dsimp only
    rw [hs.same]
    exact ⟨rfl, rfl, rfl, rfl, rfl, ha, (bump_counts _ s.dev (by decide)).linkDrop, hw.keepsRegs fun _ h => h, fun k hk => hs.ne hk, dropScope_eq hw⟩
  case loss =>
    obtain ⟨hs, ha, hc⟩ := linkLoss_fields hst
    have hw : Within (dropScope l) s.dev (s.dev.linkLoss l) := (Within.refl _ _).linkLoss (dropScope_out l) (dropScope_count l) rfl rfl (dropScope_events l)
    refine ⟨_, exec_run (x := .codeGroupSyncLoss l) (f := codeGroupLoss l) rfl rfl, rfl, ?_⟩
    dsimp only
    rw [show codeGroupLoss l s.dev = s.dev.linkLoss l from rfl, hs.same]
    exact ⟨rfl, rfl, rfl, rfl, rfl, ha, hc, hw.keepsRegs fun _ h => h, fun k hk => hs.ne hk, dropScope_eq hw⟩

end Sys2Proof.Machine
end

section
/-! Frames sent and received on the cascade (chapter 11). -/

namespace Sys2Proof.Machine

set_option Elab.async false

variable {S : Scope} {d d₀ d' e : Dev} {l : Fin 5} {x y : Link} {f : TideFrame}

/-! ### Frames sent -/

/-- The cascade with other links; with another message to relay and other own messages; with the turn passed on. -/
def Tide.withLinks (v : Vector Link 5) (t : Tide) : Tide := { t with links := v }
def Tide.speaking (r : Option (BitVec 8 × BitVec 16 × List Byte)) (o : List (BitVec 8 × BitVec 16 × List Byte)) (t : Tide) : Tide :=
  { t with relay := r, own := o }
def Tide.turned (t : Tide) : Tide := { t with turn := (t.turn + 1) % 3, faults := if t.active.isSome then t.faults.drop 1 else t.faults }

/-- The message of the frames of one turn, and the device that has taken it. -/
def Dev.turnMsg (d : Dev) : (BitVec 8 × BitVec 16 × List Byte) × Dev :=
  if d.tide.role = .slave then (d.tide.relay.getD (0, 0, []), d.modTide fun t => { t with relay := none }) else d.ownMsg (d.tide.turn % 3 + 1)

theorem turnMsg_speaking (d : Dev) : ∃ r o, d.turnMsg.2 = d.modTide (Tide.speaking r o) := by
  unfold Dev.turnMsg
  split
  · exact ⟨none, d.tide.own, rfl⟩
  · exact ⟨d.tide.relay, _, rfl⟩

/-- The link that has sent a frame. -/
def Link.sends (f : TideFrame) (x : Link) : Link := { x with sent := x.sent ++ [f] }

/-- One link at a boundary. -/
def Dev.linkTx (us t : Int) (msg : BitVec 8 × BitVec 16 × List Byte) (l : Fin 5) (d : Dev) : Dev :=
  if (d.link l).st = .off then d
  else
    let r := (d.link l).rangingSend (d.upLink l) us t
    let e := d.modLink l fun _ => r.2
    e.modLink l (Link.sends (e.tideFrame l us r.1 msg))

theorem tideTx_eq (h : d.tideOn = true) : tideTx d =
    (forFin 5 (Dev.linkTx (toUs (d.tsNow d.cascTs)) (d.turnMsg.2.boundaryAt (toUs (d.tsNow d.cascTs))) d.turnMsg.1) d.turnMsg.2).modTide Tide.turned := by
  unfold tideTx
  rw [if_neg (by simp [h])]
  rfl

/-- The fields of a frame that R284, R292 and R293 name. -/
structure SentAs (l : Fin 5) (d : Dev) (f : TideFrame) : Prop where
  version : f.version = 1
  senderId : f.senderId = d.tide.id
  senderLink : f.senderLink = BitVec.ofNat 3 l.val
  dir : f.dir = d.upLink l
  mId : f.mId = d.tide.mId
  lost : f.masterLost = d.tide.masterLost
  path : f.path.length = 8
  hops : f.hops = (if d.tide.role = .master then 1 else b8 (min (d.tide.hops + 1) 9))
  prio : f.mPrio = (if d.tide.strapped then 0 else d.tide.mPrio)

theorem tideFrame_sentAs (l : Fin 5) (us : Int) (mark : Bool) (msg : BitVec 8 × BitVec 16 × List Byte) (d : Dev) :
    SentAs l d (d.tideFrame l us mark msg) := by
  refine ⟨rfl, rfl, rfl, rfl, rfl, rfl, ?_, ?_, rfl⟩
  · simp [Dev.tideFrame]
  · unfold Dev.tideFrame
    extract_lets t n c up own hops path
    show b8 hops = _
    by_cases h : own
    · rw [show hops = 1 from if_pos h, if_pos h]
      rfl
    · rw [show hops = min (t.hops + 1) 9 from if_neg h, if_neg h]

theorem rangingSend_keeps (up : Bool) (us t : Int) (x : Link) : (x.rangingSend up us t).2.st = x.st ∧ (x.rangingSend up us t).2.missed = x.missed ∧
    (x.rangingSend up us t).2.last = x.last ∧ (x.rangingSend up us t).2.sent = x.sent := by
  unfold Link.rangingSend
  extract_lets ms
  split
  · split <;> exact ⟨rfl, rfl, rfl, rfl⟩
  · split
    · split <;> exact ⟨rfl, rfl, rfl, rfl⟩
    · exact ⟨rfl, rfl, rfl, rfl⟩

/-- A link after its boundary: one more frame of `d`, and otherwise only the state of its ranging. -/
structure SendsOne (l : Fin 5) (d : Dev) (x y : Link) : Prop where
  off : x.st = .off → y = x
  sent : x.st ≠ .off → ∃ f, y.sent = x.sent ++ [f] ∧ SentAs l d f
  st : y.st = x.st
  missed : y.missed = x.missed
  last : y.last = x.last

theorem linkTx_sends (us t : Int) (msg : BitVec 8 × BitVec 16 × List Byte) (l : Fin 5) (v : Vector Link 5) :
    ∃ y, (d.modTide (Tide.withLinks v)).linkTx us t msg l = d.modTide (Tide.withLinks (v.set l y)) ∧ SendsOne l d (v.get l) y := by
  unfold Dev.linkTx
  have hl : (d.modTide (Tide.withLinks v)).link l = v.get l := rfl
  rw [hl]
  split
  next h => exact ⟨v.get l, by rw [set_get], fun _ => rfl, fun hn => absurd h hn, rfl, rfl, rfl⟩
  next h =>
    extract_lets r e
    obtain ⟨h1, h2, h3, h4⟩ := rangingSend_keeps ((d.modTide (Tide.withLinks v)).upLink l) us t (v.get l)
    have he : e.link l = r.2 := get_set_same ..
    refine ⟨r.2.sends (e.tideFrame l us r.1 msg), ?_, fun hs => absurd hs h, fun _ => ⟨e.tideFrame l us r.1 msg, ?_, ?_⟩, h1, h2, h3⟩
    · show d.modTide (Tide.withLinks ((v.set l r.2).set l (((v.set l r.2).get l).sends (e.tideFrame l us r.1 msg)))) = _
      rw [get_set_same, Vector.set_set]
    · exact congrArg (· ++ _) h4
    · have hf := tideFrame_sentAs l us r.1 msg e
      exact ⟨hf.1, hf.2, hf.3, hf.4, hf.5, hf.6, hf.7, hf.8, hf.9⟩

/-- The boundary on every link. -/
theorem linksTx_fields (us t : Int) (msg : BitVec 8 × BitVec 16 × List Byte) (d : Dev) :
    (∃ v, forFin 5 (Dev.linkTx us t msg) d = d.modTide (Tide.withLinks v)) ∧
    ∀ l, SendsOne l d (d.link l) ((forFin 5 (Dev.linkTx us t msg) d).link l) := by
  have h0 : ∃ v, d = d.modTide (Tide.withLinks v) := ⟨d.tide.links, rfl⟩
  refine ⟨forFin_keeps (P := fun e => ∃ v, e = d.modTide (Tide.withLinks v)) (fun j e ⟨v, hv⟩ => ?_) h0, fun l =>
    forFin_object (get := fun l d => d.link l) (I := fun e => ∃ v, e = d.modTide (Tide.withLinks v)) (R := fun l => SendsOne l d)
      (fun j e ⟨v, hv⟩ => ?_) h0 l⟩
  · obtain ⟨y, hy, -⟩ := linkTx_sends (d := d) us t msg j v
    rw [hv]
    exact ⟨_, hy⟩
  · obtain ⟨y, hy, hs⟩ := linkTx_sends (d := d) us t msg j v
    rw [hv, hy]
    refine ⟨?_, fun k hk => get_set_ne v y hk, ⟨_, rfl⟩⟩
    rw [show (d.modTide (Tide.withLinks (v.set j y))).link j = y from get_set_same ..]
    exact hs

/-! ### Frames received -/

/-- What of the cascade a frame of the active upstream changes, with the waiting events. -/
def Tide.core (t : Tide) : Option (Fin 5) × Role × BitVec 9 × List CascEv × BitVec 8 × BitVec 9 × Bool × Nat :=
  (t.active, t.role, t.id, t.events, t.mPrio, t.mId, t.masterLost, t.hops)

/-- The link that has heard a frame. -/
def Link.hears (f : TideFrame) (x : Link) : Link := { x with missed := 0, good := x.good + 1, last := some f, dirErr := false }

/-- What R285 says of the link `x` that has received `f`. -/
structure Heard (f : TideFrame) (x y : Link) : Prop where
  missed : y.missed = 0
  good : y.good = x.good + 1
  last : y.last = some f
  dirErr : y.dirErr = false

theorem rangingHear_heard (up : Bool) (f : TideFrame) (x : Link) : Heard f x ((x.hears f).rangingHear up f) ∧ ((x.hears f).rangingHear up f).st = x.st := by
  unfold Link.rangingHear
  split
  · split <;> exact ⟨⟨rfl, rfl, rfl, rfl⟩, rfl⟩
  · extract_lets z
    split
    · split <;> exact ⟨⟨rfl, rfl, rfl, rfl⟩, rfl⟩
    · exact ⟨⟨rfl, rfl, rfl, rfl⟩, rfl⟩

/-- A received frame noted by its link. -/
def Dev.rxFrame (l : Fin 5) (f : TideFrame) (d : Dev) : Dev :=
  let d := d.modLink l fun x => (x.hears f).rangingHear (d.upLink l) f
  let d := if (d.link l).st = .sync && 2 ≤ (d.link l).good then d.linkTo l .cal 5 else d
  d.tideFlags

/-- What it gives to the upstream, where it is of an upstream link. -/
def Dev.rxTheta (l : Fin 5) (f : TideFrame) (d : Dev) : Dev := if (d.link l).st = .up then d.thetaTake l (d.frameE l f) else d
def Dev.rxActive (l : Fin 5) (f : TideFrame) (d : Dev) : Dev :=
  if d.tide.active = some l && d.tide.role = .slave then
    (let d := d.activeFrame l f
     if d.eligible l then d else d.trySwap) else d

theorem tideRx_eq (hst : (d.link l).st ≠ .off) (hon : d.tideOn = true) (hv : f.version = 1) (hdir : f.dir ≠ d.upLink l) :
    tideRx l f d = if (d.rxFrame l f).upLink l then (((d.rxFrame l f).rxTheta l f).rxActive l f).orphanJoin else (d.rxFrame l f).relayFault l f.fault := by
  unfold tideRx
  rw [if_neg (by simp [hst, hon, hv]), if_neg hdir]
  extract_lets d1 d2 d3 d4 d5 d6
  have h3 : d.rxFrame l f = d3 := rfl
  have h4 : d3.rxTheta l f = d4 := rfl
  have h6 : d4.rxActive l f = d6 := rfl
  rw [h3, h4, h6]

/-! #### What a received frame may change -/

/-- What a received frame may change: of the registers, never TL_CFG. -/
def rxScope : Scope := ⟨[.regs, .bar4, .host, .watch, .keeper, .ts, .tide], (· ≠ 0x280000), true, false, true, fun h => absurd h (by decide)⟩

theorem rxScope_events : rxScope.Events := ⟨⟨rfl, rfl, rfl⟩, rfl⟩

theorem rxScope_eq (h : Within rxScope d d') : d' = { d with
    regs := d'.regs, bar4 := d'.bar4, host := d'.host, watch := d'.watch, keeper := d'.keeper, ts := d'.ts, tide := d'.tide } := h.eq

theorem rxScope_tlCfg (h : Within rxScope d d') : d'.tlCfg = d.tlCfg := h.regs _ (fun h => h rfl) (not_eventWord_of_lt (by decide))

theorem upLink_of_cfg (h : d'.tlCfg = d.tlCfg) (l : Fin 5) : d'.upLink l = d.upLink l := by
  unfold Dev.upLink Dev.tl4Alt
  rw [h]

theorem Within.rxFrame (h : Within rxScope d₀ d) : Within rxScope d₀ (d.rxFrame l f) := by
  unfold Dev.rxFrame
  extract_lets d1 d2
  have h1 : Within rxScope d₀ d1 := h.modLink rfl
  have h2 : Within rxScope d₀ d2 := .ite (fun _ => h1.linkTo rfl rxScope_events) fun _ => h1
  exact h2.tideFlags rfl rfl

theorem Within.rxTheta (h : Within rxScope d₀ d) : Within rxScope d₀ (d.rxTheta l f) := by
  have hl := linkOff_le l
  refine .ite (fun _ => .ite (fun _ => h.modLink rfl) fun _ => (h.modLink rfl).pub40 ?_ ?_ rfl) fun _ => h
  · exact (by omega : linkOff l + 0x20 ≠ 0x280000)
  · exact (by omega : linkOff l + 0x20 + 4 ≠ 0x280000)

theorem Within.lofsTrack (h : Within S d₀ d) (ht : S.Has .tide) (hw : S.Has .watch) : Within S d₀ (d.lofsTrack l f) := by
  unfold Dev.lofsTrack
  extract_lets x d1
  have h1 : Within S d₀ d1 := h.modTide ht
  exact .ite (fun _ => h1.setLofs hw ht) fun _ => h1

theorem Within.install (h : Within S d₀ d) (ht : S.Has .tide) (hts : S.Has .ts) : Within S d₀ (d.install f) := by
  unfold Dev.install
  extract_lets n p w d1 sec
  have h1 : Within S d₀ d1 := h.modTide ht
  have h2 : ∀ g, Within S d₀ (d.modTide g) := fun g => h.modTide ht
  exact .ite (fun _ => .ite (fun _ => h1.modTs hts) fun _ => .ite (fun _ => h1) fun _ => h1.modTs hts) fun _ =>
    .ite (fun _ => ((h2 _).modTs hts).noticeJudge hts) fun _ => .ite (fun _ => (h2 _).modTs hts) fun _ => h

theorem Within.activeFrame (h : Within rxScope d₀ d) : Within rxScope d₀ (d.activeFrame l f) := by
  unfold Dev.activeFrame
  extract_lets other d1 d2 d3
  have h1 : Within rxScope d₀ d1 := (h.lofsTrack rfl rfl).modTide rfl
  have h2 : Within rxScope d₀ d2 := .ite (fun _ =>
    ((h1.modTide rfl).bump (show (0x280020 : Nat) ≠ 0x280000 by decide) rfl).masterEvent rxScope_events) fun _ => h1
  have h3 : Within rxScope d₀ d3 := .ite (fun _ => Within.install (h2.modTide rfl) rfl rfl) fun _ => h2
  exact h3.modTide rfl

theorem Within.rxActive (h : Within rxScope d₀ d) : Within rxScope d₀ (d.rxActive l f) := by
  refine .ite (fun _ => ?_) fun _ => h
  exact .ite (fun _ => h.activeFrame) fun _ => h.activeFrame.trySwap (show (0x280020 : Nat) ≠ 0x280000 by decide) rfl rfl rxScope_events

theorem Within.relayFault (h : Within rxScope d₀ d) {e : BitVec 64} : Within rxScope d₀ (d.relayFault l e) := by
  unfold Dev.relayFault
  refine .ite (fun _ => ?_) fun _ => h
  extract_lets d1 n
  have h1 : Within rxScope d₀ d1 := .ite (fun _ => h.event rxScope_events) fun _ => h
  exact .ite (fun _ => h1.queueFault (show (0x280024 : Nat) ≠ 0x280000 by decide) rfl rfl rfl) fun _ => h1

theorem tideRx_within (hst : (d.link l).st ≠ .off) (hon : d.tideOn = true) (hv : f.version = 1) (hdir : f.dir ≠ d.upLink l) :
    Within rxScope d (tideRx l f d) := by
  rw [tideRx_eq hst hon hv hdir]
  have h := (Within.refl rxScope d).rxFrame (l := l) (f := f)
  exact .ite (fun _ => h.rxTheta.rxActive.orphanJoin rfl rxScope_events rfl) fun _ => h.relayFault

/-! #### The links and the cascade after a received frame -/

theorem trySwap_links (d : Dev) : d.trySwap.tide.links = d.tide.links := by
  cases h : d.tide.active with
  | none =>
    unfold Dev.trySwap
    rw [h]
  | some a => exact (trySwap_fields h).1

/-- The state of a link that has received a frame. -/
def heardSt (x : Link) : LinkState := if x.st = .sync ∧ 1 ≤ x.good then .cal else x.st

theorem rxFrame_fields (l : Fin 5) (f : TideFrame) (d : Dev) : (∃ y, SetsLink l y d (d.rxFrame l f) ∧ Heard f (d.link l) y ∧ y.st = heardSt (d.link l)) ∧
    (d.rxFrame l f).tide.core = d.tide.core := by
  obtain ⟨hh, hst⟩ := rangingHear_heard (d.upLink l) f (d.link l)
  unfold Dev.rxFrame
  extract_lets d1 d2
  have h1 : SetsLink l (((d.link l).hears f).rangingHear (d.upLink l) f) d d1 := (SetsLink.refl l d).modLink
  have hs : (d1.link l).st = (d.link l).st := (congrArg Link.st h1.same).trans hst
  have hg : (d1.link l).good = (d.link l).good + 1 := (congrArg Link.good h1.same).trans hh.good
  obtain ⟨p, q, r, ht⟩ := tideFlags_tide d2
  have hc : ((d1.link l).st = .sync && decide (2 ≤ (d1.link l).good)) = decide ((d.link l).st = .sync ∧ 1 ≤ (d.link l).good) := by
    rw [hs, hg, ← Bool.decide_and]
    exact decide_eq_decide.mpr (and_congr_right fun _ => Nat.succ_le_succ_iff)
  have h2 : d2 = if (d.link l).st = .sync ∧ 1 ≤ (d.link l).good then d1.linkTo l .cal 5 else d1 := by
    unfold d2
    rw [hc]
    exact if_congr (by simp) rfl rfl
  rw [ht]
  by_cases hcal : (d.link l).st = .sync ∧ 1 ≤ (d.link l).good
  · rw [h2, if_pos hcal]
    refine ⟨⟨_, h1.linkTo.tideFlags, ⟨hh.1, hh.2, hh.3, hh.4⟩, ?_⟩, ?_⟩
    · exact (if_pos hcal).symm
    · rw [linkTo_tide]
      rfl
  · rw [h2, if_neg hcal]
    exact ⟨⟨_, h1.tideFlags, hh, hst.trans (if_neg hcal).symm⟩, rfl⟩

theorem Heard.side (h : Heard f x y) {z : Link} (h1 : z.missed = y.missed) (h2 : z.good = y.good) (h3 : z.last = y.last) (h4 : z.dirErr = y.dirErr) :
    Heard f x z := ⟨h1.trans h.1, h2.trans h.2, h3.trans h.3, h4.trans h.4⟩

theorem rxTheta_fields (h : SetsLink l y d₀ d) (hh : Heard f x y) : (∃ z, SetsLink l z d₀ (d.rxTheta l f) ∧ Heard f x z ∧ z.st = y.st) ∧
    (d.rxTheta l f).tide.core = d.tide.core := by
  unfold Dev.rxTheta
  split
  · unfold Dev.thetaTake
    extract_lets es m
    split
    · exact ⟨⟨_, h.modLink, hh.side rfl rfl rfl rfl, rfl⟩, rfl⟩
    · refine ⟨⟨_, (h.modLink).within (Within.refl _ _).pub40, hh.side rfl rfl rfl rfl, rfl⟩, ?_⟩
      have ht : ∀ (e : Dev) (b : Nat) (v : Int), (e.pub40 b v).tide = e.tide := fun e b v => tide_aside (Within.refl _ e).pub40
      rw [ht]
      rfl
  · exact ⟨⟨y, h, hh, rfl⟩, rfl⟩

/-- LOFS and the source label leave the core and the links. -/
theorem lofsTrack_fields (l : Fin 5) (f : TideFrame) (d : Dev) : (d.lofsTrack l f).tide.links = d.tide.links ∧ (d.lofsTrack l f).tide.core = d.tide.core := by
  unfold Dev.lofsTrack
  extract_lets x d1
  split
  · rw [setLofs_tide]
    exact ⟨rfl, rfl⟩
  · exact ⟨rfl, rfl⟩

theorem install_fields (f : TideFrame) (d : Dev) : (d.install f).tide.links = d.tide.links ∧ (d.install f).tide.core = d.tide.core := by
  unfold Dev.install
  extract_lets n p w d1 sec
  split
  · split
    · exact ⟨rfl, rfl⟩
    · split <;> exact ⟨rfl, rfl⟩
  · split
    · exact ⟨rfl, rfl⟩
    · split <;> exact ⟨rfl, rfl⟩

/-- The core of a cascade that has taken over the frame of its upstream. -/
def Tide.coreOf (f : TideFrame) (evs : List CascEv) (t : Tide) : Option (Fin 5) × Role × BitVec 9 × List CascEv × BitVec 8 × BitVec 9 × Bool × Nat :=
  (t.active, t.role, t.id, evs, f.mPrio, f.mId, f.masterLost, f.hops.toNat)

/-- The frame of the active upstream of a slave is taken over, with its event. -/
theorem activeFrame_fields (l : Fin 5) (f : TideFrame) (d : Dev) : (d.activeFrame l f).tide.links = d.tide.links ∧
    ∃ ev, (d.activeFrame l f).tide.core = d.tide.coreOf f (d.tide.events ++ [ev]) := by
  obtain ⟨hl, hc⟩ := lofsTrack_fields l f d
  unfold Dev.activeFrame
  extract_lets other d1 d2 d3
  have h1 : d1.tide.links = d.tide.links ∧ d1.tide.core = d.tide.coreOf f d.tide.events := by
    refine ⟨hl, ?_⟩
    have he : d1.tide.core = (d.lofsTrack l f).tide.coreOf f (d.lofsTrack l f).tide.events := rfl
    simp only [Tide.core, Prod.mk.injEq] at hc
    obtain ⟨ha, hr, hi, hv, -⟩ := hc
    rw [he, Tide.coreOf, Tide.coreOf, ha, hr, hi, hv]
  have h2 : d2.tide.links = d1.tide.links ∧ d2.tide.core = d1.tide.core := by
    unfold d2
    split
    · rw [masterEvent_tide]
      exact ⟨rfl, rfl⟩
    · exact ⟨rfl, rfl⟩
  have h3 : d3.tide.links = d2.tide.links ∧ d3.tide.core = d2.tide.core := by
    unfold d3
    split
    · exact install_fields f _
    · exact ⟨rfl, rfl⟩
  refine ⟨h3.1.trans (h2.1.trans h1.1), ⟨d3.tSent l f, d3.frameE l f⟩, ?_⟩
  have hc3 := h3.2.trans (h2.2.trans h1.2)
  simp only [Tide.core, Tide.coreOf, Prod.mk.injEq] at hc3
  obtain ⟨ha, hr, hi, hv, hp, hm, hlost, hh⟩ := hc3
  show (d3.tide.active, d3.tide.role, d3.tide.id, d3.tide.events ++ _, d3.tide.mPrio, d3.tide.mId, d3.tide.masterLost, d3.tide.hops) = _
  rw [ha, hr, hi, hv, hp, hm, hlost, hh]
  rfl

theorem rxActive_links (l : Fin 5) (f : TideFrame) (d : Dev) : (d.rxActive l f).tide.links = d.tide.links := by
  unfold Dev.rxActive
  split
  · extract_lets d1
    split
    · exact (activeFrame_fields l f d).1
    · exact (trySwap_links d1).trans (activeFrame_fields l f d).1
  · rfl

theorem relayFault_links (l : Fin 5) (e : BitVec 64) (d : Dev) : (d.relayFault l e).tide.links = d.tide.links := by
  have hq : ∀ (e : BitVec 64) (d : Dev), (d.queueFault e).tide.links = d.tide.links := fun e d => by
    unfold Dev.queueFault
    split
    · rfl
    · exact congrArg Tide.links (tide_aside (Within.refl _ d).bump.occur)
  unfold Dev.relayFault
  split
  · extract_lets d1 n
    have h1 : d1.tide = d.tide := tide_aside (.ite (fun _ => (Within.refl _ d).event) fun _ => .refl _ d)
    split
    · rw [hq, h1]
    · rw [h1]
  · rfl

/-- The link after a received frame. -/
theorem tideRx_link (hst : (d.link l).st ≠ .off) (hon : d.tideOn = true) (hv : f.version = 1) (hdir : f.dir ≠ d.upLink l) :
    ∃ y, SetsLink l y d (tideRx l f d) ∧ Heard f (d.link l) y ∧ y.st = heardSt (d.link l) := by
  rw [tideRx_eq hst hon hv hdir]
  obtain ⟨⟨y, hy, hh, hys⟩, -⟩ := rxFrame_fields l f d
  split
  · obtain ⟨⟨z, hz, hzh, hzs⟩, -⟩ := rxTheta_fields hy hh
    exact ⟨z, (hz.side (rxActive_links l f _)).side (orphanJoin_links _), hzh, hzs.trans hys⟩
  · exact ⟨y, hy.side (relayFault_links l _ _), hh, hys⟩

/-! #### A frame of the active upstream -/

/-- A link is eligible by its state and its last frame (R293). -/
theorem eligible_of (hup : d.upLink l = true) (hst : (d.link l).st = .up) (hlast : (d.link l).last = some f) (hh : f.hops.toNat ≤ 8)
    (hp : (framePath f).contains d.tide.id = false) (hid : f.senderId ≠ d.tide.id) : d.eligible l = true := by
  have hp : d.tide.id ∉ framePath f := by simpa using hp
  unfold Dev.eligible
  rw [hup, hst, hlast]
  simp [hh, hid, hp]

/-- The frame of the active upstream of a slave that stays eligible. -/
theorem tideRx_active (hst : (d.link l).st = .up) (hon : d.tideOn = true) (hv : f.version = 1) (hdir : f.dir ≠ d.upLink l)
    (ha : d.tide.active = some l) (hr : d.tide.role = .slave) (hup : d.upLink l = true) (hh : f.hops.toNat ≤ 8)
    (hp : (framePath f).contains d.tide.id = false) (hid : f.senderId ≠ d.tide.id) :
    ∃ ev, (tideRx l f d).tide.core = d.tide.coreOf f (d.tide.events ++ [ev]) := by
  have hne : (d.link l).st ≠ .off := by rw [hst]; decide
  rw [tideRx_eq hne hon hv hdir]
  obtain ⟨⟨y, hy, hyh, hys⟩, hc1⟩ := rxFrame_fields l f d
  obtain ⟨⟨z, hz, hzh, hzs⟩, hc2⟩ := rxTheta_fields hy hyh
  have hw : Within rxScope d (d.rxFrame l f) := (Within.refl rxScope d).rxFrame
  have hup1 : (d.rxFrame l f).upLink l = true := (upLink_of_cfg (rxScope_tlCfg hw) l).trans hup
  rw [if_pos hup1]
  have hw4 : Within rxScope d ((d.rxFrame l f).rxTheta l f) := hw.rxTheta
  generalize (d.rxFrame l f).rxTheta l f = d4 at *
  have hcore := hc2.trans hc1
  have hcore' := hcore
  simp only [Tide.core, Prod.mk.injEq] at hcore'
  obtain ⟨hact, hrole, hidd, hev, -⟩ := hcore'
  obtain ⟨hlinks, ev, hcf⟩ := activeFrame_fields l f d4
  have hw5 : Within rxScope d (d4.activeFrame l f) := hw4.activeFrame
  have hcf' := hcf
  simp only [Tide.core, Tide.coreOf, Prod.mk.injEq] at hcf'
  obtain ⟨-, hrole5, hid5, -⟩ := hcf'
  have hl5 : (d4.activeFrame l f).link l = z := (hz.side hlinks).same
  have helig : (d4.activeFrame l f).eligible l = true := by
    have hzst : z.st = .up := by rw [hzs, hys, heardSt, hst, if_neg (fun h => absurd h.1 (by decide))]
    exact eligible_of ((upLink_of_cfg (rxScope_tlCfg hw5) l).trans hup) (hl5 ▸ hzst) (hl5 ▸ hzh.last) hh (by rw [hid5, hidd]; exact hp) (by rw [hid5, hidd]; exact hid)
  have hrx : d4.rxActive l f = d4.activeFrame l f := by
    unfold Dev.rxActive
    rw [if_pos (by simp [hact, hrole, ha, hr])]
    exact if_pos helig
  rw [hrx, orphanJoin_settled (by rw [hrole5, hrole, hr]; decide)]
  exact ⟨ev, by rw [hcf, Tide.coreOf, Tide.coreOf, hact, hrole, hidd, hev]⟩

end Sys2Proof.Machine
end

section
/-! The frames of the cascade: sent, received and missed, and the delivery of its events (chapter 11). -/

namespace Sys2Proof.Machine

set_option Elab.async false

variable {S : Scope} {d d₀ d' : Dev} {l : Fin 5} {x : Link} {f : TideFrame} {s : State} {n : Fin 64}

/-! ### A missing frame -/

/-- The link that misses a frame. -/
def Link.misses (c : MissCause) (x : Link) : Link := { x with missed := x.missed + 1, good := 0, dirErr := decide (c = .dir) }

/-- The further count of a cause. -/
def Dev.missCount (l : Fin 5) (c : MissCause) (d : Dev) : Dev :=
  match c with
  | .absent => d
  | .crc => d.bump (linkOff l + 0x30) 16 16
  | .dir => d.bump (linkOff l + 0x38) 0 16

/-- A missing frame counted. -/
def Dev.missNote (l : Fin 5) (c : MissCause) (d : Dev) : Dev := ((d.bump (linkOff l + 0x30) 0 16).modLink l (Link.misses c)).missCount l c

theorem missingFrame_eq {c : MissCause} (hst : (d.link l).st ≠ .off) (hon : d.tideOn = true) : missingFrame l c d =
    let e := if (d.missNote l c).tide.active = some l && ((d.missNote l c).link l).missed = 2 then (d.missNote l c).trySwap else d.missNote l c
    if 4 ≤ (e.link l).missed then e.linkLoss l else e := by
  unfold missingFrame
  rw [if_neg (by simp [hst, hon])]
  rfl

/-- What counting a missing frame may change. -/
def missScope (l : Fin 5) : Scope := looseScope [.regs, .tide] [linkOff l + 0x30, linkOff l + 0x38]

theorem missScope_eq (h : Within (missScope l) d d') : d' = { d with regs := d'.regs, tide := d'.tide } := h.eq

theorem missNote_within (l : Fin 5) (c : MissCause) (d : Dev) : Within (missScope l) d (d.missNote l c) := by
  have h30 : (missScope l).reg (linkOff l + 0x30) := List.mem_cons_self
  have h1 : Within (missScope l) d ((d.bump (linkOff l + 0x30) 0 16).modLink l (Link.misses c)) := ((Within.refl _ d).bump h30 rfl).modLink rfl
  cases c with
  | absent => exact h1
  | crc => exact h1.bump h30 rfl
  | dir => exact h1.bump (List.mem_cons_of_mem _ (List.mem_singleton.mpr rfl)) rfl

theorem missNote_tide (l : Fin 5) (c : MissCause) (d : Dev) : (d.missNote l c).tide = d.tide.linked l ((d.link l).misses c) := by
  have h : Within asideTide ((d.bump (linkOff l + 0x30) 0 16).modLink l (Link.misses c)) (d.missNote l c) := by
    have h0 : Within asideTide ((d.bump (linkOff l + 0x30) 0 16).modLink l (Link.misses c)) ((d.bump (linkOff l + 0x30) 0 16).modLink l (Link.misses c)) := .refl _ _
    cases c with
    | absent => exact h0
    | crc => exact h0.bump
    | dir => exact h0.bump
  exact (tide_aside h).trans rfl

theorem missNote_link (l : Fin 5) (c : MissCause) (d : Dev) : SetsLink l ((d.link l).misses c) d (d.missNote l c) :=
  congrArg Tide.links (missNote_tide l c d)

/-- A missing frame counts on its link, and under its cause. -/
theorem missNote_counts (l : Fin 5) (c : MissCause) (d : Dev) : Counts (linkOff l + 0x30) 0 16 d (d.missNote l c) ∧
    (c = .crc → Counts (linkOff l + 0x30) 16 16 d (d.missNote l c)) ∧ (c = .dir → Counts (linkOff l + 0x38) 0 16 d (d.missNote l c)) := by
  have hb : Counts (linkOff l + 0x30) 0 16 d ((d.bump (linkOff l + 0x30) 0 16).modLink l (Link.misses c)) := bump_counts _ d (by decide)
  cases c with
  | absent => exact ⟨hb, nofun, nofun⟩
  | crc =>
    have h0 : (d.missNote l .crc).rdF (linkOff l + 0x30) 0 16 = (d.bump (linkOff l + 0x30) 0 16).rdF (linkOff l + 0x30) 0 16 :=
      rdF_bump_below (linkOff l + 0x30) ((d.bump (linkOff l + 0x30) 0 16).modLink l (Link.misses .crc)) (by decide) (by decide)
    have h16 : (d.bump (linkOff l + 0x30) 0 16).rdF (linkOff l + 0x30) 16 16 = d.rdF (linkOff l + 0x30) 16 16 := by
      rw [Dev.bump, Dev.bumpBy, Dev.wrF, Dev.rdF, rd_wr_same, fld_setFld_above _ _ (by decide) (by decide)]
      rfl
    refine ⟨?_, fun _ => ?_, nofun⟩
    · unfold Counts
      rw [h0]
      exact hb
    · have hc : Counts (linkOff l + 0x30) 16 16 ((d.bump (linkOff l + 0x30) 0 16).modLink l (Link.misses .crc)) (d.missNote l .crc) :=
        bump_counts _ _ (by decide)
      unfold Counts at hc ⊢
      rw [hc]
      exact congrArg (fun v => satN 16 (v + 1)) h16
  | dir =>
    have hl := linkOff_le l
    have hd : (d.missNote l .dir).rd (linkOff l + 0x30) = ((d.bump (linkOff l + 0x30) 0 16).modLink l (Link.misses .dir)).rd (linkOff l + 0x30) :=
      rd_wr_ne _ _ (by omega)
    have hc : Counts (linkOff l + 0x38) 0 16 ((d.bump (linkOff l + 0x30) 0 16).modLink l (Link.misses .dir)) (d.missNote l .dir) :=
      bump_counts _ _ (by decide)
    have h38 : ((d.bump (linkOff l + 0x30) 0 16).modLink l (Link.misses .dir)).rd (linkOff l + 0x38) = d.rd (linkOff l + 0x38) := rd_wr_ne _ d (by omega)
    exact ⟨hb.after hd, nofun, fun _ => hc.before h38⟩

/-- A missing frame leaves open whether a swap is possible. -/
theorem missNote_swapOk (l : Fin 5) (c : MissCause) (d : Dev) : (d.missNote l c).swapOk l (otherUp l) = d.swapOk l (otherUp l) := by
  have hl := missNote_link l c d
  have ht := missNote_tide l c d
  have hlow := linkOff_le l
  have hr : ∀ a, a < 0x280100 → (d.missNote l c).rd a = d.rd a := fun a ha => (missNote_within l c d).regs a (fun hm => by
    rcases List.mem_cons.mp hm with h | h
    · omega
    · have := List.mem_singleton.mp h
      omega) (not_eventWord_of_lt (by omega))
  have htol : (d.missNote l c).rdF 0x280004 20 12 = d.rdF 0x280004 20 12 := congrArg (fld · 20 12) (hr _ (by decide))
  have hel : (d.missNote l c).eligible (otherUp l) = d.eligible (otherUp l) := by
    unfold Dev.eligible
    rw [upLink_of_cfg (hr _ (by decide)) (otherUp l), hl.ne (otherUp_ne l), ht]
    rfl
  unfold Dev.swapOk
  rw [htol, hel, hl.ne (otherUp_ne l), hl.same, ht]
  rfl

theorem linkLoss_sync (h : (d.link l).st = .sync) : d.linkLoss l = d := by
  unfold Dev.linkLoss
  rw [h]

/-- A missing frame that takes nothing along. -/
theorem missing_plain {c : MissCause} (hst : (d.link l).st ≠ .off) (hon : d.tideOn = true) (hm : (d.link l).missed < 3 ∨ (d.link l).st = .sync)
    (ha : d.tide.active ≠ some l ∨ (d.link l).missed ≠ 1) : missingFrame l c d = d.missNote l c := by
  have hl := (missNote_link l c d).same
  rw [missingFrame_eq hst hon]
  extract_lets e
  have he : e = d.missNote l c := if_neg fun hc => by
    rw [missNote_tide, hl] at hc
    obtain ⟨h1, h2⟩ := (Bool.and_eq_true _ _).mp hc
    have h2 : (d.link l).missed + 1 = 2 := of_decide_eq_true h2
    exact ha.elim (fun ha => ha (of_decide_eq_true h1)) fun hn => hn (by omega)
  rw [he, hl]
  rcases hm with hm | hm
  · exact if_neg (by simp only [Link.misses]; omega)
  · rw [linkLoss_sync (by rw [hl]; exact hm), ite_self]

/-- The fourth missing frame of a link beyond SYNC. -/
theorem missing_fourth {c : MissCause} (hst : (d.link l).st ≠ .off) (hon : d.tideOn = true) (hm : 3 ≤ (d.link l).missed) :
    missingFrame l c d = (d.missNote l c).linkLoss l := by
  have hl := (missNote_link l c d).same
  rw [missingFrame_eq hst hon]
  extract_lets e
  have he : e = d.missNote l c := if_neg fun hc => by
    rw [hl] at hc
    have h2 : (d.link l).missed + 1 = 2 := of_decide_eq_true ((Bool.and_eq_true _ _).mp hc).2
    omega
  rw [he, hl]
  exact if_pos (by simp only [Link.misses]; omega)

/-- The second missing frame of the active upstream. -/
theorem missing_second {c : MissCause} (hst : (d.link l).st ≠ .off) (hon : d.tideOn = true) (hm : (d.link l).missed = 1) (ha : d.tide.active = some l) :
    missingFrame l c d = (d.missNote l c).trySwap := by
  have hl := (missNote_link l c d).same
  have hact : (d.missNote l c).tide.active = some l := (congrArg Tide.active (missNote_tide l c d)).trans ha
  rw [missingFrame_eq hst hon]
  extract_lets e
  have he : e = (d.missNote l c).trySwap := if_pos (by
    rw [hact, hl]
    simp [Link.misses, hm])
  have hel : e.link l = (d.link l).misses c := by
    rw [he]
    exact (missNote_link l c d).side (trySwap_links _) |>.same
  rw [hel, he]
  exact if_neg (by simp only [Link.misses]; omega)

/-! ### The delivery of an event -/

theorem qualEval_started (hst : (d.buoy n).qual.st = .first ∨ (d.buoy n).qual.st = .wtr) (he : (d.buoy n).qual.expired = false) :
    d.qualEval n = if d.rejects n then d.qualTo n .failed 8 else d := by
  unfold Dev.qualEval
  extract_lets q
  have hq : q.expired = false := he
  rcases hst with h | h
  · rw [show q.st = .first from h, hq]
    rfl
  · rw [show q.st = .wtr from h, hq]
    rfl

theorem qualTo_qual (n : Fin 64) (st : QState) (row : Nat) (d : Dev) : ((d.qualTo n st row).buoy n).qual.st = st ∧ ((d.qualTo n st row).buoy n).qual.expired = false := by
  rw [(SetsBuoy.refl n d).qualTo.same]
  exact ⟨rfl, rfl⟩

theorem Within.qualUpCalm (h : Within S d₀ d) (hE : S.Events) (hb : S.Has .buoys) : Within S d₀ (d.qualUp n) := by
  have hto : ∀ st row, st = .first ∨ st = .wtr → Within S d₀ ((d.qualTo n st row).qualEval n) := fun st row hst => by
    obtain ⟨hs, he⟩ := qualTo_qual n st row d
    rw [qualEval_started (by rw [hs]; exact hst) he]
    exact .ite (fun _ => (h.qualTo).qualTo) fun _ => h.qualTo
  unfold Dev.qualUp
  extract_lets q
  split
  · split
    · exact hto _ _ (.inl rfl)
    · exact hto _ _ (.inr rfl)
  · exact h

theorem Within.actEventCalm (h : Within S d₀ d) {t : Int} {good frame : Bool} (hE : S.Events) (hb : S.Has .buoys) :
    Within S d₀ (d.actEvent n t good frame) := by
  unfold Dev.actEvent
  extract_lets a
  cases a.st with
  | up => exact h.modAct
  | down => exact h.modAct
  | returning => exact .ite (fun _ => h.modAct) fun _ => .ite (fun _ => (h.modBuoy.stateEv).qualUpCalm hE hb) fun _ => h.modAct

/-- An accepted event is the last of its slot. -/
theorem actEvent_last {t : Int} (d : Dev) : ∃ y, SetsBuoy n y d (d.actEvent n t true false) ∧ y.act.last = some t := by
  unfold Dev.actEvent
  extract_lets a
  have h := SetsBuoy.refl n d
  cases a.st with
  | up => exact ⟨_, h.modAct, rfl⟩
  | down => exact ⟨_, h.modAct, rfl⟩
  | returning =>
    obtain ⟨q, hq⟩ := slotUp_buoy (t := t) h
    exact SetsBuoy.either ⟨_, h.modAct, rfl⟩ (SetsBuoy.either ⟨_, hq, rfl⟩ ⟨_, h.modAct, rfl⟩)

theorem edgeEvent_act {x : Buoy} {t : Int} (h : SetsBuoy n x d₀ d) : ∃ y, SetsBuoy n y d₀ (d.edgeEvent n t) ∧ y.act = x.act := by
  by_cases hq : (d.slotTev n).2 = 0
  · exact ⟨x, by rw [show d.edgeEvent n t = d from if_pos hq]; exact h, rfl⟩
  · obtain ⟨m, hm, -⟩ := edgeEvent_buoy (t := t) h hq
    exact ⟨_, hm, rfl⟩

/-- What the delivery of an event may change. -/
def deliverScope : Scope := partScope [.regs, .bar4, .host, .keeper, .buoys, .chans, .ts, .tide]

theorem deliverScope_eq (h : Within deliverScope d d') : d' = { d with regs := d'.regs, bar4 := d'.bar4, host := d'.host, keeper := d'.keeper,
                                                                       buoys := d'.buoys, chans := d'.chans, ts := d'.ts, tide := d'.tide } := h.eq

theorem Within.cascadeEvent (h : Within S d₀ d) {t e : Int} (hS : ∀ a, S.reg a) (hE : S.Events) (hb : S.Has .buoys) (hc : S.Has .chans) (hts : S.Has .ts) :
    Within S d₀ (d.cascadeEvent t e) := by
  have ⟨⟨hr, _, _⟩, _⟩ := hE
  unfold Dev.cascadeEvent
  refine .ite (fun _ => h) fun _ => ?_
  extract_lets d1 d2
  have h1 : Within S d₀ d1 := h.actEventCalm hE hb
  have h2 : Within S d₀ d2 := .ite (fun _ => h1.edgeEvent.chanGiven) fun _ => h1
  exact h2.slotCapture (fun _ _ _ => hS _) hr hts

/-- A delivered event is the last of slot 60, and of no other slot. -/
theorem cascadeEvent_buoy (t e : Int) (d : Dev) : ∃ y, SetsBuoy 60 y d (d.cascadeEvent t e) ∧ (d.buoysOn = true → y.act.last = some t) := by
  unfold Dev.cascadeEvent
  split
  next hoff => exact ⟨_, .refl 60 d, fun hon => absurd hon (by simpa using hoff)⟩
  next =>
    extract_lets d1 d2
    obtain ⟨x, h1, hx⟩ := actEvent_last (n := 60) (t := t) d
    obtain ⟨y, h2, hy⟩ : ∃ y, SetsBuoy 60 y d d2 ∧ y.act = x.act := by
      unfold d2
      split
      · obtain ⟨y, hy, ha⟩ := edgeEvent_act (t := t) h1
        exact ⟨y, hy.within (Within.refl _ _).chanGiven, ha⟩
      · exact ⟨x, h1, rfl⟩
    exact ⟨y, h2.slotCapture, fun _ => by rw [hy]; exact hx⟩

/-- The cascade once its next event is taken. -/
def Tide.delivering (evs : List CascEv) (t : Tide) : Tide := { t with events := evs }

theorem cascDeliver_fields {ev : CascEv} {evs : List CascEv} (h : d.tide.events = ev :: evs) : (cascDeliver d).tide = d.tide.delivering evs ∧
    (∃ y, SetsBuoy 60 y d (cascDeliver d) ∧ (d.buoysOn = true → y.act.last = some ev.t)) ∧ Within deliverScope d (cascDeliver d) := by
  have he : cascDeliver d = (d.modTide (Tide.delivering evs)).cascadeEvent ev.t ev.e := by
    unfold cascDeliver
    rw [h]
    rfl
  rw [he]
  have hw : Within (partScope [.regs, .bar4, .host, .keeper, .buoys, .chans, .ts]) (d.modTide (Tide.delivering evs))
      ((d.modTide (Tide.delivering evs)).cascadeEvent ev.t ev.e) := (Within.refl _ _).cascadeEvent (fun _ => trivial) ⟨⟨rfl, rfl, rfl⟩, rfl⟩ rfl rfl rfl
  have h0 : Within deliverScope d (d.modTide (Tide.delivering evs)) := (Within.refl _ d).modTide rfl
  exact ⟨hw.tide, cascadeEvent_buoy ev.t ev.e (d.modTide (Tide.delivering evs)), h0.cascadeEvent (fun _ => trivial) ⟨⟨rfl, rfl, rfl⟩, rfl⟩ rfl rfl rfl⟩

/-! ### The frames -/

/-- What a lost link may change. -/
def missedScope : Scope := partScope [.regs, .bar4, .host, .watch, .keeper, .tide]

theorem missedScope_events : missedScope.Events := ⟨⟨rfl, rfl, rfl⟩, rfl⟩

theorem missedScope_eq (h : Within missedScope d d') : d' = { d with
    regs := d'.regs, bar4 := d'.bar4, host := d'.host, watch := d'.watch, keeper := d'.keeper, tide := d'.tide } := h.eq

theorem missNote_missedScope (l : Fin 5) (c : MissCause) (d : Dev) : Within missedScope d (d.missNote l c) := by
  have h0 : Within missedScope d (d.bump (linkOff l + 0x30) 0 16) := (Within.refl _ d).bump trivial rfl
  have h1 : Within missedScope d ((d.bump (linkOff l + 0x30) 0 16).modLink l (Link.misses c)) := h0.modLink rfl
  cases c with
  | absent => exact h1
  | crc => exact h1.bump trivial rfl
  | dir => exact h1.bump trivial rfl

theorem trySwap_rd {a : Nat} (ha : a ≠ 0x280020) (hlt : a < 0x2C1200) (d : Dev) : d.trySwap.rd a = d.rd a := by
  have h : Within enableScope d d.trySwap := (Within.refl _ d).trySwap (show (0x280020 : Nat) ∈ [0x280020] by decide) rfl rfl ⟨⟨rfl, rfl, rfl⟩, rfl⟩
  exact h.regs a (fun h => ha (List.mem_singleton.mp h)) (not_eventWord_of_lt hlt)

/-- The frames of one boundary. -/
theorem tideTx_fields (hon : d.tideOn = true) : ∃ v r o, tideTx d = (((d.modTide (Tide.speaking r o)).modTide (Tide.withLinks v)).modTide Tide.turned) ∧
    ∀ l, SendsOne l d (d.link l) ((tideTx d).link l) := by
  obtain ⟨r, o, hm⟩ := turnMsg_speaking d
  obtain ⟨⟨v, hv⟩, hl⟩ := linksTx_fields (toUs (d.tsNow d.cascTs)) (d.turnMsg.2.boundaryAt (toUs (d.tsNow d.cascTs))) d.turnMsg.1 d.turnMsg.2
  refine ⟨v, r, o, ?_, fun l => ?_⟩
  · rw [tideTx_eq hon, hv, hm]
  · rw [tideTx_eq hon]
    have h := hl l
    generalize forFin 5 _ _ = e at *
    obtain ⟨h1, h2, h3, h4, h5⟩ := h
    rw [hm] at h1 h2 h3 h4 h5
    refine ⟨h1, fun hs => ?_, h3, h4, h5⟩
    obtain ⟨f, hf, hs⟩ := h2 hs
    exact ⟨f, hf, hs.1, hs.2, hs.3, hs.4, hs.5, hs.6, hs.7, hs.8, hs.9⟩

/-- Settles O43: each frame of the cascade, and each event that it brings, has its effect. -/
theorem tideFrames : Obligations.TideFrames := by
  intro s
  refine ⟨fun hon => ?tx, fun l f hv => ?version, fun l f hst hon hv hdir => ?rx, fun l c hst hon => ⟨fun hm ha => ?plain, fun hm hs => ?fourth, fun hm ha => ?second⟩,
    fun e es h => ?deliver⟩
  case tx =>
    obtain ⟨v, r, o, he, hl⟩ := tideTx_fields hon
    refine ⟨_, exec_run (x := .tideFrameTx) (f := tideTx) rfl rfl, rfl, ?_⟩
    have hd : (tideTx s.dev).tide = ((s.dev.tide.speaking r o).withLinks v).turned := congrArg (fun d : Dev => d.tide) he
    refine ⟨?_, ?_, ?_, ?_, ?_, fun l hoff => (hl l).off hoff, fun l hne => ?_⟩
    · show tideTx s.dev = { s.dev with tide := (tideTx s.dev).tide }
      rw [he]
      rfl
    · exact congrArg Tide.turn hd
    · exact (congrArg Tide.role hd).trans rfl
    · exact (congrArg Tide.active hd).trans rfl
    · exact congrArg Tide.faults hd
    · obtain ⟨f, hf, hs⟩ := (hl l).sent hne
      exact ⟨f, hf, hs.version, hs.senderId, hs.senderLink, hs.dir, hs.mId, hs.lost, hs.path, hs.hops, hs.prio, (hl l).st, (hl l).missed, (hl l).last⟩
  case version =>
    refine exec_run (x := .tideFrameRx l f) (f := tideRx l f) (s := s) rfl (if_pos ?_)
    exact (Bool.or_eq_true _ _).mpr (.inr (decide_eq_true hv))
  case rx =>
    obtain ⟨y, hy, hh, hyst⟩ := tideRx_link hst hon hv hdir
    refine ⟨_, exec_run (x := .tideFrameRx l f) (f := tideRx l f) rfl rfl, rfl, ?_⟩
    dsimp only
    rw [hy.same]
    refine ⟨hh.missed, hh.good, hh.last, hh.dirErr, hyst, fun k hk => hy.ne hk, rxScope_eq (tideRx_within hst hon hv hdir), fun ha hr hup hu hhops hp hid => ?_⟩
    obtain ⟨ev, hc⟩ := tideRx_active hup hon hv hdir ha hr hu hhops hp hid
    simp only [Tide.core, Tide.coreOf, Prod.mk.injEq] at hc
    obtain ⟨hact, hrole, -, hev, hprio, hmid, hlost, hhop⟩ := hc
    exact ⟨hprio, hmid, hlost, hhop, hact.trans ha, hrole.trans hr, by rw [hev, List.length_append]; rfl⟩
  case plain =>
    obtain ⟨h30, hcrc, hdir⟩ := missNote_counts l c s.dev
    have hs := missNote_link l c s.dev
    have hw := missNote_within l c s.dev
    refine ⟨_, exec_run (x := .frameMissing l c) (f := missingFrame l c) rfl (missing_plain hst hon hm ha), rfl, missScope_eq hw, hw.keepsRegs fun _ h => h,
      h30, hcrc, hdir, hs.same, fun k hk => hs.ne hk, ?_⟩
    dsimp only
    rw [missNote_tide]
    rfl
  case fourth =>
    have hl := missNote_link l c s.dev
    have hst' : ((s.dev.missNote l c).link l).st = .cal ∨ ((s.dev.missNote l c).link l).st = .ranging ∨ ((s.dev.missNote l c).link l).st = .up := by
      rw [hl.same, show ((s.dev.link l).misses c).st = (s.dev.link l).st from rfl]
      cases h : (s.dev.link l).st <;> simp_all
    obtain ⟨hd, ha, -⟩ := linkLoss_fields hst'
    have hset := hl.trans hd
    refine ⟨_, exec_run (x := .frameMissing l c) (f := missingFrame l c) rfl (missing_fourth hst hon hm), rfl, ?_⟩
    dsimp only
    rw [hset.same]
    exact ⟨rfl, rfl, rfl, ha, fun k hk => hset.ne hk, missedScope_eq ((missNote_missedScope l c s.dev).linkLoss trivial trivial rfl rfl missedScope_events)⟩
  case second =>
    have hl := missNote_link l c s.dev
    have hact : (s.dev.missNote l c).tide.active = some l := (congrArg Tide.active (missNote_tide l c s.dev)).trans ha
    obtain ⟨hlinks, hrole, -, hactive⟩ := trySwap_fields hact
    have hset := hl.side hlinks
    have hlow := linkOff_le l
    refine ⟨_, exec_run (x := .frameMissing l c) (f := missingFrame l c) rfl (missing_second hst hon hm ha), rfl, ?_, fun k hk => hset.ne hk, ?_, ?_,
      (missNote_counts l c s.dev).1.after (trySwap_rd (by omega) (by omega) _), missedScope_eq ((missNote_missedScope l c s.dev).trySwap trivial rfl rfl missedScope_events)⟩
    · exact hset.same.trans (by unfold Link.misses; rw [hm])
    · exact hrole.trans ((congrArg Tide.role (missNote_tide l c s.dev)).trans rfl)
    · refine hactive.trans ?_
      rw [missNote_swapOk, show (s.dev.missNote l c).tide.role = s.dev.tide.role from (congrArg Tide.role (missNote_tide l c s.dev)).trans rfl]
  case deliver =>
    obtain ⟨ht, ⟨y, hy, hlast⟩, hw⟩ := cascDeliver_fields h
    exact ⟨_, exec_run (x := .cascadeEventDelivery) (f := cascDeliver) rfl rfl, rfl, ht, fun hon => (congrArg (fun b : Buoy => b.act.last) hy.same).trans (hlast hon),
      fun n hn => hy.ne hn, deliverScope_eq hw⟩

end Sys2Proof.Machine
end

section
/-! What the operations of a timing port leave of the ports, and what a port that leaves CAL or UP takes along. -/

namespace Sys2Proof.Machine

set_option Elab.async false

variable {S : Scope} {d d₀ d' : Dev} {p : Fin 8} {x : Port} {k : Fin 16}

/-! ### The ports after a change of one -/

/-- Of the ports, `d'` differs from `d` in port `p` alone, which is `x`. -/
def SetsPort (p : Fin 8) (x : Port) (d d' : Dev) : Prop := d'.ports = d.ports.set p x

theorem SetsPort.refl (p : Fin 8) (d : Dev) : SetsPort p (d.port p) d d := (set_get d.ports p).symm

theorem SetsPort.same (h : SetsPort p x d d') : d'.port p = x := (congrArg (·.get p) h).trans (get_set_same ..)

theorem SetsPort.ne (h : SetsPort p x d d') {q : Fin 8} (hq : q ≠ p) : d'.port q = d.port q := (congrArg (·.get q) h).trans (get_set_ne _ _ hq)

theorem SetsPort.side (h : SetsPort p x d₀ d) (hs : d'.ports = d.ports) : SetsPort p x d₀ d' := hs.trans h

theorem SetsPort.trans {y : Port} (h : SetsPort p x d₀ d) (h' : SetsPort p y d d') : SetsPort p y d₀ d' := by
  rw [SetsPort, h', h, Vector.set_set]

/-- Everything but the ports. -/
def asidePorts : Scope :=
  partScope [.regs, .bar4, .bar4Gen, .draws, .top, .chk, .host, .clk, .pwr, .watch, .keeper, .fw, .otp, .chart, .buoys, .pairs, .cycle, .chans,
    .lans, .outs, .vouts, .ts, .txts, .clients, .pilot, .tide]

theorem asidePorts_senses : asidePorts.Senses := ⟨⟨fun _ _ => trivial, ⟨⟨rfl, rfl, rfl⟩, rfl⟩, rfl, rfl, rfl, rfl, rfl⟩, rfl, rfl, rfl⟩

theorem SetsPort.within (h : SetsPort p x d₀ d) (hw : Within asidePorts d d') : SetsPort p x d₀ d' := h.side hw.ports

theorem SetsPort.modPort (h : SetsPort p x d₀ d) {f : Port → Port} : SetsPort p (f x) d₀ (d.modPort p f) := by
  have he : (d.modPort p f).ports = d.ports.set p (f (d.port p)) := rfl
  rw [SetsPort, he, h.same, h, Vector.set_set]

/-- A device with another port `p`. -/
def Dev.withPort (p : Fin 8) (x : Port) (d : Dev) : Dev := { d with ports := d.ports.set p x }

theorem modPort_eq (p : Fin 8) (g : Port → Port) (d : Dev) : d.modPort p g = d.withPort p (g (d.port p)) := rfl

theorem withPort_port_same (p : Fin 8) (x : Port) (d : Dev) : (d.withPort p x).port p = x := get_set_same ..

theorem withPort_port_ne {j : Fin 8} (h : j ≠ p) (x : Port) (d : Dev) : (d.withPort p x).port j = d.port j := get_set_ne _ _ h

theorem modPort_withPort (p : Fin 8) (g : Port → Port) (x : Port) (d : Dev) : (d.withPort p x).modPort p g = d.withPort p (g x) := by
  rw [modPort_eq, withPort_port_same]
  unfold Dev.withPort
  rw [Vector.set_set]

/-- The port in another state. -/
def Port.to (st : PortState) (x : Port) : Port := { x with st := st }

theorem SetsPort.portTo (h : SetsPort p x d₀ d) {st : PortState} {row : Nat} : SetsPort p (x.to st) d₀ (d.portTo p st row) :=
  (h.modPort (f := Port.to st)).within (Within.refl _ _).stateEv.loadRefresh

theorem portState_code_inj {a b : PortState} (h : a.code = b.code) : a = b := by cases a <;> cases b <;> first | rfl | exact absurd h (by decide)

theorem portTo_seq {st : PortState} (h : (d.port p).st ≠ st) (row : Nat) : ((d.portTo p st row).ring 8).seq = (d.ring 8).seq + 1 := by
  have hl := loadRefresh_eq ((d.modPort p fun x => { x with st := st }).stateEv 12 0 p (d.port p).st.code st.code row 0xFF)
  have hr : ((d.portTo p st row).ring 8).seq = _ := congrArg (fun e : Dev => (e.ring 8).seq) hl
  exact hr.trans ((stateEv_seq (fun e => h (portState_code_inj e)) ..).trans rfl)

/-! ### Words of the ports -/

/-- A word that OVERLOAD rests on. -/
def LoadWord (a : Nat) : Prop := ∃ p : Fin 8, a = psrvOff p ∨ a = portOff p

theorem LoadWord.lt {a : Nat} (h : LoadWord a) : 0x200000 ≤ a ∧ a < 0x212000 := by
  obtain ⟨p, rfl | rfl⟩ := h <;> simp only [psrvOff, portOff] <;> omega

theorem LoadWord.srv (p : Fin 8) : LoadWord (psrvOff p) := ⟨p, .inl rfl⟩

theorem LoadWord.cfg (p : Fin 8) : LoadWord (portOff p) := ⟨p, .inr rfl⟩

/-- OVERLOAD after an operation whose registers are no word that it rests on, and that leaves the states of the ports. -/
theorem Within.overload (h : Within S d d') (hreg : ∀ a, LoadWord a → ¬ S.reg a) (hst : ∀ p, (d'.port p).st = (d.port p).st)
    (hts : S.parts.elem .ts = false := by rfl) (hpilot : S.parts.elem .pilot = false := by rfl) (hpwr : S.parts.elem .pwr = false := by rfl)
    (hclk : S.parts.elem .clk = false := by rfl) (htop : S.parts.elem .top = false := by rfl) : d'.overload = d.overload :=
  have hrd (a : Nat) (ha : LoadWord a) : d'.rd a = d.rd a := h.regs a (hreg a ha) (not_eventWord_of_lt (by have := ha.lt; omega))
  overload_of (fun p => hrd _ (.srv p)) (fun p => hrd _ (.cfg p)) hst (h.same .ts hts) (h.same .pilot hpilot) (h.same .pwr hpwr)
    (h.same .clk hclk) (h.same .top htop)

/-! ### A port that leaves CAL or UP -/

/-- A word that a port leaving CAL or UP writes: of the channels and outputs, of its slot, its count of losses, and the count and the head of
the results that were lost. -/
def LeaveWord (a : Nat) : Prop :=
  (0x100000 ≤ a ∧ a < 0x200000) ∨ SlotWord a ∨ (∃ p : Fin 8, a = portOff p + 0xA0) ∨ a = 0x208024 ∨ a = 0x208028

theorem LoadWord.not_leaveWord {a : Nat} (h : LoadWord a) : ¬ LeaveWord a := by
  intro hl
  obtain ⟨p, h⟩ := h
  obtain hl | hl | ⟨q, hl⟩ | hl | hl := hl
  · obtain rfl | rfl := h <;> simp only [psrvOff, portOff] at hl <;> omega
  · have := hl.lt
    obtain rfl | rfl := h <;> simp only [psrvOff, portOff] at this <;> omega
  all_goals obtain rfl | rfl := h <;> simp only [psrvOff, portOff] at hl <;> omega

/-- What a port that has left CAL or UP takes along: the Pilot-overload source stays. -/
def leaveScope : Scope := ⟨[.regs, .bar4, .host, .keeper, .watch, .chans, .lans, .outs, .vouts, .buoys, .pairs, .tide, .ports, .txts, .clients],
  LeaveWord, true, true, false, fun h => absurd h (by decide)⟩

theorem leaveScope_links : leaveScope.Links :=
  ⟨⟨⟨fun _ h => h.elim .inl fun h => .inr (.inl h), ⟨⟨rfl, rfl, rfl⟩, rfl⟩, rfl, rfl, rfl, rfl, rfl⟩, rfl, rfl, rfl⟩, ⟨⟨rfl, rfl, rfl⟩, rfl, rfl⟩, rfl, rfl, rfl,
    fun p => .inr (.inr (.inl ⟨p, rfl⟩)), .inr (.inr (.inr (.inl rfl))), .inr (.inr (.inr (.inr rfl)))⟩

theorem portLeft_within (p : Fin 8) (old : PortState) (d : Dev) : Within leaveScope d (d.portLeft p old) := (Within.refl _ d).portLeft leaveScope_links

theorem portLeft_cal (p : Fin 8) (d : Dev) : d.portLeft p .cal = Machine.slotLoss (syncSlot p) d := rfl

theorem portLeft_up (p : Fin 8) (d : Dev) : d.portLeft p .up = ((Machine.slotLoss (syncSlot p) d).portEmptied p).clientsDown p := rfl

/-! ### The port -/

/-- The port without its frames and its settling window. -/
def Port.emptied (now : Bucket → Bucket) (x : Port) : Port :=
  { x with buckets := x.buckets.map (fun e => (e.1, now e.2)), untouched := now x.untouched, settling := false, txq := [] }

theorem SetsPort.slotLoss (h : SetsPort p x d₀ d) {n : Fin 64} : SetsPort p x d₀ (slotLoss n d) :=
  h.within ((Within.refl _ d).slotLoss asidePorts_senses)

theorem SetsPort.portEmptied (h : SetsPort p x d₀ d) : ∃ now, SetsPort p (x.emptied now) d₀ (d.portEmptied p) := by
  have h1 : SetsPort p x d₀ (d.bump (portOff p + 0xA0) 16 16) := h.side rfl
  have h2 : SetsPort p _ d₀ ((d.bump (portOff p + 0xA0) 16 16).bucketsSync p) := h1.modPort
  have h3 := (h2.modPort (f := fun x => { x with settling := false })).modPort (f := fun x => { x with txq := [] })
  exact ⟨(d.bump (portOff p + 0xA0) 16 16).bucketNow p, h3.within (Within.refl _ _).txLosts⟩

theorem SetsPort.clientsDown (h : SetsPort p x d₀ d) {q : Fin 8} : SetsPort p x d₀ (d.clientsDown q) := h.within (Within.refl _ d).clientsDown

/-- Of a port that has left its state, at most its frames, buckets and settling window change. -/
theorem SetsPort.portLeft (h : SetsPort p x d₀ d) (old : PortState) : ∃ y, SetsPort p y d₀ (d.portLeft p old) ∧
    (y = x ∧ old ≠ .up ∨ (∃ now, y = x.emptied now) ∧ old = .up) := by
  cases old with
  | off => exact ⟨x, h, .inl ⟨rfl, by decide⟩⟩
  | down => exact ⟨x, h, .inl ⟨rfl, by decide⟩⟩
  | cal => exact ⟨x, portLeft_cal p d ▸ h.slotLoss, .inl ⟨rfl, by decide⟩⟩
  | up =>
    obtain ⟨now, hn⟩ := (h.slotLoss (n := syncSlot p)).portEmptied
    exact ⟨_, portLeft_up p d ▸ hn.clientsDown, .inr ⟨⟨now, rfl⟩, rfl⟩⟩

theorem portLeft_st (h : SetsPort p x d₀ d) (old : PortState) (q : Fin 8) : ((d.portLeft p old).port q).st = (d.port q).st := by
  obtain ⟨y, hy, hc⟩ := h.portLeft old
  by_cases hq : q = p
  · subst hq
    rw [hy.same, h.same]
    obtain ⟨rfl, -⟩ | ⟨⟨now, rfl⟩, -⟩ := hc <;> rfl
  · rw [hy.ne hq, h.ne hq]

/-- The Pilot-overload source after a port has left its state. -/
theorem portLeave_load (p : Fin 8) (st : PortState) (row : Nat) (d : Dev) :
    ((d.portLeave p st row).source 146).cond = (d.portLeave p st row).overload := by
  rw [portLeave_eq]
  have h0 : ((d.portTo p st row).source 146).cond = (d.portTo p st row).overload := loadRefresh_follows _
  have h1 := (SetsPort.refl p d).portTo (st := st) (row := row)
  generalize d.portTo p st row = e at h0 h1 ⊢
  have hw := portLeft_within p (d.port p).st e
  rw [hw.load rfl, h0, hw.overload (fun _ h => h.not_leaveWord) (portLeft_st h1 _)]

/-! ### The slot -/

theorem portLeft_slot {old : PortState} (h : old = .cal ∨ old = .up) (d : Dev) : ((d.portLeft p old).buoy (syncSlot p)).act.st = .down := by
  obtain ⟨x, hx, hst⟩ := slotLoss_lost (syncSlot p) d
  obtain rfl | rfl := h
  · rw [portLeft_cal, hx.same, hst]
  · have hw : Within (looseScope [.regs, .bar4, .host, .keeper, .watch, .ports, .txts, .clients] [portOff p + 0xA0, 0x208024, 0x208028])
        (Machine.slotLoss (syncSlot p) d) (d.portLeft p .up) := by
      have h0 : Within (looseScope [.regs, .bar4, .host, .keeper, .watch, .ports, .txts, .clients] [portOff p + 0xA0, 0x208024, 0x208028])
          (Machine.slotLoss (syncSlot p) d) (Machine.slotLoss (syncSlot p) d) := .refl _ _
      exact (h0.portEmptied (.head _) (.tail _ (.head _)) (.tail _ (.tail _ (.head _))) rfl rfl rfl ⟨⟨rfl, rfl, rfl⟩, rfl, rfl⟩).clientsDown rfl
        ⟨⟨rfl, rfl, rfl⟩, rfl⟩
    rw [Dev.buoy, hw.buoys]
    exact (congrArg (fun b : Buoy => b.act.st) hx.same).trans hst

/-! ### The clients -/

/-- What a client's change of state and its events may change. -/
def clientScope : Scope := lowScope [.regs, .bar4, .host, .keeper, .clients] []

theorem clientTo_client (k : Fin 16) (st : ClState) (row : Nat) (d : Dev) : (d.clientTo k st row).clients = d.clients.set k { d.client k with st := st } :=
  ((Within.refl (lowScope [.regs, .bar4, .host, .keeper] []) (d.modClient k fun x => { x with st := st })).stateEv (hS := ⟨⟨rfl, rfl, rfl⟩, rfl⟩)).clients

/-- A client whose port has left UP listens, and the others are as they were. -/
theorem clientPortDown_client (k : Fin 16) (d : Dev) :
    ((d.clientPortDown k).client k).st = (if (d.client k).st = .disabled then .disabled else .listening) ∧
    (∀ j, j ≠ k → (d.clientPortDown k).client j = d.client j) ∧ Within clientScope d (d.clientPortDown k) := by
  refine ⟨?_, fun j hj => ?_, (Within.refl clientScope d).clientPortDown rfl ⟨⟨rfl, rfl, rfl⟩, rfl⟩⟩
  · unfold Dev.clientPortDown
    by_cases h : (d.client k).st = .disabled
    · rw [if_pos h, if_pos h, h]
    · rw [if_neg h, if_neg h, Dev.client, clientTo_client, get_set_same]
  · unfold Dev.clientPortDown
    split
    · rfl
    · rw [Dev.client, clientTo_client, get_set_ne _ _ hj]
      exact modClient_client_ne _ _ hj

theorem clientsDown_client (p : Fin 8) (d : Dev) (k : Fin 16) : ((d.clientsDown p).client k).st =
    if d.clientPort k = p ∧ (d.client k).st ≠ .disabled then .listening else (d.client k).st := by
  refine forFin_object (get := fun k (e : Dev) => e.client k) (I := fun e => ∀ j : Fin 16, e.clientPort j = d.clientPort j)
    (R := fun k (a b : Client) => b.st = if d.clientPort k = p ∧ a.st ≠ .disabled then .listening else a.st) (fun j e he => ?_) (fun _ => rfl) k
  obtain ⟨hst, hne, hw⟩ := clientPortDown_client j e
  unfold onlyIf
  rw [he j]
  by_cases hp : d.clientPort j = p
  · rw [if_pos (decide_eq_true hp)]
    refine ⟨?_, hne, fun i => ?_⟩
    · rw [hst]
      by_cases hd : (e.client j).st = .disabled
      · rw [if_pos hd, if_neg fun h => h.2 hd, hd]
      · rw [if_neg hd, if_pos ⟨hp, hd⟩]
    · rw [← he i, Dev.clientPort, Dev.rdF, hw.regs _ List.not_mem_nil (not_eventWord_of_lt (by omega)), Dev.clientPort, Dev.rdF]
  · rw [if_neg (by simp [hp])]
    exact ⟨by rw [if_neg fun h => hp h.1], fun _ _ => rfl, he⟩

/-! ### TX rings -/

/-- A ring after a change of its bit was looked at. -/
def Ring.noticed (sig : Option Nat) (wait : Bool) (g : Ring) : Ring := { g with signalled := sig, itrWait := wait }

theorem signal_ring (r : Fin 26) (d : Dev) : (d.signal r).ring r = (d.ring r).noticed (some d.clk.aonUs) false ∧
    ∀ q, q ≠ r → (d.signal r).ring q = d.ring q := by
  refine ⟨?_, fun q hq => ?_⟩
  · rw [Dev.signal, modRing_ring_same, vectorSignal_ring]
    rfl
  · rw [Dev.signal, modRing_ring_ne _ _ hq, vectorSignal_ring]

/-- What a change of a ring leads to leaves its entries, its indices and the other rings. -/
theorem notice_ring (r : Fin 26) (was new : Bool) (d : Dev) : (∃ sig wait, (d.notice r was new).ring r = (d.ring r).noticed sig wait) ∧
    ∀ q, q ≠ r → (d.notice r was new).ring q = d.ring q := by
  have hs : (∃ sig wait, (d.signal r).ring r = (d.ring r).noticed sig wait) ∧ ∀ q, q ≠ r → (d.signal r).ring q = d.ring q :=
    ⟨⟨_, _, (signal_ring r d).1⟩, (signal_ring r d).2⟩
  have hm : ∀ wait, (∃ sig w, (d.modRing r fun g => { g with itrWait := wait }).ring r = (d.ring r).noticed sig w) ∧
      ∀ q, q ≠ r → (d.modRing r fun g => { g with itrWait := wait }).ring q = d.ring q := fun wait =>
    ⟨⟨_, _, (modRing_ring_same ..).trans rfl⟩, fun q hq => modRing_ring_ne _ _ hq⟩
  unfold Dev.notice
  split
  · exact hm false
  split
  · exact hs
  split
  · exact ⟨⟨_, _, rfl⟩, fun _ _ => rfl⟩
  extract_lets itr
  split
  · split
    · exact hs
    · exact hm true
  · exact hs

/-- What a DONE word changes. -/
def doneScope : Scope := looseScope [.bar4, .host] []

theorem txDone_within (p : Fin 8) (slot : TxSlot) (n : Nat) (d : Dev) : Within doneScope d (d.txDone p slot n) :=
  (Within.refl _ d).txDone ⟨rfl, rfl, rfl⟩

/-- A DONE word counts its slot in its ring while the ring is enabled. -/
theorem txDone_ring (p : Fin 8) (slot : TxSlot) (n : Nat) (d : Dev) :
    ((d.txDone p slot n).ring (txRing p)).fetched = (d.ring (txRing p)).fetched ∧
    (d.ringEn (txRing p) = true → ((d.txDone p slot n).ring (txRing p)).done = (d.ring (txRing p)).done ++ [slot.index]) ∧
    ∀ q, q ≠ txRing p → (d.txDone p slot n).ring q = d.ring q := by
  unfold Dev.txDone
  extract_lets r d1 was
  have h1 : ∀ q, d1.ring q = d.ring q := memWrite_ring _ _ _ d
  have hen : d1.ringEn r = d.ringEn r := congrArg (fun w => bit w 31) (rd_of_regs ((((Within.refl doneScope d).memWrite ⟨rfl, rfl, rfl⟩)).same .regs rfl) _)
  split
  next he =>
    obtain ⟨⟨sig, wait, hr⟩, hne⟩ := notice_ring r was true (d1.modRing r fun g => { g with done := g.done ++ [slot.index] })
    refine ⟨?_, fun _ => ?_, fun q hq => ?_⟩
    · rw [hr, modRing_ring_same, h1]
      rfl
    · rw [hr, modRing_ring_same, h1]
      rfl
    · rw [hne q hq, modRing_ring_ne _ _ hq, h1]
  next he => exact ⟨congrArg Ring.fetched (h1 r), fun h => absurd (hen.trans h) he, fun q _ => h1 q⟩

/-- The set-up of a TX ring stands in registers. -/
theorem txSlot_of_regs (h : d'.regs = d.regs) (p : Fin 8) (i : Nat) : d'.txSlot p i = d.txSlot p i := by
  have hr := rd_of_regs h
  rw [Dev.txSlot, Dev.txSlot, Dev.ringBar4, Dev.ringBar4, Dev.entryAddr, Dev.entryAddr, Dev.ringBase, Dev.ringBase, hr, hr, hr]

/-- The port with more committed frames. -/
def Port.queued (l : List TxFrame) (x : Port) : Port := { x with txq := x.txq ++ l }

/-- One fetched descriptor is committed. -/
def Dev.commitOne (p : Fin 8) (d : Dev) (e : Nat × List Word) : Dev :=
  match txDesc (d.txSlot p e.1) e.2 with
  | some f => d.modPort p fun x => { x with txq := x.txq ++ [f] }
  | none => d.txDone p (d.txSlot p e.1) 4

theorem txCommit_up (h : (d.port p).st = .up) : d.txCommit p =
    (d.ring (txRing p)).fetched.foldl (Dev.commitOne p) (d.modRing (txRing p) fun g => { g with fetched := [] }) := if_pos h

/-- Fetched descriptors are committed in their order. -/
theorem commits_port (l : List (Nat × List Word)) : ∀ {d : Dev} {x : Port}, SetsPort p x d₀ d → d.regs = d₀.regs →
    SetsPort p (x.queued (l.filterMap fun e => txDesc (d₀.txSlot p e.1) e.2)) d₀ (l.foldl (Dev.commitOne p) d) ∧
    ((l.foldl (Dev.commitOne p) d).ring (txRing p)).fetched = (d.ring (txRing p)).fetched := by
  induction l with
  | nil => exact fun h _ => ⟨by rw [Port.queued, List.filterMap_nil, List.append_nil]; exact h, rfl⟩
  | cons e l ih =>
    intro d x h hr
    have ht := txSlot_of_regs hr p e.1
    rw [List.foldl_cons, List.filterMap_cons]
    unfold Dev.commitOne
    rw [ht]
    cases hd : txDesc (d₀.txSlot p e.1) e.2 with
    | some f =>
      obtain ⟨h1, h2⟩ := ih (h.modPort (f := Port.queued [f])) hr
      refine ⟨?_, h2⟩
      rw [Port.queued, Port.queued, List.append_assoc] at h1
      exact h1
    | none =>
      have hw := txDone_within p (d₀.txSlot p e.1) 4 d
      obtain ⟨h1, h2⟩ := ih (h.side hw.ports) (Eq.trans (hw.same .regs rfl) hr)
      exact ⟨h1, h2.trans (txDone_ring ..).1⟩

end Sys2Proof.Machine
end

section
/-! The states of the timing ports (chapter 9, Table 9-2). -/

namespace Sys2Proof.Machine

set_option Elab.async false

variable {d d' : Dev} {p : Fin 8} {s : State} {x : Port}

theorem syncSlot_word {k : Nat} (p : Fin 8) (hk : k < 0x200 := by decide) : buoyOff (syncSlot p) + k < 0x2C1200 := by
  simp only [buoyOff, syncSlot]
  omega

/-! ### Link up -/

/-- The rate words of the port's slot. -/
def rateWords (p : Fin 8) : List Nat := [buoyOff (syncSlot p) + 4, buoyOff (syncSlot p) + 8, buoyOff (syncSlot p) + 0xC]

theorem rateWords_quiet (p : Fin 8) : ∀ a ∈ rateWords p, ¬ CfgWord a := by
  simp only [rateWords, List.forall_mem_cons, List.not_mem_nil, false_implies, implies_true, and_true]
  exact ⟨not_cfgWord_of_lt (syncSlot_word p), not_cfgWord_of_lt (syncSlot_word p), not_cfgWord_of_lt (syncSlot_word p)⟩

def upScope (p : Fin 8) : Scope := eventScope [.regs, .bar4, .host, .keeper, .ports, .watch] (rateWords p) (rateWords_quiet p)

theorem upScope_eq (h : Within (upScope p) d d') :
    d' = { d with regs := d'.regs, bar4 := d'.bar4, host := d'.host, keeper := d'.keeper, ports := d'.ports, watch := d'.watch } := h.eq

theorem Within.syncRate {S : Scope} {d₀ : Dev} (h : Within S d₀ d) (h4 : S.reg (buoyOff (syncSlot p) + 4)) (h8 : S.reg (buoyOff (syncSlot p) + 4 + 4))
    (hC : S.reg (buoyOff (syncSlot p) + 0xC)) (hr : S.Has .regs) : Within S d₀ (d.syncRate p) :=
  .ite (fun _ => h.setRate h4 h8 hC) fun _ => h.setRate h4 h8 hC

theorem syncRate_reads (p : Fin 8) (d : Dev) :
    (d.syncRate p).rdU40 (buoyOff (syncSlot p) + 4) = (if d.portRate p = 0 then 125000000 else 156250000) ∧
    (d.syncRate p).rdF (buoyOff (syncSlot p) + 0xC) 0 16 = 1 ∧
    (d.syncRate p).rdF (buoyOff (syncSlot p) + 0xC) 16 16 = (if d.portRate p = 0 then 0 else 1) := by
  unfold Dev.syncRate
  split
  · exact setRate_reads (by decide) (by decide) (by decide) _ d
  · exact setRate_reads (by decide) (by decide) (by decide) _ d

/-- The receiver of a port whose link is up. -/
def Port.lit (fec : Bool) (x : Port) : Port := { x with cdr := true, pcs := true, fec := fec, hiBer := false }

theorem portLinkUp_eq (hst : (d.port p).st = .down) (hxo : d.clk.xo = true) (hsh : d.shed = false) (hb : d.blockReady 12 = true) :
    portLinkUp p d = ((d.modPort p (Port.lit (bit (d.portCfg p) 28))).syncRate p).portTo p .cal 5 :=
  if_pos (by simp [hst, hxo, hsh, hb])

theorem portLinkUp_state (hst : (s.dev.port p).st = .down) (hxo : s.dev.clk.xo = true) (hsh : s.dev.shed = false) (hb : s.dev.blockReady 12 = true) :
    ∃ t, exec (.portLinkUp p) s = .next t ∧ t.pending = s.pending ∧
      t.dev.port p = { s.dev.port p with st := .cal, cdr := true, pcs := true, fec := bit (s.dev.portCfg p) 28, hiBer := false } ∧
      (∀ q, q ≠ p → t.dev.port q = s.dev.port q) ∧
      t.dev.rdU40 (buoyOff (syncSlot p) + 4) = (if s.dev.portRate p = 0 then 125000000 else 156250000) ∧
      t.dev.rdF (buoyOff (syncSlot p) + 0xC) 0 16 = 1 ∧
      t.dev.rdF (buoyOff (syncSlot p) + 0xC) 16 16 = (if s.dev.portRate p = 0 then 0 else 1) ∧
      (t.dev.source 146).cond = t.dev.overload ∧
      t.dev = { s.dev with regs := t.dev.regs, bar4 := t.dev.bar4, host := t.dev.host, keeper := t.dev.keeper, ports := t.dev.ports,
                           watch := t.dev.watch } ∧
      EventFrame [buoyOff (syncSlot p) + 4, buoyOff (syncSlot p) + 8, buoyOff (syncSlot p) + 0xC] s.dev t.dev ∧
      (t.dev.ring 8).seq = (s.dev.ring 8).seq + 1 := by
  have hx := exec_run (x := .portLinkUp p) (f := portLinkUp p) rfl (portLinkUp_eq hst hxo hsh hb)
  have h1 : Within (upScope p) s.dev (s.dev.modPort p (Port.lit (bit (s.dev.portCfg p) 28))) := (Within.refl (upScope p) _).modPort
  have h2 := h1.syncRate (p := p) (.head _) (.tail _ (.head _)) (.tail _ (.tail _ (.head _))) rfl
  have hp := (SetsPort.refl p s.dev).modPort (f := Port.lit (bit (s.dev.portCfg p) 28))
  have hp2 : SetsPort p _ s.dev ((s.dev.modPort p (Port.lit (bit (s.dev.portCfg p) 28))).syncRate p) :=
    hp.within ((Within.refl asidePorts _).syncRate trivial trivial trivial rfl)
  obtain ⟨h4, hC, hC'⟩ := syncRate_reads p (s.dev.modPort p (Port.lit (bit (s.dev.portCfg p) 28)))
  have hrate : (s.dev.modPort p (Port.lit (bit (s.dev.portCfg p) 28))).portRate p = s.dev.portRate p := rfl
  have hhost : ((s.dev.modPort p (Port.lit (bit (s.dev.portCfg p) 28))).syncRate p).host = s.dev.host :=
    ((Within.refl (partScope [.regs]) _).syncRate (p := p) trivial trivial trivial rfl).host
  rw [hrate] at h4 hC'
  generalize (s.dev.modPort p (Port.lit (bit (s.dev.portCfg p) 28))).syncRate p = e at hx h2 hp2 h4 hC hC' hhost
  have h3 : Within (upScope p) s.dev (e.portTo p .cal 5) := h2.portTo
  have hto : Within (lowScope [.regs, .bar4, .host, .keeper, .ports, .watch] []) e (e.portTo p .cal 5) :=
    (Within.refl (lowScope [.regs, .bar4, .host, .keeper, .ports, .watch] []) e).portTo rfl rfl ⟨⟨rfl, rfl, rfl⟩, rfl⟩
  have hrd (k : Nat) (hk : k < 0x200) : (e.portTo p .cal 5).rd (buoyOff (syncSlot p) + k) = e.rd (buoyOff (syncSlot p) + k) :=
    hto.below _ List.not_mem_nil (syncSlot_word p hk)
  have hp3 : SetsPort p { s.dev.port p with st := .cal, cdr := true, pcs := true, fec := bit (s.dev.portCfg p) 28, hiBer := false } s.dev
    (e.portTo p .cal 5) := hp2.portTo
  refine ⟨_, hx, rfl, hp3.same, fun q hq => hp3.ne hq, ?_, ?_, ?_, loadRefresh_follows _, upScope_eq h3, h3.eventFrame rfl fun _ h => h, ?_⟩
  · exact (rdU40_of_rd (hrd 4 (by decide)) (hrd 8 (by decide))).trans h4
  · exact (congrArg (fld · 0 16) (hrd 0xC (by decide))).trans hC
  · exact (congrArg (fld · 16 16) (hrd 0xC (by decide))).trans hC'
  · refine (portTo_seq ?_ 5).trans (congrArg (fun r : Ring => r.seq + 1) (ring_of_host hhost 8))
    rw [hp2.same]
    exact fun h => absurd (hst.symm.trans h) (by decide)

/-! ### Calibration -/

/-- The port with its settling window open and its buckets full. -/
def Port.calibrated (settling : Bool) (full : Bucket) (ssm : BitVec 4) (x : Port) : Port :=
  { x with settling := settling, buckets := [], untouched := full, ssmSent := ssm }

/-- The calibrated port about to enter UP. -/
def Dev.portReady (p : Fin 8) (tx rx : Word) (d : Dev) : Dev :=
  (d.portDelays p tx rx).modPort p
    (Port.calibrated (d.rdF (0x211010 + 0x100 * p) 26 6 ≠ 0) ⟨d.bwBurst p * 1000000, d.clk.tbUs⟩ (d.ssmNow p))

theorem portSource_ne_load (p : Fin 8) : portSource p ≠ 146 := fun h => by
  have : 136 + p.val = 146 := congrArg Fin.val h
  omega

/-- What the end of a calibration changes. -/
def calScope (p : Fin 8) : Scope := looseScope [.regs, .bar4, .host, .watch, .keeper, .ports] [portOff p + 0x84, portOff p + 0x88]

theorem calScope_eq (h : Within (calScope p) d d') :
    d' = { d with regs := d'.regs, bar4 := d'.bar4, host := d'.host, watch := d'.watch, keeper := d'.keeper, ports := d'.ports } := h.eq

theorem calScope_events (p : Fin 8) : (calScope p).Events := ⟨⟨rfl, rfl, rfl⟩, rfl⟩

/-- The port enters UP: its event, and its source no longer holds. -/
def Dev.portEnters (p : Fin 8) (d : Dev) : Dev := (d.portTo p .up 6).setCond (portSource p) p false

theorem portCalDone_eq (h : (d.port p).st = .cal) (tx rx : Word) : portCalDone p tx rx d = ((d.portReady p tx rx).portEnters p).txCommit p := if_pos h

theorem Within.portEnters {S : Scope} {d₀ : Dev} (h : Within S d₀ d) (hp : S.Has .ports) (hw : S.Has .watch) (hE : S.Events) (hl : S.load = true) :
    Within S d₀ (d.portEnters p) := h.portTo.setCond hw (.inl (portSource_ne_load p))

theorem portEnters_fields (p : Fin 8) (d : Dev) : SetsPort p ((d.port p).to .up) d (d.portEnters p) ∧
    ((d.portEnters p).source 146).cond = (d.portEnters p).overload ∧ ((d.portEnters p).source (portSource p)).cond = false := by
  have hload : ((d.portTo p .up 6).source 146).cond = (d.portTo p .up 6).overload := loadRefresh_follows _
  have hp := (SetsPort.refl p d).portTo (st := .up) (row := 6)
  unfold Dev.portEnters
  generalize d.portTo p .up 6 = u at hload hp
  have hq : Within ⟨[.watch], fun _ => False, true, true, false, fun h => absurd h (by decide)⟩ u (u.setCond (portSource p) p false) :=
    (Within.refl _ u).setCond rfl (.inl (portSource_ne_load p))
  refine ⟨hp.side hq.ports, ?_, setCond_cond ..⟩
  rw [hq.load rfl, hload]
  exact (hq.overload (fun _ _ h => h) fun q => by rw [Dev.port, hq.ports, Dev.port]).symm

theorem portDelays_reads (p : Fin 8) (tx rx : Word) (d : Dev) :
    (d.portDelays p tx rx).rd (portOff p + 0x84) = tx ∧ (d.portDelays p tx rx).rd (portOff p + 0x88) = rx :=
  ⟨(rd_wr_ne _ _ (by omega)).trans (rd_wr_same ..), rd_wr_same ..⟩

theorem portCalDone_state (h : (s.dev.port p).st = .cal) (tx rx : Word) : ∃ t, exec (.portCalDone p tx rx) s = .next t ∧ t.pending = s.pending ∧
    t.dev.port p = { s.dev.port p with
      st := .up, settling := decide (s.dev.rdF (0x211010 + 0x100 * p) 26 6 ≠ 0), buckets := [],
      untouched := ⟨s.dev.bwBurst p * 1000000, s.dev.clk.tbUs⟩, ssmSent := s.dev.ssmNow p,
      txq := (s.dev.port p).txq ++ (s.dev.ring (txRing p)).fetched.filterMap fun e => txDesc (s.dev.txSlot p e.1) e.2 } ∧
    (t.dev.source 146).cond = t.dev.overload ∧ (t.dev.ring (txRing p)).fetched = [] ∧
    (∀ q, q ≠ p → t.dev.port q = s.dev.port q) ∧ t.dev.rd (portOff p + 0x84) = tx ∧ t.dev.rd (portOff p + 0x88) = rx ∧
    KeepsRegs [portOff p + 0x84, portOff p + 0x88] s.dev t.dev ∧ (t.dev.source (portSource p)).cond = false ∧
    t.dev = { s.dev with regs := t.dev.regs, bar4 := t.dev.bar4, host := t.dev.host, watch := t.dev.watch,
                         keeper := t.dev.keeper, ports := t.dev.ports } := by
  have hx := exec_run (x := .portCalDone p tx rx) (f := portCalDone p tx rx) rfl (portCalDone_eq h tx rx)
  have h1 : Within (calScope p) s.dev (s.dev.portReady p tx rx) := (((Within.refl (calScope p) s.dev).wr (.head _)).wr (.tail _ (.head _))).modPort
  have hp1 : SetsPort p _ s.dev (s.dev.portReady p tx rx) := ((SetsPort.refl p s.dev).side (d' := s.dev.portDelays p tx rx) rfl).modPort
  obtain ⟨htx, hrx⟩ := portDelays_reads p tx rx s.dev
  have htx : (s.dev.portReady p tx rx).rd (portOff p + 0x84) = tx := htx
  have hrx : (s.dev.portReady p tx rx).rd (portOff p + 0x88) = rx := hrx
  have hhost : (s.dev.portReady p tx rx).host = s.dev.host := rfl
  generalize s.dev.portReady p tx rx = e at hx h1 hp1 htx hrx hhost
  have hl : Within (lowScope [.regs, .bar4, .host, .keeper, .ports, .watch] []) e (e.portEnters p) :=
    (Within.refl _ e).portEnters rfl rfl ⟨⟨rfl, rfl, rfl⟩, rfl⟩ rfl
  have hc : Within (calScope p) s.dev (e.portEnters p) := h1.portEnters rfl rfl (calScope_events p) rfl
  obtain ⟨hpe, hload, hcond⟩ := portEnters_fields p e
  have hpu := hp1.trans hpe
  rw [hp1.same] at hpu
  generalize e.portEnters p = u at hx hl hc hpu hload hcond
  have hst : (u.port p).st = .up := by rw [hpu.same]; rfl
  have hring : u.ring (txRing p) = s.dev.ring (txRing p) := by
    have hne8 : txRing p ≠ 8 := fun h => by have : 10 + p.val = 8 := congrArg Fin.val h; omega
    have hne9 : txRing p ≠ 9 := fun h => by have : 10 + p.val = 9 := congrArg Fin.val h; omega
    exact ((hl.io rfl).rings _ hne8 hne9).trans (ring_of_host hhost _)
  have hslot (i : Nat) : u.txSlot p i = s.dev.txSlot p i := by
    have hr (k : Nat) (hk : k = 0 ∨ k = 4 ∨ k = 8) : u.rd (ringOff (txRing p) + k) = s.dev.rd (ringOff (txRing p) + k) := by
      refine hc.regs _ ?_ ?_
      · simp only [calScope, looseScope, List.mem_cons, List.not_mem_nil, ringOff, txRing, portOff, or_false]
        omega
      · simp only [EventWord, ringOff, txRing]
        omega
    rw [Dev.txSlot, Dev.txSlot, Dev.ringBar4, Dev.ringBar4, Dev.entryAddr, Dev.entryAddr, Dev.ringBase, Dev.ringBase, hr 8 (by decide), hr 4 (by decide),
      show u.rd (ringOff (txRing p)) = s.dev.rd (ringOff (txRing p)) from hr 0 (by decide)]
  -- the descriptors that had been fetched
  have hcommit := txCommit_up hst
  obtain ⟨hport, hfet⟩ := commits_port (p := p) (u.ring (txRing p)).fetched
    ((SetsPort.refl p u).side (d' := u.modRing (txRing p) fun g => { g with fetched := [] }) rfl) rfl
  have hw : Within ⟨[.bar4, .host, .ports], fun _ => False, true, true, false, fun h => absurd h (by decide)⟩ u (u.txCommit p) :=
    (Within.refl _ u).txCommit rfl ⟨rfl, rfl, rfl⟩
  have hall : Within (calScope p) s.dev (u.txCommit p) := hc.txCommit rfl ⟨rfl, rfl, rfl⟩
  rw [← hcommit] at hport hfet
  have hf : ((u.modRing (txRing p) fun g => { g with fetched := [] }).ring (txRing p)).fetched = [] := congrArg Ring.fetched (modRing_ring_same ..)
  have hset := hpu.trans hport
  refine ⟨_, hx, rfl, ?_, ?_, hfet.trans hf, fun q hq => hset.ne hq, ?_, ?_, hall.keepsRegs fun _ h => h, ?_, calScope_eq hall⟩
  · rw [hset.same, hpu.same, hring, funext fun e : Nat × List Word => congrArg (fun t => txDesc t e.2) (hslot e.1)]
    rfl
  · rw [hw.load rfl, hload]
    refine (hw.overload (fun _ _ h => h) fun q => ?_).symm
    by_cases hq : q = p
    · rw [hq, hport.same]
      rfl
    · rw [hport.ne hq]
  · exact ((hw.regs _ (fun h => h) (not_eventWord_of_lt (portOff_lt p (by decide)))).trans
      (hl.below _ List.not_mem_nil (portOff_lt p (by decide)))).trans htx
  · exact ((hw.regs _ (fun h => h) (not_eventWord_of_lt (portOff_lt p (by decide)))).trans
      (hl.below _ List.not_mem_nil (portOff_lt p (by decide)))).trans hrx
  · rw [Dev.source, hw.watch]
    exact hcond

/-! ### Losses -/

/-- What a calibration that runs out of time changes where its slot is not UP. -/
def lateScope (p : Fin 8) : Scope := eventScope [.regs, .bar4, .host, .keeper, .watch, .chans, .buoys, .pairs, .ports] [portOff p + 0xA0] fun _ h =>
  List.mem_singleton.mp h ▸ not_cfgWord_of_lt (portOff_lt p (by decide))

theorem lateScope_events (p : Fin 8) : (lateScope p).Events := ⟨⟨rfl, rfl, rfl⟩, rfl⟩

/-- A slot that is not UP is lost without a word of its own. -/
theorem Within.slotLossQuiet {S : Scope} {d₀ : Dev} {n : Fin 64} (h : Within S d₀ d) (hne : (d.buoy n).act.st ≠ .up) (hE : S.Events)
    (hb : S.Has .buoys) (hp : S.Has .pairs) (hc : S.Has .chans) : Within S d₀ (Machine.slotLoss n d) := by
  cases hst : (d.buoy n).act.st with
  | up => exact absurd hst hne
  | returning =>
    rw [slotLoss_returning hst]
    exact h.slotClear.modAct
  | down =>
    rw [slotLoss_down hst]
    exact h.modDec

theorem portCalTimeout_eq (h : (d.port p).st = .cal) :
    portCalTimeout p d = ((d.portTo p .down 7).portLeft p .cal).bump (portOff p + 0xA0) 0 16 := by
  unfold portCalTimeout
  rw [if_pos h, portLeave_eq, h]

theorem portCalTimeout_state (h : (s.dev.port p).st = .cal) : ∃ t, exec (.portCalTimeout p) s = .next t ∧ t.pending = s.pending ∧
    t.dev.port p = { s.dev.port p with st := .down } ∧ (∀ q, q ≠ p → t.dev.port q = s.dev.port q) ∧
    (t.dev.buoy (syncSlot p)).act.st = .down ∧ t.dev.clk = s.dev.clk ∧ t.dev.ts = s.dev.ts ∧ t.dev.clients = s.dev.clients ∧
    ((s.dev.buoy (syncSlot p)).act.st ≠ .up → Counts (portOff p + 0xA0) 0 16 s.dev t.dev ∧ EventFrame [portOff p + 0xA0] s.dev t.dev) := by
  have hx := exec_run (x := .portCalTimeout p) (f := portCalTimeout p) rfl (portCalTimeout_eq h)
  have hp := (SetsPort.refl p s.dev).portTo (st := .down) (row := 7)
  have hto : Within (lateScope p) s.dev (s.dev.portTo p .down 7) := (Within.refl (lateScope p) s.dev).portTo rfl rfl (lateScope_events p)
  have hto' : Within (lowScope [.regs, .bar4, .host, .keeper, .ports, .watch] []) s.dev (s.dev.portTo p .down 7) :=
    (Within.refl _ s.dev).portTo rfl rfl ⟨⟨rfl, rfl, rfl⟩, rfl⟩
  have hslot := portLeft_slot (p := p) (.inl rfl : PortState.cal = .cal ∨ PortState.cal = .up) (s.dev.portTo p .down 7)
  generalize s.dev.portTo p .down 7 = e at hx hp hto hto' hslot
  have hp2 : SetsPort p _ s.dev (e.portLeft p .cal) := hp.slotLoss
  have hloss : Within (partScope [.regs, .bar4, .host, .keeper, .watch, .chans, .lans, .outs, .vouts, .buoys, .pairs, .tide]) e (e.portLeft p .cal) :=
    (Within.refl _ e).slotLoss ⟨⟨fun _ _ => trivial, ⟨⟨rfl, rfl, rfl⟩, rfl⟩, rfl, rfl, rfl, rfl, rfl⟩, rfl, rfl, rfl⟩
  have hend : SetsPort p { s.dev.port p with st := .down } s.dev ((e.portLeft p .cal).bump (portOff p + 0xA0) 0 16) := hp2.side rfl
  refine ⟨_, hx, rfl, hend.same, fun q hq => hend.ne hq, hslot, hloss.clk.trans hto'.clk, hloss.ts.trans hto'.ts, hloss.clients.trans hto'.clients, fun hne => ?_⟩
  have hne' : (e.buoy (syncSlot p)).act.st ≠ .up := by
    rw [Dev.buoy, hto'.buoys]
    exact hne
  have h2 : Within (lateScope p) s.dev (e.portLeft p .cal) := hto.slotLossQuiet hne' (lateScope_events p) rfl rfl rfl
  have h3 : Within (lateScope p) s.dev ((e.portLeft p .cal).bump (portOff p + 0xA0) 0 16) := h2.bump (List.mem_singleton.mpr rfl)
  have hq : Within (lowScope [.regs, .bar4, .host, .keeper, .chans, .buoys, .pairs] []) e (e.portLeft p .cal) :=
    Within.slotLossQuiet (.refl (lowScope [.regs, .bar4, .host, .keeper, .chans, .buoys, .pairs] []) e) hne' ⟨⟨rfl, rfl, rfl⟩, rfl⟩ rfl rfl rfl
  have hlt : portOff p + 0xA0 < 0x2C1200 := portOff_lt p (by decide)
  exact ⟨(bump_counts _ _ (by decide)).before ((hq.below _ List.not_mem_nil hlt).trans (hto'.below _ List.not_mem_nil hlt)), h3.eventFrame rfl fun _ h => h⟩

/-- What the receiver of a port shows. -/
def Port.showing (cdr pcs fec hiBer : Bool) (x : Port) : Port := { x with cdr := cdr, pcs := pcs, fec := fec, hiBer := hiBer }

theorem portLinkLoss_on (h : (d.port p).st ≠ .off) (cdr pcs fec hiBer : Bool) :
    portLinkLoss p cdr pcs fec hiBer d = (d.modPort p (Port.showing cdr pcs fec hiBer)).portLoss p := if_neg h

theorem showing_st (cdr pcs fec hiBer : Bool) (d : Dev) : ((d.modPort p (Port.showing cdr pcs fec hiBer)).port p).st = (d.port p).st :=
  (congrArg Port.st (modPort_port_same ..)).trans rfl

theorem portLinkLoss_eq (h : (d.port p).st = .cal ∨ (d.port p).st = .up) (cdr pcs fec hiBer : Bool) : portLinkLoss p cdr pcs fec hiBer d =
    ((((d.modPort p (Port.showing cdr pcs fec hiBer)).portTo p .down 4).portLeft p (d.port p).st).setCond (portSource p) p true) := by
  have hst := showing_st (p := p) cdr pcs fec hiBer d
  have hoff : (d.port p).st ≠ .off := by
    intro e
    rw [e] at h
    exact h.elim (fun h => absurd h (by decide)) fun h => absurd h (by decide)
  have hin : (decide (((d.modPort p (Port.showing cdr pcs fec hiBer)).port p).st = .cal) ||
      decide (((d.modPort p (Port.showing cdr pcs fec hiBer)).port p).st = .up)) = true := by
    rw [hst]
    obtain h | h := h <;> rw [h] <;> rfl
  rw [portLinkLoss_on hoff]
  refine (if_pos hin).trans ?_
  rw [portLeave_eq, hst]

/-- A port that has left its state, whatever it takes along, reads the count of losses as before but where it was UP. -/
theorem portLeft_counts (p : Fin 8) (d : Dev) : Counts (portOff p + 0xA0) 16 16 d (d.portLeft p .up) := by
  have hne : ¬ EventWord (portOff p + 0xA0) := not_eventWord_of_lt (portOff_lt p (by decide))
  have hloss : Within (⟨[.regs, .bar4, .host, .keeper, .watch, .chans, .lans, .outs, .vouts, .buoys, .pairs, .tide],
      fun a => (0x100000 ≤ a ∧ a < 0x200000) ∨ SlotWord a, true, true, true, fun h => absurd h (by decide)⟩ : Scope) d (slotLoss (syncSlot p) d) :=
    (Within.refl _ d).slotLoss ⟨⟨fun _ h => h, ⟨⟨rfl, rfl, rfl⟩, rfl⟩, rfl, rfl, rfl, rfl, rfl⟩, rfl, rfl, rfl⟩
  have hrd : (slotLoss (syncSlot p) d).rd (portOff p + 0xA0) = d.rd (portOff p + 0xA0) := by
    refine hloss.regs _ ?_ hne
    rintro (h | h)
    · simp only [portOff] at h
      omega
    · have := h.lt
      simp only [portOff] at this
      omega
  rw [portLeft_up]
  generalize slotLoss (syncSlot p) d = e at hrd
  have hw : Within (looseScope [.regs, .bar4, .host, .keeper, .watch, .ports, .txts, .clients] [0x208024, 0x208028])
      (e.bump (portOff p + 0xA0) 16 16) ((e.portEmptied p).clientsDown p) := by
    have h0 : Within (looseScope [.regs, .bar4, .host, .keeper, .watch, .ports, .txts, .clients] [0x208024, 0x208028])
      (e.bump (portOff p + 0xA0) 16 16) (e.bump (portOff p + 0xA0) 16 16) := .refl _ _
    exact (h0.bucketsSync.modPort.txDrain (.head _) (.tail _ (.head _)) ⟨rfl, rfl, rfl⟩ rfl rfl rfl ⟨⟨rfl, rfl, rfl⟩, rfl, rfl⟩).clientsDown rfl
      ⟨⟨rfl, rfl, rfl⟩, rfl⟩
  have hmem : portOff p + 0xA0 ∉ [0x208024, 0x208028] := by
    simp only [List.mem_cons, List.not_mem_nil, portOff, or_false]
    omega
  exact ((bump_counts _ e (by decide)).before hrd).after (hw.regs _ hmem hne)

theorem portLeft_clients (d : Dev) (k : Fin 16) : ((d.portLeft p .up).client k).st =
    if d.clientPort k = p ∧ (d.client k).st ≠ .disabled then .listening else (d.client k).st := by
  have hloss : Within leaveScope d ((slotLoss (syncSlot p) d).portEmptied p) :=
    ((Within.refl _ d).slotLoss leaveScope_links.senses).portEmptied (leaveScope_links.losses p) leaveScope_links.lost leaveScope_links.lostHead rfl rfl rfl
      leaveScope_links.completes
  have hcl : ((slotLoss (syncSlot p) d).portEmptied p).clients = d.clients :=
    (((Within.refl (partScope [.regs, .bar4, .host, .keeper, .watch, .chans, .lans, .outs, .vouts, .buoys, .pairs, .tide, .ports, .txts]) d).slotLoss
      ⟨⟨fun _ _ => trivial, ⟨⟨rfl, rfl, rfl⟩, rfl⟩, rfl, rfl, rfl, rfl, rfl⟩, rfl, rfl, rfl⟩).portEmptied trivial trivial trivial rfl rfl rfl
      ⟨⟨rfl, rfl, rfl⟩, rfl, rfl⟩).clients
  have hport : ((slotLoss (syncSlot p) d).portEmptied p).clientPort k = d.clientPort k := by
    rw [Dev.clientPort, Dev.rdF, hloss.regs _ ?_ (not_eventWord_of_lt (by omega)), Dev.clientPort, Dev.rdF]
    rintro (h | h | ⟨q, h⟩ | h | h)
    · omega
    · have := h.lt
      omega
    · simp only [portOff] at h
      omega
    · omega
    · omega
  rw [portLeft_up, clientsDown_client, hport, Dev.client, hcl, Dev.client]

theorem portLinkLoss_state (h : (s.dev.port p).st = .cal ∨ (s.dev.port p).st = .up) (cdr pcs fec hiBer : Bool) :
    ∃ t, exec (.portLinkLoss p cdr pcs fec hiBer) s = .next t ∧
    t.pending = s.pending ∧ (t.dev.port p).st = .down ∧ (t.dev.port p).cdr = cdr ∧ (t.dev.port p).pcs = pcs ∧
    (t.dev.port p).fec = fec ∧ (t.dev.port p).hiBer = hiBer ∧ (∀ q, q ≠ p → t.dev.port q = s.dev.port q) ∧
    (t.dev.buoy (syncSlot p)).act.st = .down ∧ (t.dev.source (portSource p)).cond = true ∧ (t.dev.source 146).cond = t.dev.overload ∧
    t.dev.clk = s.dev.clk ∧ t.dev.ts = s.dev.ts ∧
    ((s.dev.port p).st = .up → (t.dev.port p).txq = [] ∧ (t.dev.port p).settling = false ∧ Counts (portOff p + 0xA0) 16 16 s.dev t.dev) ∧
    ((s.dev.port p).st = .up → (s.dev.buoy (syncSlot p)).act.st ≠ .up → ∀ k : Fin 16, (t.dev.client k).st =
      if s.dev.clientPort k = p ∧ (s.dev.client k).st ≠ .disabled then .listening else (s.dev.client k).st) := by
  have hx := exec_run (x := .portLinkLoss p cdr pcs fec hiBer) (f := portLinkLoss p cdr pcs fec hiBer) rfl (portLinkLoss_eq h cdr pcs fec hiBer)
  generalize (s.dev.port p).st = old at hx h ⊢
  have hp := ((SetsPort.refl p s.dev).modPort (f := Port.showing cdr pcs fec hiBer)).portTo (st := .down) (row := 4)
  have hload : (((s.dev.modPort p (Port.showing cdr pcs fec hiBer)).portTo p .down 4).source 146).cond =
    ((s.dev.modPort p (Port.showing cdr pcs fec hiBer)).portTo p .down 4).overload := loadRefresh_follows _
  have hto : Within (lowScope [.regs, .bar4, .host, .keeper, .ports, .watch] []) s.dev ((s.dev.modPort p (Port.showing cdr pcs fec hiBer)).portTo p .down 4) := by
    have h1 : Within (lowScope [.regs, .bar4, .host, .keeper, .ports, .watch] []) s.dev (s.dev.modPort p (Port.showing cdr pcs fec hiBer)) :=
      (Within.refl _ s.dev).modPort
    exact h1.portTo rfl rfl ⟨⟨rfl, rfl, rfl⟩, rfl⟩
  generalize (s.dev.modPort p (Port.showing cdr pcs fec hiBer)).portTo p .down 4 = e at hx hp hload hto
  obtain ⟨y, hy, hc⟩ := hp.portLeft old
  have hst := portLeft_st hp old
  have hslot := portLeft_slot (p := p) h e
  have hw := portLeft_within p old e
  have hcnt : old = .up → Counts (portOff p + 0xA0) 16 16 s.dev (e.portLeft p old) := fun ho => by
    rw [ho]
    exact (portLeft_counts p e).before (hto.below _ List.not_mem_nil (portOff_lt p (by decide)))
  have hcl : old = .up → ∀ k : Fin 16, ((e.portLeft p old).client k).st =
      if s.dev.clientPort k = p ∧ (s.dev.client k).st ≠ .disabled then .listening else (s.dev.client k).st := fun ho k => by
    rw [ho, portLeft_clients, Dev.client, hto.clients, Dev.clientPort, Dev.rdF, hto.below _ List.not_mem_nil (by omega), Dev.clientPort, Dev.rdF, Dev.client]
  have hload : ((e.portLeft p old).source 146).cond = (e.portLeft p old).overload := by
    rw [hw.load rfl, hload, hw.overload (fun _ h => h.not_leaveWord) hst]
  generalize e.portLeft p old = u at hx hy hslot hw hcnt hcl hload
  have hq : Within ⟨[.watch], fun _ => False, true, true, false, fun h => absurd h (by decide)⟩ u (u.setCond (portSource p) p true) :=
    (Within.refl _ u).setCond rfl (.inl (portSource_ne_load p))
  have hyq := hy.side hq.ports
  have hshow : y.st = .down ∧ y.cdr = cdr ∧ y.pcs = pcs ∧ y.fec = fec ∧ y.hiBer = hiBer := by
    obtain ⟨rfl, -⟩ | ⟨⟨now, rfl⟩, -⟩ := hc <;> exact ⟨rfl, rfl, rfl, rfl, rfl⟩
  obtain ⟨h1, h2, h3, h4, h5⟩ := hshow
  refine ⟨_, hx, rfl, ?_, ?_, ?_, ?_, ?_, fun q hq => hyq.ne hq, ?_, setCond_cond .., ?_, ?_, ?_, fun ho => ⟨?_, ?_, ?_⟩, fun ho _ k => ?_⟩
  · exact (congrArg Port.st hyq.same).trans h1
  · exact (congrArg Port.cdr hyq.same).trans h2
  · exact (congrArg Port.pcs hyq.same).trans h3
  · exact (congrArg Port.fec hyq.same).trans h4
  · exact (congrArg Port.hiBer hyq.same).trans h5
  · show (((u.setCond (portSource p) p true).buoys.get (syncSlot p)).act.st) = _
    rw [hq.buoys]
    exact hslot
  · show ((u.setCond (portSource p) p true).source 146).cond = (u.setCond (portSource p) p true).overload
    rw [hq.load rfl, hload]
    exact (hq.overload (fun _ _ h => h) fun q => by rw [Dev.port, hq.ports, Dev.port]).symm
  · exact hq.clk.trans (hw.clk.trans hto.clk)
  · exact hq.ts.trans (hw.ts.trans hto.ts)
  · obtain ⟨-, hne⟩ | ⟨⟨now, rfl⟩, -⟩ := hc
    · exact absurd ho hne
    · exact congrArg Port.txq hyq.same
  · obtain ⟨-, hne⟩ | ⟨⟨now, rfl⟩, -⟩ := hc
    · exact absurd ho hne
    · exact congrArg Port.settling hyq.same
  · exact (hcnt ho).after (rd_of_regs (hq.same .regs rfl) _)
  · show (((u.setCond (portSource p) p true).clients.get k).st) = _
    rw [hq.clients]
    exact hcl ho k

/-- Settles O38: the rows of the port states, and what a loss takes along. -/
theorem portStates : Obligations.PortStates := by
  refine fun p s => ⟨portLinkUp_state, fun tx rx h => portCalDone_state h tx rx, portCalTimeout_state,
    fun cdr pcs fec hiBer => ⟨fun h => ?_, fun h => portLinkLoss_state h cdr pcs fec hiBer⟩, fun tx rx h => ?_, ?_⟩
  · refine ⟨_, exec_run (f := portLinkLoss p cdr pcs fec hiBer) (d := s.dev.modPort p (Port.showing cdr pcs fec hiBer)) rfl ?_, rfl⟩
    rw [portLinkLoss_on (by rw [h]; decide)]
    exact if_neg (by rw [showing_st, h]; decide)
  · obtain ⟨htx, hrx⟩ := portDelays_reads p tx rx s.dev
    exact ⟨_, exec_run rfl (if_pos h), rfl, rfl, htx, hrx, fun a h4 h8 => (rd_wr_ne _ _ h8.symm).trans (rd_wr_ne _ _ h4.symm)⟩
  · refine ⟨_, exec_run rfl rfl, congrArg (State.withDev s) ?_⟩
    exact modPort_withPort p (fun x => { x with settling := false }) _ s.dev

end Sys2Proof.Machine
end

section
/-! ESMC transmission and the end of host frames (chapters 9 and 12). -/

namespace Sys2Proof.Machine

set_option Elab.async false

variable {d d' : Dev} {p : Fin 8} {f : TxFrame} {q : List TxFrame} {s : State}

/-! ### ESMC -/

theorem esmcLate_eq (hst : (d.port p).st ≠ .off) (ht : (d.port p).esmcTimeout = false) : esmcLate p d =
    ((d.modPort p fun x => { x with esmcValid := false, esmcTimeout := true }).bump (portOff p + 0xAC) 0 16).event 0x0E p 12 [] := by
  unfold esmcLate
  rw [if_pos (by simp [hst, ht])]

/-- What a lapse of ESMC changes. -/
def esmcScope (p : Fin 8) : Scope := eventScope [.regs, .bar4, .host, .keeper, .ports] [portOff p + 0xAC] fun _ h =>
  List.mem_singleton.mp h ▸ not_cfgWord_of_lt (portOff_lt p (by decide))

theorem esmcScope_eq (h : Within (esmcScope p) d d') :
    d' = { d with regs := d'.regs, bar4 := d'.bar4, host := d'.host, keeper := d'.keeper, ports := d'.ports } := h.eq

/-- The instants of the PDUs of the last second, with this one. -/
def Dev.esmcTimes (d : Dev) (p : Fin 8) : List Nat := ((d.port p).esmcAt.filter fun u => d.clk.tbUs < u + 1000000) ++ [d.clk.tbUs]

theorem esmcLate_state (hst : (s.dev.port p).st ≠ .off) (ht : (s.dev.port p).esmcTimeout = false) : ∃ t, exec (.esmcTimeout p) s = .next t ∧
    t.pending = s.pending ∧ t.dev.port p = { s.dev.port p with esmcValid := false, esmcTimeout := true } ∧
    (∀ q, q ≠ p → t.dev.port q = s.dev.port q) ∧ Counts (portOff p + 0xAC) 0 16 s.dev t.dev ∧ EventFrame [portOff p + 0xAC] s.dev t.dev ∧
    (t.dev.ring 8).seq = (s.dev.ring 8).seq + 1 ∧
    t.dev = { s.dev with regs := t.dev.regs, bar4 := t.dev.bar4, host := t.dev.host, keeper := t.dev.keeper, ports := t.dev.ports } := by
  have h0 : Within (esmcScope p) s.dev s.dev := .refl _ _
  have hlt : portOff p + 0xAC < 0x2C1200 := portOff_lt p (by decide)
  have hx := exec_run (x := .esmcTimeout p) (f := esmcLate p) rfl (esmcLate_eq hst ht)
  have hp := (SetsPort.refl p s.dev).modPort (f := fun x => { x with esmcValid := false, esmcTimeout := true })
  have h1 : Within (esmcScope p) s.dev (s.dev.modPort p fun x => { x with esmcValid := false, esmcTimeout := true }) := h0.modPort
  have hregs : (s.dev.modPort p fun x => { x with esmcValid := false, esmcTimeout := true }).regs = s.dev.regs := rfl
  have hhost : (s.dev.modPort p fun x => { x with esmcValid := false, esmcTimeout := true }).host = s.dev.host := rfl
  generalize s.dev.modPort p (fun x => { x with esmcValid := false, esmcTimeout := true }) = e at hx hp h1 hregs hhost
  have h2 : Within (esmcScope p) s.dev (e.bump (portOff p + 0xAC) 0 16) := h1.bump (List.mem_singleton.mpr rfl)
  have h3 : Within (esmcScope p) s.dev ((e.bump (portOff p + 0xAC) 0 16).event 0x0E p 12 []) := h2.event
  have hev : Within (lowScope [.regs, .bar4, .host, .keeper] []) (e.bump (portOff p + 0xAC) 0 16) ((e.bump (portOff p + 0xAC) 0 16).event 0x0E p 12 []) :=
    (Within.refl _ _).event (hS := ⟨⟨rfl, rfl, rfl⟩, rfl⟩)
  have hp' : SetsPort p { s.dev.port p with esmcValid := false, esmcTimeout := true } s.dev ((e.bump (portOff p + 0xAC) 0 16).event 0x0E p 12 []) :=
    (hp.side rfl).side hev.ports
  refine ⟨_, hx, rfl, hp'.same, fun q hq => hp'.ne hq, ?_, h3.eventFrame rfl fun _ h => h, ?_, esmcScope_eq h3⟩
  · exact ((bump_counts _ e (by decide)).before (rd_of_regs hregs _)).after (hev.below _ List.not_mem_nil hlt)
  · exact (event_seq ..).trans (congrArg (fun r : Ring => r.seq + 1) (ring_of_host hhost 8))

/-! ### Host frames -/

theorem packetDone_sent (h : (d.port p).txq = f :: q) (u : Int) (k : Nat) (data : List Byte) : packetDone p (.sent u k data) d =
    (onlyIf f.tsReq (Dev.txtsPush p (d.txPin p u k) (d.txtsSent p f.tsId (d.portTime p (d.txPin p u k)))) (d.withPort p { d.port p with
      txq := q, sent := (d.port p).sent ++ [TxMsg.host (d.bufRead f.bar4 f.addr f.len data)] })).txEnded p f true := by
  have hset := modPort_withPort p (fun x => { x with sent := x.sent ++ [.host (d.bufRead f.bar4 f.addr f.len data)] }) { d.port p with txq := q } d
  unfold packetDone
  rw [h]
  exact congrArg (fun y : Dev => (onlyIf f.tsReq (Dev.txtsPush p (d.txPin p u k) (d.txtsSent p f.tsId (d.portTime p (d.txPin p u k)))) y).txEnded p f true) hset

theorem packetDone_left (h : (d.port p).txq = f :: q) : packetDone p .leftUp d =
    (onlyIf f.tsReq (Dev.txtsPush p d.tbGr (d.txtsNotSent p f.tsId)) (d.withPort p { d.port p with txq := q })).txEnded p f false := by
  unfold packetDone
  rw [h]
  rfl

/-- A result that the queue has room for waits there. -/
theorem resultPush_room {at_ : Int} {e : List Word} {b : Bool} (x : Port) (h : b = true → d.txts.queue.length < 64) :
    onlyIf b (Dev.txtsPush p at_ e) (d.withPort p x) = { d with
      ports := d.ports.set p x
      txts := { d.txts with queue := if b then TxtsEntry.insert ⟨at_, p, e⟩ d.txts.queue else d.txts.queue } } := by
  cases b with
  | true => exact if_pos (h rfl)
  | false => rfl

/-- What a lost result changes. -/
def resultScope : Scope := lowScope [.regs, .bar4, .host, .watch, .ports] [0x208024, 0x208028]

theorem resultScope_eq (h : Within resultScope d d') :
    d' = { d with regs := d'.regs, bar4 := d'.bar4, host := d'.host, watch := d'.watch, ports := d'.ports } := h.eq

/-- The result that finds the queue full is counted, reported and logged. -/
theorem resultPush_full {at_ : Int} {e : List Word} (x : Port) (h : 64 ≤ d.txts.queue.length) :
    ∃ y, onlyIf true (Dev.txtsPush p at_ e) (d.withPort p x) = y ∧ y.txts = d.txts ∧ Counts 0x208024 16 16 d y ∧
    Reports 145 p d y ∧ (y.ring 9).seq = (d.ring 9).seq + 1 ∧ EventFrame [0x208024, 0x208028] d y ∧ y.port p = x ∧
    (∀ j, j ≠ p → y.port j = d.port j) ∧
    y = { d with regs := y.regs, bar4 := y.bar4, host := y.host, watch := y.watch, ports := y.ports } := by
  have hfull : onlyIf true (Dev.txtsPush p at_ e) (d.withPort p x) =
      ((((d.withPort p x).bump 0x208024 16 16).wr 0x208028 (wordAt e 0)).occur 145 p).logEnt 0x83 p 12 (wordBytes (wordAt e 0)) :=
    if_neg (Nat.not_lt.mpr h)
  have hw : Within resultScope d ((((d.withPort p x).bump 0x208024 16 16).wr 0x208028 (wordAt e 0)).occur 145 p) := by
    have h1 : Within resultScope d (d.withPort p x) := (Within.refl resultScope d).modPort (f := fun _ => x)
    exact ((h1.bump (.head _)).wr (.tail _ (.head _))).occur
  have hcnt : Counts 0x208024 16 16 d ((((d.withPort p x).bump 0x208024 16 16).wr 0x208028 (wordAt e 0)).occur 145 p) :=
    (bump_counts 0x208024 (d.withPort p x) (by decide)).after (rd_wr_ne _ _ (by decide))
  have hrep : Reports 145 p d ((((d.withPort p x).bump 0x208024 16 16).wr 0x208028 (wordAt e 0)).occur 145 p) := reports_occur rfl rfl
  have hport : SetsPort p x d ((((d.withPort p x).bump 0x208024 16 16).wr 0x208028 (wordAt e 0)).occur 145 p) := rfl
  have htxts : ((((d.withPort p x).bump 0x208024 16 16).wr 0x208028 (wordAt e 0)).occur 145 p).txts = d.txts := rfl
  have hring : ((((d.withPort p x).bump 0x208024 16 16).wr 0x208028 (wordAt e 0)).occur 145 p).ring 9 = d.ring 9 := rfl
  rw [hfull]
  generalize (((d.withPort p x).bump 0x208024 16 16).wr 0x208028 (wordAt e 0)).occur 145 p = y at hw hcnt hrep hport htxts hring
  have hlog : Within (lowScope [.regs, .bar4, .host] []) y (y.logEnt 0x83 p 12 (wordBytes (wordAt e 0))) := (Within.refl _ y).logEnt (hS := ⟨rfl, rfl, rfl⟩)
  have hall : Within resultScope d (y.logEnt 0x83 p 12 (wordBytes (wordAt e 0))) := hw.logEnt (hS := ⟨rfl, rfl, rfl⟩)
  have hport : SetsPort p x d (y.logEnt 0x83 p 12 (wordBytes (wordAt e 0))) := hport.side hlog.ports
  exact ⟨_, rfl, hlog.txts.trans htxts, hcnt.after (hlog.below _ List.not_mem_nil (by decide)), hrep.after hlog.watch,
    (logEnt_seq ..).trans (congrArg (fun r : Ring => r.seq + 1) hring), hall.eventFrame rfl fun _ h => h, hport.same, fun j hj => hport.ne hj,
    resultScope_eq hall⟩

/-- A frame whose result finds the queue full, sent or not. -/
theorem packetDone_full (h : (s.dev.port p).txq = f :: q) (ht : f.tsReq = true) (hfull : 64 ≤ s.dev.txts.queue.length) (e : TxEnd) :
    ∃ (t : State) (d : Dev) (sent : Bool), exec (.packetTxDone p e) s = .next t ∧ t = s.withDev (d.txEnded p f sent) ∧
      (sent = false ↔ e = .leftUp) ∧ d.txts = s.dev.txts ∧ Counts 0x208024 16 16 s.dev d ∧ Reports 145 p s.dev d ∧
      (d.ring 9).seq = (s.dev.ring 9).seq + 1 ∧ EventFrame [0x208024, 0x208028] s.dev d ∧ (d.port p).txq = q ∧
      (∀ j, j ≠ p → d.port j = s.dev.port j) ∧
      d = { s.dev with regs := d.regs, bar4 := d.bar4, host := d.host, watch := d.watch, ports := d.ports } := by
  have hx : ∀ (x : Port) (at_ : Int) (en : List Word) (sent : Bool), x.txq = q →
      packetDone p e s.dev = (onlyIf f.tsReq (Dev.txtsPush p at_ en) (s.dev.withPort p x)).txEnded p f sent →
      ∃ (t : State) (d : Dev), exec (.packetTxDone p e) s = .next t ∧ t = s.withDev (d.txEnded p f sent) ∧ d.txts = s.dev.txts ∧
        Counts 0x208024 16 16 s.dev d ∧ Reports 145 p s.dev d ∧
        (d.ring 9).seq = (s.dev.ring 9).seq + 1 ∧ EventFrame [0x208024, 0x208028] s.dev d ∧ (d.port p).txq = q ∧
        (∀ j, j ≠ p → d.port j = s.dev.port j) ∧
        d = { s.dev with regs := d.regs, bar4 := d.bar4, host := d.host, watch := d.watch, ports := d.ports } := by
    intro x at_ en sent hq he
    obtain ⟨d, hd, htx, hcnt, hrep, hseq, hf, hsame, hne, heq⟩ := resultPush_full (p := p) (at_ := at_) (e := en) x hfull
    rw [ht, hd] at he
    exact ⟨_, d, exec_run rfl he, rfl, htx, hcnt, hrep, hseq, hf, hsame ▸ hq, hne, heq⟩
  cases e with
  | sent u k data =>
    obtain ⟨t, d, he, hr⟩ := hx _ _ _ _ rfl (packetDone_sent h u k data)
    obtain ⟨h1, h2⟩ := hr
    exact ⟨t, d, true, he, h1, by simp, h2⟩
  | leftUp =>
    obtain ⟨t, d, he, h1, h2⟩ := hx _ _ _ _ rfl (packetDone_left h)
    exact ⟨t, d, false, he, h1, by simp, h2⟩

/-- The end of a frame of a TX ring whose bit counts it. -/
theorem txEnded_slot {i : TxSlot} (hs : f.slot = some i) (hc : f.cmd = none) (sent : Bool) (d : Dev) :
    d.txEnded p f sent = d.txDone p i (if sent then 0 else 2) := by
  unfold Dev.txEnded
  rw [hs, hc]

theorem txEnded_cmd {c : CmdSrc × InProg} (hs : f.slot = none) (hc : f.cmd = some c) (sent : Bool) (d : Dev) :
    d.txEnded p f sent = d.complete c.1 c.2 (if sent then .ok else .notDone (d.port p).st.code) := by
  unfold Dev.txEnded
  rw [hs, hc]

theorem txDone_disabled {i : TxSlot} (h : d.ringEn (txRing p) = false) (n : Nat) :
    d.txDone p i n = d.memWrite i.bar4 i.addr (wordBytes (word (2147483648 + n))) := by
  have hw := (Within.refl doneScope d).memWrite (b := i.bar4) (a := i.addr) (bs := wordBytes (word (2147483648 + n))) ⟨rfl, rfl, rfl⟩
  have hen : (d.memWrite i.bar4 i.addr (wordBytes (word (2147483648 + n)))).ringEn (txRing p) = false :=
    (congrArg (fun w => bit w 31) (rd_of_regs (hw.same .regs rfl) _)).trans h
  unfold Dev.txDone
  exact if_neg (by rw [hen]; decide)

/-- Settles O39: ESMC goes out within its limit, and a frame ends with its DONE word or its completion, and its result. -/
theorem esmcAndHostFrames : Obligations.EsmcAndHostFrames := by
  refine fun p s => ⟨esmcLate_state, fun hm => ?_, fun hm hne => ?_, fun f q u k data hq hroom => ⟨?_, ?_⟩,
    fun f q e hq ht hfull => packetDone_full hq ht hfull e, fun f sent => ⟨fun hs c hc => txEnded_cmd hs hc sent s.dev, fun i hs hc hen => ?_,
      fun i hs hc hen => (txEnded_slot hs hc sent s.dev).trans (txDone_disabled hen _)⟩⟩
  · exact ⟨_, _, exec_run rfl (if_pos hm), rfl, rfl⟩
  · refine ⟨_, _, exec_run rfl (if_pos (by rw [hm, decide_eq_true hne]; rfl)), rfl, congrArg (State.withDev s) (modPort_withPort ..)⟩
  · exact ⟨_, _, exec_run rfl (packetDone_sent hq u k data), rfl, resultPush_room _ hroom⟩
  · exact ⟨_, _, exec_run rfl (packetDone_left hq), rfl, resultPush_room _ hroom⟩
  · have hw := txDone_within p i (if sent then 0 else 2) s.dev
    rw [txEnded_slot hs hc]
    obtain ⟨-, hdone, hne⟩ := txDone_ring p i (if sent then 0 else 2) s.dev
    exact ⟨hdone hen, hne, hw.same .regs rfl, hw.ports⟩

end Sys2Proof.Machine
end

section
/-! Commands that may stay in progress, the code flash, and the loads that a power failure sheds. -/

namespace Sys2Proof.Machine

set_option Elab.async false

variable {S : Scope} {d d₀ d' : Dev} {c : Cmd} {op : Nat} {s : State} {x : Instr} {used : List Param} {bad : List Nat}

/-! ### Commands that may stay in progress -/

section
variable {body g : Dev → Option CmdOut × Dev} {o : CmdOut} {e : Dev}

/-- A command of passing parameters that ends. -/
theorem long_ends (hx : exec x s = run (command op c body) s) (ha : s.dev.takes op c = true) (hn : paramFail c used bad = none)
    (hb : body (s.dev.begun c op) = checkedLong c used bad g (s.dev.begun c op)) (hg : g (s.dev.begun c op) = (some o, e)) :
    ∃ t, exec x s = .next t ∧ Ends c op o e s t := by
  refine ⟨_, hx, ?_⟩
  show ({ s with dev := command op c body s.dev } : State) = _
  rw [command_ends ha (d' := e) (o := o) (by rw [hb]; simp only [checkedLong, hn, hg])]

/-- A command of passing parameters that stays in progress. -/
theorem long_stays (hx : exec x s = run (command op c body) s) (ha : s.dev.takes op c = true) (hn : paramFail c used bad = none)
    (hb : body (s.dev.begun c op) = checkedLong c used bad g (s.dev.begun c op)) (hg : g (s.dev.begun c op) = (none, e)) :
    exec x s = .next (s.withDev e) := by
  refine hx.trans ?_
  show Host.Outcome.next ({ s with dev := command op c body s.dev } : State) = _
  rw [command_stays ha (d' := e) (by rw [hb]; simp only [checkedLong, hn, hg])]
  rfl

/-- A command that may stay in progress, and here ends, serves what its effect gives. -/
theorem serves_long {Q : CmdOut → Dev → Prop} (hx : exec x s = run (command op c body) s)
    (hb : body (s.dev.begun c op) = checkedLong c used bad g (s.dev.begun c op))
    (hg : paramFail c used bad = none → ∃ o e, g (s.dev.begun c op) = (some o, e) ∧ Q o e) : Serves x c op used bad s Q := by
  intro ha
  refine ⟨fun i hi => ⟨_, hx, ?_⟩, fun hn => ?_⟩
  · show ({ s with dev := command op c body s.dev } : State) = _
    rw [command_ends ha (d' := s.dev.begun c op) (o := .invalid i) (by rw [hb]; simp only [checkedLong, hi])]
  · obtain ⟨o, e, he, hq⟩ := hg hn
    obtain ⟨t, ht, hend⟩ := long_ends hx ha hn hb he
    exact ⟨t, o, e, ht, hend, hq⟩

end

/-- The lowest failing bit is none where none fails. -/
theorem lowest_none {l : List Nat} (h : lowest l = none) : l = [] := by
  cases l with
  | nil => rfl
  | cons a l => exact absurd h (Option.some_ne_none _)

theorem bad_nil (h : paramFail c used bad = none) : bad = [] :=
  (List.append_eq_nil_iff.mp (List.append_eq_nil_iff.mp (lowest_none h)).1).1

theorem failIf_nil {b : Bool} {i : Nat} (h : failIf b i = []) : b = false := by
  cases b with
  | false => rfl
  | true => exact absurd h (List.cons_ne_nil _ _)

theorem takeFetched_host (src : CmdSrc) (d : Dev) :
    (d.takeFetched src).host = { d.host with rings := (d.takeFetched src).host.rings, ext := (d.takeFetched src).host.ext } := by
  cases src <;> rfl

/-- What the acceptance of a command changes of the host interface. -/
theorem begun_host (c : Cmd) (op : Nat) (d : Dev) : (d.begun c op).host = { d.host with
    passed := (d.begun c op).host.passed, rings := (d.begun c op).host.rings, ext := (d.begun c op).host.ext, busy := (d.begun c op).host.busy } := by
  have h := takeFetched_host c.src (d.passOver c.src)
  have hb : (d.begun c op).host = { ((d.passOver c.src).takeFetched c.src).host with busy := (d.begun c op).host.busy } := rfl
  have hr : (d.begun c op).host.rings = ((d.passOver c.src).takeFetched c.src).host.rings := rfl
  have he : (d.begun c op).host.ext = ((d.passOver c.src).takeFetched c.src).host.ext := rfl
  have hp : (d.begun c op).host.passed = (d.passOver c.src).host.passed := begun_passed c op d
  rw [hr, he, hp]
  rw [h] at hb
  exact hb

/-! ### The objects that commands hold -/

/-- A command that the arbiter takes finds its object free. -/
theorem takes_free (h : d.takes op c = true) : d.objectHeld op c = false := by
  obtain ⟨hc, hh⟩ := canTake_of_takes h
  have hc := (Bool.and_eq_true_iff.mp hc).2
  rw [hh] at hc
  simpa using hc

/-- A command of the power manager that the arbiter takes finds none of its kind waiting. -/
theorem takes_power (h : d.takes op c = true) (hop : objClass op = 4) : d.pwr.oppCmd = none ∧ d.pwr.anchorCmd = none := by
  have hf := takes_free h
  simp only [Dev.objectHeld, hop, Bool.or_eq_false_iff, decide_true, Bool.true_and, Option.isSome_eq_false_iff, Option.isNone_iff_eq_none] at hf
  exact hf.1.2

/-! ### Ports that are lost -/

/-- The port is neither CAL nor UP. -/
def Port.dark (x : Port) : Prop := x.st ≠ .cal ∧ x.st ≠ .up

/-- A lost port is neither CAL nor UP, and the others are as they were. -/
theorem portLoss_ports (p : Fin 8) (d : Dev) : ((d.portLoss p).port p).dark ∧ ∀ q, q ≠ p → (d.portLoss p).port q = d.port q := by
  unfold Dev.portLoss
  by_cases h : (decide ((d.port p).st = .cal) || decide ((d.port p).st = .up)) = true
  · rw [if_pos h, portLeave_eq]
    have h1 := (SetsPort.refl p d).portTo (st := .down) (row := 4)
    obtain ⟨y, hy, hc⟩ := h1.portLeft (d.port p).st
    have h2 : SetsPort p y d ((((d.portTo p .down 4).portLeft p (d.port p).st).setCond (portSource p) p true)) := hy.within (Within.refl _ _).setCond
    have hst : y.st = .down := by obtain ⟨rfl, -⟩ | ⟨⟨now, rfl⟩, -⟩ := hc <;> rfl
    refine ⟨?_, fun q hq => h2.ne hq⟩
    rw [h2.same]
    exact ⟨by rw [hst]; decide, by rw [hst]; decide⟩
  · rw [if_neg h]
    have h := Bool.or_eq_false_iff.mp (Bool.eq_false_iff.mpr h)
    exact ⟨⟨of_decide_eq_false h.1, of_decide_eq_false h.2⟩, fun _ _ => rfl⟩

/-- All ports are lost. -/
def Dev.portsLost (d : Dev) : Dev := forFin 8 Dev.portLoss d

theorem portsLost_dark (d : Dev) (p : Fin 8) : (d.portsLost.port p).dark :=
  forFin_object (get := fun k (e : Dev) => e.port k) (I := fun _ => True) (R := fun _ _ b => b.dark)
    (fun j e _ => ⟨(portLoss_ports j e).1, (portLoss_ports j e).2, trivial⟩) trivial p

theorem Within.portsLost (h : Within S d₀ d) (hS : S.Links) (hl : S.load = true := by trivial) : Within S d₀ d.portsLost := h.forFin fun _ _ h => h.portLoss hS

/-! ### A power failure as the store sees it -/

theorem Within.eraseSuspend (h : Within S d₀ d) (hc : S.Has .chart := by trivial) (hd : S.Has .draws := by trivial) : Within S d₀ d.eraseSuspend := by
  unfold Dev.eraseSuspend
  cases d.chart.erasing with
  | none => exact h
  | some e =>
    have h1 : Within S d₀ (d.tornSector e.1) := h.modChart
    exact h1.modChart.draw

/-- The tally command that waits is refused. -/
def Dev.tallyRefused (d : Dev) : Dev :=
  match d.chart.tallyWait with
  | some (src, p, _, _) => ((d.modChart fun c => { c with tallyWait := none }).nvRefuse 6).2.complete src p (CmdOut.refused 0)
  | none => d

/-- The store with its power-failure commit, or that of an Anchor entry. -/
def Chart.failing (anchor : Bool) (c : Chart) : Chart :=
  { c with timerOn := false, extended := c.extended || c.commit.isSome,
           commit := some (match c.commit with | some k => k | none => if anchor then .anchor else .powerFail) }

theorem chartPowerFail_eq (anchor : Bool) (d : Dev) :
    d.chartPowerFail anchor = ((d.eraseSuspend.endWhere (·.rawWrite) CmdOut.partly).tallyRefused).modChart (Chart.failing anchor) := by
  unfold Dev.chartPowerFail
  generalize d.eraseSuspend.endWhere (·.rawWrite) CmdOut.partly = e
  unfold Dev.tallyRefused
  dsimp only
  cases e.chart.tallyWait with
  | none => rfl
  | some t => rfl

theorem Within.tallyRefused (h : Within S d₀ d) (h28 : S.reg 0x040028) (hc : S.Has .chart := by trivial) (hS : S.Completes := by trivial) :
    Within S d₀ d.tallyRefused := by
  have ⟨⟨_, _, _⟩, _, _⟩ := hS
  unfold Dev.tallyRefused
  split
  · exact (h.modChart.modChart.bump h28).complete
  · exact h

theorem Within.chartPowerFail (h : Within S d₀ d) {anchor : Bool} (h28 : S.reg 0x040028) (hc : S.Has .chart := by trivial) (hd : S.Has .draws := by trivial)
    (hS : S.Completes := by trivial) : Within S d₀ (d.chartPowerFail anchor) := by
  rw [chartPowerFail_eq]
  exact (h.eraseSuspend.endWhere.tallyRefused h28).modChart

theorem failing_commit (anchor : Bool) (c : Chart) : (c.failing anchor).commit.isSome = true := rfl

theorem failing_entries (anchor : Bool) (c : Chart) : (c.failing anchor).anchorEntries = c.anchorEntries := rfl

theorem chartPowerFail_commit (anchor : Bool) (d : Dev) : (d.chartPowerFail anchor).chart.commit.isSome = true := by
  rw [chartPowerFail_eq]
  exact failing_commit anchor ((d.eraseSuspend.endWhere (·.rawWrite) CmdOut.partly).tallyRefused).chart

/-- The store counts what it counted before. -/
theorem eraseSuspend_entries (d : Dev) : d.eraseSuspend.chart.anchorEntries = d.chart.anchorEntries := by
  unfold Dev.eraseSuspend
  cases d.chart.erasing with
  | none => rfl
  | some e => rfl

theorem tallyRefused_entries (d : Dev) : d.tallyRefused.chart.anchorEntries = d.chart.anchorEntries := by
  unfold Dev.tallyRefused
  split
  · rw [(complete_within ..).chart]
    rfl
  · rfl

theorem chartPowerFail_entries (anchor : Bool) (d : Dev) : (d.chartPowerFail anchor).chart.anchorEntries = d.chart.anchorEntries := by
  have he : (d.eraseSuspend.endWhere (·.rawWrite) CmdOut.partly).chart = d.eraseSuspend.chart :=
    ((Within.refl completionScope _).endWhere (hS := ⟨⟨rfl, rfl, rfl⟩, rfl, rfl⟩)).chart
  rw [chartPowerFail_eq]
  generalize d.eraseSuspend.endWhere (·.rawWrite) CmdOut.partly = e at he
  exact (failing_entries anchor e.tallyRefused.chart).trans ((tallyRefused_entries e).trans ((congrArg Chart.anchorEntries he).trans (eraseSuspend_entries d)))

/-- What sheds before the store is told. -/
def Dev.shedRun (d : Dev) : Dev := d.portsLost.lanternsXo.oppKick

theorem shedLoads_eq (anchor : Bool) (d : Dev) : d.shedLoads anchor = d.shedRun.chartPowerFail anchor := rfl

theorem Within.shedRun (h : Within S d₀ d) (hS : S.Links) (hp : S.Has .pwr := by trivial) (hl : S.load = true := by trivial) : Within S d₀ d.shedRun := by
  have ⟨⟨⟨_, hE, _, _, _, _, _⟩, _, _, _⟩, _, _, _, _, _, _, _⟩ := hS
  exact (h.portsLost hS).lanternsXo.oppKick

/-- The sequencer keeps the state of the power manager, and the ANCHOR_ENTER that waits. -/
theorem oppKick_keeps (d : Dev) : d.oppKick.pwr = { d.pwr with
    inForce := d.oppKick.pwr.inForce, avs := d.oppKick.pwr.avs, millivolt := d.oppKick.pwr.millivolt, oppCmd := d.oppKick.pwr.oppCmd } := by
  by_cases ha : d.pwr.avs = .rest
  · obtain h | h | h := Nat.lt_trichotomy d.oppWanted d.pwr.inForce.toNat
    · rw [oppKick_down ha h, loadRefresh_eq]
      rfl
    · rw [oppKick_there ha h, oppDone_pwr]
    · rw [oppKick_up ha h]
  · rw [oppKick_moving ha]

/-- The loads shed with the power manager as it is but for the sequencer. -/
theorem shedRun_keeps (d : Dev) : d.shedRun.pwr = { d.pwr with
    inForce := d.shedRun.pwr.inForce, avs := d.shedRun.pwr.avs, millivolt := d.shedRun.pwr.millivolt, oppCmd := d.shedRun.pwr.oppCmd } := by
  have hp : d.portsLost.lanternsXo.pwr = d.pwr :=
    (((Within.refl (partScope [.regs, .bar4, .host, .keeper, .watch, .chans, .lans, .outs, .vouts, .buoys, .pairs, .tide, .ports, .txts, .clients]) d).portsLost
      ⟨⟨⟨fun _ _ => trivial, ⟨⟨rfl, rfl, rfl⟩, rfl⟩, rfl, rfl, rfl, rfl, rfl⟩, rfl, rfl, rfl⟩, ⟨⟨rfl, rfl, rfl⟩, rfl, rfl⟩, rfl, rfl, rfl, fun _ => trivial,
        trivial, trivial⟩).lanternsXo rfl ⟨⟨rfl, rfl, rfl⟩, rfl⟩ rfl rfl).pwr
  unfold Dev.shedRun
  generalize d.portsLost.lanternsXo = e at hp ⊢
  have hk := oppKick_keeps e
  rw [hp] at hk
  exact hk

/-- Lanterns and the sequencer touch no port. -/
theorem lanternsKick_ports (d : Dev) : d.lanternsXo.oppKick.ports = d.ports := by
  have h0 : Within (partScope [.regs, .bar4, .host, .keeper, .watch, .lans, .outs, .vouts, .pwr]) d d := .refl _ _
  exact ((h0.lanternsXo rfl ⟨⟨rfl, rfl, rfl⟩, rfl⟩ rfl rfl).oppKick rfl rfl ⟨⟨rfl, rfl, rfl⟩, rfl, rfl⟩).ports

theorem shedRun_dark (d : Dev) (p : Fin 8) : (d.shedRun.port p).dark := by
  have h := portsLost_dark d p
  have hp := lanternsKick_ports d.portsLost
  unfold Dev.shedRun
  generalize d.portsLost = e at h hp ⊢
  rw [Dev.port, hp]
  exact h

end Sys2Proof.Machine
end

section
/-! Pages and sectors of the code flash (chapter 16). -/

namespace Sys2Proof.Machine

set_option Elab.async false

variable {d : Dev} {page : Nat}

/-! ### Code flash -/

theorem get_filter {α : Type} (f : Nat → α) {p : Nat × α → Bool} {k : Nat} (hp : ∀ v, p (k, v) = true) (m : Tab α) :
    Tab.get f (m.filter p) k = Tab.get f m k := by
  induction m with
  | nil => rfl
  | cons e m ih =>
    obtain ⟨j, v⟩ := e
    by_cases hj : j = k
    · subst hj
      rw [List.filter_cons_of_pos (hp v), Tab.get, if_pos rfl, Tab.get, if_pos rfl]
    · by_cases h : p (j, v) = true
      · rw [List.filter_cons_of_pos h, Tab.get, if_neg hj, Tab.get, if_neg hj, ih]
      · rw [List.filter_cons_of_neg h, ih, Tab.get, if_neg hj]

/-- Bytes put one after the other are read where they lie, and every other byte as before. -/
theorem get_put_range (f : Nat → Byte) (a n : Nat) (bs : List Byte) (m : Tab Byte) (x : Nat) :
    Tab.get f ((List.range n).foldl (fun m i => Tab.put f m (a + i) (bs.getD i 0)) m) x =
      if a ≤ x ∧ x < a + n then bs.getD (x - a) 0 else Tab.get f m x := by
  induction n with
  | zero => rw [if_neg (by omega)]; rfl
  | succ n ih =>
    rw [List.range_succ, List.foldl_append, List.foldl_cons, List.foldl_nil]
    by_cases hx : a + n = x
    · subst hx
      rw [Tab.get_put_same, if_pos (by omega), show a + n - a = n by omega]
    · rw [Tab.get_put_ne _ _ _ hx, ih]
      by_cases hin : a ≤ x ∧ x < a + n
      · rw [if_pos hin, if_pos (by omega)]
      · rw [if_neg hin, if_neg (by omega)]

/-- The device with other code flash, and other sectors and pages that the session has done. -/
def Dev.flashed (er pr : List Nat) (fl : Tab Byte) (d : Dev) : Dev := { d with fw := { d.fw with erased := er, programmed := pr, flash := fl } }

/-- The first byte of the slot that is not active. -/
def Dev.codeBase (d : Dev) : Nat := slotBase (!d.top.slotB)

theorem fwErase_eq (k : Nat) (d : Dev) : ∃ er fl, d.fwErase k = d.flashed er d.fw.programmed fl ∧ k ∈ er ∧ (∀ j ∈ d.fw.erased, j ∈ er) ∧
    ∀ a, k ∈ d.fw.erased ∨ a < d.codeBase + 65536 * k ∨ d.codeBase + 65536 * k + 65536 ≤ a →
      Tab.get (fun _ => 0xFF#8) fl a = d.codeGet a := by
  unfold Dev.fwErase
  by_cases h : d.fw.erased.contains k = true
  · rw [if_pos h]
    exact ⟨_, _, rfl, by simpa using h, fun _ h => h, fun _ _ => rfl⟩
  · rw [if_neg h]
    refine ⟨_, _, rfl, List.mem_cons_self, fun _ h => List.mem_cons_of_mem _ h, fun a ha => ?_⟩
    have hk : k ∉ d.fw.erased := by simpa using h
    refine get_filter _ (fun v => ?_) _
    have ha := ha.resolve_left hk
    unfold Dev.codeBase at ha
    simpa using ha

theorem fwProgram_eq (page : Nat) (bs : List Byte) (d : Dev) : ∃ fl, d.fwProgram page bs = d.flashed d.fw.erased (page :: d.fw.programmed) fl ∧
    ∀ a, Tab.get (fun _ => 0xFF#8) fl a =
      if d.codeBase + 256 * page ≤ a ∧ a < d.codeBase + 256 * page + 256 then bs.getD (a - (d.codeBase + 256 * page)) 0 else d.codeGet a :=
  ⟨_, rfl, fun _ => get_put_range ..⟩

/-- One page, its sector erased first where the session has not erased it. -/
def Dev.fwPage (page : Nat) (bs : List Byte) (d : Dev) : Dev := (d.fwErase (page / 256)).fwProgram page bs

theorem fwPage_eq (page : Nat) (bs : List Byte) (d : Dev) : ∃ er fl, d.fwPage page bs = d.flashed er (page :: d.fw.programmed) fl ∧
    page / 256 ∈ er ∧
    (∀ a, d.codeBase + 256 * page ≤ a → a < d.codeBase + 256 * page + 256 → Tab.get (fun _ => 0xFF#8) fl a = bs.getD (a - (d.codeBase + 256 * page)) 0) ∧
    ∀ a, a < d.codeBase + 256 * page ∨ d.codeBase + 256 * page + 256 ≤ a →
      page / 256 ∈ d.fw.erased ∨ a < d.codeBase + 65536 * (page / 256) ∨ d.codeBase + 65536 * (page / 256) + 65536 ≤ a →
      Tab.get (fun _ => 0xFF#8) fl a = d.codeGet a := by
  obtain ⟨er, fl, he, hk, -, hkeep⟩ := fwErase_eq (page / 256) d
  obtain ⟨fl', hp, hget⟩ := fwProgram_eq page bs (d.flashed er d.fw.programmed fl)
  have hbase : (d.flashed er d.fw.programmed fl).codeBase = d.codeBase := rfl
  rw [hbase] at hget
  refine ⟨er, fl', ?_, hk, fun a h1 h2 => ?_, fun a h1 h2 => ?_⟩
  · rw [Dev.fwPage, he, hp]
    rfl
  · rw [hget, if_pos ⟨h1, h2⟩]
  · rw [hget, if_neg (by omega)]
    exact hkeep a h2

theorem fwPages_succ (n page : Nat) (bs : List Byte) (h : page ∉ d.fw.programmed) : d.fwPages (n + 1) page bs =
    (((d.fwPage page (bs.take 256)).fwPages n (page + 1) (bs.drop 256)).1 + 1, ((d.fwPage page (bs.take 256)).fwPages n (page + 1) (bs.drop 256)).2) := by
  rw [Dev.fwPages, if_neg (by simpa using h)]
  rfl

theorem fwPages_stop (n : Nat) (bs : List Byte) (h : page ∈ d.fw.programmed) : d.fwPages n page bs = (0, d) := by
  cases n with
  | zero => rfl
  | succ n => rw [Dev.fwPages, if_pos (by simpa using h)]

/-- Pages change the code flash alone. -/
theorem fwPages_eq (n : Nat) : ∀ (page : Nat) (bs : List Byte) (d : Dev), ∃ er pr fl, (d.fwPages n page bs).2 = d.flashed er pr fl := by
  induction n with
  | zero => exact fun _ _ _ => ⟨_, _, _, rfl⟩
  | succ n ih =>
    intro page bs d
    by_cases h : page ∈ d.fw.programmed
    · rw [fwPages_stop _ _ h]
      exact ⟨_, _, _, rfl⟩
    · rw [fwPages_succ n page bs h]
      obtain ⟨er, fl, he, -⟩ := fwPage_eq page (bs.take 256) d
      rw [he]
      obtain ⟨er', pr', fl', h'⟩ := ih (page + 1) (bs.drop 256) (d.flashed er (page :: d.fw.programmed) fl)
      exact ⟨er', pr', fl', h'⟩

/-- A byte before the first page stays, where its sector has been erased or lies before that of the page. -/
theorem fwPages_before (n : Nat) : ∀ (page : Nat) (bs : List Byte) (d : Dev) (a : Nat), a < d.codeBase + 256 * page →
    page / 256 ∈ d.fw.erased ∨ a < d.codeBase + 65536 * (page / 256) → (d.fwPages n page bs).2.codeGet a = d.codeGet a := by
  induction n with
  | zero => exact fun _ _ _ _ _ _ => rfl
  | succ n ih =>
    intro page bs d a ha hs
    by_cases h : page ∈ d.fw.programmed
    · rw [fwPages_stop _ _ h]
    · rw [fwPages_succ n page bs h]
      obtain ⟨er, fl, he, hmem, -, hkeep⟩ := fwPage_eq page (bs.take 256) d
      rw [he]
      refine (ih (page + 1) _ (d.flashed er (page :: d.fw.programmed) fl) a ?_ ?_).trans (hkeep a (.inl ha) (hs.imp id .inl))
      · show a < d.codeBase + 256 * (page + 1)
        omega
      · by_cases hsec : (page + 1) / 256 = page / 256
        · exact .inl (hsec ▸ hmem)
        · right
          show a < d.codeBase + 65536 * ((page + 1) / 256)
          omega

/-- A byte outside the slot stays. -/
theorem fwPages_outside (n : Nat) : ∀ (page : Nat) (bs : List Byte) (d : Dev) (a : Nat), page + n ≤ 16384 →
    a < d.codeBase ∨ d.codeBase + 4194304 ≤ a → (d.fwPages n page bs).2.codeGet a = d.codeGet a := by
  induction n with
  | zero => exact fun _ _ _ _ _ _ => rfl
  | succ n ih =>
    intro page bs d a hn ha
    by_cases h : page ∈ d.fw.programmed
    · rw [fwPages_stop _ _ h]
    · rw [fwPages_succ n page bs h]
      obtain ⟨er, fl, he, hmem, -, hkeep⟩ := fwPage_eq page (bs.take 256) d
      rw [he]
      refine (ih (page + 1) _ (d.flashed er (page :: d.fw.programmed) fl) a (by omega) ha).trans (hkeep a (by omega) (.inr (by omega)))

/-- Pages that the session has not programmed are all written, with their bytes. -/
theorem fwPages_writes (n : Nat) : ∀ (page : Nat) (bs : List Byte) (d : Dev), (∀ j, j < n → page + j ∉ d.fw.programmed) →
    (d.fwPages n page bs).1 = n ∧ ∀ j, j < 256 * n → (d.fwPages n page bs).2.codeGet (d.codeBase + 256 * page + j) = bs.getD j 0 := by
  induction n with
  | zero => exact fun _ _ _ _ => ⟨rfl, fun j hj => absurd hj (by omega)⟩
  | succ n ih =>
    intro page bs d hp
    rw [fwPages_succ n page bs (hp 0 (Nat.succ_pos _))]
    obtain ⟨er, fl, he, hmem, hnew, -⟩ := fwPage_eq page (bs.take 256) d
    rw [he]
    obtain ⟨h1, h2⟩ := ih (page + 1) (bs.drop 256) (d.flashed er (page :: d.fw.programmed) fl) fun j hj => by
      have h := hp (j + 1) (Nat.succ_lt_succ hj)
      rw [show page + 1 + j = page + (j + 1) by omega]
      exact List.not_mem_cons_of_ne_of_not_mem (by omega) h
    refine ⟨by rw [h1], fun j hj => ?_⟩
    by_cases hlow : j < 256
    · refine (fwPages_before n (page + 1) _ (d.flashed er (page :: d.fw.programmed) fl) _ ?_ ?_).trans ?_
      · show d.codeBase + 256 * page + j < d.codeBase + 256 * (page + 1)
        omega
      · by_cases hsec : (page + 1) / 256 = page / 256
        · exact .inl (hsec ▸ hmem)
        · right
          show d.codeBase + 256 * page + j < d.codeBase + 65536 * ((page + 1) / 256)
          omega
      · refine (hnew _ (by omega) (by omega)).trans ?_
        rw [show d.codeBase + 256 * page + j - (d.codeBase + 256 * page) = j by omega]
        simp [List.getD, hlow]
    · have h := h2 (j - 256) (by omega)
      rw [show (d.flashed er (page :: d.fw.programmed) fl).codeBase = d.codeBase from rfl,
        show d.codeBase + 256 * (page + 1) + (j - 256) = d.codeBase + 256 * page + j by omega] at h
      rw [h]
      simp only [List.getD, List.getElem?_drop]
      rw [show 256 + (j - 256) = j by omega]

end Sys2Proof.Machine
end

section
/-! The commands of firmware, power and the Watch (chapters 13, 15 and 16). -/

namespace Sys2Proof.Machine

set_option Elab.async false

variable {d d₀ d' : Dev} {c : Cmd} {s : State} {k n page : Nat} {bs : List Byte}

/-! ### FW_CHUNK -/

/-- The session that a chunk writes in: it starts with the erase of the first sector. -/
def Dev.fwSession (d : Dev) : Dev :=
  if d.fw.session then d else (d.modFw fun f => { f with session := true, erased := [], programmed := [] }).fwErase 0

/-- The pages of a chunk, `k` of them, and the state of the image where one is written. -/
def Dev.fwWrites (k page : Nat) (bs : List Byte) (d : Dev) : Nat × Dev :=
  let r := d.fwSession.fwPages k page bs
  (r.1, if r.1 = 0 then r.2 else r.2.modFw fun f => { f with state := .writing, stage := 0 })

/-- FW_CHUNK of passing parameters, outside a trial. -/
def Dev.fwChunk (c : Cmd) (n k page : Nat) (bs : List Byte) (d : Dev) : Option CmdOut × Dev :=
  let r := d.fwWrites k page bs
  if r.1 = n then (some (.ok (256 * r.1)), r.2)
  else if r.1 = k then (none, r.2.stay c.src (256 * k) false)
  else (some (.refused (256 * r.1)), r.2)

/-- The bytes of a chunk that stands at its safe point. -/
def Dev.fwChunkAll (c : Cmd) (data : List Byte) (stop : Option Nat) (d : Dev) : Option CmdOut × Dev :=
  if d.fw.state = .trial then (some (.refused 0), d)
  else d.fwChunk c ((wordAt c.words 3).toNat / 256) (min ((wordAt c.words 3).toNat / 256) ((d.stopPoint c stop).getD ((wordAt c.words 3).toNat / 256)))
    ((wordAt c.words 0).toNat / 256) (d.bufRead (pf c 1 0 1 = 1) (bufAddr c 1) (wordAt c.words 3).toNat data)

/-- The limits of OFFSET and LENGTH. -/
def chunkBad (off len : Nat) : List Nat :=
  failIf (off % 256 ≠ 0 || 4194304 < off + len) 0 ++ failIf (len < 256 || 4096 < len || len % 256 ≠ 0) 96

theorem fwChunkBody_eq (data : List Byte) (stop : Option Nat) (c : Cmd) : fwChunkBody data stop c = fun d =>
    checkedLong c (wholes 0 4) (chunkBad (wordAt c.words 0).toNat (wordAt c.words 3).toNat) (Dev.fwChunkAll c data stop) d := rfl

theorem chunkBad_nil {off len : Nat} (h : chunkBad off len = []) :
    off % 256 = 0 ∧ off + len ≤ 4194304 ∧ 256 ≤ len ∧ len % 256 = 0 := by
  obtain ⟨h1, h2⟩ := List.append_eq_nil_iff.mp h
  have h1 := failIf_nil h1
  have h2 := failIf_nil h2
  simp only [Bool.or_eq_false_iff, decide_eq_false_iff_not, decide_not, Bool.not_eq_eq_eq_not, Bool.not_false, decide_eq_true_eq] at h1 h2
  omega

/-- What a session's start leaves. -/
theorem fwSession_fields (d : Dev) : ∃ er pr fl, d.fwSession = { d with fw := { d.fw with session := true, erased := er, programmed := pr, flash := fl } } ∧
    (d.fw.session = true → d.fwSession = d) ∧ (d.fw.session = false → pr = []) ∧
    ∀ a, a < d.codeBase ∨ d.codeBase + 4194304 ≤ a → d.fwSession.codeGet a = d.codeGet a := by
  unfold Dev.fwSession
  by_cases h : d.fw.session = true
  · rw [if_pos h]
    refine ⟨d.fw.erased, d.fw.programmed, d.fw.flash, ?_, fun _ => rfl, fun h' => absurd (h.symm.trans h') (by decide), fun _ _ => rfl⟩
    rw [← h]
  · rw [if_neg h]
    obtain ⟨er, fl, he, -, -, hkeep⟩ := fwErase_eq 0 (d.modFw fun f => { f with session := true, erased := [], programmed := [] })
    rw [he]
    refine ⟨er, [], fl, rfl, fun h' => absurd h' h, fun _ => rfl, fun a ha => ?_⟩
    refine hkeep a (.inr ?_)
    show a < d.codeBase + 65536 * 0 ∨ d.codeBase + 65536 * 0 + 65536 ≤ a
    omega

/-- A page is free for a session that has not programmed it. -/
def Dev.chunkFree (d : Dev) (page : Nat) : Prop := d.fw.session = false ∨ page ∉ d.fw.programmed

theorem fwSession_free (h : d.chunkFree page) : page ∉ d.fwSession.fw.programmed := by
  obtain ⟨er, pr, fl, he, hsame, hnew, -⟩ := fwSession_fields d
  cases hs : d.fw.session with
  | true =>
    rw [hsame hs]
    exact h.resolve_left fun h' => absurd (hs.symm.trans h') (by decide)
  | false =>
    rw [he, hnew hs]
    exact List.not_mem_nil

/-- What the pages of a chunk change, whichever are written. -/
theorem fwWrites_fields (k page : Nat) (bs : List Byte) (d : Dev) : (d.fwWrites k page bs).2 = { d with fw := (d.fwWrites k page bs).2.fw } ∧
    (d.fwWrites k page bs).2.fw.session = true ∧
    (page + k ≤ 16384 → ∀ a, a < d.codeBase ∨ d.codeBase + 4194304 ≤ a → (d.fwWrites k page bs).2.codeGet a = d.codeGet a) ∧
    ((∀ j, j < k → d.chunkFree (page + j)) → (d.fwWrites k page bs).1 = k ∧
      (∀ j, j < 256 * k → (d.fwWrites k page bs).2.codeGet (d.codeBase + 256 * page + j) = bs.getD j 0) ∧
      (k ≠ 0 → (d.fwWrites k page bs).2.fw.state = .writing ∧ (d.fwWrites k page bs).2.fw.stage = 0)) := by
  obtain ⟨er, pr, fl, he, -, -, hout⟩ := fwSession_fields d
  obtain ⟨er', pr', fl', hp⟩ := fwPages_eq k page bs d.fwSession
  have hbefore := fwPages_outside k page bs d.fwSession
  have hwrites := fwPages_writes k page bs d.fwSession
  have hbase : d.fwSession.codeBase = d.codeBase := by rw [he]; rfl
  have hfree (j : Nat) (h : d.chunkFree (page + j)) : page + j ∉ d.fwSession.fw.programmed := fwSession_free h
  have hr : d.fwWrites k page bs = ((d.fwSession.fwPages k page bs).1, if (d.fwSession.fwPages k page bs).1 = 0 then (d.fwSession.fwPages k page bs).2
    else (d.fwSession.fwPages k page bs).2.modFw fun f => { f with state := .writing, stage := 0 }) := rfl
  have hsess : d.fwSession.fw.session = true := by rw [he]
  have hfw : d.fwSession = { d with fw := d.fwSession.fw } := by rw [he]
  rw [hbase] at hbefore hwrites
  rw [hr]
  generalize d.fwSession = e at *
  generalize e.fwPages k page bs = r at *
  obtain ⟨m, u⟩ := r
  dsimp only at hp hbefore hwrites ⊢
  have hcode : (if m = 0 then u else u.modFw fun f => { f with state := .writing, stage := 0 }).codeGet = u.codeGet := by split <;> rfl
  refine ⟨?_, ?_, fun hn a ha => ?_, fun hall => ?_⟩
  · subst hp
    rw [hfw]
    split <;> rfl
  · subst hp
    split <;> exact hsess
  · rw [hcode, hbefore a hn ha, hout a ha]
  · obtain ⟨h1, h2⟩ := hwrites fun j hj => hfree j (hall j hj)
    refine ⟨h1, fun j hj => by rw [hcode, h2 j hj], fun hk => ?_⟩
    rw [if_neg (by omega)]
    exact ⟨rfl, rfl⟩


theorem fwChunkAll_trial (h : d.fw.state = .trial) (data : List Byte) (stop : Option Nat) : d.fwChunkAll c data stop = (some (.refused 0), d) := if_pos h

/-- A chunk whose pages are all to be written ends. -/
theorem fwChunk_all (c : Cmd) (n page : Nat) (bs : List Byte) (d : Dev) : d.fwChunk c n n page bs =
    (some (if (d.fwWrites n page bs).1 = n then .ok (256 * (d.fwWrites n page bs).1) else .refused (256 * (d.fwWrites n page bs).1)), (d.fwWrites n page bs).2) := by
  unfold Dev.fwChunk
  extract_lets r
  by_cases h : r.1 = n
  · rw [if_pos h, if_pos h]
  · rw [if_neg h, if_neg h, if_neg h]

/-- A chunk whose first page the session has programmed writes nothing. -/
theorem fwWrites_stop (hs : d.fw.session = true) (hp : page ∈ d.fw.programmed) (k : Nat) (bs : List Byte) : d.fwWrites k page bs = (0, d) := by
  have he : d.fwSession = d := if_pos hs
  unfold Dev.fwWrites
  rw [he, fwPages_stop k bs hp]
  rfl

/-- The buffer and the safe point of a command are those of the device before its acceptance. -/
theorem begun_bufRead (c : Cmd) (op : Nat) (b : Bool) (a n : Nat) (data : List Byte) (d : Dev) :
    (d.begun c op).bufRead b a n data = d.bufRead b a n data := by
  rw [begun_eq]
  rfl

theorem begun_stopPoint (c : Cmd) (op : Nat) (c' : Cmd) (stop : Option Nat) (d : Dev) : (d.begun c op).stopPoint c' stop = d.stopPoint c' stop := by
  rw [Dev.stopPoint, Dev.stopPoint, Dev.dmaOpen, Dev.dmaOpen, begun_host]

/-- FW_CHUNK as it runs on the device that accepted it. -/
theorem fwChunkAll_on {len : Nat} (h : s.dev.fw.state ≠ .trial) (data : List Byte) (stop : Option Nat) (hlen : len = (wordAt c.words 3).toNat)
    (hk : k = min (len / 256) ((s.dev.stopPoint c stop).getD (len / 256))) : (s.dev.begun c 0x80).fwChunkAll c data stop =
    (s.dev.begun c 0x80).fwChunk c (len / 256) k ((wordAt c.words 0).toNat / 256) (s.dev.bufRead (pf c 1 0 1 = 1) (bufAddr c 1) len data) := by
  unfold Dev.fwChunkAll
  rw [if_neg (by rw [(begun_within c 0x80 s.dev).fw]; exact h), begun_stopPoint, begun_bufRead, ← hlen, ← hk]

theorem begun_codeGet (c : Cmd) (op a : Nat) (d : Dev) : (d.begun c op).codeGet a = d.codeGet a := by
  rw [Dev.codeGet, (begun_within c op d).fw, Dev.codeGet]

theorem begun_codeBase (c : Cmd) (op : Nat) (d : Dev) : (d.begun c op).codeBase = d.codeBase := by
  rw [Dev.codeBase, (begun_within c op d).top, Dev.codeBase]

theorem begun_chunkFree (h : s.dev.fw.session = false ∨ page ∉ s.dev.fw.programmed) (op : Nat) : (s.dev.begun c op).chunkFree page := by
  rw [Dev.chunkFree, (begun_within c op s.dev).fw]
  exact h

/-- FW_CHUNK where nothing stops it before its last page. -/
theorem fwChunk_serves (data : List Byte) (stop : Option Nat) {off len at_ : Nat} (hoff : off = (wordAt c.words 0).toNat)
    (hlen : len = (wordAt c.words 3).toNat) (hn : n = len / 256) (hk : k = min n ((s.dev.stopPoint c stop).getD n)) (hat : at_ = slotBase (!s.dev.top.slotB))
    (hbs : bs = s.dev.bufRead (pf c 1 0 1 = 1) (bufAddr c 1) len data) (hall : s.dev.fw.state = .trial ∨ k = n) :
    Serves (.fwChunk c ⟨data, stop⟩) c 0x80 (wholes 0 4) (chunkBad off len) s (fun o d =>
        (s.dev.fw.state = .trial → o = .refused 0 ∧ d = s.dev.begun c 0x80) ∧
        (s.dev.fw.state ≠ .trial → d = { s.dev.begun c 0x80 with fw := d.fw } ∧
          (∀ a, (a < at_ ∨ at_ + 4194304 ≤ a) →
            Tab.get (fun _ => 0xFF#8) d.fw.flash a = Tab.get (fun _ => 0xFF#8) s.dev.fw.flash a)) ∧
        (s.dev.fw.state ≠ .trial → s.dev.fw.session = true → off / 256 ∈ s.dev.fw.programmed →
          o = .refused 0 ∧ d = s.dev.begun c 0x80) ∧
        (s.dev.fw.state ≠ .trial → (∀ j, j < n → s.dev.fw.session = false ∨ off / 256 + j ∉ s.dev.fw.programmed) →
          o = .ok len ∧ d.fw.state = .writing ∧ d.fw.stage = 0 ∧ d.fw.session = true ∧
            ∀ j, j < len → Tab.get (fun _ => 0xFF#8) d.fw.flash (at_ + off + j) = bs.getD j 0)) := by
  refine serves_long (g := Dev.fwChunkAll c data stop) rfl (by rw [fwChunkBody_eq, hoff, hlen]) fun hpf => ?_
  obtain ⟨hoff0, hend, h256, hlen0⟩ := chunkBad_nil (bad_nil hpf)
  have hfw := (begun_within c 0x80 s.dev).fw
  by_cases ht : s.dev.fw.state = .trial
  · exact ⟨_, _, fwChunkAll_trial (by rw [hfw]; exact ht) data stop, fun _ => ⟨rfl, rfl⟩, fun h => absurd ht h, fun h => absurd ht h, fun h => absurd ht h⟩
  have hkn : k = n := hall.resolve_left ht
  have hrun := fwChunkAll_on (c := c) (k := k) ht data stop hlen (hn ▸ hk)
  rw [← hn, hkn, fwChunk_all, ← hbs, ← hoff] at hrun
  obtain ⟨heq, hsess, hout, hwr⟩ := fwWrites_fields n (off / 256) bs (s.dev.begun c 0x80)
  have hstop (h1 : s.dev.fw.session = true) (h2 : off / 256 ∈ s.dev.fw.programmed) :
      (s.dev.begun c 0x80).fwWrites n (off / 256) bs = (0, s.dev.begun c 0x80) := fwWrites_stop (by rw [hfw]; exact h1) (by rw [hfw]; exact h2) n bs
  have hbase : (s.dev.begun c 0x80).codeBase = at_ := (begun_codeBase ..).trans hat.symm
  rw [hbase] at hout hwr
  refine ⟨_, _, hrun, fun h => absurd h ht, fun _ => ⟨heq, fun a ha => (hout (by omega) a ha).trans (begun_codeGet ..)⟩, fun _ h1 h2 => ?_, fun _ hfree => ?_⟩
  · rw [hstop h1 h2]
    exact ⟨congrArg some (if_neg (show ¬ 0 = n by omega)) |> Option.some.inj, rfl⟩
  · obtain ⟨h1, hbytes, hst⟩ := hwr fun j hj => begun_chunkFree (hfree j hj) _
    obtain ⟨hst, hstage⟩ := hst (by omega)
    refine ⟨?_, hst, hstage, hsess, fun j hj => ?_⟩
    · rw [if_pos h1, h1, hn, show 256 * (len / 256) = len by omega]
    · have h := hbytes j (by omega)
      rwa [show at_ + 256 * (off / 256) + j = at_ + off + j by omega] at h

/-- FW_CHUNK that stands at a safe point. -/
theorem fwChunk_stands (data : List Byte) (stop : Option Nat) {off len at_ : Nat} (hoff : off = (wordAt c.words 0).toNat)
    (hlen : len = (wordAt c.words 3).toNat) (hn : n = len / 256) (hk : k = min n ((s.dev.stopPoint c stop).getD n)) (hat : at_ = slotBase (!s.dev.top.slotB))
    (hbs : bs = s.dev.bufRead (pf c 1 0 1 = 1) (bufAddr c 1) len data) (ht : s.dev.fw.state ≠ .trial) (hlt : k < n) (ha : s.dev.takes 0x80 c = true)
    (hpf : paramFail c (wholes 0 4) (chunkBad off len) = none)
    (hfree : ∀ j, j < k → s.dev.fw.session = false ∨ off / 256 + j ∉ s.dev.fw.programmed) :
    ∃ (t : State) (d : Dev), exec (.fwChunk c ⟨data, stop⟩) s = .next t ∧ t = s.withDev (d.stay c.src (256 * k) false) ∧
      d = { s.dev.begun c 0x80 with fw := d.fw } ∧ d.fw.session = true ∧
      ∀ j, j < 256 * k → Tab.get (fun _ => 0xFF#8) d.fw.flash (at_ + off + j) = bs.getD j 0 := by
  obtain ⟨hoff0, -, -, -⟩ := chunkBad_nil (bad_nil hpf)
  have hrun := fwChunkAll_on (c := c) (k := k) ht data stop hlen (hn ▸ hk)
  rw [← hn, ← hbs, ← hoff] at hrun
  obtain ⟨heq, hsess, -, hwr⟩ := fwWrites_fields k (off / 256) bs (s.dev.begun c 0x80)
  obtain ⟨h1, hbytes, -⟩ := hwr fun j hj => begun_chunkFree (hfree j hj) _
  have hchunk : (s.dev.begun c 0x80).fwChunk c n k (off / 256) bs = (none, ((s.dev.begun c 0x80).fwWrites k (off / 256) bs).2.stay c.src (256 * k) false) := by
    unfold Dev.fwChunk
    dsimp only
    rw [if_neg (by rw [h1]; omega), if_pos h1]
  have hbase : (s.dev.begun c 0x80).codeBase = at_ := (begun_codeBase ..).trans hat.symm
  rw [hbase] at hbytes
  refine ⟨_, _, long_stays (g := Dev.fwChunkAll c data stop) (bad := chunkBad off len) rfl ha hpf (by rw [fwChunkBody_eq, hoff, hlen]) (hrun.trans hchunk),
    rfl, heq, hsess, fun j hj => ?_⟩
  have h := hbytes j hj
  rwa [show at_ + 256 * (off / 256) + j = at_ + off + j by omega] at h

/-- The Keeper's queue has no FW_CHUNK. -/
theorem headerFail_chunk {ws : List Word} (h : descOp ws = 0x80) : headerFail true ws = some 0xF000 := if_pos (by rw [h]; decide)

theorem keeper_takes_chunk (h : c.src = .keeper) : s.dev.takes 0x80 c = false := by
  by_contra hne
  obtain ⟨-, hh⟩ := canTake_of_takes (Bool.not_eq_false _ ▸ hne)
  rw [h] at hh
  unfold Dev.headCmd at hh
  split at hh
  next e l he =>
    dsimp only at hh
    split at hh
    · exact absurd hh (Option.some_ne_none _).symm
    next hf =>
      have hop : descOp e.2 = 0x80 := by
        split at hh
        · obtain ⟨w, -, hw⟩ := Option.map_eq_some_iff.mp hh
          exact congrArg Prod.fst hw
        · exact congrArg Prod.fst (Option.some.inj hh)
      exact hf (by rw [decide_eq_true rfl, headerFail_chunk hop]; rfl)
  · exact absurd hh (Option.some_ne_none _).symm

end Sys2Proof.Machine
end

section
/-! FW_ACTIVATE, and the commands of power and the Watch (chapters 13, 15 and 16). -/

namespace Sys2Proof.Machine

set_option Elab.async false

variable {d d' : Dev} {c : Cmd} {s : State}

/-! ### FW_ACTIVATE -/

/-- The device with the trial about to start: the Keeper's queue is discarded, and the other slot is active. -/
def Dev.trialSet (c : Cmd) (d : Dev) : Dev :=
  ((d.keeperDiscard.modFw fun f =>
    { f with state := .trial, confirmAt := d.clk.aonUs + d.rdF 0x300114 0 12 * 1000000, activate := some (c.src, inProg c 0x81) }).modTop
      fun t => { t with slotB := !t.slotB, stage := if t.stage = 8 then (if t.run then 7 else 6) else t.stage }).modKeeper fun k => { k with noImage := false }

/-- VERIFY: the image of the slot that is not active is checked. -/
def Dev.fwVerified (d : Dev) : Dev := d.modFw fun f =>
  { f with stage := BitVec.ofNat 4 (d.imageChecks (!d.top.slotB)), state := if d.imageChecks (!d.top.slotB) = 5 then .verified else .writing,
           svn := d.imageSvn (!d.top.slotB) }

/-- CONFIRM: the slot on trial is the preferred one. -/
def Dev.fwConfirmed (d : Dev) : Dev :=
  (d.modFw fun f => { f with state := .idle, stage := 7, session := false, prefB := d.top.slotB }).modOtp fun o => { o with rollback := max o.rollback d.fw.svn }

/-- FW_ACTIVATE of passing parameters. -/
def Dev.fwAct (c : Cmd) (d : Dev) : Option CmdOut × Dev :=
  if pf c 0 0 2 = 0 then
    if d.fw.state = .writing || d.fw.state = .verified then
      (some (if d.imageChecks (!d.top.slotB) = 5 then .ok 5 else .refused (d.imageChecks (!d.top.slotB))), d.fwVerified)
    else (some (.refused d.fw.stage.toNat), d)
  else if pf c 0 0 2 = 1 then (if d.fw.state = .verified then (none, d.fwTrial c) else (some (.refused d.fw.stage.toNat), d))
  else if d.fw.state = .trial then (some (.ok 7), d.fwConfirmed) else (some (.refused d.fw.stage.toNat), d)

theorem fwActivateBody_eq (c : Cmd) : fwActivateBody c = fun d => checkedLong c [(0, 0, 2)] (failIf (pf c 0 0 2 = 3) 0) (Dev.fwAct c) d := rfl

theorem fwTrial_eq (c : Cmd) (d : Dev) : d.fwTrial c = ((d.trialSet c).keeperRelease.apTo .autopilot 1).autopilotAll := rfl

/-- The Keeper starts again in AUTOPILOT, and the channels are selected by it. -/
theorem restarts_fields (d : Dev) : ∃ t, (d.keeperRelease.apTo .autopilot 1).autopilotAll = t ∧ t.fw = { d.fw with reverted := false } ∧ t.top = d.top ∧
    t.clk = d.clk ∧ t.keeper.sup.ap = .autopilot := by
  have h1 : Within (partScope [.regs, .bar4, .host, .keeper, .fw]) d d.keeperRelease := (Within.refl _ d).keeperRelease
  have hfw := keeperRelease_fw d
  generalize d.keeperRelease = e at h1 hfw
  have h2 : Within (partScope [.regs, .bar4, .host, .keeper, .watch]) e (e.apTo .autopilot 1) := (Within.refl _ e).apTo
  have hap : (e.apTo .autopilot 1).keeper.sup.ap = .autopilot := (congrArg Supervision.ap (apTo_sup .autopilot 1 e)).trans rfl
  generalize e.apTo .autopilot 1 = u at h2 hap
  have h3 : Within runScope u u.autopilotAll := (Within.refl _ u).autopilotAll runScope_runs
  exact ⟨_, rfl, h3.fw.trans (h2.fw.trans hfw), h3.top.trans (h2.top.trans h1.top), h3.clk.trans (h2.clk.trans h1.clk),
    (congrArg Supervision.ap (KeeperStep.of_io (h3.io rfl)).sup).trans hap⟩

theorem fwActivate_trial (ha : s.dev.takes 0x81 c = true) (hp : paramFail c [(0, 0, 2)] (failIf (pf c 0 0 2 = 3) 0) = none) (h1 : pf c 0 0 2 = 1)
    (hst : s.dev.fw.state = .verified) : ∃ t, exec (.fwActivate c) s = .next t ∧ t.pending = s.pending ∧
      t.dev.fw.state = .trial ∧ t.dev.top.slotB = (!s.dev.top.slotB) ∧ t.dev.fw.activate = some (c.src, inProg c 0x81) ∧
      t.dev.fw.confirmAt = s.dev.clk.aonUs + s.dev.rdF 0x300114 0 12 * 1000000 ∧ t.dev.keeper.sup.ap = .autopilot ∧
      t.dev.fw.flash = s.dev.fw.flash ∧ t.dev.clk = s.dev.clk := by
  have hw := begun_within c 0x81 s.dev
  have hrd : (s.dev.begun c 0x81).rdF 0x300114 0 12 = s.dev.rdF 0x300114 0 12 := begun_rdF ..
  have hx := long_stays (x := .fwActivate c) (g := Dev.fwAct c) rfl ha hp rfl ((if_neg (by rw [h1]; decide)).trans ((if_pos h1).trans (if_pos (by rw [hw.fw]; exact hst))))
  rw [fwTrial_eq] at hx
  generalize s.dev.begun c 0x81 = e at hx hw hrd
  obtain ⟨t, ht, hfw, htop, hclk, hap⟩ := restarts_fields (e.trialSet c)
  rw [ht] at hx
  have hfw' : t.fw = { e.fw with state := .trial, confirmAt := e.clk.aonUs + e.rdF 0x300114 0 12 * 1000000, activate := some (c.src, inProg c 0x81),
                                 reverted := false } := hfw
  refine ⟨_, hx, rfl, congrArg Fw.state hfw', ?_, congrArg Fw.activate hfw', ?_, hap, ?_, hclk.trans hw.clk⟩
  · rw [← hw.top]
    exact congrArg Top.slotB htop
  · rw [← hrd, ← hw.clk]
    exact congrArg Fw.confirmAt hfw'
  · have he : e.fw.flash = s.dev.fw.flash := congrArg Fw.flash hw.fw
    exact (congrArg Fw.flash hfw').trans he

/-- Settling of FW_ACTIVATE, by its action and the state of the image. -/
theorem fwActivate_state (ha : s.dev.takes 0x81 c = true) (hp : paramFail c [(0, 0, 2)] (failIf (pf c 0 0 2 = 3) 0) = none) :
    let f := s.dev.fw
    let checks := (s.dev.begun c 0x81).imageChecks (!s.dev.top.slotB)
    (pf c 0 0 2 = 0 → f.state = .writing ∨ f.state = .verified → ∃ t d, exec (.fwActivate c) s = .next t ∧
      Ends c 0x81 (if checks = 5 then .ok 5 else .refused checks) d s t ∧
      d = { s.dev.begun c 0x81 with fw := { f with
        stage := BitVec.ofNat 4 checks, state := if checks = 5 then .verified else .writing, svn := d.fw.svn } }) ∧
    (pf c 0 0 2 = 1 → f.state = .verified → ∃ t, exec (.fwActivate c) s = .next t ∧ t.pending = s.pending ∧
      t.dev.fw.state = .trial ∧ t.dev.top.slotB = (!s.dev.top.slotB) ∧ t.dev.fw.activate = some (c.src, inProg c 0x81) ∧
      t.dev.fw.confirmAt = s.dev.clk.aonUs + s.dev.rdF 0x300114 0 12 * 1000000 ∧ t.dev.keeper.sup.ap = .autopilot ∧
      t.dev.fw.flash = f.flash ∧ t.dev.clk = s.dev.clk) ∧
    (pf c 0 0 2 = 2 → f.state = .trial → ∃ t d, exec (.fwActivate c) s = .next t ∧ Ends c 0x81 (.ok 7) d s t ∧
      d = { s.dev.begun c 0x81 with
        fw := { f with state := .idle, stage := 7, session := false, prefB := s.dev.top.slotB },
        otp := { s.dev.otp with rollback := max s.dev.otp.rollback f.svn } }) ∧
    ((pf c 0 0 2 = 0 ∧ f.state ≠ .writing ∧ f.state ≠ .verified) ∨ (pf c 0 0 2 = 1 ∧ f.state ≠ .verified) ∨
        (pf c 0 0 2 = 2 ∧ f.state ≠ .trial) →
      ∃ t, exec (.fwActivate c) s = .next t ∧ Ends c 0x81 (.refused f.stage.toNat) (s.dev.begun c 0x81) s t) := by
  have hfw := (begun_within c 0x81 s.dev).fw
  have htop := (begun_within c 0x81 s.dev).top
  have hotp := (begun_within c 0x81 s.dev).otp
  refine ⟨fun h0 hst => ?_, fun h1 hst => fwActivate_trial ha hp h1 hst, fun h2 hst => ?_, fun h => ?_⟩
  · have hin : (decide ((s.dev.begun c 0x81).fw.state = .writing) || decide ((s.dev.begun c 0x81).fw.state = .verified)) = true := by
      rw [hfw]
      obtain h | h := hst <;> rw [h] <;> rfl
    obtain ⟨t, ht, he⟩ := long_ends (x := .fwActivate c) (g := Dev.fwAct c) rfl ha hp rfl ((if_pos h0).trans (if_pos hin))
    refine ⟨t, (s.dev.begun c 0x81).fwVerified, ht, ?_, ?_⟩
    · rw [← htop]
      exact he
    · rw [← hfw, ← htop]
      rfl
  · obtain ⟨t, ht, he⟩ := long_ends (x := .fwActivate c) (g := Dev.fwAct c) rfl ha hp rfl
      ((if_neg (by rw [h2]; decide)).trans ((if_neg (by rw [h2]; decide)).trans (if_pos (by rw [hfw]; exact hst))))
    refine ⟨t, (s.dev.begun c 0x81).fwConfirmed, ht, he, ?_⟩
    rw [← hfw, ← htop, ← hotp]
    rfl
  · rw [← hfw]
    obtain ⟨h0, h1, h2⟩ | ⟨h1, h2⟩ | ⟨h2, h3⟩ := h
    · have hout : ¬ (decide ((s.dev.begun c 0x81).fw.state = .writing) || decide ((s.dev.begun c 0x81).fw.state = .verified)) = true := by
        rw [hfw]
        simp [h1, h2]
      exact long_ends (x := .fwActivate c) (g := Dev.fwAct c) rfl ha hp rfl ((if_pos h0).trans (if_neg hout))
    · exact long_ends (x := .fwActivate c) (g := Dev.fwAct c) rfl ha hp rfl ((if_neg (by rw [h1]; decide)).trans ((if_pos h1).trans (if_neg (by rw [hfw]; exact h2))))
    · exact long_ends (x := .fwActivate c) (g := Dev.fwAct c) rfl ha hp rfl
        ((if_neg (by rw [h2]; decide)).trans ((if_neg (by rw [h2]; decide)).trans (if_neg (by rw [hfw]; exact h3))))

/-! ### PWR_OPP -/

/-- The device with another point wanted, and a PWR_OPP that waits for it. -/
def Dev.oppAsked (c : Cmd) (d : Dev) : Dev :=
  ((d.wrF 0x020000 0 2 (pf c 0 0 2)).loadRefresh).modPwr fun p => { p with oppCmd := some (c.src, inProg c 0x90) }

/-- What the point wanted is stored in. -/
def oppWord (c : Cmd) (d : Dev) : List (Nat × Word) := [(0x020000, setFld (d.rd 0x020000) 0 2 (pf c 0 0 2))]

theorem oppAsked_fields (c : Cmd) (d : Dev) :
    d.oppAsked c = { d with regs := (d.oppAsked c).regs, watch := (d.oppAsked c).watch, pwr := { d.pwr with oppCmd := some (c.src, inProg c 0x90) } } ∧
    Stored (oppWord c d) d (d.oppAsked c) := by
  have hs := stored_wr 0x020000 (setFld (d.rd 0x020000) 0 2 (pf c 0 0 2)) d
  have he : d.wrF 0x020000 0 2 (pf c 0 0 2) = d.wr 0x020000 (setFld (d.rd 0x020000) 0 2 (pf c 0 0 2)) := rfl
  have hframe : d.wrF 0x020000 0 2 (pf c 0 0 2) = { d with regs := (d.wrF 0x020000 0 2 (pf c 0 0 2)).regs } := rfl
  rw [← he] at hs
  unfold Dev.oppAsked
  generalize d.wrF 0x020000 0 2 (pf c 0 0 2) = e at hs hframe
  have hl := loadRefresh_eq e
  generalize e.loadRefresh = u at hl
  refine ⟨?_, hs.after fun a => rd_of_regs ?_ a⟩
  · rw [hl, hframe]
    rfl
  · rw [hl]
    rfl

/-- The point wanted is the one asked for, within CAP. -/
theorem oppAsked_wanted (c : Cmd) (hpf : d.pwr.pf = .normal) (hac : d.pwr.anchorCmd = none) : (d.oppAsked c).oppWanted = min (pf c 0 0 2) d.pwr.cap.toNat := by
  obtain ⟨he, hs, -⟩ := oppAsked_fields c d
  have hrd : (d.oppAsked c).rdF 0x020000 0 2 = pf c 0 0 2 := by
    rw [Dev.rdF, hs _ (.head _), fld_setFld_same _ _ (by decide)]
    exact Nat.mod_eq_of_lt (pf_lt c 0 0 2)
  have hp : (d.oppAsked c).pwr = { d.pwr with oppCmd := some (c.src, inProg c 0x90) } := congrArg Dev.pwr he |>.trans rfl
  rw [Dev.oppWanted, hrd, hp, if_neg (by simp [hpf, hac])]

/-- PWR_OPP of passing parameters. -/
def Dev.oppAct (c : Cmd) (d : Dev) : Option CmdOut × Dev := if d.pwr.pf ≠ .normal then (some (.refused 0), d) else (none, (d.oppAsked c).oppKick)

theorem pwrOpp_state (ha : s.dev.takes 0x90 c = true) (hp : paramFail c [(0, 0, 2)] [] = none) :
    (s.dev.pwr.pf ≠ .normal → ∃ t, exec (.pwrOpp c) s = .next t ∧ Ends c 0x90 (.refused 0) (s.dev.begun c 0x90) s t) ∧
    (s.dev.pwr.pf = .normal → s.dev.pwr.avs ≠ .rest → ∃ t, exec (.pwrOpp c) s = .next t ∧ t.pending = s.pending ∧
      t.dev = { s.dev.begun c 0x90 with regs := t.dev.regs, watch := t.dev.watch,
                                        pwr := { s.dev.pwr with oppCmd := some (c.src, inProg c 0x90) } } ∧
      Stored [(0x020000, setFld (s.dev.rd 0x020000) 0 2 (pf c 0 0 2))] s.dev t.dev) ∧
    (∀ want, s.dev.pwr.pf = .normal → s.dev.pwr.avs = .rest →
      want = min (pf c 0 0 2) s.dev.pwr.cap.toNat →
      (want = s.dev.pwr.inForce.toNat → ∃ t d, exec (.pwrOpp c) s = .next t ∧ Ends c 0x90 (.ok want) d s t ∧
        d = { s.dev.begun c 0x90 with regs := d.regs, watch := d.watch } ∧
        Stored [(0x020000, setFld (s.dev.rd 0x020000) 0 2 (pf c 0 0 2))] s.dev d) ∧
      (s.dev.pwr.inForce.toNat < want → ∃ t, exec (.pwrOpp c) s = .next t ∧ t.pending = s.pending ∧
        t.dev = { s.dev.begun c 0x90 with regs := t.dev.regs, watch := t.dev.watch, pwr := t.dev.pwr } ∧
        Stored [(0x020000, setFld (s.dev.rd 0x020000) 0 2 (pf c 0 0 2))] s.dev t.dev ∧
        t.dev.pwr = { s.dev.pwr with oppCmd := some (c.src, inProg c 0x90), millivolt := t.dev.pwr.millivolt,
                                     avs := .upAck (BitVec.ofNat 2 (s.dev.pwr.inForce.toNat + 1)) }) ∧
      (want < s.dev.pwr.inForce.toNat → ∃ t, exec (.pwrOpp c) s = .next t ∧ t.pending = s.pending ∧
        t.dev = { s.dev.begun c 0x90 with regs := t.dev.regs, watch := t.dev.watch, pwr := t.dev.pwr } ∧
        t.dev.pwr = { s.dev.pwr with oppCmd := some (c.src, inProg c 0x90), millivolt := t.dev.pwr.millivolt, avs := .downAck,
                                     inForce := BitVec.ofNat 2 (s.dev.pwr.inForce.toNat - 1) })) := by
  obtain ⟨hoc, hac⟩ := takes_power ha (by decide)
  have hw := begun_within c 0x90 s.dev
  have hpwr := hw.pwr
  have hrd (a : Nat) : (s.dev.begun c 0x90).rd a = s.dev.rd a := begun_rd ..
  have href (h : s.dev.pwr.pf ≠ .normal) := long_ends (x := .pwrOpp c) (g := Dev.oppAct c) rfl ha hp rfl (if_pos (show (s.dev.begun c 0x90).pwr.pf ≠ .normal by rw [hpwr]; exact h))
  have hrun (h : s.dev.pwr.pf = .normal) : exec (.pwrOpp c) s = .next (s.withDev ((s.dev.begun c 0x90).oppAsked c).oppKick) :=
    long_stays (x := .pwrOpp c) (g := Dev.oppAct c) rfl ha hp rfl (if_neg (show ¬ (s.dev.begun c 0x90).pwr.pf ≠ .normal by rw [hpwr]; exact not_not_intro h))
  refine ⟨href, ?_⟩
  clear href
  generalize s.dev.begun c 0x90 = e at hrun hw hpwr hrd
  obtain ⟨hask, hst⟩ := oppAsked_fields c e
  have hst : Stored [(0x020000, setFld (s.dev.rd 0x020000) 0 2 (pf c 0 0 2))] s.dev (e.oppAsked c) := by
    have h := hst.from hrd
    unfold oppWord at h
    rwa [hrd] at h
  have hwant (h : s.dev.pwr.pf = .normal) : (e.oppAsked c).oppWanted = min (pf c 0 0 2) s.dev.pwr.cap.toNat := by
    rw [oppAsked_wanted c (by rw [hpwr]; exact h) (by rw [hpwr]; exact hac), hpwr]
  rw [hpwr] at hask
  generalize e.oppAsked c = u at hrun hask hst hwant
  have hup : u.pwr = { s.dev.pwr with oppCmd := some (c.src, inProg c 0x90) } := (congrArg Dev.pwr hask).trans rfl
  have havs : u.pwr.avs = s.dev.pwr.avs := (congrArg Pwr.avs hup).trans rfl
  have hin : u.pwr.inForce = s.dev.pwr.inForce := (congrArg Pwr.inForce hup).trans rfl
  refine ⟨fun hn hne => ?_, fun want hn hr hw => ⟨fun h => ?_, fun h => ?_, fun h => ?_⟩⟩
  · have hk := hrun hn
    rw [oppKick_moving (by rw [havs]; exact hne)] at hk
    exact ⟨_, hk, rfl, hask, hst⟩
  · have hcmd : u.pwr.oppCmd = some (c.src, inProg c 0x90) := (congrArg Pwr.oppCmd hup).trans rfl
    have hk := hrun hn
    rw [oppKick_there (by rw [havs]; exact hr) (by rw [hwant hn, hin, ← hw]; exact h), oppDone_some _ hcmd, hin, ← h] at hk
    refine ⟨_, _, hk, rfl, ?_, hst⟩
    have hnone : ({ s.dev.pwr with oppCmd := none } : Pwr) = e.pwr := by rw [hpwr, ← hoc]
    have hm : u.modPwr (fun p => { p with oppCmd := none }) = { e with regs := u.regs, watch := u.watch, pwr := { s.dev.pwr with oppCmd := none } } := by
      rw [hask]
      rfl
    refine hm.trans ?_
    rw [hnone]
    rfl
  · have hk := hrun hn
    rw [oppKick_up (by rw [havs]; exact hr) (by rw [hwant hn, hin, ← hw]; exact h)] at hk
    refine ⟨_, hk, rfl, ?_, hst, ?_⟩
    · show ({ u with pwr := _ } : Dev) = _
      rw [hask]
      rfl
    · show ({ u.pwr with avs := _, millivolt := _ } : Pwr) = _
      rw [hin, hup]
      rfl
  · have hk := hrun hn
    have hl := loadRefresh_eq (u.modPwr fun p => { p with
      inForce := BitVec.ofNat 2 (u.pwr.inForce.toNat - 1), avs := .downAck, millivolt := u.oppMv (u.pwr.inForce.toNat - 1) })
    rw [oppKick_down (by rw [havs]; exact hr) (by rw [hwant hn, hin, ← hw]; exact h), hl] at hk
    refine ⟨_, hk, rfl, ?_, ?_⟩
    · show ({ u.modPwr _ with watch := _ } : Dev) = _
      rw [hask]
      rfl
    · show ({ u.pwr with inForce := _, avs := _, millivolt := _ } : Pwr) = _
      rw [hin, hup]
      rfl

/-! ### ANCHOR_ENTER -/

/-- The device with an ANCHOR_ENTER that waits, its entry counted. -/
def Dev.anchorAsked (c : Cmd) (d : Dev) : Dev :=
  (d.modPwr fun p => { p with anchorCmd := some (c.src, inProg c 0x91, pf c 0 0 1 = 1) }).modChart fun h => { h with anchorEntries := h.anchorEntries + 1 }

/-- What the loads that are shed may change. -/
def shedScope : Scope := partScope [.regs, .bar4, .host, .keeper, .watch, .chans, .lans, .outs, .vouts, .buoys, .pairs, .tide, .ports, .txts, .clients, .pwr]

theorem shedScope_links : shedScope.Links :=
  ⟨⟨⟨fun _ _ => trivial, ⟨⟨rfl, rfl, rfl⟩, rfl⟩, rfl, rfl, rfl, rfl, rfl⟩, rfl, rfl, rfl⟩, ⟨⟨rfl, rfl, rfl⟩, rfl, rfl⟩, rfl, rfl, rfl, fun _ => trivial,
    trivial, trivial⟩

theorem shedRun_within (d : Dev) : Within shedScope d d.shedRun := (Within.refl _ d).shedRun shedScope_links

/-- What the store makes of a power failure touches neither power nor ports. -/
theorem chartPowerFail_within (anchor : Bool) (d : Dev) :
    Within (partScope [.regs, .bar4, .host, .keeper, .chart, .draws]) d (d.chartPowerFail anchor) :=
  (Within.refl _ d).chartPowerFail trivial rfl rfl ⟨⟨rfl, rfl, rfl⟩, rfl, rfl⟩

theorem shedLoads_fields (anchor : Bool) (d : Dev) : ∃ t, d.shedLoads anchor = t ∧ t.pwr.pf = d.pwr.pf ∧ t.pwr.anchorCmd = d.pwr.anchorCmd ∧
    t.chart.commit.isSome = true ∧ t.chart.anchorEntries = d.chart.anchorEntries ∧ (∀ p, (t.port p).dark) ∧ t.clk = d.clk ∧ t.ts = d.ts := by
  have h1 := shedRun_within d
  have hk := shedRun_keeps d
  have hd := shedRun_dark d
  rw [shedLoads_eq]
  generalize d.shedRun = e at h1 hk hd
  have h2 := chartPowerFail_within anchor e
  refine ⟨_, rfl, ?_, ?_, chartPowerFail_commit anchor e, ?_, fun p => ?_, h2.clk.trans h1.clk, h2.ts.trans h1.ts⟩
  · rw [h2.pwr]
    exact (congrArg Pwr.pf hk).trans rfl
  · rw [h2.pwr]
    exact (congrArg Pwr.anchorCmd hk).trans rfl
  · rw [chartPowerFail_entries, h1.chart]
  · rw [Dev.port, h2.ports]
    exact hd p

/-- ANCHOR_ENTER of passing parameters. -/
def Dev.anchorAct (c : Cmd) (d : Dev) : Option CmdOut × Dev :=
  if !d.pwr.vbakOk then (some (.refused 1), d)
  else if d.pwr.pf ≠ .normal then (some (.refused 2), d) else (none, (d.anchorAsked c).shedLoads true)

theorem anchorEnter_state (ha : s.dev.takes 0x91 c = true) (hp : paramFail c [(0, 0, 1)] [] = none) :
    (s.dev.pwr.vbakOk = false → ∃ t, exec (.anchorEnter c) s = .next t ∧ Ends c 0x91 (.refused 1) (s.dev.begun c 0x91) s t) ∧
    (s.dev.pwr.vbakOk = true → s.dev.pwr.pf ≠ .normal →
      ∃ t, exec (.anchorEnter c) s = .next t ∧ Ends c 0x91 (.refused 2) (s.dev.begun c 0x91) s t) ∧
    (s.dev.pwr.vbakOk = true → s.dev.pwr.pf = .normal → ∃ t, exec (.anchorEnter c) s = .next t ∧ t.pending = s.pending ∧
      t.dev.pwr.anchorCmd = some (c.src, inProg c 0x91, decide (pf c 0 0 1 = 1)) ∧ t.dev.pwr.pf = .normal ∧ t.dev.shed = true ∧
      t.dev.chart.commit.isSome = true ∧ t.dev.chart.anchorEntries = s.dev.chart.anchorEntries + 1 ∧
      (∀ p, (t.dev.port p).st ≠ .cal ∧ (t.dev.port p).st ≠ .up) ∧ t.dev.clk = s.dev.clk ∧ t.dev.ts = s.dev.ts) := by
  have hw := begun_within c 0x91 s.dev
  have hpwr := hw.pwr
  refine ⟨fun hv => ?_, fun hv hn => ?_, fun hv hn => ?_⟩
  · exact long_ends (x := .anchorEnter c) (g := Dev.anchorAct c) rfl ha hp rfl (if_pos (by rw [hpwr, hv]; rfl))
  · exact long_ends (x := .anchorEnter c) (g := Dev.anchorAct c) rfl ha hp rfl ((if_neg (by rw [hpwr, hv]; decide)).trans (if_pos (by rw [hpwr]; exact hn)))
  · have hx : exec (.anchorEnter c) s = .next (s.withDev (((s.dev.begun c 0x91).anchorAsked c).shedLoads true)) :=
      long_stays (x := .anchorEnter c) (g := Dev.anchorAct c) rfl ha hp rfl ((if_neg (by rw [hpwr, hv]; decide)).trans (if_neg (by rw [hpwr]; exact not_not_intro hn)))
    generalize s.dev.begun c 0x91 = e at hx hw hpwr
    obtain ⟨t, ht, hpf, hac, hcom, hent, hdark, hclk, hts⟩ := shedLoads_fields true (e.anchorAsked c)
    rw [ht] at hx
    have hcmd : t.pwr.anchorCmd = some (c.src, inProg c 0x91, decide (pf c 0 0 1 = 1)) := hac
    refine ⟨_, hx, rfl, hcmd, ?_, ?_, hcom, ?_, hdark, hclk.trans hw.clk, hts.trans hw.ts⟩
    · rw [← hn, ← hpwr]
      exact hpf
    · show t.shed = true
      unfold Dev.shed
      rw [hcmd]
      simp
    · rw [← hw.chart]
      exact hent

/-! ### FAULT_CONFIG -/

/-- FAULT_CONFIG of source `n`. -/
theorem faultConfig_fields {n : Fin 192} (hn : n.val = pf c 0 0 8) (d : Dev) : ∃ e,
    (d.wrWords (fltOff (pf c 0 0 8)) ((List.range 4).map fun i => wordAt c.words (i + 1))).countClamp (Fin.ofNat 192 (pf c 0 0 8)) = e ∧
    Stored (wordsAt c 1 (fltOff n) 4) d e ∧
    e = { d with regs := e.regs, watch := { d.watch with srcs := d.watch.srcs.set n { d.source n with
      count := min (d.source n).count (pf c 2 24 8) } } } := by
  have hof : Fin.ofNat 192 (pf c 0 0 8) = n := Fin.ext (by rw [← hn]; exact Nat.mod_eq_of_lt n.isLt)
  have hst := stored_params_comm c 1 (fltOff n) 4 d
  have hf : d.wrWords (fltOff n) ((List.range 4).map fun i => wordAt c.words (i + 1)) =
      { d with regs := (d.wrWords (fltOff n) ((List.range 4).map fun i => wordAt c.words (i + 1))).regs } := rfl
  rw [hof, ← hn]
  generalize d.wrWords (fltOff n) ((List.range 4).map fun i => wordAt c.words (i + 1)) = u at hst hf
  have hthr : u.fltN n = pf c 2 24 8 := congrArg (fld · 24 8) (hst.1 (fltOff n + 4 * 1, wordAt c.words (1 + 1)) (List.mem_map_of_mem (List.mem_range.mpr (by decide))))
  refine ⟨_, rfl, hst.after fun _ => rfl, ?_⟩
  have he : u.countClamp n = { u with watch := { u.watch with srcs := u.watch.srcs.set n { u.source n with count := min (u.source n).count (u.fltN n) } } } := rfl
  rw [he, hthr, hf]
  rfl

theorem begun_source (c : Cmd) (op : Nat) (n : Fin 192) (d : Dev) : (d.begun c op).source n = d.source n :=
  congrArg (fun w : Watch => w.srcs.get n) (begun_within c op d).watch

/-- Settles O60: each command of firmware, power and the Watch does what its row says. -/
theorem firmwarePowerAndFaultCommands : Obligations.FirmwarePowerAndFaultCommands := by
  refine fun c s => ⟨fun ws h => headerFail_chunk h, fun data stop h => ?_, fun data stop off len n k at_ bs bad _ hoff hlen hn hk hat hbs hbad => ?_,
    fwActivate_state, pwrOpp_state, anchorEnter_state, ?_⟩
  · have hw : command 0x80 c (fwChunkBody data stop c) s.dev = s.dev := command_waits (keeper_takes_chunk h)
    exact exec_run (f := command 0x80 c (fwChunkBody data stop c)) rfl hw
  · subst hbad
    exact ⟨fun hall => fwChunk_serves data stop hoff hlen hn hk hat hbs hall,
      fun ht hlt ha hpf hfree => fwChunk_stands data stop hoff hlen hn hk hat hbs ht hlt ha hpf hfree⟩
  · refine serves_checked (fun d => (.ok, (d.wrWords (fltOff (pf c 0 0 8)) ((List.range 4).map fun i => wordAt c.words (i + 1))).countClamp
      (Fin.ofNat 192 (pf c 0 0 8)))) rfl fun _ n hn => ?_
    obtain ⟨e, he, hst, heq⟩ := faultConfig_fields hn (s.dev.begun c 0xA0)
    rw [begun_source, (begun_within c 0xA0 s.dev).watch] at heq
    dsimp only
    rw [he]
    exact ⟨rfl, stored_begun.mp hst, heq⟩

end Sys2Proof.Machine
end

section
/-! PORT_CONFIG and PACKET_SEND (chapter 9). -/

namespace Sys2Proof.Machine

set_option Elab.async false

variable {d d' : Dev} {c : Cmd} {s : State} {p : Fin 8}

/-! ### Words stored each at its own register -/

/-- Words written one after the other, each to its own register, are stored. -/
theorem stored_foldl (l : List (Nat × Word)) : ∀ d : Dev, (l.map (·.1)).Nodup → Stored l d (l.foldl (fun d e => d.wr e.1 e.2) d) := by
  induction l with
  | nil => exact fun d _ => ⟨fun _ h => absurd h List.not_mem_nil, fun _ _ => rfl⟩
  | cons e l ih =>
    intro d hl
    obtain ⟨hne, hl⟩ := List.nodup_cons.mp hl
    refine (stored_wr e.1 e.2 d).append (ih (d.wr e.1 e.2) hl) fun x hx f hf => ?_
    obtain rfl := List.mem_singleton.mp hx
    exact fun h => hne (List.mem_map.mpr ⟨f, hf, h.symm⟩)

/-- Only registers change where words are written one after the other. -/
theorem foldl_wr_regs (l : List (Nat × Word)) (d : Dev) :
    l.foldl (fun d e => d.wr e.1 e.2) d = { d with regs := (l.foldl (fun d e => d.wr e.1 e.2) d).regs } :=
  (Within.foldl (S := partScope [.regs]) (.refl _ d) (fun _ _ h => h.wr trivial) l).eq

/-! ### PORT_CONFIG -/

/-- The words that PORT_CONFIG stores. -/
def portStores (p : Fin 8) (c : Cmd) : List (Nat × Word) := portWords.zipIdx.map fun e => (portOff p + e.1, wordAt c.words (e.2 + 1))

/-- The port as PORT_CONFIG sets it up. -/
def Dev.portSetup (p : Fin 8) (c : Cmd) (d : Dev) : Dev := (portStores p c).foldl (fun d e => d.wr e.1 e.2) d

/-- A port that shows nothing of its receiver. -/
def Port.blind (x : Port) : Port := { x with cdr := false, pcs := false, fec := false, hiBer := false }

/-- PORT_CONFIG of passing parameters. -/
def Dev.portConfig (p : Fin 8) (c : Cmd) (d : Dev) : CmdOut × Dev :=
  if bit (d.portCfg p) 31 && fld (d.portCfg p) 25 2 ≠ pf c 1 25 2 then (.refused 1, d)
  else (.ok (if ((d.portSetup p c).portChanged p (d.portCfg p)).1 then 2 else 0), ((d.portSetup p c).portChanged p (d.portCfg p)).2)

theorem portConfigBody_eq (c : Cmd) (hp : p = Fin.ofNat 8 (pf c 0 0 3)) :
    portConfigBody c = fun d => checked c ((0, 0, 3) :: wholes 1 27) (portConfigBad c) (Dev.portConfig p c) d := by
  subst hp
  funext d
  have hf (d : Dev) : d.portSetup (Fin.ofNat 8 (pf c 0 0 3)) c = portWords.zipIdx.foldl
      (fun d e => d.wr (portOff (Fin.ofNat 8 (pf c 0 0 3)) + e.1) (wordAt c.words (e.2 + 1))) d := List.foldl_map
  unfold portConfigBody Dev.portConfig
  simp only [hf]
  rfl

theorem portWords_nodup : portWords.Nodup := by decide

theorem portStores_offs (p : Fin 8) (c : Cmd) : (portStores p c).map (·.1) = portWords.map (portOff p + ·) := by
  unfold portStores
  rw [List.map_map, show ((·.1) ∘ fun e : Nat × Nat => (portOff p + e.1, wordAt c.words (e.2 + 1))) = (portOff p + ·) ∘ Prod.fst from rfl, ← List.map_map,
    List.zipIdx_map_fst]

theorem portSetup_stored (p : Fin 8) (c : Cmd) (d : Dev) : Stored (portStores p c) d (d.portSetup p c) := by
  refine stored_foldl _ d ?_
  rw [portStores_offs]
  exact portWords_nodup.map fun _ _ h => Nat.add_left_cancel h

theorem portSetup_eq (p : Fin 8) (c : Cmd) (d : Dev) : d.portSetup p c = { d with regs := (d.portSetup p c).regs } := foldl_wr_regs _ d

theorem portSetup_port (p q : Fin 8) (c : Cmd) (d : Dev) : (d.portSetup p c).port q = d.port q := (congrArg (fun e : Dev => e.port q) (portSetup_eq p c d)).trans rfl

theorem portSetup_cfg (p : Fin 8) (c : Cmd) (d : Dev) : (d.portSetup p c).portCfg p = wordAt c.words 1 :=
  (portSetup_stored p c d).1 (portOff p + 0, wordAt c.words (0 + 1)) (.head _)

theorem pf_eq_bit (c : Cmd) (w i : Nat) : pf c w i 1 = bitAt 0 (bit (wordAt c.words w) i) := by
  have h := pf_lt c w i 1
  unfold bit
  change pf c w i 1 = bitAt 0 (pf c w i 1 == 1)
  obtain h | h : pf c w i 1 = 0 ∨ pf c w i 1 = 1 := by omega
  all_goals rw [h]; rfl

/-- Rows 1 to 3 of Table 9-2, by the enable of the port that is written and the state that it finds. -/
theorem portChanged_cases (p : Fin 8) (old : Word) (d : Dev) :
    (bit (d.portCfg p) 31 = false → (d.port p).st ≠ .off → d.portChanged p old = (false, (d.portLeave p .off 1).modPort p Port.blind)) ∧
    (bit (d.portCfg p) 31 = true → (d.port p).st ≠ .off → linkFields old ≠ linkFields (d.portCfg p) →
      d.portChanged p old = (true, (d.portLeave p .down 2).modPort p Port.blind)) ∧
    (bit (d.portCfg p) 31 = true → (d.port p).st ≠ .off → linkFields old = linkFields (d.portCfg p) → d.portChanged p old = (false, d)) ∧
    (bit (d.portCfg p) 31 = true → (d.port p).st = .off → d.portChanged p old = (false, d.portTo p .down 3)) ∧
    (bit (d.portCfg p) 31 = false → (d.port p).st = .off → d.portChanged p old = (false, d)) := by
  unfold Dev.portChanged
  refine ⟨fun h hs => ?_, fun h hs hl => ?_, fun h hs hl => ?_, fun h hs => ?_, fun h hs => ?_⟩
  · simp only [h, hs, decide_false, Bool.not_false, Bool.and_self, if_true]
    rfl
  · simp only [h, hs, hl, decide_false, decide_true, Bool.not_false, Bool.not_true, Bool.and_false, Bool.and_true, if_true, ne_eq, not_false_eq_true]
    rfl
  · simp [h, hs, hl]
  · simp [h, hs]
  · simp [h, hs]

theorem portLeave_st (p : Fin 8) (st : PortState) (row : Nat) (d : Dev) : (((d.portLeave p st row).modPort p Port.blind).port p).st = st := by
  have h1 := (SetsPort.refl p d).portTo (st := st) (row := row)
  rw [modPort_port_same, portLeave_eq]
  show ((Dev.port _ p).st) = st
  rw [portLeft_st h1, h1.same]
  rfl

/-- PORT_CONFIG that is not refused: its answer, where the port goes, and what it leaves. -/
theorem portConfig_free (p : Fin 8) (c : Cmd) (d : Dev) (h : ¬ (bit (d.portCfg p) 31 = true ∧ fld (d.portCfg p) 25 2 ≠ pf c 1 25 2)) :
    let o := (d.portConfig p c).1
    let d' := (d.portConfig p c).2
    let l := portStores p c
    let st := (d.port p).st
    let moves := linkFields (d.portCfg p) ≠ linkFields (wordAt c.words 1)
    o = .ok (if st ≠ .off ∧ pf c 1 31 1 = 1 ∧ moves then 2 else 0) ∧
      (pf c 1 31 1 = 0 → (d'.port p).st = .off) ∧
      (pf c 1 31 1 = 1 → st ≠ .off → moves → (d'.port p).st = .down) ∧
      (pf c 1 31 1 = 1 → st ≠ .off → ¬ moves → Stored l d d' ∧ d' = { d with regs := d'.regs }) ∧
      (pf c 1 31 1 = 0 → st = .off → Stored l d d' ∧ d' = { d with regs := d'.regs }) ∧
      (pf c 1 31 1 = 1 → st = .off → (d'.port p).st = .down ∧ Stands l d' ∧ KeepsRegs (l.map (·.1)) d d') := by
  intro o d' l st moves
  have hfree : d.portConfig p c = (.ok (if ((d.portSetup p c).portChanged p (d.portCfg p)).1 then 2 else 0),
      ((d.portSetup p c).portChanged p (d.portCfg p)).2) := if_neg fun hc => h (by simpa using hc)
  have ho : o = _ := congrArg Prod.fst hfree
  have hd : d' = _ := congrArg Prod.snd hfree
  have hcfg := portSetup_cfg p c d
  have hport := portSetup_port p p c d
  have hst := portSetup_stored p c d
  have heq := portSetup_eq p c d
  have hpf := pf_eq_bit c 1 31
  rw [ho, hd]
  clear_value o d'
  clear ho hd hfree h o d'
  generalize d.portSetup p c = e at hcfg hport hst heq ⊢
  obtain ⟨hoff, hmove, hkeep, hup, hstay⟩ := portChanged_cases p (d.portCfg p) e
  rw [hcfg, hport] at hoff hmove hkeep hup hstay
  cases hb : bit (wordAt c.words 1) 31 with
  | false =>
    rw [hb] at hpf
    have h0 : pf c 1 31 1 = 0 := hpf
    have h1 : pf c 1 31 1 ≠ 1 := by omega
    by_cases hs : st = .off
    · rw [hstay hb hs]
      exact ⟨by simp [h1], fun _ => by rw [hport]; exact hs, fun h => absurd h h1, fun h => absurd h h1, fun _ _ => ⟨hst, heq⟩, fun h => absurd h h1⟩
    · rw [hoff hb hs]
      exact ⟨by simp [h1], fun _ => portLeave_st .., fun h => absurd h h1, fun h => absurd h h1, fun _ h => absurd h hs, fun h => absurd h h1⟩
  | true =>
    rw [hb] at hpf
    have h1 : pf c 1 31 1 = 1 := hpf
    have h0 : pf c 1 31 1 ≠ 0 := by omega
    by_cases hs : st = .off
    · rw [hup hb hs]
      refine ⟨by simp [hs], fun h => absurd h h0, fun _ h => absurd hs h, fun _ h => absurd hs h, fun h => absurd h h0, fun _ _ => ?_⟩
      have hto := (SetsPort.refl p e).portTo (st := .down) (row := 3)
      have hw : Within (partScope [.regs, .bar4, .host, .keeper, .watch, .ports]) e e := .refl _ e
      have hrd : ∀ a, ¬ EventWord a → (e.portTo p .down 3).rd a = e.rd a :=
        fun a ha => ((Within.refl (looseScope [.regs, .bar4, .host, .keeper, .watch, .ports] []) e).portTo (hE := ⟨⟨rfl, rfl, rfl⟩, rfl⟩)).regs a List.not_mem_nil ha
      refine ⟨by rw [hto.same]; rfl, fun x hx => ?_, fun a ha hev => ?_⟩
      · rw [hrd x.1 ?_]
        · exact hst.1 x hx
        · have hm : x.1 ∈ (portStores p c).map (·.1) := List.mem_map_of_mem hx
          rw [portStores_offs] at hm
          obtain ⟨k, hk, hk'⟩ := List.mem_map.mp hm
          have hlt : k < 0x100 := by revert hk; clear hk'; revert k; decide
          rw [← hk']
          exact not_eventWord_of_lt (portOff_lt p hlt)
      · rw [hrd a hev]
        exact hst.2 a fun x hx hax => ha (hax ▸ List.mem_map_of_mem hx)
    · by_cases hm : moves
      · rw [hmove hb hs hm]
        exact ⟨by simp [hs, h1, hm], fun h => absurd h h0, fun _ _ _ => portLeave_st .., fun _ _ h => absurd hm h, fun h => absurd h h0, fun _ h => absurd h hs⟩
      · rw [hkeep hb hs (not_not.mp hm)]
        exact ⟨by simp [hm], fun h => absurd h h0, fun _ _ h => absurd h hm, fun _ _ _ => ⟨hst, heq⟩, fun h => absurd h h0, fun _ h => absurd h hs⟩

/-- PORT_CONFIG moves the port by rows 1 to 3. -/
theorem portConfig_serves (c : Cmd) (s : State) (p : Fin 8) (hp : p = Fin.ofNat 8 (pf c 0 0 3)) :
    Serves (.portConfig c) c 0x50 ((0, 0, 3) :: wholes 1 27) (portConfigBad c) s (fun o d =>
      let l := portWords.zipIdx.map fun e => (portOff p + e.1, wordAt c.words (e.2 + 1))
      let st := (s.dev.port p).st
      let held := bit (s.dev.portCfg p) 31 = true ∧ fld (s.dev.portCfg p) 25 2 ≠ pf c 1 25 2
      let moves := linkFields (s.dev.portCfg p) ≠ linkFields (wordAt c.words 1)
      (held → o = .refused 1 ∧ d = s.dev.begun c 0x50) ∧
      (¬ held → o = .ok (if (s.dev.port p).st ≠ .off ∧ pf c 1 31 1 = 1 ∧
          linkFields (s.dev.portCfg p) ≠ linkFields (wordAt c.words 1) then 2 else 0) ∧
        (pf c 1 31 1 = 0 → (d.port p).st = .off) ∧
        (pf c 1 31 1 = 1 → st ≠ .off → moves → (d.port p).st = .down) ∧
        (pf c 1 31 1 = 1 → st ≠ .off → ¬ moves →
          Stored l s.dev d ∧ d = { s.dev.begun c 0x50 with regs := d.regs }) ∧
        (pf c 1 31 1 = 0 → st = .off → Stored l s.dev d ∧ d = { s.dev.begun c 0x50 with regs := d.regs }) ∧
        (pf c 1 31 1 = 1 → st = .off → (d.port p).st = .down ∧ Stands l d ∧ KeepsRegs (l.map (·.1)) s.dev d))) := by
  have hcfg : (s.dev.begun c 0x50).portCfg p = s.dev.portCfg p := begun_rd ..
  have hport : (s.dev.begun c 0x50).port p = s.dev.port p := congrArg (·.get p) (begun_within c 0x50 s.dev).ports
  refine serves_checked (Dev.portConfig p c) (congrArg (fun b => run (command 0x50 c b) s) (portConfigBody_eq c hp)) ?_
  intro l st held moves
  refine ⟨fun hh => ?_, fun hh => ?_⟩
  · have hr : (s.dev.begun c 0x50).portConfig p c = (.refused 1, s.dev.begun c 0x50) :=
      if_pos (by rw [hcfg]; simpa using hh)
    rw [hr]
    exact ⟨rfl, rfl⟩
  · have hf := portConfig_free p c (s.dev.begun c 0x50) (by rw [hcfg]; exact hh)
    simp only [hcfg, hport, stored_begun, keepsRegs_begun] at hf
    exact hf

/-! ### PACKET_SEND -/

/-- The frame that PACKET_SEND leaves with its port. -/
def packetFrame (c : Cmd) : TxFrame :=
  ⟨none, some (c.src, inProg c 0x54), pf c 0 8 1 = 1, BitVec.ofNat 16 (pf c 0 16 16), pf c 0 9 1 = 1,
    (wordAt c.words 1).toNat + (wordAt c.words 2).toNat * 4294967296, pf c 3 0 11⟩

/-- PACKET_SEND of passing parameters. -/
def Dev.packetSend (p : Fin 8) (c : Cmd) (d : Dev) : Option CmdOut × Dev :=
  if (d.port p).st = .up then (none, d.modPort p fun x => { x with txq := x.txq ++ [packetFrame c] }) else (some (.refused (d.port p).st.code), d)

theorem packetSendBody_eq (c : Cmd) (hp : p = Fin.ofNat 8 (pf c 0 0 3)) : packetSendBody c = fun d =>
    checkedLong c [(0, 0, 3), (0, 8, 1), (0, 9, 1), (0, 16, 16), whole 1, whole 2, (3, 0, 11)] (failIf (pf c 3 0 11 < 14 || 1996 < pf c 3 0 11) 96)
      (Dev.packetSend p c) d := by
  subst hp
  rfl

/-- PACKET_SEND leaves its frame with a port that is UP, and is refused by another. -/
theorem packetSend_state (hp : p = Fin.ofNat 8 (pf c 0 0 3)) (ha : s.dev.takes 0x54 c = true)
    (hn : paramFail c [(0, 0, 3), (0, 8, 1), (0, 9, 1), (0, 16, 16), whole 1, whole 2, (3, 0, 11)]
      (failIf (pf c 3 0 11 < 14 || 1996 < pf c 3 0 11) 96) = none) :
    ((s.dev.port p).st ≠ .up → ∃ t, exec (.packetSend c) s = .next t ∧ Ends c 0x54 (.refused (s.dev.port p).st.code) (s.dev.begun c 0x54) s t) ∧
    ((s.dev.port p).st = .up → ∃ t, exec (.packetSend c) s = .next t ∧ t = { s with
      dev := (s.dev.begun c 0x54).modPort p fun x => { x with txq := x.txq ++ [packetFrame c] } }) := by
  have hport : (s.dev.begun c 0x54).port p = s.dev.port p := congrArg (·.get p) (begun_within c 0x54 s.dev).ports
  have hx : exec (.packetSend c) s = run (command 0x54 c (packetSendBody c)) s := rfl
  have hb := congrFun (packetSendBody_eq c hp) (s.dev.begun c 0x54)
  refine ⟨fun h => ?_, fun h => ⟨_, ?_, rfl⟩⟩
  · rw [← hport] at h ⊢
    exact long_ends hx ha hn hb (if_neg h)
  · rw [← hport] at h
    exact long_stays hx ha hn hb (if_pos h)

end Sys2Proof.Machine
end

section
/-! What the operations of a client instance leave of the clients (chapter 10). -/

namespace Sys2Proof.Machine

set_option Elab.async false

variable {S : Scope} {d d₀ d' : Dev} {k : Fin 16} {x : Client} {p : Fin 8}

/-! ### Frames -/

theorem Within.send (h : Within S d₀ d) {p : Fin 8} {m : TxMsg} (hp : S.Has .ports := by trivial) : Within S d₀ (d.send p m) := h.modPort

theorem Within.clientSend (h : Within S d₀ d) {l : List UcTlv} {a : Dest} (hp : S.Has .ports := by trivial) : Within S d₀ (d.clientSend k l a) :=
  .ite (fun _ => h) fun _ => h.send

theorem Within.clientAsk (h : Within S d₀ d) {l : List (GrantKind × BitVec 128)} (hp : S.Has .ports := by trivial) (hc : S.Has .clients := by trivial) :
    Within S d₀ (d.clientAsk k l) := h.foldl (fun _ _ h => h.clientSend.modClient) l

theorem Within.clientDisable (h : Within S d₀ d) (hp : S.Has .ports := by trivial) (hc : S.Has .clients := by trivial) (hE : S.Events := by trivial) :
    Within S d₀ (d.clientDisable k) := by
  refine .ite (fun _ => h) fun _ => ?_
  exact ((h.foldl (fun _ _ h => h.clientSend) _).modClient).clientTo

theorem Within.clientEnable (h : Within S d₀ d) (hp : S.Has .ports := by trivial) (hc : S.Has .clients := by trivial) (hE : S.Events := by trivial) :
    Within S d₀ (d.clientEnable k) :=
  .ite (fun _ => h.clientDisable) fun _ => .ite (fun _ => .ite (fun _ => h.clientTo.clientAsk) fun _ => h.clientTo) fun _ => h

theorem Within.clientRequest (h : Within S d₀ d) {row : Nat} (hp : S.Has .ports := by trivial) (hc : S.Has .clients := by trivial) (hE : S.Events := by trivial) :
    Within S d₀ (d.clientRequest k row) := by
  have h1 : Within S d₀ ((d.modClient k fun x => { x.stop with held := x.held.filter fun g => g.1 = .announce || g.2 ≠ (d.client k).parentAddr }).clientTo k .requesting row) :=
    h.modClient.clientTo
  exact .ite (fun _ => h1.clientAsk) fun _ => h1

theorem Within.clientParent (h : Within S d₀ d) {changed : Bool} (hp : S.Has .ports := by trivial) (hc : S.Has .clients := by trivial)
    (hE : S.Events := by trivial) : Within S d₀ (d.clientParent k changed) := by
  refine .ite (fun _ => h) fun _ => ?_
  split
  · exact h.clientRequest
  · exact .ite (fun _ => h.clientRequest) fun _ => h
  · exact .ite (fun _ => h.clientRequest) fun _ => h
  · exact h

theorem Within.clientClass (h : Within S d₀ d) (hc : S.Has .clients := by trivial) : Within S d₀ (d.clientClass k) := by
  unfold Dev.clientClass
  dsimp only
  split
  · exact h.modClient
  · exact h

/-! ### The clients after a change of one -/

/-- Of the clients, `d'` differs from `d` in client `k` alone, which is `x`. -/
def SetsClient (k : Fin 16) (x : Client) (d d' : Dev) : Prop := d'.clients = d.clients.set k x

theorem SetsClient.refl (k : Fin 16) (d : Dev) : SetsClient k (d.client k) d d := (set_get d.clients k).symm

theorem SetsClient.same (h : SetsClient k x d d') : d'.client k = x := (congrArg (·.get k) h).trans (get_set_same ..)

theorem SetsClient.ne (h : SetsClient k x d d') {j : Fin 16} (hj : j ≠ k) : d'.client j = d.client j := (congrArg (·.get j) h).trans (get_set_ne _ _ hj)

theorem SetsClient.side (h : SetsClient k x d₀ d) (hs : d'.clients = d.clients) : SetsClient k x d₀ d' := hs.trans h

theorem SetsClient.modClient (h : SetsClient k x d₀ d) {f : Client → Client} : SetsClient k (f x) d₀ (d.modClient k f) := by
  have he : (d.modClient k f).clients = d.clients.set k (f (d.client k)) := rfl
  rw [SetsClient, he, h.same, h, Vector.set_set]

/-- A client in another state. -/
def Client.to (st : ClState) (x : Client) : Client := { x with st := st }

theorem SetsClient.clientTo (h : SetsClient k x d₀ d) {st : ClState} {row : Nat} : SetsClient k (x.to st) d₀ (d.clientTo k st row) := by
  have h1 : SetsClient k (x.to st) d₀ (d.modClient k (Client.to st)) := h.modClient
  exact h1.side ((Within.refl (partScope [.regs, .bar4, .host, .keeper]) (d.modClient k (Client.to st))).stateEv (hS := ⟨⟨rfl, rfl, rfl⟩, rfl⟩)).clients

theorem clientSend_clients (k : Fin 16) (l : List UcTlv) (a : Dest) (d : Dev) : (d.clientSend k l a).clients = d.clients :=
  ((Within.refl (partScope [.ports]) d).clientSend).clients

/-! ### What a client is set up with -/

/-- The client has the parent that it had. -/
def Client.Named (x y : Client) : Prop := y.parent = x.parent ∧ y.parentId = x.parentId

theorem Client.Named.refl (x : Client) : x.Named x := ⟨rfl, rfl⟩

theorem Client.Named.trans {x y z : Client} (h : x.Named y) (h' : y.Named z) : x.Named z := ⟨h'.1.trans h.1, h'.2.trans h.2⟩

/-- A request keeps the state of its client. -/
theorem SetsClient.clientAsk (l : List (GrantKind × BitVec 128)) : ∀ {d : Dev} {x : Client}, SetsClient k x d₀ d →
    ∃ y, SetsClient k y d₀ (d.clientAsk k l) ∧ x.Named y ∧ y.st = x.st := by
  induction l with
  | nil => exact fun {d x} h => ⟨x, h, .refl x, rfl⟩
  | cons g l ih =>
    intro d x h
    have h1 : SetsClient k x d₀ (d.clientSend k [.request g.1 (d.prLog k g.1) 300] (.addr g.2)) := h.side (clientSend_clients ..)
    obtain ⟨y, hy, hn, hst⟩ := ih (h1.modClient (f := fun x => { x with asked := grantIn g x.asked, denied := x.denied.filter (· ≠ g) }))
    exact ⟨y, hy, Client.Named.trans ⟨rfl, rfl⟩ hn, hst⟩

theorem SetsClient.clientDisable (h : SetsClient k x d₀ d) : ∃ y, SetsClient k y d₀ (d.clientDisable k) ∧ x.Named y ∧ y.st = .disabled := by
  unfold Dev.clientDisable
  dsimp only
  rw [h.same]
  split
  next hst => exact ⟨x, h, .refl x, hst⟩
  next hst =>
    have h1 : ∀ l : List (BitVec 128), SetsClient k x d₀ (l.foldl (fun d a => d.clientSend k ((x.held.filter (·.2 = a)).map fun g => .cancel g.1) (.addr a)) d) :=
      fun l => h.side ((Within.refl (partScope [.ports]) d).foldl (fun _ _ h => h.clientSend) l).clients
    exact ⟨_, ((h1 _).modClient (f := fun x => { x.stop with held := [], asked := [], denied := [], seen := [], linkDelay := none })).clientTo, ⟨rfl, rfl⟩, rfl⟩

/-- Rows 1 and 3 of Table 10-2, by the enable that is written and the state that it finds. -/
theorem SetsClient.clientEnable (h : SetsClient k x d₀ d) : ∃ y, SetsClient k y d₀ (d.clientEnable k) ∧ x.Named y ∧
    y.st = (if bit (d.pr k) 31 = false then .disabled else if x.st = .disabled then .listening else x.st) := by
  unfold Dev.clientEnable
  by_cases hb : bit (d.pr k) 31 = false
  · rw [if_pos hb, if_pos (by rw [hb]; rfl)]
    exact h.clientDisable
  · rw [if_neg hb, if_neg (by simpa using hb), h.same]
    by_cases hst : x.st = .disabled
    · rw [if_pos hst, if_pos hst]
      dsimp only
      split
      · exact (h.clientTo (row := 3)).clientAsk _
      · exact ⟨_, h.clientTo, ⟨rfl, rfl⟩, rfl⟩
    · rw [if_neg hst, if_neg hst]
      exact ⟨x, h, .refl x, rfl⟩

theorem SetsClient.clientRequest (h : SetsClient k x d₀ d) {row : Nat} : ∃ y, SetsClient k y d₀ (d.clientRequest k row) ∧ x.Named y ∧ y.st = .requesting := by
  have h1 : SetsClient k _ d₀ ((d.modClient k fun x => { x.stop with held := x.held.filter fun g => g.1 = .announce || g.2 ≠ (d.client k).parentAddr }).clientTo k
      .requesting row) := h.modClient.clientTo
  unfold Dev.clientRequest
  dsimp only
  split
  · obtain ⟨y, hy, hn, hst⟩ := h1.clientAsk _
    exact ⟨y, hy, Client.Named.trans ⟨rfl, rfl⟩ hn, hst⟩
  · exact ⟨_, h1, ⟨rfl, rfl⟩, rfl⟩

/-- A client without a parent, and one that is disabled, stay as they are. -/
theorem SetsClient.clientParent (h : SetsClient k x d₀ d) (changed : Bool) : ∃ y, SetsClient k y d₀ (d.clientParent k changed) ∧ x.Named y ∧
    (x.parent = none ∨ x.st = .disabled → y.st = x.st) := by
  have hstay : ∃ y, SetsClient k y d₀ d ∧ x.Named y ∧ (x.parent = none ∨ x.st = .disabled → y.st = x.st) := ⟨x, h, .refl x, fun _ => rfl⟩
  have hreq (row : Nat) (hn : x.parent ≠ none) (hd : x.st ≠ .disabled) : ∃ y, SetsClient k y d₀ (d.clientRequest k row) ∧ x.Named y ∧
      (x.parent = none ∨ x.st = .disabled → y.st = x.st) := by
    obtain ⟨y, hy, hnm, -⟩ := h.clientRequest (row := row)
    exact ⟨y, hy, hnm, fun hc => absurd hc (not_or.mpr ⟨hn, hd⟩)⟩
  unfold Dev.clientParent
  dsimp only
  rw [h.same]
  by_cases hn : x.parent = none
  · rw [if_pos (by rw [hn]; rfl)]
    exact hstay
  · rw [if_neg (by simpa using hn)]
    split
    next hst => exact hreq 4 hn (by rw [hst]; decide)
    next hst =>
      split
      · exact hreq 7 hn (by rw [hst]; decide)
      · exact hstay
    next hst =>
      split
      · exact hreq 4 hn (by rw [hst]; decide)
      · exact hstay
    next hst => exact hstay

theorem SetsClient.clientClass (h : SetsClient k x d₀ d) : ∃ y, SetsClient k y d₀ (d.clientClass k) ∧ x.Named y ∧ y.st = x.st := by
  unfold Dev.clientClass
  dsimp only
  split
  · exact ⟨_, h.modClient, ⟨rfl, rfl⟩, rfl⟩
  · exact ⟨x, h, .refl x, rfl⟩

end Sys2Proof.Machine
end

section
/-! PTP_INSTANCE_CONFIG (chapter 10). -/

namespace Sys2Proof.Machine

set_option Elab.async false

variable {S : Scope} {d d₀ d' : Dev} {c : Cmd} {s : State} {k : Fin 16} {p : Fin 8} {x : Client}

/-! ### A client -/

/-- The parent that PTP_INSTANCE_CONFIG names, its candidates and its portIdentity. -/
def cfgParent (c : Cmd) : Option (Fin 4) := if pf c 5 0 4 = 15 then none else some (Fin.ofNat 4 (pf c 5 0 4))
def cfgCands (c : Cmd) : List (BitVec 128) := (List.range 4).map fun i => BitVec.ofNat 128 (beNat (paramBytes c (6 + 4 * i) 16))
def cfgPid (c : Cmd) : BitVec 80 := BitVec.ofNat 80 (beNat (paramBytes c 22 10))

/-- The client as PTP_INSTANCE_CONFIG sets it up. -/
def Client.setup (c : Cmd) (x : Client) : Client :=
  { x with cands := cfgCands c, parent := cfgParent c, parentId := cfgPid c, asymRr := 0, hold := false }

/-- The client's parent is another than before. -/
def Client.renamed (c : Cmd) (x : Client) : Bool :=
  cfgParent c ≠ x.parent || cfgPid c ≠ x.parentId || ((cfgParent c).map fun i => (cfgCands c).getD i.val 0) ≠ (x.parent.map fun i => x.cands.getD i.val 0)

/-- The words of a client stored, after the CANCELs of row 1. -/
def Dev.clientStored (k : Fin 16) (c : Cmd) (d : Dev) : Dev :=
  (if bit (wordAt c.words 1) 31 then d else d.clientDisable k).wrWords (prOff k) ((List.range 4).map fun i => wordAt c.words (i + 1))

/-- The client set up, its ASYM_RR cleared. -/
def Dev.clientSetup (k : Fin 16) (c : Cmd) (d : Dev) : Dev := ((d.clientStored k c).modClient k (Client.setup c)).pub40 (prOff k + 0x38) 0

/-- The client set up, and in the state that follows. -/
def Dev.clientNew (k : Fin 16) (c : Cmd) (d : Dev) : Dev :=
  (((d.clientSetup k c).clientEnable k).clientParent k (((d.clientStored k c).client k).renamed c)).clientClass k

/-- The set-up of a client that is not disabled would change its transport or its domain. -/
def Dev.clientHeld (k : Fin 16) (c : Cmd) (d : Dev) : Prop :=
  (d.client k).st ≠ .disabled ∧ (fld (d.pr k) 23 8 ≠ pf c 1 23 8 ∨ fld (d.pr k) 13 8 ≠ pf c 1 13 8)

theorem held_iff {a b c : Prop} [Decidable a] [Decidable b] [Decidable c] : (decide a && (decide b || decide c)) = true ↔ a ∧ (b ∨ c) := by
  simp only [Bool.and_eq_true, Bool.or_eq_true, decide_eq_true_eq]

theorem clientConfig_held (h : d.clientHeld k c) : clientConfig k c d = (.refused 1, d) := if_pos (held_iff.mpr h)

theorem clientConfig_free (h : ¬ d.clientHeld k c) : clientConfig k c d = (.ok ((d.clientNew k c).client k).st.code, d.clientNew k c) :=
  if_neg fun hc => h (held_iff.mp hc)

theorem Within.clientStored (h : Within S d₀ d) (hreg : ∀ i, i < 4 → S.reg (prOff k + 4 * i)) (hr : S.Has .regs := by trivial) (hp : S.Has .ports := by trivial)
    (hc : S.Has .clients := by trivial) (hE : S.Events := by trivial) : Within S d₀ (d.clientStored k c) := by
  have h1 : Within S d₀ (if bit (wordAt c.words 1) 31 then d else d.clientDisable k) := .ite (fun _ => h) fun _ => h.clientDisable
  refine h1.wrWords (fun i hi => hreg i ?_) hr
  simpa using hi

theorem clientNew_within (k : Fin 16) (c : Cmd) (d : Dev) :
    Within (partScope [.regs, .bar4, .host, .watch, .keeper, .ports, .clients]) d (d.clientNew k c) := by
  have h1 : Within (partScope [.regs, .bar4, .host, .watch, .keeper, .ports, .clients]) d (d.clientStored k c) := (Within.refl _ d).clientStored fun _ _ => trivial
  have h2 : Within (partScope [.regs, .bar4, .host, .watch, .keeper, .ports, .clients]) d (d.clientSetup k c) := h1.modClient.pub40
  exact h2.clientEnable.clientParent.clientClass

/-- After the set-up only events write registers. -/
theorem clientNew_reads (k : Fin 16) (c : Cmd) (d : Dev) {a : Nat} (ha : a < 0x2C1200) : (d.clientNew k c).rd a = (d.clientSetup k c).rd a :=
  have h : Within (lowScope [.regs, .bar4, .host, .keeper, .ports, .clients] []) (d.clientSetup k c) (d.clientNew k c) :=
    (Within.refl _ _).clientEnable.clientParent.clientClass
  h.below a List.not_mem_nil ha

theorem clientSetup_reads (k : Fin 16) (c : Cmd) (d : Dev) :
    Stands (wordsAt c 1 (prOff k) 4) (d.clientSetup k c) ∧ (d.clientSetup k c).rd40 (prOff k + 0x38) = 0 := by
  have hst : Stored (wordsAt c 1 (prOff k) 4) _ (d.clientStored k c) := stored_params_comm c 1 (prOff k) 4 _
  refine ⟨fun e he => ?_, rd40_pub40 _ 0 _⟩
  obtain ⟨i, hi, he'⟩ := wordsAt_mem he
  refine Eq.trans ?_ (hst.1 e he)
  rw [he']
  exact rd_pub40_ne _ _ (by omega) (by omega)

theorem clientSetup_pr (k : Fin 16) (c : Cmd) (d : Dev) : (d.clientSetup k c).pr k = wordAt c.words 1 :=
  (clientSetup_reads k c d).1 (prOff k + 4 * 0, wordAt c.words (1 + 0)) (.head _)

theorem clientSetup_client (k : Fin 16) (c : Cmd) (d : Dev) : ∃ x : Client, SetsClient k (x.setup c) d (d.clientSetup k c) ∧
    x.st = if bit (wordAt c.words 1) 31 then (d.client k).st else .disabled := by
  have hw (e : Dev) : (e.wrWords (prOff k) ((List.range 4).map fun i => wordAt c.words (i + 1))).clients = e.clients :=
    ((Within.refl (partScope [.regs]) e).wrWords (fun _ _ => trivial) rfl).clients
  obtain ⟨x, hx, hst⟩ : ∃ x : Client, SetsClient k x d (d.clientStored k c) ∧ x.st = if bit (wordAt c.words 1) 31 then (d.client k).st else .disabled := by
    unfold Dev.clientStored
    split
    · exact ⟨_, (SetsClient.refl k d).side (hw _), rfl⟩
    · obtain ⟨y, hy, -, hst⟩ := (SetsClient.refl k d).clientDisable
      exact ⟨y, hy.side (hw _), hst⟩
  exact ⟨x, (hx.modClient (f := Client.setup c)).side ((Within.refl (partScope [.regs]) _).pub40).clients, hst⟩

/-- The client that PTP_INSTANCE_CONFIG leaves. -/
theorem clientNew_client (k : Fin 16) (c : Cmd) (d : Dev) : ∃ y : Client, SetsClient k y d (d.clientNew k c) ∧ y.parent = cfgParent c ∧ y.parentId = cfgPid c ∧
    (bit (wordAt c.words 1) 31 = false → y.st = .disabled) ∧
    (bit (wordAt c.words 1) 31 = true → (d.client k).st = .disabled → cfgParent c = none → y.st = .listening) := by
  obtain ⟨x, hx, hst⟩ := clientSetup_client k c d
  obtain ⟨y1, h1, hn1, hst1⟩ := hx.clientEnable
  obtain ⟨y2, h2, hn2, hst2⟩ := h1.clientParent (((d.clientStored k c).client k).renamed c)
  obtain ⟨y, h3, hn3, hst3⟩ := h2.clientClass
  rw [clientSetup_pr] at hst1
  have hst1 : y1.st = if bit (wordAt c.words 1) 31 = false then .disabled else if x.st = .disabled then .listening else x.st := hst1
  have hn := (hn1.trans hn2).trans hn3
  have hp1 : y1.parent = cfgParent c := hn1.1
  refine ⟨y, h3, hn.1, hn.2, fun hb => ?_, fun hb hd hp => ?_⟩
  · rw [hb, if_pos rfl] at hst1
    rw [hst3, hst2 (.inr hst1), hst1]
  · rw [hb, if_pos rfl, hd] at hst
    rw [hb, if_neg (by decide), if_pos hst] at hst1
    rw [hst3, hst2 (.inl (hp1.trans hp)), hst1]

/-! ### A server -/

/-- The words that PTP_INSTANCE_CONFIG stores of a server. -/
def srvStores (p : Fin 8) (c : Cmd) : List (Nat × Word) := (psrvWords p).zipIdx.map fun e => (e.1, wordAt c.words (e.2 + 1))

/-- The server set up, its port's buckets brought up to date before. -/
def Dev.serverSetup (p : Fin 8) (c : Cmd) (d : Dev) : Dev := (srvStores p c).foldl (fun d e => d.wr e.1 e.2) (d.bucketsSync p)

/-- The set-up of a server that has clients would change its transport or its domain. -/
def Dev.serverHeld (p : Fin 8) (c : Cmd) (d : Dev) : Prop :=
  d.portClients p ≠ 0 ∧ (fld (d.psrv p) 24 5 ≠ pf c 1 24 5 ∨ fld (d.psrv p) 14 8 ≠ pf c 1 14 8)

theorem serverConfig_held (h : d.serverHeld p c) : serverConfig p c d = (.refused (satN 16 (d.portClients p)), d) := if_pos (held_iff.mpr h)

theorem serverConfig_free (h : ¬ d.serverHeld p c) : serverConfig p c d = (.ok, (d.serverSetup p c).loadRefresh) := by
  have hf : d.serverSetup p c = (psrvWords p).zipIdx.foldl (fun d e => d.wr e.1 (wordAt c.words (e.2 + 1))) (d.bucketsSync p) := List.foldl_map
  rw [hf]
  exact if_neg fun hc => h (held_iff.mp hc)

theorem srvStores_offs (p : Fin 8) (c : Cmd) : (srvStores p c).map (·.1) = psrvWords p := by
  unfold srvStores
  rw [List.map_map, show ((·.1) ∘ fun e : Nat × Nat => (e.1, wordAt c.words (e.2 + 1))) = Prod.fst from rfl, List.zipIdx_map_fst]

theorem psrvWords_nodup (n : Nat) : (psrvWords n).Nodup :=
  (by decide : ([0, 4, 8, 0xC, 0x10, 0x14, 0x20, 0x24] : List Nat).Nodup).map fun _ _ h => Nat.add_left_cancel h

theorem serverSetup_stored (p : Fin 8) (c : Cmd) (d : Dev) : Stored (srvStores p c) d (d.serverSetup p c) :=
  (stored_foldl _ _ (by rw [srvStores_offs]; exact psrvWords_nodup p)).from fun _ => rfl

theorem serverSetup_eq (p : Fin 8) (c : Cmd) (d : Dev) : d.serverSetup p c = { d with regs := (d.serverSetup p c).regs, ports := (d.serverSetup p c).ports } :=
  ((Within.refl (partScope [.regs, .ports]) d).bucketsSync.foldl (fun _ _ h => h.wr trivial) _).eq

theorem serverSetup_port (p : Fin 8) (c : Cmd) (d : Dev) {q : Fin 8} (hq : q ≠ p) : (d.serverSetup p c).port q = d.port q := by
  have h : (d.serverSetup p c).ports = (d.bucketsSync p).ports := ((Within.refl (partScope [.regs]) (d.bucketsSync p)).foldl (fun _ _ h => h.wr trivial) _).ports
  rw [Dev.port, h]
  exact get_set_ne _ _ hq

/-! ### The command -/

/-- The set-up of the Pilots. -/
def Dev.pilotSetup (c : Cmd) (d : Dev) : Dev := (d.wr 0x210010 (wordAt c.words 1)).wrWords 0x210040 ((List.range 5).map fun i => wordAt c.words (i + 2))

/-- PTP_INSTANCE_CONFIG of passing parameters. -/
def Dev.ptpConfig (c : Cmd) (d : Dev) : CmdOut × Dev :=
  if pf c 0 0 5 < 16 then clientConfig (Fin.ofNat 16 (pf c 0 0 5)) c d
  else if pf c 0 0 5 < 24 then serverConfig (Fin.ofNat 8 (pf c 0 0 5 - 16)) c d
  else (.ok, d.pilotSetup c)

theorem ptpConfigBody_eq (c : Cmd) : ptpConfigBody c = fun d => checked c (instUsed (pf c 0 0 5)) (ptpConfigBad c) (Dev.ptpConfig c) d := rfl

theorem ptpConfig_client (hk : k.val = pf c 0 0 5) (d : Dev) : d.ptpConfig c = clientConfig k c d := by
  have h : k = Fin.ofNat 16 (pf c 0 0 5) := Fin.ext (by rw [← hk]; exact (Nat.mod_eq_of_lt k.isLt).symm)
  rw [h]
  exact if_pos (hk ▸ k.isLt)

theorem ptpConfig_server (hp : pf c 0 0 5 = 16 + p.val) (d : Dev) : d.ptpConfig c = serverConfig p c d := by
  have h : p = Fin.ofNat 8 (pf c 0 0 5 - 16) := Fin.ext (by rw [hp, Nat.add_sub_cancel_left]; exact (Nat.mod_eq_of_lt p.isLt).symm)
  have hlt := p.isLt
  rw [h]
  exact (if_neg (by omega)).trans (if_pos (by omega))

theorem ptpConfig_pilots (h : pf c 0 0 5 = 24) (d : Dev) : d.ptpConfig c = (.ok, d.pilotSetup c) := (if_neg (by omega)).trans (if_neg (by omega))

theorem pilotSetup_stored (c : Cmd) (d : Dev) : Stored ((0x210010, wordAt c.words 1) :: wordsAt c 2 0x210040 5) d (d.pilotSetup c) :=
  (stored_wr 0x210010 _ d).append (stored_params_comm c 2 0x210040 5 _) fun e he f hf => by
    obtain rfl := List.mem_singleton.mp he
    obtain ⟨i, hi, hf⟩ := wordsAt_mem hf
    exact fun h => absurd (show (0x210010 : Nat) = f.1 from h) (by omega)

theorem pilotSetup_eq (c : Cmd) (d : Dev) : d.pilotSetup c = { d with regs := (d.pilotSetup c).regs } :=
  (((Within.refl (partScope [.regs]) d).wr trivial).wrWords (fun _ _ => trivial) rfl).eq

/-- The instance that PTP_INSTANCE_CONFIG of passing parameters names: a client, a server, or the Pilots. -/
theorem ptpConfig_inst (h : paramFail c (instUsed (pf c 0 0 5)) (ptpConfigBad c) = none) :
    (∃ k : Fin 16, k.val = pf c 0 0 5) ∨ (∃ p : Fin 8, pf c 0 0 5 = 16 + p.val) ∨ pf c 0 0 5 = 24 := by
  by_cases h1 : pf c 0 0 5 < 16
  · exact .inl ⟨⟨_, h1⟩, rfl⟩
  by_cases h2 : pf c 0 0 5 < 24
  · exact .inr (.inl ⟨⟨pf c 0 0 5 - 16, by omega⟩, (Nat.add_sub_of_le (Nat.le_of_not_lt h1)).symm⟩)
  by_cases h3 : pf c 0 0 5 = 24
  · exact .inr (.inr h3)
  have hb := bad_nil h
  simp only [ptpConfigBad, h1, h2, h3, if_false] at hb
  exact absurd hb (List.cons_ne_nil _ _)

/-- What PTP_INSTANCE_CONFIG may change, whatever instance it names. -/
theorem ptpConfig_within (h : paramFail c (instUsed (pf c 0 0 5)) (ptpConfigBad c) = none) (d : Dev) :
    Within (partScope [.regs, .bar4, .host, .watch, .keeper, .ports, .clients]) d (d.ptpConfig c).2 := by
  have h0 : Within (partScope [.regs, .bar4, .host, .watch, .keeper, .ports, .clients]) d d := .refl _ d
  obtain ⟨k, hk⟩ | ⟨p, hp⟩ | h24 := ptpConfig_inst h
  · rw [ptpConfig_client hk]
    by_cases hh : d.clientHeld k c
    · rw [clientConfig_held hh]
      exact h0
    · rw [clientConfig_free hh]
      exact clientNew_within k c d
  · rw [ptpConfig_server hp]
    by_cases hh : d.serverHeld p c
    · rw [serverConfig_held hh]
      exact h0
    · rw [serverConfig_free hh]
      exact (h0.bucketsSync.foldl (fun _ _ h => h.wr trivial) _).loadRefresh
  · rw [ptpConfig_pilots h24]
    exact (h0.wr trivial).wrWords (fun _ _ => trivial) rfl

theorem begun_client (c : Cmd) (op : Nat) (j : Fin 16) (d : Dev) : (d.begun c op).client j = d.client j := congrArg (·.get j) (begun_within c op d).clients

theorem begun_port (c : Cmd) (op : Nat) (q : Fin 8) (d : Dev) : (d.begun c op).port q = d.port q := congrArg (·.get q) (begun_within c op d).ports

theorem begun_portClients (c : Cmd) (op : Nat) (q : Fin 8) (d : Dev) : (d.begun c op).portClients q = d.portClients q := by
  rw [Dev.portClients, (begun_within c op d).pilot, Dev.portClients]

/-- A client, as PTP_INSTANCE_CONFIG leaves it. -/
theorem clientConfig_fields (k : Fin 16) (c : Cmd) (d : Dev) :
    (d.clientHeld k c → (clientConfig k c d).1 = .refused 1 ∧ (clientConfig k c d).2 = d) ∧
    (¬ d.clientHeld k c → ∃ e, e = (clientConfig k c d).2 ∧ (clientConfig k c d).1 = .ok (e.client k).st.code ∧ Stands (wordsAt c 1 (prOff k) 4) e ∧
      e.rd40 (prOff k + 0x38) = 0 ∧ (e.client k).parent = cfgParent c ∧ (e.client k).parentId = cfgPid c ∧
      (pf c 1 31 1 = 0 → (e.client k).st = .disabled) ∧
      (pf c 1 31 1 = 1 → (d.client k).st = .disabled → pf c 5 0 4 = 15 → (e.client k).st = .listening) ∧
      (∀ j, j ≠ k → e.client j = d.client j)) := by
  refine ⟨fun h => by rw [clientConfig_held h]; exact ⟨rfl, rfl⟩, fun h => ⟨_, rfl, ?_⟩⟩
  rw [clientConfig_free h]
  obtain ⟨y, hy, hp, hid, hoff, hon⟩ := clientNew_client k c d
  obtain ⟨hst, h38⟩ := clientSetup_reads k c d
  have hpf := pf_eq_bit c 1 31
  have hk := k.isLt
  have hoffs : ∀ i, i < 0x40 → prOff k + i < 0x2C1200 := fun i hi => by simp only [prOff]; omega
  have hrd (i : Nat) (hi : i < 0x40) : (d.clientNew k c).rd (prOff k + i) = (d.clientSetup k c).rd (prOff k + i) := clientNew_reads k c d (hoffs i hi)
  refine ⟨rfl, fun e he => ?_, ?_, ?_, ?_, fun h0 => ?_, fun h1 hd h15 => ?_, fun j hj => hy.ne hj⟩
  · obtain ⟨i, hi, he'⟩ := wordsAt_mem he
    rw [he', hrd (4 * i) (by omega), ← he']
    exact hst e he
  · rw [rd40_eq, rdU40_of_rd (hrd 0x38 (by decide)) (hrd 0x3C (by decide)), ← rd40_eq]
    exact h38
  · rw [hy.same]
    exact hp
  · rw [hy.same]
    exact hid
  · rw [hy.same]
    refine hoff ?_
    cases hb : bit (wordAt c.words 1) 31 with
    | false => rfl
    | true => rw [hb] at hpf; exact absurd (hpf.symm.trans h0) (by decide)
  · rw [hy.same]
    refine hon ?_ hd (if_pos h15)
    cases hb : bit (wordAt c.words 1) 31 with
    | true => rfl
    | false => rw [hb] at hpf; exact absurd (hpf.symm.trans h1) (by decide)

/-- A server, as PTP_INSTANCE_CONFIG leaves it. -/
theorem serverConfig_fields (p : Fin 8) (c : Cmd) (d : Dev) :
    (d.serverHeld p c → (serverConfig p c d).1 = .refused (satN 16 (d.portClients p)) ∧ (serverConfig p c d).2 = d) ∧
    (¬ d.serverHeld p c → (serverConfig p c d).1 = .ok ∧ Stored (srvStores p c) d (serverConfig p c d).2 ∧
      (serverConfig p c d).2.clients = d.clients ∧ ∀ q, q ≠ p → (serverConfig p c d).2.port q = d.port q) := by
  refine ⟨fun h => by rw [serverConfig_held h]; exact ⟨rfl, rfl⟩, fun h => ?_⟩
  have hst := serverSetup_stored p c d
  have hcl : (d.serverSetup p c).clients = d.clients := (congrArg Dev.clients (serverSetup_eq p c d)).trans rfl
  have hne := fun q (hq : q ≠ p) => serverSetup_port p c d hq
  rw [serverConfig_free h]
  generalize d.serverSetup p c = e at hst hcl hne ⊢
  have hw : Within (partScope [.watch]) e e.loadRefresh := (Within.refl _ e).loadRefresh
  exact ⟨rfl, hst.after (rd_of_regs (hw.same .regs rfl)), hw.clients.trans hcl, fun q hq => (congrArg (·.get q) hw.ports).trans (hne q hq)⟩

/-- PTP_INSTANCE_CONFIG sets up a client, a server or the Pilots. -/
theorem ptpConfig_serves (c : Cmd) (s : State) :
    Serves (.ptpInstanceConfig c) c 0x51 (instUsed (pf c 0 0 5)) (ptpConfigBad c) s (fun o d =>
      (∀ k : Fin 16, k.val = pf c 0 0 5 →
        let held := (s.dev.client k).st ≠ .disabled ∧
          (fld (s.dev.pr k) 23 8 ≠ pf c 1 23 8 ∨ fld (s.dev.pr k) 13 8 ≠ pf c 1 13 8)
        (held → o = .refused 1 ∧ d = s.dev.begun c 0x51) ∧
        (¬ held → o = .ok (d.client k).st.code ∧ Stands (wordsAt c 1 (prOff k) 4) d ∧ d.rd40 (prOff k + 0x38) = 0 ∧
          (d.client k).parent = (if pf c 5 0 4 = 15 then none else some (Fin.ofNat 4 (pf c 5 0 4))) ∧
          (d.client k).parentId = BitVec.ofNat 80 (beNat (paramBytes c 22 10)) ∧
          (pf c 1 31 1 = 0 → (d.client k).st = .disabled) ∧
          (pf c 1 31 1 = 1 → (s.dev.client k).st = .disabled → pf c 5 0 4 = 15 → (d.client k).st = .listening) ∧
          (∀ j, j ≠ k → d.client j = s.dev.client j))) ∧
      (∀ p : Fin 8, pf c 0 0 5 = 16 + p.val →
        let held := s.dev.portClients p ≠ 0 ∧ (fld (s.dev.psrv p) 24 5 ≠ pf c 1 24 5 ∨ fld (s.dev.psrv p) 14 8 ≠ pf c 1 14 8)
        (held → o = .refused (satN 16 (s.dev.portClients p)) ∧ d = s.dev.begun c 0x51) ∧
        (¬ held → o = .ok ∧ Stored ((psrvWords p).zipIdx.map fun e => (e.1, wordAt c.words (e.2 + 1))) s.dev d ∧
          d.clients = s.dev.clients ∧ ∀ q, q ≠ p → d.port q = s.dev.port q)) ∧
      (pf c 0 0 5 = 24 → o = .ok ∧ Stored ((0x210010, wordAt c.words 1) :: wordsAt c 2 0x210040 5) s.dev d ∧
        d = { s.dev.begun c 0x51 with regs := d.regs }) ∧
      d = { s.dev.begun c 0x51 with
        regs := d.regs, bar4 := d.bar4, host := d.host, watch := d.watch, keeper := d.keeper, ports := d.ports,
        clients := d.clients }) := by
  have hcl (j : Fin 16) : (s.dev.begun c 0x51).client j = s.dev.client j := begun_client ..
  have hpr (j : Fin 16) : (s.dev.begun c 0x51).pr j = s.dev.pr j := begun_rd ..
  have hsrv (q : Fin 8) : (s.dev.begun c 0x51).psrv q = s.dev.psrv q := begun_rd ..
  have hcnt (q : Fin 8) : (s.dev.begun c 0x51).portClients q = s.dev.portClients q := begun_portClients ..
  refine serves_body (Dev.ptpConfig c) (congrArg (fun b => run (command 0x51 c b) s) (ptpConfigBody_eq c)) rfl fun hn => ?_
  refine ⟨fun k hk => ?_, fun p hp => ?_, fun h24 => ?_, (ptpConfig_within hn _).eq⟩
  · rw [ptpConfig_client hk]
    have hf := clientConfig_fields k c (s.dev.begun c 0x51)
    simp only [Dev.clientHeld, hcl, hpr] at hf
    refine ⟨hf.1, fun hh => ?_⟩
    obtain ⟨e, rfl, he⟩ := hf.2 hh
    exact he
  · rw [ptpConfig_server hp]
    have hf := serverConfig_fields p c (s.dev.begun c 0x51)
    simp only [Dev.serverHeld, hcnt, hsrv, stored_begun, (begun_within c 0x51 s.dev).clients, begun_port] at hf
    exact hf
  · rw [ptpConfig_pilots h24]
    exact ⟨rfl, stored_begun.mp (pilotSetup_stored c _), pilotSetup_eq c _⟩

end Sys2Proof.Machine
end

section
/-! What the operations of the client table leave of it (chapter 10). -/

namespace Sys2Proof.Machine

set_option Elab.async false

variable {S : Scope} {d d₀ d' : Dev}

/-! ### The first entry of an index -/

section
variable {α : Type} {i j : Nat} {v : α}

theorem find_ins_same (i : Nat) (v : α) (m : Tab α) : ((Tab.ins i v m).find? fun e => e.1 = i) = some (i, v) := by
  induction m with
  | nil => simp [Tab.ins]
  | cons x m ih =>
    unfold Tab.ins
    by_cases h : i < x.1
    · simp [h]
    · by_cases h' : x.1 = i
      · simp [h']
      · simp [h, h', ih]

theorem find_ins_ne (hj : j ≠ i) (v : α) (m : Tab α) : ((Tab.ins i v m).find? fun e => e.1 = j) = m.find? fun e => e.1 = j := by
  induction m with
  | nil => simp [Tab.ins, hj.symm]
  | cons x m ih =>
    unfold Tab.ins
    by_cases h : i < x.1
    · simp [h, hj.symm]
    · by_cases h' : x.1 = i
      · simp [h', hj.symm]
      · simp only [h, h', if_false, List.find?_cons, ih]

theorem find_del_same (i : Nat) (m : Tab α) : ((Tab.del i m).find? fun e => e.1 = i) = none := by
  induction m with
  | nil => rfl
  | cons x m ih =>
    unfold Tab.del
    by_cases h : x.1 = i
    · simp only [h, if_true, ih]
    · simp only [h, if_false, List.find?_cons, decide_false, ih]

theorem find_del_ne (hj : j ≠ i) (m : Tab α) : ((Tab.del i m).find? fun e => e.1 = j) = m.find? fun e => e.1 = j := by
  induction m with
  | nil => rfl
  | cons x m ih =>
    unfold Tab.del
    by_cases h : x.1 = i
    · simp only [h, if_true, ih, List.find?_cons, hj.symm, decide_false]
    · simp only [h, if_false, List.find?_cons, ih]

theorem del_mem {m : Tab α} {e : Nat × α} (h : e ∈ Tab.del i m) : e ∈ m ∧ e.1 ≠ i := by
  refine ⟨Tab.mem_del h, fun he => ?_⟩
  have hn := List.find?_eq_none.mp (find_del_same i m) e h
  exact hn (decide_eq_true he)

end

theorem entryAt_of_entries {i : Nat} (h : d'.pilot.entries = d.pilot.entries) : d'.entryAt i = d.entryAt i := by rw [Dev.entryAt, h, Dev.entryAt]

/-! ### Frames -/

theorem Within.entryWrite (h : Within S d₀ d) {i : Nat} (hS : S.Io := by trivial) : Within S d₀ (d.entryWrite i) := by
  unfold Dev.entryWrite
  split
  · exact h.memWrite
  · exact h

theorem Within.uncache (h : Within S d₀ d) {i : Nat} (hp : S.Has .pilot := by trivial) : Within S d₀ (d.uncache i) := h.modPilot

theorem Within.entryPut (h : Within S d₀ d) {i : Nat} {e : Entry} (hS : S.Io := by trivial) (hp : S.Has .pilot := by trivial) :
    Within S d₀ (d.entryPut i e) := by
  have h1 : Within S d₀ (d.modPilot fun x => { x with entries := Tab.del i x.entries }) := h.modPilot
  exact .ite (fun _ => h1.entryWrite.uncache) fun _ => h.modPilot

theorem Within.writeBack (h : Within S d₀ d) {i : Nat} (hS : S.Io := by trivial) (hp : S.Has .pilot := by trivial) : Within S d₀ (d.writeBack i) := by
  have h1 : Within S d₀ (d.modPilot fun x => { x with writing := x.writing.filter (· ≠ i) }) := h.modPilot
  unfold Dev.writeBack
  dsimp only
  split
  · exact .ite (fun _ => h1.entryWrite.modPilot.uncache) fun _ => h1
  · exact h1

theorem Within.cancelEntry (h : Within S d₀ d) {tell : Bool} {i : Nat} {e : Entry} (hS : S.Io := by trivial) (hp : S.Has .pilot := by trivial)
    (hP : S.Has .ports := by trivial) (hw : S.Has .watch := by trivial) (hl : S.load = true := by trivial) : Within S d₀ (d.cancelEntry tell i e).2 := by
  have h1 : Within S d₀ (if tell && decide ((d.port e.port).st = .up) then
      d.send e.port (.signaling e.domain (e.grants.map .cancel) (e.transport = .ipv6) (.node e.mac e.ip e.tags)) else d) :=
    .ite (fun _ => h.send) fun _ => h
  exact h1.entryPut.loadRefresh

/-! ### The table -/

theorem entryWrite_pilot (i : Nat) (d : Dev) : (d.entryWrite i).pilot = d.pilot := ((Within.refl (looseScope [.bar4, .host] []) d).entryWrite (hS := ⟨rfl, rfl, rfl⟩)).pilot

/-- A freed entry leaves the table and the cache. -/
theorem entryPut_freed (i : Nat) {e : Entry} (h : e.grants = []) (d : Dev) :
    (d.entryPut i e).pilot = { d.pilot with entries := Tab.del i d.pilot.entries, cache := d.pilot.cache.filter (· ≠ i) } := by
  unfold Dev.entryPut
  rw [if_pos (by rw [h]; rfl)]
  have hp := entryWrite_pilot i (d.modPilot fun x => { x with entries := Tab.del i x.entries })
  generalize (d.modPilot fun x => { x with entries := Tab.del i x.entries }).entryWrite i = f at hp
  refine (congrArg (fun x : Pilot => { x with cache := x.cache.filter (· ≠ i) }) hp).trans rfl

/-- A stored entry stands in the table, and in the cache. -/
theorem entryPut_stored (i : Nat) {e : Entry} (h : e.grants ≠ []) (d : Dev) :
    d.entryPut i e = d.modPilot fun x => { x with entries := Tab.ins i e x.entries, cache := listed i x.cache } :=
  if_neg (by simpa using h)

theorem entryPut_entryAt (i : Nat) (e : Entry) (d : Dev) :
    (d.entryPut i e).entryAt i = (if e.grants = [] then none else some e) ∧ ∀ j, j ≠ i → (d.entryPut i e).entryAt j = d.entryAt j := by
  by_cases h : e.grants = []
  · rw [if_pos h]
    refine ⟨?_, fun j hj => ?_⟩
    · rw [Dev.entryAt, entryPut_freed i h, find_del_same]
      rfl
    · rw [Dev.entryAt, entryPut_freed i h, find_del_ne hj]
      rfl
  · rw [if_neg h, entryPut_stored i h]
    refine ⟨?_, fun j hj => ?_⟩
    · exact (congrArg (Option.map (·.2)) (find_ins_same i e _)).trans rfl
    · exact (congrArg (Option.map (·.2)) (find_ins_ne hj e _)).trans rfl

theorem send_pilot (p : Fin 8) (m : TxMsg) (d : Dev) : (d.send p m).pilot = d.pilot := rfl

/-- A client whose grants end leaves the table. -/
theorem cancelEntry_entries (tell : Bool) (i : Nat) (e : Entry) (d : Dev) : (d.cancelEntry tell i e).2.pilot.entries = Tab.del i d.pilot.entries := by
  have h1 : (if tell && decide ((d.port e.port).st = .up) then
      d.send e.port (.signaling e.domain (e.grants.map .cancel) (e.transport = .ipv6) (.node e.mac e.ip e.tags)) else d).pilot = d.pilot := by
    split <;> rfl
  have h2 := fun f : Dev => ((Within.refl (partScope [.watch]) f).loadRefresh).pilot
  unfold Dev.cancelEntry
  dsimp only
  rw [h2, entryPut_freed i rfl, h1]

end Sys2Proof.Machine
end

section
/-! CLIENT_TABLE_ATTACH and CLIENT_UPDATE, and what the commands of ports and Pilots do (chapter 10). -/

namespace Sys2Proof.Machine

set_option Elab.async false

variable {S : Scope} {d d₀ d' : Dev} {c : Cmd} {s : State} {stop : Option Nat} {k : Nat}

/-! ### CLIENT_TABLE_ATTACH -/

/-- The Pilots without their client table. -/
def Pilot.detached (x : Pilot) : Pilot :=
  { x with attached := none, entries := [], gens := [], missing := [], cache := [], fetching := [], writing := [], late := [] }

/-- The Pilots with an empty client table. -/
def Pilot.joined (c : Cmd) (us : Nat) (x : Pilot) : Pilot :=
  { x with attached := some (decide (pf c 0 1 1 = 1), (wordAt c.words 1).toNat + (wordAt c.words 2).toNat * 4294967296, pf c 0 8 5),
           attachUs := us, entries := [], gens := [], missing := [], round := 0, slot := 0, skipFrom := 0, cache := [], fetching := [], writing := [],
           late := [] }

/-- CLIENT_TABLE_ATTACH of passing parameters. -/
def Dev.tableAttach (c : Cmd) (d : Dev) : CmdOut × Dev :=
  if pf c 0 0 1 = 1 then (.ok (satN 16 (d.pilot.entries.map fun e => e.2.grants.length).sum), (d.modPilot Pilot.detached).loadRefresh)
  else if d.pilot.attached.isSome then (.refused 1, d)
  else (.ok, d.modPilot (Pilot.joined c d.clk.tbUs))

theorem tableAttachBody_eq (c : Cmd) : tableAttachBody c = fun d => checked c (tableAttachUsed c) (tableAttachBad c) (Dev.tableAttach c) d := rfl

theorem tableAttach_serves (c : Cmd) (s : State) :
    Serves (.clientTableAttach c) c 0x52 (tableAttachUsed c) (tableAttachBad c) s (fun o d =>
      let x := s.dev.pilot
      (pf c 0 0 1 = 1 → o = .ok (satN 16 (x.entries.map fun e => e.2.grants.length).sum) ∧
        (d.source 146).cond = d.overload ∧
        d = { s.dev.begun c 0x52 with watch := d.watch, pilot := { x with attached := none, entries := [], gens := [], missing := [],
                                                                          cache := [], fetching := [], writing := [], late := [] } }) ∧
      (pf c 0 0 1 = 0 → x.attached.isSome = true → o = .refused 1 ∧ d = s.dev.begun c 0x52) ∧
      (pf c 0 0 1 = 0 → x.attached = none → o = .ok ∧ d = { s.dev.begun c 0x52 with
        pilot := { x with attached := some (decide (pf c 0 1 1 = 1), (wordAt c.words 1).toNat + (wordAt c.words 2).toNat * 4294967296,
                            pf c 0 8 5),
                          attachUs := s.dev.clk.tbUs, entries := [], gens := [], missing := [], round := 0, slot := 0, skipFrom := 0,
                          cache := [], fetching := [], writing := [], late := [] } })) := by
  have hp := (begun_within c 0x52 s.dev).pilot
  have hc := (begun_within c 0x52 s.dev).clk
  refine serves_checked (Dev.tableAttach c) (congrArg (fun b => run (command 0x52 c b) s) (tableAttachBody_eq c)) ?_
  dsimp only
  rw [← hp, ← hc]
  generalize s.dev.begun c 0x52 = e
  refine fun _ => ⟨fun h => ?_, fun h ha => ?_, fun h ha => ?_⟩
  · rw [show e.tableAttach c = _ from if_pos h]
    have hl := loadRefresh_eq (e.modPilot Pilot.detached)
    exact ⟨rfl, loadRefresh_follows _, hl⟩
  · rw [show e.tableAttach c = _ from (if_neg (by rw [h]; decide)).trans (if_pos ha)]
    exact ⟨rfl, rfl⟩
  · rw [show e.tableAttach c = _ from (if_neg (by rw [h]; decide)).trans (if_neg (by rw [ha]; decide))]
    exact ⟨rfl, rfl⟩

/-! ### A walk of CLIENT_UPDATE -/

/-- Entries taken one after the other through `f`, with the progress made. -/
def walkTo (f : Nat × Entry → Dev → Nat × Dev) (l : List (Nat × Entry)) (n : Nat) (d : Dev) : Nat × Dev :=
  l.foldl (fun a e => (a.1 + (f e a.2).1, (f e a.2).2)) (n, d)

section
variable {f : Nat × Entry → Dev → Nat × Dev} {l : List (Nat × Entry)}

theorem updateWalk_whole (h : stop = none ∨ ∃ k, stop = some k ∧ l.length ≤ k) (d : Dev) :
    d.updateWalk c l stop f = (some (.ok (satN 16 (walkTo f l 0 d).1)), (walkTo f l 0 d).2) := by
  have hk : min l.length (stop.getD l.length) = l.length := by
    obtain rfl | ⟨k, rfl, hk⟩ := h
    · exact Nat.min_self _
    · exact Nat.min_eq_left hk
  have he : d.updateWalk c l stop f = if min l.length (stop.getD l.length) = l.length then
      (some (.ok (satN 16 (walkTo f (l.take (min l.length (stop.getD l.length))) 0 d).1)), (walkTo f (l.take (min l.length (stop.getD l.length))) 0 d).2)
    else _ := rfl
  rw [he, if_pos hk, hk, List.take_length]

theorem updateWalk_stops (h : stop = some k) (hk : k < l.length) (d : Dev) :
    d.updateWalk c l stop f = (none, (walkTo f (l.take k) 0 d).2.stay c.src (satN 16 (walkTo f (l.take k) 0 d).1) false) := by
  have hm : min l.length (stop.getD l.length) = k := by
    rw [h]
    exact Nat.min_eq_right (Nat.le_of_lt hk)
  have he : d.updateWalk c l stop f = if min l.length (stop.getD l.length) = l.length then _ else
      (none, (walkTo f (l.take (min l.length (stop.getD l.length))) 0 d).2.stay c.src
        (satN 16 (walkTo f (l.take (min l.length (stop.getD l.length))) 0 d).1) false) := rfl
  rw [he, hm]
  exact if_neg (Nat.ne_of_lt hk)

theorem walkTo_within (hf : ∀ e {d}, Within S d₀ d → Within S d₀ (f e d).2) (l : List (Nat × Entry)) : ∀ {n d}, Within S d₀ d → Within S d₀ (walkTo f l n d).2 := by
  induction l with
  | nil => exact fun h => h
  | cons e l ih => exact fun h => ih (hf e h)

theorem walkTo_ones (hf : ∀ e d, (f e d).1 = 1) (l : List (Nat × Entry)) : ∀ n d, (walkTo f l n d).1 = n + l.length := by
  induction l with
  | nil => exact fun _ _ => rfl
  | cons e l ih =>
    intro n d
    refine (ih (n + (f e d).1) (f e d).2).trans ?_
    rw [hf, List.length_cons]
    omega

/-- Entries taken out of the table one after the other are gone. -/
theorem walkTo_gone (hf : ∀ e d, (f e d).2.pilot.entries = Tab.del e.1 d.pilot.entries) (l : List (Nat × Entry)) :
    ∀ n d, ∀ x ∈ (walkTo f l n d).2.pilot.entries, x ∈ d.pilot.entries ∧ ∀ e ∈ l, x.1 ≠ e.1 := by
  induction l with
  | nil => exact fun _ _ x hx => ⟨hx, fun _ h => absurd h List.not_mem_nil⟩
  | cons e l ih =>
    intro n d x hx
    obtain ⟨hm, hne⟩ := ih (n + (f e d).1) (f e d).2 x hx
    rw [hf] at hm
    obtain ⟨hm, hx⟩ := del_mem hm
    refine ⟨hm, fun y hy => ?_⟩
    obtain rfl | hy := List.mem_cons.mp hy
    · exact hx
    · exact hne y hy

end

/-! ### CLIENT_UPDATE -/

/-- The entries that CLIENT_UPDATE takes. -/
def updateList (c : Cmd) (d : Dev) : List (Nat × Entry) :=
  if pf c 0 0 2 = 0 then (match d.entryAt (pf c 1 0 21) with | some e => [(pf c 1 0 21, e)] | none => [])
  else if pf c 0 0 2 = 1 then d.pilot.entries.filter fun e => e.2.dirty
  else d.pilot.entries.filter fun e => e.2.port = Fin.ofNat 8 (pf c 0 8 3)

/-- What CLIENT_UPDATE does with one of them. -/
def updateOne (c : Cmd) (e : Nat × Entry) (d : Dev) : Nat × Dev := if pf c 0 0 2 = 1 then (1, d.writeBack e.1) else d.cancelEntry true e.1 e.2

/-- CLIENT_UPDATE of passing parameters. -/
def Dev.clientUpdate (stop : Option Nat) (c : Cmd) (d : Dev) : Option CmdOut × Dev :=
  if pf c 0 0 2 = 0 ∧ updateList c d = [] then (some (.refused 0), d) else d.updateWalk c (updateList c d) stop (updateOne c)

theorem updateList_named (h : pf c 0 0 2 = 0) {e : Entry} (he : d.entryAt (pf c 1 0 21) = some e) : updateList c d = [(pf c 1 0 21, e)] := by
  rw [updateList, if_pos h, he]

theorem updateList_unnamed (h : pf c 0 0 2 = 0) (he : d.entryAt (pf c 1 0 21) = none) : updateList c d = [] := by rw [updateList, if_pos h, he]

theorem updateOne_cancel (h : pf c 0 0 2 ≠ 1) : updateOne c = fun e d => d.cancelEntry true e.1 e.2 := by
  funext e d
  exact if_neg h

theorem updateOne_write (h : pf c 0 0 2 = 1) : updateOne c = fun e d => (1, d.writeBack e.1) := by
  funext e d
  exact if_pos h

theorem clientUpdate_walk (h : ¬ (pf c 0 0 2 = 0 ∧ updateList c d = [])) : d.clientUpdate stop c = d.updateWalk c (updateList c d) stop (updateOne c) :=
  if_neg h

theorem clientUpdateBody_eq (stop : Option Nat) (c : Cmd) :
    clientUpdateBody stop c = fun d => checkedLong c (clientUpdateUsed c) (failIf (pf c 0 0 2 = 3) 0) (Dev.clientUpdate stop c) d := by
  funext d
  unfold clientUpdateBody
  dsimp only
  congr 1
  funext d
  by_cases h0 : pf c 0 0 2 = 0
  · rw [if_pos h0, Dev.clientUpdate, updateOne_cancel (by omega)]
    cases he : d.entryAt (pf c 1 0 21) with
    | some e => rw [updateList_named h0 he, if_neg (by simp)]
    | none => rw [if_pos ⟨h0, updateList_unnamed h0 he⟩]
  · rw [if_neg h0, clientUpdate_walk fun h => h0 h.1]
    by_cases h1 : pf c 0 0 2 = 1
    · rw [if_pos h1, updateOne_write h1, show updateList c d = _ from (if_neg h0).trans (if_pos h1)]
    · rw [if_neg h1, updateOne_cancel h1, show updateList c d = _ from (if_neg h0).trans (if_neg h1)]

/-- What CLIENT_UPDATE may change. -/
def updateScope : Scope := partScope [.regs, .bar4, .host, .watch, .ports, .pilot]

theorem updateOne_within (e : Nat × Entry) (h : Within updateScope d₀ d) : Within updateScope d₀ (updateOne c e d).2 := by
  unfold updateOne
  split
  · exact h.writeBack ⟨rfl, rfl, rfl⟩
  · exact h.cancelEntry ⟨rfl, rfl, rfl⟩

theorem clientUpdate_whole (h : stop = none ∨ ∃ k, stop = some k ∧ (updateList c d).length ≤ k) :
    ∃ o e, d.clientUpdate stop c = (some o, e) ∧ Within updateScope d e ∧
      (pf c 0 0 2 = 0 → updateList c d = [] → o = .refused 0 ∧ e = d) ∧
      (∀ x, pf c 0 0 2 = 0 → d.entryAt (pf c 1 0 21) = some x → o = .ok (satN 16 x.grants.length) ∧
        e.pilot.entries = Tab.del (pf c 1 0 21) d.pilot.entries) ∧
      (pf c 0 0 2 = 1 → o = .ok (satN 16 (updateList c d).length)) ∧
      (pf c 0 0 2 = 2 → ∀ x ∈ e.pilot.entries, x.2.port ≠ Fin.ofNat 8 (pf c 0 8 3)) := by
  by_cases hn : pf c 0 0 2 = 0 ∧ updateList c d = []
  · refine ⟨_, _, if_pos hn, .refl _ d, fun _ _ => ⟨rfl, rfl⟩, fun x h0 hx => ?_, fun h1 => ?_, fun h2 => ?_⟩
    · exact absurd ((updateList_named h0 hx).symm.trans hn.2) (List.cons_ne_nil _ _)
    · exact absurd (hn.1.symm.trans h1) (by decide)
    · exact absurd (hn.1.symm.trans h2) (by decide)
  · refine ⟨_, _, (clientUpdate_walk hn).trans (updateWalk_whole h d), walkTo_within (fun e _ => updateOne_within e) _ (.refl _ d), fun h0 hl => absurd ⟨h0, hl⟩ hn,
      fun x h0 hx => ?_, fun h1 => ?_, fun h2 x hx hp => ?_⟩
    · rw [updateList_named h0 hx, updateOne_cancel (by omega)]
      exact ⟨congrArg (fun n => CmdOut.ok (satN 16 n)) (Nat.zero_add _), cancelEntry_entries ..⟩
    · rw [walkTo_ones fun e d => by rw [updateOne_write h1], Nat.zero_add]
    · obtain ⟨hm, hne⟩ := walkTo_gone (f := updateOne c) (fun e d => by rw [updateOne_cancel (by omega)]; exact cancelEntry_entries ..) (updateList c d) 0 d x hx
      refine hne x ?_ rfl
      rw [updateList, if_neg (by omega), if_neg (by omega)]
      exact List.mem_filter.mpr ⟨hm, decide_eq_true hp⟩

/-- A CLIENT_UPDATE that something ends stands at a safe point. -/
theorem clientUpdate_stops (h : stop = some k) (hk : k < (updateList c d).length) :
    ∃ n e, d.clientUpdate stop c = (none, e.stay c.src n false) ∧ (k = 0 → n = 0 ∧ e = d) ∧ (pf c 0 0 2 = 1 → n = satN 16 k) ∧ Within updateScope d e := by
  have hn : ¬ (pf c 0 0 2 = 0 ∧ updateList c d = []) := fun hn => absurd (congrArg List.length hn.2) (Nat.ne_of_gt (Nat.zero_lt_of_lt hk))
  refine ⟨_, _, (clientUpdate_walk hn).trans (updateWalk_stops h hk d), fun h0 => ?_, fun h1 => ?_, walkTo_within (fun e _ => updateOne_within e) _ (.refl _ d)⟩
  · rw [h0]
    exact ⟨rfl, rfl⟩
  · rw [walkTo_ones (f := updateOne c) (fun e d => by rw [updateOne_write h1]), Nat.zero_add, List.length_take, Nat.min_eq_left (Nat.le_of_lt hk)]

theorem begun_updateList (c : Cmd) (op : Nat) (d : Dev) : updateList c (d.begun c op) = updateList c d := by
  have hp := (begun_within c op d).pilot
  have he (i : Nat) : (d.begun c op).entryAt i = d.entryAt i := entryAt_of_entries (congrArg Pilot.entries hp)
  rw [updateList, updateList, hp, he]

theorem clientUpdate_serves (c : Cmd) (s : State) (stop : Option Nat) (l : List (Nat × Entry)) (hl : l = updateList c s.dev)
    (h : stop = none ∨ ∃ k, stop = some k ∧ l.length ≤ k) :
    Serves (.clientUpdate ⟨c, stop⟩) c 0x53 (clientUpdateUsed c) (failIf (pf c 0 0 2 = 3) 0) s (fun o d =>
      d = { s.dev.begun c 0x53 with
        regs := d.regs, bar4 := d.bar4, host := d.host, watch := d.watch, ports := d.ports, pilot := d.pilot } ∧
      (pf c 0 0 2 = 0 → l = [] → o = .refused 0 ∧ d = s.dev.begun c 0x53) ∧
      (∀ e, pf c 0 0 2 = 0 → s.dev.entryAt (pf c 1 0 21) = some e → o = .ok (satN 16 e.grants.length) ∧
        d.pilot.entries = Tab.del (pf c 1 0 21) s.dev.pilot.entries) ∧
      (pf c 0 0 2 = 1 → o = .ok (satN 16 l.length)) ∧
      (pf c 0 0 2 = 2 → ∀ e ∈ d.pilot.entries, e.2.port ≠ Fin.ofNat 8 (pf c 0 8 3))) := by
  have hp := (begun_within c 0x53 s.dev).pilot
  have he : s.dev.entryAt (pf c 1 0 21) = (s.dev.begun c 0x53).entryAt (pf c 1 0 21) := entryAt_of_entries (congrArg Pilot.entries hp.symm)
  rw [← begun_updateList c 0x53] at hl
  subst hl
  rw [he, ← hp]
  refine serves_long (g := Dev.clientUpdate stop c) rfl (congrFun (clientUpdateBody_eq stop c) _) fun _ => ?_
  obtain ⟨o, e, hg, hw, hrest⟩ := clientUpdate_whole h
  exact ⟨o, e, hg, hw.eq, hrest⟩

theorem clientUpdate_stands (hl : k < (updateList c s.dev).length) (h : stop = some k) (ha : s.dev.takes 0x53 c = true)
    (hn : paramFail c (clientUpdateUsed c) (failIf (pf c 0 0 2 = 3) 0) = none) :
    ∃ (t : State) (d : Dev) (n : Nat), exec (.clientUpdate ⟨c, stop⟩) s = .next t ∧ t = s.withDev (d.stay c.src n false) ∧
      (k = 0 → n = 0 ∧ d = s.dev.begun c 0x53) ∧ (pf c 0 0 2 = 1 → n = satN 16 k) ∧
      d = { s.dev.begun c 0x53 with
        regs := d.regs, bar4 := d.bar4, host := d.host, watch := d.watch, ports := d.ports, pilot := d.pilot } := by
  rw [← begun_updateList c 0x53] at hl
  obtain ⟨n, e, hg, h0, h1, hw⟩ := clientUpdate_stops h hl
  exact ⟨_, e, n, long_stays (x := .clientUpdate ⟨c, stop⟩) rfl ha hn (congrFun (clientUpdateBody_eq stop c) _) hg, rfl, h0, h1, hw.eq⟩

/-- Settles O58: each command by its own lemma; CLIENT_UPDATE is a walk over the entries it takes. -/
theorem portAndPilotCommands : Obligations.PortAndPilotCommands := by
  unfold Obligations.PortAndPilotCommands
  intro c s
  refine ⟨fun p hp => portConfig_serves c s p hp, fun p hp ha hn => packetSend_state hp ha hn, ptpConfig_serves c s, tableAttach_serves c s, fun stop l hl => ?_⟩
  have hl : l = updateList c s.dev := hl
  refine ⟨fun h => clientUpdate_serves c s stop l hl h, fun k hk hlt ha hn => clientUpdate_stands (hl ▸ hlt) hk ha hn⟩

end Sys2Proof.Machine
end

section
/-! The calendar of the server: one slot of it, as parts that each touch the table alone or send (chapter 10). -/

namespace Sys2Proof.Machine

set_option Elab.async false

variable {S : Scope} {d d₀ d' : Dev} {p : Fin 8}

/-! ### Frames sent -/

/-- The port with more frames sent. -/
def Port.sending (l : List TxMsg) (x : Port) : Port := { x with sent := x.sent ++ l }

theorem send_eq (p : Fin 8) (m : TxMsg) (d : Dev) : d.send p m = d.modPort p (Port.sending [m]) := rfl

theorem sending_sending (l l' : List TxMsg) (x : Port) : (x.sending l).sending l' = x.sending (l ++ l') := by
  unfold Port.sending
  rw [List.append_assoc]

theorem modPort_modPort (p : Fin 8) (f g : Port → Port) (d : Dev) : (d.modPort p f).modPort p g = d.modPort p fun x => g (f x) := by
  rw [modPort_eq p f, modPort_withPort, modPort_eq]

theorem sendSync_eq (p : Fin 8) (dom seq : Nat) (two v6 : Bool) (dst : Dest) (t : Int) (k : Nat) (d : Dev) :
    d.sendSync p dom seq two v6 dst t k = d.modPort p (Port.sending (SyncSent dom seq two (d.txStamp p t k) v6 dst)) := by
  cases two with
  | false => rfl
  | true =>
    refine (modPort_modPort p (Port.sending _) (Port.sending _) d).trans ?_
    simp only [sending_sending]
    rfl

/-- Of what a Sync sends, the event message goes first. -/
theorem syncSent_ordered (dom seq : Nat) (two : Bool) (at_ : Triple) (v6 : Bool) (dst : Dest) :
    ((SyncSent dom seq two at_ v6 dst).filter TxMsg.first ++ (SyncSent dom seq two at_ v6 dst).filter fun m => !m.first) = SyncSent dom seq two at_ v6 dst := by
  cases two <;> rfl

/-- What the port has sent beyond its first `n` frames, in the order of R253. -/
def Port.ordered (n : Nat) (x : Port) : Port :=
  { x with sent := x.sent.take n ++ ((x.sent.drop n).filter TxMsg.first ++ (x.sent.drop n).filter fun m => !m.first) }

theorem Port.ordered_sent (x : Port) : x.ordered x.sent.length = x := by
  unfold Port.ordered
  rw [List.take_length, List.drop_length]
  exact congrArg (fun l => { x with sent := l }) (List.append_nil x.sent)

theorem Port.ordered_sending {l : List TxMsg} (h : (l.filter TxMsg.first ++ l.filter fun m => !m.first) = l) (x : Port) :
    (x.sending l).ordered x.sent.length = x.sending l := by
  unfold Port.ordered Port.sending
  dsimp only
  rw [List.take_left, List.drop_left, h]

theorem txOrder_port (old : Dev) (p : Fin 8) (d : Dev) : (Dev.txOrder old d).port p = (d.port p).ordered (old.port p).sent.length :=
  forFin_object (get := fun p (e : Dev) => e.port p) (I := fun _ => True) (R := fun p a b => b = a.ordered (old.port p).sent.length)
    (fun j _ _ => ⟨modPort_port_same (f := Port.ordered (old.port j).sent.length) .., fun _ hq => modPort_port_ne _ _ hq, trivial⟩) trivial p

theorem Within.txOrder (h : Within S d₀ d) {old : Dev} (hp : S.Has .ports := by trivial) : Within S d₀ (Dev.txOrder old d) := h.forFin fun _ _ h => h.modPort

theorem ports_ext (h : ∀ p, d'.port p = d.port p) : d'.ports = d.ports := Vector.ext fun i hi => h ⟨i, hi⟩

/-! ### A calendar that only the table sees -/

/-- The table keeps its place in the round. -/
def CalKeeps (d d' : Dev) : Prop := d'.pilot = { d.pilot with
  entries := d'.pilot.entries, missing := d'.pilot.missing, cache := d'.pilot.cache, fetching := d'.pilot.fetching, writing := d'.pilot.writing,
  late := d'.pilot.late }

theorem CalKeeps.trans (h : CalKeeps d₀ d) (h' : CalKeeps d d') : CalKeeps d₀ d' := by
  unfold CalKeeps at h h' ⊢
  rw [h] at h'
  exact h'

theorem CalKeeps.of_pilot (h : d'.pilot = d.pilot) : CalKeeps d d' := by
  unfold CalKeeps
  rw [h]

/-! ### The parts of a slot -/

theorem calendarSkip_within (i : Nat) (d : Dev) : Within (looseScope [.regs] [0x210014]) d (d.calendarSkip i) := (Within.refl _ d).onlyIf fun _ h => h.bump (.head _)

theorem calendarSkips_within (l : List (Nat × GrantKind × Nat)) (d : Dev) : Within (looseScope [.regs] [0x210014]) d (l.foldl (fun d x => d.calendarSkip x.1) d) :=
  (Within.refl _ d).foldl (fun x d h => h.trans (calendarSkip_within x.1 d)) l

theorem lateSkips_within (l : List (Nat × GrantKind)) (d : Dev) : Within (looseScope [.regs] [0x210014]) d (l.foldl (fun d x => d.calendarSkip x.1) d) :=
  (Within.refl _ d).foldl (fun x d h => h.trans (calendarSkip_within x.1 d)) l

/-- Fetching entries touches which are fetched and which are missing. -/
def Fetches (d d' : Dev) : Prop :=
  d' = { d with pilot := { d.pilot with fetching := d'.pilot.fetching, missing := d'.pilot.missing } } ∧ (d.pilot.missing = [] → d'.pilot.missing = [])

/-- The fetch of one entry, where it is due. -/
def Dev.fetchOne (d : Dev) (e : Nat × Entry) : Dev :=
  if d.slotOf e.1 = d.fetchSlot && !d.pilot.cache.contains e.1 && !d.pilot.fetching.contains e.1 &&
      d.pilot.cache.length + d.pilot.fetching.length < 8192 then
    d.modPilot fun x => { x with fetching := e.1 :: x.fetching, missing := x.missing.filter (· ≠ e.1) }
  else d

theorem fetchOne_fetches (e : Nat × Entry) (h : Fetches d d') : Fetches d (d'.fetchOne e) := by
  unfold Dev.fetchOne
  split
  · obtain ⟨he, hm⟩ := h
    refine ⟨?_, fun h0 => ?_⟩
    · exact (congrArg (fun z : Dev => z.modPilot fun x => { x with fetching := e.1 :: x.fetching, missing := x.missing.filter (· ≠ e.1) }) he).trans rfl
    · show List.filter _ d'.pilot.missing = []
      rw [hm h0]
      rfl
  · exact h

theorem calendarFetch_fetches (d : Dev) : Fetches d d.calendarFetch := by
  have hall (l : List (Nat × Entry)) : ∀ d' : Dev, Fetches d d' → Fetches d (l.foldl Dev.fetchOne d') := by
    induction l with
    | nil => exact fun _ h => h
    | cons e l ih => exact fun d' h => ih _ (fetchOne_fetches e h)
  exact hall d.pilot.entries d ⟨rfl, id⟩

/-- Retiring entries touches which wait to be written and which the cache holds. -/
def Retires (d d' : Dev) : Prop := d' = { d with pilot := { d.pilot with writing := d'.pilot.writing, cache := d'.pilot.cache } }

/-- One entry retired, where its slot is the present one. -/
def Dev.retireOne (d : Dev) (e : Nat × Entry) : Dev :=
  if d.slotOf e.1 = d.pilot.slot then
    (if e.2.dirty then d.modPilot fun x => { x with writing := listed e.1 x.writing } else d.uncache e.1)
  else d

theorem retireOne_retires (e : Nat × Entry) (h : Retires d d') : Retires d (d'.retireOne e) := by
  unfold Dev.retireOne
  split
  · split
    · exact (congrArg (fun z : Dev => z.modPilot fun x => { x with writing := listed e.1 x.writing }) h).trans rfl
    · exact (congrArg (fun z : Dev => z.uncache e.1) h).trans rfl
  · exact h

theorem calendarRetire_retires (d : Dev) : Retires d d.calendarRetire := by
  have hall (l : List (Nat × Entry)) : ∀ d' : Dev, Retires d d' → Retires d (l.foldl Dev.retireOne d') := by
    induction l with
    | nil => exact fun _ h => h
    | cons e l ih => exact fun d' h => ih _ (retireOne_retires e h)
  exact hall d.pilot.entries d rfl

/-! ### Messages sent -/

theorem Within.calendarSkip (h : Within S d₀ d) {i : Nat} (ho : S.reg 0x210014) (hr : S.Has .regs := by trivial) : Within S d₀ (d.calendarSkip i) :=
  h.onlyIf fun _ h => h.bump ho

theorem Within.calendarSend (h : Within S d₀ d) {i : Nat} {k : GrantKind} {t : Int × Nat} (hp : S.Has .ports := by trivial) (ht : S.Has .pilot := by trivial) :
    Within S d₀ (d.calendarSend i k t) := by
  unfold Dev.calendarSend
  split
  · exact h
  next e _ =>
    split
    · exact h
    · dsimp only
      split
      · rw [sendSync_eq]
        exact h.modPort.modPilot
      · exact h.send.modPilot

theorem sendSync_pilot (p : Fin 8) (dom seq : Nat) (two v6 : Bool) (dst : Dest) (t : Int) (k : Nat) (d : Dev) :
    (d.sendSync p dom seq two v6 dst t k).pilot = d.pilot := by rw [sendSync_eq]; rfl

theorem calendarSend_pilot (i : Nat) (k : GrantKind) (t : Int × Nat) (d : Dev) :
    (d.calendarSend i k t).pilot = { d.pilot with entries := (d.calendarSend i k t).pilot.entries } := by
  unfold Dev.calendarSend
  split
  · rfl
  next e _ =>
    split
    · rfl
    · dsimp only
      split
      next =>
        have h := sendSync_pilot e.port e.domain e.syncSeq e.twoStep (e.transport = .ipv6) (.node e.mac e.ip e.tags) t.1 t.2 d
        generalize d.sendSync e.port e.domain e.syncSeq e.twoStep (e.transport = .ipv6) (.node e.mac e.ip e.tags) t.1 t.2 = f at h ⊢
        exact (congrArg (fun x : Pilot => { x with entries := Tab.ins i { e with syncSeq := (e.syncSeq + 1) % 65536, dirty := true } x.entries }) h).trans
          (congrArg (fun x : Pilot => { d.pilot with entries := Tab.ins i { e with syncSeq := (e.syncSeq + 1) % 65536, dirty := true } x.entries }) h.symm)
      · rfl

/-- A due Sync of an entry whose port serves. -/
theorem calendarSend_sync {i : Nat} {e : Entry} (he : d.entryAt i = some e) (hs : d.serving e.port = true) (t : Int × Nat) :
    d.calendarSend i .sync t = (d.modPort e.port (Port.sending (SyncSent e.domain e.syncSeq e.twoStep (d.txStamp e.port t.1 t.2) (decide (e.transport = .ipv6))
      (.node e.mac e.ip e.tags)))).modPilot fun x =>
        { x with entries := Tab.ins i { e with syncSeq := (e.syncSeq + 1) % 65536, dirty := true } x.entries } := by
  unfold Dev.calendarSend
  rw [he]
  dsimp only
  rw [if_neg (by rw [hs]; decide), sendSync_eq]

/-- One message of the calendar. -/
def calStep (a : Int × Dev) (x : Nat × GrantKind) : Int × Dev :=
  match x.2 with
  | .sync => ((a.2.slotStart a.1).1.1, (a.2.slotStart a.1).2.calendarSend x.1 .sync (a.2.slotStart a.1).1)
  | k => (a.1, a.2.calendarSend x.1 k (a.1, 0))

theorem calendarSendAll_eq (l : List (Nat × GrantKind)) (d : Dev) : d.calendarSendAll l = (l.foldl calStep (d.tbGr, d)).2 := rfl

theorem slotStart_eq (at_ : Int) (d : Dev) : (d.slotStart at_).2 = { d with draws := d.draws + 1 + 1 } := rfl

theorem Within.calStep {a : Int × Dev} (h : Within S d₀ a.2) (x : Nat × GrantKind) (hp : S.Has .ports := by trivial) (ht : S.Has .pilot := by trivial)
    (hd : S.Has .draws := by trivial) : Within S d₀ (calStep a x).2 := by
  unfold Machine.calStep
  split
  · have h1 : Within S d₀ (a.2.slotStart a.1).2 := h.draw.draw
    exact h1.calendarSend (i := x.1) (k := .sync) (t := (a.2.slotStart a.1).1)
  · exact h.calendarSend

theorem calStep_pilot (a : Int × Dev) (x : Nat × GrantKind) : (calStep a x).2.pilot = { a.2.pilot with entries := (calStep a x).2.pilot.entries } := by
  unfold calStep
  split
  · exact calendarSend_pilot x.1 .sync (a.2.slotStart a.1).1 (a.2.slotStart a.1).2
  · exact calendarSend_pilot ..

theorem Within.calendarSendAll (h : Within S d₀ d) (l : List (Nat × GrantKind)) (hp : S.Has .ports := by trivial) (ht : S.Has .pilot := by trivial)
    (hd : S.Has .draws := by trivial) : Within S d₀ (d.calendarSendAll l) := by
  rw [calendarSendAll_eq]
  have hall : ∀ a : Int × Dev, Within S d₀ a.2 → Within S d₀ (l.foldl Machine.calStep a).2 := by
    induction l with
    | nil => exact fun _ h => h
    | cons x l ih => exact fun a h => ih _ (h.calStep x)
  exact hall (d.tbGr, d) h

theorem calendarSendAll_pilot (l : List (Nat × GrantKind)) (d : Dev) :
    (d.calendarSendAll l).pilot = { d.pilot with entries := (d.calendarSendAll l).pilot.entries } := by
  rw [calendarSendAll_eq]
  have hall : ∀ a : Int × Dev, (l.foldl calStep a).2.pilot = { a.2.pilot with entries := (l.foldl calStep a).2.pilot.entries } := by
    induction l with
    | nil => exact fun a => rfl
    | cons x l ih =>
      intro a
      have h1 := calStep_pilot a x
      have h2 := ih (calStep a x)
      rw [h1] at h2
      exact h2
  exact hall (d.tbGr, d)

theorem calendarSendAll_nil (d : Dev) : d.calendarSendAll [] = d := rfl

theorem calendarSendAll_sync (i : Nat) (d : Dev) :
    d.calendarSendAll [(i, .sync)] = (d.slotStart d.tbGr).2.calendarSend i .sync (d.slotStart d.tbGr).1 := rfl

end Sys2Proof.Machine
end

section
/-! The server, its calendar and the client table (chapter 10). -/

namespace Sys2Proof.Machine

set_option Elab.async false

variable {S : Scope} {d d₀ d' e : Dev} {s : State} {p : Fin 8}

/-! ### Multicast -/

theorem mcSync_on (h : d.mcOn p = true) (t : Int) (k : Nat) : mcSync p t k d = d.withPort p { d.port p with
    syncSeq := ((d.port p).syncSeq + 1) % 65536,
    sent := (d.port p).sent ++ SyncSent (d.psrvDomain p) (d.port p).syncSeq (d.psrvTwoStep p) (d.txStamp p t k) (d.psrvV6 p) (d.mcDest p) } := by
  unfold mcSync
  dsimp only
  rw [if_pos h, sendSync_eq, modPort_modPort, modPort_eq]
  rfl

theorem mcAnnounce_on (h : d.mcOn p = true) : mcAnnounce p d = d.withPort p { d.port p with
    annSeq := ((d.port p).annSeq + 1) % 65536,
    sent := (d.port p).sent ++ [.announce (d.psrvDomain p) (d.port p).annSeq (d.announceNow p) (d.psrvV6 p) (d.mcDest p)] } := by
  unfold mcAnnounce
  dsimp only
  rw [if_pos h, send_eq, modPort_modPort, modPort_eq]
  rfl

/-! ### The end of a grant -/

theorem psrv_lt (p : Fin 8) {k : Nat} (hk : k < 0x100) : psrvOff p + k < 0x2C1200 := by
  simp only [psrvOff]
  omega

/-- A grant that ends leaves its entry, and frees one without another. -/
theorem grantEnd_fields {i : Nat} {k : GrantKind} {x : Entry} (hx : d.entryAt i = some x) (hg : (x.get k).isSome = true) :
    (grantEnd i k d).entryAt i = (if (x.put k none).grants = [] then none else some (x.put k none)) ∧
    (∀ j, j ≠ i → (grantEnd i k d).entryAt j = d.entryAt j) ∧ Counts (psrvOff x.port + 0x54) 0 16 d (grantEnd i k d) ∧
    KeepsRegs [psrvOff x.port + 0x54] d (grantEnd i k d) ∧
    (grantEnd i k d).pilot = { d.pilot with entries := (grantEnd i k d).pilot.entries, cache := (grantEnd i k d).pilot.cache } ∧
    ((grantEnd i k d).source 146).cond = (grantEnd i k d).overload ∧
    Within (looseScope [.regs, .bar4, .host, .watch, .pilot] [psrvOff x.port + 0x54]) d (grantEnd i k d) := by
  have he : grantEnd i k d = ((d.bump (psrvOff x.port + 0x54) 0 16).entryPut i (x.put k none)).loadRefresh := by
    unfold grantEnd
    rw [hx]
    exact if_pos hg
  have h0 : Within (looseScope [.regs, .bar4, .host, .watch, .pilot] [psrvOff x.port + 0x54]) d d := .refl _ d
  have h1 := h0.bump (lo := 0) (width := 16) (.head _)
  have hw := (h1.entryPut (i := i) (e := x.put k none) ⟨rfl, rfl, rfl⟩).loadRefresh
  have hent := entryPut_entryAt i (x.put k none) (d.bump (psrvOff x.port + 0x54) 0 16)
  have hcnt := bump_counts (psrvOff x.port + 0x54) d (lo := 0) (width := 16) (by decide)
  have hpil : ((d.bump (psrvOff x.port + 0x54) 0 16).entryPut i (x.put k none)).pilot = { d.pilot with
      entries := ((d.bump (psrvOff x.port + 0x54) 0 16).entryPut i (x.put k none)).pilot.entries,
      cache := ((d.bump (psrvOff x.port + 0x54) 0 16).entryPut i (x.put k none)).pilot.cache } := by
    by_cases hgr : (x.put k none).grants = []
    · rw [entryPut_freed i hgr]
      rfl
    · rw [entryPut_stored i hgr]
      rfl
  have hrest : Within (looseScope [.bar4, .host, .pilot] []) (d.bump (psrvOff x.port + 0x54) 0 16) ((d.bump (psrvOff x.port + 0x54) 0 16).entryPut i (x.put k none)) :=
    (Within.refl _ _).entryPut ⟨rfl, rfl, rfl⟩
  rw [he]
  refine ⟨?_, ?_, ?_, hw.keepsRegs (fun _ h => h), ?_, loadRefresh_follows _, hw⟩
  all_goals
    have hl := loadRefresh_eq ((d.bump (psrvOff x.port + 0x54) 0 16).entryPut i (x.put k none))
    generalize (d.bump (psrvOff x.port + 0x54) 0 16).entryPut i (x.put k none) = f at hl hent hpil hrest ⊢
    rw [hl]
  · exact hent.1
  · exact hent.2
  · exact hcnt.after (hrest.regs _ List.not_mem_nil (not_eventWord_of_lt (psrv_lt _ (by decide))))
  · exact hpil

/-! ### A slot of the calendar -/

/-- The messages of the present slot, those of them that are not sent, and the others. -/
def slotMine (d : Dev) : List (Nat × GrantKind × Nat) := d.dueRound.filter fun x => d.slotOf x.1 = d.pilot.slot
def slotNo (d : Dev) (x : Nat × GrantKind × Nat) : Bool :=
  d.skipped.any (fun y => y.1 = x.1 && y.2.1 = x.2.1) || (d.pilot.missing.contains x.1 && !d.pilot.cache.contains x.1)
def slotGo (d : Dev) : List (Nat × GrantKind) := ((slotMine d).filter fun x => !slotNo d x).map fun x => (x.1, x.2.1)

/-- What is one slot late is skipped, and what comes is fetched. -/
def Dev.slotBegun (d : Dev) : Dev := (d.pilot.late.foldl (fun d x => d.calendarSkip x.1) (d.modPilot fun x => { x with late := [] })).calendarFetch

/-- The messages of the slot are sent, skipped, or wait. -/
def Dev.slotSent (old d : Dev) : Dev :=
  Dev.txOrder old (((((slotMine d).filter (slotNo d)).foldl (fun d x => d.calendarSkip x.1) d).calendarSendAll
    ((slotGo d).filter fun x => d.pilot.cache.contains x.1)).modPilot fun x => { x with late := (slotGo d).filter fun x => !d.pilot.cache.contains x.1 })

/-- The next slot begins. -/
def Dev.slotNext (n : Nat) (d : Dev) : Dev :=
  if d.pilot.slot = 4095 then d.modPilot fun x => { x with slot := 0, round := x.round + 1, skipFrom := x.skipFrom + n }
  else d.modPilot fun x => { x with slot := x.slot + 1 }

theorem calendarSlot_on (ha : d.pilot.attached.isSome = true) (hp : d.pilotsOn = true) :
    calendarSlot d = ((Dev.slotSent d d.slotBegun).calendarRetire).slotNext d.slotBegun.skipped.length := by
  refine if_neg ?_
  rw [Option.isNone_eq_false_iff.mpr ha, hp]
  decide

theorem Within.slotBegun (h : Within S d₀ d) (ho : S.reg 0x210014) (hr : S.Has .regs := by trivial) (hp : S.Has .pilot := by trivial) :
    Within S d₀ d.slotBegun := by
  have h1 : Within S d₀ (d.modPilot fun x => { x with late := [] }) := h.modPilot
  have h2 : Within S d₀ (d.pilot.late.foldl (fun d x => d.calendarSkip x.1) (d.modPilot fun x => { x with late := [] })) :=
    Within.foldl h1 (fun x _ h => Within.calendarSkip h ho) _
  unfold Dev.slotBegun
  generalize d.pilot.late.foldl (fun d x => d.calendarSkip x.1) (d.modPilot fun x => { x with late := [] }) = e at h2 ⊢
  rw [(calendarFetch_fetches e).1]
  exact h2.modPilot (f := fun x => { x with fetching := e.calendarFetch.pilot.fetching, missing := e.calendarFetch.pilot.missing })

theorem slotBegun_pilot (d : Dev) : d.slotBegun.pilot = { d.pilot with
    late := [], fetching := d.slotBegun.pilot.fetching, missing := d.slotBegun.pilot.missing } := by
  have h2 := (lateSkips_within d.pilot.late (d.modPilot fun x => { x with late := [] })).pilot
  unfold Dev.slotBegun
  generalize d.pilot.late.foldl (fun d x => d.calendarSkip x.1) (d.modPilot fun x => { x with late := [] }) = e at h2 ⊢
  have h3 : e.calendarFetch.pilot = { e.pilot with fetching := e.calendarFetch.pilot.fetching, missing := e.calendarFetch.pilot.missing } :=
    (congrArg Dev.pilot (calendarFetch_fetches e).1).trans rfl
  rw [h2] at h3
  exact h3

/-- With nothing late, a slot begins by fetching alone. -/
theorem slotBegun_quiet (h : d.pilot.late = []) : Fetches d d.slotBegun := by
  have he : d.modPilot (fun x => { x with late := [] }) = d := by
    have hp : ({ d.pilot with late := [] } : Pilot) = d.pilot := by rw [← h]
    exact (congrArg (fun x => ({ d with pilot := x } : Dev)) hp).trans rfl
  have hb : d.slotBegun = d.calendarFetch := by rw [Dev.slotBegun, h, List.foldl_nil, he]
  rw [hb]
  exact calendarFetch_fetches d

/-- The slot itself sends, skips, and keeps the place of the table. -/
theorem slotSent_within (old d : Dev) : Within (looseScope [.regs, .ports, .pilot, .draws] [0x210014]) d (Dev.slotSent old d) := by
  have h1 : Within (looseScope [.regs, .ports, .pilot, .draws] [0x210014]) d (((slotMine d).filter (slotNo d)).foldl (fun d x => d.calendarSkip x.1) d) :=
    Within.foldl (.refl _ d) (fun x _ h => Within.calendarSkip h (List.mem_singleton.mpr rfl)) _
  exact (h1.calendarSendAll _).modPilot.txOrder

theorem slotSent_keeps (old d : Dev) : CalKeeps d (Dev.slotSent old d) := by
  have h1 := (calendarSkips_within ((slotMine d).filter (slotNo d)) d).pilot
  unfold Dev.slotSent
  generalize ((slotMine d).filter (slotNo d)).foldl (fun d x => d.calendarSkip x.1) d = e at h1 ⊢
  have h2 := calendarSendAll_pilot ((slotGo d).filter fun x => d.pilot.cache.contains x.1) e
  generalize e.calendarSendAll ((slotGo d).filter fun x => d.pilot.cache.contains x.1) = f at h2 ⊢
  have h3 := ((Within.refl (partScope [.ports]) (f.modPilot fun x => { x with late := (slotGo d).filter fun x => !d.pilot.cache.contains x.1 })).txOrder (old := old)).pilot
  refine CalKeeps.trans (d := f) ?_ (CalKeeps.trans ?_ (.of_pilot h3))
  · rw [h1] at h2
    unfold CalKeeps
    rw [h2]
  · rfl

/-- The end of a slot, as the table sees it. -/
theorem slotEnd_eq (n : Nat) (f : Dev) : ∃ w c sk, (f.calendarRetire).slotNext n = { f with pilot := { f.pilot with
    writing := w, cache := c, skipFrom := sk, slot := if f.pilot.slot = 4095 then 0 else f.pilot.slot + 1,
    round := if f.pilot.slot = 4095 then f.pilot.round + 1 else f.pilot.round } } := by
  have h := calendarRetire_retires f
  generalize f.calendarRetire = r at h
  unfold Dev.slotNext
  have hs : r.pilot.slot = f.pilot.slot := (congrArg (fun z : Dev => z.pilot.slot) h).trans rfl
  refine ⟨r.pilot.writing, r.pilot.cache, if f.pilot.slot = 4095 then f.pilot.skipFrom + n else f.pilot.skipFrom, ?_⟩
  rw [hs]
  split
  · exact (congrArg (fun z : Dev => z.modPilot fun x => { x with slot := 0, round := x.round + 1, skipFrom := x.skipFrom + n }) h).trans rfl
  · exact (congrArg (fun z : Dev => z.modPilot fun x => { x with slot := x.slot + 1 }) h).trans rfl

end Sys2Proof.Machine
end

section
/-! The slots of the calendar that send nothing or one Sync, the DMA of the client table, and what the server does (chapter 10). -/

namespace Sys2Proof.Machine

set_option Elab.async false

variable {S : Scope} {d d₀ d' e : Dev} {s : State} {p : Fin 8} {i lu : Nat} {x : Entry}

/-! ### What a slot finds -/

/-- Fetching leaves what the slot has to send, the load, and the entries. -/
theorem Fetches.mine (h : Fetches d e) : slotMine e = slotMine d := by
  rw [h.1]
  rfl

theorem Fetches.overload (h : Fetches d e) : e.overload = d.overload := by
  rw [h.1]
  rfl

theorem Fetches.entries (h : Fetches d e) : e.pilot.entries = d.pilot.entries := by rw [h.1]

theorem Fetches.cache (h : Fetches d e) : e.pilot.cache = d.pilot.cache := by rw [h.1]

theorem Fetches.serving (h : Fetches d e) (p : Fin 8) : e.serving p = d.serving p := by
  rw [h.1]
  rfl

theorem Fetches.slotStart (h : Fetches d e) : (e.slotStart e.tbGr).1 = (d.slotStart d.tbGr).1 := by
  rw [h.1]
  rfl

theorem Fetches.txStamp (h : Fetches d e) (p : Fin 8) (t : Int) (k : Nat) : e.txStamp p t k = d.txStamp p t k := by
  rw [h.1]
  rfl

theorem skipped_none (h : d.overload = false) : d.skipped = [] := if_neg (by rw [h]; decide)

theorem slotNo_false (ho : d.overload = false) (hm : d.pilot.missing = []) (x : Nat × GrantKind × Nat) : slotNo d x = false := by
  rw [slotNo, skipped_none ho, hm]
  rfl

/-- A port that has sent `l` since then, in its order, stays so. -/
theorem txOrder_same {old f : Dev} (h : f.ports = old.ports) : (Dev.txOrder old f).ports = old.ports := by
  refine ports_ext fun p => ?_
  have hp : f.port p = old.port p := congrArg (·.get p) h
  rw [txOrder_port, hp, Port.ordered_sent]

/-! ### A slot that sends nothing, or one Sync -/

theorem slotSent_none {old : Dev} (hm : slotMine d = []) : Dev.slotSent old d = Dev.txOrder old (d.modPilot fun x => { x with late := [] }) := by
  have hg : slotGo d = [] := by rw [slotGo, hm]; rfl
  rw [Dev.slotSent, hm, hg]
  rfl

theorem slotGo_sync (hm : slotMine d = [(i, .sync, lu)]) (ho : d.overload = false) (hmis : d.pilot.missing = []) : slotGo d = [(i, .sync)] := by
  rw [slotGo, hm, List.filter_cons_of_pos (by rw [slotNo_false ho hmis]; rfl)]
  rfl

/-- One due Sync whose entry the cache holds is sent. -/
theorem slotSent_sync {old : Dev} (hm : slotMine d = [(i, .sync, lu)]) (ho : d.overload = false) (hmis : d.pilot.missing = [])
    (hc : d.pilot.cache.contains i = true) :
    Dev.slotSent old d = Dev.txOrder old ((d.calendarSendAll [(i, .sync)]).modPilot fun x => { x with late := [] }) := by
  have hno : (slotMine d).filter (slotNo d) = [] := by rw [hm, List.filter_cons_of_neg (by rw [slotNo_false ho hmis]; decide)]; rfl
  have h1 : [(i, GrantKind.sync)].filter (fun x => d.pilot.cache.contains x.1) = [(i, .sync)] := List.filter_cons_of_pos hc
  have h2 : [(i, GrantKind.sync)].filter (fun x => !d.pilot.cache.contains x.1) = [] := List.filter_cons_of_neg (by simpa using hc)
  rw [Dev.slotSent, hno, slotGo_sync hm ho hmis, h1, h2]
  rfl

/-- One due Sync whose entry has not arrived waits. -/
theorem slotSent_waits {old : Dev} (hm : slotMine d = [(i, .sync, lu)]) (ho : d.overload = false) (hmis : d.pilot.missing = [])
    (hc : d.pilot.cache.contains i = false) : Dev.slotSent old d = Dev.txOrder old (d.modPilot fun x => { x with late := [(i, .sync)] }) := by
  have hno : (slotMine d).filter (slotNo d) = [] := by rw [hm, List.filter_cons_of_neg (by rw [slotNo_false ho hmis]; decide)]; rfl
  have h1 : [(i, GrantKind.sync)].filter (fun x => d.pilot.cache.contains x.1) = [] := List.filter_cons_of_neg (by simpa using hc)
  have h2 : [(i, GrantKind.sync)].filter (fun x => !d.pilot.cache.contains x.1) = [(i, .sync)] := List.filter_cons_of_pos (by simpa using hc)
  rw [Dev.slotSent, hno, slotGo_sync hm ho hmis, h1, h2]
  rfl

/-- The entry that has sent a Sync. -/
def Entry.synced (x : Entry) : Entry := { x with syncSeq := (x.syncSeq + 1) % 65536, dirty := true }

/-- A Sync of entry `x`, whose start the PCS sees at `t`. -/
def Dev.syncOf (d : Dev) (x : Entry) (t : Int × Nat) : List TxMsg :=
  SyncSent x.domain x.syncSeq x.twoStep (d.txStamp x.port t.1 t.2) (decide (x.transport = .ipv6)) (.node x.mac x.ip x.tags)

/-- One Sync sent from the calendar. -/
theorem calendarSendAll_one (hx : d.entryAt i = some x) (hs : d.serving x.port = true) : d.calendarSendAll [(i, .sync)] =
    ((d.slotStart d.tbGr).2.modPort x.port (Port.sending (d.syncOf x (d.slotStart d.tbGr).1))).modPilot fun y =>
      { y with entries := Tab.ins i x.synced y.entries } := by
  rw [calendarSendAll_sync]
  exact calendarSend_sync (d := (d.slotStart d.tbGr).2) hx hs (d.slotStart d.tbGr).1

/-- The ports after one Sync sent from the calendar, in their order. -/
theorem txOrder_sync {old f : Dev} {t : Int × Nat} (hf : SetsPort x.port ((old.port x.port).sending (d.syncOf x t)) old f) :
    ((Dev.txOrder old f).port x.port).sent = (old.port x.port).sent ++ d.syncOf x t ∧ ∀ q, q ≠ x.port → (Dev.txOrder old f).port q = old.port q := by
  refine ⟨?_, fun q hq => ?_⟩
  · rw [txOrder_port, hf.same, Port.ordered_sending (l := d.syncOf x t) (syncSent_ordered ..)]
    rfl
  · rw [txOrder_port, hf.ne hq, Port.ordered_sent]

theorem txOrder_rest (old f : Dev) : (Dev.txOrder old f).regs = f.regs ∧ (Dev.txOrder old f).pilot = f.pilot :=
  have h := (Within.refl (partScope [.ports]) f).txOrder (old := old)
  ⟨h.same .regs rfl, h.pilot⟩

/-! ### A slot of the calendar -/

/-- What one slot of the calendar leaves. -/
theorem calendarSlot_fields (ha : d.pilot.attached.isSome = true) (hp : d.pilotsOn = true) :
    ∃ t, calendarSlot d = t ∧ Within (looseScope [.regs, .ports, .pilot, .draws] [0x210014]) d t ∧
      t.pilot.slot = (if d.pilot.slot = 4095 then 0 else d.pilot.slot + 1) ∧
      t.pilot.round = (if d.pilot.slot = 4095 then d.pilot.round + 1 else d.pilot.round) ∧
      t.ports = (Dev.slotSent d d.slotBegun).ports ∧ t.regs = (Dev.slotSent d d.slotBegun).regs ∧
      t.pilot.entries = (Dev.slotSent d d.slotBegun).pilot.entries ∧ t.pilot.late = (Dev.slotSent d d.slotBegun).pilot.late := by
  have h0 : Within (looseScope [.regs, .ports, .pilot, .draws] [0x210014]) d d := .refl _ d
  have hw := (h0.slotBegun (.head _)).trans (slotSent_within d d.slotBegun)
  have hk := slotSent_keeps d d.slotBegun
  have hb := slotBegun_pilot d
  refine ⟨_, calendarSlot_on ha hp, ?_⟩
  generalize d.slotBegun.skipped.length = n
  generalize hsent : Dev.slotSent d d.slotBegun = f at hw hk ⊢
  have hslot : f.pilot.slot = d.pilot.slot := ((congrArg Pilot.slot hk).trans rfl).trans ((congrArg Pilot.slot hb).trans rfl)
  have hround : f.pilot.round = d.pilot.round := ((congrArg Pilot.round hk).trans rfl).trans ((congrArg Pilot.round hb).trans rfl)
  obtain ⟨w, c, sk, he⟩ := slotEnd_eq n f
  rw [hslot, hround] at he
  rw [he]
  refine ⟨?_, rfl, rfl, rfl, rfl, rfl, rfl⟩
  exact hw.modPilot (f := fun x => { x with
    writing := w, cache := c, skipFrom := sk, slot := if d.pilot.slot = 4095 then 0 else d.pilot.slot + 1,
    round := if d.pilot.slot = 4095 then d.pilot.round + 1 else d.pilot.round })

theorem calendarSlot_state (ha : s.dev.pilot.attached.isSome = true) (hp : s.dev.pilotsOn = true) : ∃ t,
    exec .calendarSlot s = .next t ∧ t.pending = s.pending ∧
      t.dev = { s.dev with regs := t.dev.regs, ports := t.dev.ports, pilot := t.dev.pilot, draws := t.dev.draws } ∧
      KeepsRegs [0x210014] s.dev t.dev ∧
      t.dev.pilot.slot = (if s.dev.pilot.slot = 4095 then 0 else s.dev.pilot.slot + 1) ∧
      t.dev.pilot.round = (if s.dev.pilot.slot = 4095 then s.dev.pilot.round + 1 else s.dev.pilot.round) ∧
      (slotMine s.dev = [] → s.dev.pilot.late = [] →
        t.dev.ports = s.dev.ports ∧ t.dev.regs = s.dev.regs ∧ t.dev.pilot.entries = s.dev.pilot.entries ∧ t.dev.pilot.late = []) ∧
      (∀ (i lu : Nat) (x : Entry) (u : Int × Nat), u = (s.dev.slotStart s.dev.tbGr).1 →
        slotMine s.dev = [(i, .sync, lu)] → s.dev.overload = false → s.dev.pilot.missing = [] → s.dev.pilot.late = [] → s.dev.entryAt i = some x →
        s.dev.serving x.port = true →
        (s.dev.pilot.cache.contains i = true →
          (t.dev.port x.port).sent = (s.dev.port x.port).sent ++ s.dev.syncOf x u ∧ t.dev.entryAt i = some x.synced ∧
          (∀ q, q ≠ x.port → t.dev.port q = s.dev.port q) ∧ t.dev.regs = s.dev.regs) ∧
        (s.dev.pilot.cache.contains i = false → t.dev.ports = s.dev.ports ∧ t.dev.regs = s.dev.regs ∧ t.dev.pilot.late = [(i, .sync)])) := by
  obtain ⟨t, ht, hw, hslot, hround, hports, hregs, hentries, hlate⟩ := calendarSlot_fields ha hp
  refine ⟨_, exec_run (x := .calendarSlot) (f := calendarSlot) rfl ht, rfl, hw.eq, hw.keepsRegs (fun _ h => h), hslot, hround, fun hm hl => ?_, fun i lu x u hu hm ho hmis hl hx hs => ?_⟩
  · have hf := slotBegun_quiet hl
    rw [slotSent_none (hf.mine.trans hm)] at hports hregs hentries hlate
    obtain ⟨hr, hpil⟩ := txOrder_rest s.dev (s.dev.slotBegun.modPilot fun x => { x with late := [] })
    have hpp : s.dev.slotBegun.ports = s.dev.ports := by rw [hf.1]
    have hrr : s.dev.slotBegun.regs = s.dev.regs := by rw [hf.1]
    exact ⟨hports.trans (txOrder_same hpp), hregs.trans (hr.trans hrr), hentries.trans ((congrArg Pilot.entries hpil).trans hf.entries), hlate.trans (congrArg Pilot.late hpil)⟩
  · have hf := slotBegun_quiet hl
    have hm' := hf.mine.trans hm
    have ho' := hf.overload.trans ho
    have hmis' := hf.2 hmis
    have hpp : s.dev.slotBegun.ports = s.dev.ports := by rw [hf.1]
    have hrr : s.dev.slotBegun.regs = s.dev.regs := by rw [hf.1]
    refine ⟨fun hc => ?_, fun hc => ?_⟩
    · have hx' : s.dev.slotBegun.entryAt i = some x := (entryAt_of_entries hf.entries).trans hx
      have hs' := (hf.serving x.port).trans hs
      have hsync : s.dev.slotBegun.syncOf x (s.dev.slotBegun.slotStart s.dev.slotBegun.tbGr).1 = s.dev.syncOf x u := by
        rw [hf.slotStart, ← hu, Dev.syncOf, hf.txStamp, Dev.syncOf]
      rw [slotSent_sync hm' ho' hmis' (by rw [hf.cache]; exact hc), calendarSendAll_one hx' hs', hsync] at hports hregs hentries
      generalize s.dev.slotBegun = e at hports hregs hentries hpp hrr
      generalize hg : (((e.slotStart e.tbGr).2.modPort x.port (Port.sending (s.dev.syncOf x u))).modPilot fun y =>
        { y with entries := Tab.ins i x.synced y.entries }).modPilot (fun x => { x with late := [] }) = g at hports hregs hentries
      obtain ⟨hr, hpil⟩ := txOrder_rest s.dev g
      have hgp : SetsPort x.port ((s.dev.port x.port).sending (s.dev.syncOf x u)) s.dev g := by
        have h0 : SetsPort x.port (s.dev.port x.port) s.dev (e.slotStart e.tbGr).2 := (SetsPort.refl x.port s.dev).side hpp
        rw [← hg]
        exact h0.modPort (f := Port.sending (s.dev.syncOf x u))
      obtain ⟨hsent, hne⟩ := txOrder_sync hgp
      have hge : g.pilot.entries = Tab.ins i x.synced e.pilot.entries := by rw [← hg]; rfl
      have hgr : g.regs = e.regs := by rw [← hg]; rfl
      refine ⟨(congrArg (fun v : Vector Port 8 => (v.get x.port).sent) hports).trans hsent, ?_, fun q hq => (congrArg (·.get q) hports).trans (hne q hq),
        hregs.trans (hr.trans (hgr.trans hrr))⟩
      show t.entryAt i = some x.synced
      rw [Dev.entryAt, hentries, hpil, hge, find_ins_same]
      rfl
    · rw [slotSent_waits hm' ho' hmis' (by rw [hf.cache]; exact hc)] at hports hregs hlate
      obtain ⟨hr, hpil⟩ := txOrder_rest s.dev (s.dev.slotBegun.modPilot fun x => { x with late := [(i, .sync)] })
      exact ⟨hports.trans (txOrder_same hpp), hregs.trans (hr.trans hrr), hlate.trans (congrArg Pilot.late hpil)⟩

/-! ### The DMA of the client table -/

theorem bar4Write_modPilot (f : Pilot → Pilot) (bs : List Byte) : ∀ (a : Nat) (d : Dev), (d.modPilot f).bar4Write a bs = (d.bar4Write a bs).modPilot f := by
  induction bs with
  | nil => exact fun _ _ => rfl
  | cons b bs ih =>
    intro a d
    have h : (d.modPilot f).bar4Put a b = (d.bar4Put a b).modPilot f := by
      unfold Dev.bar4Put
      split <;> rfl
    show ((d.modPilot f).bar4Put a b).bar4Write (a + 1) bs = _
    rw [h, ih]
    rfl

theorem post_modPilot (f : Pilot → Pilot) (a : Nat) (bs : List Byte) (d : Dev) : (d.modPilot f).post a bs = (d.post a bs).modPilot f := by
  by_cases h : d.dmaOpen = true
  · have h1 : d.post a bs = d.modHost fun h => { h with posted := h.posted ++ [⟨a, bs⟩] } := if_pos h
    rw [h1]
    exact if_pos h
  · have h1 : d.post a bs = d.modHost fun h => { h with stalled := h.stalled ++ [⟨a, bs⟩] } := if_neg h
    rw [h1]
    exact if_neg h

/-- The Pilots do not matter to what an entry's image writes but by the table. -/
theorem entryWrite_modPilot {f : Pilot → Pilot} (h : ∀ x, (f x).attached = x.attached ∧ (f x).gens = x.gens ∧ (f x).entries = x.entries) (i : Nat) (d : Dev) :
    (d.modPilot f).entryWrite i = (d.entryWrite i).modPilot f := by
  obtain ⟨h1, h2, h3⟩ := h d.pilot
  have ha : (d.modPilot f).pilot.attached = d.pilot.attached := h1
  have hg : (d.modPilot f).pilot.gens = d.pilot.gens := h2
  have he : (d.modPilot f).entryAt i = d.entryAt i := entryAt_of_entries h3
  unfold Dev.entryWrite
  rw [ha, hg, he]
  split
  next b a k _ =>
    unfold Dev.memWrite
    split
    · exact bar4Write_modPilot ..
    · exact post_modPilot ..
  · rfl

/-- A write-back that ends. -/
theorem writeBack_dirty (hx : d.entryAt i = some x) (hd : x.dirty = true) : d.writeBack i = (d.entryWrite i).modPilot fun y => { y with
    entries := Tab.ins i { x with dirty := false } y.entries, writing := y.writing.filter (· ≠ i), cache := y.cache.filter (· ≠ i) } := by
  have hx' : (d.modPilot fun x => { x with writing := x.writing.filter (· ≠ i) }).entryAt i = some x := (entryAt_of_entries rfl).trans hx
  unfold Dev.writeBack
  dsimp only
  rw [hx']
  dsimp only
  rw [if_pos hd, entryWrite_modPilot (f := fun x => { x with writing := x.writing.filter (· ≠ i) }) fun _ => ⟨rfl, rfl, rfl⟩]
  rfl

theorem tableDma_on {w ok : Bool} (ha : d.pilot.attached.isSome = true) : tableDma w i ok d =
    if w then (if !(if ok then d else d.tableErr).pilot.writing.contains i then (if ok then d else d.tableErr)
      else if ok then (if ok then d else d.tableErr).writeBack i
      else (if ok then d else d.tableErr).modPilot fun x => { x with writing := x.writing.filter (· ≠ i) })
    else if !ok || (((if ok then d else d.tableErr).fetched i ok).pilot.late.filter (·.1 = i)).isEmpty then (if ok then d else d.tableErr).fetched i ok
    else Dev.txOrder ((if ok then d else d.tableErr).fetched i ok)
      ((((if ok then d else d.tableErr).fetched i ok).calendarSendAll (((if ok then d else d.tableErr).fetched i ok).pilot.late.filter (·.1 = i))).modPilot fun x =>
        { x with late := x.late.filter (·.1 ≠ i), writing := listed i x.writing }) :=
  if_neg (by rw [Option.isNone_eq_false_iff.mpr ha]; decide)

theorem tableDma_written (ha : d.pilot.attached.isSome = true) (hw : d.pilot.writing.contains i = true) : tableDma true i true d = d.writeBack i := by
  rw [tableDma_on ha, if_pos rfl, if_pos rfl, if_neg (by rw [hw]; decide), if_pos rfl]

theorem tableDma_writeFailed (ha : d.pilot.attached.isSome = true) : tableDma true i false d =
    if d.tableErr.pilot.writing.contains i then d.tableErr.modPilot fun x => { x with writing := x.writing.filter (· ≠ i) } else d.tableErr := by
  rw [tableDma_on ha]
  simp only [if_true, Bool.false_eq_true, if_false]
  cases d.tableErr.pilot.writing.contains i <;> rfl

theorem tableDma_readFailed (ha : d.pilot.attached.isSome = true) : tableDma false i false d = d.tableErr.fetched i false := (tableDma_on ha).trans rfl

theorem tableDma_read (ha : d.pilot.attached.isSome = true) : tableDma false i true d =
    if ((d.fetched i true).pilot.late.filter (·.1 = i)).isEmpty then d.fetched i true
    else Dev.txOrder (d.fetched i true) (((d.fetched i true).calendarSendAll ((d.fetched i true).pilot.late.filter (·.1 = i))).modPilot fun x =>
      { x with late := x.late.filter (·.1 ≠ i), writing := listed i x.writing }) := by
  rw [tableDma_on ha, if_neg (by decide), if_pos rfl]
  rfl

theorem mem_listed {j : Nat} {l : List Nat} : j ∈ listed i l ↔ j = i ∨ j ∈ l := by
  unfold listed
  split
  next h => exact ⟨.inr, fun hj => hj.elim (fun e => e ▸ List.contains_iff_mem.mp h) id⟩
  next h => exact List.mem_cons

theorem tableErr_pilot (d : Dev) : d.tableErr.pilot = d.pilot := ((Within.refl (partScope [.regs, .watch]) d).bump.occur).pilot

/-- A failed access is counted and reported. -/
theorem tableErr_within (d : Dev) : Within (looseScope [.regs, .watch, .pilot] [0x210014]) d d.tableErr := by
  have h : Within (looseScope [.regs, .watch, .pilot] [0x210014]) d d := .refl _ d
  exact (h.bump (.head _)).occur

theorem tableErr_counts (d : Dev) : Counts 0x210014 0 16 d d.tableErr := (bump_counts 0x210014 d (lo := 0) (width := 16) (by decide)).after rfl

theorem tableErr_reports (d : Dev) : Reports 147 0 d d.tableErr := reports_occur rfl rfl

/-- A failed access of the client table. -/
theorem tableDma_failed (ha : d.pilot.attached.isSome = true) (w : Bool) :
    ∃ f : Pilot → Pilot, tableDma w i false d = d.tableErr.modPilot f ∧
      f d.pilot = { d.pilot with missing := (f d.pilot).missing, fetching := (f d.pilot).fetching, writing := (f d.pilot).writing } ∧
      (w = true → (f d.pilot).missing = d.pilot.missing ∧ (f d.pilot).fetching = d.pilot.fetching ∧ i ∉ (f d.pilot).writing) ∧
      (w = false → (f d.pilot).writing = d.pilot.writing ∧ i ∉ (f d.pilot).fetching ∧ (i ∈ (f d.pilot).missing ↔ i ∉ d.pilot.cache)) := by
  cases w with
  | true =>
    rw [tableDma_writeFailed ha, tableErr_pilot]
    by_cases hc : d.pilot.writing.contains i = true
    · rw [if_pos hc]
      exact ⟨_, rfl, rfl, fun _ => ⟨rfl, rfl, by simp⟩, fun h => absurd h (by decide)⟩
    · rw [if_neg hc]
      exact ⟨id, rfl, rfl, fun _ => ⟨rfl, rfl, fun h => hc (List.contains_iff_mem.mpr h)⟩, fun h => absurd h (by decide)⟩
  | false =>
    rw [tableDma_readFailed ha]
    refine ⟨_, rfl, rfl, fun h => absurd h (by decide), fun _ => ⟨rfl, by simp, ?_⟩⟩
    show i ∈ (if d.pilot.cache.contains i = true then d.pilot.missing.filter (· ≠ i) else listed i d.pilot.missing) ↔ _
    by_cases hc : i ∈ d.pilot.cache
    · rw [if_pos (List.contains_iff_mem.mpr hc)]
      simp [hc]
    · rw [if_neg fun h => hc (List.contains_iff_mem.mp h)]
      exact ⟨fun _ => hc, fun _ => mem_listed.mpr (.inl rfl)⟩

/-- An entry that arrives. -/
def Pilot.arrived (i : Nat) (x : Pilot) : Pilot :=
  { x with fetching := x.fetching.filter (· ≠ i), cache := listed i x.cache, missing := x.missing.filter (· ≠ i) }

theorem fetched_ok (i : Nat) (d : Dev) : d.fetched i true = d.modPilot (Pilot.arrived i) := rfl

theorem tableDma_arrives (ha : s.dev.pilot.attached.isSome = true) (hd : d = s.dev.modPilot (Pilot.arrived i)) :
    (s.dev.pilot.late.filter (·.1 = i) = [] → tableDma false i true s.dev = d) ∧
    (∀ (x : Entry) (u : Int × Nat), u = (s.dev.slotStart s.dev.tbGr).1 → s.dev.pilot.late.filter (·.1 = i) = [(i, .sync)] → s.dev.entryAt i = some x →
      s.dev.serving x.port = true → ∃ t, tableDma false i true s.dev = t ∧
        (t.port x.port).sent = (s.dev.port x.port).sent ++ s.dev.syncOf x u ∧ (∀ q, q ≠ x.port → t.port q = s.dev.port q) ∧ i ∈ t.pilot.writing ∧
        t.pilot.late = s.dev.pilot.late.filter (·.1 ≠ i) ∧ t = { d with ports := t.ports, pilot := t.pilot, draws := t.draws }) := by
  have hlate : d.pilot.late = s.dev.pilot.late := by rw [hd]; rfl
  have hdma := tableDma_read (i := i) ha
  rw [fetched_ok, ← hd, hlate] at hdma
  refine ⟨fun hl => ?_, fun x u hu hl hx hs => ⟨_, hdma, ?_⟩⟩
  · rw [hdma, hl]
    rfl
  · have hx' : d.entryAt i = some x := by rw [hd]; exact (entryAt_of_entries rfl).trans hx
    have hs' : d.serving x.port = true := by rw [hd]; exact hs
    have hsync : d.syncOf x (d.slotStart d.tbGr).1 = s.dev.syncOf x u := by rw [hu, hd]; rfl
    have hne : ¬ [(i, GrantKind.sync)].isEmpty = true := Bool.false_ne_true
    rw [hl, if_neg hne, calendarSendAll_one hx' hs', hsync]
    have hdp : d.ports = s.dev.ports := by rw [hd]; rfl
    clear hd hdma hu hsync hx' hs'
    generalize hg : (((d.slotStart d.tbGr).2.modPort x.port (Port.sending (s.dev.syncOf x u))).modPilot fun y =>
      { y with entries := Tab.ins i x.synced y.entries }).modPilot (fun x => { x with late := x.late.filter (·.1 ≠ i), writing := listed i x.writing }) = g
    have hgp : SetsPort x.port ((d.port x.port).sending (s.dev.syncOf x u)) d g := by
      have h0 : SetsPort x.port (d.port x.port) d (d.slotStart d.tbGr).2 := SetsPort.refl x.port d
      rw [← hg]
      exact h0.modPort (f := Port.sending (s.dev.syncOf x u))
    obtain ⟨hsent, hne⟩ := txOrder_sync hgp
    obtain ⟨-, hpil⟩ := txOrder_rest d g
    have hp (q : Fin 8) : d.port q = s.dev.port q := congrArg (·.get q) hdp
    refine ⟨by rw [hsent, hp], fun q hq => (hne q hq).trans (hp q), ?_, ?_, ?_⟩
    · rw [hpil, ← hg]
      exact mem_listed.mpr (.inl rfl)
    · rw [hpil, ← hlate, ← hg]
      rfl
    · have hw : Within (partScope [.ports, .pilot, .draws]) d (Dev.txOrder d g) := by
        have h0 : Within (partScope [.ports, .pilot, .draws]) d (d.slotStart d.tbGr).2 := (Within.refl _ d).draw.draw
        rw [← hg]
        exact h0.modPort.modPilot.modPilot.txOrder
      exact hw.eq

/-- Settles O41: the calendar in its parts, of which only the sending touches a port. -/
theorem serverAndCalendar : Obligations.ServerAndCalendar := by
  unfold Obligations.ServerAndCalendar
  intro s
  refine ⟨fun p hp => ⟨fun u k => ⟨_, exec_run (x := .multicastSyncTx ⟨p, u, k⟩) (f := mcSync p u k) rfl (mcSync_on hp u k), rfl⟩,
    ⟨_, exec_run (x := .multicastAnnounceTx p) (f := mcAnnounce p) rfl (mcAnnounce_on hp), rfl⟩⟩, fun i k x hx hg => ?_,
    fun ha hp => calendarSlot_state ha hp, fun i x ha hw hx hd => ?_, fun w i ha => ?_, fun i d ha hd => ?_⟩
  · obtain ⟨h1, h2, h3, h4, h5, h6, h7⟩ := grantEnd_fields hx hg
    exact ⟨_, exec_run (x := .grantExpiry i k) (f := grantEnd i.toNat k) rfl rfl, rfl, h1, h2, h3, h4, h5, h6, h7.eq⟩
  · refine ⟨_, _, exec_run (x := .clientTableDma true i true) (f := tableDma true i.toNat true) rfl ((tableDma_written ha hw).trans (writeBack_dirty hx hd)), rfl, ?_⟩
    have hp := entryWrite_pilot i.toNat s.dev
    generalize s.dev.entryWrite i.toNat = f at hp
    rw [← hp]
    rfl
  · obtain ⟨f, he, hf, htrue, hfalse⟩ := tableDma_failed (i := i.toNat) ha w
    have hp : (s.dev.tableErr.modPilot f).pilot = f s.dev.pilot := congrArg f (tableErr_pilot s.dev)
    have hw : Within (looseScope [.regs, .watch, .pilot] [0x210014]) s.dev (s.dev.tableErr.modPilot f) := (tableErr_within s.dev).modPilot
    have hc := (tableErr_counts s.dev).after (d₂ := s.dev.tableErr.modPilot f) rfl
    have hr := (tableErr_reports s.dev).after (d₂ := s.dev.tableErr.modPilot f) rfl
    refine ⟨_, exec_run (x := .clientTableDma w i false) (f := tableDma w i.toNat false) rfl he, rfl, hc, hw.keepsRegs (fun _ h => h), hr, ?_⟩
    generalize s.dev.tableErr.modPilot f = g at hp hw
    show g.pilot = _ ∧ _
    rw [hp]
    exact ⟨hf, htrue, hfalse, by rw [← hp]; exact hw.eq⟩
  · obtain ⟨h1, h2⟩ := tableDma_arrives (i := i.toNat) ha hd
    refine ⟨fun hl => exec_run (x := .clientTableDma false i true) (f := tableDma false i.toNat true) rfl (h1 hl), fun x u hu hl hx hs => ?_⟩
    obtain ⟨t, ht, h3, h4, h5, h6, h7⟩ := h2 x u hu hl hx hs
    exact ⟨_, exec_run (x := .clientTableDma false i true) (f := tableDma false i.toNat true) rfl ht, rfl, h3, h4, h5, h6, h7⟩

end Sys2Proof.Machine
end

section
/-! The client instances: their grants, their messages and their sub-intervals (chapter 10). -/

namespace Sys2Proof.Machine

set_option Elab.async false

variable {S : Scope} {d d₀ d' : Dev} {s : State} {k : Fin 16} {x : Client}

/-! ### Rows of Table 10-2 -/

theorem clientTo_seq {st : ClState} (h : (d.client k).st.code ≠ st.code) (row : Nat) : ((d.clientTo k st row).ring 8).seq = (d.ring 8).seq + 1 :=
  (stateEv_seq h ..).trans rfl

theorem Within.clientLost (h : Within S d₀ d) (ho : S.reg (prOff k + 0x54)) {announce : Bool} (hr : S.Has .regs := by trivial) (hc : S.Has .clients := by trivial)
    (hE : S.Events := by trivial) : Within S d₀ (d.clientLost k announce) := by
  have h1 : Within S d₀ (if announce then d.bump (prOff k + 0x54) 16 16 else d) := .ite (fun _ => h.bump ho) fun _ => h
  exact .ite (fun _ => h1.modClient.clientTo) fun _ => h

/-- A client that waits for its parent, or tracks it, listens again. -/
theorem clientLost_on (h : (d.client k).st = .requesting ∨ (d.client k).st = .tracking) (announce : Bool) : d.clientLost k announce =
    ((if announce then d.bump (prOff k + 0x54) 16 16 else d).modClient k Client.stop).clientTo k .listening 6 :=
  if_pos (by obtain h | h := h <;> rw [h] <;> rfl)

theorem clientLost_off (h : ¬ ((d.client k).st = .requesting ∨ (d.client k).st = .tracking)) (announce : Bool) : d.clientLost k announce = d :=
  if_neg (by simpa using h)

/-- ANNOUNCE_TIMEOUT is row 6, counted. -/
theorem announceLate_state (h : (s.dev.client k).st = .requesting ∨ (s.dev.client k).st = .tracking) : ∃ t, exec (.announceTimeout k) s = .next t ∧
      t.pending = s.pending ∧ t.dev.client k = { (s.dev.client k).stop with st := .listening } ∧
      (∀ j, j ≠ k → t.dev.client j = s.dev.client j) ∧ Counts (prOff k + 0x54) 16 16 s.dev t.dev ∧
      EventFrame [prOff k + 0x54] s.dev t.dev ∧ (t.dev.ring 8).seq = (s.dev.ring 8).seq + 1 ∧
      t.dev = { s.dev with regs := t.dev.regs, bar4 := t.dev.bar4, host := t.dev.host, keeper := t.dev.keeper,
                           clients := t.dev.clients } := by
  have hlt : prOff k + 0x54 < 0x2C1200 := by simp only [prOff]; omega
  have he : announceLate k s.dev = ((s.dev.bump (prOff k + 0x54) 16 16).modClient k Client.stop).clientTo k .listening 6 := clientLost_on h true
  have h0 : Within (eventScope [.regs, .bar4, .host, .keeper, .clients] [prOff k + 0x54] fun a ha => List.mem_singleton.mp ha ▸ not_cfgWord_of_lt hlt) s.dev s.dev := .refl _ _
  have hw := (h0.bump (lo := 16) (width := 16) (.head _)).modClient (n := k) (f := Client.stop) |>.clientTo (k := k) (st := .listening) (row := 6) rfl ⟨⟨rfl, rfl, rfl⟩, rfl⟩
  have h1 : SetsClient k (s.dev.client k) s.dev (s.dev.bump (prOff k + 0x54) 16 16) := (SetsClient.refl k s.dev).side rfl
  have hc : SetsClient k ((s.dev.client k).stop.to .listening) s.dev (((s.dev.bump (prOff k + 0x54) 16 16).modClient k Client.stop).clientTo k .listening 6) :=
    (h1.modClient (f := Client.stop)).clientTo
  have hcnt := bump_counts (prOff k + 0x54) s.dev (lo := 16) (width := 16) (by decide)
  have hlow : Within (lowScope [.regs, .bar4, .host, .keeper, .clients] []) (s.dev.bump (prOff k + 0x54) 16 16)
      (((s.dev.bump (prOff k + 0x54) 16 16).modClient k Client.stop).clientTo k .listening 6) := (Within.refl _ _).modClient.clientTo
  have hcode : (((s.dev.bump (prOff k + 0x54) 16 16).modClient k Client.stop).client k).st.code ≠ ClState.listening.code := by
    have h1 : ((s.dev.bump (prOff k + 0x54) 16 16).modClient k Client.stop).client k = (s.dev.client k).stop := modClient_client_same ..
    rw [h1]
    show (s.dev.client k).st.code ≠ _
    obtain h | h := h <;> rw [h] <;> decide
  have hseq : ((((s.dev.bump (prOff k + 0x54) 16 16).modClient k Client.stop).clientTo k .listening 6).ring 8).seq = (s.dev.ring 8).seq + 1 :=
    (clientTo_seq hcode 6).trans rfl
  have hcnt := hcnt.after (hlow.below _ List.not_mem_nil hlt)
  refine ⟨_, exec_run (x := .announceTimeout k) (f := announceLate k) rfl he, rfl, ?_⟩
  clear he hlow hcode
  generalize ((s.dev.bump (prOff k + 0x54) 16 16).modClient k Client.stop).clientTo k .listening 6 = e at hw hc hcnt hseq
  exact ⟨hc.same, fun j hj => hc.ne hj, hcnt, hw.eventFrame rfl (fun _ h => h), hseq, hw.eq⟩

/-- The client without a grant that it held. -/
def Client.dropped (g : GrantKind × BitVec 128) (x : Client) : Client := { x with held := x.held.filter (· ≠ g) }

/-- A grant that has ended leaves the held ones, and takes a client that needs it back to listening. -/
theorem clientExpiry_state {g : GrantKind} {a : BitVec 128} (h : (s.dev.client k).held.contains (g, a) = true) :
    ∃ t, exec (.clientGrantExpiry k (g, a)) s = .next t ∧ t.pending = s.pending ∧
      t.dev.client k = (if (s.dev.client k).st = .requesting ∨ (s.dev.client k).st = .tracking then
          { (s.dev.client k).stop with st := .listening, held := (s.dev.client k).held.filter (· ≠ (g, a)) }
        else { s.dev.client k with held := (s.dev.client k).held.filter (· ≠ (g, a)) }) ∧
      (∀ j, j ≠ k → t.dev.client j = s.dev.client j) ∧ EventFrame [] s.dev t.dev ∧
      t.dev = { s.dev with regs := t.dev.regs, bar4 := t.dev.bar4, host := t.dev.host, keeper := t.dev.keeper,
                           clients := t.dev.clients } := by
  have he : clientExpiry k (g, a) s.dev = (s.dev.modClient k (Client.dropped (g, a))).clientLost k false := if_pos h
  have h0 : Within (eventScope [.regs, .bar4, .host, .keeper, .clients] [] (fun _ h => absurd h List.not_mem_nil)) s.dev
    (s.dev.modClient k (Client.dropped (g, a))) := (Within.refl _ _).modClient
  have h1 := (SetsClient.refl k s.dev).modClient (f := Client.dropped (g, a))
  have hst : ((s.dev.modClient k (Client.dropped (g, a))).client k).st = (s.dev.client k).st := (congrArg Client.st h1.same).trans rfl
  refine ⟨_, exec_run (x := .clientGrantExpiry k (g, a)) (f := clientExpiry k (g, a)) rfl he, rfl, ?_⟩
  generalize s.dev.modClient k (Client.dropped (g, a)) = e at h0 h1 hst
  show (Dev.client (e.clientLost k false) k) = _ ∧ _
  by_cases hs : (s.dev.client k).st = .requesting ∨ (s.dev.client k).st = .tracking
  · rw [if_pos hs]
    rw [← hst] at hs
    have hl : e.clientLost k false = (e.modClient k Client.stop).clientTo k .listening 6 := clientLost_on hs false
    have hc := (h1.modClient (f := Client.stop)).clientTo (st := .listening) (row := 6)
    have hw := (h0.modClient (n := k) (f := Client.stop)).clientTo (k := k) (st := .listening) (row := 6) rfl ⟨⟨rfl, rfl, rfl⟩, rfl⟩
    rw [← hl] at hc hw
    exact ⟨hc.same, fun j hj => hc.ne hj, hw.eventFrame rfl (fun _ h => h), hw.eq⟩
  · rw [if_neg hs]
    rw [← hst] at hs
    have hl : e.clientLost k false = e := clientLost_off hs false
    rw [hl]
    exact ⟨h1.same, fun j hj => h1.ne hj, h0.eventFrame rfl (fun _ h => h), h0.eq⟩

/-! ### Requests for grants -/

theorem clientSend_port (l : List UcTlv) (a : Dest) (d : Dev) (h : l ≠ []) :
    d.clientSend k l a = d.modPort (d.clientPort k) (Port.sending (if (d.port (d.clientPort k)).st = .up then
      [.signaling (d.prDomain k) l (d.prV6 k) a] else [])) := by
  have hl : l.isEmpty = false := by simpa using h
  unfold Dev.clientSend
  dsimp only
  rw [hl]
  by_cases hst : (d.port (d.clientPort k)).st = .up
  · rw [if_neg (by simp [hst]), if_pos hst, send_eq]
  · rw [if_pos (by simp [hst]), if_neg hst, modPort_eq]
    have hx : (d.port (d.clientPort k)).sending [] = d.port (d.clientPort k) := by
      unfold Port.sending
      rw [List.append_nil]
    rw [hx]
    unfold Dev.withPort
    rw [show d.ports.set (d.clientPort k) (d.port (d.clientPort k)) = d.ports from set_get ..]

/-- One request, as its port and its client show it. -/
theorem clientAsk_asked (g : GrantKind) (a : BitVec 128) (hx : s' = s.withDev (s.dev.clientAsk k [(g, a)])) : GrantAsked k g a s s' := by
  subst hx
  have he : s.dev.clientAsk k [(g, a)] = (s.dev.clientSend k [.request g (s.dev.prLog k g) 300] (.addr a)).modClient k fun x =>
    { x with asked := grantIn (g, a) x.asked, denied := x.denied.filter (· ≠ (g, a)) } := rfl
  rw [he, clientSend_port _ _ _ (List.cons_ne_nil _ _)]
  refine ⟨rfl, rfl, ?_, fun j hj => ?_, fun q hq => ?_, ?_⟩
  · exact modClient_client_same ..
  · exact modClient_client_ne _ _ hj
  · exact modPort_port_ne _ _ hq
  · exact (modPort_port_same ..).trans rfl

/-! ### Announce messages for the Keeper -/

theorem keeperAnnounce_room {inst port : Nat} {msg : List Byte} (h : d.keeper.anq.held 64 < 63) :
    (d.keeperAnnounce inst port msg).keeper = { d.keeper with anq := d.keeper.anq.next 64 } := by
  have hk := ((Within.refl (partScope [.regs]) d).wrWords (fun _ _ => trivial) rfl (off := 0x30B000 + 128 * d.keeper.anq.wr)
    (ws := bytesWords (withPhase d.keeper.anq.phase ([b8 inst, b8 port, 0, 0] ++ (msg ++ List.replicate 124 0).take 124)))).keeper
  unfold Dev.keeperAnnounce
  dsimp only
  rw [if_pos h]
  exact (congrArg (fun x : Keeper => { x with anq := d.keeper.anq.next 64 }) hk)

theorem Within.keeperAnnounce (h : Within S d₀ d) {inst port : Nat} {msg : List Byte} (hr : S.Has .regs := by trivial) (hk : S.Has .keeper := by trivial)
    (hf : S.free = true := by trivial) : Within S d₀ (d.keeperAnnounce inst port msg) := by
  unfold Dev.keeperAnnounce
  dsimp only
  split
  · exact (h.wrQueue (by omega) hr hf).modKeeper
  · exact h.trans (.ofFree hf (fun p => by cases p <;> first | exact .inr rfl | exact .inl hr) fun a _ hev => rd_wr_ne _ d fun e => hev (.inr (.inr (.inl e.symm))))

theorem keeperAnnounce_keeper (inst port : Nat) (msg : List Byte) (d : Dev) :
    (d.keeperAnnounce inst port msg).keeper = { d.keeper with anq := (d.keeperAnnounce inst port msg).keeper.anq } := by
  by_cases h : d.keeper.anq.held 64 < 63
  · rw [keeperAnnounce_room h]
  · have he : d.keeperAnnounce inst port msg = d.bump 0x30011C 0 16 := if_neg h
    rw [he]
    rfl

/-- The latest Announces of the candidates, one after the other. -/
def Dev.postAll (k : Fin 16) (l : List SeenAnn) (d : Dev) : Dev := l.foldl (fun d e => d.keeperAnnounce k (d.clientPort k) e.bytes) d

theorem Within.postAll (h : Within S d₀ d) {l : List SeenAnn} (hr : S.Has .regs := by trivial) (hk : S.Has .keeper := by trivial)
    (hf : S.free = true := by trivial) : Within S d₀ (d.postAll k l) := h.foldl (fun _ _ h => h.keeperAnnounce) l

theorem postAll_keeper (k : Fin 16) (l : List SeenAnn) : ∀ d : Dev, (d.postAll k l).keeper = { d.keeper with anq := (d.postAll k l).keeper.anq } := by
  induction l with
  | nil => exact fun d => rfl
  | cons e l ih =>
    intro d
    have hk1 := keeperAnnounce_keeper k (d.clientPort k) e.bytes d
    have hk2 := ih (d.keeperAnnounce k (d.clientPort k) e.bytes)
    rw [hk1] at hk2
    exact hk2

/-- Where the Keeper's queue has room for all of them, it takes all of them. -/
theorem postAll_room (k : Fin 16) (l : List SeenAnn) : ∀ d : Dev, d.keeper.anq.wr < 64 → d.keeper.anq.ci < 64 → d.keeper.anq.held 64 + l.length ≤ 63 →
    (d.postAll k l).keeper.anq.wr = (d.keeper.anq.wr + l.length) % 64 := by
  induction l with
  | nil => exact fun d hw _ _ => (Nat.mod_eq_of_lt hw).symm
  | cons e l ih =>
    intro d hw hc hh
    rw [List.length_cons] at hh ⊢
    have hk := keeperAnnounce_room (inst := k) (port := d.clientPort k) (msg := e.bytes) (d := d) (by omega)
    have hrest := ih (d.keeperAnnounce k (d.clientPort k) e.bytes)
    rw [hk] at hrest
    have hwr : (d.keeper.anq.next 64).wr = (d.keeper.anq.wr + 1) % 64 := rfl
    have hci : (d.keeper.anq.next 64).ci = d.keeper.anq.ci := rfl
    simp only [KQueue.held, hwr, hci] at hh hrest
    refine (hrest (Nat.mod_lt _ (by decide)) hc (by omega)).trans (by omega)

/-- The latest Announces, posted in second `n`. -/
def Client.posted (n : Nat) (x : Client) : Client := { x with seen := x.seen.map fun e => { e with sec := n } }

theorem announcePost_state (h : (s.dev.client k).st ≠ .disabled) : ∃ t, exec (.announcePost k) s = .next t ∧ t.pending = s.pending ∧
      t.dev = { s.dev with regs := t.dev.regs, keeper := t.dev.keeper, clients := t.dev.clients } ∧ KeepsRegs [] s.dev t.dev ∧
      t.dev.client k = { s.dev.client k with
        seen := (s.dev.client k).seen.map fun e => { e with sec := s.dev.clk.tbUs / 1000000 } } ∧
      (∀ j, j ≠ k → t.dev.client j = s.dev.client j) ∧ t.dev.keeper = { s.dev.keeper with anq := t.dev.keeper.anq } ∧
      ((s.dev.client k).seen ≠ [] → s.dev.keeper.anq.wr < 64 → s.dev.keeper.anq.ci < 64 →
        s.dev.keeper.anq.held 64 + (s.dev.client k).seen.length ≤ 63 →
        t.dev.keeper.anq.wr = (s.dev.keeper.anq.wr + (s.dev.client k).seen.length) % 64) := by
  have he : announcePost k s.dev = (s.dev.modClient k (Client.posted (s.dev.clk.tbUs / 1000000))).postAll k (s.dev.client k).seen := if_neg h
  have h1 := (SetsClient.refl k s.dev).modClient (f := Client.posted (s.dev.clk.tbUs / 1000000))
  have hw : Within (looseScope [.regs, .keeper, .clients] []) s.dev (s.dev.modClient k (Client.posted (s.dev.clk.tbUs / 1000000))) := (Within.refl _ _).modClient
  have hk0 : (s.dev.modClient k (Client.posted (s.dev.clk.tbUs / 1000000))).keeper = s.dev.keeper := rfl
  refine ⟨_, exec_run (x := .announcePost k) (f := announcePost k) rfl he, rfl, ?_⟩
  clear he
  generalize s.dev.modClient k (Client.posted (s.dev.clk.tbUs / 1000000)) = e at h1 hw hk0
  have hroom := postAll_room k (s.dev.client k).seen e
  have hk := postAll_keeper k (s.dev.client k).seen e
  have h2 := h1.side ((Within.refl (partScope [.regs, .keeper]) e).postAll (k := k) (l := (s.dev.client k).seen)).clients
  have hall := hw.postAll (k := k) (l := (s.dev.client k).seen)
  rw [hk0] at hk hroom
  exact ⟨hall.eq, hall.keepsRegs (fun _ h => h), h2.same, fun j hj => h2.ne hj, hk, fun _ => hroom⟩

end Sys2Proof.Machine
end

section
/-! The messages of a client instance, and its sub-intervals (chapter 10). -/

namespace Sys2Proof.Machine

set_option Elab.async false

variable {S : Scope} {d d₀ d' : Dev} {s : State} {k : Fin 16} {x : Client}

/-! ### Delay_Req and Pdelay_Req -/

theorem delayReq_e2e {u : Int} {pos : Nat} (ht : (d.client k).st = .tracking) (hp : (d.port (d.clientPort k)).st = .up) (hon : d.pilotsOn = true)
    (h : d.prP2P k = false) : delayReq k u pos d = (d.send (d.clientPort k) (.delayReq (d.prDomain k) (d.client k).dreqSeq.toNat (d.prV6 k)
      (if d.prUnicast k then .addr (d.client k).parentAddr else .multicast none []))).modClient k fun x =>
        { x with dreq := some (x.dreqSeq, d.portTime (d.clientPort k) (d.txPin (d.clientPort k) u pos)), dreqSeq := x.dreqSeq + 1 } :=
  (if_neg (by rw [hp, hon]; decide)).trans ((if_neg (by rw [h]; decide)).trans (if_pos ht))

theorem delayReq_p2p {u : Int} {pos : Nat} (ht : (d.client k).st ≠ .disabled) (hp : (d.port (d.clientPort k)).st = .up) (hon : d.pilotsOn = true)
    (h : d.prP2P k = true) : delayReq k u pos d = (d.send (d.clientPort k) (.pdelayReq (d.prDomain k) (d.client k).dreqSeq.toNat (d.prV6 k)
      (.multicast none []))).modClient k fun x =>
        { x with preq := some (x.dreqSeq, d.portTime (d.clientPort k) (d.txPin (d.clientPort k) u pos)), dreqSeq := x.dreqSeq + 1 } :=
  (if_neg (by rw [hp, hon]; decide)).trans ((if_pos h).trans (if_pos ht))

/-! ### Estimates handed to a slot -/

theorem Within.estEvent (h : Within S d₀ d) {n : Fin 64} {k : Fin 4} {ph ffo at_ : Int} (hS : S.Runs) (ho : ∀ (k : Fin 4) i, i < 0x50 → S.reg (tsOff k + i))
    (hb : S.Has .buoys := by trivial) (ht : S.Has .ts := by trivial) : Within S d₀ (d.estEvent n k ph ffo at_) := by
  have ⟨_, hE, _, hc, _, _, _⟩ := hS
  have ⟨⟨hr, _, _⟩, _⟩ := hE
  unfold Dev.estEvent
  extract_lets shift e d1 d2
  have h1 : Within S d₀ d1 := h.modBuoy.actEvent hS
  have h2 : Within S d₀ d2 := .ite (fun _ => h1.gateEvent.chanEstimate) fun _ => h1
  exact h2.slotCapture ho

theorem Within.packetEstimate (h : Within S d₀ d) {n : Fin 64} {k : Fin 4} {ph ffo at_ : Int} {re : Bool} (hS : S.Runs)
    (ho : ∀ (k : Fin 4) i, i < 0x50 → S.reg (tsOff k + i)) (hn : ∀ i, i < 0x100 → S.reg (buoyOff n + i)) (hb : S.Has .buoys := by trivial)
    (ht : S.Has .ts := by trivial) : Within S d₀ (d.packetEstimate n k ph ffo at_ re) := by
  have ⟨_, hE, hw, _, _, _, _⟩ := hS
  have ⟨⟨hr, _, _⟩, _⟩ := hE
  unfold Dev.packetEstimate
  refine .ite (fun _ => h) fun _ => .ite (fun _ => h.rangeFail (hn 0x28 (by decide))) fun _ => ?_
  have h1 : Within S d₀ ((d.estEvent n k ph ffo at_).pubDec n [word ((d.estEvent n k ph ffo at_).buoy n).dec.count, word (bitAt 0 re), 0, 0]) :=
    (h.estEvent hS ho).pubDec (fun i hi => by
      have hi : i < 4 := hi
      rw [Nat.add_assoc]
      exact hn _ (by omega)) (hn 0x70 (by decide))
  dsimp only
  generalize (d.estEvent n k ph ffo at_).pubDec n [word ((d.estEvent n k ph ffo at_).buoy n).dec.count, word (bitAt 0 re), 0, 0] = e at h1 ⊢
  refine .ite (fun _ => h1.holdOut hS) fun _ => .ite (fun _ => ?_) fun _ => h1
  have h2 : Within S d₀ (e.modQual n fun q => { q with reroute := false }) := h1.modQual
  exact h2.holdExit hS

/-! ### A sub-interval in its parts -/

/-- The exchange of the sub-interval with the least sum. -/
def subBest (x : Client) : List Exchange := keepLow 0 (fun e => e.f + e.r) ((x.subs.head?).getD [])

/-- The sub-interval closed: its mark, and its least sum. -/
def Client.closed (mark : Int × Nat) (x : Client) : Client :=
  { x with subs := if x.subs.isEmpty then [[]] else x.subs, marks := (mark :: x.marks).take 520,
           rm := (((subBest x).map fun e => (e.f + e.r, e.o)) ++ x.rm).take 11 }

/-- The estimate of a window joins the last three. -/
def Client.estimated (e : Option PendEst) (x : Client) : Client := { x with ests := (e :: x.ests).take 4 }

/-- The next sub-interval. -/
def Client.opened (x : Client) : Client := { x with subs := ([] :: x.subs).take 520 }

/-- The mark of this moment. -/
def Dev.subMark (k : Fin 16) (d : Dev) : Int × Nat :=
  ((d.chan (d.tsChan (d.portTs (d.clientPort k)))).ffoSum, (d.chan (d.tsChan (d.portTs (d.clientPort k)))).ffoN)

/-- The window's estimate formed. -/
def Dev.subEst (k : Fin 16) (d : Dev) : Dev := (d.windowEst k 0).2.modClient k (Client.estimated (d.windowEst k 0).1)

/-- The re-route test. -/
def Dev.subTest (k : Fin 16) (none_ : Bool) (d : Dev) : Dev :=
  match (if none_ then .none else d.rrTest k) with
  | .none => d
  | .other => d.bump (prOff k + 0x50) 0 16
  | .reroute dR dO => d.reroute k dR dO

/-- The estimate that is due is given to its slot, and the next sub-interval begins. -/
def Dev.subNext (k : Fin 16) (d : Dev) : Dev := (d.releaseEst k (d.client k).hold).modClient k Client.opened

theorem subintervalEnd_on (ht : (d.client k).st = .tracking) (hon : d.pilotsOn = true) : subintervalEnd k d =
    (((d.modClient k (Client.closed (d.subMark k))).subEst k).subTest k (subBest (d.client k)).isEmpty).subNext k :=
  if_neg (by rw [ht, hon]; decide)

/-- All but the clients, the ports and the Pilots. -/
def subScope : Scope :=
  partScope [.regs, .bar4, .bar4Gen, .draws, .top, .chk, .host, .clk, .pwr, .watch, .keeper, .fw, .otp, .chart, .buoys, .pairs, .cycle, .chans,
    .lans, .outs, .vouts, .ts, .txts, .tide]

theorem subScope_runs : subScope.Runs := ⟨fun _ _ => trivial, ⟨⟨rfl, rfl, rfl⟩, rfl⟩, rfl, rfl, rfl, rfl, rfl⟩

/-- Client `k` alone, and what is neither port nor Pilot. -/
def SubStep (k : Fin 16) (x : Client) (d d' : Dev) : Prop := SetsClient k x d d' ∧ d'.ports = d.ports ∧ d'.pilot = d.pilot

theorem SubStep.within (h : SubStep k x d₀ d) (hw : Within subScope d d') : SubStep k x d₀ d' :=
  ⟨h.1.side hw.clients, hw.ports.trans h.2.1, hw.pilot.trans h.2.2⟩

theorem SubStep.modClient (h : SubStep k x d₀ d) (f : Client → Client) : SubStep k (f x) d₀ (d.modClient k f) := ⟨h.1.modClient, h.2⟩

/-- A window's estimate draws at most a value. -/
theorem windowEst_within (k : Fin 16) (j : Nat) (d : Dev) : Within (partScope [.draws]) d (d.windowEst k j).2 := by
  unfold Dev.windowEst
  dsimp only
  split
  · exact .refl _ d
  · split
    · exact .refl _ d
    · exact (Within.refl _ d).draw

theorem windowEsts_within (k : Fin 16) (j : Nat) : ∀ d : Dev, Within (partScope [.draws]) d (d.windowEsts k j).2 ∧ (d.windowEsts k j).1.length = j := by
  induction j with
  | zero => exact fun d => ⟨.refl _ d, rfl⟩
  | succ j ih =>
    intro d
    obtain ⟨hw, hl⟩ := ih (d.windowEst k j).2
    refine ⟨(windowEst_within k j d).trans hw, ?_⟩
    show ((Dev.windowEsts k j (d.windowEst k j).2).1 ++ [(d.windowEst k j).1]).length = j + 1
    rw [List.length_append, hl]
    rfl

theorem SubStep.side (h : SubStep k x d₀ d) (hw : Within (partScope [.draws]) d d') : SubStep k x d₀ d' :=
  ⟨h.1.side hw.clients, hw.ports.trans h.2.1, hw.pilot.trans h.2.2⟩

/-- What the end of a sub-interval keeps of its client: that it tracks, its marks, and the estimate that is due. -/
def Client.Due (m : List (Int × Nat)) (e : Option PendEst) (x : Client) : Prop := x.st = .tracking ∧ x.marks = m ∧ (x.ests[3]?).join = e

theorem estimated_due (e : Option PendEst) (x : Client) : ((x.estimated e).ests[3]?).join = (x.ests[2]?).join := by
  unfold Client.estimated
  simp

/-- The newest three estimates formed again. -/
theorem due_again {m : List (Int × Nat)} {e : Option PendEst} {l : List (Option PendEst)} (h : x.Due m e) (hl : l.length = 3) :
    ({ x with ests := l ++ x.ests.drop 3 } : Client).Due m e := by
  obtain ⟨h1, h2, h3⟩ := h
  refine ⟨h1, h2, ?_⟩
  rw [← h3]
  show ((l ++ x.ests.drop 3)[3]?).join = _
  rw [List.getElem?_append_right (by omega), hl, List.getElem?_drop]

/-- The client at a re-route. -/
def Client.rerouted (comp : Bool) (dO : Int) (until_ : Nat) (x : Client) : Client :=
  { x with asymRr := x.asymRr + (if comp then dO else 0), subs := if comp then correctSubs dO 3 x.subs else x.subs,
           rm := (x.rm.take 3).map (fun p => (p.1, p.2 - (if comp then dO else 0))), hold := true, holdAt := until_ }

/-- The windows that hold samples of a step formed again. -/
def Dev.again (k : Fin 16) (d : Dev) : Dev := (d.windowEsts k 3).2.modClient k fun x => { x with ests := (d.windowEsts k 3).1 ++ x.ests.drop 3 }

theorem reroute_eq (k : Fin 16) (dR dO : Int) (d : Dev) : ∃ until_, d.reroute k dR dO =
    (let e := d.modClient k (Client.rerouted (bit (d.rd (prOff k + 0xC)) 30) dO until_)
     let e := if bit (d.rd (prOff k + 0xC)) 30 then e.again k else e
     ((e.pub40 (prOff k + 0x38) (sat40 (e.client k).asymRr)).bump (prOff k + 0x50) 16 16).event 0x08 k 12 (sBytes 5 dR ++ sBytes 5 dO)) := ⟨_, rfl⟩

theorem reroute_due {m : List (Int × Nat)} {e : Option PendEst} (h : SubStep k x d₀ d) (hd : x.Due m e) (dR dO : Int) :
    ∃ y, SubStep k y d₀ (d.reroute k dR dO) ∧ y.Due m e := by
  obtain ⟨until_, he⟩ := reroute_eq k dR dO d
  rw [he]
  have h1 := h.modClient (Client.rerouted (bit (d.rd (prOff k + 0xC)) 30) dO until_)
  generalize d.modClient k (Client.rerouted (bit (d.rd (prOff k + 0xC)) 30) dO until_) = f at h1 ⊢
  have hd1 : (x.rerouted (bit (d.rd (prOff k + 0xC)) 30) dO until_).Due m e := hd
  generalize x.rerouted (bit (d.rd (prOff k + 0xC)) 30) dO until_ = y at h1 hd1
  have hend (g : Dev) : Within subScope g (((g.pub40 (prOff k + 0x38) (sat40 (g.client k).asymRr)).bump (prOff k + 0x50) 16 16).event 0x08 k 12 (sBytes 5 dR ++ sBytes 5 dO)) :=
    (((Within.refl subScope g).pub40).bump).event
  dsimp only
  split
  · obtain ⟨hw, hl⟩ := windowEsts_within k 3 f
    exact ⟨_, ((h1.side hw).modClient fun x => { x with ests := (f.windowEsts k 3).1 ++ x.ests.drop 3 }).within (hend _), due_again hd1 hl⟩
  · exact ⟨y, h1.within (hend f), hd1⟩

theorem subTest_due {m : List (Int × Nat)} {e : Option PendEst} (h : SubStep k x d₀ d) (hd : x.Due m e) (b : Bool) :
    ∃ y, SubStep k y d₀ (d.subTest k b) ∧ y.Due m e := by
  unfold Dev.subTest
  split
  · exact ⟨x, h, hd⟩
  · exact ⟨x, h.within ((Within.refl subScope d).bump), hd⟩
  · exact reroute_due h hd ..

/-- The estimate that is due is valid where there is one. -/
theorem releaseEst_due {m : List (Int × Nat)} {e : Option PendEst} (h : SubStep k x d₀ d) (hd : x.Due m e) (re : Bool) :
    ∃ y, SubStep k y d₀ (d.releaseEst k re) ∧ y.marks = m ∧ y.estValid = e.isSome := by
  obtain ⟨hst, hm, he⟩ := hd
  unfold Dev.releaseEst
  rw [h.1.same, if_neg (by rw [hst]; decide), he]
  cases e with
  | none => exact ⟨_, h.modClient fun x => { x with estValid := false }, hm, rfl⟩
  | some e =>
    refine ⟨_, (h.modClient fun x => { x with estValid := true }).within ?_, hm, rfl⟩
    exact (((Within.refl subScope _).pub40).pub40).packetEstimate subScope_runs (fun _ _ _ => trivial) (fun _ _ => trivial)

/-- What the end of a sub-interval leaves of a client that tracks. -/
theorem subintervalEnd_fields (ht : (d.client k).st = .tracking) (hon : d.pilotsOn = true) : ∃ y, SubStep k y d (subintervalEnd k d) ∧
    y.subs.head? = some [] ∧ y.marks = (d.subMark k :: (d.client k).marks).take 520 ∧ y.estValid = ((d.client k).ests[2]?).join.isSome := by
  rw [subintervalEnd_on ht hon]
  have h0 : SubStep k (d.client k) d d := ⟨SetsClient.refl k d, rfl, rfl⟩
  have h1 := h0.modClient (Client.closed (d.subMark k))
  have hd1 : ((d.client k).closed (d.subMark k)).st = .tracking := ht
  have hm1 : ((d.client k).closed (d.subMark k)).marks = (d.subMark k :: (d.client k).marks).take 520 := rfl
  have he1 : ((d.client k).closed (d.subMark k)).ests = (d.client k).ests := rfl
  generalize d.modClient k (Client.closed (d.subMark k)) = f at h1 ⊢
  generalize (d.client k).closed (d.subMark k) = z at h1 hd1 hm1 he1
  have h2 : SubStep k (z.estimated (f.windowEst k 0).1) d (f.subEst k) := (h1.side (windowEst_within k 0 f)).modClient _
  have hd2 : (z.estimated (f.windowEst k 0).1).Due ((d.subMark k :: (d.client k).marks).take 520) ((d.client k).ests[2]?).join :=
    ⟨hd1, hm1, by rw [estimated_due, he1]⟩
  obtain ⟨y, h3, hd3⟩ := subTest_due h2 hd2 (subBest (d.client k)).isEmpty
  obtain ⟨w, h4, hm4, hv4⟩ := releaseEst_due h3 hd3 (((f.subEst k).subTest k (subBest (d.client k)).isEmpty).client k).hold
  exact ⟨_, h4.modClient Client.opened, rfl, hm4, hv4⟩

/-- A sub-interval without an exchange, in a window that holds too few, gives nothing. -/
theorem subintervalEnd_empty (ht : (d.client k).st = .tracking) (hon : d.pilotsOn = true) (hcur : ((d.client k).subs.head?).getD [] = [])
    (hfew : ((if (d.client k).subs.isEmpty then [[]] else (d.client k).subs).take (2 ^ d.rdF (prOff k + 4) 27 4)).flatten.length < 4)
    (hnone : ((d.client k).ests[2]?).join = none) : subintervalEnd k d =
      d.modClient k fun x => Client.opened { (x.closed (d.subMark k)).estimated none with estValid := false } := by
  rw [subintervalEnd_on ht hon]
  have hmod (f g : Client → Client) (e : Dev) : (e.modClient k f).modClient k g = e.modClient k fun x => g (f x) := by
    show ({ e with clients := (e.clients.set k (f (e.client k))).set k (g ((e.clients.set k (f (e.client k))).get k)) } : Dev) = _
    rw [Vector.set_set, get_set_same]
    rfl
  have hbest : (subBest (d.client k)).isEmpty = true := by
    rw [subBest, hcur]
    simp [keepLow]
  have hc : (d.modClient k (Client.closed (d.subMark k))).client k = (d.client k).closed (d.subMark k) := modClient_client_same ..
  have hest : (d.modClient k (Client.closed (d.subMark k))).windowEst k 0 = (none, d.modClient k (Client.closed (d.subMark k))) := by
    refine if_pos ?_
    rw [hc]
    exact hfew
  have hsub : (d.modClient k (Client.closed (d.subMark k))).subEst k = d.modClient k fun x => (x.closed (d.subMark k)).estimated none := by
    rw [Dev.subEst, hest, hmod]
  rw [hsub, hbest]
  have hc2 : (d.modClient k fun x => (x.closed (d.subMark k)).estimated none).client k = ((d.client k).closed (d.subMark k)).estimated none := modClient_client_same ..
  have hdue : ((((d.client k).closed (d.subMark k)).estimated none).ests[3]?).join = none := (estimated_due ..).trans hnone
  have hrel (re : Bool) : (d.modClient k fun x => (x.closed (d.subMark k)).estimated none).releaseEst k re =
      (d.modClient k fun x => (x.closed (d.subMark k)).estimated none).modClient k fun x => { x with estValid := false } := by
    unfold Dev.releaseEst
    rw [hc2, if_neg (by rw [show (((d.client k).closed (d.subMark k)).estimated none).st = .tracking from ht]; decide), hdue]
  show Dev.subNext k (d.modClient k fun x => (x.closed (d.subMark k)).estimated none) = _
  rw [Dev.subNext, hrel, hmod, hmod]

theorem subintervalEnd_state {c : Chan} {subs : List (List Exchange)} {n : Nat} (ht : (s.dev.client k).st = .tracking) (hon : s.dev.pilotsOn = true)
    (hc : c = s.dev.chan (s.dev.tsChan (s.dev.portTs (s.dev.clientPort k)))) (hs : subs = (if (s.dev.client k).subs.isEmpty then [[]] else (s.dev.client k).subs))
    (hn : n = 2 ^ s.dev.rdF (prOff k + 4) 27 4) :
    ∃ t, exec (.subintervalEnd k) s = .next t ∧ t.pending = s.pending ∧ (t.dev.client k).subs.head? = some [] ∧
        (t.dev.client k).marks = ((c.ffoSum, c.ffoN) :: (s.dev.client k).marks).take 520 ∧
        (t.dev.client k).estValid = ((s.dev.client k).ests[2]?).join.isSome ∧
        (∀ j, j ≠ k → t.dev.client j = s.dev.client j) ∧ t.dev.ports = s.dev.ports ∧ t.dev.pilot = s.dev.pilot ∧
        (((s.dev.client k).subs.head?).getD [] = [] → (subs.take n).flatten.length < 4 → ((s.dev.client k).ests[2]?).join = none →
          t.dev = { s.dev with clients := t.dev.clients } ∧ (t.dev.client k).subs = ([] :: subs).take 520 ∧
          (t.dev.client k).ests = (none :: (s.dev.client k).ests).take 4 ∧
          (t.dev.client k).asymRr = (s.dev.client k).asymRr) := by
  subst hc hs hn
  obtain ⟨y, ⟨hy, hports, hpil⟩, hhead, hm, hv⟩ := subintervalEnd_fields ht hon
  refine ⟨_, exec_run (x := .subintervalEnd k) (f := subintervalEnd k) rfl rfl, rfl, ?_⟩
  have hquiet := fun hcur hfew hnone => subintervalEnd_empty (d := s.dev) (k := k) ht hon hcur hfew hnone
  generalize subintervalEnd k s.dev = e at hy hports hpil hquiet
  have hsame := hy.same
  refine ⟨(congrArg (fun x : Client => x.subs.head?) hsame).trans hhead, (congrArg Client.marks hsame).trans hm, (congrArg Client.estValid hsame).trans hv,
    fun j hj => hy.ne hj, hports, hpil, fun hcur hfew hnone => ?_⟩
  have he := hquiet hcur hfew hnone
  have hk : e.client k = Client.opened { ((s.dev.client k).closed (s.dev.subMark k)).estimated none with estValid := false } := by
    rw [he]
    exact modClient_client_same ..
  refine ⟨by rw [he]; rfl, (congrArg Client.subs hk).trans rfl, (congrArg Client.ests hk).trans rfl, (congrArg Client.asymRr hk).trans rfl⟩

/-- Settles O42: each event of a client instance by its own lemma. -/
theorem clientInstances : Obligations.ClientInstances := by
  unfold Obligations.ClientInstances
  intro k s
  refine ⟨announceLate_state, announcePost_state, fun g a hst hg => ?_, fun g a hst hg => ?_, fun g a hg => clientExpiry_state hg, fun u pos ht hp hon h => ?_,
    fun u pos ht hp hon h => ?_, fun c subs n ht hon hc hs hn => subintervalEnd_state ht hon hc hs hn,
    ⟨_, exec_run (x := .rerouteHoldExpiry k) (f := rerouteEnd k) rfl rfl, rfl⟩⟩
  · have he : clientRenew k (g, a) s.dev = s.dev.clientAsk k [(g, a)] := if_pos (by rw [hg]; simpa using hst)
    exact ⟨_, exec_run (x := .clientGrantRenew k (g, a)) (f := clientRenew k (g, a)) rfl he, clientAsk_asked g a rfl⟩
  · have he : clientRetry k (g, a) s.dev = s.dev.clientAsk k [(g, a)] := if_pos (by rw [hg]; simpa using hst)
    exact ⟨_, exec_run (x := .clientGrantRetry k (g, a)) (f := clientRetry k (g, a)) rfl he, clientAsk_asked g a rfl⟩
  · exact ⟨_, _, exec_run (x := .delayReqTx k u pos) (f := delayReq k u pos) rfl (delayReq_e2e ht hp hon h), rfl, rfl⟩
  · exact ⟨_, _, exec_run (x := .delayReqTx k u pos) (f := delayReq k u pos) rfl (delayReq_p2p ht hp hon h), rfl, rfl⟩

end Sys2Proof.Machine
end

section
/-! A ring after an entry was written to it, and after one was dropped (R311 to R315, R324). -/

namespace Sys2Proof.Machine

set_option Elab.async false

variable {S : Scope} {d d₀ d' : Dev} {r q : Fin 26}

/-- A ring whose device index has moved on. -/
def Ring.stored (size : Nat) (g : Ring) : Ring :=
  { g with devIdx := (g.devIdx + 1) % size, phase := if (g.devIdx + 1) % size = 0 then !g.phase else g.phase }

theorem ringSize_of_regs (h : d'.regs = d.regs) (r : Nat) : d'.ringSize r = d.ringSize r := by
  rw [Dev.ringSize, Dev.ringSize, Dev.rdF, Dev.rdF, rd_of_regs h]

/-- The bytes of an entry, the first word last. -/
def Dev.entryBytesPut (r : Fin 26) (e : List Byte) (d : Dev) : Dev :=
  (d.memWrite (d.ringBar4 r) (d.entryAddr r (d.ring r).devIdx + 4) ((withPhase (d.ring r).phase e).drop 4)).memWrite (d.ringBar4 r)
    (d.entryAddr r (d.ring r).devIdx) ((withPhase (d.ring r).phase e).take 4)

theorem entryBytesPut_ring (r : Fin 26) (e : List Byte) (d : Dev) (q : Fin 26) : (d.entryBytesPut r e).ring q = d.ring q := by
  rw [Dev.entryBytesPut, memWrite_ring, memWrite_ring]

theorem ringStore_eq (r : Fin 26) (e : List Byte) (d : Dev) : d.ringStore r e = (d.entryBytesPut r e).modRing r (Ring.stored (d.ringSize r)) := by
  have hsize : (d.entryBytesPut r e).ringSize r = d.ringSize r := ringSize_of_regs ((memWrite_regs ..).trans (memWrite_regs ..)) r
  have hring : (d.entryBytesPut r e).ring r = d.ring r := entryBytesPut_ring r e d r
  have he : d.ringStore r e = (d.entryBytesPut r e).modRing r fun g => { g with
      devIdx := ((d.ring r).devIdx + 1) % (d.entryBytesPut r e).ringSize r,
      phase := if ((d.ring r).devIdx + 1) % (d.entryBytesPut r e).ringSize r = 0 then !g.phase else g.phase } := rfl
  rw [he, hsize]
  generalize d.entryBytesPut r e = f at hring
  rw [← hring]
  rfl

theorem ringStore_ring (r : Fin 26) (e : List Byte) (d : Dev) : (d.ringStore r e).ring r = (d.ring r).stored (d.ringSize r) ∧
    ∀ q, q ≠ r → (d.ringStore r e).ring q = d.ring q := by
  rw [ringStore_eq]
  refine ⟨?_, fun q hq => ?_⟩
  · rw [modRing_ring_same, entryBytesPut_ring]
  · rw [modRing_ring_ne _ _ hq, entryBytesPut_ring]

/-- An entry and its notice. -/
theorem ringPut_ring (r : Fin 26) (e : List Byte) (d : Dev) :
    (∃ sig wait, (d.ringPut r e).ring r = ((d.ring r).stored (d.ringSize r)).noticed sig wait) ∧ ∀ q, q ≠ r → (d.ringPut r e).ring q = d.ring q := by
  obtain ⟨hr, hne⟩ := ringStore_ring r e d
  obtain ⟨⟨sig, wait, hn⟩, hnn⟩ := notice_ring r (d.irqBit r) true (d.ringStore r e)
  refine ⟨⟨sig, wait, ?_⟩, fun q hq => (hnn q hq).trans (hne q hq)⟩
  rw [← hr]
  exact hn

/-- A numbered entry that an open ring takes. -/
theorem ringEntry_open (h : d.ringOpen r = true) (mk : Word → List Byte) : Within (looseScope [.bar4, .host] []) d (d.ringEntry r mk) ∧
    ((d.ringEntry r mk).ring r).seq = (d.ring r).seq + 1 ∧ ((d.ringEntry r mk).ring r).devIdx = ((d.ring r).devIdx + 1) % d.ringSize r ∧
    ∀ q, q ≠ r → (d.ringEntry r mk).ring q = d.ring q := by
  have he : d.ringEntry r mk = (d.modRing r fun g => { g with seq := g.seq + 1, lost := 0 }).ringPut r (mk (d.ring r).seq) := if_pos h
  have hw : Within (looseScope [.bar4, .host] []) d ((d.modRing r fun g => { g with seq := g.seq + 1, lost := 0 }).ringPut r (mk (d.ring r).seq)) := by
    have h1 : Within (looseScope [.bar4, .host] []) d (d.modRing r fun g => { g with seq := g.seq + 1, lost := 0 }) := (Within.refl _ d).modRing
    exact h1.ringPut ⟨rfl, rfl, rfl⟩
  obtain ⟨⟨sig, wait, hr⟩, hne⟩ := ringPut_ring r (mk (d.ring r).seq) (d.modRing r fun g => { g with seq := g.seq + 1, lost := 0 })
  rw [he]
  refine ⟨hw, ?_, ?_, fun q hq => (hne q hq).trans (modRing_ring_ne _ _ hq)⟩
  · rw [hr, modRing_ring_same]
    rfl
  · rw [hr, modRing_ring_same]
    rfl

/-- A numbered entry that finds no open ring. -/
theorem ringEntry_closed (h : d.ringOpen r = false) (mk : Word → List Byte) :
    d.ringEntry r mk = (d.modRing r fun g => { g with seq := g.seq + 1, lost := g.lost + 1 }).bump (ringOff r + 0x10) 16 16 :=
  if_neg (by rw [h]; decide)

end Sys2Proof.Machine
end

section
/-! A received frame goes the way of Table 9-3 (chapters 9 and 10). -/

namespace Sys2Proof.Machine

set_option Elab.async false

variable {S : Scope} {d d₀ d' e : Dev} {s : State} {p : Fin 8} {f : Frame}

/-! ### The rows of Table 9-3 -/

/-- A frame whose header is that of an ESMC PDU. -/
def frameEsmc (f : Frame) : Bool :=
  match f.body with
  | .esmc x => esmcHeader x f.dst
  | _ => false

/-- The frame is not for this port, or not of its VLAN. -/
def Dev.frameAlien (d : Dev) (p : Fin 8) (f : Frame) : Bool :=
  !(f.dst.toNat = d.portMac p || f.dst.toNat = 2 ^ 48 - 1 || f.svcMulticast) || !d.vlanOk p f.tags

/-- A frame that has passed the checks before its bucket. -/
def Dev.frameTaken (p : Fin 8) (f : Frame) (d : Dev) : Dev :=
  if (d.police p f).1 || frameEsmc f then (d.police p f).2.classify p f else ((d.police p f).2.bump (psrvOff p + 0x58) 16 16).occur 148 p

theorem frameRx_dark (h : (d.port p).st = .off ∨ (d.port p).st = .down) : frameRx p f d = d := by
  refine if_pos ?_
  obtain h | h := h <;> rw [h] <;> rfl

theorem frameRx_lit (h : (d.port p).st = .cal ∨ (d.port p).st = .up) : frameRx p f d =
    if !f.fcsOk || decide (f.len < 64) then d.bump (portOff p + 0xA4) 16 16
    else if 2000 < f.len then d.bump (portOff p + 0xA4) 0 16
    else if d.frameAlien p f then d.bump (portOff p + 0xA8) 16 16
    else d.frameTaken p f :=
  if_neg (by obtain h | h := h <;> rw [h] <;> decide)

theorem frameRx_bad (h : (d.port p).st = .cal ∨ (d.port p).st = .up) (hb : f.fcsOk = false ∨ f.len < 64) : frameRx p f d = d.bump (portOff p + 0xA4) 16 16 := by
  rw [frameRx_lit h]
  refine if_pos ?_
  obtain hb | hb := hb <;> simp [hb]

theorem frameRx_long (h : (d.port p).st = .cal ∨ (d.port p).st = .up) (hf : f.fcsOk = true) (hl : 2000 < f.len) :
    frameRx p f d = d.bump (portOff p + 0xA4) 0 16 := by
  rw [frameRx_lit h, if_neg (by simp [hf]; omega), if_pos hl]

theorem frameRx_fit (h : (d.port p).st = .cal ∨ (d.port p).st = .up) (hf : f.fcsOk = true) (h1 : 64 ≤ f.len) (h2 : f.len ≤ 2000) :
    frameRx p f d = if d.frameAlien p f then d.bump (portOff p + 0xA8) 16 16 else d.frameTaken p f := by
  rw [frameRx_lit h, if_neg (by simp [hf]; omega), if_neg (by omega)]

theorem frameAlien_true : d.frameAlien p f = true ↔
    (f.dst.toNat ≠ d.portMac p ∧ f.dst.toNat ≠ 2 ^ 48 - 1 ∧ f.svcMulticast = false) ∨ d.vlanOk p f.tags = false := by
  unfold Dev.frameAlien
  rw [Bool.or_eq_true, Bool.not_eq_true', Bool.not_eq_true', Bool.or_eq_false_iff, Bool.or_eq_false_iff, decide_eq_false_iff_not, decide_eq_false_iff_not, and_assoc]

theorem frameAlien_false (h : f.dst.toNat = d.portMac p ∨ f.dst.toNat = 2 ^ 48 - 1 ∨ f.svcMulticast = true) (hv : d.vlanOk p f.tags = true) :
    d.frameAlien p f = false := by
  refine Bool.eq_false_iff.mpr fun ha => ?_
  obtain ⟨h1, h2, h3⟩ | h1 := frameAlien_true.mp ha
  · obtain h | h | h := h
    · exact h1 h
    · exact h2 h
    · exact absurd (h.symm.trans h3) (by decide)
  · exact absurd (hv.symm.trans h1) (by decide)

/-! ### The bucket -/

/-- A device with other buckets at port `p`. -/
def Dev.withBuckets (p : Fin 8) (b : Tab Bucket) (d : Dev) : Dev := d.withPort p { d.port p with buckets := b }

theorem modBuckets_eq (p : Fin 8) (i : Nat) (b : Bucket) (d : Dev) :
    (d.modPort p fun x => { x with buckets := Tab.ins i b x.buckets }) = d.withBuckets p (Tab.ins i b (d.port p).buckets) := rfl

/-- The bucket of a frame touches the buckets of its port alone. -/
theorem police_eq (p : Fin 8) (f : Frame) (d : Dev) : d.police p f = (false, d) ∨ ∃ b, d.police p f = (true, d.withBuckets p b) := by
  unfold Dev.police
  dsimp only
  split
  · exact .inr ⟨_, congrArg (Prod.mk true) (modBuckets_eq ..)⟩
  · exact .inl rfl

theorem withBuckets_same (p : Fin 8) (b : Tab Bucket) (d : Dev) : (d.withBuckets p b).port p = { d.port p with buckets := b } := withPort_port_same ..

theorem withBuckets_serving (p : Fin 8) (b : Tab Bucket) (d : Dev) : (d.withBuckets p b).serving p = d.serving p := by
  unfold Dev.serving
  rw [withBuckets_same]
  rfl

theorem withBuckets_ptpBad (p : Fin 8) (b : Tab Bucket) (d : Dev) (m : PtpMsg) : (d.withBuckets p b).ptpBad p m = d.ptpBad p m := by
  unfold Dev.ptpBad
  rw [withBuckets_same]
  rfl

/-! ### The classes -/

theorem classify_arp {a : Word} (hb : f.body = .arp a) (h : d.hasIp4 p a = true) :
    d.classify p f = onlyIf ((d.port p).st = .up) (Dev.send p (.arpReply a (srcNode f))) d := by
  unfold Dev.classify
  rw [hb]
  exact if_pos h

theorem classify_neighbor {a : BitVec 128} (hb : f.body = .neighborSol a) (h : d.hasIp6 p a = true) :
    d.classify p f = onlyIf ((d.port p).st = .up) (Dev.send p (.neighborAdv a (srcNode f))) d := by
  unfold Dev.classify
  rw [hb]
  exact if_pos h

theorem classify_ptpBad {m : PtpMsg} (hb : f.body = .ptp m) (hon : d.pilotsOn = true) (h : d.ptpBad p m = true) :
    d.classify p f = d.bump (psrvOff p + 0x58) 0 16 := by
  unfold Dev.classify
  rw [hb]
  exact (if_neg (by rw [hon]; decide)).trans (if_pos h)

theorem classify_ptp {m : PtpMsg} (hb : f.body = .ptp m) (hon : d.pilotsOn = true) (h : d.ptpBad p m = false) : d.classify p f = d.ptpServe p f m := by
  unfold Dev.classify
  rw [hb]
  exact (if_neg (by rw [hon]; decide)).trans (if_neg (by rw [h]; decide))

theorem classify_esmc {x : EsmcPdu} (hb : f.body = .esmc x) (h : esmcHeader x f.dst = true) : d.classify p f = d.esmcTake p x := by
  unfold Dev.classify
  rw [hb]
  exact if_pos h

/-- A Delay_Req to a server. -/
theorem ptpServe_delayReq {m : PtpMsg} (hm : m.body = .delayReq) (ht : d.serverTakes p f m = true) : d.ptpServe p f m =
    if d.serving p then d.send p (.delayResp m.domain m.seqId.toNat (grTriple (d.portTime p (d.rxPin p f.tPcs f.kBits))) m.sender
      (decide (m.transport = .ipv6)) (if f.dst.getLsbD 40 then .multicast (if fld (d.psrv p) 26 3 = 4 then some 0x011B19000000 else none) f.tags
        else srcNode f)) else d := by
  unfold Dev.ptpServe
  rw [hm]
  exact if_neg (by rw [ht]; decide)

/-- The frames that the exception ring takes. -/
def Dev.excepted (d : Dev) (p : Fin 8) (f : Frame) : Prop :=
  f.body = .other ∨ (∃ a, f.body = .arp a ∧ d.hasIp4 p a = false) ∨ (∃ a, f.body = .neighborSol a ∧ d.hasIp6 p a = false) ∨
    (∃ x, f.body = .esmc x ∧ esmcHeader x f.dst = false) ∨ (∃ m, f.body = .ptp m ∧ d.pilotsOn = false)

theorem classify_excepted (h : d.excepted p f) : d.classify p f = d.exception p f := by
  unfold Dev.classify
  obtain hb | ⟨a, hb, h⟩ | ⟨a, hb, h⟩ | ⟨x, hb, h⟩ | ⟨m, hb, h⟩ := h <;> rw [hb]
  · exact if_neg (by rw [h]; decide)
  · exact if_neg (by rw [h]; decide)
  · exact if_neg (by rw [h]; decide)
  · exact if_pos (by rw [h]; rfl)

/-! ### The exception ring -/

/-- The entry of a frame for the host that came at `t`. -/
def Dev.excEntry (t : Triple) (p : Fin 8) (f : Frame) (d : Dev) (seq : Word) : List Byte :=
  leBytes 2 f.len ++ [b8 (p.val + bitAt 3 ((d.port p).st = .cal) + bitAt 4 (d.portUnset p) + (d.portTs p).val * 32), 0] ++
    wordBytes seq ++ tripleBytes t ++ List.replicate 12 0 ++ f.bytes.take f.len

/-- A frame for the host that finds no open ring, counted and reported. -/
def Dev.excLost (p : Fin 8) (d : Dev) : Dev := (d.bump (portOff p + 0xA8) 0 16).occur 144 p

theorem exception_eq (p : Fin 8) (f : Frame) (d : Dev) : d.exception p f = (if d.ringOpen (excRing p) then d else d.excLost p).ringEntry (excRing p)
    ((if d.ringOpen (excRing p) then d else d.excLost p).excEntry (grTriple (d.portTime p (d.rxPin p f.tPcs f.kBits))) p f) := rfl

theorem exception_open (h : d.ringOpen (excRing p) = true) : ∃ mk, d.exception p f = d.ringEntry (excRing p) mk :=
  ⟨_, by rw [exception_eq, if_pos h]⟩

theorem exception_closed (h : d.ringOpen (excRing p) = false) : ∃ mk, d.exception p f = (d.excLost p).ringEntry (excRing p) mk :=
  ⟨_, by rw [exception_eq, if_neg (by rw [h]; decide)]⟩

theorem ringOff_exc (p : Fin 8) (k : Nat) : 0x2C1480 ≤ ringOff (excRing p) + k := by
  simp only [ringOff, excRing]
  omega

theorem excLost_ringOpen (p : Fin 8) (d : Dev) : (d.excLost p).ringOpen (excRing p) = d.ringOpen (excRing p) := by
  have h8 : (d.excLost p).rd (ringOff (excRing p) + 8) = d.rd (ringOff (excRing p) + 8) := by
    refine rd_wr_ne _ d ?_
    have := ringOff_exc p 8
    have := portOff_lt p (k := 0xA8) (by decide)
    omega
  have hr : ∀ r : Fin 26, (d.excLost p).ring r = d.ring r := fun _ => rfl
  simp only [Dev.ringOpen, Dev.ringEn, Dev.ringFull, Dev.unreturned, Dev.ringSize, Dev.rdF, h8, hr]

/-- What a frame that the exception ring drops leaves. -/
theorem exception_lost (h : d.ringOpen (excRing p) = false) :
    Within (looseScope [.regs, .host, .watch] [portOff p + 0xA8, ringOff (excRing p) + 0x10]) d (d.exception p f) ∧
    Counts (portOff p + 0xA8) 0 16 d (d.exception p f) ∧ Reports 144 p d (d.exception p f) ∧
    ((d.exception p f).ring (excRing p)).lost = (d.ring (excRing p)).lost + 1 := by
  obtain ⟨mk, he⟩ := exception_closed (f := f) h
  have h1 : Within (looseScope [.regs, .host, .watch] [portOff p + 0xA8, ringOff (excRing p) + 0x10]) d (d.excLost p) := by
    have h0 : Within (looseScope [.regs, .host, .watch] [portOff p + 0xA8, ringOff (excRing p) + 0x10]) d d := .refl _ d
    exact (h0.bump (.head _)).occur
  have hcnt : Counts (portOff p + 0xA8) 0 16 d (d.excLost p) := (bump_counts (portOff p + 0xA8) d (by decide)).after rfl
  have hrep : Reports 144 p d (d.excLost p) := reports_occur rfl rfl
  have hring : (d.excLost p).ring (excRing p) = d.ring (excRing p) := rfl
  rw [he, ringEntry_closed ((excLost_ringOpen p d).trans h)]
  generalize d.excLost p = g at h1 hcnt hrep hring
  refine ⟨?_, hcnt.after (rd_wr_ne _ _ ?_), hrep.after rfl, ?_⟩
  · have h2 : Within (looseScope [.regs, .host, .watch] [portOff p + 0xA8, ringOff (excRing p) + 0x10]) d
        (g.modRing (excRing p) fun g => { g with seq := g.seq + 1, lost := g.lost + 1 }) := h1.modRing
    exact h2.bump (.tail _ (.head _))
  · have := ringOff_exc p 0x10
    have := portOff_lt p (k := 0xA8) (by decide)
    omega
  · rw [← hring]
    exact (congrArg Ring.lost (modRing_ring_same (excRing p) (fun g => { g with seq := g.seq + 1, lost := g.lost + 1 }) g)).trans rfl

/-! ### ESMC -/

theorem esmcTake_within (p : Fin 8) (x : EsmcPdu) (d : Dev) : Within (looseScope [.regs, .ports] [portOff p + 0x98, portOff p + 0xAC]) d (d.esmcTake p x) := by
  have h0 : Within (looseScope [.regs, .ports] [portOff p + 0x98, portOff p + 0xAC]) d d := .refl _ d
  unfold Dev.esmcTake
  split
  · exact (h0.wr (.head _)).modPort
  · exact h0.bump (.tail _ (.head _))

theorem esmcTake_bad {x : EsmcPdu} (h : esmcTlvOk x = false) (d : Dev) : d.esmcTake p x = d.bump (portOff p + 0xAC) 16 16 := if_neg (by rw [h]; decide)

/-- A valid PDU is shown with its SSM. -/
theorem esmcTake_ok {x : EsmcPdu} (h : esmcTlvOk x = true) (d : Dev) : ((d.esmcTake p x).port p).esmcValid = true ∧
    ((d.esmcTake p x).port p).esmcTimeout = false ∧
    ∀ v, esmcTlv x 1 = some v → (d.esmcTake p x).rdF (portOff p + 0x98) 0 4 = (v.value.getD 0 0).toNat % 16 := by
  have he : ∃ w, d.esmcTake p x = (d.wr (portOff p + 0x98) (setFld w 0 4 ((match esmcTlv x 1 with
      | some t => (t.value.getD 0 0).toNat
      | none => 0) % 16))).modPort p fun y => { y with esmcValid := true, esmcTimeout := false } := ⟨_, if_pos h⟩
  obtain ⟨w, he⟩ := he
  rw [he]
  refine ⟨congrArg Port.esmcValid (modPort_port_same ..), congrArg Port.esmcTimeout (modPort_port_same ..), fun v hv => ?_⟩
  rw [hv]
  have hrd : ∀ u, ((d.wr (portOff p + 0x98) u).modPort p fun y => { y with esmcValid := true, esmcTimeout := false }).rd (portOff p + 0x98) = u := fun u => rd_wr_same ..
  rw [Dev.rdF, hrd]
  exact (fld_setFld_same w _ (by decide)).trans (Nat.mod_mod _ 16)

end Sys2Proof.Machine
end

section
/-! What a received frame leaves (chapters 9 and 10). -/

namespace Sys2Proof.Machine

set_option Elab.async false

variable {d e : Dev} {s : State} {p : Fin 8} {f : Frame}

/-! ### Frames that are counted -/

/-- A frame that is dropped is counted at `off`. -/
theorem frameRx_counts {off lo : Nat} (hlo : lo + 16 ≤ 32) (h : frameRx p f s.dev = s.dev.bump off lo 16) :
    ∃ t, exec (.frameReceived p f) s = .next t ∧ t.pending = s.pending ∧ t.dev = { s.dev with regs := t.dev.regs } ∧ Counts off lo 16 s.dev t.dev ∧
      KeepsRegs [off] s.dev t.dev :=
  have h0 : Within (looseScope [.regs] [off]) s.dev s.dev := .refl _ _
  have hw : Within (looseScope [.regs] [off]) s.dev (s.dev.bump off lo 16) := h0.bump (.head _)
  ⟨_, exec_run (x := .frameReceived p f) (f := frameRx p f) rfl h, rfl, rfl, bump_counts off s.dev hlo, hw.keepsRegs fun _ h => h⟩

/-- A frame without a token is counted and reported. -/
theorem frameRx_policed (h : frameRx p f s.dev = s.dev.frameTaken p f) (hne : ∀ x, f.body = .esmc x → esmcHeader x f.dst = false)
    (hp : (s.dev.police p f).1 = false) : ∃ t, exec (.frameReceived p f) s = .next t ∧ t.pending = s.pending ∧
      t.dev = { s.dev with regs := t.dev.regs, watch := t.dev.watch } ∧ Counts (psrvOff p + 0x58) 16 16 s.dev t.dev ∧
      KeepsRegs [psrvOff p + 0x58] s.dev t.dev ∧ Reports 148 p s.dev t.dev := by
  have hb : frameEsmc f = false := by
    unfold frameEsmc
    split
    next x hx => exact hne x hx
    · rfl
  have hpd : s.dev.police p f = (false, s.dev) := by
    obtain h | ⟨b, h⟩ := police_eq p f s.dev
    · exact h
    · rw [h] at hp
      exact Bool.noConfusion hp
  have he : frameRx p f s.dev = (s.dev.bump (psrvOff p + 0x58) 16 16).occur 148 p := by
    rw [h, Dev.frameTaken, hpd, hb]
    rfl
  have h0 : Within (looseScope [.regs, .watch] [psrvOff p + 0x58]) s.dev s.dev := .refl _ _
  have hw : Within (looseScope [.regs, .watch] [psrvOff p + 0x58]) s.dev ((s.dev.bump (psrvOff p + 0x58) 16 16).occur 148 p) := (h0.bump (.head _)).occur
  have hcnt : Counts (psrvOff p + 0x58) 16 16 s.dev ((s.dev.bump (psrvOff p + 0x58) 16 16).occur 148 p) :=
    (bump_counts (psrvOff p + 0x58) s.dev (by decide)).after rfl
  exact ⟨_, exec_run (x := .frameReceived p f) (f := frameRx p f) rfl he, rfl, hw.eq, hcnt, hw.keepsRegs fun _ h => h, reports_occur rfl rfl⟩

/-! ### Frames that are classified -/

section
variable {b : Tab Bucket}

theorem exec_classify (h : frameRx p f s.dev = s.dev.frameTaken p f) (hp : s.dev.police p f = (true, s.dev.withBuckets p b)) :
    exec (.frameReceived p f) s = .next (s.withDev ((s.dev.withBuckets p b).classify p f)) := by
  refine exec_run (x := .frameReceived p f) (f := frameRx p f) rfl (h.trans ?_)
  rw [Dev.frameTaken, hp]
  rfl

theorem withBuckets_st (p : Fin 8) (b : Tab Bucket) (d : Dev) : ((d.withBuckets p b).port p).st = (d.port p).st := (congrArg Port.st (withBuckets_same p b d)).trans rfl

/-- A malformed PTP message is counted. -/
theorem classify_ptpBad_fields {m : PtpMsg} (hb : f.body = .ptp m) (hon : d.pilotsOn = true) (h : d.ptpBad p m = true) (b : Tab Bucket) :
    ∃ y, (d.withBuckets p b).classify p f = y ∧ y = { d.withBuckets p b with regs := y.regs } ∧ Counts (psrvOff p + 0x58) 0 16 d y ∧
      KeepsRegs [psrvOff p + 0x58] d y := by
  have he := classify_ptpBad (d := d.withBuckets p b) hb hon ((withBuckets_ptpBad p b d m).trans h)
  have h0 : Within (looseScope [.regs, .ports] [psrvOff p + 0x58]) d (d.withBuckets p b) :=
    (Within.refl _ d).modPort (n := p) (f := fun _ => { d.port p with buckets := b })
  have hw : Within (looseScope [.regs, .ports] [psrvOff p + 0x58]) d ((d.withBuckets p b).bump (psrvOff p + 0x58) 0 16) := h0.bump (.head _)
  exact ⟨_, he, rfl, (bump_counts (psrvOff p + 0x58) (d.withBuckets p b) (by decide)).before rfl, hw.keepsRegs fun _ h => h⟩

/-- A frame for the host, by whether its ring is open. -/
theorem classify_host (h : d.excepted p f) (b : Tab Bucket) :
    (d.ringOpen (excRing p) = true → ∃ y, (d.withBuckets p b).classify p f = y ∧ y = { d.withBuckets p b with bar4 := y.bar4, host := y.host } ∧
      (y.ring (excRing p)).seq = (d.ring (excRing p)).seq + 1 ∧
      (y.ring (excRing p)).devIdx = ((d.ring (excRing p)).devIdx + 1) % d.ringSize (excRing p) ∧ ∀ r : Fin 26, r ≠ excRing p → y.ring r = d.ring r) ∧
    (d.ringOpen (excRing p) = false → ∃ y, (d.withBuckets p b).classify p f = y ∧
      y = { d.withBuckets p b with regs := y.regs, host := y.host, watch := y.watch } ∧ Counts (portOff p + 0xA8) 0 16 d y ∧ Reports 144 p d y ∧
      KeepsRegs [portOff p + 0xA8, ringOff (excRing p) + 0x10] d y ∧ (y.ring (excRing p)).lost = (d.ring (excRing p)).lost + 1) := by
  have he : (d.withBuckets p b).classify p f = (d.withBuckets p b).exception p f := classify_excepted h
  have hring : ∀ r, (d.withBuckets p b).ring r = d.ring r := fun _ => rfl
  have hsize : (d.withBuckets p b).ringSize (excRing p) = d.ringSize (excRing p) := rfl
  have hopen : (d.withBuckets p b).ringOpen (excRing p) = d.ringOpen (excRing p) := rfl
  have hrd : ∀ a, (d.withBuckets p b).rd a = d.rd a := fun _ => rfl
  have hwatch : (d.withBuckets p b).watch = d.watch := rfl
  rw [he]
  clear he h
  generalize d.withBuckets p b = e at hring hsize hopen hrd hwatch
  refine ⟨fun ho => ?_, fun ho => ?_⟩
  · obtain ⟨mk, hx⟩ := exception_open (f := f) (hopen.trans ho)
    obtain ⟨hw, hseq, hidx, hne⟩ := ringEntry_open (hopen.trans ho) mk
    rw [hring] at hseq
    rw [hring, hsize] at hidx
    exact ⟨_, hx, hw.eq, hseq, hidx, fun r hr => (hne r hr).trans (hring r)⟩
  · obtain ⟨hw, hcnt, hrep, hlost⟩ := exception_lost (f := f) (hopen.trans ho)
    rw [hring] at hlost
    exact ⟨_, rfl, hw.eq, hcnt.before (hrd _), hrep.before hwatch, fun a ha hev => (hw.keepsRegs (fun _ h => h) a ha hev).trans (hrd a), hlost⟩

/-- What the classified frames leave. -/
theorem frameRx_classified (h : frameRx p f s.dev = s.dev.frameTaken p f) (hp : s.dev.police p f = (true, d)) :
    (∃ b, d = { s.dev with ports := s.dev.ports.set p { s.dev.port p with buckets := b } }) ∧
    (∀ a, f.body = .arp a → s.dev.hasIp4 p a = true → (s.dev.port p).st = .up → ∃ t, exec (.frameReceived p f) s = .next t ∧
      t = { s with dev := d.send p (.arpReply a (srcNode f)) }) ∧
    ((∃ a, f.body = .arp a ∧ s.dev.hasIp4 p a = true) ∨ (∃ a, f.body = .neighborSol a ∧ s.dev.hasIp6 p a = true) →
      (s.dev.port p).st = .cal → exec (.frameReceived p f) s = .next (s.withDev d)) ∧
    (∀ a, f.body = .neighborSol a → s.dev.hasIp6 p a = true → (s.dev.port p).st = .up →
      ∃ t, exec (.frameReceived p f) s = .next t ∧ t = { s with dev := d.send p (.neighborAdv a (srcNode f)) }) ∧
    (∀ m, f.body = .ptp m → s.dev.pilotsOn = true → s.dev.ptpBad p m = true → ∃ t, exec (.frameReceived p f) s = .next t ∧
      t.pending = s.pending ∧ t.dev = { d with regs := t.dev.regs } ∧ Counts (psrvOff p + 0x58) 0 16 s.dev t.dev ∧
      KeepsRegs [psrvOff p + 0x58] s.dev t.dev) ∧
    (∀ m, f.body = .ptp m → s.dev.pilotsOn = true → s.dev.ptpBad p m = false → m.body = .delayReq →
      s.dev.serverTakes p f m = true → s.dev.serving p = true → ∃ t, exec (.frameReceived p f) s = .next t ∧
      t = { s with dev := d.send p (.delayResp m.domain m.seqId.toNat
        (grTriple (s.dev.portTime p (s.dev.rxPin p f.tPcs f.kBits))) m.sender (decide (m.transport = .ipv6))
        (if f.dst.getLsbD 40 then
          .multicast (if fld (s.dev.psrv p) 26 3 = 4 then some 0x011B19000000 else none) f.tags else srcNode f)) }) ∧
    (∀ m, f.body = .ptp m → s.dev.pilotsOn = true → s.dev.ptpBad p m = false → m.body = .delayReq →
      s.dev.serverTakes p f m = true → s.dev.serving p = false → exec (.frameReceived p f) s = .next (s.withDev d)) ∧
    (s.dev.excepted p f →
      s.dev.ringOpen (excRing p) = true → ∃ t, exec (.frameReceived p f) s = .next t ∧
      t.pending = s.pending ∧ t.dev = { d with bar4 := t.dev.bar4, host := t.dev.host } ∧
      (t.dev.ring (excRing p)).seq = (s.dev.ring (excRing p)).seq + 1 ∧
      (t.dev.ring (excRing p)).devIdx = ((s.dev.ring (excRing p)).devIdx + 1) % s.dev.ringSize (excRing p) ∧
      (∀ r : Fin 26, r ≠ excRing p → t.dev.ring r = s.dev.ring r)) ∧
    (s.dev.excepted p f →
      s.dev.ringOpen (excRing p) = false → ∃ t, exec (.frameReceived p f) s = .next t ∧
      t.pending = s.pending ∧ t.dev = { d with regs := t.dev.regs, host := t.dev.host, watch := t.dev.watch } ∧
      Counts (portOff p + 0xA8) 0 16 s.dev t.dev ∧ Reports 144 p s.dev t.dev ∧
      KeepsRegs [portOff p + 0xA8, ringOff (excRing p) + 0x10] s.dev t.dev ∧
      (t.dev.ring (excRing p)).lost = (s.dev.ring (excRing p)).lost + 1) := by
  obtain ⟨b, rfl⟩ : ∃ b, d = s.dev.withBuckets p b := by
    obtain hq | ⟨b, hq⟩ := police_eq p f s.dev
    · exact Bool.noConfusion (congrArg Prod.fst (hq.symm.trans hp))
    · exact ⟨b, congrArg Prod.snd (hp.symm.trans hq)⟩
  have hx := exec_classify h hp
  have hst := withBuckets_st p b s.dev
  refine ⟨⟨b, rfl⟩, fun a hb hip hup => ?_, fun hq hcal => ?_, fun a hb hip hup => ?_, fun m hb hon hbad => ?_, fun m hb hon hbad hm ht hs => ?_,
    fun m hb hon hbad hm ht hs => ?_, fun hex ho => ?_, fun hex ho => ?_⟩
  · rw [classify_arp (d := s.dev.withBuckets p b) hb hip, hst, hup] at hx
    exact ⟨_, hx, rfl⟩
  · obtain ⟨a, hb, hip⟩ | ⟨a, hb, hip⟩ := hq
    · rw [classify_arp (d := s.dev.withBuckets p b) hb hip, hst, hcal] at hx
      exact hx
    · rw [classify_neighbor (d := s.dev.withBuckets p b) hb hip, hst, hcal] at hx
      exact hx
  · rw [classify_neighbor (d := s.dev.withBuckets p b) hb hip, hst, hup] at hx
    exact ⟨_, hx, rfl⟩
  · obtain ⟨y, hy, h1, h2, h3⟩ := classify_ptpBad_fields hb hon hbad b
    rw [hy] at hx
    exact ⟨_, hx, rfl, h1, h2, h3⟩
  · rw [classify_ptp (d := s.dev.withBuckets p b) hb hon ((withBuckets_ptpBad p b s.dev m).trans hbad), ptpServe_delayReq (d := s.dev.withBuckets p b) hm ht,
      if_pos ((withBuckets_serving p b s.dev).trans hs)] at hx
    exact ⟨_, hx, rfl⟩
  · rw [classify_ptp (d := s.dev.withBuckets p b) hb hon ((withBuckets_ptpBad p b s.dev m).trans hbad), ptpServe_delayReq (d := s.dev.withBuckets p b) hm ht,
      if_neg (by rw [withBuckets_serving, hs]; decide)] at hx
    exact hx
  · obtain ⟨y, hy, h1, h2, h3, h4⟩ := (classify_host hex b).1 ho
    rw [hy] at hx
    exact ⟨_, hx, rfl, h1, h2, h3, h4⟩
  · obtain ⟨y, hy, h1, h2, h3, h4, h5⟩ := (classify_host hex b).2 ho
    rw [hy] at hx
    exact ⟨_, hx, rfl, h1, h2, h3, h4, h5⟩

end

/-- An ESMC PDU is taken whatever its bucket says. -/
theorem frameRx_esmc {x : EsmcPdu} (h : frameRx p f s.dev = s.dev.frameTaken p f) (hb : f.body = .esmc x) (hh : esmcHeader x f.dst = true) :
    ∃ t, exec (.frameReceived p f) s = .next t ∧ t.pending = s.pending ∧
      t.dev = { s.dev with regs := t.dev.regs, ports := t.dev.ports } ∧
      KeepsRegs [portOff p + 0x98, portOff p + 0xAC] s.dev t.dev ∧
      (esmcTlvOk x = true → (t.dev.port p).esmcValid = true ∧ (t.dev.port p).esmcTimeout = false ∧
        ∀ v, esmcTlv x 1 = some v → t.dev.rdF (portOff p + 0x98) 0 4 = (v.value.getD 0 0).toNat % 16) ∧
      (esmcTlvOk x = false → Counts (portOff p + 0xAC) 16 16 s.dev t.dev) := by
  have he : frameEsmc f = true := by
    unfold frameEsmc
    rw [hb]
    exact hh
  have hd : frameRx p f s.dev = (s.dev.police p f).2.esmcTake p x := by
    rw [h, Dev.frameTaken, he, Bool.or_true, if_pos rfl, classify_esmc hb hh]
  have hw : Within (looseScope [.regs, .ports] [portOff p + 0x98, portOff p + 0xAC]) s.dev (s.dev.police p f).2 ∧ ∀ a, (s.dev.police p f).2.rd a = s.dev.rd a := by
    obtain hq | ⟨b, hq⟩ := police_eq p f s.dev
    · rw [hq]
      exact ⟨.refl _ _, fun _ => rfl⟩
    · rw [hq]
      have h0 : Within (looseScope [.regs, .ports] [portOff p + 0x98, portOff p + 0xAC]) s.dev s.dev := .refl _ _
      exact ⟨h0.modPort (n := p) (f := fun _ => { s.dev.port p with buckets := b }), fun _ => rfl⟩
  refine ⟨_, exec_run (x := .frameReceived p f) (f := frameRx p f) rfl hd, rfl, ?_⟩
  generalize (s.dev.police p f).2 = e at hw
  obtain ⟨hw, hrd⟩ := hw
  have hall := hw.trans (esmcTake_within p x e)
  refine ⟨hall.eq, hall.keepsRegs fun _ h => h, fun hok => esmcTake_ok hok e, fun hbad => ?_⟩
  show Counts (portOff p + 0xAC) 16 16 s.dev (e.esmcTake p x)
  rw [esmcTake_bad hbad]
  exact (bump_counts (portOff p + 0xAC) e (by decide)).before (hrd _)

/-- Settles O40: Table 9-3 in its order, and each class by its own lemma. -/
theorem receivedFrames : Obligations.ReceivedFrames := by
  unfold Obligations.ReceivedFrames
  intro p f s
  refine ⟨fun h => exec_run (x := .frameReceived p f) (f := frameRx p f) rfl (frameRx_dark h), fun h => ⟨fun hbad => ?_, fun hf hl => ?_, fun hf h1 h2 => ⟨fun hq => ?_, fun hd hv => ?_⟩⟩⟩
  · exact frameRx_counts (by decide) (frameRx_bad h hbad)
  · exact frameRx_counts (by decide) (frameRx_long h hf hl)
  · exact frameRx_counts (by decide) ((frameRx_fit h hf h1 h2).trans (if_pos (frameAlien_true.mpr hq)))
  · have ht : frameRx p f s.dev = s.dev.frameTaken p f := (frameRx_fit h hf h1 h2).trans (if_neg (by rw [frameAlien_false hd hv]; decide))
    exact ⟨fun hne hp => frameRx_policed ht hne hp, fun d hp => frameRx_classified ht hp, fun x hb hh => frameRx_esmc ht hb hh⟩

end Sys2Proof.Machine
end

section
/-! The Chart store: what a record appended, a commit and the slots of lost ports leave alone (chapters 13 and 14). -/

namespace Sys2Proof.Machine

set_option Elab.async false

variable {S : Scope} {d d₀ d' : Dev} {n : Fin 64}

/-! ### The operations of the store -/

/-- Nothing but the store differs. -/
def storeScope : Scope := looseScope [.chart] []

theorem Within.nvProgram (h : Within S d₀ d) {l : Nat} {bs : List Byte} (hc : S.Has .chart := by trivial) : Within S d₀ (d.nvProgram l bs) :=
  h.onlyIf fun _ h => h.modChart

theorem Within.takeSeq (h : Within S d₀ d) (hc : S.Has .chart := by trivial) : Within S d₀ d.takeSeq.2 :=
  h.modChart (f := fun c => { c with nextSeq := satN 32 (c.nextSeq + 1) })

theorem Within.number (h : Within S d₀ d) {rs : List Rec} (hc : S.Has .chart := by trivial) : Within S d₀ (d.number rs).2 := by
  induction rs generalizing d with
  | nil => exact h
  | cons r rs ih => exact ih h.takeSeq

theorem Within.append (h : Within S d₀ d) {reserve : Bool} {r : Rec} {x : Nat × Dev} (hx : d.append reserve r = some x) (hc : S.Has .chart := by trivial) :
    Within S d₀ x.2 := by
  obtain ⟨l, -, rfl⟩ := Option.map_eq_some_iff.mp hx
  exact h.nvProgram.modChart (f := fun c => { c with appendAt := if (l + r.lines) % 512 = 0 then none else some (l + r.lines) })

theorem Within.appendAll (h : Within S d₀ d) {reserve : Bool} {rs : List Rec} (hc : S.Has .chart := by trivial) :
    Within S d₀ (Dev.appendAll reserve rs d).2.2 := by
  induction rs generalizing d with
  | nil => exact h
  | cons r rs ih =>
    unfold Dev.appendAll
    cases hx : d.append reserve r with
    | some x => exact ih (h.append hx)
    | none => exact h

theorem Within.bufPut (h : Within S d₀ d) {r : Rec} (hc : S.Has .chart := by trivial) : Within S d₀ (d.bufPut r) :=
  h.takeSeq.modChart (f := fun c => { c with timerOn := c.timerOn || c.buf.isEmpty, buf := c.buf ++ [{ r with seq := d.takeSeq.1 }] })

/-- A device of which only the store differs. -/
theorem Within.store (h : Within storeScope d d') : d' = { d with chart := d'.chart } := h.eq

/-! ### A commit -/

/-- The store once the commit in progress has been written. -/
def Chart.written (hard : Bool) (c : Chart) : Chart :=
  { c with buf := [], commit := none, extended := false, timerOn := false, rewrite := if hard then c.rewrite else [] }

/-- The commit in progress is written; its command does not hear of it yet. -/
def Dev.commitWrite (d : Dev) : Dev :=
  (((Dev.appendAll d.commitHard d.commitRecs.1 d.commitRecs.2).2.2.modChart (Chart.written d.commitHard)).bump 0x040020 16 16)

/-- The commit in progress is given up: the store is unusable. -/
def Dev.commitDrop (d : Dev) : Dev := d.modChart fun c => { c with commit := none, extended := false }

theorem commitFinish_none (h : d.chart.commit = none) : d.commitFinish = d := by rw [Dev.commitFinish, h]

/-- A commit that waits for the scan, or for a command that holds the store, stays. -/
theorem commitFinish_waits (h : d.unscanned = true ∨ d.lineHeld = true ∧ d.commitHard = false) : d.commitFinish = d := by
  unfold Dev.commitFinish
  cases d.chart.commit with
  | none => rfl
  | some k =>
    refine if_pos ?_
    obtain h | ⟨h, h'⟩ := h
    · rw [h]; rfl
    · rw [h, h', Bool.not_false, Bool.and_true, Bool.or_true]

section
variable {k : CommitKind} (hk : d.chart.commit = some k) (hu : d.unscanned = false)
include hk hu

theorem commitFinish_drops (hf : d.chart.scanFault = true) (hh : d.lineHeld = false ∨ d.commitHard = true) : d.commitFinish = d.commitDrop.commitEnd k 0 := by
  have hw : ¬ (d.unscanned || (d.lineHeld && !d.commitHard)) = true := by
    obtain h | h := hh <;> simp [hu, h]
  rw [Dev.commitFinish, hk]
  exact (if_neg hw).trans (if_pos hf)

theorem commitFinish_writes (hf : d.chart.scanFault = false) (hh : d.commitPlan.2 = true ∧ d.lineHeld = false ∨ d.commitHard = true) :
    d.commitFinish = d.commitWrite.commitEnd k (bufBytes d.bufKept) := by
  have hw : ¬ (d.unscanned || (d.lineHeld && !d.commitHard)) = true := by
    obtain ⟨-, h⟩ | h := hh <;> simp [hu, h]
  have hfit : ((Dev.appendAll d.commitHard d.commitRecs.1 d.commitRecs.2).2.1 || d.commitHard) = true := by
    obtain ⟨h, -⟩ | h := hh
    · have h : (Dev.appendAll d.commitHard d.commitRecs.1 d.commitRecs.2).2.1 = true := h
      rw [h]; rfl
    · rw [h, Bool.or_true]
  rw [Dev.commitFinish, hk]
  exact (if_neg hw).trans ((if_neg (by rw [hf]; decide)).trans (if_pos hfit))

end

/-- What a written commit leaves: of the store the emptied buffer, and its count. -/
theorem commitWrite_fields (d : Dev) : ∃ e, d.commitWrite = e ∧ e = { d with regs := e.regs, chart := e.chart } ∧ e.chart.buf = [] ∧ e.chart.commit = none ∧
    e.chart.extended = false ∧ e.chart.timerOn = false ∧ Counts 0x040020 16 16 d e ∧ KeepsRegs [0x040020] d e := by
  have h0 : Within storeScope d d.commitRecs.2 := (Within.refl _ d).number
  have h1 : Within storeScope d (Dev.appendAll d.commitHard d.commitRecs.1 d.commitRecs.2).2.2 := h0.appendAll
  unfold Dev.commitWrite
  generalize (Dev.appendAll d.commitHard d.commitRecs.1 d.commitRecs.2).2.2 = u at h1
  have hu := h1.store
  have hr : u.regs = d.regs := (congrArg Dev.regs hu).trans rfl
  have hb : Within (looseScope [.chart, .regs] [0x040020]) u ((u.modChart (Chart.written d.commitHard)).bump 0x040020 16 16) :=
    (Within.modChart (.refl _ u)).bump (.head _)
  refine ⟨_, rfl, ?_, rfl, rfl, rfl, rfl, (bump_counts 0x040020 _ (by decide)).before (rd_of_regs hr _), fun a ha he => ?_⟩
  · rw [hu]; rfl
  · exact (hb.regs a ha he).trans (rd_of_regs hr a)

theorem commitDrop_fields (d : Dev) : ∃ e, d.commitDrop = e ∧ e.chart.commit = none ∧ e.chart.flash = d.chart.flash ∧ e.pwr = d.pwr := ⟨_, rfl, rfl, rfl, rfl⟩

/-- The end of a commit tells its command, and changes of the store at most what the buffer takes. -/
theorem commitEnd_fields (k : CommitKind) (n : Nat) (d : Dev) : ∃ e, d.commitEnd k n = e ∧ e.chart.commit = d.chart.commit ∧ e.chart.flash = d.chart.flash ∧
    e.pwr = d.pwr := by
  cases k with
  | command src p =>
    have h := complete_within src p (.ok n) d
    exact ⟨_, rfl, congrArg Chart.commit h.chart, congrArg Chart.flash h.chart, h.pwr⟩
  | full src p r =>
    have h := complete_within src p (.ok r.val.length) (d.bufPut r)
    exact ⟨_, rfl, (congrArg Chart.commit h.chart).trans rfl, (congrArg Chart.flash h.chart).trans rfl, h.pwr⟩
  | timer => exact ⟨_, rfl, rfl, rfl, rfl⟩
  | powerFail => exact ⟨_, rfl, rfl, rfl, rfl⟩
  | anchor => exact ⟨_, rfl, rfl, rfl, rfl⟩

/-! ### The slots of lost ports -/

theorem asideTide_runs : asideTide.Runs := ⟨fun _ _ => trivial, ⟨⟨rfl, rfl, rfl⟩, rfl⟩, rfl, rfl, rfl, rfl, rfl⟩

theorem asideTide_completes : asideTide.Completes := ⟨⟨rfl, rfl, rfl⟩, rfl, rfl⟩

/-- The loss of a slot other than that of the cascade leaves the cascade alone. -/
theorem slotDown_aside (hn : n ≠ 60) (row : Nat) (d : Dev) : Within asideTide d (d.slotDown n row) := by
  have hR := asideTide_runs
  have h1 : Within asideTide d (d.slotOff n row) := (Within.refl _ d).slotClear.modAct
  by_cases hup : (d.buoy n).act.st = .up
  · rw [slotDown_up hup]
    generalize d.slotOff n row = u at h1
    unfold Dev.slotLost
    extract_lets v
    have h2 : Within asideTide d v := .ite (fun _ => h1.bump.occur) fun _ => h1
    rw [onlyIf, if_neg (by simpa using hn)]
    exact ((h2.stateEv.signalLoss hR).qualDown trivial).autopilotFor hR
  · rw [slotDown_quiet hup]
    exact h1

theorem slotLoss_aside (hn : n ≠ 60) (d : Dev) : Within asideTide d (slotLoss n d) := by
  unfold slotLoss
  cases (d.buoy n).act.st with
  | up => exact slotDown_aside hn 2 d
  | returning => exact slotDown_aside hn 4 d
  | down => exact (Within.refl _ d).modDec

theorem syncSlot_ne (p : Fin 8) : syncSlot p ≠ 60 := fun h => by
  have h := congrArg Fin.val h
  simp only [syncSlot] at h
  omega

theorem portLoss_aside (p : Fin 8) (d : Dev) : Within asideTide d (d.portLoss p) := by
  have hE := asideTide_runs.events
  refine .ite (fun _ => ?_) fun _ => .refl _ d
  rw [portLeave_eq]
  have h1 : Within asideTide d (d.portTo p .down 4) := (Within.refl _ d).portTo (hE := hE)
  generalize d.portTo p .down 4 = u at h1
  unfold Dev.portLeft
  extract_lets v
  have h2 : Within asideTide d v := .ite (fun _ => h1.trans (slotLoss_aside (syncSlot_ne p) u)) fun _ => h1
  exact (Within.ite (fun _ => (h2.portEmptied trivial (hS := asideTide_completes)).clientsDown (hE := hE)) fun _ => h2).setCond

theorem shedRun_tide (d : Dev) : d.shedRun.tide = d.tide := by
  have h1 : Within asideTide d d.portsLost := (Within.refl _ d).forFin fun p e h => h.trans (portLoss_aside p e)
  exact ((h1.lanternsXo rfl asideTide_runs.events rfl rfl).oppKick rfl rfl asideTide_completes).tide

end Sys2Proof.Machine
end

section
/-! Power failure: the trigger, the commit that leads to HELD, and the way back (chapter 13, R355 to R358). -/

namespace Sys2Proof.Machine

set_option Elab.async false

variable {d d' : Dev} {s : State}

/-! ### The trigger -/

/-- The inputs of the power manager with one more that has asserted. -/
def Dev.pfSeen (mon : Bool) (d : Dev) : Dev := d.modPwr fun p => { p with pwrfail := p.pwrfail || !mon, vddMon := p.vddMon || mon }

/-- A trigger sheds: its failure is counted and reported. -/
def Dev.pfSheds (d : Dev) : Dev := (((d.modPwr fun p => { p with pf := .shedding }).bump 0x020010 16 16).occur 13 0).shedLoads false

theorem pwrfailTrigger_sheds {mon : Bool} (h : d.clk.sup ≠ .hold) (hp : d.pwr.pf = .normal ∨ d.pwr.pf = .resuming) :
    pwrfailTrigger mon d = (d.pfSeen mon).pfSheds :=
  (if_neg h).trans (if_pos (show (decide (d.pwr.pf = .normal) || decide (d.pwr.pf = .resuming)) = true by simpa using hp))

theorem pwrfailTrigger_seen {mon : Bool} (h : d.clk.sup ≠ .hold) (hp : d.pwr.pf = .shedding ∨ d.pwr.pf = .held) : pwrfailTrigger mon d = d.pfSeen mon := by
  refine (if_neg h).trans (if_neg (show ¬ (decide (d.pwr.pf = .normal) || decide (d.pwr.pf = .resuming)) = true from ?_))
  obtain h | h := hp <;> rw [h] <;> decide

/-- What shedding leaves of power, and which parts it leaves alone. -/
theorem shedLoads_keeps (anchor : Bool) (d : Dev) : ∃ t, d.shedLoads anchor = t ∧ t.pwr.pwrfail = d.pwr.pwrfail ∧ t.pwr.vddMon = d.pwr.vddMon ∧
    t.tide = d.tide ∧ t.otp = d.otp ∧ t.fw = d.fw := by
  have h1 := shedRun_within d
  have hk := shedRun_keeps d
  have ht := shedRun_tide d
  rw [shedLoads_eq]
  generalize d.shedRun = e at h1 hk ht
  have h2 := chartPowerFail_within anchor e
  refine ⟨_, rfl, ?_, ?_, h2.tide.trans ht, h2.otp.trans h1.otp, h2.fw.trans h1.fw⟩
  · rw [h2.pwr]
    exact (congrArg Pwr.pwrfail hk).trans rfl
  · rw [h2.pwr]
    exact (congrArg Pwr.vddMon hk).trans rfl

theorem pfSheds_fields (d : Dev) : ∃ t, d.pfSheds = t ∧ t.pwr.pf = .shedding ∧ t.pwr.pwrfail = d.pwr.pwrfail ∧ t.pwr.vddMon = d.pwr.vddMon ∧
    t.chart.commit.isSome = true ∧ t.clk = d.clk ∧ t.ts = d.ts ∧ t.tide = d.tide ∧ t.otp = d.otp ∧ t.fw = d.fw := by
  have h : ∃ e, ((d.modPwr fun p => { p with pf := .shedding }).bump 0x020010 16 16).occur 13 0 = e ∧ e.pwr = { d.pwr with pf := .shedding } ∧
      e.clk = d.clk ∧ e.ts = d.ts ∧ e.tide = d.tide ∧ e.otp = d.otp ∧ e.fw = d.fw := ⟨_, rfl, rfl, rfl, rfl, rfl, rfl, rfl⟩
  obtain ⟨e, he, hp, hclk, hts, htide, hotp, hfw⟩ := h
  unfold Dev.pfSheds
  rw [he]
  obtain ⟨t, ht, hpf, -, hc, -, -, tclk, tts⟩ := shedLoads_fields false e
  obtain ⟨u, hu, hfail, hmon, utide, uotp, ufw⟩ := shedLoads_keeps false e
  obtain rfl : u = t := hu.symm.trans ht
  rw [hp] at hpf hfail hmon
  exact ⟨u, ht, hpf, hfail, hmon, hc, tclk.trans hclk, tts.trans hts, utide.trans htide, uotp.trans hotp, ufw.trans hfw⟩

theorem pwrfailTrigger_state (mon : Bool) (h : s.dev.clk.sup ≠ .hold) (hp : s.dev.pwr.pf = .normal ∨ s.dev.pwr.pf = .resuming) : ∃ t,
    exec (.pwrfailTrigger mon) s = .next t ∧ t.pending = s.pending ∧ t.dev.pwr.pf = .shedding ∧
    (mon = true → t.dev.pwr.vddMon = true) ∧ (mon = false → t.dev.pwr.pwrfail = true) ∧ t.dev.chart.commit.isSome = true ∧
    t.dev.clk = s.dev.clk ∧ t.dev.ts = s.dev.ts ∧ t.dev.tide = s.dev.tide ∧ t.dev.otp = s.dev.otp ∧ t.dev.fw = s.dev.fw := by
  obtain ⟨e, he, hpf, hfail, hmon, hc, hrest⟩ := pfSheds_fields (s.dev.pfSeen mon)
  refine ⟨_, exec_run (f := pwrfailTrigger mon) rfl ((pwrfailTrigger_sheds h hp).trans he), rfl, hpf, fun hm => ?_, fun hm => ?_, hc, hrest⟩
  · exact hmon.trans (by rw [hm]; exact Bool.or_true _)
  · exact hfail.trans (by rw [hm]; exact Bool.or_true _)

/-! ### The way back -/

/-- The shed blocks power up; the snapshot is discarded. -/
def Pwr.resumed (p : Pwr) : Pwr :=
  { p with pf := .resuming, pwrfail := false, vddMon := false, snapshot := none, snapWait := p.anchorCmd.isSome && p.snapWait }

theorem pfResume_held (h : d.pwr.pf = .held) : pfResume d = (d.modPwr Pwr.resumed).lanternsXo := if_pos h

theorem pfResume_state (h : s.dev.pwr.pf = .held) : ∃ t, exec .pfResumeExpiry s = .next t ∧ t.pending = s.pending ∧ t.dev.pwr.pf = .resuming ∧
    t.dev.pwr.snapshot = none ∧ t.dev.pwr.pwrfail = false ∧ t.dev.pwr.vddMon = false ∧ t.dev.chart = s.dev.chart := by
  have hp : (s.dev.modPwr Pwr.resumed).pwr = s.dev.pwr.resumed := rfl
  have hc : (s.dev.modPwr Pwr.resumed).chart = s.dev.chart := rfl
  have hx : exec .pfResumeExpiry s = .next { s with dev := (s.dev.modPwr Pwr.resumed).lanternsXo } := exec_run (f := pfResume) rfl (pfResume_held h)
  generalize s.dev.modPwr Pwr.resumed = e at hp hc hx
  have hw : Within (partScope [.regs, .bar4, .host, .keeper, .lans, .outs, .vouts]) e e.lanternsXo :=
    (Within.refl _ e).lanternsXo rfl ⟨⟨rfl, rfl, rfl⟩, rfl⟩ rfl rfl
  have hq : e.lanternsXo.pwr = s.dev.pwr.resumed := hw.pwr.trans hp
  have hk : e.lanternsXo.chart = s.dev.chart := hw.chart.trans hc
  generalize e.lanternsXo = u at hx hq hk
  exact ⟨_, hx, rfl, congrArg Pwr.pf hq, congrArg Pwr.snapshot hq, congrArg Pwr.pwrfail hq, congrArg Pwr.vddMon hq, hk⟩

/-- The power manager is NORMAL again. -/
def Pwr.normal (p : Pwr) : Pwr := { p with pf := .normal }

theorem pfResumed_back (h : d.pwr.pf = .resuming) : pfResumed d = ((d.modPwr Pwr.normal).loadRefresh).oppKick := if_pos h

theorem pfResumed_state (h : s.dev.pwr.pf = .resuming) : ∃ t, exec .pfResumed s = .next t ∧ t.pending = s.pending ∧ t.dev.pwr.pf = .normal ∧
    t.dev.chart = s.dev.chart ∧ t.dev.lans = s.dev.lans := by
  have hl := loadRefresh_eq (s.dev.modPwr Pwr.normal)
  have hx : exec .pfResumed s = .next { s with dev := (s.dev.modPwr Pwr.normal).loadRefresh.oppKick } := exec_run (f := pfResumed) rfl (pfResumed_back h)
  generalize (s.dev.modPwr Pwr.normal).loadRefresh = e at hl hx
  have hp : e.pwr = s.dev.pwr.normal := (congrArg Dev.pwr hl).trans rfl
  have hc : e.chart = s.dev.chart := (congrArg Dev.chart hl).trans rfl
  have hn : e.lans = s.dev.lans := (congrArg Dev.lans hl).trans rfl
  have hw : Within (partScope [.regs, .bar4, .host, .keeper, .watch, .pwr]) e e.oppKick := (Within.refl _ e).oppKick rfl rfl ⟨⟨rfl, rfl, rfl⟩, rfl, rfl⟩
  have hk := oppKick_keeps e
  exact ⟨_, hx, rfl, ((congrArg Pwr.pf hk).trans rfl).trans (congrArg Pwr.pf hp), hw.chart.trans hc, hw.lans.trans hn⟩

/-! ### The commit of a power failure -/

/-- What a written hard commit leads to: HELD, and the snapshot of ANCHOR_ENTER or of the automatic entry. -/
def Dev.hardDone (d : Dev) : Dev :=
  let d := if d.pwr.pf = .shedding then
      d.modPwr fun p => { p with pf := .held, snapWait := p.snapWait || bit (d.rd 0x020020) 31 && p.vbakOk } else d
  if d.pwr.anchorCmd.isSome then d.modPwr fun p => { p with snapWait := true } else d

theorem hardDone_fields (d : Dev) : ∃ e, d.hardDone = e ∧ e = { d with pwr := e.pwr } ∧ (d.pwr.pf = .shedding → e.pwr.pf = .held) ∧
    (d.pwr.anchorCmd.isSome = true → e.pwr.snapWait = true) := by
  unfold Dev.hardDone
  extract_lets u
  have hu : u = { d with pwr := u.pwr } ∧ (d.pwr.pf = .shedding → u.pwr.pf = .held) ∧ u.pwr.anchorCmd = d.pwr.anchorCmd := by
    by_cases h : d.pwr.pf = .shedding
    · have he : u = _ := if_pos h
      rw [he]
      exact ⟨rfl, fun _ => rfl, rfl⟩
    · have he : u = d := if_neg h
      rw [he]
      exact ⟨rfl, fun h' => absurd h' h, rfl⟩
  obtain ⟨hf, hpf, hac⟩ := hu
  clear_value u
  by_cases h : u.pwr.anchorCmd.isSome = true
  · refine ⟨_, if_pos h, ?_, hpf, fun _ => rfl⟩
    show ({ u with pwr := _ } : Dev) = _
    rw [hf]
    rfl
  · exact ⟨u, if_neg h, hf, hpf, fun h' => absurd (hac ▸ h') h⟩

theorem commitDone_eq (d : Dev) : commitDone d = if (d.chart.commit.isSome && d.commitHard) && d.commitFinish.chart.commit.isNone then d.commitFinish.hardDone
    else d.commitFinish := rfl

/-- The end of a commit that has been written or given up. -/
theorem commitDone_fields {k : CommitKind} (hk : d.chart.commit = some k) (hn : d.commitFinish.chart.commit = none) : ∃ e, commitDone d = e ∧
    e = { d.commitFinish with pwr := e.pwr } ∧ (d.commitHard = false → e.pwr = d.commitFinish.pwr) ∧
    (d.commitHard = true → d.commitFinish.pwr.pf = .shedding → e.pwr.pf = .held) ∧
    (d.commitHard = true → d.commitFinish.pwr.anchorCmd.isSome = true → e.pwr.snapWait = true) := by
  have hs : d.chart.commit.isSome = true := by rw [hk]; rfl
  have hi : d.commitFinish.chart.commit.isNone = true := by rw [hn]; rfl
  rw [commitDone_eq, hs, hi]
  generalize d.commitFinish = u
  cases d.commitHard with
  | false => exact ⟨u, rfl, rfl, fun _ => rfl, fun h => Bool.noConfusion h, fun h => Bool.noConfusion h⟩
  | true =>
    obtain ⟨e, he, hf, hpf, hac⟩ := hardDone_fields u
    exact ⟨e, he, hf, fun h => Bool.noConfusion h, fun _ => hpf, fun _ => hac⟩

/-- The outcome of a commit to the device, by its kind: the timer's, a power failure's and an Anchor entry's have no command. -/
theorem commitEnd_silent {k : CommitKind} (h : k = .timer ∨ k = .powerFail ∨ k = .anchor) (n : Nat) (d : Dev) : d.commitEnd k n = d := by
  obtain rfl | rfl | rfl := h <;> rfl

/-- A commit that is written, its end told. -/
theorem commitWritten_fields {k : CommitKind} (hk : d.chart.commit = some k) (hu : d.unscanned = false) (hf : d.chart.scanFault = false)
    (hh : d.commitPlan.2 = true ∧ d.lineHeld = false ∨ d.commitHard = true) : ∃ t, d.commitFinish = t ∧ t.pwr = d.pwr ∧
      t.chart.commit = none ∧ t.chart.extended = false ∧ Counts 0x040020 16 16 d t ∧
      ((k = .timer ∨ k = .powerFail ∨ k = .anchor) → t.chart.buf = [] ∧ t.chart.timerOn = false ∧
        t = { d with regs := t.regs, chart := t.chart } ∧ KeepsRegs [0x040020] d t) ∧
      (∀ src p, k = .command src p → t.chart.buf = [] ∧ t.chart.timerOn = false ∧ ∃ e : Dev,
        e = { d with regs := e.regs, chart := t.chart } ∧ t = e.complete src p (.ok (bufBytes d.bufKept))) ∧
      (∀ src p r, k = .full src p r → t.chart.timerOn = true ∧ (∃ n, t.chart.buf = [{ r with seq := n }]) ∧ ∃ e : Dev,
        e = { d with regs := e.regs, chart := t.chart } ∧ t = e.complete src p (.ok r.val.length)) := by
  rw [commitFinish_writes hk hu hf hh]
  obtain ⟨e, he, hef, hbuf, hcom, hext, htim, hcnt, hregs⟩ := commitWrite_fields d
  rw [he]
  have hp : e.pwr = d.pwr := (congrArg Dev.pwr hef).trans rfl
  generalize bufBytes d.bufKept = n
  cases k with
  | command src p =>
    have hc := complete_within src p (.ok n) e
    have hend : e.commitEnd (.command src p) n = e.complete src p (.ok n) := rfl
    rw [hend]
    refine ⟨_, rfl, hc.pwr.trans hp, (congrArg Chart.commit hc.chart).trans hcom, (congrArg Chart.extended hc.chart).trans hext,
      hcnt.after (hc.completionBelow (by decide)), fun h => ?_, fun src' p' h => ?_, fun _ _ _ h => CommitKind.noConfusion h⟩
    · obtain h | h | h := h <;> cases h
    · cases h
      exact ⟨(congrArg Chart.buf hc.chart).trans hbuf, (congrArg Chart.timerOn hc.chart).trans htim, e, by rw [hc.chart]; exact hef, rfl⟩
  | full src p r =>
    have hb : Within storeScope e (e.bufPut r) := (Within.refl _ e).bufPut
    have hbp := hb.store
    have hput : (e.bufPut r).chart = { e.chart with nextSeq := satN 32 (e.chart.nextSeq + 1), timerOn := e.chart.timerOn || e.chart.buf.isEmpty,
                                                    buf := e.chart.buf ++ [{ r with seq := e.chart.nextSeq }] } := rfl
    have hreg : ∀ a, (e.bufPut r).rd a = e.rd a := fun a => rfl
    have hend : e.commitEnd (.full src p r) n = (e.bufPut r).complete src p (.ok r.val.length) := rfl
    rw [hend]
    rw [hbuf, htim] at hput
    generalize e.bufPut r = u at hb hbp hput hreg
    have hc := complete_within src p (.ok r.val.length) u
    have hchart := hc.chart
    refine ⟨_, rfl, hc.pwr.trans (hb.pwr.trans hp), ?_, ?_, (hcnt.after (hreg _)).after (hc.completionBelow (by decide)), fun h => ?_,
      fun _ _ h => CommitKind.noConfusion h, fun src' p' r' h => ?_⟩
    · rw [hchart, hput]
      exact hcom
    · rw [hchart, hput]
      exact hext
    · obtain h | h | h := h <;> cases h
    · cases h
      rw [hchart]
      refine ⟨by rw [hput]; rfl, ⟨e.chart.nextSeq, by rw [hput, List.nil_append]⟩, u, ?_, rfl⟩
      rw [hbp, hef]
  | timer => exact ⟨e, rfl, hp, hcom, hext, hcnt, fun _ => ⟨hbuf, htim, hef, hregs⟩, fun _ _ h => CommitKind.noConfusion h, fun _ _ _ h => CommitKind.noConfusion h⟩
  | powerFail => exact ⟨e, rfl, hp, hcom, hext, hcnt, fun _ => ⟨hbuf, htim, hef, hregs⟩, fun _ _ h => CommitKind.noConfusion h, fun _ _ _ h => CommitKind.noConfusion h⟩
  | anchor => exact ⟨e, rfl, hp, hcom, hext, hcnt, fun _ => ⟨hbuf, htim, hef, hregs⟩, fun _ _ h => CommitKind.noConfusion h, fun _ _ _ h => CommitKind.noConfusion h⟩

theorem commitDone_state (k : CommitKind) (hk : s.dev.chart.commit = some k) (hu : s.dev.unscanned = false) (hf : s.dev.chart.scanFault = false)
    (hh : s.dev.commitPlan.2 = true ∧ s.dev.lineHeld = false ∨ s.dev.commitHard = true) : ∃ t, exec .commitDone s = .next t ∧ t.pending = s.pending ∧
      t.dev.chart.commit = none ∧ t.dev.chart.extended = false ∧ Counts 0x040020 16 16 s.dev t.dev ∧
      ((k = .timer ∨ k = .powerFail ∨ k = .anchor) → t.dev.chart.buf = [] ∧ t.dev.chart.timerOn = false ∧
        t.dev = { s.dev with regs := t.dev.regs, chart := t.dev.chart, pwr := t.dev.pwr } ∧ KeepsRegs [0x040020] s.dev t.dev) ∧
      (∀ src p, k = .command src p → t.dev.chart.buf = [] ∧ t.dev.chart.timerOn = false ∧ ∃ d : Dev,
        d = { s.dev with regs := d.regs, chart := t.dev.chart } ∧
        t.dev = { d.complete src p (.ok (bufBytes s.dev.bufKept)) with pwr := t.dev.pwr }) ∧
      (∀ src p e, k = .full src p e → t.dev.chart.timerOn = true ∧ (∃ n, t.dev.chart.buf = [{ e with seq := n }]) ∧ ∃ d : Dev,
        d = { s.dev with regs := d.regs, chart := t.dev.chart } ∧
        t.dev = { d.complete src p (.ok e.val.length) with pwr := t.dev.pwr }) ∧
      (s.dev.commitHard = false → t.dev.pwr = s.dev.pwr) ∧
      (s.dev.commitHard = true → s.dev.pwr.pf = .shedding → t.dev.pwr.pf = .held) ∧
      (s.dev.commitHard = true → s.dev.pwr.anchorCmd.isSome = true → t.dev.pwr.snapWait = true) := by
  obtain ⟨u, hfin, hpwr, hcom, hext, hcnt, hsil, hcmd, hful⟩ := commitWritten_fields hk hu hf hh
  obtain ⟨e, he, hef, hsoft, hheld, hsnap⟩ := commitDone_fields hk (by rw [hfin]; exact hcom)
  rw [hfin] at hef hsoft hheld hsnap
  rw [hpwr] at hsoft hheld hsnap
  have hchart : e.chart = u.chart := (congrArg Dev.chart hef).trans rfl
  have hreg : e.regs = u.regs := (congrArg Dev.regs hef).trans rfl
  refine ⟨_, exec_run (f := commitDone) rfl he, rfl, ?_, ?_, hcnt.after (rd_of_regs hreg _), fun h => ?_, fun src p h => ?_, fun src p r h => ?_, hsoft, hheld, hsnap⟩
  · exact (congrArg Chart.commit hchart).trans hcom
  · exact (congrArg Chart.extended hchart).trans hext
  · obtain ⟨hb, ht, hd, hr⟩ := hsil h
    refine ⟨(congrArg Chart.buf hchart).trans hb, (congrArg Chart.timerOn hchart).trans ht, ?_, fun a ha hev => (rd_of_regs hreg a).trans (hr a ha hev)⟩
    show e = _
    rw [hreg, hchart]
    rw [hd] at hef
    exact hef
  · obtain ⟨hb, ht, d, hd, hc⟩ := hcmd src p h
    exact ⟨(congrArg Chart.buf hchart).trans hb, (congrArg Chart.timerOn hchart).trans ht, d, by rw [hchart]; exact hd, by rw [← hc]; exact hef⟩
  · obtain ⟨ht, ⟨n, hb⟩, d, hd, hc⟩ := hful src p r h
    exact ⟨(congrArg Chart.timerOn hchart).trans ht, ⟨n, (congrArg Chart.buf hchart).trans hb⟩, d, by rw [hchart]; exact hd, by rw [← hc]; exact hef⟩

theorem commitFault_state (k : CommitKind) (hk : s.dev.chart.commit = some k) (hs : s.dev.chart.scanning = false) (hf : s.dev.chart.scanFault = true)
    (hh : s.dev.lineHeld = false ∨ s.dev.commitHard = true) : ∃ t,
      exec .commitDone s = .next t ∧ t.pending = s.pending ∧ t.dev.chart.commit = none ∧ t.dev.chart.flash = s.dev.chart.flash ∧
      (s.dev.commitHard = true → s.dev.pwr.pf = .shedding → t.dev.pwr.pf = .held) := by
  have hu : s.dev.unscanned = false := by simp [Dev.unscanned, hs, hf]
  obtain ⟨v, hv, hvc, hvf, hvp⟩ := commitDrop_fields s.dev
  obtain ⟨u, hue, huc, huf, hup⟩ := commitEnd_fields k 0 v
  have hfin : s.dev.commitFinish = u := by rw [commitFinish_drops hk hu hf hh, hv, hue]
  obtain ⟨e, he, hef, -, hheld, -⟩ := commitDone_fields hk (by rw [hfin, huc]; exact hvc)
  rw [hfin] at hef hheld
  rw [hup, hvp] at hheld
  have hchart : e.chart = u.chart := (congrArg Dev.chart hef).trans rfl
  exact ⟨_, exec_run (f := commitDone) rfl he, rfl, by rw [hchart, huc]; exact hvc, by rw [hchart, huf, hvf], hheld⟩

theorem commitDone_waits (hl : s.dev.lineHeld = true) (hh : s.dev.commitHard = false) : exec .commitDone s = .next s := by
  refine exec_run (f := commitDone) rfl ?_
  rw [commitDone_eq, commitFinish_waits (.inr ⟨hl, hh⟩), hh, Bool.and_false, Bool.false_and]
  exact if_neg Bool.false_ne_true

/-- Settles O14: the trigger sheds, the written commit leads to HELD, and the resume back to NORMAL. -/
theorem powerFailure : Obligations.PowerFailure := fun _ =>
  ⟨fun mon h hp => pwrfailTrigger_state mon h hp, fun mon h hp => exec_run (f := pwrfailTrigger mon) rfl (pwrfailTrigger_seen h hp), pfResume_state,
    pfResumed_state, commitDone_state, fun hl hh _ => commitDone_waits hl hh, commitFault_state⟩

end Sys2Proof.Machine
end
